-- ==== Sys2Proof/Word.lean ====
section
/-! DEFINITION. The machine words of the module and their plainest arithmetic.
Registers are 32 bits wide and little-endian (R7); a frame or record is a list of bytes. -/

namespace Sys2Proof

/-- A register or data-memory word (R7, R52, R53). -/
abbrev Word := BitVec 32
/-- One byte of a frame, a record or the configuration flash. -/
abbrev Byte := BitVec 8

/-- The four bytes of a word, least significant byte first (R7, R90). -/
def Word.bytes (w : Word) : List Byte :=
  [w.extractLsb' 0 8, w.extractLsb' 8 8, w.extractLsb' 16 8, w.extractLsb' 24 8]

/-- The word of four little-endian bytes; a missing byte counts as 0. -/
def Word.ofBytes (bs : List Byte) : Word :=
  (bs.getD 3 0 ++ bs.getD 2 0 ++ bs.getD 1 0 ++ bs.getD 0 0 : BitVec 32)

/-- One bit as a word: 1 for true, 0 for false (R64). -/
def Word.ofBool (b : Bool) : Word := if b then 1 else 0

/-- `b` placed at bit `n` of a word. -/
def Word.flag (b : Bool) (n : Nat) : Word := if b then (1#32) <<< n else 0

/-- The low bits of `v` placed at bit `n` of a word. -/
def Word.field (v n : Nat) : Word := (BitVec.ofNat 32 v) <<< n

/-- A counter of `w` bits that stays at its top value. -/
def satAdd (top v k : Nat) : Nat := if v + k > top then top else v + k

end Sys2Proof
end

