-- ==== Sys2Proof/Syntax.lean ====
section
/-! DEFINITION. The commands of the module, one constructor of `Instr` per row of spec/opcode_table.json, and the
operand types they carry. A command's operands are what the row's rule takes from outside: the fields of a request or
a frame, a measured quantity, or the channel, slot or port the event names. The table gives no operand columns; the
operands are the model's reading of the rules (log 1). -/

namespace Sys2Proof

/-- Nib A or Nib B (R52). -/
inductive Lane | a | b
  deriving DecidableEq, Repr, Inhabited

/-- The fields D, A and B of a block-code word (R56), and the lane that executes it. -/
structure Blk where
  l : Lane
  d : BitVec 6
  a : BitVec 6
  b : BitVec 12
  deriving DecidableEq, Repr

/-- How a datagram came in on the plant network (R323): the port, its sender, the sequence number and the LAN of its redundancy
control trailer, which a singly attached sender leaves out, and whether its FCS is wrong. -/
structure PrpRx where
  port : Fin 2 := 0
  node : Word := 0
  trailer : Option (BitVec 16 × Fin 2) := none
  fcsBad : Bool := false
  deriving DecidableEq, Repr, Inhabited

/-- A message of the station protocol (R327). Its LEN is the length of `body`, and `tag` the bytes after the body; TARGET 0xFF is the
receiving module. `rx` says how the datagram of a message received came in. -/
structure Req where
  sess : Word
  seq : Word
  ver : Byte := 1
  typ : Byte := 0
  target : BitVec 8 := 0xFF
  level : Byte := 0
  service : BitVec 16 := 0x0010
  body : List Byte := []
  tag : List Byte := []
  rx : PrpRx := {}
  deriving DecidableEq, Repr, Inhabited

/-- A message without a session, and the address it came from; the limited broadcast reaches every module (R327, R328). -/
structure Unsess where
  ip : Word
  msg : Req
  broadcast : Bool := false
  deriving DecidableEq, Repr, Inhabited

/-- OPEN or AUTH on the optical port: the message, and the nonce or the proof in its body (R329, R380). -/
structure Verif where
  msg : Req
  data : List Byte
  deriving DecidableEq, Repr, Inhabited

/-- A path that reaches a window register: a lane's OBJWR carried out at TO, or a station protocol session (R354, R365). -/
inductive Path
  | lane (l : Lane)
  | sess (r : Req)
  deriving DecidableEq, Repr

/-- The two trim points of a current-loop output (R189). -/
inductive TrimPoint | zero | span
  deriving DecidableEq, Repr, Inhabited

/-- The three trim inputs of the carrier (R192). -/
inductive TrimPin | up | dn | set
  deriving DecidableEq, Repr

/-- A change of the filtered level of a trim input: whether TRIM_UP_N or TRIM_DN_N is low now, whether the other one is, and
whether TRIM_SET_N is (R192, R202). -/
structure TrimPress where
  low : Bool
  otherLow : Bool
  setLow : Bool := false
  deriving DecidableEq, Repr

/-- A trim input that has been low for more than 10 s, or, `freed`, high for 100 ms (R194). -/
structure TrimHeld where
  pin : TrimPin
  freed : Bool
  deriving DecidableEq, Repr

/-- The three writable trace registers (R144). -/
inductive TraceReg | cfg | trig | level
  deriving DecidableEq, Repr

/-- What the readback of a test-pulse source saw (R163). -/
inductive PulseSeen | ok | stayedHigh | stayedLow
  deriving DecidableEq, Repr

/-- What the Quill samples on one input around one dark pulse (R222, R223): which of CH1 to CH4 of the slot it is, the channel
of the source that pulses, and the raw 10 µs samples from the start of that pulse on. -/
structure PulseSamples where
  input : Fin 4
  source : Fin 96
  raw : List Bool
  deriving DecidableEq, Repr

/-- The two sides of a safe output pair (R226). -/
inductive Side | p | m
  deriving DecidableEq, Repr

/-- The two streams of a data coupler (R179). -/
inductive Stream | lane | quill
  deriving DecidableEq, Repr

/-- A conversion's measured quantity, in the unit its mode measures (R165 to R169): of an RTD the resistance from A to B
and that of the sense lead, which a 3-wire RTD measures beside it (R168). -/
inductive Meas
  | current (microAmp : Int) (supplyLimit : Bool)
  | voltage (microVolt : Int)
  | rtd (milliOhm leadMilliOhm : Nat)
  | tc (microVolt cjCentiC : Int)
  deriving DecidableEq, Repr

/-- The raw level of a standard digital input and whether it has held for the debounce time (R149, R154). -/
structure Debounce where
  raw : Bool
  held : Bool
  deriving DecidableEq, Repr

/-- What a PWM period brings: the measured on time in 0.1 µs, and the voltage at the middle of the off time where there is one
(R160, R162). -/
structure PwmPeriod where
  onTenthUs : Nat
  midOffTenMilliVolt : Option Int
  deriving DecidableEq, Repr

/-- What a standby has read at a shared output terminal, and whether its partner reports compliance lost there (R172, R199). -/
structure CrossRead where
  tenMilliVolt : Int
  partnerLostCompliance : Bool
  deriving DecidableEq, Repr

/-- One survey measurement of a channel (R444): A against FSnN and its fall under the 100 µA sink, the resistance and
voltage A to B, whether A to B alternates, and the loop current through a closed sense path. -/
structure SurveyMeas where
  aMilliVolt : Int
  fallMilliVolt : Int
  milliOhm : Nat
  abMicroVolt : Int
  alternates : Bool
  steady : Bool
  loopMicroAmp : Int
  deriving DecidableEq, Repr

/-- A crossing of a supply level of R174. -/
inductive SupplyEvent
  | warnOn | warnOff | faultOn | faultOff | missingOn | missingOff | highOn | highOff
  deriving DecidableEq, Repr

/-- What one step of the standby scrub found (R285). -/
inductive ScrubFound | clean | passDone | corrected | uncorrectable
  deriving DecidableEq, Repr

/-- What is wrong with the comparator at an injection test (R105): the flags that do not appear, by their code in CMP_TEST,
and the signature bits whose "equal" verdict fails; and the duration in 20 µs units. -/
structure SelfTest where
  dead : BitVec 128
  unequal : BitVec 64
  dur : Byte
  deriving DecidableEq, Repr

/-- One entry of an online change batch (R78). -/
structure OlcEntry where
  tag : Nat
  value : Word
  const : Bool
  deriving DecidableEq, Repr

/-- What a force names (R81). -/
inductive ForceTarget
  | tag (n : Nat)
  | inp (off : Nat)
  | outp (off : Nat)
  deriving DecidableEq, Repr

/-- The verdicts of the comparator on a pair of entries (R95). -/
inductive Verdict | queueCheck | code | sequence | inputCopy | output | diverged | equal
  deriving DecidableEq, Repr, Inhabited

/-- The outer part of a station link frame as it arrives (R300, R363): its 32-bit sequence, its bytes before the check value,
and that value. No rule gives the layout of the bytes, so what they say stands beside them (log 146). -/
structure SlHdr where
  seq : Word
  bytes : List Byte
  check : Word
  deriving DecidableEq, Repr, Inhabited

/-- A station link frame as it arrives: outer part and content (R300). -/
structure SlRx (α : Type) where
  hdr : SlHdr
  body : α
  deriving DecidableEq, Repr

/-- One slot of the loop record of a Carafe delta (R287). `flags`: bit 0 begun, bit 1 evaluation pending, bit 2 in the ramp of a
take-over (log 147). -/
structure LoopCopy where
  i : Word
  d : Word
  edPrev : Word
  cand : Word
  delivered : Word
  man : Word
  mode : BitVec 2
  flags : BitVec 3 := 1
  prevWinner : BitVec 7
  deriving DecidableEq, Repr, Inhabited

/-- A remote station in a Carafe delta: the bases of its sequences, the cycle number they count from, whether it is joined, and
whether it has acknowledged fresh outputs (R309, R310, R318, R320). -/
structure StnCopy where
  outBase : Word
  inBase : Word
  cGrant : Word
  joined : Bool
  freshAcked : Bool
  deriving DecidableEq, Repr, Inhabited

/-- The join record (R290), with the carry list values of R294. -/
structure JoinRec where
  acks : List (Nat × BitVec 4)
  shelves : List (Nat × Nat)
  duty : List (Nat × Nat × Nat)
  deadState : BitVec 2
  deadEngineer : BitVec 3
  deadUs : Nat
  consts : List (Nat × Word)
  forces : List (ForceTarget × Word)
  maint : BitVec 6
  laneMode : BitVec 2
  tbInhibit : Bool
  brkAge : List (Nat × Nat)
  deriving DecidableEq, Repr

/-- A frame of a Carafe delta or join copy on SL1 (R287, R290). Of the delta's header: the cycle number, the port sequence of its
first frame, the lane mode, the length in bytes, and the flags, of which `join` marks a join copy and `final` the frame that
completes the delta (log 147). `targets` are the drive targets of the current-loop outputs, marked where the clamped command is
0 mA (R199). -/
structure CarafeFrame where
  join : Bool
  final : Bool
  cycle : BitVec 64
  base : Word := 0
  laneMode : BitVec 2 := 0
  length : Nat := 0
  data : List (Nat × Word)
  outw : List (Nat × Word)
  loops : List (Nat × LoopCopy)
  bases : List (Nat × StnCopy)
  joinRec : Option JoinRec
  carry : List (Nat × Word)
  targets : List (Nat × (Word × Bool)) := []
  deriving DecidableEq, Repr

/-- A Carafe frame as it arrives: those of its bytes that follow the delta's header, and the check value in that header (R287,
R363). -/
structure CarafeRx where
  frame : CarafeFrame
  after : List Byte
  crc : Word
  deriving DecidableEq, Repr

/-- The paths an alarm command arrives by (R257). -/
inductive AlmPath
  | session (id : Word)
  | program
  | acn
  deriving DecidableEq, Repr

/-- A Modbus TCP request's header: its connection, transaction and unit identifier, which the answer repeats (R335). -/
structure MbHdr where
  conn : Nat
  txn : BitVec 16 := 0
  unit : Byte := 0
  deriving DecidableEq, Repr, Inhabited

/-- The commands a module forwards to its partner (R79, R81, R110, R180, R199, R262, R283, R425). -/
inductive FwdCmd
  | hold | resume | split | rejoin
  | maint (g : Fin 6) (enter : Bool)
  | change (batch : List OlcEntry)
  | force (t : ForceTarget) (v : Option Word)
  | releaseCell (c : BitVec 12)
  | clearRetain
  /-- With its path, and the points that were unacknowledged in an announcing sender, where it acknowledges (R257, R262, log 150). -/
  | alarm (w : Word) (p : AlmPath) (seen : Option (List Nat))
  | swap | resync | inhibit | allow
  | trims (shunt : BitVec 16) (ts : List (Nat × (Int × Int)))
  /-- The old tags of a shadow's carry list (R294, log 41). -/
  | carry (tags : List Nat)
  /-- The confirmation of a command has arrived: it may take effect at its T0 (log 107). -/
  | go (c : FwdCmd)
  deriving DecidableEq, Repr

/-- A forwarded command with the station time, in µs, at which the sender accepted it (R24, R79). -/
structure Forwarded where
  cmd : FwdCmd
  stationUs : Int
  deriving DecidableEq, Repr

/-- A hello frame (R295). -/
structure Hello where
  slot : Fin 4
  state : BitVec 4
  role : BitVec 2
  stnId : BitVec 16
  planDigest : Word
  imgDigest : BitVec 256
  glink : BitVec 6
  ringOk : Bool
  ready : Bool
  speaker : Bool
  deriving DecidableEq, Repr

/-- The UTC part of a time mark (R297, R339). -/
structure TimeMark where
  utcOffsetUs : Int
  sync : Bool
  valid : Bool
  deriving DecidableEq, Repr

/-- A station exchange frame as it arrives on a port (R298, R300). -/
structure ExportRx where
  port : Fin 3
  hdr : SlHdr
  words : List (Nat × Word)
  deriving DecidableEq, Repr

/-- The destination address of a ring frame (R308): a group address, one node's own address, or the link-local address, which
no node forwards. A node is named by its payload address, for no rule gives the numbers of unicast addresses. -/
inductive RingDest
  | group (a : BitVec 48)
  | unicast (node : Byte)
  | linkLocal
  deriving DecidableEq, Repr

/-- A field ring frame (R304, R307, R308): its destination, whether it carries an IEEE 802.1Q tag, its EtherType, and the
payload; `corrNs` is the CORR field that follows CHECK in a SYNC frame (R311). -/
structure RingFrame where
  dest : RingDest := .group 0x034151465200
  tagged : Bool := false
  etherType : BitVec 16 := 0x88B5
  kind : Byte
  ver : Byte
  ring : BitVec 16
  src : Byte
  dst : Byte
  seqLo : BitVec 16
  flags : BitVec 16
  data : List Byte
  check : Word
  corrNs : Nat
  deriving DecidableEq, Repr

/-- A ring port that goes down (R306), with its link or for want of valid frames. -/
structure RingDown where
  port : Fin 2
  linkLost : Bool
  deriving DecidableEq, Repr

/-- Pulse A or pulse B of a meter port (R373). -/
inductive MeterChan | a | b
  deriving DecidableEq, Repr

/-- What one port measures during a 10 ms step of the Chop (R373 to R375): the Pt100 temperature in 0.01 °C (none
when broken), the grade-select current, and whether a channel runs above 10 kHz or both below 9.5 kHz. -/
structure ChopPortEnv where
  tempCentiC : Option Int
  microAmp : Int
  over10k : Bool
  under9k5 : Bool
  deriving DecidableEq, Repr

/-- A reading of PANEL_NTC (R395, R456). -/
inductive Ntc | open_ | shorted | temp (deciC : Int)
  deriving DecidableEq, Repr

/-- What the panel's identity memory and the NTC answer at a panel start (R387). -/
structure PanelIdent where
  answers : Bool
  cols : Nat
  rows : Nat
  filter : BitVec 2
  vcomMv : Int
  ntc : Ntc
  deriving DecidableEq, Repr

/-- What a start measures or is answered by its surroundings (R428, R32, R105, R137, R266, R272, R286, R297, R413). -/
structure StartEnv where
  strap : BitVec 2
  flashAnswers : Bool
  flashReadOk : Bool
  flashMbit : Nat
  flashJedec : Byte
  gaugeA : Nat
  gaugeB : Nat
  tjDeciC : Int
  cmpTest : SelfTest
  loopMisses : Nat
  partnerOccupied : Bool
  partnerMode : Option (BitVec 2) := none
  peerLow : Bool
  markNs : Option Int
  gaugeRecordOk : Bool
  trimsBad : List (Fin 96)
  groupLevels : List (Fin 6 × SupplyEvent)
  onInputs : List (Fin 96)
  firstMeas : List (Fin 96 × Meas)
  storeOk : Bool
  pnSpeeds : List (Option (BitVec 2))
  deriving DecidableEq, Repr

/-- The commands of the module: one constructor per row of spec/opcode_table.json. -/
inductive Instr
  /-- ENTER_COMMISSIONING (R23): Engineer-level command that moves the module from Run to Commissioning. -/
  | enterCommissioning (r : Req)
  /-- LEAVE_COMMISSIONING (R85): Engineer-level command that returns the module to Run and schedules a warm restart when a safety-related force stands. -/
  | leaveCommissioning (r : Req)
  /-- HOLD (R24): Engineer-level command that puts the module, and its partner at the same cycle boundary, into Hold. -/
  | hold (r : Req)
  /-- RESUME (R76): Engineer-level command that leaves Hold and starts the two cycles of fresh inputs before outputs are released. -/
  | resume (r : Req)
  /-- WARM_RESTART (R86): Engineer-level command that enters a class W reset at the next T0 and reloads non-retain variables. -/
  | warmRestart (r : Req)
  /-- RESTART_CLASS_S (R23): Engineer-level restart command that performs a reset of class S, including from Safe. -/
  | restartClassS (r : Req)
  /-- LEAVE_DECAF (R442): Command that sets the failed-start count to 2 and restarts as class S, cause 0x13. -/
  | leaveDecaf (r : Req)
  /-- RESTART_OTHER_IMAGE_HALF (R449): Command that rewrites the other half's control block with a higher GEN and restarts from it. -/
  | restartOtherImageHalf (r : Req)
  /-- SPLIT_LANES (R110): Engineer-level command that switches the lanes to Split mode at the first T0 at least two cycles later. -/
  | splitLanes (r : Req)
  /-- REJOIN_LANES (R111): Engineer-level command that prepares and runs the rejoin sequence back to Checked mode. -/
  | rejoinLanes (r : Req) (t : SelfTest)
  /-- ENTER_MAINTENANCE (R180): Engineer-level command that puts a field group into maintenance at the first T0 at least two cycles later. -/
  | enterMaintenance (r : Req) (g : Fin 6)
  /-- LEAVE_MAINTENANCE (R182): Engineer-level command that takes a field group out of maintenance at the first T0 at least two cycles later. -/
  | leaveMaintenance (r : Req) (g : Fin 6)
  /-- OPEN_TRIM (R191): Engineer-level command that opens a trim session on a current-loop channel at the zero or span point. -/
  | openTrim (r : Req) (ch : Fin 96) (point : TrimPoint)
  /-- SET_PENDING_TRIM (R191): Command that sets the pending trim value of the open session, held within ±80 µA. -/
  | setPendingTrim (r : Req) (ua : Int)
  /-- STORE_TRIM (R192): Command that stores the pending trim to MRAM, posts trim stored and closes the session. -/
  | storeTrim (r : Req)
  /-- CLOSE_TRIM (R193): Command that closes the trim session without storing and posts trim discarded. -/
  | closeTrim (r : Req)
  /-- WRITE_TRIM (R193): Command that stores a named zero or span trim for a channel without a session. -/
  | writeTrim (r : Req) (ch : Fin 96) (point : TrimPoint) (ua : Int)
  /-- BRAKE_TEST (R232): Operate-level command that requests a brake test on a safe brake control slot. -/
  | brakeTest (r : Req) (slot : Fin 16)
  /-- CLEAR_RETAIN_VARIABLES (R425): Engineer-level command in Commissioning that resets retain variables, cell modes and loop modes to image values at a later T0. -/
  | clearRetainVariables (r : Req)
  /-- READ_CHANGED_CONSTANTS (R80): Command that returns the list of changed constants. -/
  | readChangedConstants (r : Req)
  /-- CYCLE_T0 (R73): Cycle start at a whole multiple of the cycle time on the timebase. -/
  | cycleT0
  /-- EXECUTE_WINDOW_OPEN (R20): The execute window opens once the local image and every expected remote frame have arrived. -/
  | executeWindowOpen
  /-- INPUT_DEADLINE (R317): At the input deadline the window opens and missing remote frames count as missed. -/
  | inputDeadline
  /-- NOP (R58): Block operation with no effect. -/
  | nop (l : Lane) (w : Word)
  /-- END (R58): Ends the lane's execution for the cycle and takes the END checkpoint. -/
  | end_ (o : Blk)
  /-- BR (R58): Unconditional relative branch. -/
  | br (o : Blk)
  /-- BZ (R58): Relative branch when g[A] is zero. -/
  | bz (o : Blk)
  /-- BNZ (R58): Relative branch when g[A] is not zero. -/
  | bnz (o : Blk)
  /-- JMP (R58): Absolute jump to g[A] plus the immediate. -/
  | jmp (o : Blk)
  /-- CALL (R58): Writes the link pc + 1 to g[D] and jumps to g[A] plus the immediate. -/
  | call (o : Blk)
  /-- ADD (R58): Integer addition modulo 2^32. -/
  | add (o : Blk)
  /-- SUB (R58): Integer subtraction modulo 2^32. -/
  | sub (o : Blk)
  /-- MUL (R58): Low 32 bits of the integer product. -/
  | mul (o : Blk)
  /-- MULH (R58): High 32 bits of the signed 64-bit product. -/
  | mulh (o : Blk)
  /-- DIV (R59): Signed integer division truncated toward zero, with defined division by zero. -/
  | div (o : Blk)
  /-- REM (R59): Signed integer remainder with the sign of the dividend. -/
  | rem (o : Blk)
  /-- AND (R58): Bitwise and of two registers. -/
  | and_ (o : Blk)
  /-- OR (R58): Bitwise or of two registers. -/
  | or_ (o : Blk)
  /-- XOR (R58): Bitwise exclusive or of two registers. -/
  | xor_ (o : Blk)
  /-- SHL (R58): Logical left shift by a register amount. -/
  | shl (o : Blk)
  /-- SHR (R58): Logical right shift by a register amount. -/
  | shr (o : Blk)
  /-- SAR (R58): Arithmetic right shift by a register amount. -/
  | sar (o : Blk)
  /-- SLT (R58): Signed less-than comparison of two registers. -/
  | slt (o : Blk)
  /-- SLTU (R58): Unsigned less-than comparison of two registers. -/
  | sltu (o : Blk)
  /-- SEQ (R58): Equality comparison of two registers. -/
  | seq (o : Blk)
  /-- MIN (R58): Signed minimum of two registers. -/
  | min (o : Blk)
  /-- ADDI (R58): Addition of a sign-extended immediate. -/
  | addi (o : Blk)
  /-- ANDI (R58): Bitwise and with a zero-extended immediate. -/
  | andi (o : Blk)
  /-- ORI (R58): Bitwise or with a zero-extended immediate. -/
  | ori (o : Blk)
  /-- XORI (R58): Bitwise exclusive or with a zero-extended immediate. -/
  | xori (o : Blk)
  /-- SHLI (R58): Logical left shift by an immediate amount. -/
  | shli (o : Blk)
  /-- SHRI (R58): Logical right shift by an immediate amount. -/
  | shri (o : Blk)
  /-- SARI (R58): Arithmetic right shift by an immediate amount. -/
  | sari (o : Blk)
  /-- SLTI (R58): Signed less-than comparison with an immediate. -/
  | slti (o : Blk)
  /-- SEQI (R58): Equality comparison with an immediate. -/
  | seqi (o : Blk)
  /-- LUI (R58): Loads the immediate shifted left by 20 into g[D]. -/
  | lui (o : Blk)
  /-- ORIM (R58): Bitwise or with the immediate shifted left by 8. -/
  | orim (o : Blk)
  /-- FADD (R60): binary32 addition. -/
  | fadd (o : Blk)
  /-- FSUB (R60): binary32 subtraction. -/
  | fsub (o : Blk)
  /-- FMUL (R60): binary32 multiplication. -/
  | fmul (o : Blk)
  /-- FDIV (R60): binary32 division. -/
  | fdiv (o : Blk)
  /-- FSQRT (R60): binary32 square root. -/
  | fsqrt (o : Blk)
  /-- FMIN (R60): binary32 minimum with defined NaN and signed-zero handling. -/
  | fmin (o : Blk)
  /-- FMAX (R60): binary32 maximum with defined NaN and signed-zero handling. -/
  | fmax (o : Blk)
  /-- FABS (R58): Clears the sign bit of g[A]. -/
  | fabs (o : Blk)
  /-- FNEG (R58): Inverts the sign bit of g[A]. -/
  | fneg (o : Blk)
  /-- FLT (R60): binary32 less-than comparison. -/
  | flt (o : Blk)
  /-- FLE (R60): binary32 less-or-equal comparison. -/
  | fle (o : Blk)
  /-- FEQ (R60): binary32 equality comparison. -/
  | feq (o : Blk)
  /-- ITOF (R60): Converts a signed integer to binary32. -/
  | itof (o : Blk)
  /-- FTOI (R60): Converts binary32 to a signed integer with truncation and saturation. -/
  | ftoi (o : Blk)
  /-- FMA (R58): Fused multiply-add into g[D], rounded once. -/
  | fma (o : Blk)
  /-- LD (R58): Loads a data memory word at g[A] plus an offset, honouring forces. -/
  | ld (o : Blk)
  /-- ST (R54): Stores a register into data memory at g[A] plus an offset. -/
  | st (o : Blk)
  /-- LDX (R58): Loads a data memory word at g[A] plus g[B]. -/
  | ldx (o : Blk)
  /-- STX (R58): Stores a register into data memory at g[A] plus g[B]. -/
  | stx (o : Blk)
  /-- IN (R62): Reads a word of the lane's input image. -/
  | in_ (o : Blk)
  /-- OUT (R63): Writes a word of the output image and folds it into the output signature. -/
  | out (o : Blk)
  /-- CELLIN (R69): Opens a cell and takes a checkpoint. -/
  | cellin (o : Blk)
  /-- CELLOUT (R69): Closes the innermost open cell and takes a checkpoint. -/
  | cellout (o : Blk)
  /-- TON (R65): System block on-delay timer. -/
  | ton (l : Lane) (d a : BitVec 6)
  /-- TOF (R65): System block off-delay timer. -/
  | tof (l : Lane) (d a : BitVec 6)
  /-- TP (R65): System block pulse timer. -/
  | tp (l : Lane) (d a : BitVec 6)
  /-- CTU (R65): System block up counter. -/
  | ctu (l : Lane) (d a : BitVec 6)
  /-- CTD (R65): System block down counter. -/
  | ctd (l : Lane) (d a : BitVec 6)
  /-- CTUD (R65): System block up-down counter. -/
  | ctud (l : Lane) (d a : BitVec 6)
  /-- R_TRIG (R65): System block rising-edge detector. -/
  | rTrig (l : Lane) (d a : BitVec 6)
  /-- F_TRIG (R65): System block falling-edge detector. -/
  | fTrig (l : Lane) (d a : BitVec 6)
  /-- CV (R64): System block that returns the count value of a counter record. -/
  | cv (l : Lane) (d a : BitVec 6)
  /-- TIMEL (R64): System block that returns the low word of the timebase at T0. -/
  | timel (l : Lane) (d a : BitVec 6)
  /-- TIMEH (R64): System block that returns the high word of the timebase at T0. -/
  | timeh (l : Lane) (d a : BitVec 6)
  /-- OBJRD (R66): System block that reads an object register with the lanes' rights, one value to both lanes. -/
  | objrd (l : Lane) (d a : BitVec 6)
  /-- OBJWR (R67): System block that judges and queues an object register write for TO. -/
  | objwr (l : Lane) (d a : BitVec 6)
  /-- EVPOST (R66): System block that queues an application Inkwell record for TO. -/
  | evpost (l : Lane) (d a : BitVec 6)
  /-- CELLSTAT (R70): System block that sets the application status of the innermost open cell. -/
  | cellstat (l : Lane) (d a : BitVec 6)
  /-- CELLMODE (R71): System block that sets the mode of the innermost open cell. -/
  | cellmode (l : Lane) (d a : BitVec 6)
  /-- CHECKPOINT_COMPARE (R95): The comparator judges a pair of checkpoint entries once both have arrived. -/
  | checkpointCompare (invalidRail : Bool)
  /-- CHECKPOINT_APPEND_RESUME (R94): A lane waiting for a queue place appends its entry when a place frees. -/
  | checkpointAppendResume (l : Lane)
  /-- COMPARE_STALLED (R98): A pair of entries without a verdict for 10 µs gives a self-diagnosis fault. -/
  | compareStalled
  /-- LANE_STALLED (R99): The other lane taking no checkpoint in time after one lane's END gives a self-diagnosis fault. -/
  | laneStalled (l : Lane)
  /-- COMPARE_COMPLETE (R96): The END pair is judged and written output words are committed to release. -/
  | compareComplete
  /-- COMMIT_SEND (R313): COMMIT is sent after the later of compare completion and the last OUTPUT departure. -/
  | commitSend
  /-- OUTPUT_RELEASE (R63): At TO the output image is released under the output precedence. -/
  | outputRelease
  /-- LATE_COMPARE_COMPLETE (R74): The compare of an overrun cycle completes and its events are posted as late. -/
  | lateCompareComplete
  /-- DATA_DIGEST_COMPLETE (R102): The digests of the marked cell's data range are compared between lanes. -/
  | dataDigestComplete
  /-- SPEED_GAUGE_UPDATE (R27): Each lane's speed gauge reading is renewed every 100 µs. -/
  | speedGaugeUpdate (a b : BitVec 10)
  /-- GAUGE_DISAGREEMENT (R29): Gauges differing by more than 10 % for 1 s post speed gauge disagreement. -/
  | gaugeDisagreement
  /-- SPEED_FLOOR_LOST (R34): A gauge below its floor for 100 ms at 1.00 V posts speed floor lost. -/
  | speedFloorLost
  /-- TIME_REFERENCE_CHECK (R37): The supervisor and the Quill check each other's time reference every 100 ms. -/
  | timeReferenceCheck (quillTicks marks : Nat)
  /-- GOVERNOR_EVALUATION (R43): Every 1 ms the governor compares the mean draw with the effective ceiling and sheds or restores. -/
  | governorEvaluation (drawMw : BitVec 16)
  /-- CEILING_UNATTAINABLE (R45): Draw over the ceiling for 1 s at step 5 posts ceiling unattainable. -/
  | ceilingUnattainable
  /-- BROWNOUT_CEILING_HOLD_END (R39): The 8.0 W hold ends 1 s after a brown-out episode recovers. -/
  | brownoutCeilingHoldEnd
  /-- OPERATOR_CEILING_WRITE (R40): Engineer-level write of TIM_CEIL_OP sets, rounds or clears the operator ceiling. -/
  | operatorCeilingWrite (r : Req) (v : Word)
  /-- BARRIER_OVERLOAD (R50): A 1 s average above 5 000 mW posts barrier overload. -/
  | barrierOverload (avgMw : BitVec 16)
  /-- BARRIER_LIMIT (R50): Demanded barrier power above 5.5 W is limited and every input gets field supply low. -/
  | barrierLimit (demandMw : Nat)
  /-- LOOP_TICK (R134): Every 100 µs the loop engine latches PVs and evaluates every slot due, twice. -/
  | loopTick (mism dlv : List (Fin 128))
  /-- LOOP_OUTPUT_HANDOFF (R134): At tick plus 80 µs the delivered outputs are handed to the barrier. -/
  | loopOutputHandoff (evalTenthUs : BitVec 16)
  /-- OPERATOR_MODE_REQUEST (R123): Operate-level write of LPE_S_MODE requests a slot mode for its next sample. -/
  | operatorModeRequest (r : Req) (k : Fin 128) (v : Word)
  /-- OPERATOR_SETPOINT_WRITE (R117): Operate-level write of LPE_S_SPOP sets the operator setpoint. -/
  | operatorSetpointWrite (r : Req) (k : Fin 128) (v : Word)
  /-- MANUAL_VALUE_WRITE (R122): Operate-level write of LPE_S_MAN sets the slot's manual value. -/
  | manualValueWrite (r : Req) (k : Fin 128) (v : Word)
  /-- TRACE_ARM (R141): ARM moves an enabled trace channel from Idle or Done to Armed. -/
  | traceArm (r : Req) (j : Fin 16)
  /-- TRACE_FORCE (R142): FORCE triggers an Armed trace channel now. -/
  | traceForce (r : Req) (j : Fin 16)
  /-- TRACE_STOP (R141): STOP returns an Armed, Capturing or Shed trace channel to Idle. -/
  | traceStop (r : Req) (j : Fin 16)
  /-- TRACE_CONFIG_WRITE (R142): Write of LPE_T_CFG or LPE_T_TRIG, refused while the channel is active or values are invalid. -/
  | traceConfigWrite (r : Req) (j : Fin 16) (reg : TraceReg) (v : Word)
  /-- TAKEOVER_RAMP_END (R200): The current-loop take-over ramp reaches its target and ends. -/
  | takeoverRampEnd (ch : Fin 96)
  /-- SAFETY_INPUT_FILTER_TICK (R155): Every 10 µs the counter filter of a safety input updates its state. -/
  | safetyInputFilterTick (ch : Fin 96) (raw : Bool)
  /-- DEBOUNCE_ACCEPT (R154): A standard input's raw state changes, and is accepted where it has held for the debounce time. -/
  | debounceAccept (ch : Fin 96) (x : Debounce)
  /-- SENSOR_SUPPLY_TRIP (R156): A terminal B supply in limit for 5 ms switches off with code 0x5. -/
  | sensorSupplyTrip (ch : Fin 96)
  /-- SENSOR_SUPPLY_RETRY (R156): A tripped sensor supply retries every 1 s. -/
  | sensorSupplyRetry (ch : Fin 96) (limited : Bool)
  /-- OUTPUT_OVERLOAD_TRIP (R158): An output in current limit for 5 ms switches off with code 0x5. -/
  | outputOverloadTrip (ch : Fin 96)
  /-- OUTPUT_OVERLOAD_RETRY (R158): At a retry instant an overloaded output commanded on switches on again. -/
  | outputOverloadRetry (ch : Fin 96) (limited : Bool)
  /-- OPEN_LOAD_DETECT (R159): An output on with less than 5 mA for 100 ms takes code 0x4. -/
  | openLoadDetect (ch : Fin 96) (milliAmp : BitVec 16)
  /-- SHORT_TO_SUPPLY_DETECT (R160): An output off reading 11 V or more for 5 ms takes code 0x9. -/
  | shortToSupplyDetect (ch : Fin 96) (tenMilliVolt : Int)
  /-- PARALLEL_IMBALANCE (R161): A paralleled member off the mean by over 40 % for 100 ms gives code 0xC. -/
  | parallelImbalance (ch : Fin 96) (isOff : Bool)
  /-- PWM_PERIOD_START (R162): A PWM period begins and applies any new duty. -/
  | pwmPeriodStart (ch : Fin 96) (x : PwmPeriod)
  /-- TEST_PULSE_START (R163): A test-pulse source begins its 400 µs dark pulse at its phase. -/
  | testPulseStart (ch : Fin 96)
  /-- TEST_PULSE_END (R163): A dark pulse ends and the source's readback is checked. -/
  | testPulseEnd (ch : Fin 96) (seen : PulseSeen)
  /-- CONVERSION_COMPLETE (R165): An analogue conversion completes and its value and quality are set. -/
  | conversionComplete (ch : Fin 96) (m : Meas)
  /-- THERMOCOUPLE_BREAK_TEST (R169): Once per second a 1 µA test current checks a thermocouple for a break. -/
  | thermocoupleBreakTest (ch : Fin 96) (microVolt : Int)
  /-- FREQUENCY_GATE (R171): A completed gate gives the frequency from whole periods. -/
  | frequencyGate (ch : Fin 96) (periods : Nat) (ticks40ns : Nat)
  /-- FREQUENCY_TIMEOUT (R171): No edge within the timeout sets the frequency to 0.0. -/
  | frequencyTimeout (ch : Fin 96)
  /-- PULSE_EDGE (R171): A rising edge in pulse count mode adds one to the count. -/
  | pulseEdge (ch : Fin 96)
  /-- PARTNER_OUTPUT_MISMATCH (R172): A standby's readback disagreeing with the partner's command for 10 ms gives code 0xD. -/
  | partnerOutputMismatch (ch : Fin 96) (x : CrossRead)
  /-- SHARED_INPUT_TAKEOVER_CHECK (R173): After take-over a disagreeing shared input holds code 0xE for at most 10 ms. -/
  | sharedInputTakeoverCheck (ch : Fin 96) (agrees : Bool) (after10ms : Bool)
  /-- GROUP_SUPPLY_LEVEL_CHANGE (R174): A group's supply level changes and is posted. -/
  | groupSupplyLevelChange (g : Fin 6) (lvl : SupplyEvent) (tenMilliVolt tenMilliAmp : BitVec 16)
  /-- SAG_LATCH_TIMER (R177): A group in low fault for 20 ms sets the SAG latch on its safe output pairs. -/
  | sagLatchTimer (g : Fin 6)
  /-- READBACK_DIAGNOSTICS_RESUME (R178): Readback diagnostics resume 20 ms after low fault ends. -/
  | readbackDiagnosticsResume (g : Fin 6)
  /-- COUPLER_FRAME (R179): A coupler frame on the lane or Quill stream is checked and accepted or discarded. -/
  | couplerFrame (g : Fin 6) (st : Stream) (empty : Nat) (bytes : List Byte)
  /-- GROUP_LINK_LOST (R179): No valid lane frame for 1 ms switches the group off and gives code 0xE. -/
  | groupLinkLost (g : Fin 6)
  /-- QUILL_STREAM_LOST (R179): No valid Quill frame for 1 ms demands every slot using the group. -/
  | quillStreamLost (g : Fin 6)
  /-- GROUP_LINK_RESTORE (R179): After 100 ms of valid frames the group's inputs and outputs return. -/
  | groupLinkRestore (g : Fin 6)
  /-- READBACK_CONVERSION (R195): A current-loop readback conversion completes every 1 ms. -/
  | readbackConversion (ch : Fin 96) (microAmp : Int)
  /-- TRIM_UP_PRESS (R192): A filtered press of TRIM_UP_N raises the pending trim by 1 µA. -/
  | trimUpPress (x : TrimPress)
  /-- TRIM_DN_PRESS (R192): A filtered press of TRIM_DN_N lowers the pending trim by 1 µA. -/
  | trimDnPress (x : TrimPress)
  /-- TRIM_REPEAT (R192): A trim press held over 1 s repeats the step every 50 ms. -/
  | trimRepeat (upLow dnLow : Bool)
  /-- TRIM_SET_PRESS (R192): A press of TRIM_SET_N stores the pending trim and closes the session. -/
  | trimSetPress
  /-- TRIM_INPUT_STUCK (R194): A trim input low for over 10 s is ignored and posted. -/
  | trimInputStuck (x : TrimHeld)
  /-- TRIM_SESSION_TIMEOUT (R193): 300 s without a press or trim command closes the session without storing. -/
  | trimSessionTimeout
  /-- QUILL_EVALUATION (R212): The Quill evaluates its slots and QEN on its own tick. -/
  | quillEvaluation
  /-- DISCREPANCY_TIMEOUT (R219): A channel pair disagreeing longer than T puts the slot in Fault. -/
  | discrepancyTimeout (slot : Fin 16)
  /-- SAFETY_OFF_DELAY_END (R220): A slot's off delay ends and disables its pairs. -/
  | safetyOffDelayEnd (slot : Fin 16)
  /-- TWO_HAND_SYNC_MISS (R217): The second button not actuated within the window sets SYNC_MISS. -/
  | twoHandSyncMiss (slot : Fin 16)
  /-- TEST_PULSE_CHECK (R223): A safety input's dark pulse is checked, with faults for missing or crossed pulses. -/
  | testPulseCheck (slot : Fin 16) (x : PulseSamples)
  /-- RESET_DEMAND (R224): A valid reset press releases slots and clears clearable latches at its falling edge. -/
  | resetDemand (ch : Fin 96) (pressMs : Nat)
  /-- RESET_INPUT_HELD_LONG (R224): A reset input on for more than 10 s sets RST_STUCK. -/
  | resetInputHeldLong (ch : Fin 96)
  /-- SWITCH_OFF_TEST (R226): The Quill opens one switch of an on pair for 150 µs and checks the readback. -/
  | switchOffTest (p : Fin 24) (side : Side) (tenMilliVolt : Int)
  /-- EDM_TIMEOUT (R228): An EDM input not following the pair within TEDM latches EDM_FAULT. -/
  | edmTimeout (p : Fin 24)
  /-- BRAKE_FEEDBACK_TIMEOUT (R231): Brake feedback not following within T_FB puts the slot in Fault. -/
  | brakeFeedbackTimeout (slot : Fin 16)
  /-- BRAKE_TEST_EDGE (R232): A rising edge on CH4 requests a brake test. -/
  | brakeTestEdge (slot : Fin 16)
  /-- BRAKE_TORQUE_TIMEOUT (R233): CH3 not on within 5 s fails the brake test. -/
  | brakeTorqueTimeout (slot : Fin 16)
  /-- BRAKE_TEST_END (R233): T_TEST ends and the brake test passes or fails. -/
  | brakeTestEnd (slot : Fin 16)
  /-- BRKAGE_TICK (R234): BRKAGE advances each minute and sets TEST_DUE or TEST_OVERDUE. -/
  | brkageTick
  /-- ACKNOWLEDGE_POINT (R255): Alarm command that acknowledges one point. -/
  | acknowledgePoint (r : Req) (p : BitVec 12)
  /-- ACKNOWLEDGE_GROUP (R255): Alarm command that acknowledges every point of a cell and its descendants. -/
  | acknowledgeGroup (r : Req) (c : BitVec 12)
  /-- ACKNOWLEDGE_ALL (R257): Alarm command that acknowledges every unacknowledged point. -/
  | acknowledgeAll (r : Req)
  /-- SHELVE (R249): Alarm command that shelves a shelvable point for a time. -/
  | shelve (r : Req) (p : BitVec 12) (minutes : BitVec 16)
  /-- UNSHELVE (R248): Alarm command that unshelves a point. -/
  | unshelve (r : Req) (p : BitVec 12)
  /-- SILENCE (R252): Alarm command that silences present unacknowledged alerts and releases ALM_N. -/
  | silence (r : Req)
  /-- ACCEPT_CALL (R259): Alarm command that accepts a call and stops its stages. -/
  | acceptCall (r : Req) (g : Fin 8) (e : Fin 8)
  /-- ASSIGN_DUTY (R258): Alarm command that sets the duty and backup engineers of a call group. -/
  | assignDuty (r : Req) (g : Fin 8) (duty backup : Fin 8)
  /-- DEAD_MAN_ON (R260): Alarm command that starts the dead-man timer for an engineer. -/
  | deadManOn (r : Req) (e : Fin 8)
  /-- DEAD_MAN_RESET (R260): Alarm command that restarts T_DM. -/
  | deadManReset (r : Req)
  /-- DEAD_MAN_OFF (R260): Alarm command that switches the dead-man timer off. -/
  | deadManOff (r : Req)
  /-- ALARM_EVALUATION (R246): Every 10 ms the alarm engine applies commands, evaluates points and announces. -/
  | alarmEvaluation (evalUs : BitVec 16)
  /-- POINT_ON_DELAY_END (R244): A point's condition true for its on-delay makes it active. -/
  | pointOnDelayEnd (p : BitVec 12)
  /-- POINT_OFF_DELAY_END (R244): A point's condition false for its off-delay makes it return. -/
  | pointOffDelayEnd (p : BitVec 12)
  /-- BLOCK_RELEASE_DELAY_END (R245): A blocked point's release delay ends and it goes Normal. -/
  | blockReleaseDelayEnd (p : BitVec 12)
  /-- SHELF_TIME_END (R248): A shelved point's shelf time ends. -/
  | shelfTimeEnd (p : BitVec 12)
  /-- CALL_STAGE_1 (R259): T1 after the call start the backup engineer is also called. -/
  | callStage1 (g : Fin 8)
  /-- CALL_STAGE_2 (R259): T2 after stage 1 every listed engineer is called and ALF is escalated. -/
  | callStage2 (g : Fin 8)
  /-- DEAD_MAN_INTERVAL_END (R260): T_DM ends and the dead-man timer enters Pre-warning. -/
  | deadManIntervalEnd
  /-- DEAD_MAN_PREWARNING_END (R260): T_PRE ends and the dead-man timer enters Alarm, calling at stage 2. -/
  | deadManPrewarningEnd
  /-- ALC_SEND (R263): Every 30 s an ALC sentence lists every alert not in state N. -/
  | alcSend
  /-- HBT_SEND (R263): An HBT sentence is sent every HBT_INT. -/
  | hbtSend
  /-- ACN_ACKNOWLEDGE (R264): An ACN with A acknowledges the named point or group. -/
  | acnAcknowledge (alert : Nat)
  /-- ACN_SILENCE (R264): An ACN with S acts as silence. -/
  | acnSilence (alert : Nat)
  /-- ACN_REQUEST_REPEAT (R264): An ACN with Q sends the alert's ALF again. -/
  | acnRequestRepeat (alert : Nat)
  /-- ACN_IGNORED (R264): An ACN with another command, or with ACN_EN = 0, is ignored and counted. -/
  | acnIgnored
  /-- INTERLOCK_PEER_NET_CHANGE (R270): A change of the filtered peer or own interlock net updates the gate. -/
  | interlockPeerNetChange (ownLow peerLow : Bool)
  /-- INTERLOCK_STUCK (R274): Own net low for 100 µs while not asserting posts interlock stuck. -/
  | interlockStuck
  /-- INTERLOCK_STUCK_END (R274): The net reading high for 100 ms ends the interlock fault. -/
  | interlockStuckEnd
  /-- ROLE_WAIT_END (R272): The role wait ends and the module decides active or standby. -/
  | roleWaitEnd
  /-- RELEASE_RECEIVED (R275): A release frame on SL1 lets the partner take the role in an announced transfer. -/
  | releaseReceived (reason : SlRx Byte)
  /-- UNANNOUNCED_TAKEOVER (R276): 1 200 µs after an unannounced peer release the standby asserts and drives. -/
  | unannouncedTakeover
  /-- ROLE_TRANSFER (R278): A cycle-boundary transfer takes place 20 µs before T0 once the delta is applied. -/
  | roleTransfer
  /-- FIELD_RING_SILENCE (R277): No ring frame for 10 ms at the active module gives up the role if the partner may take. -/
  | fieldRingSilence
  /-- TAKE_BACK (R282): A qualified preferred standby takes the role back at a cycle boundary. -/
  | takeBack
  /-- SWAP (R283): Pair command that moves the role to a ready standby. -/
  | swap (r : Req)
  /-- RESYNC (R283): Pair command that gives the standby a new join copy. -/
  | resync (r : Req)
  /-- INHIBIT_TAKE_BACK (R283): Pair command that sets TB_INHIBIT. -/
  | inhibitTakeBack (r : Req)
  /-- ALLOW_TAKE_BACK (R283): Pair command that clears TB_INHIBIT. -/
  | allowTakeBack (r : Req)
  /-- ROLE_SWAP_DUE (R284): A standby for the exercise interval posts role swap due. -/
  | roleSwapDue
  /-- SCRUB_STEP (R285): The standby scrub reads and corrects memory words. -/
  | scrubStep (found : ScrubFound)
  /-- BIST_TEST_SEQUENCE (R285): Every 100 ms the standby lanes run the ROM test sequence through the comparator. -/
  | bistTestSequence (verdict : Verdict)
  /-- BIST_INJECTION_TEST (R285): Every 10 min the standby runs the comparator injection test. -/
  | bistInjectionTest (t : SelfTest)
  /-- CARAFE_FRAME_RECEIVED (R289): A delta or join copy frame arrives on SL1 into Carafe staging. -/
  | carafeFrameReceived (f : SlRx CarafeRx)
  /-- DELTA_APPLY (R289): A complete checked delta is applied in one piece and acknowledged. -/
  | deltaApply
  /-- DELTA_LOST (R289): A delta incomplete by the next TO is lost and the standby takes a join copy. -/
  | deltaLost
  /-- CARAFE_ACK_RECEIVED (R300): An acknowledge or request-again frame arrives, and a request is answered by a repeat. -/
  | carafeAckReceived (again : SlRx Bool)
  /-- JOIN_COPY_COMPLETE (R290): Every block of the join copy is applied and the standby becomes ready. -/
  | joinCopyComplete
  /-- TWIN_STEP_DIGEST (R292): Every 100 cycles the Twin-step digests are compared and a mismatch resynchronises. -/
  | twinStepDigest (peer : SlRx Word)
  /-- FORWARDED_COMMAND (R79): A command forwarded from the partner is confirmed and applied at the same T0. -/
  | forwardedCommand (f : SlRx Forwarded) (t : SelfTest)
  /-- PARTNER_CONFIRM_TIMEOUT (R79): No partner confirmation by the T0 or 50 ms refuses the command. -/
  | partnerConfirmTimeout
  /-- HELLO_SEND (R295): Every 1 ms the module sends a hello on every port. -/
  | helloSend
  /-- HELLO_RECEIVED (R295): A hello updates membership, readiness and partner state. -/
  | helloReceived (port : Fin 3) (h : SlRx Hello)
  /-- STATION_LINK_DOWN (R268): A port without a valid frame for 1 ms goes down. -/
  | stationLinkDown (port : Fin 3)
  /-- STATION_LINK_UP (R268): A port with 10 ms of valid frames comes up and measures its delay. -/
  | stationLinkUp (port : Fin 3) (delayNs : BitVec 16)
  /-- SPEAKER_ELECTION (R296): The speaker is elected from the hellos when absent for 10 ms or at start. -/
  | speakerElection
  /-- TIME_MARK_SEND (R297): Every 1 ms the speaker sends a time mark on every port. -/
  | timeMarkSend
  /-- TIME_MARK_RECEIVED (R297): A time mark slews the station time offset and the UTC offset. -/
  | timeMarkReceived (port : Fin 3) (markNs : Int) (m : SlRx TimeMark)
  /-- STATION_EXPORT_RECEIVED (R298): Export words from another position arrive for the next T0. -/
  | stationExportReceived (pos : Fin 4) (ws : ExportRx) (complete : Bool)
  /-- SLK_INJECTOR_WRITE (R301): Write of SLK_P_INJ arms or disarms fault injection on a station link port. -/
  | slkInjectorWrite (r : Req) (port : Fin 3) (v : Word)
  /-- FRG_INJECTOR_WRITE (R321): Write of FRG_P_INJ arms or disarms fault injection on a ring port. -/
  | frgInjectorWrite (r : Req) (port : Fin 2) (v : Word)
  /-- TESTP_INPUT_CHANGE (R301): TESTP_N after its filter enables injection, or ends it when high. -/
  | testpInputChange (low : Bool)
  /-- SYNC_RECEIVED (R311): A SYNC frame arrives and is forwarded with its correction. -/
  | syncReceived (port : Fin 2) (f : RingFrame)
  /-- REMOTE_INPUT_RECEIVED (R310): An INPUT frame from a remote station is checked and stored. -/
  | remoteInputReceived (port : Fin 2) (f : RingFrame)
  /-- REMOTE_JOIN_RECEIVED (R316): A JOIN from a remote station is answered at the next TO. -/
  | remoteJoinReceived (port : Fin 2) (f : RingFrame)
  /-- LINK_DELAY_MEASURE (R311): Every 1 s a node sends LINK_REQ to measure each link's delay. -/
  | linkDelayMeasure (port : Fin 2)
  /-- LINK_REQ_RECEIVED (R311): A LINK_REQ is answered with LINK_RSP. -/
  | linkReqReceived (port : Fin 2) (f : RingFrame)
  /-- LINK_RSP_RECEIVED (R311): A LINK_RSP completes a link delay measurement. -/
  | linkRspReceived (port : Fin 2) (f : RingFrame) (roundTripNs : Nat)
  /-- HSR_SUPERVISION_SEND (R304): Every 2 s the node sends HSR supervision frames. -/
  | hsrSupervisionSend
  /-- RING_PATH_LOST (R306): A down port or one-sided supervision for 6 s declares a ring path lost. -/
  | ringPathLost (port : Fin 2)
  /-- RING_PORT_DOWN (R306): A ring port without a valid frame for 10 ms goes down. -/
  | ringPortDown (port : RingDown)
  /-- PRP_SUPERVISION_SEND (R323): Every 2 s the module sends PRP supervision frames. -/
  | prpSupervisionSend
  /-- PLANT_PATH_LOST (R324): A down port or one-sided node for 6 s declares a plant path lost. -/
  | plantPathLost (port : Fin 2) (linkDown : Bool)
  /-- PLANT_PATH_RESTORED (R324): 6 s of frames from every node on both ports restores the path. -/
  | plantPathRestored
  /-- IDENTIFY (R328): Station protocol service returning identity, also on broadcast after a random delay. -/
  | identify (m : Unsess)
  /-- OPEN (R329): Station protocol service opening a session with a level and nonces. -/
  | open_ (m : Unsess) (onStation : Bool) (level : BitVec 8) (clientNonce : List Byte)
  /-- AUTH (R329): Station protocol service proving the level key and deriving the session key. -/
  | auth (m : Unsess) (sess : Word) (proof : List Byte)
  /-- CLOSE (R330): Station protocol service ending a session. -/
  | close (r : Req)
  /-- READ (R333): Station protocol service reading up to 256 words as one step. -/
  | read (r : Req) (addr : Word) (count : BitVec 16)
  /-- WRITE (R340): Station protocol write of registers that have no behaviour of their own, judged by access code and level. -/
  | write (r : Req) (addr : Word) (ws : List Word)
  /-- READVAR (R340): Station protocol service reading tags. -/
  | readvar (r : Req) (tag : Word) (count : BitVec 16)
  /-- EVENTS_FROM_SEQ (R356): EVENTS op 0x00 returns records from a given SEQ. -/
  | eventsFromSeq (r : Req) (count : BitVec 16) (sq : Word)
  /-- EVENTS_FROM_OLDEST (R356): EVENTS op 0x01 returns records from the oldest. -/
  | eventsFromOldest (r : Req) (count : BitVec 16)
  /-- EVENTS_FROM_CURSOR (R356): EVENTS op 0x02 returns records from the session's cursor. -/
  | eventsFromCursor (r : Req) (count : BitVec 16)
  /-- EVENTS_NEWEST (R356): EVENTS op 0x03 returns the newest records. -/
  | eventsNewest (r : Req) (count : BitVec 16)
  /-- CHANGE (R78): Station protocol service submitting an online change batch. -/
  | change (r : Req) (batch : List OlcEntry)
  /-- FORCE_SET (R81): FORCE service setting a force on a variable. -/
  | forceSet (r : Req) (t : ForceTarget) (v : Word)
  /-- FORCE_RELEASE (R83): FORCE service releasing one force. -/
  | forceRelease (r : Req) (t : ForceTarget)
  /-- FORCE_RELEASE_IN_CELL (R81): FORCE service releasing every force within a cell and its descendants. -/
  | forceReleaseInCell (r : Req) (c : BitVec 12)
  /-- SUBSCRIBE (R334): Station protocol service subscribing a session to call groups. -/
  | subscribe (r : Req) (mask : BitVec 8)
  /-- CALL_NOTIFICATION_SEND (R334): A subscriber is notified at a call state change or every 30 s. -/
  | callNotificationSend (g : Fin 8)
  /-- NOTIFICATION_ACKNOWLEDGEMENT (R334): A client's notification acknowledgement stops repeats. -/
  | notificationAcknowledgement (r : Req)
  /-- CALL_NOTIFICATION_RETRY (R334): An unacknowledged notification is resent every 2 s up to 5 times. -/
  | callNotificationRetry (sess : Word)
  /-- SESSION_TIMEOUT (R330): A session ends after 60 s without a valid request. -/
  | sessionTimeout (sess : Word)
  /-- AUTHENTICATION_BLOCK_END (R330): The 60 s block on an address ends. -/
  | authenticationBlockEnd (ip : Word)
  /-- MODBUS_READ_HOLDING (R335): Modbus function code 3 reads the holding register table. -/
  | modbusReadHolding (h : MbHdr) (start qty : BitVec 16)
  /-- MODBUS_READ_INPUT (R335): Modbus function code 4 reads the input register table. -/
  | modbusReadInput (h : MbHdr) (start qty : BitVec 16)
  /-- MODBUS_WRITE_SINGLE (R336): Modbus function code 6 writes one holding register. -/
  | modbusWriteSingle (h : MbHdr) (reg value : BitVec 16)
  /-- MODBUS_WRITE_MULTIPLE (R336): Modbus function code 16 writes several holding registers. -/
  | modbusWriteMultiple (h : MbHdr) (start qty : BitVec 16) (byteCount : Nat) (vals : List (BitVec 16))
  /-- MODBUS_OTHER_FUNCTION (R336): Any other function code is answered with exception 01. -/
  | modbusOtherFunction (h : MbHdr) (fc : Byte)
  /-- MODBUS_CONNECTION_TIMEOUT (R335): A Modbus connection closes after 60 s without a request. -/
  | modbusConnectionTimeout (conn : Nat)
  /-- NTP_POLL (R338): The speaker polls its NTP servers at the poll interval. -/
  | ntpPoll
  /-- NTP_RESPONSE (R338): An NTP response gives an offset that is applied or slewed. -/
  | ntpResponse (server : Fin 4) (offsetUs : Int)
  /-- UTC_STEPPED (R338): An offset of 128 ms or more persisting for 900 s is stepped and posted. -/
  | utcStepped
  /-- RTC_SET (R414): The RTC is set from UTC at the first valid offset and every hour. -/
  | rtcSet
  /-- ADDRESS_CONFLICT (R325): Link-local address conflict detection finds a conflict. -/
  | addressConflict
  /-- FLUSH_AGE_TIMEOUT (R348): The oldest unflushed record waiting 100 ms starts a flush. -/
  | flushAgeTimeout
  /-- FLUSH_COMPLETE (R348): A flush has copied the ring to the store and written the directory. -/
  | flushComplete
  /-- FLOOD_WINDOW_END (R353): At the end of a 10 s window a flood summary is posted per suppressed code. -/
  | floodWindowEnd
  /-- RECORDS_LOST_POINT_END (R352): System point 4 083 ends 60 s after records lost. -/
  | recordsLostPointEnd
  /-- EVR_CURSOR_WRITE (R354): Write of EVR_CUR moves the path's cursor and snapshots the record. -/
  | evrCursorWrite (p : Path) (sq : Word)
  /-- EVR_NEXT (R355): EVR_CMD NEXT moves the cursor forward and snapshots. -/
  | evrNext (p : Path)
  /-- EVR_PREV (R355): EVR_CMD PREV moves the cursor back and snapshots. -/
  | evrPrev (p : Path)
  /-- EVR_OLDEST (R355): EVR_CMD OLDEST moves the cursor to the oldest record. -/
  | evrOldest (p : Path)
  /-- EVR_NEWEST (R355): EVR_CMD NEWEST moves the cursor to the newest record. -/
  | evrNewest (p : Path)
  /-- CVU_START (R361): START loads the initial value and folds the virtual header. -/
  | cvuStart (p : Path) (c : Fin 8)
  /-- CVU_CLEAR (R370): CLEAR sets COUNT, MATCH and COMPARED to 0. -/
  | cvuClear (p : Path) (c : Fin 8)
  /-- CVU_VALUE_WRITE (R360): Write of CVU_C_VALUE replaces the running value. -/
  | cvuValueWrite (p : Path) (c : Fin 8) (v : Word)
  /-- CVU_DATA_FEED (R367): Write of data window words feeds them as bytes, as one step. -/
  | cvuDataFeed (p : Path) (c : Fin 8) (first : Fin 256) (ws : List Word)
  /-- CVU_BYTE_FEED (R368): Write of CVU_C_BYTE feeds one byte. -/
  | cvuByteFeed (p : Path) (c : Fin 8) (v : Word)
  /-- CVU_EXPECT_WRITE (R368): Write of CVU_C_EXPECT compares the result and sets MATCH. -/
  | cvuExpectWrite (p : Path) (c : Fin 8) (v : Word)
  /-- CVU_CONFIG_WRITE (R368): Write of CVU_C_CFG sets algorithm and header length for the next START. -/
  | cvuConfigWrite (p : Path) (c : Fin 8) (v : Word)
  /-- CVU_CLAIM_WRITE (R367): Write of CVU_CLAIM claims or releases context 6 or 7. -/
  | cvuClaimWrite (r : Req) (v : Word)
  /-- CHOP_POWER_ON (R383): The Chop checks its ROM and parameter copies and starts counting. -/
  | chopPowerOn (romCheck : Word) (copyAOk copyBOk : Bool)
  /-- CHOP_SUPPLY_FALL (R377): The Chop closes and writes its running step and stops. -/
  | chopSupplyFall
  /-- METER_PULSE_EDGE (R374): A quadrature edge on a meter port is decoded. -/
  | meterPulseEdge (m : Fin 4) (chan : MeterChan) (rising : Bool)
  /-- CHOP_STEP (R375): Every 10 ms the Chop integrates each port's quantity and writes totals. -/
  | chopStep (env : List ChopPortEnv)
  /-- GRADE_CHANGE (R378): A grade-select current in a band for 1 s changes the grade in force. -/
  | gradeChange (m : Fin 4) (microAmp : Int)
  /-- GRADE_UNKNOWN (R378): 5 s with no grade sends quantity to the unassigned total. -/
  | gradeUnknown (m : Fin 4)
  /-- CHOP_EXPORT_SEND (R384): Every 100 ms the Chop sends an export frame. -/
  | chopExportSend
  /-- CHOP_EXPORT_RECEIVED (R384): The module checks an export frame and applies it to MTR in one step. -/
  | chopExportReceived (checkOk : Bool)
  /-- CHOP_EXPORT_STALE (R384): No valid export for 1 s sets STALE. -/
  | chopExportStale
  /-- VERIFIER_SWITCH_OPEN (R380): Opening the verifier switch activates the optical port. -/
  | verifierSwitchOpen
  /-- VERIFIER_SWITCH_CLOSE (R381): Closing the switch applies staged values and appends audit records. -/
  | verifierSwitchClose
  /-- VERIFIER_OPEN (R380): Optical port OPEN starts a verifier session. -/
  | verifierOpen (m : Verif)
  /-- VERIFIER_AUTH (R380): Optical port AUTH proves the verifier key. -/
  | verifierAuth (m : Verif)
  /-- READ_PARAMETERS (R380): Verifier service returning the active and staged parameter set. -/
  | readParameters (r : Req)
  /-- STAGE (R380): Verifier service staging a parameter value. -/
  | stage (r : Req) (param : BitVec 16) (index : Byte) (value : List Byte)
  /-- DISCARD (R380): Verifier service clearing every staged value. -/
  | discard (r : Req)
  /-- READ_TRAIL (R380): Verifier service returning audit records. -/
  | readTrail (r : Req) (first : Word) (count : BitVec 16)
  /-- CHOP_RECTANGLE_RENEW (R386): The Chop renews its panel rectangle every 10 s or after a change. -/
  | chopRectangleRenew
  /-- PANEL_FRAME_START (R398): At a frame boundary the driver starts waiting requests that fit. -/
  | panelFrameStart
  /-- RECTANGLE_UPDATE_END (R397): A rectangle's frames end and its target is copied to the glass buffer. -/
  | rectangleUpdateEnd (slot : Fin 8)
  /-- RAILS_IDLE_OFF (R392): Rails switch off 200 ms after the last update with no request waiting. -/
  | railsIdleOff
  /-- RAIL_FAULT (R393): A rail out of tolerance for 1 ms aborts updates and switches rails off. -/
  | railFault
  /-- RAIL_RETRY (R393): 1 s after a rail fault the rails are tried again. -/
  | railRetry
  /-- PANEL_TEMPERATURE_MEASURE (R395): Every 1 s PANEL_NTC is measured and the band updated. -/
  | panelTemperatureMeasure (ntc : Ntc)
  /-- REDRAW (R400): DSP command queuing the whole panel as one request of class other. -/
  | redraw (p : Path)
  /-- DSP_CLEAR (R400): DSP command queuing a Clear of the whole panel and a redraw. -/
  | dspClear (p : Path)
  /-- REINIT (R400): Engineer-level DSP command that aborts updates, rereads identity and restarts the panel. -/
  | reinit (r : Req) (geom : PanelIdent)
  /-- DSP_PAGE_WRITE (R405): Write of DSP_PAGE selects the page drawn. -/
  | dspPageWrite (p : Path) (v : Word)
  /-- DSP_FL_WRITE (R401): Write of DSP_FL sets the front light level. -/
  | dspFlWrite (p : Path) (v : Word)
  /-- PANEL_START_SEQUENCE (R403): After a reset the panel compensates dirty entries, clears, lights and redraws. -/
  | panelStartSequence (geom : PanelIdent)
  /-- VIN_WARNING (R408): VIN falling through 17.0 V starts a flush and aborts panel updates. -/
  | vinWarning (tenMilliVolt : BitVec 16)
  /-- BROWNOUT_EPISODE_END (R409): VIN rising through 17.5 V before reset ends a brown-out episode. -/
  | brownoutEpisodeEnd (lowest10mV : BitVec 16) (durationUs : Word)
  /-- SUPPLY_UNSTABLE_END (R410): 60 s with no episode ends supply unstable. -/
  | supplyUnstableEnd
  /-- VIN_RESET_THRESHOLD (R411): VIN falling through 14.5 V enters a reset of class B. -/
  | vinResetThreshold (tenMilliVolt : BitVec 16)
  /-- INTERNAL_SUPPLIES_STOP (R406): VIN below 10.0 V stops everything except the retention domain. -/
  | internalSuppliesStop
  /-- VIN_RESTART (R411): VIN above the restart threshold and 14.5 V for 10 ms lets start begin. -/
  | vinRestart
  /-- VIN_HIGH (R406): VIN above 33.0 V sets VIN_HIGH. -/
  | vinHigh (high : Bool) (tenMilliVolt : BitVec 16)
  /-- VBAK_LOW (R413): VBAK below 2.2 V with VIN present sets VBAK_LOW. -/
  | vbakLow (milliVolt : BitVec 12)
  /-- RETENTION_DOMAIN_LOST (R414): VBAK below 1.8 V without VIN loses the RTC and the mirror. -/
  | retentionDomainLost
  /-- RESET_PIN_ASSERT (R419): RST_N low for 20 ms causes a reset of class X. -/
  | resetPinAssert
  /-- RESET_PIN_RELEASE (R419): RST_N high for 20 ms lets start begin. -/
  | resetPinRelease
  /-- RESET_INPUT_STUCK (R420): RST_N low for over 10 s is ignored and the module starts. -/
  | resetInputStuck
  /-- JUNCTION_OVERTEMPERATURE (R465): TIM_TJ over 115 °C for 100 ms is a self-diagnosis fault. -/
  | junctionOvertemperature (deciC : Int)
  /-- START_SEQUENCE (R436): After VIN above 17.5 V for 100 ms the module reads, checks and prepares the image. -/
  | startSequence (env : StartEnv)
  /-- WARM_START_SEQUENCE (R437): After a warm restart the DATA record is reloaded and the module returns to Run. -/
  | warmStartSequence (env : StartEnv)
  /-- RUN_NOT_REACHED (R438): Run not reached within 30 s is a failed start. -/
  | runNotReached
  /-- FAIL_COUNT_CLEAR (R439): 600 s without leaving Run, Commissioning or Hold clears the count and FAILDIG. -/
  | failCountClear
  /-- COMMIT_RESTART (R442): In Decaf a writer commit restarts the module 100 ms after the answer. -/
  | commitRestart
  /-- SURVEY_MEASUREMENT (R444): Each survey channel is measured once per second and classified. -/
  | surveyMeasurement (ch : Fin 96) (m : SurveyMeas)
  /-- SURVEY_FAST_SAMPLE (R445): Dry contacts and powered signals are sampled every 100 ms for survey alarms. -/
  | surveyFastSample (ch : Fin 96) (on : Bool)
  /-- IMAGE_WRITE_BEGIN (R447): IMAGEWR Begin erases the half's control block and takes the writer. -/
  | imageWriteBegin (r : Req) (half : Fin 2)
  /-- IMAGE_WRITE_DATA (R447): IMAGEWR Data writes a segment at ascending offset. -/
  | imageWriteData (r : Req) (half : Fin 2) (offset : Word) (bytes : List Byte) (programming : Bool)
  /-- IMAGE_WRITE_COMMIT (R448): IMAGEWR Commit checks the half and writes a control block. -/
  | imageWriteCommit (r : Req) (half : Fin 2)
  /-- IMAGE_WRITE_ABORT (R447): IMAGEWR Abort ends the writer with the half invalid. -/
  | imageWriteAbort (r : Req) (half : Fin 2)
  /-- SENDER_REPEAT (R300): A sender on SL1 whose frame has not been acknowledged repeats it after 50 µs. -/
  | senderRepeat
  /-- PARTNER_CONFIRMATION (R333): The addressed module receives its partner's confirmation of a forwarded command and answers the waiting request. -/
  | partnerConfirmation
  /-- MODBUS_CONNECTION_OPEN (R335): A client opens a Modbus TCP connection on port 502, and the server holds it if fewer than 4 connections are open. -/
  | modbusConnectionOpen (conn : Nat)
  deriving DecidableEq, Repr

end Sys2Proof
end

