-- ==== Sys2Proof/Decode.lean ====
section
/-! DEFINITION. The commands of the opcode table as words. The table gives no row any bits: a command reaches the module on
a pin, a wire or in a message, whose own encodings the meanings read where the spec gives them. -/

namespace Sys2Proof

/-- The command that a word spells by the table's bits: none, since the table gives no row bits. -/
def decodeTableWord (_nbits _w : Nat) : Option Instr := none

end Sys2Proof
end

