-- ==== Sys2Proof/Machine/Digest.lean ====
section
/-! DEFINITION. The check values of the module (R359), SHA-256 and HMAC-SHA-256 (R14, R329, R433). -/

namespace Sys2Proof.Machine

/-- The algorithms of R359, by their code in CVU_C_CFG. -/
inductive CrcAlg | crc32c | crc16 | crc8 | crc32
  deriving DecidableEq, Repr

/-- `f` applied `n` times. -/
def iter {α : Type} (f : α → α) : Nat → α → α
  | 0, x => x
  | n + 1, x => iter f n (f x)

/-- One bit of a reflected CRC of 32 bits. -/
def crcRefBit (poly : BitVec 32) (c : BitVec 32) : BitVec 32 :=
  if c.getLsbD 0 then (c >>> 1) ^^^ poly else c >>> 1

/-- One byte folded into a reflected CRC of 32 bits. -/
def crcRefByte (poly c : BitVec 32) (b : Byte) : BitVec 32 :=
  iter (crcRefBit poly) 8 (c ^^^ b.setWidth 32)

/-- One byte folded into the CRC-32C running value (R90). -/
def crc32cByte (c : BitVec 32) (b : Byte) : BitVec 32 := crcRefByte 0x82F63B78 c b
/-- One byte folded into the CRC-32/IEEE running value. -/
def crc32Byte (c : BitVec 32) (b : Byte) : BitVec 32 := crcRefByte 0xEDB88320 c b

/-- One byte folded into the CRC-16/CCITT-FALSE running value (R93). -/
def crc16Byte (c : BitVec 16) (b : Byte) : BitVec 16 :=
  iter (fun x => if x.getLsbD 15 then (x <<< 1) ^^^ 0x1021 else x <<< 1) 8 (c ^^^ (b.setWidth 16 <<< 8))

/-- One byte folded into the CRC-8 running value with polynomial 0x07. -/
def crc8Byte (c : BitVec 8) (b : Byte) : BitVec 8 :=
  iter (fun x => if x.getLsbD 7 then (x <<< 1) ^^^ 0x07 else x <<< 1) 8 (c ^^^ b)

/-- The initial running value of R90. -/
def crcInit : BitVec 32 := 0xFFFFFFFF
/-- Bytes folded into a CRC-32C running value. -/
def crc32c (c : BitVec 32) (bs : List Byte) : BitVec 32 := bs.foldl crc32cByte c
/-- One word folded, least significant byte first (R90, R91). -/
def crc32cWord (c : BitVec 32) (w : Word) : BitVec 32 := crc32c c (Word.bytes w)
/-- Words folded in order. -/
def crc32cWords (c : BitVec 32) (ws : List Word) : BitVec 32 := ws.foldl crc32cWord c
/-- The CRC-16/CCITT-FALSE of bytes. -/
def crc16 (bs : List Byte) : BitVec 16 := bs.foldl crc16Byte 0xFFFF
/-- The CRC-8 of bytes, initial value 0. -/
def crc8 (bs : List Byte) : BitVec 8 := bs.foldl crc8Byte 0
/-- The CRC-32/IEEE of bytes, final inversion included. -/
def crc32 (bs : List Byte) : BitVec 32 := ~~~ (bs.foldl crc32Byte 0xFFFFFFFF)

/-! ### SHA-2 (R14, R329, R433)

The module hashes with SHA-256; the signature of R434 needs SHA-512. The two differ in word width, rounds and rotations
alone, so the hash is written once over these. Its constants are fractions of roots of the first primes, computed here. -/

/-- The greatest `x` below `2 ^ n` with `f x ≤ bound`, for a rising `f`, found bit by bit from the top. -/
def greatest (f : Nat → Nat) (bound : Nat) : Nat → Nat
  | n => (List.range n).reverse.foldl (fun x i => if f (x + 2 ^ i) ≤ bound then x + 2 ^ i else x) 0

/-- Whether a number has no divisor from 2 up to its half. -/
def isPrime (n : Nat) : Bool := decide (2 ≤ n) && (List.range (n / 2 + 1)).all fun d => d < 2 || n % d != 0

/-- The primes below 410: the first eighty. -/
def smallPrimes : List Nat := (List.range 410).filter isPrime

/-- The first 64 bits of the fraction of the `k`-th root of a number. -/
def rootFraction (k n : Nat) : Nat := greatest (· ^ k) (n * 2 ^ (64 * k)) 70 % 2 ^ 64

/-- A mixing function of the hash: two rotations to the right and a third, or a shift. -/
structure Mix where
  r1 : Nat
  r2 : Nat
  r3 : Nat
  shift : Bool := false

/-- One hash of the family: word width in bytes, rounds, and the four mixing functions. -/
structure HashKind where
  bytes : Nat
  rounds : Nat
  upperA : Mix
  upperE : Mix
  lower15 : Mix
  lower2 : Mix

/-- SHA-256. -/
def kind256 : HashKind where
  bytes := 4
  rounds := 64
  upperA := { r1 := 2, r2 := 13, r3 := 22 }
  upperE := { r1 := 6, r2 := 11, r3 := 25 }
  lower15 := { r1 := 7, r2 := 18, r3 := 3, shift := true }
  lower2 := { r1 := 17, r2 := 19, r3 := 10, shift := true }

/-- SHA-512. -/
def kind512 : HashKind where
  bytes := 8
  rounds := 80
  upperA := { r1 := 28, r2 := 34, r3 := 39 }
  upperE := { r1 := 14, r2 := 18, r3 := 41 }
  lower15 := { r1 := 1, r2 := 8, r3 := 7, shift := true }
  lower2 := { r1 := 19, r2 := 61, r3 := 6, shift := true }

/-- A word of a hash. -/
abbrev HashKind.W (h : HashKind) := BitVec (8 * h.bytes)

/-- A root's fraction cut to a hash's width. -/
def rootWord (h : HashKind) (k n : Nat) : h.W := BitVec.ofNat _ (rootFraction k n / 2 ^ (64 - 8 * h.bytes))

/-- A mixing function applied. -/
def Mix.on {w : Nat} (m : Mix) (x : BitVec w) : BitVec w :=
  x.rotateRight m.r1 ^^^ x.rotateRight m.r2 ^^^ (if m.shift then x >>> m.r3 else x.rotateRight m.r3)

/-- The running value: the last four of each of its two sequences, newest first. -/
structure Running (h : HashKind) where
  up : List h.W
  down : List h.W

/-- One round: each sequence gains a word. `x` is the round's constant plus its schedule word. -/
def hashRound (h : HashKind) (r : Running h) (x : h.W) : Running h :=
  match r.up, r.down with
  | [a, b, c, d], [e, f, g, k] =>
    let choice := g ^^^ (e &&& (f ^^^ g))
    let majority := (a &&& b) ||| (c &&& (a ||| b))
    let t := k + h.upperE.on e + choice + x
    { up := [t + h.upperA.on a + majority, a, b, c], down := [d + t, e, f, g] }
  | _, _ => r

/-- The schedule words from the window of the last sixteen, oldest first: the front one leaves and a new one joins. -/
def hashSchedule (h : HashKind) : Nat → List h.W → List h.W
  | 0, _ => []
  | n + 1, w =>
    let next := w.getD 0 0 + h.lower15.on (w.getD 1 0) + w.getD 9 0 + h.lower2.on (w.getD 14 0)
    w.getD 0 0 :: hashSchedule h n (w.drop 1 ++ [next])

/-- The number that big-endian bytes spell. -/
def beNat (bs : List Byte) : Nat := bs.foldl (fun n b => 256 * n + b.toNat) 0
/-- A number in `n` big-endian bytes. -/
def beBytes (n v : Nat) : List Byte := ((List.range n).map fun i => BitVec.ofNat 8 (v / 256 ^ i)).reverse
/-- The number that little-endian bytes spell. -/
def leNat (bs : List Byte) : Nat := beNat bs.reverse

/-- A block of sixteen words folded into the running value. -/
def hashBlock (h : HashKind) (ks : List h.W) (r : Running h) (block : List Byte) : Running h :=
  let ws := (List.range 16).map fun i => BitVec.ofNat (8 * h.bytes) (beNat ((block.drop (h.bytes * i)).take h.bytes))
  let z := ((hashSchedule h h.rounds ws).zip ks).foldl (fun r p => hashRound h r (p.1 + p.2)) r
  { up := List.zipWith (· + ·) r.up z.up, down := List.zipWith (· + ·) r.down z.down }

/-- A list cut into pieces of `k`, at most `n` of them. -/
def pieces {α : Type} (k : Nat) : Nat → List α → List (List α)
  | 0, _ => []
  | n + 1, l => l.take k :: pieces k n (l.drop k)

/-- The hash of bytes. The padding is 0x80, zeros and the length in bits, to a whole number of blocks. -/
def sha2 (h : HashKind) (bs : List Byte) : List Byte :=
  let size := 16 * h.bytes
  let tail := 2 * h.bytes
  let zeros := (2 * size - 1 - tail - bs.length % size) % size
  let msg := bs ++ [0x80] ++ List.replicate zeros 0 ++ beBytes tail (8 * bs.length)
  let ks := (smallPrimes.take h.rounds).map (rootWord h 3)
  let h0 := (smallPrimes.take 8).map (rootWord h 2)
  let r := (pieces size (msg.length / size) msg).foldl (hashBlock h ks) { up := h0.take 4, down := h0.drop 4 }
  (r.up ++ r.down).flatMap fun w => beBytes h.bytes w.toNat

/-- The SHA-256 of bytes, 32 bytes long. -/
def sha256 (bs : List Byte) : List Byte := sha2 kind256 bs

/-- HMAC-SHA-256 of a message under a key of at most 64 bytes (RFC 2104). -/
def hmac (key msg : List Byte) : List Byte :=
  let masked := fun (m : Byte) => (key ++ List.replicate (64 - key.length) (0 : Byte)).map (· ^^^ m)
  sha256 (masked 0x5C ++ sha256 (masked 0x36 ++ msg))

end Sys2Proof.Machine
end

