-- ==== Sys2Proof/Machine/Signature.lean ====
section
/-! DEFINITION. Verifying an Ed25519 signature, the part of RFC 8032 that R14 and R434 name (log 12). -/

namespace Sys2Proof.Machine

/-- The field prime. -/
def edP : Nat := 2 ^ 255 - 19
/-- The order of the base point. -/
def edL : Nat := 2 ^ 252 + 27742317777372353535851937790883648493

/-- A power modulo the field prime, by the `n` low bits of the exponent from the top. -/
def edPow (x e : Nat) (n : Nat := 255) : Nat :=
  (List.range n).reverse.foldl (fun y i => if e.testBit i then y * y % edP * x % edP else y * y % edP) 1

/-- The inverse in the field. -/
def edInv (x : Nat) : Nat := edPow x (edP - 2)
/-- A difference in the field. -/
def edSub (x y : Nat) : Nat := (x + edP - y % edP) % edP
/-- The constant of the curve. -/
def edD : Nat := edSub 0 (121665 * edInv 121666)

/-- A point in extended coordinates: x = X / Z, y = Y / Z, T = X Y / Z. -/
structure EdPoint where
  x : Nat
  y : Nat
  z : Nat
  t : Nat

/-- The neutral point. -/
def edZero : EdPoint := ⟨0, 1, 1, 0⟩

/-- The sum of two points. -/
def edAdd (p q : EdPoint) : EdPoint :=
  let a := edSub p.y p.x * edSub q.y q.x % edP
  let b := (p.y + p.x) * (q.y + q.x) % edP
  let c := 2 * edD * p.t % edP * q.t % edP
  let d := 2 * p.z * q.z % edP
  let e := edSub b a
  let f := edSub d c
  let g := (d + c) % edP
  let h := (b + a) % edP
  ⟨e * f % edP, g * h % edP, f * g % edP, e * h % edP⟩

/-- A multiple of a point. -/
def edMul (k : Nat) (p : EdPoint) : EdPoint :=
  (List.range 256).reverse.foldl (fun q i => if k.testBit i then edAdd (edAdd q q) p else edAdd q q) edZero

/-- Whether two points are the same. -/
def edSame (p q : EdPoint) : Bool := p.x * q.z % edP == q.x * p.z % edP && p.y * q.z % edP == q.y * p.z % edP

/-- The point with an ordinate and the sign of its abscissa; none where no point has them. -/
def edRecover (y : Nat) (odd : Bool) : Option EdPoint :=
  let u := edSub (y * y % edP) 1
  let v := (edD * (y * y % edP) + 1) % edP
  let x2 := u * edInv v % edP
  let r := edPow x2 ((edP + 3) / 8)
  let x := if r * r % edP = x2 then r else r * edPow 2 ((edP - 1) / 4) % edP
  if y ≥ edP || x * x % edP ≠ x2 || (x = 0 && odd) then none
  else
    let x := if decide (x % 2 = 1) = odd then x else edP - x
    some ⟨x, y, 1, x * y % edP⟩

/-- The point that 32 bytes encode. -/
def edDecode (bs : List Byte) : Option EdPoint :=
  let n := leNat bs
  if bs.length ≠ 32 then none else edRecover (n % 2 ^ 255) (n.testBit 255)

/-- The base point: ordinate 4/5, even abscissa. -/
def edBase : EdPoint := (edRecover (4 * edInv 5 % edP) false).getD edZero

/-- Whether a signature of a message verifies under a public key (R434): the group equation of RFC 8032 with its
cofactor 8, S below the order of the base point. -/
def ed25519 (pub msg sig : List Byte) : Bool :=
  let s := leNat (sig.drop 32)
  match edDecode pub, edDecode (sig.take 32) with
  | some a, some r =>
    let k := leNat (sha2 kind512 (sig.take 32 ++ pub ++ msg)) % edL
    sig.length == 64 && decide (s < edL) && edSame (edMul (8 * s) edBase) (edMul 8 (edAdd r (edMul k a)))
  | _, _ => false

end Sys2Proof.Machine
end

