-- ==== Sys2Proof/Machine/Float.lean ====
section
/-! DEFINITION. IEEE 754 arithmetic with exact intermediate values and one rounding to nearest, ties to even (R60), for
binary32 (lanes, loops, channels, the Chop's values) and binary64 (the fractions of the Chop's totals). -/

namespace Sys2Proof.Machine

/-- A binary interchange format: exponent bits and fraction bits. -/
structure Fmt where
  eb : Nat
  fb : Nat
  deriving DecidableEq, Repr

/-- binary32. -/
def f32 : Fmt := ⟨8, 23⟩
/-- binary64. -/
def f64 : Fmt := ⟨11, 52⟩

/-- The value of an encoding: a finite value is ±m · 2^e. -/
inductive FVal
  | nan
  | inf (neg : Bool)
  | fin (neg : Bool) (m : Nat) (e : Int)
  deriving DecidableEq, Repr

/-- The exponent bias. -/
def Fmt.bias (f : Fmt) : Int := 2 ^ (f.eb - 1) - 1
/-- The weight of the last fraction bit of a subnormal number. -/
def Fmt.emin (f : Fmt) : Int := 1 - f.bias - f.fb
/-- The sign bit of an encoding. -/
def Fmt.sgn (f : Fmt) (neg : Bool) : Nat := if neg then 2 ^ (f.eb + f.fb) else 0
/-- The encoding of an infinity. -/
def Fmt.infBits (f : Fmt) (neg : Bool) : Nat := f.sgn neg + (2 ^ f.eb - 1) * 2 ^ f.fb
/-- The one NaN result: quiet, positive, payload 0 (R60). -/
def Fmt.nanBits (f : Fmt) : Nat := f.infBits false + 2 ^ (f.fb - 1)

/-- The value an encoding stands for. -/
def Fmt.decode (f : Fmt) (n : Nat) : FVal :=
  let neg := n / 2 ^ (f.eb + f.fb) % 2 == 1
  let e := n / 2 ^ f.fb % 2 ^ f.eb
  let m := n % 2 ^ f.fb
  if e = 2 ^ f.eb - 1 then (if m = 0 then .inf neg else .nan)
  else if e = 0 then .fin neg m f.emin
  else .fin neg (m + 2 ^ f.fb) (f.emin + e - 1)

/-- ±num/den rounded to the format, ties to even; an overflow gives an infinity, a zero keeps the sign given. -/
def Fmt.ofRatio (f : Fmt) (neg : Bool) (num den : Nat) : Nat :=
  if num = 0 then f.sgn neg else
  let scale (k : Int) : Nat × Nat := (num * 2 ^ (-k).toNat, den * 2 ^ k.toNat)
  let k1 : Int := (Nat.log2 num : Int) - Nat.log2 den - f.fb - 1
  let k2 := if (scale k1).1 / (scale k1).2 ≥ 2 ^ (f.fb + 1) then k1 + 1 else k1
  let k := if k2 < f.emin then f.emin else k2
  let (n, d) := scale k
  let q := n / d
  let r := n % d
  let q := if 2 * r > d || (2 * r == d && q % 2 == 1) then q + 1 else q
  let (q, k) := if q = 2 ^ (f.fb + 1) then (2 ^ f.fb, k + 1) else (q, k)
  if q < 2 ^ f.fb then f.sgn neg + q
  else
    let ef := (k - f.emin + 1).toNat
    if ef ≥ 2 ^ f.eb - 1 then f.infBits neg else f.sgn neg + ef * 2 ^ f.fb + (q - 2 ^ f.fb)

/-- m · 2^e rounded; a zero takes the sign `zneg`. -/
def Fmt.ofDyadic (f : Fmt) (zneg : Bool) (m : Int) (e : Int) : Nat :=
  if m = 0 then f.sgn zneg
  else f.ofRatio (m < 0) (m.natAbs * 2 ^ e.toNat) (2 ^ (-e).toNat)

/-- The signed significand of a finite value. -/
def sgnd (neg : Bool) (m : Nat) : Int := if neg then -(m : Int) else m

/-- The exact sum of two finite values as significand and exponent. -/
def addDyadic (a : Int) (ea : Int) (b : Int) (eb : Int) : Int × Int :=
  let e := if ea < eb then ea else eb
  (a * 2 ^ (ea - e).toNat + b * 2 ^ (eb - e).toNat, e)

/-- Addition. -/
def Fmt.add (f : Fmt) (x y : Nat) : Nat :=
  match f.decode x, f.decode y with
  | .nan, _ => f.nanBits
  | _, .nan => f.nanBits
  | .inf a, .inf b => if a = b then f.infBits a else f.nanBits
  | .inf a, .fin _ _ _ => f.infBits a
  | .fin _ _ _, .inf b => f.infBits b
  | .fin a m e, .fin b n g =>
    let r := addDyadic (sgnd a m) e (sgnd b n) g
    f.ofDyadic (a && b) r.1 r.2

/-- The encoding with its sign inverted. -/
def Fmt.neg (f : Fmt) (x : Nat) : Nat :=
  if x / 2 ^ (f.eb + f.fb) % 2 = 1 then x - 2 ^ (f.eb + f.fb) else x + 2 ^ (f.eb + f.fb)

/-- Subtraction. -/
def Fmt.sub (f : Fmt) (x y : Nat) : Nat :=
  match f.decode y with
  | .nan => f.nanBits
  | _ => f.add x (f.neg y)

/-- Multiplication. -/
def Fmt.mul (f : Fmt) (x y : Nat) : Nat :=
  match f.decode x, f.decode y with
  | .nan, _ => f.nanBits
  | _, .nan => f.nanBits
  | .inf a, .inf b => f.infBits (a != b)
  | .inf a, .fin b n _ => if n = 0 then f.nanBits else f.infBits (a != b)
  | .fin a m _, .inf b => if m = 0 then f.nanBits else f.infBits (a != b)
  | .fin a m e, .fin b n g => f.ofDyadic (a != b) (sgnd (a != b) (m * n)) (e + g)

/-- Division. -/
def Fmt.div (f : Fmt) (x y : Nat) : Nat :=
  match f.decode x, f.decode y with
  | .nan, _ => f.nanBits
  | _, .nan => f.nanBits
  | .inf _, .inf _ => f.nanBits
  | .inf a, .fin b _ _ => f.infBits (a != b)
  | .fin a _ _, .inf b => f.sgn (a != b)
  | .fin a m e, .fin b n g =>
    if n = 0 then (if m = 0 then f.nanBits else f.infBits (a != b))
    else f.ofRatio (a != b) (m * 2 ^ (e - g).toNat) (n * 2 ^ (g - e).toNat)

/-- x + y · z rounded once. -/
def Fmt.fma (f : Fmt) (x y z : Nat) : Nat :=
  match f.decode x, f.decode y, f.decode z with
  | .nan, _, _ => f.nanBits
  | _, .nan, _ => f.nanBits
  | _, _, .nan => f.nanBits
  | .fin a m e, .fin b n g, .fin c o h =>
    let r := addDyadic (sgnd a m) e (sgnd (b != c) (n * o)) (g + h)
    f.ofDyadic (a && (b != c)) r.1 r.2
  | .inf a, .fin _ _ _, .fin _ _ _ => f.infBits a
  | x', _, _ =>
    let p := f.mul y z
    match f.decode p, x' with
    | .inf b, .inf a => if a = b then f.infBits a else f.nanBits
    | .inf b, _ => f.infBits b
    | _, _ => f.nanBits

/-- The integer square root, found bit by bit from bit `k`. -/
def isqrtFrom (n : Nat) : Nat → Nat → Nat
  | 0, r => if (r + 1) * (r + 1) ≤ n then r + 1 else r
  | k + 1, r => isqrtFrom n k (if (r + 2 ^ (k + 1)) * (r + 2 ^ (k + 1)) ≤ n then r + 2 ^ (k + 1) else r)

/-- The integer square root. -/
def isqrt (n : Nat) : Nat := isqrtFrom n (Nat.log2 n / 2 + 1) 0

/-- The square root. The root is taken with more bits than the format holds and one sticky bit, so that it rounds as
the exact root does. -/
def Fmt.sqrt (f : Fmt) (x : Nat) : Nat :=
  match f.decode x with
  | .nan => f.nanBits
  | .inf neg => if neg then f.nanBits else x
  | .fin neg m e =>
    if m = 0 then x else if neg then f.nanBits else
    let sh : Nat := 2 * (f.fb + 4) + (e % 2).toNat
    let n := m * 2 ^ sh
    let r := isqrt n
    let odd : Nat := if r * r = n then 0 else 1
    f.ofDyadic false ((2 * r + odd : Nat) : Int) ((e - sh) / 2 - 1)

/-- The order of two values that are no NaN: x < y. Zeros of either sign are equal. -/
def FVal.lt : FVal → FVal → Bool
  | .nan, _ => false
  | _, .nan => false
  | .inf a, .inf b => a && !b
  | .inf a, .fin _ _ _ => a
  | .fin _ _ _, .inf b => !b
  | .fin a m e, .fin b n g =>
    let r := addDyadic (sgnd a m) e (-(sgnd b n)) g
    decide (r.1 < 0)

/-- Whether two values are equal; a NaN equals nothing. -/
def FVal.eq : FVal → FVal → Bool
  | .nan, _ => false
  | _, .nan => false
  | .inf a, .inf b => a == b
  | .inf _, .fin _ _ _ => false
  | .fin _ _ _, .inf _ => false
  | .fin a m e, .fin b n g => (addDyadic (sgnd a m) e (-(sgnd b n)) g).1 == 0

/-- Whether an encoding is a NaN. -/
def Fmt.isNan (f : Fmt) (x : Nat) : Bool := f.decode x == .nan

/-- The lesser operand with the NaN and zero rules of R60. -/
def Fmt.min (f : Fmt) (x y : Nat) : Nat :=
  if f.isNan x then (if f.isNan y then f.nanBits else y)
  else if f.isNan y then x
  else if (f.decode x).lt (f.decode y) then x
  else if (f.decode y).lt (f.decode x) then y
  else if x / 2 ^ (f.eb + f.fb) % 2 = 1 then x else y

/-- The greater operand with the NaN and zero rules of R60. -/
def Fmt.max (f : Fmt) (x y : Nat) : Nat :=
  if f.isNan x then (if f.isNan y then f.nanBits else y)
  else if f.isNan y then x
  else if (f.decode x).lt (f.decode y) then y
  else if (f.decode y).lt (f.decode x) then x
  else if x / 2 ^ (f.eb + f.fb) % 2 = 1 then y else x

/-- An integer converted. -/
def Fmt.ofInt (f : Fmt) (i : Int) : Nat := f.ofDyadic false i 0

/-- A finite value truncated toward zero. -/
def truncFin (neg : Bool) (m : Nat) (e : Int) : Int :=
  sgnd neg (m * 2 ^ e.toNat / 2 ^ (-e).toNat)

/-- A finite value rounded to the nearest integer, ties away from zero. -/
def nearestFin (neg : Bool) (m : Nat) (e : Int) : Int :=
  sgnd neg ((2 * (m * 2 ^ e.toNat) + 2 ^ (-e).toNat) / (2 * 2 ^ (-e).toNat))

/-! ### binary32 on words -/

/-- Lifts an operation on two encodings to words. -/
def w2 (op : Nat → Nat → Nat) (x y : BitVec 32) : BitVec 32 := BitVec.ofNat 32 (op x.toNat y.toNat)

/-- binary32 addition. -/
def fadd (x y : BitVec 32) : BitVec 32 := w2 f32.add x y
/-- binary32 subtraction. -/
def fsub (x y : BitVec 32) : BitVec 32 := w2 f32.sub x y
/-- binary32 multiplication. -/
def fmul (x y : BitVec 32) : BitVec 32 := w2 f32.mul x y
/-- binary32 division. -/
def fdiv (x y : BitVec 32) : BitVec 32 := w2 f32.div x y
/-- binary32 minimum. -/
def fmin (x y : BitVec 32) : BitVec 32 := w2 f32.min x y
/-- binary32 maximum. -/
def fmax (x y : BitVec 32) : BitVec 32 := w2 f32.max x y
/-- binary32 x + y · z, rounded once. -/
def ffma (x y z : BitVec 32) : BitVec 32 := BitVec.ofNat 32 (f32.fma x.toNat y.toNat z.toNat)
/-- binary32 square root. -/
def fsqrt (x : BitVec 32) : BitVec 32 := BitVec.ofNat 32 (f32.sqrt x.toNat)
/-- The value of a binary32 word. -/
def fval (x : BitVec 32) : FVal := f32.decode x.toNat
/-- Whether a word is a NaN. -/
def fnan (x : BitVec 32) : Bool := f32.isNan x.toNat
/-- x < y; false with a NaN (R60). -/
def flt (x y : BitVec 32) : Bool := (fval x).lt (fval y)
/-- x = y; false with a NaN (R60). -/
def feq (x y : BitVec 32) : Bool := (fval x).eq (fval y)
/-- x ≤ y; false with a NaN (R60). -/
def fle (x y : BitVec 32) : Bool := flt x y || feq x y
/-- x with its sign inverted, as the lanes' FNEG does to the bits (R58). -/
def fneg (x : BitVec 32) : BitVec 32 := x ^^^ 0x80000000
/-- x with its sign cleared (R58). -/
def fabs (x : BitVec 32) : BitVec 32 := x &&& 0x7FFFFFFF
/-- A signed word converted to binary32 (R60). -/
def itof (x : BitVec 32) : BitVec 32 := BitVec.ofNat 32 (f32.ofInt x.toInt)
/-- An integer converted to binary32. -/
def fofInt (i : Int) : BitVec 32 := BitVec.ofNat 32 (f32.ofInt i)
/-- num/den as binary32. -/
def fofRatio (num : Int) (den : Nat) : BitVec 32 := BitVec.ofNat 32 (f32.ofRatio (num < 0) num.natAbs den)
/-- binary32 truncated to a signed word, saturating; a NaN gives 0 (R60). -/
def ftoi (x : BitVec 32) : BitVec 32 :=
  match fval x with
  | .nan => 0
  | .inf neg => if neg then 0x80000000 else 0x7FFFFFFF
  | .fin neg m e =>
    let t := truncFin neg m e
    if t ≥ 2 ^ 31 then 0x7FFFFFFF else if t < -(2 ^ 31) then 0x80000000 else BitVec.ofInt 32 t

/-- The NaN of R60. -/
def fNaN : BitVec 32 := 0x7FC00000
/-- 0.0. -/
def f0 : BitVec 32 := 0
/-- 1.0. -/
def f1 : BitVec 32 := 0x3F800000
/-- 100.0. -/
def f100 : BitVec 32 := 0x42C80000

/-- A binary64 narrowed to binary32. -/
def narrow (n : Nat) : BitVec 32 :=
  match f64.decode n with
  | .fin neg m e => BitVec.ofNat 32 (f32.ofDyadic neg (sgnd neg m) e)
  | _ => fNaN

/-- Whether a finite value, times `mul`, is less than the integer `n`. -/
def FVal.scaledLt (v : FVal) (mul : Nat) (n : Int) : Bool :=
  match v with
  | .nan => false
  | .inf neg => neg
  | .fin neg m e => FVal.lt (.fin neg (m * mul) e) (.fin (n < 0) n.natAbs 0)

/-- Whether a finite value, times `mul`, is greater than the integer `n`. -/
def FVal.scaledGt (v : FVal) (mul : Nat) (n : Int) : Bool :=
  match v with
  | .nan => false
  | .inf neg => !neg
  | .fin neg m e => FVal.lt (.fin (n < 0) n.natAbs 0) (.fin neg (m * mul) e)

end Sys2Proof.Machine
end

