-- ==== Sys2Proof/Machine/Image.lean ====
section
/-! DEFINITION. The settings a configuration image carries, record by record (R432), as plain data. The spec names the
settings and not the byte layout of a record's data (log 4), so `Image` holds the settings themselves. -/

namespace Sys2Proof.Machine

/-- A group alarm's settings on a cell (R253, R259, R263). -/
structure GroupAlarmCfg where
  call : Option (Fin 8) := none
  almn : Bool := true
  bam : Bool := false
  alertId : Nat := 0
  category : Byte := 0x42
  text : List Byte := []
  deriving DecidableEq, Repr, Inhabited

/-- One cell of the tree (R68, R71, R101, R107): parent, data range `[lo, hi)`, partition, the remote stations whose
last writing cell it is (R313), and its group alarm. -/
structure CellCfg where
  parent : Nat := 0
  lo : Nat := 0
  hi : Nat := 0
  partB : Bool := false
  safety : Bool := false
  mode : BitVec 4 := 0
  closes : List Nat := []
  group : Option GroupAlarmCfg := none
  deriving DecidableEq, Repr, Inhabited

/-- One channel's settings (R146, R147, R183, R188, R202), in register format, and its safe value (R16 row 3). -/
structure ChanCfg where
  mode : BitVec 4 := 0
  loop : Bool := false
  safety : Bool := false
  par : BitVec 2 := 0
  parn : BitVec 2 := 0
  supply : Bool := false
  substFix : Bool := false
  rate : BitVec 4 := 0
  sub : Byte := 0
  filt : Word := 0
  lo : Word := 0
  hi : Word := 0
  aux : Word := 0
  subst : Word := 0
  safe : Word := 0
  ramp : BitVec 14 := 0x64
  deriving DecidableEq, Repr, Inhabited

/-- One loop slot's settings (R114 to R130, R144). `params` holds those of the 32 parameters from PVLO to TD4, by register
order, that the image sets (R118, R144); `bind` maps a parameter index to the constant it is bound to (R121). -/
structure LoopCfg where
  direct : Bool := false
  group : Option Nat := none
  schedSrc : BitVec 2 := 0
  period : Nat := 0
  phase : Nat := 0
  pvch : Nat := 0
  outch : Nat := 0
  spSrc : BitVec 2 := 0
  outer : Nat := 0
  ffSrc : BitVec 2 := 0
  ffch : Nat := 0
  pvbad : BitVec 2 := 0
  params : List (Nat × Word) := []
  bind : List (Nat × Nat) := []
  mode : BitVec 2 := 1
  man : Option Word := none
  deriving DecidableEq, Repr, Inhabited

/-- One competition group (R126): head slot, member count, output channel. -/
structure LoopGroupCfg where
  head : Nat := 0
  count : Nat := 0
  outch : Nat := 0
  deriving DecidableEq, Repr, Inhabited

/-- One trace channel's configuration from the image (R140). -/
structure TraceCfg where
  cfg : Word := 0
  trig : Word := 0
  level : Word := 0
  deriving DecidableEq, Repr, Inhabited

/-- One safety slot (R207 to R233, R239). Channels and sources are 1 to 96, 0 for none. -/
structure SlotCfg where
  typ : BitVec 3 := 0
  cat : BitVec 3 := 0
  antiv : Bool := false
  auto : Bool := false
  startup : Bool := false
  nch : BitVec 3 := 0
  trig : BitVec 16 := 0
  ch1 : Nat := 0
  ch2 : Nat := 0
  ch3 : Nat := 0
  ch4 : Nat := 0
  tps1 : Nat := 0
  tps2 : Nat := 0
  tps3 : Nat := 0
  tps4 : Nat := 0
  pairs : BitVec 24 := 0
  tMs : Nat := 0
  offDelay : Nat := 0
  rst : Nat := 0
  tfb : Nat := 15
  grace : Nat := 8
  interval : Nat := 168
  ttest : Nat := 10
  deriving DecidableEq, Repr, Inhabited

/-- One safe output pair (R203, R226, R228, R239). -/
structure PairCfg where
  pch : Nat := 0
  mch : Nat := 0
  edmch : Nat := 0
  tedm : Nat := 15
  stest : Bool := true
  deriving DecidableEq, Repr, Inhabited

/-- A point's source (R241); `flt` says that the word is binary32. -/
inductive Src
  | chan (n : Nat) (flt : Bool)
  | qual (n : Nat)
  | tag (n : Nat) (flt : Bool)
  | slot (n : Nat)
  | diag (addr : Word) (bit : Nat)
  deriving DecidableEq, Repr, Inhabited

/-- A point's blocking source (R245): a source, a state condition and a release delay in 10 ms. -/
structure BlockCfg where
  src : Src
  ne : Bool := false
  mask : Word := 0
  sv : Word := 0
  release : Nat := 0
  deriving DecidableEq, Repr, Inhabited

/-- One alarm point (R240 to R251, R259, R263). Delays are in 10 ms, `w` in seconds. A priority of 0 is
not given: a system point then has its default (R256). ALMN and ACKRET that are not given follow the priority (R248, R251). -/
structure PointCfg where
  cell : Nat := 0
  src : Src := .qual 0
  cond : BitVec 3 := 0
  lim : Word := 0
  hys : Word := 0
  ref : Word := 0
  refSrc : Option Src := none
  w : Nat := 1
  mask : Word := 0
  sv : Word := 0
  onDly : Nat := 0
  offDly : Nat := 0
  prio : BitVec 2 := 0
  call : Option (Fin 8) := none
  almn : Option Bool := none
  ackret : Option Bool := none
  shelvable : Bool := true
  shelfDefault : Nat := 60
  block : Option BlockCfg := none
  bindL : Option Nat := none
  bindH : Option Nat := none
  bindOn : Option Nat := none
  bindOff : Option Nat := none
  bam : Bool := false
  alertId : Nat := 0
  category : Byte := 0x42
  text : List Byte := []
  deriving DecidableEq, Repr, Inhabited

/-- One call group (R258, R259). -/
structure CallCfg where
  thr : BitVec 2 := 2
  t1 : Nat := 120
  t2 : Nat := 120
  list : BitVec 8 := 0
  deriving DecidableEq, Repr, Inhabited

/-- The dead-man timer (R260), times in seconds. -/
structure DeadCfg where
  group : Fin 8 := 0
  tDm : Nat := 1620
  tPre : Nat := 180
  deriving DecidableEq, Repr, Inhabited

/-- Pair modes (R286). -/
inductive PairMode | single | copy | twin
  deriving DecidableEq, Repr, Inhabited

/-- The station plan and pair settings (R272, R284, R286, R292, R295, R298, R299). -/
structure PlanCfg where
  mode : PairMode := .single
  pref : Option (BitVec 2) := none
  members : BitVec 4 := 0
  pairPos : BitVec 2 := 0
  digest : Word := 0
  exerciseH : Nat := 0
  wcDelta : Nat := 0
  twinSet : List Nat := []
  exports : List (Nat × List Nat) := []
  imports : List (Nat × List (Nat × Option Word)) := []
  deriving DecidableEq, Repr, Inhabited

/-- One remote station of the position (R305, R315 to R317, R320): lengths in bytes, type code, substitutes of its
input words (`none` holds last), safe values of its output words. -/
structure StationCfg where
  inLen : Nat := 0
  outLen : Nat := 0
  typ : Word := 0
  subst : List (Option Word) := []
  safe : List Word := []
  deriving DecidableEq, Repr, Inhabited

/-- The field ring (R304, R305, R308). -/
structure RingCfg where
  etherType : BitVec 16 := 0x88B5
  mcast : BitVec 48 := 0x034151465200
  stations : List (Nat × StationCfg) := []
  deriving DecidableEq, Repr, Inhabited

/-- One Modbus table entry (R335, R336): an object-space register or a tag, 16 or 32 bits, writable or not. -/
structure MbEntry where
  isTag : Bool := false
  addr : Nat := 0
  wide : Bool := false
  writable : Bool := false
  deriving DecidableEq, Repr, Inhabited

/-- Network settings (R325, R327, R329, R335 to R338, R263, R264). -/
structure NetCfg where
  ip : Word := 0
  mask : Word := 0
  gw : Word := 0
  stnIp : Word := 0
  port : Nat := 47810
  keys : List (List Byte) := []
  ntpServers : Nat := 0
  pollS : Nat := 64
  mbWr : Bool := false
  holding : List (Nat × MbEntry) := []
  inputs : List (Nat × MbEntry) := []
  hbtInt : Nat := 60
  udpSource : List Byte := []
  udpTalker : List Byte := []
  udpGroup : List Byte := [0x4D, 0x49, 0x53, 0x43]
  udpPort : Nat := 0
  acnEn : Bool := false
  deriving DecidableEq, Repr, Inhabited

/-- Panel settings (R387, R388, R391, R394, R401, R405): pages defined and alarm pages, the waveform mode per class
(other, alarm, Chop), FRAME in 10 µs, the front light in %, geometry overrides, the waveform set's identity and its tables, the
gamma tables by colour plane, where a missing one is linear (R396), the tags whose values each page names. -/
structure PanelCfg where
  pages : BitVec 64 := 0
  alarmPages : BitVec 64 := 0
  modeOther : BitVec 2 := 0
  modeAlarm : BitVec 2 := 1
  modeChop : BitVec 2 := 0
  frame : Nat := 1250
  fl : Nat := 0
  cols : Option Nat := none
  rows : Option Nat := none
  filter : Option (BitVec 2) := none
  vcom : Option Int := none
  setId : Word := 0
  waves : List (List Byte) := []
  gamma : List (List (BitVec 4)) := []
  pageTags : List (Nat × List Nat) := []
  deriving DecidableEq, Repr, Inhabited

/-- A line of the panel's alarm list: the point, its priority, which sets the line's place and colour, the code of its state, its text
(R251, R391). -/
structure AlarmLine where
  point : Nat
  prio : BitVec 2
  state : Nat
  text : List Byte
  deriving DecidableEq, Repr, Inhabited

/-- The alarm summary of a cell as a page shows it (R253, R391). -/
structure CellLine where
  cell : Nat
  prio : BitVec 2
  active : Nat
  unack : Nat
  marks : Bool × Bool × Bool
  deriving DecidableEq, Repr, Inhabited

/-- What the Chop's rectangle shows of a used port: the meter total, the grade in force with its total, the fault mark (R386). -/
structure ChopPortFace where
  port : Nat
  total : BitVec 64
  grade : BitVec 4
  gradeTotal : BitVec 64
  fault : Nat
  deriving DecidableEq, Repr, Inhabited

/-- What the Chop's rectangle shows: its ports, the firmware identity, MTR_AUDIT, SWITCH_OPEN, and the fault that stops all totalising
(R383, R386). -/
structure ChopFace where
  ports : List ChopPortFace
  fwid : BitVec 32
  fwchk : BitVec 32
  audit : BitVec 32
  switchOpen : Bool
  romFault : Bool
  paramFault : Bool
  deriving DecidableEq, Repr, Inhabited

/-- What a drawing shows (R386, R391): a page with the alarm list, the cell status, the mark of R80 and the values it names; the standby
page; the survey grid with the reason of Decaf (R441); the Chop's rectangle. -/
inductive PanelContent
  | nothing
  | page (n : BitVec 6) (alarms : List AlarmLine) (cells : List CellLine) (unsaved : Bool) (values : List (Nat × BitVec 32))
  | standby (ready : Bool)
  | builtin (reason : BitVec 8) (grid : List (BitVec 4 × Bool))
  | chop (f : ChopFace)
  deriving DecidableEq, Repr, Inhabited

/-- A pixel's drive code of a frame (R388). -/
inductive Drive | none_ | positive | negative
  deriving DecidableEq, Repr, Inhabited

/-- The inverse of a drive code (R403). -/
def Drive.inverse : Drive → Drive
  | .none_ => .none_
  | .positive => .negative
  | .negative => .positive

/-- The settings of a configuration image (R431, R432), its identity (R433) and the half it came from. Settings take the
defaults their chapters give. -/
structure Image where
  half : Nat := 0
  len : Nat := 0
  digest : BitVec 256 := 0
  slots : BitVec 4 := 0xF
  chop : Bool := false
  minFw : Word := 0
  stnId : BitVec 16 := 0
  entry : Nat := 0
  entryA : Nat := 0
  entryB : Nat := 0
  worstOps : Nat := 0
  split : Bool := false
  code : List (Nat × Word) := []
  varLo : Nat := 0
  varHi : Nat := 0
  constLo : Nat := 0
  constHi : Nat := 0
  init : List (Nat × Word) := []
  outInit : List (Nat × Word) := []
  retain : List Nat := []
  safetyTags : List Nat := []
  boundIn : List (Nat × Bool) := []
  boundOut : List (Nat × Bool) := []
  outPartB : List Nat := []
  cells : List CellCfg := []
  cycleUs : Nat := 10000
  deadlineUs : Nat := 50
  offsetUs : Nat := 5000
  floorA : Nat := 0
  floorB : Nat := 0
  splitFloorA : Nat := 0
  splitFloorB : Nat := 0
  vminMv : Nat := 720
  vunshedMv : Nat := 900
  ceilingMw : Nat := 15000
  slUnused : List Nat := []
  slOneLane : List Nat := []
  channels : List (Nat × ChanCfg) := []
  loops : List (Nat × LoopCfg) := []
  loopGroups : List (Nat × LoopGroupCfg) := []
  traces : List (Nat × TraceCfg) := []
  slotsCfg : List (Nat × SlotCfg) := []
  pairsCfg : List (Nat × PairCfg) := []
  safetyDigest : Word := 0
  points : List (Nat × PointCfg) := []
  calls : List (Nat × CallCfg) := []
  dead : Option DeadCfg := none
  plan : PlanCfg := {}
  ring : RingCfg := {}
  net : NetCfg := {}
  panel : PanelCfg := {}
  retainDigest : Word := 0
  carry : List (Nat × Nat) := []
  keysRec : Option (List (List Byte)) := none
  pubkey : List Byte := []
  appLimits : List (Nat × Nat) := []
  deriving DecidableEq, Repr, Inhabited

/-- The image a module without one is taken to hold: every setting at its default. -/
def Image.blank : Image := {}

end Sys2Proof.Machine
end

