-- ==== Sys2Proof/Config.lean ====
section
/-! DEFINITION. What the spec leaves open: opaque constants that nothing can evaluate, applied to what they depend on or
to the state's count of free values. -/

namespace Sys2Proof

/-- The reasons of a self-diagnosis fault, by the names the chapters give them. -/
inductive FaultReason
  /-- R95 row 4. -/
  | inputCopy
  /-- R95 row 5. -/
  | output
  /-- R95 row 3. -/
  | sequence
  /-- R102. -/
  | dataDigest
  /-- R103. -/
  | persistent
  /-- R95 row 2. -/
  | code
  /-- R95 row 1. -/
  | queueCheck
  /-- R98. -/
  | stalledCompare
  /-- R99. -/
  | stalledLane
  /-- R54. -/
  | storeToConstant
  /-- R56. -/
  | illegalOperation
  /-- R61. -/
  | laneAddress
  /-- R69. -/
  | cellOrder
  /-- R75. -/
  | consecutiveOverrun
  /-- R52, R285: an uncorrectable error in a memory. -/
  | memory
  /-- R37. -/
  | timeReference
  /-- R135. -/
  | loopLate
  /-- R136. -/
  | loopEngine
  /-- R246. -/
  | alarmLate
  /-- R465. -/
  | overtemperature
  /-- R106, R285: the injection test of R105 failed in service. -/
  | selfTest
  deriving DecidableEq, Repr, Inhabited

namespace Config

/-- The n-th free value (log 7). -/
opaque freeWord : Nat → Word
/-- The number a self-diagnosis record gives a reason: the spec names the reasons and numbers none (log 15). -/
opaque reasonCode : FaultReason → Word
/-- The settings that the records of an image carry, by record type and data: their layout is not in the spec (log 4). The records
of Tchiori's types are not among them (R432). -/
opaque imageSettings : List (Nat × List Byte) → Machine.Image
/-- The Engineer key that a module as delivered carries on its label, by serial number (R329, log 43). -/
opaque labelKey : Word → List Byte
/-- The frames that a waveform table holds: its layout is not in the spec (R389, R394, log 11). -/
opaque waveFrames : List Byte → Nat
/-- The tables of the ROM's generic waveform set (R394, log 11). -/
opaque romWaves : List (List Byte)
/-- The intensity that the n-th drawing, of a content, gives the pixel of a column and row; none where the page leaves it undefined.
Page layouts are not in the spec (R390, R391, log 17). -/
opaque intensity : Nat → Machine.PanelContent → Nat → Nat → Option Byte
/-- The drive code that a waveform table gives a pixel in a frame, from a level to a level: its layout is not in the spec (R388, R394,
log 11). -/
opaque driveCode : List Byte → BitVec 4 → BitVec 4 → Nat → Machine.Drive
/-- The colour plane of the filter element at a place of the 2 × 2 mosaic, whose order the spec does not give (R405, log 126). -/
opaque mosaic : Nat → Nat → Fin 4
/-- The level of a white pixel, which the spec does not number (R394, log 126). -/
opaque whiteLevel : BitVec 4
/-- Whether the last OUTPUT of a cycle at both floors can leave by TO less 50 µs (R313): the times of the cells and of their
compare, which it needs, have no place in the spec's image (log 46). -/
opaque lastOutputInTime : Machine.Image → Bool

end Config

end Sys2Proof
end

