-- ==== Sys2Proof/Machine/State.lean ====
section
/-! DEFINITION. The state of the module as plain data: every register, queue, store and mode the spec names, one structure per
subsystem of R15, the faults and refusals a step can end in, and the state after reset. Tables are lists of
(index, entry) pairs in rising index order; an index that is not listed holds the entry's default (log 2). A status
register that is only a view of other state has no field: Machine/RegView.lean composes it (log 3). -/

namespace Sys2Proof.Machine

/-- A sparse table: (index, entry) pairs, indices strictly rising, no entry equal to the default. -/
abbrev Tab (α : Type) := List (Nat × α)

/-! ### Supervisor (R22, R406 to R427) -/

/-- The module states of R22. -/
inductive ModState | start | run | commissioning | hold | decaf | safe
  deriving DecidableEq, Repr, Inhabited

/-- The reset classes of R11. -/
inductive ResetClass | p | b | x | s | w
  deriving DecidableEq, Repr, Inhabited

/-- Where the module stands between a reset's cause and Run (R418, R436): internal supplies stopped; a reset entry
whose flush runs; internal reset asserted; start sequence allowed to begin; role wait; waiting for the first T0 of Run;
none of these. -/
inductive Phase
  | off
  | entry (c : ResetClass) (cause : Byte)
  | reset (c : ResetClass) (cause : Byte)
  | starting
  | roleWait
  | waitT0
  | up
  deriving DecidableEq, Repr, Inhabited

/-- The role of a module (R22). -/
inductive Role | single | active | standby
  deriving DecidableEq, Repr, Inhabited

/-- The supervisor: module state, supplies, resets, retention (R22, R23, R406 to R427). `rtc` is the RTC at the timebase
instant `rtcAt`; `vinLow` says that VIN fell through the reset threshold and has not restarted (R411), `warnReset` that it
did so during the running warning (R409), `rstHighAt` since when the ignored pin reads high (R420). Voltages are in 10 mV, VBAK in
mV, times in µs of timebase. -/
structure Sup where
  mode : ModState := .start
  blank : Bool := false
  phase : Phase := .starting
  warmDue : Option Byte := none
  holdExit : Nat := 0
  holdRow : Bool := false
  vinWarn : Bool := false
  vinHigh : Bool := false
  unstable : Bool := false
  vbakLow : Bool := false
  rstStuck : Bool := false
  rstPin : Bool := false
  vinNow : BitVec 16 := 0
  vinMin : BitVec 16 := 0
  vbak : BitVec 12 := 0
  vinLow : Bool := false
  warnReset : Bool := false
  stuckDue : Bool := false
  rstHighAt : Option Nat := none
  retentionLost : Bool := false
  lastClass : ResetClass := .p
  lastCause : Byte := 1
  noWarn : Bool := false
  rcntP : Byte := 0
  rcntB : Byte := 0
  rcntX : Byte := 0
  rcntS : Byte := 0
  episodes : BitVec 16 := 0
  episodeAt : List Nat := []
  evt : Word := 0
  rtc : Word := 0
  rtcAt : Nat := 0
  rtcSet : Bool := false
  rtcValidShown : Bool := false
  mirrorStarts : Word := 0
  mirrorFails : BitVec 2 := 0
  mirrorOkShown : Bool := false
  mirrorDiff : Bool := false
  holdSince : Nat := 0
  holdSec : Word := 0
  cleared : Bool := false
  replayed : Bool := false
  deriving DecidableEq, Repr

/-! ### Timing, draw and barrier (R26 to R51) -/

/-- Timebase, gauges, governor, barrier (R27 to R51). `ticks` counts 40 ns of timebase (R35); `heldSince` is the instant since
which the governor has held at step 5 with the draw over the ceiling (R45), and `gauged` says that the gauges have been read since
the reset (R27). -/
structure Tim where
  ticks : Nat := 0
  tbRun : Bool := true
  qSeesTb : Bool := false
  tbSeesQ : Bool := false
  tickFault : Bool := false
  qtick : Word := 0
  gaugeA : BitVec 10 := 0
  gaugeB : BitVec 10 := 0
  lowA : BitVec 10 := 0x3FF
  lowB : BitVec 10 := 0x3FF
  gauged : Bool := false
  vcore : BitVec 10 := 900
  lastRaise : Option Nat := none
  tj : Int := 0
  drawAvg : BitVec 16 := 0
  drawPeak : BitVec 16 := 0
  ceilOp : BitVec 16 := 0
  boHold : Bool := false
  shed : Nat := 0
  lastTaken : Option Nat := none
  lastRestore : Option Nat := none
  heldSince : Option Nat := none
  underSince : Option Nat := none
  okSince : Option Nat := none
  agreeSince : Option Nat := none
  guardSince : Option Nat := none
  gaugeDis : Bool := false
  floorLost : Bool := false
  unattain : Bool := false
  evt : Word := 0
  barrierMw : BitVec 16 := 0
  barLimit : Bool := false
  deriving DecidableEq, Repr

/-! ### Nib lanes, cells, online change, forces (R52 to R88) -/

/-- Why a lane executes or not (R55, R58, R76, R94). -/
inductive LaneRun | idle | running | waiting | ended | stopped
  deriving DecidableEq, Repr, Inhabited

/-- A checkpoint entry (R93): its 16 content bytes by field, and its CHECK. -/
structure Ckpt where
  cell : BitVec 16 := 0
  kind : Byte := 0
  ops : Word := 0
  sigOut : Word := 0
  sigReg : Word := 0
  check : BitVec 16 := 0
  deriving DecidableEq, Repr

/-- A write or record that a lane queued for TO (R66). -/
inductive Queued
  | objwr (addr value : Word)
  | evpost (code : BitVec 16) (a b : Word) (cell : Nat)
  deriving DecidableEq, Repr

/-- One lane (R52, R57, R91, R94): registers g0 to g63, data memory, its copy of the input image, output words written,
signatures, open cells (innermost first, the root not listed), queued writes. -/
structure LaneSt where
  g : Tab Word := []
  pc : Nat := 0
  st : LaneRun := .idle
  data : Tab Word := []
  inp : Tab Word := []
  sigOut : Word := 0
  sigReg : Word := 0
  inCheck : Word := 0
  ops : Word := 0
  opened : List Nat := []
  scanned : List Nat := []
  wrote : List Nat := []
  outs : Tab Word := []
  queue : List Queued := []
  objCnt : Nat := 0
  blocked : Option Ckpt := none
  deriving DecidableEq, Repr

/-- Where the present cycle stands (R20, R73, R74, R96): between cycles; window not open; executing; compare complete. -/
inductive CycPhase | idle | inputs | window | compared
  deriving DecidableEq, Repr, Inhabited

/-- One cell's live state: own APP value, mode, status bits of the last computation (R70, R71). -/
structure CellSt where
  app : Byte := 0
  mode : BitVec 4 := 0
  status : Word := 0
  divergedAt : Option Nat := none
  qbad : Bool := false
  ovr : Bool := false
  deriving DecidableEq, Repr

/-- What waits for the first T0 at least two cycles after acceptance (R79, R81, R110, R180, R425), or for the T0 a
partner confirmation allows. -/
inductive T0Act
  | maint (g : Fin 6) (enter : Bool)
  | change (batch : List OlcEntry)
  | force (t : ForceTarget) (v : Option Word)
  | releaseCell (c : Nat)
  | split
  | rejoin
  | clearRetain
  | holdIn
  | resumeIn
  deriving DecidableEq, Repr

/-- A waiting act and the timebase instant, in µs, at which it was accepted; `held` in the partner of the module that
accepted it, until that one has the confirmation (R79). -/
structure Sched where
  at_ : Nat
  act : T0Act
  held : Bool := false
  deriving DecidableEq, Repr

/-- The program cycle, online change, forces and cells (R72 to R88). -/
structure Cyc where
  phase : CycPhase := .idle
  count : BitVec 64 := 0
  firstDue : Bool := true
  late : Bool := false
  t0Us : Nat := 0
  openUs : Nat := 0
  execLast : BitVec 20 := 0
  execMax : BitVec 20 := 0
  opsLast : Word := 0
  ovrLast : Bool := false
  ovrCount : BitVec 16 := 0
  evt : Word := 0
  inputs : Tab Word := []
  code : Tab Word := []
  outImg : Tab Word := []
  released : Tab Word := []
  snapFresh : Bool := false
  consts : List (Nat × Word) := []
  unsaved : Bool := false
  forces : List (ForceTarget × Word) := []
  sched : List Sched := []
  cells : Tab CellSt := []
  retain : Tab Word := []
  retainModes : Tab (BitVec 4) := []
  retainLoops : Tab (BitVec 2 × Word) := []
  loopLayout : List (List Nat) := []
  retainDigest : Word := 0
  journal : Option (List (Nat × Word)) := none
  snapshot : Tab Word := []
  objVals : List (Word × Word) := []
  deriving DecidableEq, Repr

/-- Lane modes (R110, R113). -/
inductive LaneMode | checked | split | rejoining
  deriving DecidableEq, Repr, Inhabited

/-- The comparator (R89 to R113). `rejoinDue` says that the first TO of a prepared rejoin was an overrun, whose late cycle ends before
the copies (R111). -/
structure Cmp where
  mode : LaneMode := .checked
  pending : Bool := false
  rejoinAt : Option Nat := none
  rejoinTested : Bool := false
  rejoinHeld : Bool := false
  rejoinDue : Bool := false
  divPend : Bool := false
  marked : Option Nat := none
  queueA : List Ckpt := []
  queueB : List Ckpt := []
  judged : Nat := 0
  endJudged : Bool := false
  faulted : Bool := false
  qMax : BitVec 7 := 0
  sigOutA : Word := 0
  sigOutB : Word := 0
  sigRegA : Word := 0
  sigRegB : Word := 0
  divVerdict : BitVec 2 := 0
  divCell : BitVec 12 := 0
  divCycle : Word := 0
  benignTotal : BitVec 16 := 0
  benignAt : List Nat := []
  faultReason : Byte := 0
  faultCell : BitVec 12 := 0
  testDone : Bool := false
  testPass : Bool := false
  testFirst : Byte := 0xFF
  testMisses : Byte := 0
  testDur : Byte := 0
  xw : BitVec 16 := 0
  rejoinBlock : Bool := false
  obs : BitVec 5 := 0
  obsMism : Byte := 0
  obsFault : Bool := false
  evt : Word := 0
  deriving DecidableEq, Repr

/-! ### Loop engine (R114 to R144) -/

/-- One loop slot's state (R118 to R139, R144). Words are binary32 unless a bit pattern is named. -/
structure LoopSt where
  mode : BitVec 2 := 0
  man : Word := 0
  spop : Word := 0
  opReq : Option (BitVec 2) := none
  progReq : Option (BitVec 2) := none
  progMan : Option Word := none
  words : List Word := []
  prevReq : Option (BitVec 2) := none
  prevMan : Option Word := none
  prevTrig : Bool := false
  trig : Bool := false
  params : List Word := []
  pv : Word := 0
  sp : Word := 0
  out : Word := 0
  cand : Word := 0
  p : Word := 0
  i : Word := 0
  d : Word := 0
  ff : Word := 0
  edPrev : Word := 0
  err : Word := 0
  kps : Word := 0
  kp : Word := 0
  ti : Word := 0
  td : Word := 0
  begun : Bool := false
  pend : Bool := false
  lastMode : BitVec 2 := 0
  stNan : Bool := false
  stKbad : Bool := false
  stMism : Bool := false
  stTake : Bool := false
  stTrack : Bool := false
  stOver : Bool := false
  stCompl : Bool := false
  stPvBad : Bool := false
  stRate : Bool := false
  stLim : Bool := false
  stClamped : Bool := false
  winner : Bool := false
  modeChanged : Bool := false
  complStart : Bool := false
  evt : Word := 0
  wins : BitVec 16 := 0
  mism : Byte := 0
  deriving DecidableEq, Repr

/-- One competition group's state (R126 to R128). -/
structure LoopGroupSt where
  winner : BitVec 7 := 0
  prev : BitVec 7 := 0
  out : Word := 0
  switches : BitVec 16 := 0
  known : Bool := false
  changed : Bool := false
  deriving DecidableEq, Repr

/-- Trace channel states (R141). -/
inductive TraceState | idle | armed | capturing | done | shed
  deriving DecidableEq, Repr, Inhabited

/-- One trace channel (R140 to R144). -/
structure TraceSt where
  cfg : Word := 1
  trig : Word := 0
  level : Word := 0
  st : TraceState := .idle
  trunc : Bool := false
  capshed : Bool := false
  count : Nat := 0
  wridx : BitVec 13 := 0
  tlo : Word := 0
  thi : Word := 0
  orig : BitVec 13 := 0
  decim : Nat := 0
  post : Nat := 0
  last : Word := 0x7FC00000
  fired : Bool := false
  linked : Bool := false
  mem : Tab Word := []
  deriving DecidableEq, Repr

/-- The loop engine (R114 to R144). -/
structure Lpe where
  slots : Tab LoopSt := []
  groups : Tab LoopGroupSt := []
  traces : Tab TraceSt := []
  held : Bool := false
  testDone : Bool := false
  testPass : Bool := false
  tickLast : BitVec 16 := 0
  tickMax : BitVec 16 := 0
  mismTotal : BitVec 16 := 0
  mismAt : List Nat := []
  evt : Word := 0
  transferred : Bool := false
  firstTransfer : Bool := true
  handoff : Tab Word := []
  deriving DecidableEq, Repr

/-! ### Field groups, channels, current loops (R145 to R202) -/

/-- One channel's state (R149 to R173, R183 to R202). The `q…` flags are the conditions behind the quality codes of R151.
`value` is the word shown, `live` the latest measured, `fz` the word an input froze on (R175). `offRun` counts the PWM periods in
a row whose off time read high, and below 0 those that read low (R162); `sense` is the closed sense path or the excitation of a
shared input (R173), `qAt` the instant at which the Quill's filtered state last changed (R239). -/
structure Chan where
  raw : Bool := false
  filt : Bool := false
  cnt : Nat := 0
  qcnt : Nat := 0
  qfilt : Bool := false
  changes : Nat := 0
  hasValue : Bool := false
  value : Word := 0
  live : Word := 0
  hist : List (Nat × Word) := []
  frozen : Bool := false
  fz : Word := 0
  heldE : Bool := false
  subst : Word := 0
  qShort : Bool := false
  qSupply : Bool := false
  qCross : Bool := false
  qOpen : Bool := false
  qImbal : Bool := false
  qPartner : Bool := false
  qCompl : Bool := false
  qCold : Bool := false
  qNeLow : Bool := false
  qNeHigh : Bool := false
  qOver : Bool := false
  range : Bool := false
  rangeShown : Bool := false
  code : BitVec 4 := 0xE
  cmd : Word := 0
  stage : Bool := false
  tripped : Bool := false
  supplyOff : Bool := false
  dark : Bool := false
  duty : Word := 0
  duties : List Nat := []
  offRun : Int := 0
  rbVolt : BitVec 16 := 0
  rbCur : BitVec 16 := 0
  rawCode : BitVec 24 := 0
  coldJ : Int := 0
  evt : Word := 0
  faults : BitVec 16 := 0
  retries : BitVec 16 := 0
  ltarget : Word := 0
  lclamp : Word := 0
  lclamped : Bool := false
  ldrive : Bool := false
  lmean : Int := 0
  lrunLow : Nat := 0
  lrunHigh : Nat := 0
  lrunIn : Nat := 0
  lrunOpen : Nat := 0
  lrunLive : Nat := 0
  lopen : Bool := false
  lover : Bool := false
  lramp : Bool := false
  lrampFrom : Word := 0
  lrampAt : Nat := 0
  lpartner : Bool := false
  sense : Bool := false
  qAt : Nat := 0
  levt : Word := 0
  deriving DecidableEq, Repr

/-- Supply levels of a group (R174). -/
inductive Level | normal | warning | fault | missing
  deriving DecidableEq, Repr, Inhabited

/-- One field group's state (R174 to R183). `seqLane` and `seqQuill` number the latest frame slot of each coupler stream,
`missLane` and `missQuill` count the slots since the last frame that passed its check. -/
structure Group where
  level : Level := .normal
  warnOn : Bool := false
  high : Bool := false
  link : Bool := true
  quillLost : Bool := false
  maint : Bool := false
  maintPend : Bool := false
  outWait : Bool := false
  suppr : Bool := false
  sagArmed : Bool := false
  volt : BitVec 16 := 0
  voltMin : BitVec 16 := 0
  current : BitVec 16 := 0
  cj : Int := 0
  seqLane : BitVec 16 := 0
  seqQuill : Byte := 0
  missLane : Nat := 0
  missQuill : Nat := 0
  evt : Word := 0
  cntWarn : BitVec 16 := 0
  cntFault : BitVec 16 := 0
  deriving DecidableEq, Repr

/-- An open trim session (R191). -/
structure TrimSession where
  ch : Fin 96
  point : TrimPoint
  pending : Int
  deriving DecidableEq, Repr

/-- Zero and span trim of a channel in µA (R189). -/
structure Trim where
  z : Int := 0
  s : Int := 0
  bad : Bool := false
  deriving DecidableEq, Repr

/-- Field groups and channel front ends (R145 to R202). Channel n is index n − 1, FGg is index g − 1. -/
structure Fch where
  ch : Tab Chan := []
  grp : Tab Group := []
  evt : Word := 0
  ses : Option TrimSession := none
  pinUp : Bool := false
  pinDn : Bool := false
  pinSet : Bool := false
  stuckUp : Bool := false
  stuckDn : Bool := false
  stuckSet : Bool := false
  trims : Tab Trim := []
  shunt : BitVec 16 := 25000
  partnerShunt : BitVec 16 := 0
  partnerTrims : Tab Trim := []
  deriving DecidableEq, Repr

/-! ### Safety functions and the Quill (R203 to R239) -/

/-- Slot states (R211). -/
inductive SlotState | demanded | released | awaiting | fault
  deriving DecidableEq, Repr, Inhabited

/-- One safety slot (R211 to R234). `missed` counts, by input, the periods in a row whose dark pulse failed its check, and
`crossed` marks the inputs on which another source's pulse was last seen (R223). -/
structure Slot where
  st : SlotState := .demanded
  fault : Byte := 0
  delaying : Bool := false
  startupPend : Bool := false
  syncMiss : Bool := false
  rearmed : Bool := false
  firstButton : Bool := false
  ext : Bool := false
  testing : Bool := false
  testFailed : Bool := false
  rstStuck : Bool := false
  torque : Bool := false
  allDemand : Bool := false
  missed : Tab Nat := []
  crossed : BitVec 4 := 0
  cntFault : Byte := 0
  cntLong : Byte := 0
  cntDemand : BitVec 16 := 0
  refused : Nat := 0
  syncCnt : Nat := 0
  rstOffAt : Option Nat := none
  deriving DecidableEq, Repr

/-- One safe output pair (R203 to R229). -/
structure Pair where
  qen : Bool := false
  len : Bool := false
  req : Bool := false
  on : Bool := false
  sag : Bool := false
  maint : Bool := false
  edm : Bool := false
  stuck : Bool := false
  short : Bool := false
  failP : Nat := 0
  failM : Nat := 0
  offAt : Nat := 0
  cntLatch : BitVec 16 := 0
  cntOn : BitVec 16 := 0
  deriving DecidableEq, Repr

/-- The Quill (R203 to R239). -/
structure Saf where
  slots : Tab Slot := []
  pairs : Tab Pair := []
  tickFault : Bool := false
  rspMax : BitVec 16 := 0
  brkAge : Tab Nat := []
  brkKeys : List (List Nat) := []
  deriving DecidableEq, Repr

/-! ### Alarm engine and engineer call (R240 to R265) -/

/-- Point states (R248). -/
inductive PointState | normal | activeUnack | activeAck | returnedUnack | shelved | blocked
  deriving DecidableEq, Repr, Inhabited

/-- One alarm point (R240 to R254, R263). Counts are in evaluations of 10 ms; `shelfNew` says that the shelf began with the commands
of this evaluation, `restore` that MRAM held the point Returned, unacknowledged and its condition has not been evaluated since the
start (R250). -/
structure Point where
  st : PointState := .normal
  value : Word := 0
  cond : Bool := false
  onCnt : Nat := 0
  offCnt : Nat := 0
  onServed : Bool := false
  blocking : Bool := false
  blockSrc : Bool := false
  relCnt : Nat := 0
  suppr : Bool := false
  srcBad : Bool := false
  held : Bool := false
  silenced : Bool := false
  shelfEval : Nat := 0
  shelfNew : Bool := false
  restore : Bool := false
  window : List Word := []
  rev : Nat := 0
  esc : Nat := 0
  deriving DecidableEq, Repr

/-- What MRAM keeps of a point (R250): returned and unacknowledged, and the remaining shelf time in minutes. -/
structure PointMram where
  retUnack : Bool := false
  shelf : Nat := 0
  deriving DecidableEq, Repr

/-- A cell's alarm summary, and its state as a group alarm (R253, R254). -/
structure CellAlm where
  active : Nat := 0
  unack : Nat := 0
  prio : BitVec 2 := 0
  shelved : Bool := false
  blocked : Bool := false
  suppr : Bool := false
  silenced : Bool := false
  rev : Nat := 0
  esc : Nat := 0
  deriving DecidableEq, Repr

/-- Call states (R259). -/
inductive CallState | none_ | calling | accepted
  deriving DecidableEq, Repr, Inhabited

/-- One call group's live state (R258, R259). -/
structure Call where
  st : CallState := .none_
  stage : BitVec 2 := 0
  accepted : BitVec 3 := 0
  members : Nat := 0
  startUs : Nat := 0
  stageUs : Nat := 0
  starter : Nat := 0
  calls : BitVec 16 := 0
  escalations : BitVec 16 := 0
  deriving DecidableEq, Repr

/-- The duty assignment of a call group, kept in MRAM (R258). -/
structure Duty where
  assigned : Bool := false
  duty : BitVec 3 := 0
  backup : BitVec 3 := 0
  deriving DecidableEq, Repr

/-- Dead-man states (R260). -/
inductive DeadState | off | running | prewarn | alarm
  deriving DecidableEq, Repr, Inhabited

/-- An alarm command in line for the next evaluation, with its path; `seen` limits an acknowledgement to those points (R247, R257,
R262). -/
structure AlmCmd where
  path : AlmPath
  word : Word
  seen : Option (List Nat) := none
  deriving DecidableEq, Repr

/-- The alarm engine (R240 to R265). -/
structure Alm where
  points : Tab Point := []
  mram : Tab PointMram := []
  cells : Tab CellAlm := []
  calls : Tab Call := []
  duty : Tab Duty := []
  dead : DeadState := .off
  deadEngineer : BitVec 3 := 0
  deadSince : Nat := 0
  cmds : List AlmCmd := []
  fresh : List Nat := []
  almN : Bool := false
  evt : Word := 0
  evalLast : BitVec 16 := 0
  evalMax : BitVec 16 := 0
  ovrUs : Option Nat := none
  hbtSeq : Nat := 0
  line : Nat := 0
  deriving DecidableEq, Repr

/-! ### The Chop's parameters, meters and export (R371 to R385) -/

/-- One port's parameters (R379). `kfactor` and `toffset` are binary32. -/
structure ChopPortPar where
  mode : BitVec 2 := 0
  kfactor : Word := 0x3F800000
  errlim : Nat := 10
  grades : BitVec 4 := 1
  toffset : Word := 0
  deriving DecidableEq, Repr

/-- One grade's parameters (R379): ALPHA as binary32, the four characters of GNAME. -/
structure GradePar where
  alpha : Word := 0x3A378034
  name : Word := 0
  deriving DecidableEq, Repr

/-- One meter port's measuring state (R374 to R378): the quadrature position, pulses of the running step, the runs behind
the faults (bit c of `causes`: fault c + 1), totals in whole units. `upSeen` and `downSeen` are the edges of the last channel that a
repetition is told by; `overCycles` counts the valid cycles since over range was declared. Temperatures, fractions and the history of
a second are binary64. -/
structure Meter where
  phase : Int := 0
  highA : Bool := false
  highB : Bool := false
  lastChan : Option MeterChan := none
  runChan : Nat := 0
  upSeen : Bool := false
  downSeen : Bool := false
  stepPulses : Nat := 0
  stepFault : Nat := 0
  stepGrade : BitVec 4 := 0
  sinceValid : Nat := 0
  cycles : Nat := 0
  errors : BitVec 16 := 0
  errWindow : List Nat := []
  valid : Nat := 0
  overCycles : Nat := 0
  causes : BitVec 4 := 0
  faults : BitVec 16 := 0
  ptOk : Nat := 0
  fastRun : Nat := 0
  slowRun : Nat := 0
  back : Word := 0
  grade : BitVec 4 := 0
  gradeUnk : Bool := false
  ftot : BitVec 64 := 0
  utot : BitVec 64 := 0
  gtot : List (BitVec 64) := [0, 0, 0, 0]
  ffrac : Nat := 0
  ufrac : Nat := 0
  gfrac : List Nat := [0, 0, 0, 0]
  measured : Bool := false
  temp : Nat := 0
  lastTemp : Nat := 0
  cur : Word := 0
  flow : Word := 0
  history : List Nat := []
  deriving DecidableEq, Repr

/-- An audit record of the trail (R382) without its CHECK. -/
structure Audit where
  audit : Word
  opsec : Word
  pon : BitVec 16
  param : BitVec 16
  index : Byte
  kind : Byte
  old : Word
  new : Word
  verifier : Word
  deriving DecidableEq, Repr

/-- A staged parameter value (R380, R381). -/
structure Staged where
  param : BitVec 16
  index : Byte
  value : List Byte
  deriving DecidableEq, Repr

/-- What an export frame carries into the MTR region (R384, R385). -/
structure ChopView where
  stat : Word := 0
  fwid : Word := 0
  fwchk : Word := 0
  serial : Word := 0
  audit : Word := 0
  pon : Word := 0
  opsec : Word := 0
  meters : Tab Meter := []
  modes : List (BitVec 2) := []
  kfs : List Word := []
  grades : List GradePar := []
  trail : List Audit := []
  deriving DecidableEq, Repr

/-! ### What the module sends -/

/-- The content of an ALF sentence (R263): manufacturer mnemonic code "AQR", alert identifier, instance, category, priority A, W or
C, state, revision and escalation counters, text. -/
structure Alf where
  code : List Byte := [0x41, 0x51, 0x52]
  alert : Nat
  inst : Nat := 1
  category : Byte
  prio : Byte
  state : Byte
  rev : Nat
  esc : Nat
  text : List Byte
  deriving DecidableEq, Repr

/-- What an IEC 61162-450 datagram carries beside its sentence (R337): the source identifier and the line counter of the tag block,
the talker identifier, the transmission group and the port. -/
structure UdpTag where
  source : List Byte
  line : Nat
  talker : List Byte
  group : List Byte
  port : Nat
  deriving DecidableEq, Repr

/-- A message or line change the module puts on its wires, in order (log 6). -/
inductive Emit
  | relay (target : BitVec 8) (r : Req)
  /-- A response or a notification of the station protocol (R327). -/
  | message (m : Req)
  | modbus (h : MbHdr) (pdu : List Byte)
  | hello (port : Fin 3) (h : Hello)
  | timeMark (port : Fin 3) (ns : Int) (m : TimeMark)
  | carafe (f : CarafeFrame)
  | slAck (again : Bool)
  | slRelease
  | forward (stationUs : Int) (c : FwdCmd)
  | confirm (c : FwdCmd)
  | twinDigest (d : Word)
  | exports (port : Fin 3) (ws : List (Nat × Word))
  | ring (port : Option (Fin 2)) (f : RingFrame)
  | supervision (prp : Bool)
  | hsr (port : Fin 2)
  | alf (a : Alf)
  | alc (alerts : List Nat)
  | hbt (seqNo : Nat)
  /-- A sentence in its datagram (R337). -/
  | datagram (t : UdpTag) (e : Emit)
  | ntpRequest
  | gratuitousArp
  | chopExport (v : ChopView)
  /-- A response of the optical verifier port (R380). -/
  | verifier (m : Req)
  /-- A frame of the plant network: sent on PN1 and on PN2, each copy with the redundancy control trailer of that sequence number
  (R323). -/
  | lan (seq : BitVec 16) (e : Emit)
  /-- A station link frame: port, sender slot, 32-bit sequence of the port, content (R300). -/
  | link (port : Nat) (slot : BitVec 2) (seq : Word) (e : Emit)
  /-- A frame whose bit of that number an injector inverted, after its check value was computed (R301, R321). -/
  | inverted (bit : Nat) (e : Emit)
  deriving DecidableEq, Repr

/-! ### Pairs and stations (R266 to R303) -/

/-- What the partner's hello last reported, and its membership (R295). -/
structure Peer where
  present : Bool := false
  hello : Option Hello := none
  mism : Bool := false
  deriving DecidableEq, Repr

/-- One station link port (R268, R300, R301, R303). -/
structure SlPort where
  up : Bool := false
  lane0 : Bool := false
  lane1 : Bool := false
  shed : Bool := false
  delay : BitVec 16 := 0
  errCheck : BitVec 16 := 0
  errSeq : BitVec 16 := 0
  frames : Word := 0
  txSeq : Word := 0
  rxSeq : Option Word := none
  rxMask : BitVec 4 := 0
  inj : Word := 0
  injBit : Word := 0
  injSent : Nat := 0
  injCnt : Word := 0
  injHeld : Option Emit := none
  deriving DecidableEq, Repr

/-- A delta in staging (R289): its parts put together, the bytes after its header by frame, the numbers of its frames counted from
the first, and the number of the last once that has arrived. -/
structure Staging where
  frame : CarafeFrame
  crc : Word := 0
  after : Tab (List Byte) := []
  last : Option Nat := none
  deriving DecidableEq, Repr

/-- Where an accepted command came from, and so who is answered at its confirmation: a request with the rest of the answer's body, a
Modbus request with its answer, the program, an ACN sentence (R79, R257, R333, R336). -/
inductive Origin
  | sess (r : Req) (body : List Byte)
  | modbus (h : MbHdr) (pdu : List Byte)
  | program
  | acn
  deriving DecidableEq, Repr

/-- The pair and station manager (R266 to R303). `joinNeed` are the blocks of a join copy still to come, once its join record is
applied (R290); `heard` are the mean readbacks of the current-loop outputs, and whether they were good, as the partner gave up the
role (R200); `targets` its drive targets (R199); `carryTags` the old tags of a shadow partner's carry list (R294); `ackCycle` the
cycle of the last delta that was acknowledged (R278). -/
structure Pst where
  slot : BitVec 2 := 0
  member : Bool := false
  role : Role := .single
  ownDrive : Bool := false
  ownLow : Bool := false
  peerLow : Bool := false
  ilkFault : Bool := false
  releaseSeen : Option Nat := none
  xferDue : Option Byte := none
  takeoverDue : Bool := false
  decided : Option Role := none
  joined : Bool := false
  applied : Option (BitVec 64) := none
  ready : Bool := false
  shadow : Bool := false
  mixed : Bool := false
  instep : Bool := false
  copying : Bool := false
  joinLeft : List Nat := []
  wantJoin : Bool := false
  tbInhibit : Bool := false
  swapDue : Bool := false
  standbySince : Nat := 0
  ticks : Nat := 0
  toTick : Nat := 0
  applTick : Nat := 0
  toUs : Nat := 0
  sentUs : Nat := 0
  qualCycles : Nat := 0
  qualSince : Nat := 0
  peers : Tab Peer := []
  speaker : Option (BitVec 2) := none
  offsetNs : Int := 0
  terrLast : Int := 0
  terrMax : Nat := 0
  terrRun : Nat := 0
  copyLast : BitVec 16 := 0
  copyMax : BitVec 16 := 0
  copyTLast : BitVec 16 := 0
  copyTMax : BitVec 16 := 0
  xferCount : Byte := 0
  xferAge : Byte := 0
  xferReason : Byte := 0
  evt : Word := 0
  stale : BitVec 4 := 0
  absent : BitVec 4 := 0
  staleRun : Tab Nat := []
  imports : Tab (List (Nat × Word)) := []
  bistPasses : BitVec 16 := 0
  bistCorr : Byte := 0
  staging : Option Staging := none
  joinNeed : Option (List Nat) := none
  heard : List (Nat × (Int × Bool)) := []
  targets : Tab (Word × Bool) := []
  carryTags : List Nat := []
  ackCycle : Option (BitVec 64) := none
  requested : Bool := false
  ackDue : Bool := false
  lastSent : Option CarafeFrame := none
  unconfirmed : List (FwdCmd × Origin × Nat) := []
  ports : Tab SlPort := []
  testp : Bool := false
  deriving DecidableEq, Repr

/-! ### Field ring (R304 to R322) -/

/-- States of a remote station (R322). -/
inductive StnState | notJoined | granted | present | oneMiss | lost
  deriving DecidableEq, Repr, Inhabited

/-- One remote station (R305 to R322). `ports` marks the ports that its frames of this cycle came through, `portsLast` those of
the last cycle. -/
structure Stn where
  st : StnState := .notJoined
  status : BitVec 16 := 0
  subst : Bool := false
  ports : BitVec 2 := 0
  portsLast : BitVec 2 := 0
  missed : BitVec 16 := 0
  joins : Byte := 0
  losts : Byte := 0
  unack : BitVec 16 := 0
  typ : Word := 0
  outBase : Word := 0
  inBase : Word := 0
  cGrant : Word := 0
  joinPend : Option (List Byte) := none
  arrived : Bool := false
  sentSeq : Option (BitVec 16) := none
  fresh : Bool := false
  freshAcked : Bool := false
  seen : Bool := false
  outSent : Bool := false
  deriving DecidableEq, Repr

/-- One field ring port (R306, R321, R322). `linkSeq` is its own LINK counter, `linkRx` the neighbour's as last received
(R308). -/
structure RingPort where
  up : Bool := false
  link : Bool := false
  supv : Bool := false
  delay : BitVec 16 := 0
  errCheck : BitVec 16 := 0
  errFcs : BitVec 16 := 0
  frames : Word := 0
  linkSeq : Word := 0
  linkRx : Word := 0
  inj : Word := 0
  injBit : Word := 0
  injSent : Nat := 0
  injCnt : Word := 0
  injHeld : Option Emit := none
  deriving DecidableEq, Repr

/-- The field ring controller (R304 to R322). `syncC` is the station's cycle number C and `syncT0` the station time, in ns, of the
T0 that it counts (R310); `syncAt` is the station time at which the latest SYNC arrived (R311). -/
structure Frg where
  stns : Tab Stn := []
  ports : Tab RingPort := []
  pathLost : Bool := false
  syncOk : Bool := false
  evt : Word := 0
  inarrLast : BitVec 16 := 0
  inarrMax : BitVec 16 := 0
  syncT0 : Option Int := none
  syncAt : Option Int := none
  syncC : Word := 0
  outDone : Bool := false
  deadlineOver : Bool := false
  deriving DecidableEq, Repr

/-! ### Plant network (R323 to R342) -/

/-- One cursor with its window (R354, R355): a lane path's or a session's. -/
structure Cursor where
  cur : Word := 0
  skip : Word := 0
  state : BitVec 2 := 3
  checkOk : Bool := false
  fromRing : Bool := false
  snap : List Byte := []
  deriving DecidableEq, Repr

/-- One session (R329, R330, R334, R354, R367). `unacked`: notifications without acknowledgement, oldest first: SEQ, call
group, repeats sent. -/
structure Session where
  id : Word := 0
  level : BitVec 2 := 0
  opened : Bool := false
  ip : Word := 0
  seq : Word := 0
  key : List Byte := []
  clientNonce : List Byte := []
  moduleNonce : List Byte := []
  stnAddr : Bool := false
  sub : BitVec 8 := 0
  nseq : Word := 0
  unacked : List (Word × Nat × Nat) := []
  reqSec : Nat := 0
  reqCnt : Nat := 0
  cursor : Cursor := {}
  deriving DecidableEq, Repr

/-- One plant network port (R324, R342). -/
structure PnPort where
  link : Bool := false
  path : Bool := false
  speed : BitVec 2 := 0
  errFcs : BitVec 16 := 0
  errLan : BitVec 16 := 0
  deriving DecidableEq, Repr

/-- The plant network controller (R323 to R342). -/
structure Pnw where
  sessions : List Session := []
  authFail : BitVec 16 := 0
  discarded : BitVec 16 := 0
  failedAt : List (Word × Nat) := []
  blockedIp : List Word := []
  ip : Word := 0
  stnIp : Word := 0
  mask : Word := 0
  gw : Word := 0
  linkLocal : Bool := false
  pathLost : Bool := false
  ports : Tab PnPort := []
  seen : List (Word × BitVec 16 × Nat) := []
  evt : Word := 0
  mbConns : List Nat := []
  mbExc : BitVec 16 := 0
  utcOffset : Int := 0
  utcSync : Bool := false
  utcFirst : Bool := true
  utcServer : BitVec 2 := 0
  utcLastUs : Option Nat := none
  utcMark : Bool := false
  utcBig : Option Int := none
  keysIp : Word := 0
  keysStn : Word := 0
  keysMask : Word := 0
  keysGw : Word := 0
  levelKeys : List (List Byte) := []
  imageKeys : List (List Byte) := []
  polls : Nat := 0
  deriving DecidableEq, Repr

/-! ### Inkwell (R343 to R358) -/

/-- An Inkwell record (R343) without its CHECK, which R344 computes from it. -/
structure Rec where
  seq : Word
  time : BitVec 64
  code : BitVec 16
  source : BitVec 16
  cell : BitVec 16
  flags : BitVec 16
  a : Word
  b : Word
  deriving DecidableEq, Repr

/-- The Inkwell (R343 to R358). `ring` holds the unflushed records and `store` the flushed ones, oldest first. -/
structure Evr where
  next : Word := 0
  ring : List Rec := []
  store : List Rec := []
  dirSeq : Option Word := none
  running : Bool := false
  flushing : Bool := false
  flushUs : Nat := 0
  dropped : Word := 0
  dropRun : Nat := 0
  suppr : Word := 0
  lost : Word := 0
  lossPoint : Bool := false
  window : List (BitVec 16 × Nat × Nat) := []
  evt : Word := 0
  flushLast : BitVec 16 := 0
  flushMax : BitVec 16 := 0
  lanes : Cursor := {}
  deriving DecidableEq, Repr

/-! ### Check-value units (R359 to R370) -/

/-- One context (R360 to R370). `alg` is the algorithm in force since the last START. -/
structure Ctx where
  cfg : Word := 0
  alg : BitVec 2 := 0
  hdr0 : Word := 0
  hdr1 : Word := 0
  value : Word := 0
  count : BitVec 16 := 0
  matched : Bool := false
  compared : Bool := false
  deriving DecidableEq, Repr

/-- The check-value units (R359 to R370). A claim names the holding session. -/
structure Cvu where
  ctx : Tab Ctx := []
  claim6 : Option Word := none
  claim7 : Option Word := none
  evt : Word := 0
  deriving DecidableEq, Repr

/-! ### The Chop's state (R371 to R386) -/

/-- A copy of the Chop's parameter set (R371, R379). -/
structure ChopPars where
  ports : List ChopPortPar := [{}, {}, {}, {}]
  grades : List GradePar := [{ name := 0x3147 }, { name := 0x3247 }, { name := 0x3347 }, { name := 0x3447 }]
  key : List Byte := []
  deriving DecidableEq, Repr

/-- The Chop (R371 to R386). `ports`, `grades` and `key` are the first copy of the parameter set, the one in force, and `second` is
the other (R371, R383). -/
structure Chop where
  on : Bool := false
  romFault : Bool := false
  paramFault : Bool := false
  trailFull : Bool := false
  switchOpen : Bool := false
  closing : Bool := false
  ports : List ChopPortPar := [{}, {}, {}, {}]
  grades : List GradePar := [{ name := 0x3147 }, { name := 0x3247 }, { name := 0x3347 }, { name := 0x3447 }]
  key : List Byte := []
  second : ChopPars := {}
  meters : Tab Meter := []
  staged : List Staged := []
  trail : List Audit := []
  audit : Word := 0
  pon : Word := 0
  opsecSteps : Nat := 0
  serial : Word := 0
  fwid : Word := 0
  fwchk : Word := 0
  session : Option Session := none
  verifier : Word := 0
  rotate : Nat := 0
  frame : Option ChopView := none
  deriving DecidableEq, Repr

/-- The MTR region's copy of the latest export (R384, R385). -/
structure Mtr where
  view : ChopView := {}
  valid : Bool := false
  stale : Bool := false
  failures : BitVec 16 := 0
  frames : BitVec 16 := 0
  lastUs : Nat := 0
  trail : Tab Audit := []
  deriving DecidableEq, Repr

/-! ### Vellum panel (R387 to R405) -/

/-- Request classes (R391). -/
inductive PClass | other | alarm | chop
  deriving DecidableEq, Repr, Inhabited

/-- An area of the panel. -/
structure Rect where
  x : Nat := 0
  y : Nat := 0
  w : Nat := 0
  h : Nat := 0
  deriving DecidableEq, Repr

/-- A waiting update request (R398). `clear` asks for the Clear waveform and `full` for Full; `comp` is a compensation by that
many frames, the last of them down to `compRow` (R403). `ahead` marks a reissue, `start` a request of the start sequence (R403),
`solo` the redraw that follows a CLEAR (R400). -/
structure PReq where
  area : Rect := {}
  cls : PClass := .other
  clear : Bool := false
  full : Bool := false
  comp : Option Nat := none
  compBand : BitVec 4 := 0
  compMode : BitVec 2 := 0
  compRow : Option Nat := none
  ahead : Bool := false
  start : Bool := false
  solo : Bool := false
  atUs : Nat := 0
  deriving DecidableEq, Repr

/-- An in-flight slot (R397, R405); `row` limits the first frame of a compensation (R403). -/
structure PSlot where
  active : Bool := false
  comp : Bool := false
  area : Rect := {}
  mode : BitVec 2 := 0
  band : BitVec 4 := 0
  cls : PClass := .other
  iqna : Bool := false
  done : Nat := 0
  total : Nat := 0
  row : Option Nat := none
  ahead : Bool := false
  start : Bool := false
  atUs : Nat := 0
  deriving DecidableEq, Repr

/-- A dirty map entry in MRAM (R402). -/
structure Dirty where
  area : Rect
  cls : PClass
  mode : BitVec 2
  band : BitVec 4
  frames : Nat
  row : Option Nat
  setId : Word
  deriving DecidableEq, Repr

/-- What the panel's identity memory gives (R387). -/
structure PanelId where
  cols : Nat
  rows : Nat
  filter : BitVec 2
  vcomMv : Int
  deriving DecidableEq, Repr

/-- The Vellum display driver (R387 to R405) with its display memory (R389): the draft, target and glass buffers, a level of
4 bits for each pixel (column x of row y at 1600·y + x), the waveform tables (of band b and mode m at 3·b + m) and the gamma
tables (red, green, blue, white, grey). `fast` counts a pixel's Fast updates since its last Full one (R394), `draws` the
drawings made, `content` and `chopFace` are what was drawn last (log 17). `railsAt` is when the five rails began to switch on, `railsOff`
when they were last switched off, `railRetry` whether a rail fault waits for its retry (R392, R393). -/
structure Dsp where
  run : Bool := false
  present : Bool := false
  identOk : Bool := false
  railsAt : Option Nat := none
  railsOff : Option Nat := none
  railRetry : Bool := false
  flOn : Bool := false
  ntcBad : Bool := false
  iqna : Bool := false
  deferring : Bool := false
  recovery : Bool := false
  disabled : Bool := false
  railFaults : List Nat := []
  ident : Option PanelId := none
  cols : Nat := 0
  rows : Nat := 0
  filter : BitVec 2 := 0
  vcom : Int := 0
  temp : Int := 0
  band : BitVec 4 := 5
  outside : Bool := false
  page : BitVec 6 := 0
  fl : BitVec 7 := 0
  evt : Word := 0
  updLast : BitVec 16 := 0
  updMax : BitVec 16 := 0
  cntDone : BitVec 16 := 0
  cntAbort : BitVec 16 := 0
  longest : BitVec 16 := 0
  dirtyFound : Nat := 0
  dirtySkipped : Bool := false
  queue : List PReq := []
  slots : Tab PSlot := []
  dirty : List Dirty := []
  fast : Tab Nat := []
  reinit : Bool := false
  lastEndUs : Nat := 0
  aborted : List PReq := []
  draft : Tab (BitVec 4) := []
  target : Tab (BitVec 4) := []
  glass : Tab (BitVec 4) := []
  waves : List (List Byte) := []
  gamma : List (List (BitVec 4)) := []
  draws : Nat := 0
  content : PanelContent := .nothing
  chopFace : PanelContent := .nothing
  deriving DecidableEq, Repr

/-! ### Start, flash, writer, survey (R428 to R450) -/

/-- One half's state registers (R435, R450). -/
structure HalfSt where
  gen : Word := 0
  valid : Bool := false
  loaded : Bool := false
  reason : Byte := 0
  deriving DecidableEq, Repr

/-- The configuration flash of the slot (R428, R429): size in Mbit and content; an unlisted byte reads erased (log 5). -/
structure Flash where
  mbit : Nat := 64
  jedec : Byte := 0
  mem : Tab Byte := []
  deriving DecidableEq, Repr

/-- The pass-through writer (R447). -/
structure Writer where
  sess : Word
  half : Nat
  next : Nat := 0
  erased : Nat := 0
  sectors : Nat := 0
  deriving DecidableEq, Repr

/-- One channel's survey state (R444, R445). -/
structure Survey where
  cls : BitVec 4 := 0xF
  cand : BitVec 4 := 0xF
  agree : Nat := 0
  value : Word := 0
  seen : Option Word := none
  off10 : Nat := 0
  changedUs : Option Nat := none
  state : Option Bool := none
  almState : Bool := false
  almQual : Bool := false
  almValue : Bool := false
  deriving DecidableEq, Repr

/-- Start-up and the image (R428 to R450). -/
structure Boot where
  flashOk : Bool := false
  half : Nat := 0
  loaded : Bool := false
  enrolled : Bool := false
  fallback : Bool := false
  reason : Byte := 0
  reasonHalf : Nat := 0
  decaf : Byte := 0
  starts : Word := 0
  fails : BitVec 2 := 0
  failDig : BitVec 256 := 0
  failReason : Byte := 0
  h0 : HalfSt := {}
  h1 : HalfSt := {}
  flashMbit : Nat := 0
  flashJedec : Byte := 0
  tRun : BitVec 16 := 0
  startUs : Nat := 0
  runUs : Option Nat := none
  writer : Option Writer := none
  commitDue : Bool := false
  evt : Word := 0
  survey : Tab Survey := []
  deriving DecidableEq, Repr

/-- The identity of the module (R341) and its production constants; `chopFw` is the Chop's firmware version as MTR_FWID shows it,
`chopRom` the check value that its ROM holds (R383). -/
structure Ident where
  chopFitted : Bool := false
  hwRev : Byte := 0
  serial : Word := 0
  fw : Word := 0
  chopFw : Word := 0
  chopRom : Word := 0
  gaugeTc : Nat := 25
  deriving DecidableEq, Repr

/-- The whole state of the module. `mtrLanes` is the MTR copy the lanes of the running cycle see (R384). `free` counts the free values taken (log 7); `pending` is the queue of waiting
commands. -/
structure State where
  pending : List Instr
  id : Ident
  img : Image
  flash : Option Flash
  sup : Sup
  tim : Tim
  nibA : LaneSt
  nibB : LaneSt
  cyc : Cyc
  cmp : Cmp
  lpe : Lpe
  fch : Fch
  saf : Saf
  alm : Alm
  pst : Pst
  frg : Frg
  pnw : Pnw
  evr : Evr
  cvu : Cvu
  chop : Chop
  mtr : Mtr
  mtrLanes : Mtr
  dsp : Dsp
  boot : Boot
  sent : List Emit
  free : Nat
  deriving DecidableEq, Repr

/-- Why a step stops with a fault. -/
inductive Fault
  /-- Raised by no command: the module's own faults are states (Safe, a latched pair), not stops. Safe. -/
  | none_
  deriving DecidableEq, Repr

/-- Why a command is refused. -/
inductive Refusal
  /-- Raised by `exec` for a command without a meaning; no command is one. Safe. -/
  | notModelled (mnemonic : String)
  deriving DecidableEq, Repr

/-- The module right after a power-on reset (class P, cause 0x01, R417), before its start sequence: a VZ-PSM96-N as delivered, in
Start, registers at the defaults of their tables, stores and memories with nothing listed, the queue empty. -/
def State.reset : State where
  pending := []
  id := {}
  img := .blank
  flash := some {}
  sup := {}
  tim := {}
  nibA := {}
  nibB := {}
  cyc := {}
  cmp := {}
  lpe := {}
  fch := {}
  saf := {}
  alm := {}
  pst := {}
  frg := {}
  pnw := {}
  evr := {}
  cvu := {}
  chop := {}
  mtr := {}
  mtrLanes := {}
  dsp := {}
  boot := {}
  sent := []
  free := 0

end Sys2Proof.Machine
end

