-- ==== Sys2Proof/Machine/Ops.lean ====
section
/-! DEFINITION. The named operations every family uses: tables, time, roles, what the module sends, Inkwell posting (R343 to
R353), admission of a request (R330 to R333) and forwarding to the partner (R79). -/

namespace Sys2Proof.Machine

/-- What a command's meaning answers. -/
abbrev Outcome := Host.Outcome State Fault Refusal

/-! ### Tables -/

/-- The entry at an index; `d` where none is listed. -/
def tget {α : Type} (d : α) : Tab α → Nat → α
  | [], _ => d
  | (k, v) :: t, i => if k = i then v else tget d t i

/-- An entry placed in order, in place of one already there. -/
def tins {α : Type} (i : Nat) (v : α) : Tab α → Tab α
  | [] => [(i, v)]
  | (k, w) :: t => if k < i then (k, w) :: tins i v t else if k = i then (i, v) :: t else (i, v) :: (k, w) :: t

/-- An entry set; setting the default removes it, so that equal tables are equal data (log 2). -/
def tput {α : Type} [DecidableEq α] (d : α) (t : Tab α) (i : Nat) (v : α) : Tab α :=
  if v = d then t.filter (fun p => p.1 != i) else tins i v t

/-- An entry changed by a function. -/
def tmod {α : Type} [DecidableEq α] (d : α) (t : Tab α) (i : Nat) (f : α → α) : Tab α := tput d t i (f (tget d t i))

/-- Every entry changed by a function that keeps the default; an entry that becomes the default is removed. -/
def tmap {α : Type} [DecidableEq α] (d : α) (f : α → α) (t : Tab α) : Tab α :=
  (t.map (fun p => (p.1, f p.2))).filter (fun p => decide (p.2 ≠ d))

/-- Whether a table is in its one canonical form: indices strictly rising, no entry equal to the default (log 2). -/
def twf {α : Type} [DecidableEq α] (d : α) : Tab α → Bool
  | [] => true
  | [(_, v)] => decide (v ≠ d)
  | (k, v) :: (k', v') :: t => decide (v ≠ d) && decide (k < k') && twf d ((k', v') :: t)

/-- Several entries set in order. -/
def tputs {α : Type} [DecidableEq α] (d : α) (t : Tab α) (l : List (Nat × α)) : Tab α :=
  l.foldl (fun t p => tput d t p.1 p.2) t

/-- The indices from `lo` up to below `hi`. -/
def span (lo hi : Nat) : List Nat := (List.range (hi - lo)).map (· + lo)

/-- A table entry by key from an image's list. -/
def iget {α : Type} (l : List (Nat × α)) (i : Nat) : Option α := (l.find? (fun p => p.1 == i)).map (·.2)

/-- Bit `n` of a word set. -/
def setBit (w : Word) (n : Nat) : Word := w ||| (1 <<< n)

/-- Bit `n` of a word set where `b`. -/
def orBit (w : Word) (n : Nat) (b : Bool) : Word := if b then setBit w n else w

/-- A 16-bit counter that stays at its top value. -/
def inc16 (c : BitVec 16) : BitVec 16 := if c = 0xFFFF then c else c + 1
/-- An 8-bit counter that stays at its top value. -/
def inc8 (c : Byte) : Byte := if c = 0xFF then c else c + 1
/-- A 32-bit counter that stays at its top value. -/
def inc32 (c : Word) : Word := if c = 0xFFFFFFFF then c else c + 1
/-- A natural number in 16 bits, saturating. -/
def sat16 (n : Nat) : BitVec 16 := if n > 0xFFFF then 0xFFFF else BitVec.ofNat 16 n
/-- The greater of two 16-bit numbers. -/
def max16 (a b : BitVec 16) : BitVec 16 := if a < b then b else a
/-- The number of entries of a list that satisfy a condition. -/
def countIf {α : Type} (p : α → Bool) (l : List α) : Nat := (l.filter p).length

/-! ### One subsystem changed -/

/-- The state of one subsystem changed: `sup`. -/
def onSup (f : Sup → Sup) (s : State) : State := { s with sup := f s.sup }
/-- The state of one subsystem changed: `tim`. -/
def onTim (f : Tim → Tim) (s : State) : State := { s with tim := f s.tim }
/-- The state of one subsystem changed: `cyc`. -/
def onCyc (f : Cyc → Cyc) (s : State) : State := { s with cyc := f s.cyc }
/-- The state of one subsystem changed: `cmp`. -/
def onCmp (f : Cmp → Cmp) (s : State) : State := { s with cmp := f s.cmp }
/-- The state of one subsystem changed: `lpe`. -/
def onLpe (f : Lpe → Lpe) (s : State) : State := { s with lpe := f s.lpe }
/-- The state of one subsystem changed: `fch`. -/
def onFch (f : Fch → Fch) (s : State) : State := { s with fch := f s.fch }
/-- The state of one subsystem changed: `saf`. -/
def onSaf (f : Saf → Saf) (s : State) : State := { s with saf := f s.saf }
/-- The state of one subsystem changed: `alm`. -/
def onAlm (f : Alm → Alm) (s : State) : State := { s with alm := f s.alm }
/-- The state of one subsystem changed: `pst`. -/
def onPst (f : Pst → Pst) (s : State) : State := { s with pst := f s.pst }
/-- The state of one subsystem changed: `frg`. -/
def onFrg (f : Frg → Frg) (s : State) : State := { s with frg := f s.frg }
/-- The state of one subsystem changed: `pnw`. -/
def onPnw (f : Pnw → Pnw) (s : State) : State := { s with pnw := f s.pnw }
/-- The state of one subsystem changed: `evr`. -/
def onEvr (f : Evr → Evr) (s : State) : State := { s with evr := f s.evr }
/-- The state of one subsystem changed: `cvu`. -/
def onCvu (f : Cvu → Cvu) (s : State) : State := { s with cvu := f s.cvu }
/-- The state of one subsystem changed: `chop`. -/
def onChop (f : Chop → Chop) (s : State) : State := { s with chop := f s.chop }
/-- The state of one subsystem changed: `mtr`. -/
def onMtr (f : Mtr → Mtr) (s : State) : State := { s with mtr := f s.mtr }
/-- The state of one subsystem changed: `boot`. -/
def onBoot (f : Boot → Boot) (s : State) : State := { s with boot := f s.boot }

/-! ### Time -/

/-- The timebase count in µs (R35). -/
def nowUs (s : State) : Nat := s.tim.ticks / 25

/-- The cycle time in µs; a blank module and Decaf run a 100 ms cycle (R72). -/
def cycleUs (s : State) : Nat := if s.sup.mode = .decaf then 100000 else s.img.cycleUs

/-- Whether a T0 now is the first at least two cycles after acceptance at `at_` (R79). -/
def t0Due (s : State) (at_ : Nat) : Bool := nowUs s ≥ at_ + 2 * cycleUs s

/-- The UTC scale: the timebase plus an offset (R338). -/
def utcUs (s : State) : BitVec 64 := BitVec.ofInt 64 ((nowUs s : Int) + s.pnw.utcOffset)

/-- VALID of PNW_UTC (R342). -/
def utcValid (s : State) : Bool := s.pnw.utcLastUs.isSome || s.pnw.utcSync || s.pnw.utcMark || s.sup.rtcSet

/-! ### Module state and role -/

/-- Run or Commissioning. -/
def inRun (s : State) : Bool := s.sup.mode == .run || s.sup.mode == .commissioning
/-- Run, Commissioning or Hold. -/
def inService (s : State) : Bool := inRun s || s.sup.mode == .hold
/-- Whether this module is the speaker (R296). -/
def isSpeaker (s : State) : Bool := s.pst.speaker == some s.pst.slot && inService s
/-- Whether the module's logic has supply and is out of reset. -/
def powered (s : State) : Bool :=
  match s.sup.phase with
  | .off => false
  | .reset _ _ => false
  | _ => true

/-- The interlock gate (R270). A module that is no pair member has none. -/
def gate (s : State) : Bool := s.pst.ownLow && !s.pst.peerLow

/-- Whether this module drives: single, or a pair member whose gate is closed (R270). While an interlock fault stands neither module
of a pair drives (R274). -/
def drives (s : State) : Bool := !s.pst.member || (gate s && !s.pst.ilkFault)

/-- The preferred slot of the pair: the image's, by default the pair's first (R272). -/
def prefSlot (s : State) : BitVec 2 := s.img.plan.pref.getD (s.pst.slot &&& 2)

/-- The role the module reports (R25, R270). -/
def roleShown (s : State) : Role :=
  if !s.pst.member then .single
  else match s.sup.mode with
    | .start => .single
    | .decaf => .standby
    | .safe => .standby
    | _ => if gate s && !s.pst.ilkFault && s.pst.role == .active then .active else .standby

/-- Whether the partner's hellos arrive. -/
def partnerSlot (s : State) : Nat := s.pst.slot.toNat ^^^ 1
/-- What the partner last reported. -/
def partner (s : State) : Peer := tget {} s.pst.peers (partnerSlot s)
/-- Whether this is a pair member whose partner is present, and of the same station (R295). -/
def paired (s : State) : Bool := s.pst.member && (partner s).present && !(partner s).mism

/-! ### Configuration of channels -/

/-- The settings of channel index i. -/
def chanCfg (s : State) (i : Nat) : ChanCfg := tget {} s.img.channels i

/-- The mode of channel index i (R146, R147). -/
def chanMode (s : State) (i : Nat) : Nat := if s.sup.mode = .decaf then 0xD else (chanCfg s i).mode.toNat

/-- A channel's state. -/
def chan (s : State) (i : Nat) : Chan := tget {} s.fch.ch i

/-- A channel's state changed. -/
def setChan (i : Nat) (f : Chan → Chan) (s : State) : State :=
  { s with fch := { s.fch with ch := tmod {} s.fch.ch i f } }

/-- The field group of a channel index. -/
def groupOf (i : Nat) : Nat := i / 16

/-- A group's state. -/
def grp (s : State) (g : Nat) : Group := tget {} s.fch.grp g

/-- A group's state changed. -/
def setGrp (g : Nat) (f : Group → Group) (s : State) : State :=
  { s with fch := { s.fch with grp := tmod {} s.fch.grp g f } }

/-- The channel indices of a group. -/
def groupChans (g : Nat) : List Nat := span (16 * g) (16 * g + 16)

/-- A list of steps applied in order. -/
def forEach {α : Type} (l : List α) (f : α → State → State) (s : State) : State := l.foldl (fun s a => f a s) s

/-! ### What the module sends -/

/-- A message put on the wires (log 6). -/
def emit (e : Emit) (s : State) : State := { s with sent := s.sent ++ [e] }

/-- The next free value (log 7). -/
def freeVal (s : State) : Word := Config.freeWord s.free
/-- The free value counted as taken. -/
def takeFree (s : State) : State := { s with free := s.free + 1 }

/-- The little-endian bytes of a 16-bit number. -/
def le16 (v : BitVec 16) : List Byte := [v.extractLsb' 0 8, v.extractLsb' 8 8]
/-- The bytes of several words. -/
def wordsBytes (ws : List Word) : List Byte := ws.flatMap Word.bytes

/-! ### The Inkwell's posting (R343 to R353) -/

/-- The subsystem of R15 that posts a code (R343). -/
def subsystemOf (code : Nat) : Nat :=
  match code / 256 with
  | 0 => 8
  | 1 => if code = 0x0104 then 16 else 1
  | 2 => 2
  | 3 => 3
  | 4 => 4
  | 5 => 5
  | 6 => 6
  | 7 => if code = 0x0705 then 7 else 16
  | 9 => 10
  | 10 => 11
  | 11 => 13
  | 12 => 14
  | 13 => 16
  | _ => 1

/-- The codes whose Limit column reads 20 (R357). -/
def limitedCodes : List Nat :=
  [0x0101, 0x0401, 0x0402, 0x0403, 0x0601, 0x0602, 0x0603, 0x0606, 0x0701, 0x0702, 0x0703, 0x0704, 0x0705, 0x0901,
   0x0A04, 0x0A05, 0x0B01, 0x0C01, 0x0C03, 0x0D02]

/-- The records of a code that one window writes; none: not limited (R353). -/
def codeLimit (s : State) (code : Nat) : Option Nat :=
  if code ≥ 0xC000 then some ((iget s.img.appLimits code).getD 20)
  else if limitedCodes.contains code then some 20 else none

/-- Records written and suppressed of a code in the present window. -/
def windowOf (e : Evr) (code : BitVec 16) : Nat × Nat :=
  match e.window.find? (fun w => w.1 == code) with
  | some w => w.2
  | none => (0, 0)

/-- The window's counts of a code replaced. -/
def setWindow (e : Evr) (code : BitVec 16) (c : Nat × Nat) : Evr :=
  { e with window := e.window.filter (fun w => w.1 != code) ++ [(code, c.1, c.2)] }

/-- A flush of the ring starts, or goes on (R348). -/
def startFlush (s : State) : State :=
  { s with evr := { s.evr with flushing := true, flushUs := if s.evr.flushing then s.evr.flushUs else nowUs s } }

/-- One record numbered and placed in the ring, or dropped when the ring is full (R346, R350); the 64th unflushed
record starts a flush (R348). -/
def pushRec (mk : Word → Rec) (s : State) : State :=
  let e := s.evr
  if e.ring.length ≥ 8192 then
    { s with evr := { e with dropped := inc32 e.dropped, dropRun := e.dropRun + 1, evt := setBit e.evt 1 } }
  else
    let s := { s with evr := { e with ring := e.ring ++ [mk e.next], next := e.next + 1 } }
    if e.ring.length + 1 ≥ 64 then startFlush s else s

/-- The two values of each record of an event, in order (R345). -/
def valuePairs : List Word → List (Word × Word)
  | [] => []
  | [a] => [(a, 0)]
  | a :: b :: t => (a, b) :: valuePairs t

/-- What a posting gives beside its values. -/
structure PostHead where
  code : Nat
  source : BitVec 16
  cell : Nat := 0xFFFF
  time : BitVec 64
  late : Bool := false
  standby : Bool := false
  deriving DecidableEq, Repr

/-- The FLAGS of a record (R343). -/
def recFlags (s : State) (h : PostHead) (cont : Bool) : BitVec 16 :=
  ((Word.flag h.late 0 ||| Word.flag h.standby 1 ||| Word.flag s.pnw.utcSync 2 ||| Word.flag (utcValid s) 3 |||
    Word.flag cont 4).setWidth 16)

/-- The records of one event placed in the ring. -/
def pushAll (h : PostHead) (vals : List Word) (s : State) : State :=
  let ps := if vals.isEmpty then [(0, 0)] else valuePairs vals
  forEach ps.zipIdx (fun p s =>
    pushRec (fun q => { seq := q, time := h.time, code := BitVec.ofNat 16 h.code, source := h.source,
                        cell := BitVec.ofNat 16 h.cell, flags := recFlags s h (p.2 != 0), a := p.1.1, b := p.1.2 }) s) s

/-- An event posted under its rate limit (R353). Nothing is recorded once posting has stopped (R349). -/
def postHead (h : PostHead) (vals : List Word) (s : State) : State :=
  if !s.evr.running then s
  else
    let code := BitVec.ofNat 16 h.code
    match codeLimit s h.code with
    | none => pushAll h vals s
    | some lim =>
      let (n, sup) := windowOf s.evr code
      if n < lim then pushAll h vals { s with evr := setWindow s.evr code (n + 1, sup) }
      else
        let e := setWindow s.evr code (n, sup + 1)
        { s with evr := { e with suppr := inc32 e.suppr, evt := setBit e.evt 2 } }

/-- SOURCE of a record: subsystem and instance (R343). -/
def sourceOf (code inst : Nat) : BitVec 16 := BitVec.ofNat 16 (subsystemOf code + 256 * inst)

/-- An event of the module posted now: code, instance and quantities; no cell (R345, R357). -/
def post (code inst : Nat) (vals : List Word) (s : State) : State :=
  postHead { code := code, source := sourceOf code inst, time := utcUs s } vals s

/-- As `post`, with the cell of the event. -/
def postCell (code inst cell : Nat) (vals : List Word) (s : State) : State :=
  postHead { code := code, source := sourceOf code inst, cell := cell, time := utcUs s } vals s

/-! ### Requests of the station protocol (R327 to R333) -/

/-- The status codes of R333. -/
def stOk : BitVec 16 := 0x0000
/-- Access refusal. -/
def stAccess : BitVec 16 := 0x0001
/-- Not allowed in this state. -/
def stState : BitVec 16 := 0x0002
/-- Value out of range. -/
def stRange : BitVec 16 := 0x0003
/-- Unknown service or command. -/
def stService : BitVec 16 := 0x0004
/-- Malformed body or length. -/
def stMalformed : BitVec 16 := 0x0005
/-- Target slot absent. -/
def stTarget : BitVec 16 := 0x0006
/-- Partner not ready. -/
def stPartner : BitVec 16 := 0x0007
/-- Busy. -/
def stBusy : BitVec 16 := 0x0008
/-- Partner did not confirm. -/
def stConfirm : BitVec 16 := 0x0009

/-- The access levels of R331. -/
def lvView : BitVec 2 := 0
/-- Operate. -/
def lvOperate : BitVec 2 := 1
/-- Engineer. -/
def lvEngineer : BitVec 2 := 2
/-- Verifier. -/
def lvVerifier : BitVec 2 := 3

/-- The bytes 0 to 15 + LEN of a message (R327). -/
def messageBytes (m : Req) : List Byte :=
  [m.ver, m.typ, m.target, m.level] ++ le16 m.service ++ le16 (BitVec.ofNat 16 m.body.length) ++ Word.bytes m.sess ++ Word.bytes m.seq ++ m.body

/-- The TAG of a message under a session key (R327). -/
def tagOf (key : List Byte) (m : Req) : List Byte := (hmac key (messageBytes m)).take 16

/-- Whether a message carries the TAG that it must under a session key (R327, R329). -/
def tagRight (key : List Byte) (m : Req) : Bool := m.tag == tagOf key m

/-- A message with its TAG. -/
def tagged (key : List Byte) (m : Req) : Req := { m with tag := tagOf key m }

/-- A message of a session to its client: a response (TYPE 1) or a notification (TYPE 2) (R327, log 153). -/
def messageTo (x : Session) (typ : Byte) (service : BitVec 16) (seq : Word) (body : List Byte) : Req :=
  tagged x.key { sess := x.id, seq := seq, typ := typ, level := x.level.setWidth 8, service := service, body := body }

/-- The frames that the module has sent on the plant network, which number the next one (R323). -/
def lanSeq (s : State) : BitVec 16 :=
  BitVec.ofNat 16 (countIf (fun e => match e with | .lan _ _ => true | _ => false) s.sent)

/-- A frame sent on both ports of the plant network (R323). -/
def emitLan (e : Emit) (s : State) : State := emit (.lan (lanSeq s) e) s

/-- The open session of an identifier. -/
def findSession (s : State) (id : Word) : Option Session := s.pnw.sessions.find? (fun x => x.id == id && x.opened)

/-- The response to a request of an open session: it repeats the SEQ, and its body begins with the status (R327). A write of Modbus
or of a lane has no session and gets none (R336). -/
def reply (r : Req) (st : BitVec 16) (body : List Byte) (s : State) : State :=
  if r.sess = 0 then s
  else match findSession s r.sess with
    | none => s
    | some x => emitLan (.message (messageTo x 1 r.service r.seq (le16 st ++ body))) s

/-- A session changed. -/
def setSession (id : Word) (f : Session → Session) (s : State) : State :=
  { s with pnw := { s.pnw with sessions := s.pnw.sessions.map (fun x => if x.id == id then f x else x) } }

/-- The requests of a session in the running second of timebase, this one included (R330, log 16). -/
def countRequest (now : Nat) (x : Session) : Session :=
  let sec := now / 1000000
  if x.reqSec = sec then { x with reqCnt := x.reqCnt + 1 } else { x with reqSec := sec, reqCnt := 1 }

/-- A message discarded for its TAG or SEQ, counted in PNW_AUTH (R330). -/
def discardMessage (s : State) : State := { s with pnw := { s.pnw with discarded := inc16 s.pnw.discarded } }

/-- Whether a frame is the second copy of one taken within the last 400 ms (R323). -/
def duplicateFrame (f : PrpRx) (s : State) : Bool :=
  match f.trailer with
  | none => false
  | some t => s.pnw.seen.any (fun e => e.1 == f.node && e.2.1 == t.1 && decide (nowUs s < e.2.2 + 400000))

/-- A plant network port changed. -/
def setPnPort (p : Nat) (f : PnPort → PnPort) (s : State) : State := onPnw (fun n => { n with ports := tmod {} n.ports p f }) s

/-- A frame taken, kept for the discarding of its second copy; one that names the other LAN is counted and taken (R323, R342,
log 154). -/
def noteFrame (f : PrpRx) (s : State) : State :=
  match f.trailer with
  | none => s
  | some t =>
    let s := onPnw (fun p => { p with seen := p.seen.filter (fun e => decide (nowUs s < e.2.2 + 400000)) ++ [(f.node, t.1, nowUs s)] }) s
    if t.2 = f.port then s else setPnPort f.port.val (fun x => { x with errLan := inc16 x.errLan }) s

/-- A datagram as it comes in (R323, R342): one of a wrong FCS is counted and dropped, a second copy dropped. -/
def arriving (f : PrpRx) (k : State → State) (s : State) : State :=
  if f.fcsBad then setPnPort f.port.val (fun x => { x with errFcs := inc16 x.errFcs }) s
  else if duplicateFrame f s then s
  else k (noteFrame f s)

/-- Whether a request names a service, or a command, of no table (R328). -/
def unlisted (r : Req) : Bool :=
  if r.service = 0x0020 then
    match r.body with
    | lo :: hi :: _ => hi != 0 || lo == 0 || decide (0xC < lo)
    | _ => false
  else !([0x0001, 0x0002, 0x0003, 0x0004, 0x0010, 0x0011, 0x0012, 0x0030, 0x0040, 0x0041, 0x0050, 0x0060] : List (BitVec 16)).contains r.service

/-- Whether a body is longer than LEN allows, or a COMMAND has no code (R327, R328). -/
def malformed (r : Req) : Bool := decide (1424 < r.body.length) || (r.service == 0x0020 && decide (r.body.length < 2))

/-- Whether a request is for another module (R327). -/
def elsewhere (r : Req) (s : State) : Bool := r.target != 0xFF && r.target.toNat != s.pst.slot.toNat

/-- A request relayed to the member that TARGET names; `k` answers where there is none (R327, R333, log 155). -/
def relayed (r : Req) (k : State → State) (s : State) : State :=
  let p := tget {} s.pst.peers r.target.toNat
  if p.present && !p.mism then emit (.relay r.target r) s else k s

/-- Admission of a request (R323, R327, R328, R330 to R332): the datagram, VER and TYPE, session, TAG and SEQ, rate, TARGET, the
services there are, LEVEL (log 152), the services of Decaf, the level needed; what passes goes on to `k`. -/
def screenReq (r : Req) (lvl : BitVec 2) (decafOk : Bool) (k : State → State) (s : State) : State :=
  arriving r.rx (fun s =>
    if r.ver != 1 || r.typ != 0 then s
    else match findSession s r.sess with
      | none => discardMessage s
      | some x =>
        if !tagRight x.key r || decide (r.seq ≤ x.seq) then discardMessage s
        else
          let y := countRequest (nowUs s) x
          let s := setSession r.sess (fun _ => { y with seq := r.seq }) s
          if y.reqCnt > 200 then reply r stBusy [] s
          else if elsewhere r s then relayed r (reply r stTarget []) s
          else if s.sup.mode = .decaf && (!decafOk || unlisted r) then reply r stState [] s
          else if unlisted r then reply r stService [] s
          else if malformed r then reply r stMalformed [] s
          else if y.level.toNat != r.level.toNat || decide (y.level < lvl) then reply r stAccess [] s
          else k s) s

/-- A command that waits for a T0, put in line (R79). -/
def schedule (a : T0Act) (s : State) : State :=
  { s with cyc := { s.cyc with sched := s.cyc.sched ++ [⟨nowUs s, a, false⟩] } }

/-- The act that a forwarded command puts in line for a T0, where it does (R79). -/
def fwdAct : FwdCmd → Option T0Act
  | .hold => some .holdIn
  | .resume => some .resumeIn
  | .split => some .split
  | .rejoin => some .rejoin
  | .maint g e => some (.maint g e)
  | .change b => some (.change b)
  | .force t v => some (.force t v)
  | .releaseCell c => some (.releaseCell c.toNat)
  | .clearRetain => some .clearRetain
  | _ => none

/-- Station time in ns (R297). -/
def stationNs (s : State) : Int := (s.tim.ticks * 40 : Nat) + s.pst.offsetNs

/-! ### Contexts (R362, R370) -/

/-- A context's state. -/
def ctx (s : State) (c : Nat) : Ctx := tget {} s.cvu.ctx c

/-- A context's state changed. -/
def setCtx (c : Nat) (f : Ctx → Ctx) (s : State) : State := onCvu (fun u => { u with ctx := tmod {} u.ctx c f }) s

/-- A receive check failed in a fixed context: COUNT and FAIL (R362, R370). -/
def checkFailed (c : Nat) (s : State) : State :=
  onCvu (fun u => { u with evt := setBit u.evt 0 }) (setCtx c (fun x => { x with count := inc16 x.count }) s)

/-! ### Station links (R267, R295, R300, R301) -/

/-- Whether an injector acts on the next frame of its port: every N-th. -/
def injHits (inj : Word) (sent : Nat) : Bool :=
  let n := inj.toNat % 65536
  inj.getLsbD 31 && decide (n ≥ 2) && (sent + 1) % n == 0

/-- How an armed injector acts: drop, invert a bit, hold behind the next; none of the three selected: not at all. -/
def injHow (inj : Word) : Option Nat :=
  if inj.getLsbD 16 then some 0 else if inj.getLsbD 17 then some 1 else if inj.getLsbD 18 then some 2 else none

/-- A station link port. -/
def slPort (s : State) (p : Nat) : SlPort := tget {} s.pst.ports p
/-- A station link port changed. -/
def setSlPort (p : Nat) (f : SlPort → SlPort) (s : State) : State := onPst (fun x => { x with ports := tmod {} x.ports p f }) s

/-- The slot at the far end of a port (R267). -/
def portPeer (s : State) (p : Nat) : Nat := s.pst.slot.toNat ^^^ (p + 1)

/-- Several messages put on the wires in order. -/
def emits (l : List Emit) (s : State) : State := { s with sent := s.sent ++ l }

/-- What leaves a port for a frame under its injector, what stays held, and whether the injector acted: it drops every N-th
frame, inverts a bit of it, or holds it behind the next (R301, R321). `bits` is the length that the bit number is taken modulo;
0 leaves it as written. -/
def throughInj (inj bit : Word) (sent : Nat) (held : Option Emit) (bits : Nat) (e : Emit) : List Emit × Option Emit × Bool :=
  match injHow inj, injHits inj sent with
  | some 0, true => (held.toList, none, true)
  | some 1, true => (.inverted (bit.toNat % bits) e :: held.toList, none, true)
  | some _, true => (held.toList, some e, true)
  | _, _ => (e :: held.toList, none, false)

/-- A frame on a port, numbered and under its injector (R300, R301). DEDUCED (log 131): no rule gives the length of a station
link frame, so the inverted bit keeps the number written. -/
def slFrame (p : Nat) (e : Emit) (s : State) : State :=
  let r := slPort s p
  let t := throughInj r.inj r.injBit r.injSent r.injHeld 0 (.link p s.pst.slot r.txSeq e)
  emits t.1 (setSlPort p (fun r => { r with txSeq := r.txSeq + 1, injSent := if r.inj.getLsbD 31 then r.injSent + 1 else r.injSent,
                                            injHeld := t.2.1, injCnt := if t.2.2 then inc32 r.injCnt else r.injCnt }) s)

/-- A frame other than a hello on a port: none passes to a module of another station plan (R295). -/
def slSend (p : Nat) (e : Emit) (s : State) : State :=
  if (tget {} s.pst.peers (portPeer s p)).mism then s else slFrame p e s

/-- A sequence number received: within a window of four it may come late; one that falls behind the window unreceived is
missing. None: the frame is behind the window or a repeat (R300). -/
def slWindow (q : Word) (x : SlPort) : Option SlPort :=
  match x.rxSeq with
  | none => some { x with rxSeq := some q, rxMask := 0xF }
  | some top =>
    let k := (q - top).toInt
    if k > 0 then
      let n := k.toNat
      let out := if n ≥ 4 then (countIf (fun i => !x.rxMask.getLsbD i) (List.range 4)) + (n - 4)
                 else countIf (fun i => !x.rxMask.getLsbD i) (span (4 - n) 4)
      some { x with rxSeq := some q, rxMask := (if n ≥ 4 then 0 else x.rxMask <<< n) ||| 1,
                    errSeq := sat16 (x.errSeq.toNat + out) }
    else
      let b := (-k).toNat
      if b < 4 && !x.rxMask.getLsbD b then some { x with rxMask := x.rxMask ||| (1 <<< b) } else none

/-- The check value of a station link frame from the sender at the far end of a port: over the virtual header of its slot and the
sequence, and the frame before the check (R300, R361, R363). -/
def slCheck (s : State) (p : Nat) (h : SlHdr) : Word :=
  crc32c (crc32c crcInit (BitVec.ofNat 8 (portPeer s p) :: Word.bytes h.seq)) h.bytes

/-- A sequence number missing behind the window on SL1 may be a frame of a delta: a standby that takes copies asks for it once
(R289, R300, log 148). -/
def noticeGap (old : SlPort) (p : Nat) (s : State) : State :=
  if p = 0 && (slPort s 0).errSeq != old.errSeq && s.pst.member && !s.pst.ownDrive && inService s && !s.pst.requested &&
      (s.pst.staging.isSome || s.pst.wantJoin || (s.img.plan.mode == .copy && !s.pst.shadow)) then
    slSend 0 (.slAck true) (onPst (fun q => { q with requested := true }) s)
  else s

/-- A station link frame received: discarded and counted where its check fails, discarded where its sequence is behind the window
or a repeat; else its content goes on to `k`, or to `bad` after a failed check (R300, R303, R362). -/
def slReceive (p : Nat) (h : SlHdr) (k bad : State → State) (s : State) : State :=
  if h.check != slCheck s p h then bad (setSlPort p (fun x => { x with errCheck := inc16 x.errCheck }) (checkFailed 1 s))
  else
    match slWindow h.seq (slPort s p) with
    | none => s
    | some x => k (noticeGap (slPort s p) p (setSlPort p (fun _ => { x with frames := x.frames + 1 }) s))

/-- A good frame with the next sequence of a port (R300, R303). -/
def slTook (p : Nat) (s : State) : State :=
  let r := slPort s p
  match slWindow ((r.rxSeq.map (· + 1)).getD 0) r with
  | none => s
  | some x => setSlPort p (fun _ => { x with frames := x.frames + 1 }) s

/-! ### Forwarding to the partner (R79, R333) -/

/-- A command sent to the partner with the station time, in µs, of its acceptance: both modules count the two cycles from it
(R79, R297). -/
def forwardNow (c : FwdCmd) (s : State) : State := slSend 0 (.forward (stationNs s / 1000) c) s

/-- An accepted command forwarded to the partner, to be answered after its confirmation (R79, R333). A command for a T0
is put in line at once and waits there for the confirmation; any other is carried out at the confirmation. -/
def forwardBoth (o : Origin) (c : FwdCmd) (apply : State → State) (s : State) : State :=
  let s := forwardNow c (if (fwdAct c).isSome then apply s else s)
  { s with pst := { s.pst with unconfirmed := s.pst.unconfirmed ++ [(c, o, nowUs s)] } }

/-- An accepted command that both modules of a pair apply, answered with a body; without a partner it is carried out and answered
at once. -/
def acceptWith (r : Req) (body : List Byte) (c : FwdCmd) (apply : State → State) (s : State) : State :=
  if paired s then forwardBoth (.sess r body) c apply s else reply r stOk body (apply s)

/-- An accepted command that both modules of a pair apply, answered without a body. -/
def acceptBoth (r : Req) (c : FwdCmd) (apply : State → State) (s : State) : State := acceptWith r [] c apply s

/-- Whether an act still waits for the partner's confirmation of its command (R79). -/
def unconfirmedAct (s : State) (a : T0Act) : Bool := s.pst.unconfirmed.any (fun u => fwdAct u.1 == some a)

/-- A command accepted under a condition on the state; refused with a status otherwise. -/
def acceptIf (r : Req) (ok : Bool) (st : BitVec 16) (k : State → State) (s : State) : State :=
  if ok then k s else reply r st [] s

/-! ### Register writes (R9, R67, R328, R331) -/

/-- Who writes a register: a lane's OBJWR, or a session (or Modbus, at Operate, R336) with its level. -/
inductive Who
  | lane (l : Lane)
  | sess (id : Word) (lvl : BitVec 2)
  deriving DecidableEq, Repr

/-- A register write's status and the state after it. -/
abbrev Written := BitVec 16 × State

/-- A write that is refused. -/
def refuse (st : BitVec 16) (s : State) : Written := (st, s)
/-- A write that is carried out. -/
def done (s : State) : Written := (stOk, s)

/-- Whether a writer is a session of at least a level (R331). -/
def Who.atLeast (w : Who) (l : BitVec 2) : Bool :=
  match w with
  | .lane _ => false
  | .sess _ v => decide (l ≤ v)

/-- A write that is a command for both modules of a pair (R79). -/
def doneBoth (r : Req) (c : FwdCmd) (apply : State → State) (s : State) : Written :=
  done (if paired s then forwardBoth (.sess r []) c apply s else apply s)

/-- The answer to a request that wrote registers in a state; a command that waits for the partner is answered later (R333). -/
def answer (r : Req) (f : State → Written) (s : State) : State :=
  let w := f s
  if w.1 == stOk && decide (s.pst.unconfirmed.length < w.2.pst.unconfirmed.length) then w.2 else reply r w.1 [] w.2

/-- A write allowed to sessions of a level alone. -/
def byLevel (w : Who) (l : BitVec 2) (k : State → Written) (s : State) : Written :=
  if w.atLeast l then k s else refuse stAccess s

/-- A write allowed to the lanes and to sessions of a level (R67). -/
def byLaneOr (w : Who) (l : BitVec 2) (k : State → Written) (s : State) : Written :=
  match w with
  | .lane _ => k s
  | .sess _ _ => byLevel w l k s

/-- W1C bits cleared through the station protocol at Operate level or above (R9). -/
def clearBits (old v mask : Word) : Word := old &&& ~~~(v &&& mask)

/-- A lane's state. -/
def lane (s : State) : Lane → LaneSt
  | .a => s.nibA
  | .b => s.nibB

/-- A lane's state changed. -/
def setLane (l : Lane) (f : LaneSt → LaneSt) (s : State) : State :=
  match l with
  | .a => { s with nibA := f s.nibA }
  | .b => { s with nibB := f s.nibB }

/-- Words folded into the output signature (R91). -/
def foldOut (ws : List Word) (x : LaneSt) : LaneSt := { x with sigOut := crc32cWords x.sigOut ws }

/-- OBJ_REFUSED of CYC_EVT set (R67). -/
def objRefused (s : State) : State := onCyc (fun c => { c with evt := setBit c.evt 2 }) s

/-- A write or record queued for TO (R66). -/
def queueForTo (l : Lane) (q : Queued) (s : State) : State := setLane l (fun x => { x with queue := x.queue ++ [q] }) s

/-- A lane's write of a register: folded into its output signature and judged as it executes; one that passes is queued, and TO
carries it out (R66, R67, R91). -/
def laneWrites (l : Lane) (judge : Word → State → Written) (s : State) (p : Word × Word) : State :=
  if (lane s l).st = .running then
    let s := setLane l (foldOut [0x00020000, p.1, p.2]) s
    let j := judge p.2 s
    if j.1 = stOk then queueForTo l (.objwr p.1 p.2) s else objRefused j.2
  else s

/-- A request that writes a register, judged after admission (R331, R333). -/
def sessionWrites (r : Req) (f : Who → State → Written) (s : State) : State :=
  screenReq r lvView false (fun s =>
    let w := f (.sess r.sess (((findSession s r.sess).map (·.level)).getD 0)) s
    reply r w.1 [] w.2) s

/-- A write of the register at an address by either path (R66, R333, R354, R365). DEDUCED: a lane's is an OBJWR (log 159). -/
def regCommand (p : Path) (a v : Word) (f : Who → Word → State → Written) (s : State) : State :=
  match p with
  | .lane l => laneWrites l (f (.lane l)) s (a, v)
  | .sess r => sessionWrites r (fun w => f w v) s

/-! ### Cells and variables -/

/-- The cell of the image by number. -/
def cellCfg (s : State) (n : Nat) : CellCfg := s.img.cells.getD n {}

/-- Whether cell `n` is `anc` or lies under it; the walk ends after as many steps as there are cells. -/
def underCell (s : State) (anc : Nat) : Nat → Nat → Bool
  | 0, n => n == anc
  | k + 1, n => n == anc || (n != 0 && underCell s anc k (cellCfg s n).parent)

/-- Whether cell `n` is `anc` or a descendant of it (R68). -/
def inCell (s : State) (anc n : Nat) : Bool := underCell s anc s.img.cells.length n

/-- Whether a cell's data range holds a word. -/
def holdsWord (c : CellCfg) (t : Nat) : Bool := decide (c.lo ≤ t) && decide (t < c.hi)

/-- The cell whose word a data word is: of the cells whose data ranges hold it, the one with the shortest range, the
highest-numbered of several. A range also holds the words of the cell's descendants, or the whole area (R101); the spec gives
a word no other owner (log 108). -/
def ownCell (s : State) (t : Nat) : Option Nat :=
  s.img.cells.zipIdx.foldl (fun best p =>
    if holdsWord p.1 t then
      (match best with
       | some b => if p.1.hi - p.1.lo ≤ (cellCfg s b).hi - (cellCfg s b).lo then some p.2 else best
       | none => some p.2)
    else best) none

/-- The cell a tag or constant is counted to; the root where no range holds it (R70, log 108). -/
def tagCell (s : State) (t : Nat) : Nat := (ownCell s t).getD 0

/-- The lane whose word stands for a data word: in Split the owner's, and Nib A's outside every range (R55, R112). -/
def wordOfB (s : State) (t : Nat) : Bool :=
  s.cmp.mode == .split && (match ownCell s t with
    | some c => (cellCfg s c).partB
    | none => false)

/-- The variable image a force stands on. -/
def forced (s : State) (t : ForceTarget) : Option Word := (s.cyc.forces.find? (fun f => f.1 == t)).map (·.2)

/-- Whether a variable is safety-related (R78, R81): marked so, in a safety cell, or the lanes' enable of a pair (R63, R235). -/
def safetyTarget (s : State) (t : ForceTarget) : Bool :=
  match t with
  | .tag n => s.img.safetyTags.contains n || s.img.cells.any (fun c => c.safety && decide (c.lo ≤ n) && decide (n < c.hi))
  | .inp o => s.img.boundIn.any (fun p => p.1 == o && p.2)
  | .outp o => (decide (0x60 ≤ o) && decide (o < 0x78)) || s.img.boundOut.any (fun p => p.1 == o && p.2)

end Sys2Proof.Machine
end

