-- ==== Sys2Proof/Machine/Temperature.lean ====
section
/-! DEFINITION. The characteristics of temperature sensors that R14 names by standard: IEC 60751 for Pt100 and Pt1000 (R168),
IEC 60584-1 for thermocouples (R169). The standards' numbers come from outside the spec (log 10). Temperatures are integers
in µ°C; a sensor's characteristic is inverted by bisection in exact arithmetic. -/

namespace Sys2Proof.Machine

/-- The greatest integer from `lo` to `lo + 2 ^ n - 1` that satisfies a condition which holds up to some point and fails
beyond it; `lo` where it holds nowhere. -/
def lastWhere (p : Int → Bool) (lo : Int) (n : Nat) : Int :=
  (List.range n).reverse.foldl (fun t i => if p (t + 2 ^ i) then t + 2 ^ i else t) lo

/-! ### Platinum resistors -/

/-- The range of a platinum element in µ°C (R168). -/
def rtdLow : Int := -200000000
/-- Its upper end. -/
def rtdHigh : Int := 850000000

/-- The resistance of an element of 1 Ω at 0 °C, in units of 10^-39 Ω: 1 + A t + B t², and C (t - 100) t³ more below 0 °C. -/
def rtdOhms (t : Int) : Int :=
  10 ^ 39 + 39083 * 10 ^ 26 * t - 5775 * 10 ^ 17 * t ^ 2 - (if t < 0 then 4183 * (t - 100000000) * t ^ 3 else 0)

/-- The temperature of an element of `r0` Ω from its resistance in mΩ; 1 µ°C beyond the range where the resistance lies
outside it. -/
def rtdMicroC (r0 mOhm : Nat) : Int :=
  let below := fun t => decide (1000 * r0 * rtdOhms t ≤ mOhm * 10 ^ 39)
  if !below rtdLow then rtdLow - 1 else min (lastWhere below rtdLow 30) (rtdHigh + 1)

/-! ### Thermocouples -/

/-- One piece of a characteristic: it holds up to `top`, in µ°C; coefficient i is a mantissa and the count of its decimals,
in mV / °C^i. -/
structure TcPiece where
  top : Int
  coef : List (Int × Nat)

/-- Type J, -210 to 760 °C. -/
def tcJ0 : TcPiece where
  top := 760000000
  coef :=
    [(0, 0), (50381187815, 12), (3047583693, 14), (-8568106572, 17), (13228195295, 20), (-17052958337, 23),
     (20948090697, 26), (-12538395336, 29), (15631725697, 33)]

/-- Type J, 760 to 1200 °C. -/
def tcJ1 : TcPiece where
  top := 1200000000
  coef :=
    [(29645625681, 8), (-14976127786, 10), (31787103924, 13), (-31847686701, 16), (15720819004, 19),
     (-30691369056, 23)]

/-- Type K, -270 to 0 °C. -/
def tcK0 : TcPiece where
  top := 0
  coef :=
    [(0, 0), (39450128025, 12), (23622373598, 15), (-32858906784, 17), (-49904828777, 19), (-67509059173, 21),
     (-57410327428, 23), (-31088872894, 25), (-10451609365, 27), (-19889266878, 30), (-16322697486, 33)]

/-- Type K, 0 to 1372 °C. -/
def tcK1 : TcPiece where
  top := 1372000000
  coef :=
    [(-17600413686, 12), (38921204975, 12), (18558770032, 15), (-99457592874, 18), (31840945719, 20),
     (-56072844889, 23), (56075059059, 26), (-32020720003, 29), (97151147152, 33), (-12104721275, 36)]

/-- Type N, -270 to 0 °C. -/
def tcN0 : TcPiece where
  top := 0
  coef :=
    [(0, 0), (26159105962, 12), (10957484228, 15), (-93841111554, 18), (-46412039759, 21), (-26303357716, 22),
     (-22653438003, 24), (-76089300791, 27), (-93419667835, 30)]

/-- Type N, 0 to 1300 °C. -/
def tcN1 : TcPiece where
  top := 1300000000
  coef :=
    [(0, 0), (25929394601, 12), (1571014188, 14), (43825627237, 18), (-25261169794, 20), (64311819339, 23),
     (-10063471519, 25), (99745338992, 29), (-60863245607, 32), (20849229339, 35), (-30682196151, 39)]

/-- Type T, -270 to 0 °C. -/
def tcT0 : TcPiece where
  top := 0
  coef :=
    [(0, 0), (38748106364, 12), (44194434347, 15), (11844323105, 17), (20032973554, 18), (90138019559, 20),
     (22651156593, 21), (36071154205, 23), (38493939883, 25), (28213521925, 27), (14251594779, 29),
     (48768662286, 32), (1079553927, 33), (13945027062, 37), (79795153927, 41)]

/-- Type T, 0 to 400 °C. -/
def tcT1 : TcPiece where
  top := 400000000
  coef :=
    [(0, 0), (38748106364, 12), (3329222788, 14), (20618243404, 17), (-21882256846, 19), (10996880928, 21),
     (-30815758772, 24), (4547913529, 26), (-27512901673, 30)]

/-- Type E, -270 to 0 °C. -/
def tcE0 : TcPiece where
  top := 0
  coef :=
    [(0, 0), (58665508708, 12), (45410977124, 15), (-77998048686, 17), (-25800160843, 18), (-59452583057, 20),
     (-93214058667, 22), (-10287605534, 23), (-80370123621, 26), (-43979497391, 28), (-16414776355, 30),
     (-39673619516, 33), (-55827328721, 36), (-34657842013, 39)]

/-- Type E, 0 to 1000 °C. -/
def tcE1 : TcPiece where
  top := 1000000000
  coef :=
    [(0, 0), (5866550871, 11), (45032275582, 15), (28908407212, 18), (-33056896652, 20), (6502440327, 22),
     (-19197495504, 26), (-12536600497, 28), (21489217569, 31), (-14388041782, 34), (35960899481, 38)]

/-- Type S, -50 to 1064.18 °C. -/
def tcS0 : TcPiece where
  top := 1064180000
  coef :=
    [(0, 0), (540313308631, 14), (12593428974, 15), (-232477968689, 19), (322028823036, 22), (-331465196389, 25),
     (255744251786, 28), (-125068871393, 31), (271443176145, 35)]

/-- Type S, 1064.18 to 1664.5 °C. -/
def tcS1 : TcPiece where
  top := 1664500000
  coef :=
    [(132900444085, 11), (334509311344, 14), (654805192818, 17), (-164856259209, 20), (129989605174, 25)]

/-- Type S, 1664.5 to 1768.1 °C. -/
def tcS2 : TcPiece where
  top := 1768100000
  coef :=
    [(146628232636, 9), (-258430516752, 12), (163693574641, 15), (-330439046987, 19), (-943223690612, 26)]

/-- The pieces of a type, by its code in SUB[2:0] (R183). -/
def tcPieces : Nat → List TcPiece
  | 0 => [tcJ0, tcJ1]
  | 1 => [tcK0, tcK1]
  | 2 => [tcN0, tcN1]
  | 3 => [tcT0, tcT1]
  | 4 => [tcE0, tcE1]
  | _ => [tcS0, tcS1, tcS2]

/-- The range of a type in µ°C. -/
def tcRange : Nat → Int × Int
  | 0 => (-210000000, 1200000000)
  | 1 => (-270000000, 1372000000)
  | 2 => (-270000000, 1300000000)
  | 3 => (-270000000, 400000000)
  | 4 => (-270000000, 1000000000)
  | _ => (-50000000, 1768100000)

/-- The value of a piece at a temperature, in units of 10^-130 mV. -/
def pieceEmf (p : TcPiece) (t : Int) : Int :=
  (p.coef.zipIdx.map fun c => c.1.1 * t ^ c.2 * 10 ^ (130 - c.1.2 - 6 * c.2)).foldl (· + ·) 0

/-- The exponential of `x` / 10^40, in units of 10^-40: the series at x / 1024, squared ten times. -/
def expFixed (x : Nat) : Nat :=
  let u := 10 ^ 40
  let y := x / 1024
  let series := ((List.range 30).foldl (fun p k => (p.1 + p.2, p.2 * y / u / (k + 1))) (0, u)).1
  (List.range 10).foldl (fun z _ => z * z / u) series

/-- The exponential term of type K above 0 °C, 0.1185976 exp (-0.0001183432 (t - 126.9686)²) mV, in units of 10^-130 mV. -/
def emfExtra (t : Int) : Int :=
  let d := (t - 126968600).natAbs
  (1185976 * 10 ^ 163 / expFixed (1183432 * d ^ 2 * 10 ^ 18) : Nat)

/-- The e.m.f. of a type at a temperature against 0 °C, in units of 10^-130 mV. -/
def tcEmf (k : Nat) (t : Int) : Int :=
  let ps := tcPieces k
  match ps.find? (fun p => decide (t ≤ p.top)), ps.getLast? with
  | some p, _ => pieceEmf p t + (if k = 1 && decide (0 < t) then emfExtra t else 0)
  | none, some p => pieceEmf p t + (if k = 1 then emfExtra t else 0)
  | none, none => 0

/-- The temperature of a thermocouple from its e.m.f. in µV and its cold junction in 0.01 °C; 1 µ°C beyond the type's range
where it lies outside. -/
def tcMicroC (k : Nat) (uV cj : Int) : Int :=
  let r := tcRange k
  let total := uV * 10 ^ 127 + tcEmf k (10000 * cj)
  let below := fun t => decide (tcEmf k t ≤ total)
  if !below r.1 then r.1 - 1
  else if below r.2 then (if total = tcEmf k r.2 then r.2 else r.2 + 1)
  else lastWhere (fun t => decide (t ≤ r.2) && below t) r.1 31

end Sys2Proof.Machine
end

