-- ==== Sys2Proof/Machine/Field.lean ====
section
/-! DEFINITION. Channels as the other families use them: quality (R151, R152), measured values (R149, R165 to R169), the
output precedence (R16) and the stages, current-loop commands and targets (R188, R189). -/

namespace Sys2Proof.Machine

/-! ### Modes -/

/-- An input mode (R146). -/
def isInput (m : Nat) : Bool := m = 1 || m = 4 || m = 5 || m = 6 || m = 7 || m = 8 || m = 0xD
/-- A mode whose stage switches terminal A: the outputs R176 suppresses. -/
def isSwitch (m : Nat) : Bool := m = 2 || m = 3 || m = 0xA || m = 0xB
/-- An output mode. -/
def isOutput (m : Nat) : Bool := isSwitch m || m = 9
/-- A channel of a safe output pair (R203). -/
def isPairChan (s : State) (i : Nat) : Bool :=
  chanMode s i = 0xB || (chanMode s i = 2 && (chanCfg s i).safety)
/-- The pair that SUB[4:0] names (R164). -/
def pairOf (s : State) (i : Nat) : Nat := (chanCfg s i).sub.toNat % 32
/-- A group at or below low fault (R174). -/
def lowFault (g : Group) : Bool := g.level == .fault || g.level == .missing

/-! ### Quality (R151) -/

/-- CODE of channel index i: the first row of R151 that applies. Before an image has named the channels' modes there is no
value since start (row 3), and FCH_QUAL reads its default (R183). -/
def qualCode (s : State) (i : Nat) : BitVec 4 :=
  let m := chanMode s i
  let c := chan s i
  let g := grp s (groupOf i)
  if m = 0 || m = 0xC then (if s.boot.loaded then 0xF else 0xE)
  else if g.maint then 0x3
  else if !g.link || !c.hasValue || c.heldE then 0xE
  else if isInput m && s.tim.barLimit then 0x2
  else if c.frozen || (isSwitch m && lowFault g) then 0x1
  else if c.qShort || c.qSupply || c.tripped || c.lover then 0x5
  else if c.qCross then 0x9
  else if c.qOpen then 0x4
  else if c.qImbal then 0xC
  else if c.qPartner then 0xD
  else if c.qCompl then 0xA
  else if c.qCold then 0xB
  else if c.qNeLow then 0x6
  else if c.qNeHigh then 0x7
  else if c.qOver then 0x8
  else 0x0

/-- The quality word: CODE, RANGE with code 0x0 only, SUPPR (R151, R176). -/
def qualWord (s : State) (i : Nat) : Word :=
  let code := qualCode s i
  code.setWidth 32 ||| Word.flag (code == 0 && (chan s i).range) 8 |||
    Word.flag (isSwitch (chanMode s i) && (grp s (groupOf i)).suppr) 9

/-- Whether the quality of channel index i is good. -/
def qualGood (s : State) (i : Nat) : Bool := qualCode s i == 0

/-- Whether a code is one of 0x4 to 0xD, which FAULT of FCH_C_EVT reports (R183). -/
def isFaultCode (c : BitVec 4) : Bool := decide (4 ≤ c) && decide (c ≤ 0xD)

/-- The sticky bits that entering a code sets (R183). -/
def codeEvt (c : BitVec 4) (w : Word) : Word :=
  let w := orBit w 0 (isFaultCode c)
  let w := orBit w 1 (c == 9)
  let w := orBit w 2 (c == 5)
  let w := orBit w 3 (c == 4)
  let w := orBit w 5 (c == 0xD)
  orBit w 6 (c == 0xC)

/-- The quality of channel index i looked at again: a change is posted and the sticky bits of what it enters are set
(R183, R357). No channel diagnostic is posted while the group is in maintenance (R181). -/
def requal (i : Nat) (s : State) : State :=
  let c := qualCode s i
  let old := (chan s i).code
  let shown := (chan s i).range && c == 0
  let s := if shown = (chan s i).rangeShown then s else
      setChan i (fun x => { x with rangeShown := shown, evt := orBit x.evt 4 shown }) s
  if c = old then s
  else
    let maint := (grp s (groupOf i)).maint
    let s := setChan i (fun x => { x with code := c, evt := if maint then x.evt else codeEvt c x.evt,
                                          faults := if isFaultCode c && !isFaultCode old && !maint then inc16 x.faults else x.faults }) s
    let s := if isFaultCode c && !maint then
        { s with fch := { s.fch with evt := setBit s.fch.evt (8 + groupOf i) } } else s
    if maint then s else post 0x0602 (i + 1) [] s

/-- The quality of every channel of a list looked at again. -/
def requalAll (l : List Nat) (s : State) : State := forEach l requal s

/-! ### Measured values -/

/-- The value of a digital input (R149): filtered state, raw state, changes since the last TI. -/
def diWord (c : Chan) : Word :=
  Word.flag c.filt 0 ||| Word.flag c.raw 1 ||| Word.field (min c.changes 255) 8

/-- Values older than the newest one that is at least 2 ms old are dropped (R175). -/
def pruneHist (now : Nat) : List (Nat × Word) → List (Nat × Word)
  | [] => []
  | p :: t => if p.1 + 2000 ≤ now then [p] else p :: pruneHist now t

/-- The value a channel held 2 ms ago (R175). -/
def valueBefore (now : Nat) (c : Chan) : Word :=
  match c.hist.find? (fun p => decide (p.1 + 2000 ≤ now)) with
  | some p => p.2
  | none => (c.hist.getLast?.map (·.2)).getD c.live

/-- A fresh value of channel index i: kept as live value and history; shown unless the channel is frozen or the barrier
limits (R152). -/
def setLive (i : Nat) (w : Word) (s : State) : State :=
  let lim := s.tim.barLimit
  let now := nowUs s
  setChan i (fun c => { c with live := w, hist := (now, w) :: pruneHist now c.hist, hasValue := true,
                               value := if c.frozen || c.heldE || lim then c.value else w }) s

/-- What an input shows by its conditions: the word it froze on, its last word while a shared input disagrees, or the
latest (R152, R173, R175). While the barrier limits, the word shown stays (R152). -/
def shownWord (lim : Bool) (c : Chan) : Word :=
  if lim || c.heldE then c.value else if c.frozen then c.fz else c.live

/-- lo at x = x0, hi at x = x0 + span, linear between and beyond, rounded once (R149, log 18). -/
def linear (lo hi : Word) (x x0 : Int) (span : Nat) : Word :=
  match fval lo, fval hi with
  | .fin a m e, .fin b n g =>
    let r := addDyadic (sgnd a m * (span - (x - x0))) e (sgnd b n * (x - x0)) g
    fofRatio (r.1 * 2 ^ r.2.toNat) (span * 2 ^ (-r.2).toNat)
  | _, _ => fNaN

/-- The conversion-set conditions of a channel cleared. -/
def clearMeas (c : Chan) : Chan :=
  { c with qShort := false, qOpen := false, qNeLow := false, qNeHigh := false, qOver := false, range := false, qCold := false }

/-- The conditions that a loop current sets on a 4–20 mA input (R166). -/
def maBands (ne43 limit : Bool) (ua : Int) (c : Chan) : Chan :=
  let c := clearMeas c
  if limit || decide (ua ≥ 23000) then { c with qShort := true }
  else if ua < 500 then { c with qOpen := true }
  else if !ne43 then c
  else if ua < 3600 then { c with qNeLow := true }
  else if ua < 3800 then { c with range := true }
  else if ua ≤ 20500 then c
  else if ua ≤ 21000 then { c with range := true }
  else { c with qNeHigh := true }

/-- A temperature in µ°C as binary32 °C. -/
def microC (t : Int) : Word := fofRatio t 1000000

/-- A binary32 temperature in 0.01 °C, rounded to the nearest. -/
def centiOf (w : Word) : Int :=
  match fval w with
  | .fin neg m e => nearestFin neg (100 * m) e
  | _ => 0

/-- A temperature held to a range: value and whether it lay outside (R152, R168, R169). -/
def tempIn (lo hi t : Int) : Word × Bool :=
  if t < lo then (microC lo, true) else if t > hi then (microC hi, true) else (microC t, false)

/-- The lead resistance in the measurement of an RTD, in mΩ: the round trip set for 2-wire; for 3-wire the sense lead's,
assumed equal in the excitation and the return lead; none for 4-wire (R168, log 103). -/
def leadOhms (cfg : ChanCfg) (lead : Nat) : Nat :=
  match cfg.sub.toNat % 4 with
  | 0 => cfg.aux.toNat % 65536
  | 1 => 2 * lead
  | _ => 0

/-- An RTD's conditions and value from its resistance and its sense lead's (R168). With a break or a short the value is held. -/
def rtdConvert (cfg : ChanCfg) (mOhm lead : Nat) (i : Nat) (s : State) : State :=
  let k := if cfg.sub.getLsbD 2 then 10 else 1
  if mOhm > 4000000 * k then setChan i (fun c => { clearMeas c with qOpen := true, hasValue := true }) s
  else if mOhm < 10000 * k then setChan i (fun c => { clearMeas c with qShort := true, hasValue := true }) s
  else
    let v := tempIn rtdLow rtdHigh (rtdMicroC (if cfg.sub.getLsbD 2 then 1000 else 100) (mOhm - leadOhms cfg lead))
    setLive i v.1 (setChan i (fun c => { clearMeas c with qOver := v.2 }) s)

/-- The cold-junction temperature of a thermocouple in 0.01 °C, and whether it is good (R169). -/
def coldJunction (s : State) (cfg : ChanCfg) (c : Chan) (cj : Int) : Int × Bool :=
  match cfg.sub.toNat / 16 % 4 with
  | 0 => (cj, true)
  | 1 =>
    let n := cfg.aux.toNat % 128 - 1
    if qualGood s n then (centiOf (chan s n).value, true) else (c.coldJ, false)
  | _ => ((cfg.aux.extractLsb' 16 16).toInt, true)

/-- A thermocouple's conditions and value (R169). While a break stands the value is held. -/
def tcConvert (cfg : ChanCfg) (uV cj : Int) (i : Nat) (s : State) : State :=
  let c := chan s i
  let t := coldJunction s cfg c cj
  let k := cfg.sub.toNat % 8
  let v := tempIn (tcRange k).1 (tcRange k).2 (tcMicroC k uV t.1)
  let s := setGrp (groupOf i) (fun g => { g with cj := cj }) s
  let s := setChan i (fun c => { c with coldJ := t.1, qCold := !t.2, qOver := v.2, qShort := false }) s
  if c.qOpen then setChan i (fun c => { c with hasValue := true }) s else setLive i v.1 s

/-- A completed conversion of channel index i (R165 to R169). A quantity the channel's mode does not measure does
nothing. The converter code has no defined scale (R183): a free value. -/
def convert (i : Nat) (m : Meas) (s : State) : State :=
  let cfg := chanCfg s i
  let s := takeFree (setChan i (fun c => { c with rawCode := (freeVal s).setWidth 24 }) s)
  match chanMode s i, m with
  | 4, .current ua lim =>
    setLive i (linear cfg.lo cfg.hi ua 4000 16000) (setChan i (maBands (cfg.sub.getLsbD 0) lim ua) s)
  | 5, .voltage uv =>
    setLive i (linear cfg.lo cfg.hi uv 0 10000000)
      (setChan i (fun c => { clearMeas c with rbVolt := BitVec.ofInt 16 (uv / 10000), range := decide (uv < -200000) || decide (uv > 10500000),
                                              qOver := decide (uv ≤ -500000) || decide (uv ≥ 11000000) }) s)
  | 6, .rtd r lead => rtdConvert cfg r lead i s
  | 7, .tc uv cj => tcConvert cfg uv cj i s
  | _, _ => s

/-- The substitute of channel index i in maintenance (R181, R191): a trim session's current, 0 for a safety input, the
fixed substitute or the value at entry. -/
def maintSubst (s : State) (i : Nat) : Word :=
  let fixed := if (chanCfg s i).substFix then (chanCfg s i).subst else (chan s i).subst
  if isInput (chanMode s i) && (chanCfg s i).safety then 0
  else match s.fch.ses with
    | some t => if t.ch.val = i then (match t.point with | .zero => 0x40800000 | .span => 0x41A00000) else fixed
    | none => fixed

/-- Whether the stage of a switching output drives terminal A to its supply, as far as its diagnosed conditions say (log 19). A
low-side return that is on holds terminal A at FSnN (R164). -/
def stageHigh (s : State) (i : Nat) : Bool :=
  let c := chan s i
  chanMode s i ≠ 0xB && c.stage && !c.dark && !c.qShort

/-- Whether terminal A is another's to drive: a standby's stages are off, and it reads what its partner drives (R172). -/
def terminalShared (s : State) : Bool := s.pst.member && !gate s

/-- What the readback of a switching output reads, in 10 mV: the last reading of a crossed terminal or of one that the partner
drives, the group's supply while the stage drives it, else FSnN (R183, log 19). -/
def readbackVolt (s : State) (i : Nat) : BitVec 16 :=
  let c := chan s i
  if c.qCross || terminalShared s then c.rbVolt else if stageHigh s i then (grp s (groupOf i)).volt else 0

/-- The readback state of a switching output: terminal A at or above 11 V. While no supply has been measured since the start, a
stage that drives reads on (R149, log 19). -/
def readbackHigh (s : State) (i : Nat) : Bool :=
  let c := chan s i
  if c.qCross then true
  else if !terminalShared s && stageHigh s i && (grp s (groupOf i)).volt == 0 then true
  else decide (1100 ≤ (readbackVolt s i).toInt)

/-- The mean of the last ten measured duties in 0.1 µs of period, as binary32 % (R162). -/
def dutyWord (cfg : ChanCfg) (c : Chan) : Word :=
  let per := cfg.filt.toNat % 16777216
  if c.duties.isEmpty || per = 0 then f0
  else fofRatio ((c.duties.foldl (· + ·) 0 * 100 : Nat) : Int) (per * c.duties.length)

/-- µA as binary32 mA. -/
def maOf (ua : Int) : Word := fofRatio ua 1000

/-- The value word of channel index i (R149, R152). -/
def valueWord (s : State) (i : Nat) : Word :=
  let m := chanMode s i
  let c := chan s i
  if m = 0 || m = 0xC then 0
  else if isInput m && (grp s (groupOf i)).maint then maintSubst s i
  else if m = 1 then (if c.frozen || c.heldE || s.tim.barLimit then c.value else diWord c)
  else if m = 2 || m = 0xA || m = 0xB then Word.flag (readbackHigh s i) 0 ||| Word.flag c.stage 1
  else if m = 3 then dutyWord (chanCfg s i) c
  else if m = 9 then maOf c.lmean
  else c.value

/-! ### Current-loop commands (R188, R189) -/

/-- 3.5 mA. -/
def ma3_5 : Word := 0x40600000
/-- 21.5 mA. -/
def ma21_5 : Word := 0x41AC0000

/-- The clamped command of R188. -/
def clampCmd (cfg : ChanCfg) (w : Word) : Word :=
  let v := fval w
  let ne43 := cfg.sub.getLsbD 1
  if fnan w then (if cfg.sub.getLsbD 2 then ma21_5 else ma3_5)
  else if !(flt f0 w) then f0
  else if !(v.scaledGt 10 36) then (if ne43 then ma3_5 else if flt w ma3_5 then ma3_5 else w)
  else if v.scaledLt 10 38 then (if ne43 then 0x40733333 else w)
  else if !(v.scaledGt 10 205) then w
  else if v.scaledLt 1 21 then (if ne43 then 0x41A40000 else w)
  else if ne43 then ma21_5 else if flt ma21_5 w then ma21_5 else w

/-- CLAMPED: the clamped command differs from the command word (R188). -/
def clampChanged (cfg : ChanCfg) (w : Word) : Bool := !(feq (clampCmd cfg w) w)

/-- The drive target for a clamped command and trims in µA (R189). -/
def driveTarget (c : Word) (z sp : Int) : Word :=
  if !(flt f0 c) then f0
  else match fval c with
    | .fin neg m e =>
      let r := addDyadic (sgnd neg m * (16000 + sp - z)) e (16 * z - 4 * (sp - z)) 0
      fofRatio (r.1 * 2 ^ r.2.toNat) (16000 * 2 ^ (-r.2).toNat)
    | _ => f0

/-- The trims that act on channel index i: stored, with the pending value of an open session in place (R191). -/
def trimsOf (s : State) (i : Nat) : Int × Int :=
  let t := tget {} s.fch.trims i
  let z := if t.bad then 0 else t.z
  let sp := if t.bad then 0 else t.s
  match s.fch.ses with
  | some x => if x.ch.val = i then (match x.point with | .zero => (x.pending, sp) | .span => (z, x.pending)) else (z, sp)
  | none => (z, sp)

/-- The target in force during a take-over ramp: it moves from its start at RAMP, in 0.1 % of 16 mA per second, toward
the target (R200). -/
def rampTarget (s : State) (i : Nat) : Word :=
  let c := chan s i
  let rate := (chanCfg s i).ramp.toNat
  if !c.lramp || rate = 0 then c.ltarget
  else
    let moved := fofRatio ((16 * rate * (nowUs s - c.lrampAt) : Nat) : Int) 1000000000
    if flt c.lrampFrom c.ltarget then fmin (fadd c.lrampFrom moved) c.ltarget else fmax (fsub c.lrampFrom moved) c.ltarget

/-! ### The output precedence (R16) -/

/-- The lead of a paralleled member: the nearest lower channel that is a lead (R161). -/
def leadOf (s : State) (i : Nat) : Nat :=
  if (chanCfg s i).par = 2 then
    (([i - 1, i - 2, i - 3].find? (fun j => (chanCfg s j).par == 1))).getD i
  else i

/-- Row 1 of R16. -/
def row1 (s : State) : Bool :=
  s.sup.mode == .start || s.sup.mode == .decaf || s.sup.blank || !s.boot.loaded || !drives s

/-- Row 3 of R16. -/
def row3 (s : State) : Bool := s.sup.mode == .safe || s.sup.mode == .hold || s.sup.holdRow

/-- Rows 3 to 7 of R16 for a channel of no safe output pair. -/
def drivenBelow (s : State) (i : Nat) (img : Tab Word) : Word :=
  if row3 s then (chanCfg s (leadOf s i)).safe
  else if (grp s (groupOf i)).maint then maintSubst s (leadOf s i)
  else if (chanCfg s i).loop then tget 0 s.lpe.handoff i
  else if chanMode s i = 0xA then 1
  else tget 0 img (leadOf s i)

/-- The command word channel index i drives (R16). -/
def driven (s : State) (i : Nat) : Word :=
  if row1 s then 0
  else if isPairChan s i then Word.ofBool ((tget {} s.saf.pairs (pairOf s i)).on && !row3 s)
  else drivenBelow s i s.cyc.released

/-- Whether a standby's states come from its partner's deltas: Copy mode, and no shadow (R287, R293). -/
def copyFed (s : State) : Bool := s.img.plan.mode == .copy && !s.pst.shadow

/-- The command that the partner drives a shared output with, as this standby has it: by the state copy, or computed itself. Rows
3 and 4 of R16 hold for both modules alike; a pair's request counts, which its Quill may hold off (R172, R180, R287). -/
def partnerCmd (s : State) (i : Nat) : Word :=
  let img := if copyFed s then s.cyc.outImg else s.cyc.released
  if isPairChan s i then (if row3 s || (grp s (groupOf i)).maint then 0 else tget 0 img (leadOf s i)) else drivenBelow s i img

/-- A switching stage under a command: on while commanded, linked and not tripped; an off command ends an open load
(R157 to R159). -/
def switchStage (link : Bool) (w : Word) (c : Chan) : Chan :=
  let on := w.getLsbD 0
  { c with cmd := w, stage := on && link && !c.tripped, qOpen := c.qOpen && on, dark := c.dark && on }

/-- A PWM output under a command: the duty waits for the next period, but a stage that row 1 or a lost link turns off
goes off at once (R16, R162, R179). -/
def pwmStage (off : Bool) (w : Word) (c : Chan) : Chan :=
  { c with cmd := w, duty := if off then f0 else c.duty, stage := c.stage && !off }

/-- A current-loop output under a command (R188, R189): a command that changes during a ramp redirects it (R200). -/
def loopStage (s : State) (i : Nat) (link : Bool) (w : Word) (c : Chan) : Chan :=
  let cfg := chanCfg s i
  let cl := if link then clampCmd cfg w else f0
  let t := driveTarget cl (trimsOf s i).1 (trimsOf s i).2
  let ramp := c.lramp && link && !row1 s
  let redirect := ramp && t != c.ltarget
  { c with cmd := w, lclamp := cl, lclamped := clampChanged cfg w, ltarget := t, ldrive := flt f0 cl || ramp,
           lramp := ramp, lrampFrom := if redirect then rampTarget s i else c.lrampFrom,
           lrampAt := if redirect then nowUs s else c.lrampAt }

/-- Whether the outputs of channel index i's group wait for the next TO (R179, R182); rows 1 and 3 and a lost link do not wait. -/
def waitsForTo (s : State) (i : Nat) : Bool :=
  (grp s (groupOf i)).outWait && (grp s (groupOf i)).link && !row1 s && !row3 s && !isPairChan s i

/-- The stage of channel index i brought to what R16 gives it. An off command ends an open load, and the quality follows (R159). The
sense path of a 4–20 mA input and the excitation of an RTD follow the gate: a standby measures the voltage that its partner's
produce (R173, R270). -/
def applyOutput (i : Nat) (s : State) : State :=
  let m := chanMode s i
  let link := (grp s (groupOf i)).link
  let w := driven s i
  if waitsForTo s i then s
  else if m = 9 then setChan i (loopStage s i link w) s
  else if m = 3 then setChan i (pwmStage (row1 s || !link) w) s
  else if isSwitch m then
    let t := setChan i (switchStage link w) s
    if (chan s i).qOpen && !w.getLsbD 0 then requal i t else t
  else if m = 4 || m = 6 then setChan i (fun c => { c with sense := drives s }) s
  else s

/-- Every channel index. -/
def allChans : List Nat := List.range 96

/-- Every output brought to what R16 gives it. -/
def applyOutputs (s : State) : State := forEach allChans applyOutput s

/-- FCH_SUPPLY and input image word 0x00C3: four bits a group (R183). -/
def supplyNibble (g : Group) : Nat :=
  (match g.level with | .normal => 0 | .warning => 1 | .fault => 2 | .missing => 3)
  + (if g.maint then 4 else 0) + (if g.link then 0 else 8)

/-- The supply state word of the six groups. -/
def supplyWord (s : State) : Word :=
  BitVec.ofNat 32 ((List.range 6).foldl (fun n g => n + supplyNibble (grp s g) * 16 ^ g) 0)

end Sys2Proof.Machine
end

