-- ==== Sys2Proof/Machine/Content.lean ====
section
/-! DEFINITION. What the panel shows (R386, R391): the alarm list by priority, the cell status, the values of a page, the built-in
pages, the Chop's rectangle; and the points' settings and states that it is made of (R251, R256). -/

namespace Sys2Proof.Machine

/-! ### Points (R248, R251, R256) -/

/-- An active point state. -/
def isActive (p : PointState) : Bool := p == .activeUnack || p == .activeAck
/-- An unacknowledged point state. -/
def isUnack (p : PointState) : Bool := p == .activeUnack || p == .returnedUnack

/-- The default priority of a system point (R256). -/
def systemPrio (n : Nat) : BitVec 2 :=
  if n < 4070 then 2 else if n < 4077 then 3 else if n = 4077 || n = 4079 || n = 4081 || n = 4082 then 2 else 1

/-- A point's settings with what the image leaves to its default: the priority of a system point, which lies in the root cell
(R256). -/
def effPoint (n : Nat) (c : PointCfg) : PointCfg :=
  { c with prio := if c.prio != 0 then c.prio else if n < 4064 then 3 else systemPrio n, cell := if n < 4064 then c.cell else 0 }

/-- ALMN of a point: by default that of its priority (R251). -/
def almnOf (c : PointCfg) : Bool := c.almn.getD (c.prio != 1)
/-- ACKRET of a point: by default that of its priority (R248). -/
def ackretOf (c : PointCfg) : Bool := c.ackret.getD (c.prio != 1)

/-- The points in use: those of the image, never 4 084 to 4 095, and 4 076 wherever the dead-man timer is configured (R256). -/
def points (s : State) : List (Nat × PointCfg) :=
  (s.img.points.filter (fun p => decide (p.1 < 4084))).map (fun p => (p.1, effPoint p.1 p.2)) ++
    (if s.img.dead.isSome && (iget s.img.points 4076).isNone then [(4076, effPoint 4076 {})] else [])

/-- A point's settings. -/
def pointCfg (s : State) (n : Nat) : PointCfg := (iget (points s) n).getD {}
/-- A point's state. -/
def pnt (s : State) (n : Nat) : Point := tget {} s.alm.points n

/-- The code of a point state (R248). -/
def pointCode : PointState → Nat
  | .normal => 0
  | .activeUnack => 1
  | .activeAck => 2
  | .returnedUnack => 3
  | .shelved => 4
  | .blocked => 5

/-! ### The Chop's rectangle (R374, R376, R386) -/

/-- The fault a port reports: the lowest code of its causes (R374). -/
def meterFault (x : Meter) : Nat := (((List.range 4).find? (fun c => x.causes.getLsbD c)).map (· + 1)).getD 0

/-- A meter total: the grades' and the unassigned (R376). -/
def meterTotal (x : Meter) : BitVec 64 := x.gtot.foldl (· + ·) x.utot

/-- What the Chop's rectangle shows (R383, R386). -/
def chopFaceOf (c : Chop) : ChopFace :=
  let used := (List.range 4).filter (fun m => (c.ports.getD m {}).mode != 0)
  { ports := used.map (fun m =>
      let x := tget {} c.meters m
      { port := m, total := meterTotal x, grade := x.grade,
        gradeTotal := if x.grade = 0 then x.utot else x.gtot.getD (x.grade.toNat - 1) 0, fault := meterFault x }),
    fwid := c.fwid, fwchk := c.fwchk, audit := c.audit, switchOpen := c.switchOpen, romFault := c.romFault, paramFault := c.paramFault }

/-! ### Pages (R391) -/

/-- Whether the built-in standby page is in force (R391). -/
def standbyPage (s : State) : Bool := roleShown s == .standby && s.sup.mode != .decaf

/-- The alarm list: every point that is not Normal, of the highest priority first (R251). -/
def alarmList (s : State) : List AlarmLine :=
  let l := (points s).filter (fun p => (pnt s p.1).st != .normal)
  ([3, 2, 1] : List (BitVec 2)).flatMap (fun q => (l.filter (fun p => p.2.prio == q)).map (fun p =>
    { point := p.1, prio := q, state := pointCode (pnt s p.1).st, text := p.2.text }))

/-- The status of the cells, from their alarm summaries (R253, R391). -/
def cellLines (s : State) : List CellLine :=
  (List.range s.img.cells.length).map (fun n =>
    let x := tget {} s.alm.cells n
    { cell := n, prio := x.prio, active := x.active, unack := x.unack, marks := (x.shelved, x.blocked, x.suppr) })

/-- The 96 channels of the survey: class and alarm (R444, R445). -/
def surveyGrid (s : State) : List (BitVec 4 × Bool) :=
  (List.range 96).map (fun i => let x := tget {} s.boot.survey i; (x.cls, x.almState || x.almQual || x.almValue))

/-- The value of a tag; in Split each partition's tags stand in its own lane (R112). -/
def tagValue (s : State) (n : Nat) : Word :=
  let l := if wordOfB s n then s.nibB else s.nibA
  (forced s (.tag n)).getD (tget 0 l.data n)

/-- What the page in force shows (R391). -/
def panelContent (s : State) : PanelContent :=
  if s.sup.mode = .decaf then .builtin s.boot.decaf (surveyGrid s)
  else if standbyPage s then .standby s.pst.ready
  else .page s.dsp.page (alarmList s) (cellLines s) s.cyc.unsaved
    (((iget s.img.panel.pageTags s.dsp.page.toNat).getD []).map (fun t => (t, tagValue s t)))

end Sys2Proof.Machine
end

