-- ==== Sys2Proof/Machine/Panel.lean ====
section
/-! DEFINITION. The Vellum display driver (R387 to R405): requests and their merging, frames, rails, temperature bands,
aborts with the dirty map, and the panel's start sequence. -/

namespace Sys2Proof.Machine

/-- The waveform modes of DSP_R_STAT. -/
def wfFull : BitVec 2 := 0
/-- Fast. -/
def wfFast : BitVec 2 := 1
/-- Clear. -/
def wfClear : BitVec 2 := 2

/-- The driver's state changed. -/
def setDsp (f : Dsp → Dsp) (s : State) : State := { s with dsp := f s.dsp }

/-- Whether two areas share a pixel. -/
def overlaps (a b : Rect) : Bool :=
  decide (a.x < b.x + b.w) && decide (b.x < a.x + a.w) && decide (a.y < b.y + b.h) && decide (b.y < a.y + a.h)

/-- The bounding rectangle of two areas (R398). -/
def bbox (a b : Rect) : Rect :=
  let x := min a.x b.x
  let y := min a.y b.y
  { x := x, y := y, w := max (a.x + a.w) (b.x + b.w) - x, h := max (a.y + a.h) (b.y + b.h) - y }

/-- The whole panel. -/
def panelArea (d : Dsp) : Rect := { x := 0, y := 0, w := d.cols, h := d.rows }

/-- The Chop's rectangle: 400 × 160 pixels at the lower right corner (R386). -/
def chopArea (d : Dsp) : Rect := { x := d.cols - 400, y := d.rows - 160, w := min 400 d.cols, h := min 160 d.rows }

/-! ### Display memory (R389, R396, R397) -/

/-- A pixel's place in a buffer. -/
def pixelAt (x y : Nat) : Nat := 1600 * y + x

/-- Whether a pixel lies in an area. -/
def inArea (r : Rect) (i : Nat) : Bool :=
  decide (r.x ≤ i % 1600) && decide (i % 1600 < r.x + r.w) && decide (r.y ≤ i / 1600) && decide (i / 1600 < r.y + r.h)

/-- The pixels of the panel in an area. -/
def pixelsOf (d : Dsp) (r : Rect) : List Nat :=
  (span r.y (min (r.y + r.h) d.rows)).flatMap (fun y => (span r.x (min (r.x + r.w) d.cols)).map (fun x => pixelAt x y))

/-- The pixels that a drawing or a rectangle of a class reaches: the Chop alone its own rectangle, all others nothing of it
(R21, R399). -/
def ownPixels (s : State) (cls : PClass) (r : Rect) : List Nat :=
  if s.id.chopFitted then (pixelsOf s.dsp r).filter (fun i => inArea (chopArea s.dsp) i == (cls == .chop)) else pixelsOf s.dsp r

/-- The linear gamma table: 16 intensities to a level (R396, log 126). -/
def linearLevel (v : Byte) : BitVec 4 := v.extractLsb' 4 4

/-- The colour plane of the filter element over a pixel; grey without a filter (R396). -/
def planeOf (d : Dsp) (x y : Nat) : Nat := if d.filter = 1 then (Config.mosaic (x % 2) (y % 2)).val else 4

/-- The level of an intensity of a colour plane: by the image's table, linear where there is none (R396). -/
def gammaLevel (d : Dsp) (plane : Nat) (v : Byte) : BitVec 4 := (d.gamma.getD plane []).getD v.toNat (linearLevel v)

/-- The level of a pixel as a content draws it, where the content defines it: the Chop's rectangle uses the linear tables
(R390, R396). -/
def drawnLevel (d : Dsp) (c : PanelContent) (i : Nat) : Option (BitVec 4) :=
  (Config.intensity d.draws c (i % 1600) (i / 1600)).map (fun v => match c with
    | .chop _ => linearLevel v
    | _ => gammaLevel d (planeOf d (i % 1600) (i / 1600)) v)

/-- An area of the draft drawn anew by the renderer, or by the Chop; what the page leaves undefined stays (R386, R390, R391). -/
def drawArea (cls : PClass) (r : Rect) (s : State) : State :=
  let c := if cls = .chop then .chop (chopFaceOf s.chop) else panelContent s
  setDsp (fun d => { d with
    draft := tputs 0 d.draft ((ownPixels s cls r).filterMap (fun i => (drawnLevel d c i).map (fun v => (i, v)))), draws := d.draws + 1,
    content := if cls = .chop then d.content else c, chopFace := if cls = .chop then c else d.chopFace }) s

/-- Pixels copied from one buffer to another. -/
def copyPixels (src dst : Tab (BitVec 4)) (ps : List Nat) : Tab (BitVec 4) := tputs 0 dst (ps.map (fun i => (i, tget 0 src i)))

/-- What a starting rectangle latches as its target: its draft area; white for a Clear (R394, R397). -/
def latchTarget (s : State) (cls : PClass) (clear : Bool) (r : Rect) : Tab (BitVec 4) :=
  let ps := ownPixels s cls r
  if clear then tputs 0 s.dsp.target (ps.map (fun i => (i, Config.whiteLevel))) else copyPixels s.dsp.draft s.dsp.target ps

/-! ### Requests (R391, R398 to R400) -/

/-- The order of the classes at a frame boundary (R398). -/
def classRank : PClass → Nat
  | .alarm => 0
  | .chop => 1
  | .other => 2

/-- The higher class of two. -/
def higher (a b : PClass) : PClass := if classRank a ≤ classRank b then a else b

/-- Whether a request merges with others: the Chop's, a Clear, the redraw after one and a compensation do not (R398, R399,
R400, R403). -/
def merges (a : PReq) : Bool := a.cls != .chop && !a.clear && a.comp.isNone && !a.solo

/-- Whether two requests may merge. -/
def mergeable (a b : PReq) : Bool := merges a && merges b

/-- Two requests merged (R398). -/
def mergeReq (a b : PReq) : PReq :=
  { area := bbox a.area b.area, cls := higher a.cls b.cls, full := a.full || b.full, ahead := a.ahead || b.ahead, atUs := min a.atUs b.atUs }

/-- A request put in order of arrival. -/
def insertReq (r : PReq) : List PReq → List PReq
  | [] => [r]
  | p :: q => if p.atUs ≤ r.atUs then p :: insertReq r q else r :: p :: q

/-- A request merged with waiting requests while any overlap remains (R398). -/
def mergeAll : Nat → List PReq → PReq → List PReq × PReq
  | 0, q, r => (q, r)
  | n + 1, q, r =>
    match q.find? (fun p => mergeable p r && overlaps p.area r.area) with
    | none => (q, r)
    | some p => mergeAll n (q.erase p) (mergeReq p r)

/-- How much a waiting request grows by taking in another. -/
def growth (p r : PReq) : Nat := let b := bbox p.area r.area; b.w * b.h - p.area.w * p.area.h

/-- The waiting request that grows least. -/
def leastGrowth (r : PReq) : List PReq → Option PReq
  | [] => none
  | p :: q =>
    match leastGrowth r q with
    | none => some p
    | some b => if growth p r ≤ growth b r then some p else some b

/-- A request queued (R398): merged with what it overlaps; with a full queue, merged with the request of its class that
grows least, and with what the two then overlap; one whose class has none waiting with any other (log 127). -/
def enqueue (r : PReq) (q : List PReq) : List PReq :=
  let m := mergeAll 32 q r
  if m.1.length < 32 then insertReq m.2 m.1
  else
    let into (p : PReq) : List PReq := let n := mergeAll 32 (m.1.erase p) (mergeReq p m.2); insertReq n.2 n.1
    match leastGrowth m.2 (m.1.filter (fun p => p.cls == m.2.cls && mergeable p m.2)) with
    | some p => into p
    | none =>
      match leastGrowth m.2 (m.1.filter (fun p => mergeable p m.2)) with
      | some p => into p
      | none => m.1

/-- A queue held to 32 entries by merging all that may merge (R398, log 127). -/
def fitQueue (q : List PReq) : List PReq :=
  if q.length ≤ 32 then q
  else
    match q.filter merges with
    | [] => q.take 32
    | p :: ps => (insertReq (ps.foldl mergeReq p) (q.filter (fun r => !merges r))).take 32

/-- The slots in flight. -/
def inFlight (d : Dsp) : List (Nat × PSlot) := ((List.range 8).map (fun i => (i, tget {} d.slots i))).filter (fun p => p.2.active)

/-- Whether a request waits for what is in flight. The Chop's pixels receive "none" in every other rectangle, so only
requests of like ownership overlap (R399). -/
def blockedBy (d : Dsp) (r : PReq) : Bool :=
  (inFlight d).any (fun p => overlaps p.2.area r.area && ((p.2.cls == .chop) == (r.cls == .chop)))

/-- Whether shed step 2 holds a request back: one of class other that is neither a reissue nor of the start sequence (R404). -/
def deferredReq (s : State) (r : PReq) : Bool := decide (s.tim.shed ≥ 2) && r.cls == .other && !r.ahead && !r.start

/-- Whether a compensation still waits or runs. -/
def compensating (d : Dsp) : Bool := d.queue.any (fun r => r.comp.isSome) || (inFlight d).any (fun p => p.2.comp)

/-- Whether a waiting request may start: during the start sequence only its own, the Clear after the compensations (R403), and
none of class other while shed step 2 stands (R404). -/
def eligible (s : State) (r : PReq) : Bool :=
  (!s.dsp.recovery || r.start) && !(r.start && r.clear && r.comp.isNone && compensating s.dsp) && !deferredReq s r

/-! ### Rails (R392, R393) -/

/-- Whether the rails may be on: not from the power-fail warning to its end, nor in a reset entry other than W's (R402). -/
def mayDrive (s : State) : Bool :=
  s.dsp.run && !s.dsp.disabled && !s.sup.vinWarn &&
    (match s.sup.phase with
     | .entry c _ => c == .w
     | _ => powered s)

/-- The rails in the order they switch on: VGL, VNEG, VGH, VPOS and VCOM, in mV (R392). -/
def railValues (d : Dsp) : List Int := [-20000, -15000, 22000, 15000, d.vcom]

/-- Whether rail k, 0 to 4, is within 5 % of its value: each takes its millisecond after the one before it, and they go off in the
reverse order within 3 ms of the switching off (R392, log 162). -/
def railGood (s : State) (k : Nat) : Bool :=
  match s.dsp.railsAt with
  | some t => decide (t + 1000 * (k + 1) ≤ nowUs s)
  | none => s.dsp.railsOff.any (fun t => decide (nowUs s < t + 600 * (5 - k)))

/-- Whether all five rails are good, so that frames may begin (R392). -/
def railsGood (s : State) : Bool := s.dsp.railsAt.isSome && railGood s 4

/-- The rails switched on as soon as a request may start, but not while a retry is waited for (R392, R393). They begin when they are
off. -/
def railsUp (s : State) : State :=
  if mayDrive s && s.dsp.railsAt.isNone && !s.dsp.railRetry && s.dsp.queue.any (eligible s) then
    setDsp (fun d => { d with railsAt := some (max (nowUs s) ((d.railsOff.map (· + 3000)).getD 0)) }) s
  else s

/-- The source outputs to 0 V and the rails off (R392). -/
def railsDown (s : State) : State :=
  if s.dsp.railsAt.isSome then setDsp (fun d => { d with railsAt := none, railsOff := some (nowUs s) }) s else s

/-! ### Drawing and requesting (R391) -/

/-- An update request for an area (R391). No request is made while the geometry is not known. -/
def panelRequest (area : Rect) (cls : PClass) (s : State) : State :=
  if s.dsp.identOk then
    railsUp (setDsp (fun d => { d with queue := enqueue { area := area, cls := cls, atUs := nowUs s } d.queue }) s)
  else s

/-- A change of the draft: drawn, and requested for the changed area (R391). -/
def panelDraw (area : Rect) (cls : PClass) (s : State) : State := panelRequest area cls (drawArea cls area s)

/-- The class of a change of the page in force (R391). -/
def pageClass (s : State) : PClass := if s.img.panel.alarmPages.getLsbD s.dsp.page.toNat then .alarm else .other

/-- A change of the page in force, whose layout is not in the spec, so that the area is the whole panel (log 17). -/
def pageDraw (s : State) : State := if standbyPage s then s else panelDraw (panelArea s.dsp) (pageClass s) s

/-- What the panel shows drawn where it has changed since the last drawing (R391). -/
def panelRefresh (cls : PClass) (s : State) : State := if panelContent s = s.dsp.content then s else panelDraw (panelArea s.dsp) cls s

/-- The standby page drawn, where it is in force and its role or readiness changed (R391). -/
def standbyDraw (s : State) : State := if standbyPage s then panelRefresh .other s else s

/-- A change of what the alarm engine shows (R391, log 17). -/
def alarmRedraw (s : State) : State := panelDraw (panelArea s.dsp) .alarm s

/-! ### Starting and running updates (R394, R395, R397) -/

/-- Whether a pixel of the area has had 8 Fast updates without a Full one (R394). -/
def fastWorn (s : State) (r : PReq) : Bool := (ownPixels s r.cls r.area).any (fun i => decide (tget 0 s.dsp.fast i ≥ 8))

/-- The most frames a waveform mode runs (R394). -/
def frameCap (mode : BitVec 2) : Nat := if mode = wfFull then 64 else if mode = wfFast then 24 else 96

/-- The waveform table of a mode and a band (R389, R394). -/
def waveTable (d : Dsp) (mode : BitVec 2) (band : BitVec 4) : List Byte := d.waves.getD (3 * band.toNat + mode.toNat) []

/-- The identity of the waveform set in use; 0 for the ROM set (R394, R402). -/
def waveSet (s : State) : Word := if s.boot.loaded then s.img.panel.setId else 0

/-- The waveform mode a request takes: the image's for its class, Full once a pixel is worn, Clear for a Clear (R394). -/
def requestMode (s : State) (r : PReq) : BitVec 2 :=
  if r.clear then wfClear
  else if r.full then wfFull
  else
    let m := match r.cls with
      | .alarm => s.img.panel.modeAlarm
      | .chop => s.img.panel.modeChop
      | .other => s.img.panel.modeOther
    if fastWorn s r then wfFull else m

/-- The slot of a starting request: mode, latched band and frame counts (R394, R395, R397, R403). The Clears in place of
skipped compensations have IQNA set (R403); their record is DEDUCED (log 170). -/
def startedSlot (s : State) (r : PReq) : PSlot :=
  let band := if s.dsp.ntcBad then 6 else s.dsp.band
  match r.comp with
  | some n => { active := true, comp := true, area := r.area, mode := r.compMode, band := r.compBand, cls := r.cls,
                iqna := false, done := 1, total := n, row := r.compRow, ahead := r.ahead, start := r.start, atUs := r.atUs }
  | none =>
    let m := requestMode s r
    { active := true, area := r.area, mode := m, band := band, cls := r.cls,
      iqna := s.dsp.outside || s.dsp.ntcBad || (r.start && s.dsp.dirtySkipped), done := 1,
      total := min (Config.waveFrames (waveTable s.dsp m band)) (frameCap m), start := r.start, atUs := r.atUs }

/-- The first slot not in flight. -/
def freeSlot (d : Dsp) : Option Nat := (List.range 8).find? (fun i => !(tget {} d.slots i).active)

/-- A waiting request started, when a slot is free and it overlaps nothing in flight: its target is latched, a flagged update is
reported (R395, R397). -/
def startReq (r : PReq) (s : State) : State :=
  if !eligible s r || blockedBy s.dsp r then s
  else
    match freeSlot s.dsp with
    | none => s
    | some i =>
      let sl := startedSlot s r
      let tgt := if r.comp.isSome then s.dsp.target else latchTarget s r.cls r.clear r.area
      let s := setDsp (fun d => { d with slots := tput {} d.slots i sl, queue := d.queue.erase r, target := tgt, iqna := sl.iqna,
                                         evt := orBit d.evt 2 sl.iqna }) s
      if sl.iqna then post 0x0901 0 [BitVec.ofInt 32 s.dsp.temp] s else s

/-- The waiting requests of a class, reissues and compensations first, each in order of arrival (R398, R403). -/
def ofClass (c : PClass) (q : List PReq) : List PReq :=
  q.filter (fun r => r.cls == c && (r.ahead || r.comp.isSome)) ++ q.filter (fun r => r.cls == c && !(r.ahead || r.comp.isSome))

/-- What waits because of shed step 2, reported (R404). -/
def noteDeferred (s : State) : State :=
  let held := s.dsp.queue.filter (deferredReq s)
  let wait := held.foldl (fun n r => max n ((nowUs s - r.atUs) / 1000000)) 0
  setDsp (fun d => { d with deferring := !held.isEmpty, evt := orBit d.evt 4 (!held.isEmpty && !d.deferring),
                            longest := max16 d.longest (sat16 wait) }) s

/-- PANEL_FRAME_START: a frame boundary. With all rails good, what is in flight begins its next frame, and waiting requests start in
class order (R388, R392, R397, R398). -/
def panelFrame (s : State) : State :=
  if !mayDrive s then s
  else
    let s := railsUp (noteDeferred s)
    if !railsGood s then s
    else
      let s := setDsp (fun d => { d with slots := d.slots.map (fun p =>
        (p.1, if p.2.active && decide (p.2.done < p.2.total) then { p.2 with done := p.2.done + 1 } else p.2)) }) s
      let q := s.dsp.queue
      forEach (ofClass .alarm q ++ ofClass .chop q ++ ofClass .other q) startReq s

/-- PANEL_FRAME_START (R388). -/
def execPanelFrameStart (s : State) : Outcome := .next (panelFrame s)

/-- The drive code of a pixel in the running frame of a slot (R388, R397, R399, R403): "none" where the rectangle is not the pixel's own;
of a compensation the inverse of the frame it undoes, the last one begun limited to the rows that were driven. -/
def driveCode (s : State) (sl : PSlot) (x y : Nat) : Drive :=
  let i := pixelAt x y
  let tbl := waveTable s.dsp sl.mode sl.band
  let code (k : Nat) : Drive := Config.driveCode tbl (tget 0 s.dsp.glass i) (tget 0 s.dsp.target i) k
  if !sl.active || !inArea sl.area i || (s.id.chopFitted && inArea (chopArea s.dsp) i != (sl.cls == .chop)) then .none_
  else if !sl.comp then code sl.done
  else if sl.done = 1 && sl.row.all (fun r => decide (r < y)) then .none_
  else (code (sl.total + 1 - sl.done)).inverse

/-- The Chop draws its rectangle and requests it; one request of the Chop's that waits serves for all (R386, R399, log 127). -/
def chopDraw (s : State) : State :=
  if s.id.chopFitted && s.chop.on then
    let s := drawArea .chop (chopArea s.dsp) s
    if s.dsp.queue.any (fun r => r.cls == .chop && !r.clear && r.comp.isNone) then s else panelRequest (chopArea s.dsp) .chop s
  else s

/-- The start sequence's end: front light on, dirty map cleared, the whole panel redrawn in Full with class alarm, the Chop's
rectangle by the Chop (R401, R403, log 128). -/
def recoveryEnd (s : State) : State :=
  if s.dsp.recovery && (inFlight s.dsp).isEmpty && !s.dsp.queue.any (fun r => r.start) then
    let s := setDsp (fun d => { d with recovery := false, flOn := decide (s.tim.shed < 1), dirty := [],
                                       evt := orBit d.evt 5 d.reinit, reinit := false }) s
    let s := drawArea .alarm (panelArea s.dsp) s
    chopDraw (setDsp (fun d => { d with queue := enqueue { area := panelArea d, cls := .alarm, full := true, atUs := nowUs s } d.queue }) s)
  else s

/-- The count of a pixel's Fast updates after an update of a mode (R394). -/
def fastAfter (mode : BitVec 2) (n : Nat) : Nat := if mode = wfFast then min (n + 1) 8 else if mode = wfFull then 0 else n

/-- A normal update ended: its target is on the glass (R397). -/
def updateDone (s : State) (sl : PSlot) (d : Dsp) : Dsp :=
  let ps := ownPixels s sl.cls sl.area
  let ms := sat16 ((nowUs s - sl.atUs) / 1000)
  { d with
    glass := copyPixels d.target d.glass ps
    fast := tputs 0 d.fast (ps.map (fun i => (i, fastAfter sl.mode (tget 0 d.fast i))))
    cntDone := inc16 d.cntDone
    updLast := ms
    updMax := max16 d.updMax ms }

/-- A compensation ended: its dirty map entry is cleared, and a reissued rectangle's update follows, ahead of its class (R403). -/
def compDone (sl : PSlot) (d : Dsp) : Dsp :=
  { d with
    dirty := d.dirty.filter (fun e => e.area != sl.area)
    queue := if sl.ahead then
        fitQueue (enqueue { area := sl.area, cls := sl.cls, clear := sl.mode == wfClear, ahead := true, start := sl.start, atUs := sl.atUs } d.queue)
      else d.queue }

/-- RECTANGLE_UPDATE_END: a rectangle whose frames have all begun ends (R397). -/
def rectangleEnd (i : Nat) (s : State) : State :=
  let sl := tget {} s.dsp.slots i
  if sl.active && decide (sl.done ≥ sl.total) then
    recoveryEnd (setDsp (fun d => (if sl.comp then compDone sl else updateDone s sl)
      { d with slots := tput {} d.slots i { sl with active := false }, lastEndUs := nowUs s }) s)
  else s

/-- RECTANGLE_UPDATE_END (R397). -/
def execRectangleUpdateEnd (i : Fin 8) (s : State) : Outcome := .next (rectangleEnd i s)

/-- FRAME in 10 µs: the image's, held to the range that R388 gives it (log 156). -/
def framePeriod (s : State) : Nat := min 2000 (max (50 + s.dsp.rows) s.img.panel.frame)

/-- The rows driven so far in the frame now running (R388, R402). -/
def rowsDriven (s : State) : Nat := min s.dsp.rows ((nowUs s % (10 * framePeriod s) - 400) / 10)

/-- The last row driven in the frame now running; none before the first (R402). -/
def lastRow (s : State) : Option Nat := if rowsDriven s = 0 then none else some (rowsDriven s - 1)

/-- The dirty map entry of an aborted slot (R402). An interrupted compensation leaves the frames it has not undone. -/
def dirtyOf (s : State) (sl : PSlot) : Dirty :=
  { area := sl.area, cls := sl.cls, mode := sl.mode, band := sl.band,
    frames := if sl.comp then sl.total - sl.done else sl.done, row := lastRow s, setId := waveSet s }

/-- The request that reissues an aborted slot: its compensation first. One of the start sequence's own compensations is followed
by no update (R403). -/
def reissueOf (s : State) (sl : PSlot) : PReq :=
  { area := sl.area, cls := sl.cls, comp := some (dirtyOf s sl).frames, compBand := sl.band, compMode := sl.mode,
    compRow := (dirtyOf s sl).row, ahead := !sl.comp || sl.ahead, start := sl.start, atUs := sl.atUs }

/-- Every update in flight aborted: dirty entries written, rails off (R402). -/
def panelAbort (s : State) : State :=
  let act := (inFlight s.dsp).map (·.2)
  let ds := act.map (dirtyOf s)
  setDsp (fun d =>
    { d with
      dirty := d.dirty.filter (fun e => !(ds.any (fun x => x.area == e.area))) ++ ds
      aborted := d.aborted ++ act.map (reissueOf s)
      slots := tmap {} (fun x => { x with active := false }) d.slots
      cntAbort := act.foldl (fun c _ => inc16 c) d.cntAbort
      evt := orBit d.evt 1 (!act.isEmpty) }) (railsDown s)

/-- The aborted rectangles reissued, each with its compensation first (R403). -/
def panelReissue (s : State) : State :=
  setDsp (fun d => { d with queue := fitQueue (d.aborted.foldl (fun q r => insertReq r q) d.queue), aborted := [] }) s

/-- RAILS_IDLE_OFF: the rails switch off when nothing is in flight and no request that may start waits (R392). -/
def execRailsIdleOff (s : State) : Outcome :=
  .next (if (inFlight s.dsp).isEmpty && !s.dsp.queue.any (eligible s) then railsDown s else s)

/-- RAIL_FAULT: every update is aborted and the rails go off until the retry; the third fault within 60 s disables the driver
(R393). -/
def execRailFault (s : State) : Outcome :=
  .next (if s.dsp.railsAt.isSome then
    let s := panelAbort s
    let recent := s.dsp.railFaults.filter (fun t => decide (nowUs s < t + 60000000)) ++ [nowUs s]
    setDsp (fun d => { d with railFaults := recent, disabled := decide (recent.length ≥ 3), evt := setBit d.evt 0,
                              railRetry := decide (recent.length < 3), run := d.run && decide (recent.length < 3) }) s
  else s)

/-- RAIL_RETRY: 1 s after a rail fault what was aborted is reissued and the rails may come on again (R393, R403). -/
def execRailRetry (s : State) : Outcome :=
  .next (if mayDrive s && s.dsp.railRetry then railsUp (panelReissue (setDsp (fun d => { d with railRetry := false }) s)) else s)

/-- The band of a temperature in 0.1 °C, the nearest one outside the table (R395). -/
def bandOf (t : Int) : BitVec 4 :=
  if t < 40 then 0 else if t < 80 then 1 else if t < 120 then 2 else if t < 160 then 3 else if t < 200 then 4
  else if t < 250 then 5 else if t < 300 then 6 else if t < 350 then 7 else if t < 400 then 8 else if t < 450 then 9
  else if t < 500 then 10 else 11

/-- The band in force after a measurement: it changes only past an edge by 0.5 K (R395). -/
def nextBand (b : BitVec 4) (t : Int) : BitVec 4 :=
  if b < bandOf (t - 5) then bandOf (t - 5) else if bandOf (t + 4) < b then bandOf (t + 4) else b

/-- A reading of PANEL_NTC taken over (R387, R395). -/
def panelTemp (n : Ntc) (d : Dsp) : Dsp :=
  match n with
  | .temp t => { d with temp := t, band := nextBand d.band t, ntcBad := false, outside := decide (t < 0) || decide (t > 550),
                        present := decide (-400 ≤ t) && decide (t ≤ 1000) }
  | _ => { d with ntcBad := true, present := false, evt := setBit d.evt 3 }

/-- PANEL_TEMPERATURE_MEASURE (R395). -/
def execPanelTemperatureMeasure (n : Ntc) (s : State) : Outcome := .next (setDsp (panelTemp n) s)

/-- The compensation requests of the dirty map (R403 step 3). -/
def dirtyReqs (now : Nat) (ds : List Dirty) : List PReq :=
  ds.map (fun e => { area := e.area, cls := e.cls, comp := some e.frames, compBand := e.band, compMode := e.mode, compRow := e.row,
                      start := true, atUs := now })

/-- The start sequence of the panel (R387, R403): geometry, waveform and gamma tables, rails, compensation where the set matches,
the recovery Clear outside and inside the Chop's rectangle, twice when the compensation is skipped. -/
def panelStart (g : PanelIdent) (s : State) : State :=
  let p := if s.boot.loaded then s.img.panel else {}
  let ok := g.answers || (p.cols.isSome && p.rows.isSome)
  let s := setDsp (fun d => panelTemp g.ntc
    { d with
      ident := if g.answers then some { cols := g.cols, rows := g.rows, filter := g.filter, vcomMv := g.vcomMv } else none
      identOk := ok
      run := ok
      cols := p.cols.getD (if g.answers then g.cols else 0)
      rows := p.rows.getD (if g.answers then g.rows else 0)
      filter := p.filter.getD (if g.answers then g.filter else 0)
      vcom := p.vcom.getD (if g.answers then g.vcomMv else 0)
      waves := if p.setId = 0 then Config.romWaves else p.waves
      gamma := p.gamma }) s
  if !ok then s
  else
    let d := s.dsp
    let skip := d.dirty.any (fun e => e.setId != waveSet s)
    let now := nowUs s
    let clr : List PReq := { area := panelArea d, cls := .other, clear := true, start := true, atUs := now } ::
      (if s.id.chopFitted then [{ area := chopArea d, cls := .chop, clear := true, start := true, atUs := now }] else [])
    let reqs := if skip then clr ++ clr else dirtyReqs now d.dirty ++ clr
    railsUp (setDsp (fun d =>
      { d with
        recovery := true, railRetry := false, disabled := false, railFaults := [], flOn := false
        dirtyFound := d.dirty.length, dirtySkipped := skip, aborted := [], queue := fitQueue (reqs ++ d.queue) }) s)

/-- PANEL_START_SEQUENCE: the panel's start beside a start of class P, B, X or S (R403). -/
def execPanelStartSequence (g : PanelIdent) (s : State) : Outcome :=
  .next (if powered s then panelStart g s else s)

/-- A write that reaches a register by either path (R67, R354): a lane's is an OBJWR, judged as the lane executes it and queued for TO
(log 159); a session's is judged for level and value and answered. -/
def byPath (p : Path) (a v : Word) (lvl : BitVec 2) (bad : State → Option (BitVec 16)) (k : State → State) (s : State) : State :=
  match p with
  | .lane l => laneWrites l (fun _ s => match bad s with | none => done s | some st => refuse st s) s (a, v)
  | .sess r =>
    screenReq r lvl false (fun s =>
      match bad s with
      | none => reply r stOk [] (k s)
      | some st => reply r st [] s) s

/-- No value of the write is refused. -/
def noneBad (_ : State) : Option (BitVec 16) := none

/-- REDRAW: the whole panel queued as one request of class other (R400). -/
def panelRedraw (s : State) : State := panelRequest (panelArea s.dsp) .other s

/-- REDRAW (R400). -/
def execRedraw (p : Path) (s : State) : Outcome := .next (byPath p 0xD0014 1 lvOperate noneBad panelRedraw s)

/-- CLEAR: a Clear of the whole panel, then a redraw, which takes in what waits with class other (R398, R400, log 127). -/
def panelClear (s : State) : State :=
  let c : PReq := { area := panelArea s.dsp, clear := true, atUs := nowUs s }
  let r : PReq := { area := panelArea s.dsp, solo := true, atUs := nowUs s }
  if !s.dsp.identOk || s.dsp.queue.any (fun p => p.solo) then s
  else railsUp (setDsp (fun d => { d with queue := fitQueue (insertReq r (insertReq c (d.queue.filter (fun p => !(merges p && p.cls == .other && !p.ahead))))) }) s)

/-- DSP_CLEAR (R400). -/
def execDspClear (p : Path) (s : State) : Outcome := .next (byPath p 0xD0014 2 lvOperate noneBad panelClear s)

/-- REINIT: every update aborted, the identity read again, DISABLED cleared, the start sequence run (R400). -/
def panelReinit (g : PanelIdent) (s : State) : State :=
  panelStart g (setDsp (fun d => { d with disabled := false, reinit := true }) (panelAbort s))

/-- REINIT, from the station protocol at Engineer level only (R400). -/
def execReinit (r : Req) (g : PanelIdent) (s : State) : Outcome :=
  .next (screenReq r lvEngineer false (fun s => reply r stOk [] (panelReinit g s)) s)

/-- Why a value of DSP_PAGE is refused: reserved bits or a page the image does not define (R405). -/
def pageBad (v : Word) (s : State) : Option (BitVec 16) :=
  if v.toNat < 64 && s.img.panel.pages.getLsbD v.toNat then none else some stRange

/-- DSP_PAGE written: the page changes and the panel is redrawn with the class of the page (R391, R405). -/
def pageWrite (v : Word) (s : State) : State :=
  pageDraw (setDsp (fun d => { d with page := v.setWidth 6 }) s)

/-- DSP_PAGE_WRITE (R405). -/
def execDspPageWrite (p : Path) (v : Word) (s : State) : Outcome := .next (byPath p 0xD0010 v lvOperate (pageBad v) (pageWrite v) s)

/-- Why a value of DSP_FL is refused (R405). -/
def flBad (v : Word) (_ : State) : Option (BitVec 16) := if v.toNat ≤ 100 then none else some stRange

/-- DSP_FL written (R401). -/
def flWrite (v : Word) (s : State) : State := setDsp (fun d => { d with fl := v.setWidth 7 }) s

/-- DSP_FL_WRITE (R401, R405). -/
def execDspFlWrite (p : Path) (v : Word) (s : State) : Outcome := .next (byPath p 0xD0018 v lvOperate (flBad v) (flWrite v) s)

/-- CHOP_RECTANGLE_RENEW: the Chop renews its rectangle (R386, R399). -/
def execChopRectangleRenew (s : State) : Outcome := .next (chopDraw s)

end Sys2Proof.Machine
end

