-- ==== Sys2Proof/Machine/Supervise.lean ====
section
/-! DEFINITION. What the supervisor does to the whole module: self-diagnosis faults and Safe (R23, R97, R438, R439), the
entry of a reset (R418), the release of the role (R271, R275), and the ends of sessions, writers and trim sessions. -/

namespace Sys2Proof.Machine

/-! ### Ends of what a session holds -/

/-- The writer ends and its half stays invalid (R447). -/
def endWriter (s : State) : State :=
  if s.boot.writer.isSome then onBoot (fun b => { b with writer := none, evt := setBit b.evt 4 }) s else s

/-- What a session holds beside itself released: a context claim (R367), the writer (R447). -/
def releaseHeld (id : Word) (s : State) : State :=
  let s := onCvu (fun c => { c with claim6 := if c.claim6 = some id then none else c.claim6,
                                    claim7 := if c.claim7 = some id then none else c.claim7 }) s
  match s.boot.writer with
  | some w => if w.sess = id then endWriter s else s
  | none => s

/-- A session ended (R330). -/
def endSession (id : Word) (s : State) : State :=
  onPnw (fun p => { p with sessions := p.sessions.filter (fun x => x.id != id) }) (releaseHeld id s)

/-- Every session ended, as at a reset (R330, R426). -/
def endSessions (s : State) : State :=
  let s := endWriter s
  { s with pnw := { s.pnw with sessions := [], mbConns := [] }, cvu := { s.cvu with claim6 := none, claim7 := none } }

/-- An open trim session closed without storing (R193). -/
def discardTrim (s : State) : State :=
  match s.fch.ses with
  | none => s
  | some t => applyOutput t.ch.val (post 0x0605 (t.ch.val + 1) [1] (onFch (fun f => { f with ses := none }) s))

/-- Every injector disarmed (R301, R321): leaving Commissioning, TESTP_N high, a reset. -/
def clearInjectors (s : State) : State :=
  let s := onPst (fun p => { p with ports := tmap {} (fun q => { q with inj := 0, injBit := 0, injSent := 0, injCnt := 0 }) p.ports }) s
  onFrg (fun r => { r with ports := tmap {} (fun q => { q with inj := 0, injBit := 0, injSent := 0, injCnt := 0 }) r.ports }) s

/-- What leaving Commissioning ends: an open trim session (R193), fault injection (R301). -/
def endCommissioning (s : State) : State := if s.sup.mode = .commissioning then clearInjectors (discardTrim s) else s

/-! ### Safe output pairs and slots -/

/-- A pair's switches closed or opened; the instant at which they open is kept (R232). -/
def switchPair (now : Nat) (on : Bool) (p : Pair) : Pair :=
  { p with on := on, offAt := if p.on && !on then now else p.offAt }

/-- The pairs whose Quill enable or role is false, and every pair in a state of row 3 of R16, opened at once (R205). -/
def openPairs (s : State) : State :=
  let may := drives s && !row3 s
  onSaf (fun f => { f with pairs := tmap {} (fun x => switchPair (nowUs s) (x.on && x.qen && may) x) f.pairs }) s

/-- The settings of slot n. -/
def slotCfg (s : State) (n : Nat) : SlotCfg := (iget s.img.slotsCfg n).getD {}

/-- A slot's state changed. -/
def setSlot (n : Nat) (f : Slot → Slot) (s : State) : State :=
  onSaf (fun x => { x with slots := tmod {} x.slots n f }) s

/-- A slot brought to a new state with its record; a demand counts (R211, R239, R357). -/
def slotTo (n : Nat) (t : SlotState) (f : Slot → Slot) (s : State) : State :=
  let old := (tget {} s.saf.slots n).st
  let s := setSlot n (fun x => { f x with st := t, cntDemand := if t = .demanded && old != .fault && old != .demanded
                                                               then inc16 x.cntDemand else x.cntDemand }) s
  if old = t then s else post 0x0301 n [] s

/-- Whether a slot type may carry an off delay (R220, R230). -/
def hasOffDelay (c : SlotCfg) : Bool := c.offDelay != 0 && (c.typ == 0 || c.typ == 1 || c.typ == 3 || c.typ == 4)

/-- A slot demanded: from Released its off delay starts where `delay` allows one (R212, R220). -/
def demandSlot (n : Nat) (delay : Bool) (s : State) : State :=
  let d := delay && hasOffDelay (slotCfg s n) && (tget {} s.saf.slots n).st == .released
  slotTo n .demanded (fun x => { x with delaying := x.delaying || d, rearmed := false, firstButton := false }) s

/-- Every Released slot demanded, as when the role is lost or Hold begins (R212). Hold is a cause of its own: a brake slot's
pairs fall with no delay (R230). -/
def demandReleased (s : State) : State :=
  forEach ((s.saf.slots.filter (fun p => p.2.st == .released)).map (·.1)) (fun n s => demandSlot n ((slotCfg s n).typ != 4) s) s

/-- Every Quill enable taken away (R206, R418). -/
def dropQen (s : State) : State :=
  openPairs (onSaf (fun f => { f with pairs := tmap {} (fun x => { x with qen := false }) f.pairs }) s)

/-! ### The role given up -/

/-- Qualification starts again (R281). -/
def requalify (s : State) : State := onPst (fun p => { p with qualCycles := 0, qualSince := nowUs s }) s

/-- A self-diagnosis event of a standby (R281). -/
def diagEvent (s : State) : State := if roleShown s = .standby then requalify s else s

/-- An output's findings ended: R158 to R160, R162 and R163 do not apply in a standby, nor do the checks of a drive that is off
(R172, R195). -/
def standbyChan (c : Chan) : Chan :=
  { c with tripped := false, qCross := false, qOpen := false, qShort := false, qImbal := false, dark := false, offRun := 0, rbVolt := 0,
           qCompl := false, lover := false, lopen := false, lrunLow := 0, lrunHigh := 0, lrunIn := 0, lrunOpen := 0, lrunLive := 0 }

/-- Every output's findings ended, qualities looked at again. -/
def standbyOutputs (s : State) : State :=
  let l := allChans.filter (fun i => isOutput (chanMode s i))
  requalAll l (forEach l (fun i s => setChan i standbyChan s) s)

/-- A driving pair member gives up the role: release on SL1, its net released, its stages off (R271, R275). The filtered
own-net reading follows within the step (log 20). -/
def releaseRole (reason : Byte) (s : State) : State :=
  if s.pst.ownDrive then
    let s := slSend 0 .slRelease s
    let s := onPst (fun p => { p with ownDrive := false, ownLow := p.ilkFault, role := .standby, xferDue := none,
                                      swapDue := false, xferReason := reason, xferCount := inc8 p.xferCount, xferAge := 0,
                                      evt := setBit p.evt 1, joined := false, wantJoin := true, joinNeed := none, heard := [], shadow := p.mixed,
                                      standbySince := nowUs s }) s
    let s := onAlm (fun a => { a with almN := false }) (post 0x0A01 0 [reason.setWidth 32] s)
    standbyDraw (standbyOutputs (applyOutputs (dropQen (demandReleased (discardTrim s)))))
  else s

/-! ### Lanes stopped -/

/-- A lane stopped with its queue dropped. -/
def stopLane (l : LaneSt) : LaneSt := { l with st := .stopped, queue := [], blocked := none, opened := [] }

/-- Both lanes stopped; nothing of the running cycle is released, its entries are gone (R76, R97). -/
def haltLanes (s : State) : State :=
  { s with nibA := stopLane s.nibA, nibB := stopLane s.nibB,
           cyc := { s.cyc with phase := .idle, late := false },
           cmp := { s.cmp with queueA := [], queueB := [], judged := 0, endJudged := false } }

/-- Both lanes stopped with whatever the comparator had in hand (R97). DESIGN CHOICE (log 130): a digest that is cut off here ends
without a verdict, DIV_PEND clears, and VERDICT of CMP_DIV_LAST goes on showing "digest in progress". -/
def stopLanes (s : State) : State := onCmp (fun m => { m with marked := none, divPend := false }) (haltLanes s)

/-- Both lanes stopped by no fault, as Hold and the resynchronisation of a Twin-step standby stop them: a digest goes on, and one
that is due at the TO of its cycle still starts there (R101, R132, R292). -/
def pauseLanes (s : State) : State := haltLanes (onCmp (fun m => { m with marked := if s.cyc.phase = .compared then m.marked else none }) s)

/-! ### Reset entry -/

/-- The order of the classes (R417). -/
def classOrder : ResetClass → Nat
  | .p => 0
  | .b => 1
  | .x => 2
  | .s => 3
  | .w => 4

/-- The summaries of the codes with suppressed records, and the window's end (R349, R353). -/
def floodSummaries (s : State) : State :=
  let ws := s.evr.window.filter (fun w => w.2.2 != 0)
  forEach ws (fun w s => post 0x0002 0 [w.1.setWidth 32, BitVec.ofNat 32 w.2.2] s) (onEvr (fun e => { e with window := [] }) s)

/-- Maintenance commands that wait are abandoned (R180). -/
def abandonMaint (s : State) : State :=
  let s := onCyc (fun c => { c with sched := c.sched.filter (fun x => match x.act with | .maint _ _ => false | _ => true) }) s
  forEach (List.range 6) (fun g s => setGrp g (fun x => { x with maintPend := false }) s) s

/-- Whether an act that waits for a T0 outlives a reset: an accepted online change at W alone, whose registers stay (R88); one that
the partner has not confirmed is not accepted yet, and neither module applies it (R79). -/
def outlives (c : ResetClass) (s : State) (x : Sched) : Bool :=
  match x.act with
  | .change _ => c == .w && !unconfirmedAct s x.act
  | _ => false

/-- The entry steps of a reset (R418): outputs to row 1, Quill enables 0, the role released; posting stops and the
flush runs; the panel aborts, except at W. -/
def resetSteps (c : ResetClass) (cause : Byte) (s : State) : State :=
  let s := releaseRole 2 s
  let s := discardTrim s
  let s := onCyc (fun y => { y with sched := y.sched.filter (outlives c s) }) (abandonMaint (stopLanes s))
  let s := onSup (fun u => { u with mode := .start, phase := .entry c cause, warmDue := none, holdExit := 0, holdRow := false }) s
  let s := applyOutputs (dropQen s)
  let s := endSessions (floodSummaries s)
  let s := onAlm (fun a => { a with almN := false }) (onEvr (fun e => { e with running := false }) (startFlush s))
  if c = .w then s else panelAbort s

/-- A reset's cause declared. While the entry of another reset is under way, or reset is held, that one goes on and the
recorded class is the first of the two (R417). -/
def enterReset (c : ResetClass) (cause : Byte) (s : State) : State :=
  match s.sup.phase with
  | .off => s
  | .entry d _ => if classOrder c < classOrder d then onSup (fun u => { u with phase := .entry c cause }) s else s
  | .reset d _ => if classOrder c < classOrder d then onSup (fun u => { u with phase := .reset c cause }) s else s
  | _ => resetSteps c cause s

/-! ### Failed starts -/

/-- The consecutive failed starts written to the master and the mirror (R415). -/
def setFails (n : BitVec 2) (s : State) : State :=
  { s with boot := { s.boot with fails := n }, sup := { s.sup with mirrorFails := n } }

/-- A failed start counted, with the failing image's digest, and posted (R439). -/
def countFailure (reason : Byte) (vals : List Word) (s : State) : State :=
  let s := setFails (if s.boot.fails = 3 then 3 else s.boot.fails + 1) s
  let s := onBoot (fun b => { b with failDig := s.img.digest, failReason := reason, reason := reason, reasonHalf := s.img.half,
                                     evt := setBit b.evt 1 }) s
  post 0x0D04 0 (reason.setWidth 32 :: vals) s

/-! ### Self-diagnosis faults -/

/-- Whether a self-diagnosis fault now is a failed start: within 60 s of reaching Run, but not after a warm restart
(R438). -/
def faultFailsStart (s : State) : Bool :=
  match s.boot.runUs with
  | some t => decide (nowUs s < t + 60000000) && s.sup.lastClass != .w
  | none => false

/-- Safe entered: lanes stopped, the role released, the flush started, outputs at row 3 (R16, R24, R97, R348). A module in Safe
is no ready standby (R280). -/
def enterSafe (s : State) : State :=
  let s := onPst (fun p => { p with ready := false }) (releaseRole 1 (endCommissioning s))
  let s := abandonMaint (stopLanes (discardTrim s))
  let s := onSup (fun u => { u with mode := .safe, warmDue := none, holdExit := 0, holdRow := false }) s
  let s := onBoot (fun b => { b with runUs := none }) s
  startFlush (standbyDraw (applyOutputs (openPairs s)))

/-- A self-diagnosis fault declared: Safe from Run, Commissioning and Hold (R23); during a start, a reset of class S
(R437, log 21); in Decaf and Safe only the record. A fault within 60 s of Run is a failed start, and the third leaves
Safe at once by a reset of class S with cause 0x12 (R438, R439). -/
def selfDiag (why : FaultReason) (s : State) : State :=
  let s := diagEvent (post 0x0104 0 [Config.reasonCode why] s)
  if inService s then
    let fails := faultFailsStart s
    let s := enterSafe s
    if fails then
      let s := countFailure 0x31 [Config.reasonCode why] s
      if s.boot.fails = 3 then enterReset .s 0x12 s else s
    else s
  else if s.sup.mode = .start then enterReset .s 0x10 s
  else s

end Sys2Proof.Machine
end

