-- ==== Sys2Proof/Machine/Lanes.lean ====
section
/-! DEFINITION. The Nib lanes: register file, memories and signatures (R52 to R57, R91), the fetch of a block-code word
(R56), the operations of R58 to R61, the images of R62 and R63, cells and checkpoints (R68, R69, R93, R94). -/

namespace Sys2Proof.Machine

/-! ### The lanes -/

/-- Register g[n]; g0 reads 0 (R57). -/
def greg (x : LaneSt) (n : BitVec 6) : Word := if n = 0 then 0 else tget 0 x.g n.toNat

/-- A register written, and folded into the register signature; g0 discards (R57, R91). -/
def gwrite (n : BitVec 6) (v : Word) (x : LaneSt) : LaneSt :=
  if n = 0 then x else { x with g := tput 0 x.g n.toNat v, sigReg := crc32cWords x.sigReg [n.setWidth 32, v] }

/-- The number of words of data memory. -/
def dataWords : Nat := 0x20000
/-- The number of words of code memory. -/
def codeWords : Nat := 0x40000
/-- The number of words of the input image. -/
def inWords : Nat := 0x2300
/-- The number of words of the output image. -/
def outWords : Nat := 0x2480

/-- A data word as a lane's own memory holds it. -/
def dataAt (x : LaneSt) (a : Nat) : Word := tget 0 x.data a

/-- A data word stored; the cycle's writes are noted (R55, R287). -/
def dataPut (a : Nat) (v : Word) (x : LaneSt) : LaneSt :=
  { x with data := tput 0 x.data a v, wrote := if x.wrote.contains a then x.wrote else x.wrote ++ [a] }

/-- Whether an address lies in the constant area (R54). -/
def isConst (s : State) (a : Nat) : Bool := decide (s.img.constLo ≤ a) && decide (a < s.img.constHi)

/-- The innermost open cell; the root when none is listed (R68). -/
def innermost (x : LaneSt) : Nat := x.opened.headD 0

/-! ### Words and fetch -/

/-- A block-code word from its fields (R56). -/
def blkWord (op : BitVec 8) (d a : BitVec 6) (b : BitVec 12) : Word := op ++ d ++ a ++ b

/-- Source register B of a word: B[11:6] (R56). -/
def regB (o : Blk) : BitVec 6 := o.b.extractLsb' 6 6
/-- The unused low bits of B are 0 where B names a register. -/
def bReg (o : Blk) : Bool := o.b.extractLsb' 0 6 == 0
/-- sext(B). -/
def sext (o : Blk) : Word := o.b.signExtend 32
/-- zext(B). -/
def zext (o : Blk) : Word := o.b.setWidth 32

/-- Whether the lane executes, and this word is the one its pc names: only then is the operation the lane's next one. -/
def fetches (s : State) (l : Lane) (w : Word) : Bool :=
  let x := lane s l
  x.st == .running && decide (x.pc < codeWords) && tget 0 s.cyc.code x.pc == w

/-- The pc moved on; past the last code word there is no code (R61, log 22). -/
def goto (l : Lane) (target : Word) (s : State) : State :=
  if target.toNat < codeWords then setLane l (fun x => { x with pc := target.toNat }) s else selfDiag .laneAddress s

/-- pc := pc + 1. -/
def next (l : Lane) (s : State) : State := goto l (BitVec.ofNat 32 ((lane s l).pc + 1)) s

/-- One block operation of a lane (R56, R58): the word at the pc, counted; unused fields that are not 0 are an illegal
operation. -/
def blockOp (l : Lane) (w : Word) (legal : Bool) (k : State → State) (s : State) : State :=
  if !fetches s l w then s
  else if !legal then selfDiag .illegalOperation s
  else k (setLane l (fun x => { x with ops := x.ops + 1 }) s)

/-- An operation that writes g[D] from register values and goes on. -/
def writesD (op : BitVec 8) (o : Blk) (legal : Bool) (f : LaneSt → Word) (s : State) : State :=
  blockOp o.l (blkWord op o.d o.a o.b) legal (fun s => next o.l (setLane o.l (fun x => gwrite o.d (f x) x) s)) s

/-- A two-register operation. -/
def regReg (op : BitVec 8) (o : Blk) (f : Word → Word → Word) (s : State) : State :=
  writesD op o (bReg o) (fun x => f (greg x o.a) (greg x (regB o))) s

/-- An operation of g[A] and an immediate. -/
def regImm (op : BitVec 8) (o : Blk) (f : Word → Word) (s : State) : State :=
  writesD op o true (fun x => f (greg x o.a)) s

/-- An operation of g[A] alone; B is 0. -/
def regOnly (op : BitVec 8) (o : Blk) (f : Word → Word) (s : State) : State :=
  writesD op o (o.b == 0) (fun x => f (greg x o.a)) s

/-! ### Checkpoints (R93, R94) -/

/-- Bytes 0 to 15 of an entry. -/
def ckptBytes (c : Ckpt) : List Byte :=
  le16 c.cell ++ [c.kind, 0] ++ Word.bytes c.ops ++ Word.bytes c.sigOut ++ Word.bytes c.sigReg

/-- An entry with its check value. -/
def mkCkpt (x : LaneSt) (cell : Nat) (kind : Byte) : Ckpt :=
  let c : Ckpt := { cell := BitVec.ofNat 16 cell, kind := kind, ops := x.ops, sigOut := x.sigOut, sigReg := x.sigReg }
  { c with check := crc16 (ckptBytes c) }

/-- A lane's entries in the queue. -/
def laneQueue (c : Cmp) : Lane → List Ckpt
  | .a => c.queueA
  | .b => c.queueB

/-- The places of the queue in use: the k-th entries of the two lanes share one, so that a partner always finds its place
(R94, log 109). -/
def queued (c : Cmp) : Nat := max c.queueA.length c.queueB.length

/-- An entry placed in the queue. -/
def pushCkpt (l : Lane) (c : Ckpt) (m : Cmp) : Cmp :=
  let m := match l with
    | .a => { m with queueA := m.queueA ++ [c] }
    | .b => { m with queueB := m.queueB ++ [c] }
  { m with qMax := if m.qMax.toNat < queued m then BitVec.ofNat 7 (queued m) else m.qMax }

/-- A checkpoint taken: appended, or the lane waits for a place (R94). In Split mode nothing is compared (R108). -/
def checkpoint (l : Lane) (cell : Nat) (kind : Byte) (s : State) : State :=
  if s.cmp.mode = .split then s
  else
    let c := mkCkpt (lane s l) cell kind
    if (laneQueue s.cmp l).length < 64 then onCmp (pushCkpt l c) s
    else onCmp (fun m => { m with evt := setBit m.evt 2 }) (setLane l (fun x => { x with st := .waiting, blocked := some c }) s)

/-- CHECKPOINT_APPEND_RESUME: a place is free, and the waiting lane appends its entry and goes on (R94). -/
def appendResume (l : Lane) (s : State) : State :=
  match (lane s l).blocked with
  | none => s
  | some c =>
    if (laneQueue s.cmp l).length < 64 then
      onCmp (pushCkpt l c) (setLane l (fun x => { x with blocked := none, st := if c.kind = 3 then .ended else .running }) s)
    else s

/-- CHECKPOINT_APPEND_RESUME (R94). -/
def execCheckpointAppendResume (l : Lane) (s : State) : Outcome := .next (appendResume l s)

/-! ### Control -/

/-- The words of R56 that no operation has: reserved operation codes, SYS of a number R64 does not list, or a listed
block without a record with A not 0. -/
def sysNumbers : List Nat := [1, 2, 3, 4, 5, 6, 7, 8, 9, 0x10, 0x11, 0x20, 0x21, 0x30, 0x40, 0x41]

/-- The operation codes of R58. -/
def opCodes : List Nat :=
  span 0x00 0x07 ++ span 0x10 0x20 ++ span 0x20 0x2B ++ span 0x30 0x3F ++ span 0x40 0x44 ++ [0x50, 0x51, 0x60, 0x70, 0x71]

/-- Whether a word is illegal whatever its operands: a reserved operation code, or an unlisted system block (R56, R64). -/
def reservedWord (w : Word) : Bool :=
  let op := (w.extractLsb' 24 8).toNat
  !opCodes.contains op || (op == 0x60 && !sysNumbers.contains (w.extractLsb' 0 12).toNat)

/-- NOP, and every reserved word: a lane that comes to a word of no operation declares a fault (R56, R58). -/
def nopWord (l : Lane) (w : Word) (s : State) : State :=
  if w = 0 then blockOp l w true (next l) s
  else if w.extractLsb' 24 8 = 0 || reservedWord w then blockOp l w false id s
  else s

/-- NOP (R58). -/
def execNop (l : Lane) (w : Word) (s : State) : Outcome := .next (nopWord l w s)

/-- A relative branch taken under a condition on g[A]. -/
def branch (op : BitVec 8) (o : Blk) (legal : Bool) (c : Word → Bool) (s : State) : State :=
  blockOp o.l (blkWord op o.d o.a o.b) legal (fun s =>
    let x := lane s o.l
    if c (greg x o.a) then goto o.l (BitVec.ofNat 32 (x.pc + 1) + sext o) s else next o.l s) s

/-- BR (R58). -/
def execBr (o : Blk) (s : State) : Outcome := .next (branch 0x02 o (o.d == 0 && o.a == 0) (fun _ => true) s)
/-- BZ (R58). -/
def execBz (o : Blk) (s : State) : Outcome := .next (branch 0x03 o (o.d == 0) (· == 0) s)
/-- BNZ (R58). -/
def execBnz (o : Blk) (s : State) : Outcome := .next (branch 0x04 o (o.d == 0) (· != 0) s)

/-- JMP: pc := g[A] + zext(B). -/
def jmpOp (o : Blk) (s : State) : State :=
  blockOp o.l (blkWord 0x05 o.d o.a o.b) (o.d == 0) (fun s => goto o.l (greg (lane s o.l) o.a + zext o) s) s

/-- JMP (R58). -/
def execJmp (o : Blk) (s : State) : Outcome := .next (jmpOp o s)

/-- CALL: the target from g[A] as it stood, the link written, then the target judged (R58, R61). -/
def callOp (o : Blk) (s : State) : State :=
  blockOp o.l (blkWord 0x06 o.d o.a o.b) true (fun s =>
    let x := lane s o.l
    goto o.l (greg x o.a + zext o) (setLane o.l (gwrite o.d (BitVec.ofNat 32 (x.pc + 1))) s)) s

/-- CALL (R58). -/
def execCall (o : Blk) (s : State) : Outcome := .next (callOp o s)

/-! ### Integer operations (R58, R59) -/

/-- The high word of the signed product. -/
def mulHigh (a b : Word) : Word := BitVec.ofInt 32 (a.toInt * b.toInt / 2 ^ 32)

/-- The quotient truncated toward zero; 0 for a divisor of 0. -/
def divTrunc (a b : Word) : Word := if b = 0 then 0 else BitVec.ofInt 32 (a.toInt.tdiv b.toInt)

/-- The remainder with the sign of the dividend; the dividend for a divisor of 0. -/
def remTrunc (a b : Word) : Word := if b = 0 then a else BitVec.ofInt 32 (a.toInt.tmod b.toInt)

/-- DIVZ set where an executed division had a divisor of 0 (R59). -/
def noteDivz (op : BitVec 8) (o : Blk) (s : State) (t : State) : State :=
  if fetches s o.l (blkWord op o.d o.a o.b) && bReg o && greg (lane s o.l) (regB o) == 0
  then onCyc (fun c => { c with evt := setBit c.evt 1 }) t else t

/-- ADD (R58). -/
def execAdd (o : Blk) (s : State) : Outcome := .next (regReg 0x10 o (· + ·) s)
/-- SUB (R58). -/
def execSub (o : Blk) (s : State) : Outcome := .next (regReg 0x11 o (· - ·) s)
/-- MUL (R58). -/
def execMul (o : Blk) (s : State) : Outcome := .next (regReg 0x12 o (· * ·) s)
/-- MULH (R58). -/
def execMulh (o : Blk) (s : State) : Outcome := .next (regReg 0x13 o mulHigh s)
/-- DIV (R59). -/
def execDiv (o : Blk) (s : State) : Outcome := .next (noteDivz 0x14 o s (regReg 0x14 o divTrunc s))
/-- REM (R59). -/
def execRem (o : Blk) (s : State) : Outcome := .next (noteDivz 0x15 o s (regReg 0x15 o remTrunc s))
/-- AND (R58). -/
def execAnd (o : Blk) (s : State) : Outcome := .next (regReg 0x16 o (· &&& ·) s)
/-- OR (R58). -/
def execOr (o : Blk) (s : State) : Outcome := .next (regReg 0x17 o (· ||| ·) s)
/-- XOR (R58). -/
def execXor (o : Blk) (s : State) : Outcome := .next (regReg 0x18 o (· ^^^ ·) s)
/-- SHL (R58). -/
def execShl (o : Blk) (s : State) : Outcome := .next (regReg 0x19 o (fun a b => a <<< (b.toNat % 32)) s)
/-- SHR (R58). -/
def execShr (o : Blk) (s : State) : Outcome := .next (regReg 0x1A o (fun a b => a >>> (b.toNat % 32)) s)
/-- SAR (R58). -/
def execSar (o : Blk) (s : State) : Outcome := .next (regReg 0x1B o (fun a b => a.sshiftRight (b.toNat % 32)) s)
/-- SLT (R58). -/
def execSlt (o : Blk) (s : State) : Outcome := .next (regReg 0x1C o (fun a b => Word.ofBool (a.slt b)) s)
/-- SLTU (R58). -/
def execSltu (o : Blk) (s : State) : Outcome := .next (regReg 0x1D o (fun a b => Word.ofBool (a.ult b)) s)
/-- SEQ (R58). -/
def execSeq (o : Blk) (s : State) : Outcome := .next (regReg 0x1E o (fun a b => Word.ofBool (a == b)) s)
/-- MIN (R58). -/
def execMin (o : Blk) (s : State) : Outcome := .next (regReg 0x1F o (fun a b => if a.slt b then a else b) s)

/-! ### Immediates (R58) -/

/-- ADDI (R58). -/
def execAddi (o : Blk) (s : State) : Outcome := .next (regImm 0x20 o (· + sext o) s)
/-- ANDI (R58). -/
def execAndi (o : Blk) (s : State) : Outcome := .next (regImm 0x21 o (· &&& zext o) s)
/-- ORI (R58). -/
def execOri (o : Blk) (s : State) : Outcome := .next (regImm 0x22 o (· ||| zext o) s)
/-- XORI (R58). -/
def execXori (o : Blk) (s : State) : Outcome := .next (regImm 0x23 o (· ^^^ zext o) s)
/-- A shift by B[4:0]; B[11:5] is 0 (R58). -/
def shiftImm (op : BitVec 8) (o : Blk) (f : Word → Nat → Word) (s : State) : State :=
  writesD op o (o.b.extractLsb' 5 7 == 0) (fun x => f (greg x o.a) (o.b.toNat % 32)) s
/-- SHLI (R58). -/
def execShli (o : Blk) (s : State) : Outcome := .next (shiftImm 0x24 o (fun a n => a <<< n) s)
/-- SHRI (R58). -/
def execShri (o : Blk) (s : State) : Outcome := .next (shiftImm 0x25 o (fun a n => a >>> n) s)
/-- SARI (R58). -/
def execSari (o : Blk) (s : State) : Outcome := .next (shiftImm 0x26 o (fun a n => a.sshiftRight n) s)
/-- SLTI (R58). -/
def execSlti (o : Blk) (s : State) : Outcome := .next (regImm 0x27 o (fun a => Word.ofBool (a.slt (sext o))) s)
/-- SEQI (R58). -/
def execSeqi (o : Blk) (s : State) : Outcome := .next (regImm 0x28 o (fun a => Word.ofBool (a == sext o)) s)
/-- LUI (R58). -/
def execLui (o : Blk) (s : State) : Outcome := .next (writesD 0x29 o (o.a == 0) (fun _ => zext o <<< 20) s)
/-- ORIM (R58). -/
def execOrim (o : Blk) (s : State) : Outcome := .next (regImm 0x2A o (· ||| (zext o <<< 8)) s)

/-! ### Floating point (R60) -/

/-- FADD (R60). -/
def execFadd (o : Blk) (s : State) : Outcome := .next (regReg 0x30 o fadd s)
/-- FSUB (R60). -/
def execFsub (o : Blk) (s : State) : Outcome := .next (regReg 0x31 o fsub s)
/-- FMUL (R60). -/
def execFmul (o : Blk) (s : State) : Outcome := .next (regReg 0x32 o fmul s)
/-- FDIV (R60). -/
def execFdiv (o : Blk) (s : State) : Outcome := .next (regReg 0x33 o fdiv s)
/-- FSQRT (R60). -/
def execFsqrt (o : Blk) (s : State) : Outcome := .next (regOnly 0x34 o fsqrt s)
/-- FMIN (R60). -/
def execFmin (o : Blk) (s : State) : Outcome := .next (regReg 0x35 o fmin s)
/-- FMAX (R60). -/
def execFmax (o : Blk) (s : State) : Outcome := .next (regReg 0x36 o fmax s)
/-- A result that is a NaN is 0x7FC0_0000 (R60, log 23). -/
def canonNaN (w : Word) : Word := if fnan w then fNaN else w
/-- FABS (R58, R60). -/
def execFabs (o : Blk) (s : State) : Outcome := .next (regOnly 0x37 o (fun a => canonNaN (fabs a)) s)
/-- FNEG (R58, R60). -/
def execFneg (o : Blk) (s : State) : Outcome := .next (regOnly 0x38 o (fun a => canonNaN (fneg a)) s)
/-- FLT (R60). -/
def execFlt (o : Blk) (s : State) : Outcome := .next (regReg 0x39 o (fun a b => Word.ofBool (flt a b)) s)
/-- FLE (R60). -/
def execFle (o : Blk) (s : State) : Outcome := .next (regReg 0x3A o (fun a b => Word.ofBool (fle a b)) s)
/-- FEQ (R60). -/
def execFeq (o : Blk) (s : State) : Outcome := .next (regReg 0x3B o (fun a b => Word.ofBool (feq a b)) s)
/-- ITOF (R60). -/
def execItof (o : Blk) (s : State) : Outcome := .next (regOnly 0x3C o itof s)
/-- FTOI (R60). -/
def execFtoi (o : Blk) (s : State) : Outcome := .next (regOnly 0x3D o ftoi s)
/-- FMA: g[D] + g[A] × g[B], rounded once (R58, R60). -/
def execFma (o : Blk) (s : State) : Outcome :=
  .next (writesD 0x3E o (bReg o) (fun x => ffma (greg x o.d) (greg x o.a) (greg x (regB o))) s)

/-! ### Data memory (R53, R54, R61, R82) -/

/-- A load: an address out of range is a fault; a forced word reads as its force. -/
def loadOp (op : BitVec 8) (o : Blk) (legal : Bool) (ea : LaneSt → Word) (s : State) : State :=
  blockOp o.l (blkWord op o.d o.a o.b) legal (fun s =>
    let a := (ea (lane s o.l)).toNat
    if a < dataWords then
      next o.l (setLane o.l (fun x => gwrite o.d ((forced s (.tag a)).getD (dataAt x a)) x) s)
    else selfDiag .laneAddress s) s

/-- A store: out of range or into the constant area is a fault; a store to a forced tag is discarded. -/
def storeOp (op : BitVec 8) (o : Blk) (legal : Bool) (ea : LaneSt → Word) (s : State) : State :=
  blockOp o.l (blkWord op o.d o.a o.b) legal (fun s =>
    let a := (ea (lane s o.l)).toNat
    if a < dataWords then
      (if isConst s a then selfDiag .storeToConstant s
       else next o.l (if (forced s (.tag a)).isSome then s else setLane o.l (fun x => dataPut a (greg x o.d) x) s))
    else selfDiag .laneAddress s) s

/-- g[A] + zext(B), modulo 2^32. -/
def offA (o : Blk) (x : LaneSt) : Word := greg x o.a + zext o
/-- g[A] + g[B], modulo 2^32. -/
def idxA (o : Blk) (x : LaneSt) : Word := greg x o.a + greg x (regB o)

/-- LD (R58). -/
def execLd (o : Blk) (s : State) : Outcome := .next (loadOp 0x40 o true (offA o) s)
/-- ST (R54). -/
def execSt (o : Blk) (s : State) : Outcome := .next (storeOp 0x41 o true (offA o) s)
/-- LDX (R58). -/
def execLdx (o : Blk) (s : State) : Outcome := .next (loadOp 0x42 o (bReg o) (idxA o) s)
/-- STX (R58). -/
def execStx (o : Blk) (s : State) : Outcome := .next (storeOp 0x43 o (bReg o) (idxA o) s)

/-! ### Images (R62, R63) -/

/-- One cell's live state changed. -/
def setCell (n : Nat) (f : CellSt → CellSt) (s : State) : State := onCyc (fun c => { c with cells := tmod {} c.cells n f }) s

/-- Whether the word at an input image offset is a channel or remote word of quality not good (R70). -/
def inputBad (x : LaneSt) (off : Nat) : Bool :=
  if off < 0x60 then (tget 0 x.inp (0x60 + off)).extractLsb' 0 4 != 0
  else if 0x100 ≤ off && off < 0x2100 then !(tget 0 x.inp 0xC4).getLsbD ((off - 0x100) / 256)
  else false

/-- IN: the lane's own copy of the input image, or the force on the word (R62, R82). -/
def inOp (o : Blk) (s : State) : State :=
  blockOp o.l (blkWord 0x50 o.d o.a o.b) true (fun s =>
    let x := lane s o.l
    let a := (offA o x).toNat
    if a < inWords then
      let s := if inputBad x a then setCell (innermost x) (fun c => { c with qbad := true }) s else s
      next o.l (setLane o.l (gwrite o.d ((forced s (.inp a)).getD (tget 0 x.inp a))) s)
    else selfDiag .laneAddress s) s

/-- IN (R58). -/
def execIn (o : Blk) (s : State) : Outcome := .next (inOp o s)

/-- Whether an output word belongs to the other partition of a split pair (R108). -/
def otherPartition (s : State) (l : Lane) (off : Nat) : Bool :=
  s.cmp.mode == .split && ((l == .b) != s.img.outPartB.contains off)

/-- OUT: the value folded and the output image word written; in Split mode a word of the other partition is discarded
and counted (R63, R91, R108). -/
def outOp (o : Blk) (s : State) : State :=
  blockOp o.l (blkWord 0x51 o.d o.a o.b) true (fun s =>
    let x := lane s o.l
    let a := (offA o x).toNat
    let v := greg x o.d
    if a < outWords then
      let s := setLane o.l (foldOut [BitVec.ofNat 32 (0x10000 + a), v]) s
      next o.l
        (if otherPartition s o.l a then onCmp (fun m => { m with xw := inc16 m.xw, evt := setBit m.evt 3 }) s
         else setLane o.l (fun x => { x with outs := tput 0 x.outs a v,
                                             wrote := if x.wrote.contains (dataWords + a) then x.wrote else x.wrote ++ [dataWords + a] }) s)
    else selfDiag .laneAddress s) s

/-- OUT (R63). -/
def execOut (o : Blk) (s : State) : Outcome := .next (outOp o s)

/-! ### Cells (R68, R69) -/

/-- CELLIN n: its parent must be the innermost open cell. -/
def cellIn (o : Blk) (s : State) : State :=
  blockOp o.l (blkWord 0x70 o.d o.a o.b) (o.d == 0 && o.a == 0) (fun s =>
    let n := o.b.toNat
    let p := innermost (lane s o.l)
    if n ≠ 0 && decide (n < s.img.cells.length) && (cellCfg s n).parent == p then
      next o.l (checkpoint o.l p 1 (setLane o.l (fun x =>
        { x with opened := n :: x.opened, scanned := if x.scanned.contains n then x.scanned else x.scanned ++ [n] }) s))
    else selfDiag .cellOrder s) s

/-- CELLIN (R69). -/
def execCellin (o : Blk) (s : State) : Outcome := .next (cellIn o s)

/-- CELLOUT n: n must be the innermost open cell. -/
def cellOut (o : Blk) (s : State) : State :=
  blockOp o.l (blkWord 0x71 o.d o.a o.b) (o.d == 0 && o.a == 0) (fun s =>
    let n := o.b.toNat
    if n ≠ 0 && decide (n < s.img.cells.length) && innermost (lane s o.l) == n then
      next o.l (checkpoint o.l n 2 (setLane o.l (fun x => { x with opened := x.opened.tail }) s))
    else selfDiag .cellOrder s) s

/-- CELLOUT (R69). -/
def execCellout (o : Blk) (s : State) : Outcome := .next (cellOut o s)

end Sys2Proof.Machine
end

