-- ==== Sys2Proof/Machine/Ring.lean ====
section
/-! DEFINITION. The field ring (R304 to R322): frames and their CHECK, SYNC, remote inputs and their misses, JOIN and GRANT,
OUTPUT and COMMIT, link delays, paths, and fault injection on a port (R301, R321). -/

namespace Sys2Proof.Machine

/-! ### Fault injection (R301) -/

/-- A value of an injector register that is refused: N below 2, more than one action (R303). Reserved bits are ignored, as in
every command word (log 82). -/
def injBad (v : Word) : Bool :=
  decide (v.toNat % 65536 < 2) ||
    decide ((v.extractLsb' 16 1).toNat + (v.extractLsb' 17 1).toNat + (v.extractLsb' 18 1).toNat > 1)

/-! ### Frames (R307, R308) -/

/-- A ring port's state. -/
def ringPort (s : State) (p : Nat) : RingPort := tget {} s.frg.ports p
/-- A ring port's state changed. -/
def setRingPort (p : Nat) (f : RingPort → RingPort) (s : State) : State := onFrg (fun r => { r with ports := tmod {} r.ports p f }) s
/-- A remote station's state, by address. -/
def stn (s : State) (n : Nat) : Stn := tget {} s.frg.stns n
/-- A remote station's state changed. -/
def setStn (n : Nat) (f : Stn → Stn) (s : State) : State := onFrg (fun r => { r with stns := tmod {} r.stns n f }) s
/-- The plan of a remote station of this position (R305). -/
def stnCfg (s : State) (n : Nat) : Option StationCfg := iget s.img.ring.stations n

/-- Bytes 0 to 11 + LEN of a frame. -/
def ringBytes (f : RingFrame) : List Byte :=
  [f.kind, f.ver] ++ le16 f.ring ++ [f.src, f.dst] ++ le16 f.seqLo ++ le16 (BitVec.ofNat 16 f.data.length) ++ le16 f.flags ++ f.data

/-- CHECK of a frame under a full sequence (R308). -/
def ringCheck (f : RingFrame) (sq : Word) : Word :=
  crc32c (crc32c crcInit (le16 f.ring ++ [f.src, f.dst] ++ Word.bytes sq)) (ringBytes f)

/-- The sequence nearest to the expected one that has the received SEQ_LO (R308). -/
def nearestSeq (want : Word) (lo : BitVec 16) : Word := want + (lo - want.setWidth 16).signExtend 32

/-- The payload EtherType: the image's where it lies in the range of R304, else 0x88B5. -/
def etherTypeOf (s : State) : BitVec 16 :=
  let t := s.img.ring.etherType
  if t < 0x0600 || t == 0x892F then 0x88B5 else t

/-- The payload address of this module (R307). -/
def ownNode (s : State) : Byte := 0x40 + s.pst.slot.setWidth 8

/-- The ring group address (R308). -/
def ringGroup (s : State) : RingDest := .group s.img.ring.mcast

/-- The group address of this module's position: the base plus 1 + its first slot (R308). -/
def posGroup (s : State) : RingDest :=
  .group (s.img.ring.mcast + 1 + (if s.pst.member then s.pst.slot &&& 2 else s.pst.slot).setWidth 48)

/-- A frame of this module. -/
def mkRing (s : State) (kind dst : Byte) (dest : RingDest) (sq : Word) (flags : BitVec 16) (data : List Byte) : RingFrame :=
  let f : RingFrame := { dest := dest, etherType := etherTypeOf s, kind := kind, ver := 1, ring := s.img.stnId, src := ownNode s, dst := dst,
                         seqLo := sq.setWidth 16, flags := flags, data := data, check := 0, corrNs := 0 }
  { f with check := ringCheck f sq }

/-- The payload length of a frame in bits: to the end of CHECK, and of CORR in SYNC (R307, R311). -/
def ringBits (f : RingFrame) : Nat := 8 * (16 + f.data.length + if f.kind = 0x01 then 4 else 0)

/-- A frame that this module originates on one port, under its injector (R321); the bit it inverts counts modulo `bits`. -/
def ringOn (p : Fin 2) (bits : Nat) (e : Emit) (s : State) : State :=
  let r := ringPort s p.val
  let t := throughInj r.inj r.injBit r.injSent r.injHeld bits e
  emits t.1 (setRingPort p.val (fun r => { r with injSent := if r.inj.getLsbD 31 then r.injSent + 1 else r.injSent, injHeld := t.2.1,
                                                  injCnt := if t.2.2 then inc32 r.injCnt else r.injCnt }) s)

/-- Whether a port's injector is armed, or holds a frame back. -/
def ringArmed (s : State) (p : Nat) : Bool := (ringPort s p).inj.getLsbD 31 || (ringPort s p).injHeld.isSome

/-- A frame that this module originates on both ports: one message, or one for each port while an injector is at work (R304,
R321). -/
def ringBoth (bits : Nat) (both : Emit) (one : Fin 2 → Emit) (s : State) : State :=
  if ringArmed s 0 || ringArmed s 1 then ringOn 1 bits (one 1) (ringOn 0 bits (one 0) s) else emit both s

/-- A payload frame that this module originates, on both ports (R304, R321). -/
def ringSend (f : RingFrame) (s : State) : State := ringBoth (ringBits f) (.ring none f) (fun p => .ring (some p) f) s

/-- Whether a frame is of this station and version (R307). -/
def ringOurs (s : State) (f : RingFrame) : Bool := f.ver == 1 && f.ring == s.img.stnId

/-- Whether a frame's destination address is one of this module's, and the frame is not its own come round (R304, R308). -/
def ringFor (s : State) (f : RingFrame) : Bool :=
  (f.dest == ringGroup s || f.dest == posGroup s || f.dest == .unicast (ownNode s) || f.dest == .linkLocal) && f.src != ownNode s

/-- Whether DST is an address that this module folds into CHECK as its own: all, itself, or for its position the partner
(R307, R361). -/
def dstOk (s : State) (d : Byte) : Bool := d == 0xFF || d == ownNode s || (s.pst.member && d == (ownNode s ^^^ 1))

/-- A frame passed on through the other port, unless it is link-local, for this node alone, or its own (R304, R308). -/
def ringForward (p : Fin 2) (f : RingFrame) (s : State) : State :=
  if f.dest == .linkLocal || f.dest == .unicast (ownNode s) || f.src == ownNode s then s else emit (.ring (some (1 - p)) f) s

/-- The end of a lost path: both ports up, and supervision frames of every node through both or through neither (R306,
log 24). -/
def pathWhole (s : State) : State :=
  onFrg (fun r =>
    let a := tget {} r.ports 0
    let b := tget {} r.ports 1
    { r with pathLost := r.pathLost && !(a.up && b.up && a.supv == b.supv) }) s

/-- A valid frame on a port: counted, and the port is up (R306). -/
def ringValid (p : Nat) (s : State) : State :=
  pathWhole (setRingPort p (fun r => { r with up := true, link := true, frames := r.frames + 1 }) s)

/-- An HSR supervision frame on a port (R304, R306, R322). -/
def ringSupervised (p : Nat) (s : State) : State := pathWhole (setRingPort p (fun r => { r with up := true, link := true, supv := true }) s)

/-- A frame that fails CHECK: discarded and counted. -/
def ringInvalid (p : Nat) (s : State) : State :=
  checkFailed 0 (setRingPort p (fun r => { r with errCheck := inc16 r.errCheck }) s)

/-- A frame on a port (R304, R307): a tagged one is not accepted; `pass` sends it on; one with another EtherType, for another node,
of another version or station is otherwise ignored. PRESUMED (log 132): HSR supervision frames have EtherType 0x88FB, as
IEC 62439-3 gives. -/
def ringArrive (p : Fin 2) (f : RingFrame) (pass k : State → State) (s : State) : State :=
  if !powered s || f.tagged then s
  else if f.etherType == 0x88FB then ringSupervised p.val (pass s)
  else
    let s := pass s
    if f.etherType != etherTypeOf s || !ringFor s f || !ringOurs s f then s else k s

/-- CHECK of a frame for this module, over the header that it builds from the address and the sequence it expects (R308, R361):
valid frames go on to `k` with the full sequence. -/
def ringTake (p : Fin 2) (f : RingFrame) (want : Word) (k : Word → State → State) (s : State) : State :=
  let sq := nearestSeq want f.seqLo
  if dstOk s f.dst && f.check == ringCheck f sq then k sq (ringValid p.val s) else ringInvalid p.val s

/-- A received frame of one kind and an expected sequence. -/
def ringAccept (p : Fin 2) (kind : Byte) (f : RingFrame) (want : Word) (k : Word → State → State) (s : State) : State :=
  ringArrive p f (ringForward p f) (fun s => if f.kind != kind then s else ringTake p f want k s) s

/-- The bytes of a frame as words; a missing byte counts as 0. -/
def dataWord (l : List Byte) (i : Nat) : Word := Word.ofBytes (l.drop i)

/-! ### SYNC (R311) -/

/-- SYNC of the cycle that begins, from the speaker (R308, R311). -/
def syncSend (s : State) : State :=
  if isSpeaker s then
    let c : Word := s.cyc.count.setWidth 32
    let ns : Int := (s.cyc.t0Us : Int) * 1000 + s.pst.offsetNs
    let t : BitVec 64 := BitVec.ofInt 64 ns
    let f := mkRing s 0x01 0xFF (ringGroup s) c 0 (wordsBytes [t.extractLsb' 0 32, t.extractLsb' 32 32, c,
      BitVec.ofNat 32 s.img.cycleUs, BitVec.ofNat 32 s.img.offsetUs])
    let s := onFrg (fun r => { r with syncC := c, syncT0 := some ns, syncOk := true }) s
    -- CORR starts at the delay from T0 to departure, which only the wire knows: a free value.
    let f := { f with corrNs := (freeVal s).toNat % 1000 }
    ringSend f (takeFree s)
  else s

/-- SYNC sent on with this node's residence time, a free value, and the delay of its arrival link added to CORR (R311). -/
def syncForward (p : Fin 2) (f : RingFrame) (s : State) : State :=
  ringForward p { f with corrNs := f.corrNs + (freeVal s).toNat + (ringPort s p.val).delay.toNat } (takeFree s)

/-- Whether a SYNC comes from the sender that is expected: the speaker, or any module while none is known (R311, R361). -/
def fromSpeaker (s : State) (f : RingFrame) : Bool :=
  match s.pst.speaker with
  | some v => f.src == 0x40 + v.setWidth 8
  | none => decide (0x40 ≤ f.src) && decide (f.src < 0x44)

/-- A valid SYNC taken: C, the T0 it counts, and the station time at which it arrived, T0 plus CORR plus the delay of the arrival
link (R310, R311). -/
def takeSync (p : Fin 2) (f : RingFrame) (sq : Word) (s : State) : State :=
  if f.corrNs > 100000 then s
  else
    let t0 : Int := (dataWord f.data 4 ++ dataWord f.data 0).toInt
    let at_ := t0 + f.corrNs + (ringPort s p.val).delay.toNat
    onFrg (fun r => { r with syncOk := true, syncC := sq, syncT0 := some t0, syncAt := some at_ }) s

/-- SYNC_RECEIVED (R310, R311). -/
def syncReceived (p : Fin 2) (f : RingFrame) (s : State) : State :=
  ringArrive p f (syncForward p f) (fun s =>
    if f.kind != 0x01 then s
    else if !fromSpeaker s f then ringInvalid p.val s
    else ringTake p f s.frg.syncC (takeSync p f) s) s

/-- A T0 counts one cycle more where the latest SYNC counted an earlier T0, so that a SYNC that is missed or still on its way
never shifts C; in Hold the number stands (R76, R310). -/
def countC (s : State) : State :=
  let t0 : Int := (s.cyc.t0Us : Int) * 1000 + s.pst.offsetNs
  match s.frg.syncT0 with
  | some t => if t + 500 * (cycleUs s : Int) ≤ t0 then onFrg (fun r => { r with syncC := if s.sup.mode = .hold then r.syncC else r.syncC + 1, syncT0 := some t0 }) s else s
  | none => s

/-- SYNC_RECEIVED (R311). -/
def execSyncReceived (p : Fin 2) (f : RingFrame) (s : State) : Outcome := .next (syncReceived p f s)

/-! ### Inputs (R310, R317, R319) -/

/-- Cycles since a station's grant became valid; none before C_GRANT. -/
def sinceGrant (s : State) (x : Stn) : Option Word :=
  let d := s.frg.syncC - x.cGrant
  if d.slt 0 then none else some d

/-- Whether a station holds a grant. -/
def granted (x : Stn) : Bool := x.st == .granted || x.st == .present || x.st == .oneMiss

/-- Whether INPUT of this cycle is expected from a station. -/
def expected (s : State) (x : Stn) : Bool := granted x && (sinceGrant s x).isSome

/-- The present bit of a station (R317). -/
def stnPresent (x : Stn) : Bool := granted x && x.seen

/-- Input image word 0x00C4 and FRG_PRESENT. -/
def presentWord (s : State) : Word :=
  (List.range 32).foldl (fun w n => orBit w n (stnPresent (stn s (n + 1)))) 0

/-- The input image offset of a station's first word. -/
def stnIn (n : Nat) : Nat := 0x100 + 256 * (n - 1)
/-- The output image offset of a station's first word. -/
def stnOut (n : Nat) : Nat := 0x480 + 256 * (n - 1)

/-- A station's input words from the DATA of its INPUT. -/
def stnWords (n : Nat) (cfg : StationCfg) (data : List Byte) : List (Nat × Word) :=
  (List.range ((cfg.inLen + 3) / 4)).map (fun k => (stnIn n + k, dataWord (data.drop 4) (4 * k)))

/-- A valid INPUT of this cycle taken: words, status, acknowledgement (R310, R316, R317, R319). -/
def takeInput (p n : Nat) (cfg : StationCfg) (f : RingFrame) (s : State) : State :=
  let ack : BitVec 16 := (dataWord f.data 0).setWidth 16
  let us := sat16 (nowUs s - s.cyc.t0Us)
  let s := onFrg (fun r => { r with inarrLast := us, inarrMax := max16 r.inarrMax us }) s
  let s := onCyc (fun c => { c with inputs := tputs 0 c.inputs (stnWords n cfg f.data) }) s
  setStn n (fun x =>
    let acked := x.sentSeq == some ack
    let fa := x.freshAcked || acked
    { x with
      st := if fa then .present else .granted
      status := (dataWord f.data 2).setWidth 16
      subst := f.flags.getLsbD 1
      ports := 1#2 <<< p
      arrived := true
      seen := true
      freshAcked := fa
      unack := if x.sentSeq.isSome && !acked then inc16 x.unack else x.unack
      sentSeq := none }) s

/-- A valid INPUT: a second copy only shows the other path, and one after the input deadline of its cycle is missed (R20,
R317). -/
def inputValid (p : Fin 2) (n : Nat) (cfg : StationCfg) (f : RingFrame) (want sq : Word) (s : State) : State :=
  if sq != want || f.data.length != 4 + cfg.inLen then s
  else if (stn s n).arrived then setStn n (fun x => { x with ports := x.ports ||| (1#2 <<< p.val) }) s
  else if s.frg.deadlineOver then s
  else takeInput p.val n cfg f s

/-- REMOTE_INPUT_RECEIVED: an INPUT of a granted station of this position, checked under the cycle's sequence (R310). -/
def inputReceived (p : Fin 2) (f : RingFrame) (s : State) : State :=
  ringArrive p f (ringForward p f) (fun s =>
    let n := f.src.toNat
    let x := stn s n
    match stnCfg s n, sinceGrant s x with
    | some cfg, some d =>
      if f.kind != 0x02 || !granted x then s
      else ringTake p f (x.inBase + d) (inputValid p n cfg f (x.inBase + d)) s
    | _, _ => s) s

/-- REMOTE_INPUT_RECEIVED (R310). -/
def execRemoteInputReceived (p : Fin 2) (f : RingFrame) (s : State) : Outcome := .next (inputReceived p f s)

/-- The substitutes of a lost station (R317): fixed values, or the words as they are. -/
def stnSubst (n : Nat) (cfg : StationCfg) : List (Nat × Word) :=
  cfg.subst.zipIdx.filterMap (fun p => p.1.map (fun w => (stnIn n + p.2, w)))

/-- One station at the input deadline: a frame not arrived is missed, and the second consecutive miss is a loss, with the last
OUTPUT unacknowledged (R317, R319). -/
def deadlineStn (n : Nat) (s : State) : State :=
  let x := stn s n
  if !expected s x || x.arrived then s
  else
    let s := onFrg (fun r => { r with evt := setBit r.evt 1 }) s
    if x.st == .oneMiss then
      let s := setStn n (fun x => { x with st := .lost, missed := inc16 x.missed, losts := inc8 x.losts, seen := false,
                                           unack := if x.sentSeq.isSome then inc16 x.unack else x.unack, sentSeq := none }) s
      let s := onCyc (fun c => { c with inputs := tputs 0 c.inputs (match stnCfg s n with | some cfg => stnSubst n cfg | none => []) }) s
      post 0x0B01 n [0] (onFrg (fun r => { r with evt := setBit r.evt 2 }) s)
    else setStn n (fun x => { x with st := .oneMiss, missed := inc16 x.missed }) s

/-- The stations of the position. -/
def stations (s : State) : List Nat := s.img.ring.stations.map (·.1)

/-- Whether every remote frame expected in the cycle has arrived (R20). -/
def allArrived (s : State) : Bool := (stations s).all (fun n => !expected s (stn s n) || (stn s n).arrived)

/-! ### JOIN and GRANT (R316) -/

/-- Whether this module sends OUTPUT and answers JOIN. -/
def ringSender (s : State) : Bool := inService s && drives s && roleShown s != .standby

/-- Whether every module of the station plan belongs to this module's position. -/
def onlyPosition (s : State) : Bool :=
  (List.range 4).all (fun n => !s.img.plan.members.getLsbD n || n == s.pst.slot.toNat || (s.pst.member && n == partnerSlot s))

/-- REMOTE_JOIN_RECEIVED: kept for an answer at the next TO. A module never answers for another position (log 25). -/
def joinReceived (p : Fin 2) (f : RingFrame) (s : State) : State :=
  let n := f.src.toNat
  ringAccept p 0x05 f (f.seqLo.setWidth 32) (fun _ s =>
    if decide (1 ≤ n) && decide (n ≤ 32) && ringSender s && ((stnCfg s n).isSome || onlyPosition s) then
      setStn n (fun x => { x with joinPend := some f.data, typ := dataWord f.data 0 }) s
    else s) s

/-- REMOTE_JOIN_RECEIVED (R316). -/
def execRemoteJoinReceived (p : Fin 2) (f : RingFrame) (s : State) : Outcome := .next (joinReceived p f s)

/-- The answer of a GRANT to a JOIN (R308). -/
def grantCode (cfg : Option StationCfg) (j : List Byte) : Byte :=
  match cfg with
  | none => 3
  | some c =>
    if (dataWord j 4).toNat % 65536 ≠ c.inLen || (dataWord j 4).toNat / 65536 ≠ c.outLen then 1
    else if dataWord j 0 ≠ c.typ then 2 else 0

/-- A base that the module chooses, equal to neither base of the previous grant to the address (R309): a free value, or the next
number that is neither. -/
def newBase (x : Stn) (s : State) : Word :=
  let v := freeVal s
  let old (w : Word) : Bool := w == x.outBase || w == x.inBase
  if !old v then v else if !old (v + 1) then v + 1 else v + 2

/-- GRANT to one station that joined, at TO (R309, R316). An OUTPUT of its last grant that no INPUT has acknowledged counts
(R319). -/
def grantStn (n : Nat) (s : State) : State :=
  match (stn s n).joinPend with
  | none => s
  | some j =>
    let x := stn s n
    let s := setStn n (fun x => { x with joinPend := none }) s
    let code := grantCode (stnCfg s n) j
    if code ≠ 0 then
      ringSend (mkRing s 0x06 (BitVec.ofNat 8 n) (.unicast (BitVec.ofNat 8 n)) 0 0 ([code, 3, 0, 0] ++ wordsBytes [0, 0, 0]))
        (onFrg (fun r => { r with evt := setBit r.evt 4 }) s)
    else
      let ob := newBase x s
      let s := takeFree s
      let ib := newBase x s
      let s := takeFree s
      let c := s.frg.syncC + 2
      let s := setStn n (fun x => { x with st := .granted, joins := inc8 x.joins, outBase := ob, inBase := ib, cGrant := c,
                                           fresh := true, freshAcked := false, seen := false, arrived := false,
                                           unack := if x.sentSeq.isSome then inc16 x.unack else x.unack, sentSeq := none }) s
      let s := onFrg (fun r => { r with evt := setBit r.evt 3 }) s
      ringSend (mkRing s 0x06 (BitVec.ofNat 8 n) (.unicast (BitVec.ofNat 8 n)) 0 0 ([0, 3, 0, 0] ++ wordsBytes [ob, ib, c])) (post 0x0B01 n [1] s)

/-- Every JOIN answered at TO. -/
def grantAll (s : State) : State := if ringSender s then forEach (span 1 33) grantStn s else s

/-! ### OUTPUT and COMMIT (R310, R313, R320) -/

/-- The lane whose output words count at an offset: Nib A, or the owner's in Split mode (R108, R111). -/
def ownerOf (s : State) (off : Nat) : Lane := if s.cmp.mode == .split && s.img.outPartB.contains off then .b else .a

/-- An output word as it goes out: its force, or the owner's word. -/
def outWord (s : State) (off : Nat) : Word := (forced s (.outp off)).getD (tget 0 (lane s (ownerOf s off)).outs off)

/-- The words of a station's OUTPUT: safe values in Hold and in the first cycle after it (R320), else the program's. -/
def outData (n : Nat) (cfg : StationCfg) (safe : Bool) (s : State) : List Byte :=
  ((List.range ((cfg.outLen + 3) / 4)).flatMap (fun k =>
    Word.bytes (if safe then cfg.safe.getD k 0 else outWord s (stnOut n + k)))).take cfg.outLen

/-- OUTPUT to one station; the one before it that no INPUT has acknowledged counts (R310, R313, R319). -/
def sendOutput (n : Nat) (s : State) : State :=
  let x := stn s n
  match stnCfg s n, sinceGrant s x with
  | some cfg, some d =>
    if granted x && ringSender s then
      let sq := x.outBase + d
      let safe := s.sup.mode == .hold || decide (s.sup.holdExit ≥ 2)
      let f := mkRing s 0x03 (BitVec.ofNat 8 n) (.unicast (BitVec.ofNat 8 n)) sq ((Word.flag x.fresh 0).setWidth 16) (outData n cfg safe s)
      ringSend f (setStn n (fun x => { x with
        unack := if x.sentSeq.isSome then inc16 x.unack else x.unack
        sentSeq := some (sq.setWidth 16)
        fresh := false
        outSent := true }) s)
    else s
  | _, _ => s

/-- The OUTPUT frames that the closing of a cell releases (R313). -/
def sendClosed (cell : Nat) (s : State) : State := forEach (cellCfg s cell).closes sendOutput s

/-- The mask of the stations sent to in this cycle. -/
def commitMask (s : State) : Word := (List.range 32).foldl (fun w n => orBit w n (stn s (n + 1)).outSent) 0

/-- COMMIT after the last OUTPUT (R310, R313). -/
def sendCommit (s : State) : State :=
  match (stations s).filter (fun n => (stn s n).outSent) with
  | [] => s
  | l =>
    let n := l.foldl min 33
    let x := stn s n
    let sq := x.outBase + (s.frg.syncC - x.cGrant)
    ringSend (mkRing s 0x04 0xFF (ringGroup s) sq 0 (wordsBytes [s.frg.syncC, commitMask s])) (onFrg (fun r => { r with outDone := true }) s)

/-- COMMIT_SEND: once the compare is complete and every OUTPUT of the cycle has left; never in an overrun cycle
(R313, R314). -/
def execCommitSend (s : State) : Outcome :=
  .next (if s.cyc.phase = .compared && !s.cyc.late && !s.frg.outDone && ringSender s then sendCommit s else s)

/-- A station's part of a T0: what arrived and was sent belongs to the last cycle. -/
def stnT0 (x : Stn) : Stn := { x with arrived := false, outSent := false, ports := 0, portsLast := x.ports }

/-- The ring's part of a T0 (R310, R313, R317). -/
def ringT0 (s : State) : State :=
  countC (onFrg (fun r => { r with outDone := false, syncOk := false, deadlineOver := false, stns := tmap {} stnT0 r.stns }) s)

/-- In Hold: safe values to every station and their COMMIT (R320). -/
def holdOutputs (s : State) : State := if ringSender s then sendCommit (forEach (stations s) sendOutput s) else s

/-! ### Links and paths (R304, R306, R311) -/

/-- A LINK frame of this module on one port, under the port's own counter (R308). -/
def linkSend (p : Fin 2) (kind dst : Byte) (data : List Byte) (s : State) : State :=
  let q := (ringPort s p.val).linkSeq + 1
  let f := mkRing s kind dst .linkLocal q 0 data
  ringOn p (ringBits f) (.ring (some p) f) (setRingPort p.val (fun r => { r with linkSeq := q }) s)

/-- A LINK frame of the neighbour, under the neighbour's counter as last received (R308). -/
def linkAccept (p : Fin 2) (kind : Byte) (f : RingFrame) (k : State → State) (s : State) : State :=
  ringAccept p kind f (ringPort s p.val).linkRx (fun sq s => k (setRingPort p.val (fun r => { r with linkRx := sq }) s)) s

/-- LINK_DELAY_MEASURE: LINK_REQ on a port (R311). -/
def execLinkDelayMeasure (p : Fin 2) (s : State) : Outcome := .next (if powered s then linkSend p 0x07 0xFF (wordsBytes [0]) s else s)

/-- LINK_REQ_RECEIVED: answered with the receive and send times of this module's clock (R308, R311). -/
def linkReq (p : Fin 2) (f : RingFrame) (s : State) : State :=
  linkAccept p 0x07 f (fun s => let ns := BitVec.ofNat 32 (s.tim.ticks * 40); linkSend p 0x08 f.src (wordsBytes [ns, ns]) s) s

/-- LINK_REQ_RECEIVED (R311). -/
def execLinkReqReceived (p : Fin 2) (f : RingFrame) (s : State) : Outcome := .next (linkReq p f s)

/-- LINK_RSP_RECEIVED: half of the round trip less the responder's turnaround (R311). -/
def linkRsp (p : Fin 2) (f : RingFrame) (trip : Nat) (s : State) : State :=
  linkAccept p 0x08 f (fun s =>
    let turn := (dataWord f.data 4 - dataWord f.data 0).toNat
    setRingPort p.val (fun r => { r with delay := sat16 ((trip - turn) / 2) }) s) s

/-- LINK_RSP_RECEIVED (R311). -/
def execLinkRspReceived (p : Fin 2) (f : RingFrame) (trip : Nat) (s : State) : Outcome := .next (linkRsp p f trip s)

/-- HSR_SUPERVISION_SEND (R304), under the injectors like every frame that the module originates (R321). The length of the frame
is IEC 62439-3's, so an inverted bit keeps its number (log 131). -/
def execHsrSupervisionSend (s : State) : Outcome :=
  .next (if powered s then ringBoth 0 (.supervision false) (fun p => .hsr p) s else s)

/-- A path declared lost (R306). -/
def pathLoss (s : State) : State := onFrg (fun r => { r with pathLost := true, evt := setBit r.evt 0 }) s

/-- RING_PATH_LOST: a node's supervision frames through the other port only for 6 s (R306). -/
def execRingPathLost (p : Fin 2) (s : State) : Outcome :=
  .next (if powered s then
    pathLoss (setRingPort (1 - p).val (fun r => { r with supv := true }) (setRingPort p.val (fun r => { r with supv := false }) s))
  else s)

/-- A port goes down: a path is lost where it was up (R306). -/
def portDown (d : RingDown) (s : State) : State :=
  let was := (ringPort s d.port.val).up
  let s := setRingPort d.port.val (fun r => { r with up := false, link := r.link && !d.linkLost }) s
  if was then pathLoss s else s

/-- RING_PORT_DOWN (R306). -/
def execRingPortDown (d : RingDown) (s : State) : Outcome := .next (if powered s then portDown d s else s)

end Sys2Proof.Machine
end

