-- ==== Sys2Proof/Machine/SysBlocks.lean ====
section
/-! DEFINITION. The system blocks of R64 and R65 that act on a lane's own memory: timers, counters, edge detectors, the
times at T0, EVPOST, and the status and mode of the innermost open cell (R66, R67, R70, R71). -/

namespace Sys2Proof.Machine

/-- SYS of a block: the word of its number, its result in g[D] (R64). -/
def sysOp (n : BitVec 12) (l : Lane) (d a : BitVec 6) (legal : Bool) (k : State → State) (s : State) : State :=
  blockOp l (blkWord 0x60 d a n) legal (fun s => next l (k s)) s

/-- A result written to g[D]. -/
def result (l : Lane) (d : BitVec 6) (v : Word) (s : State) : State := setLane l (gwrite d v) s

/-- A block with an instance record of `n` words at g[A]: an address out of range, or a record that a store would put
into the constant area, is a fault (R54, R61). -/
def recBlock (num : BitVec 12) (n : Nat) (l : Lane) (d a : BitVec 6) (stores : Bool) (k : Nat → LaneSt → LaneSt × Word)
    (s : State) : State :=
  blockOp l (blkWord 0x60 d a num) true (fun s =>
    let r := (greg (lane s l) a).toNat
    if dataWords < r + n then selfDiag .laneAddress s
    else if stores && (span r (r + n)).any (isConst s) then selfDiag .storeToConstant s
    else
      let p := k r (lane s l)
      next l (setLane l (fun _ => gwrite d p.2 p.1) s)) s

/-- A Boolean input: true when not 0 (R64). -/
def truthy (w : Word) : Bool := w != 0

/-- PTC: the preset in cycles (R65). -/
def presetCycles (pt : Word) (cycle : Nat) : Nat := (pt.toNat * 1000 + (cycle - 1)) / cycle

/-- A timer record (R65). -/
structure TimerRec where
  elapsed : Nat
  lastIn : Bool
  q : Bool
  deriving DecidableEq, Repr

/-- TON of R65. -/
def tonStep (on : Bool) (ptc : Nat) (r : TimerRec) : TimerRec :=
  let e := if !on || !r.lastIn then 0 else min (r.elapsed + 1) ptc
  { elapsed := e, lastIn := on, q := on && decide (e ≥ ptc) }

/-- TOF of R65. -/
def tofStep (on : Bool) (ptc : Nat) (r : TimerRec) : TimerRec :=
  if on then { elapsed := 0, lastIn := on, q := true }
  else if r.q then
    let e := min (r.elapsed + 1) ptc
    { elapsed := e, lastIn := on, q := decide (e < ptc) }
  else { r with lastIn := on }

/-- TP of R65. -/
def tpStep (on : Bool) (ptc : Nat) (r : TimerRec) : TimerRec :=
  if r.q then { elapsed := r.elapsed + 1, lastIn := on, q := decide (r.elapsed + 1 < ptc) }
  else if on && !r.lastIn && decide (ptc > 0) then { elapsed := 0, lastIn := on, q := true }
  else { r with lastIn := on }

/-- A timer's execution: one advance per cycle; a second execution in the cycle returns the Q of the first (R65). -/
def timerRun (step : Bool → Nat → TimerRec → TimerRec) (cyc : Word) (cycle : Nat) (r : Nat) (x : LaneSt) : LaneSt × Word :=
  let f := dataAt x (r + 2)
  if dataAt x (r + 1) = cyc then (x, Word.ofBool (f.getLsbD 1))
  else
    let t := step (truthy (greg x 1)) (presetCycles (greg x 2) cycle) ⟨(dataAt x r).toNat, f.getLsbD 0, f.getLsbD 1⟩
    (dataPut (r + 2) (Word.flag t.lastIn 0 ||| Word.flag t.q 1)
      (dataPut (r + 1) cyc (dataPut r (BitVec.ofNat 32 t.elapsed) x)), Word.ofBool t.q)

/-- A timer block. -/
def timerBlock (num : BitVec 12) (step : Bool → Nat → TimerRec → TimerRec) (l : Lane) (d a : BitVec 6) (s : State) : State :=
  recBlock num 3 l d a true (timerRun step (s.cyc.count.setWidth 32) (cycleUs s)) s

/-- TON (R65). -/
def execTon (l : Lane) (d a : BitVec 6) (s : State) : Outcome := .next (timerBlock 0x001 tonStep l d a s)
/-- TOF (R65). -/
def execTof (l : Lane) (d a : BitVec 6) (s : State) : Outcome := .next (timerBlock 0x002 tofStep l d a s)
/-- TP (R65). -/
def execTp (l : Lane) (d a : BitVec 6) (s : State) : Outcome := .next (timerBlock 0x003 tpStep l d a s)

/-- A count raised by an edge, up to the top value. -/
def countUp (edge : Bool) (cv : Word) : Word := if edge && cv != 0x7FFFFFFF then cv + 1 else cv
/-- A count lowered by an edge, down to 0x8000_0000. -/
def countDown (edge : Bool) (cv : Word) : Word := if edge && cv != 0x80000000 then cv - 1 else cv

/-- CTU of R65. -/
def ctuRun (r : Nat) (x : LaneSt) : LaneSt × Word :=
  let cu := truthy (greg x 1)
  let cv := if truthy (greg x 2) then 0 else countUp (cu && !(dataAt x (r + 1)).getLsbD 0) (dataAt x r)
  (dataPut (r + 1) (Word.ofBool cu) (dataPut r cv x), Word.ofBool (!cv.slt (greg x 3)))

/-- CTD of R65: LOAD sets CV to PV; otherwise a rising edge counts down. -/
def ctdRun (r : Nat) (x : LaneSt) : LaneSt × Word :=
  let cd := truthy (greg x 1)
  let cv := if truthy (greg x 2) then greg x 3 else countDown (cd && !(dataAt x (r + 1)).getLsbD 0) (dataAt x r)
  (dataPut (r + 1) (Word.ofBool cd) (dataPut r cv x), Word.ofBool (!(0#32).slt cv))

/-- CTUD of R65: RESET, then LOAD, then the count-up edge, then the count-down edge. DESIGN CHOICE: the spec gives the record
two words and no layout of the second; last CU stands in bit 0, last CD in bit 1 (log 110). -/
def ctudRun (r : Nat) (x : LaneSt) : LaneSt × Word :=
  let i := greg x 1
  let pv := greg x 2
  let last := dataAt x (r + 1)
  let cv := if i.getLsbD 2 then 0 else dataAt x r
  let cv := if i.getLsbD 3 then pv else cv
  let cv := countUp (i.getLsbD 0 && !last.getLsbD 0) cv
  let cv := countDown (i.getLsbD 1 && !last.getLsbD 1) cv
  (dataPut (r + 1) (i &&& 3) (dataPut r cv x), Word.flag (!cv.slt pv) 0 ||| Word.flag (!(0#32).slt cv) 1)

/-- R_TRIG of R65. -/
def rTrigRun (r : Nat) (x : LaneSt) : LaneSt × Word :=
  let i := truthy (greg x 1)
  (dataPut r (Word.ofBool i) x, Word.ofBool (i && !(dataAt x r).getLsbD 0))

/-- F_TRIG of R65. -/
def fTrigRun (r : Nat) (x : LaneSt) : LaneSt × Word :=
  let i := truthy (greg x 1)
  (dataPut r (Word.ofBool i) x, Word.ofBool ((dataAt x r).getLsbD 0 && !i))

/-- CTU (R65). -/
def execCtu (l : Lane) (d a : BitVec 6) (s : State) : Outcome := .next (recBlock 0x004 2 l d a true ctuRun s)
/-- CTD (R65). -/
def execCtd (l : Lane) (d a : BitVec 6) (s : State) : Outcome := .next (recBlock 0x005 2 l d a true ctdRun s)
/-- CTUD (R65). -/
def execCtud (l : Lane) (d a : BitVec 6) (s : State) : Outcome := .next (recBlock 0x006 2 l d a true ctudRun s)
/-- R_TRIG (R65). -/
def execRTrig (l : Lane) (d a : BitVec 6) (s : State) : Outcome := .next (recBlock 0x007 1 l d a true rTrigRun s)
/-- F_TRIG (R65). -/
def execFTrig (l : Lane) (d a : BitVec 6) (s : State) : Outcome := .next (recBlock 0x008 1 l d a true fTrigRun s)
/-- CV (R64). -/
def execCv (l : Lane) (d a : BitVec 6) (s : State) : Outcome :=
  .next (recBlock 0x009 1 l d a false (fun r x => (x, dataAt x r)) s)

/-- TIMEL (R64). -/
def execTimel (l : Lane) (d a : BitVec 6) (s : State) : Outcome :=
  .next (sysOp 0x010 l d a (a == 0) (fun s => result l d (BitVec.ofNat 32 s.cyc.t0Us) s) s)
/-- TIMEH (R64). -/
def execTimeh (l : Lane) (d a : BitVec 6) (s : State) : Outcome :=
  .next (sysOp 0x011 l d a (a == 0) (fun s => result l d (BitVec.ofNat 32 (s.cyc.t0Us / 2 ^ 32)) s) s)

/-- EVPOST: its words folded, the record queued; a code outside the applications' range is refused (R67, R91). -/
def evpostOp (l : Lane) (d : BitVec 6) (s : State) : State :=
  let x := lane s l
  let code : BitVec 16 := (greg x 1).setWidth 16
  let s := setLane l (foldOut [0x00030000 + code.setWidth 32, greg x 2, greg x 3]) s
  if code.toNat < 0xC000 then result l d 1 (objRefused s)
  else result l d 0 (queueForTo l (.evpost code (greg x 2) (greg x 3) (innermost x)) s)

/-- EVPOST (R66). -/
def execEvpost (l : Lane) (d a : BitVec 6) (s : State) : Outcome := .next (sysOp 0x030 l d a (a == 0) (evpostOp l d) s)

/-- Whether what a lane says of cells counts: while Rejoining the outputs are Nib A's alone (R111). -/
def speaksFor (s : State) (l : Lane) : Bool := !(s.cmp.mode == .rejoining && l == .b)

/-- CELLSTAT: the application status of the innermost open cell (R70). -/
def cellstatOp (l : Lane) (d : BitVec 6) (s : State) : State :=
  let x := lane s l
  let s := if speaksFor s l then setCell (innermost x) (fun c => { c with app := (greg x 1).setWidth 8 }) s else s
  result l d 0 s

/-- CELLSTAT (R70). -/
def execCellstat (l : Lane) (d a : BitVec 6) (s : State) : Outcome := .next (sysOp 0x040 l d a (a == 0) (cellstatOp l d) s)

/-- CELLMODE: modes 4 to 15 are refused and leave the mode (R71). -/
def cellmodeOp (l : Lane) (d : BitVec 6) (s : State) : State :=
  let x := lane s l
  let m : BitVec 4 := (greg x 1).setWidth 4
  if m.toNat ≥ 4 then result l d 1 s
  else result l d 0 (if speaksFor s l then setCell (innermost x) (fun c => { c with mode := m }) s else s)

/-- CELLMODE (R71). -/
def execCellmode (l : Lane) (d a : BitVec 6) (s : State) : Outcome := .next (sysOp 0x041 l d a (a == 0) (cellmodeOp l d) s)

end Sys2Proof.Machine
end

