-- ==== Sys2Proof/Machine/Timing.lean ====
section
/-! DEFINITION. Speed gauges and floors (R27 to R34), the time reference checks (R36, R37), the draw governor (R38 to R46),
and the barrier's ledger and limit (R47 to R50). -/

namespace Sys2Proof.Machine

/-! ### Gauges and floors -/

/-- The floors in force: the Split floors while Split or Rejoining (R109). -/
def floors (s : State) : Nat × Nat :=
  if s.cmp.mode = .checked then (s.img.floorA, s.img.floorB) else (s.img.splitFloorA, s.img.splitFloorB)

/-- A floor guard: the floor times 1.05, rounded up (R33). -/
def guardOf (f : Nat) : Nat := (f * 105 + 99) / 100

/-- The guards the governor works to: the Checked ones too while a rejoin is prepared (R111 step 3). -/
def guards (s : State) : Nat × Nat :=
  let f := floors s
  let g := (guardOf f.1, guardOf f.2)
  if s.cmp.rejoinAt.isSome then (max g.1 (guardOf s.img.floorA), max g.2 (guardOf s.img.floorB)) else g

/-- The readings the governor works on: the lower one for both while the gauges disagree (R29). -/
def readings (s : State) : Nat × Nat :=
  let a := s.tim.gaugeA.toNat
  let b := s.tim.gaugeB.toNat
  if s.tim.gaugeDis then (min a b, min a b) else (a, b)

/-- Both readings above their guards (R43). -/
def aboveGuards (s : State) : Bool :=
  decide ((readings s).1 > (guards s).1) && decide ((readings s).2 > (guards s).2)
/-- Both readings at or above their guards (R34, R111). -/
def atGuards (s : State) : Bool :=
  decide ((readings s).1 ≥ (guards s).1) && decide ((readings s).2 ≥ (guards s).2)

/-- Two readings differ by more than 10 % of the lower (R29). -/
def gaugesDiffer (a b : Nat) : Bool := decide (10 * (max a b - min a b) > min a b)

/-- A condition's start kept while it holds. -/
def since (now : Nat) (c : Bool) (t : Option Nat) : Option Nat := if c then some (t.getD now) else none

/-- Whether a condition has held for `us`. -/
def heldFor (now us : Nat) (t : Option Nat) : Bool :=
  match t with
  | some t0 => decide (t0 + us ≤ now)
  | none => false

/-- The core raised by 10 mV. Step 5 ends when it is back at the unshed voltage (R43). -/
def raise10 (now unshed : Nat) (t : Tim) : Tim :=
  let v := t.vcore + 10
  { t with vcore := v, lastRaise := some now, shed := if t.shed ≥ 5 && decide (v.toNat ≥ unshed) then 4 else t.shed }

/-- A gauge below its guard: the core raised, once per ms, up to 1.00 V (R33). Before the
gauges' first reading, and during a start, whose steps 8 and 12 fix the voltage (R32), nothing is raised. -/
def floorGuard (s : State) : State :=
  let due := match s.tim.lastRaise with
    | some t => decide (t + 1000 ≤ nowUs s)
    | none => true
  let read := s.tim.gauged && s.sup.mode != .start
  if read && !atGuards s && due && decide (s.tim.vcore < 1000) then onTim (raise10 (nowUs s) s.img.vunshedMv) s else s

/-- SPEED_GAUGE_UPDATE: both readings renewed; the ends of gauge disagreement and speed floor lost (R27, R29, R34). -/
def gaugeUpdate (a b : BitVec 10) (s : State) : State :=
  let s := onTim (fun t => { t with gaugeA := a, gaugeB := b, gauged := true, lowA := if a < t.lowA then a else t.lowA,
                                    lowB := if b < t.lowB then b else t.lowB }) s
  let now := nowUs s
  let agree := since now (!gaugesDiffer a.toNat b.toNat) s.tim.agreeSince
  let ok := since now (atGuards s) s.tim.guardSince
  floorGuard (onTim (fun t => { t with agreeSince := agree, guardSince := ok, gaugeDis := t.gaugeDis && !heldFor now 1000000 agree,
                                       floorLost := t.floorLost && !heldFor now 1000000 ok }) s)

/-- SPEED_GAUGE_UPDATE (R27). -/
def execSpeedGaugeUpdate (a b : BitVec 10) (s : State) : Outcome := .next (gaugeUpdate a b s)

/-- GAUGE_DISAGREEMENT (R29). -/
def execGaugeDisagreement (s : State) : Outcome :=
  .next (if gaugesDiffer s.tim.gaugeA.toNat s.tim.gaugeB.toNat then
    post 0x0701 0 [] (onTim (fun t => { t with gaugeDis := true, agreeSince := none, evt := setBit t.evt 2 }) s) else s)

/-- SPEED_FLOOR_LOST (R34). -/
def execSpeedFloorLost (s : State) : Outcome :=
  .next (if s.tim.vcore = 1000 &&
      s.tim.gauged && (decide (s.tim.gaugeA.toNat < (floors s).1) || decide (s.tim.gaugeB.toNat < (floors s).2)) then
    post 0x0702 0 [] (onTim (fun t => { t with floorLost := true, guardSince := none, evt := setBit t.evt 1 }) s) else s)

/-! ### Time references -/

/-- TIME_REFERENCE_CHECK: a failed check is posted; twice in a row switches the pairs off and ends in Safe (R36, R37). A
timebase that gives no mark has stopped. -/
def timeCheck (ticks marks : Nat) (s : State) : State :=
  let qBad := decide (ticks < 95000) || decide (ticks > 105000)
  let tBad := decide (marks < 95) || decide (marks > 105)
  let twice := (qBad && s.tim.tbSeesQ) || (tBad && s.tim.qSeesTb)
  let s := onTim (fun t => { t with qtick := BitVec.ofNat 32 ticks, tbSeesQ := qBad, qSeesTb := tBad, tickFault := t.tickFault || twice,
                                    tbRun := decide (marks ≠ 0), evt := orBit t.evt 3 (qBad || tBad) }) s
  let s := if qBad || tBad then diagEvent (post 0x0703 0 [] s) else s
  if twice then selfDiag .timeReference (applyOutputs (dropQen (onSaf (fun f => { f with tickFault := true }) s))) else s

/-- TIME_REFERENCE_CHECK (R36, R37). -/
def execTimeReferenceCheck (ticks marks : Nat) (s : State) : Outcome := .next (timeCheck ticks marks s)

/-! ### Governor -/

/-- The effective ceiling in mW (R39). -/
def effCeiling (s : State) : Nat :=
  let c := if s.tim.ceilOp ≠ 0 then s.tim.ceilOp.toNat else s.img.ceilingMw
  if s.tim.boHold then min c 8000 else c

/-- A trace channel stopped with the samples it has (R141). -/
def traceDone (trunc : Bool) (c : TraceSt) : TraceSt :=
  { c with st := .done, trunc := trunc, orig := c.wridx - BitVec.ofNat 13 c.count }

/-- Shed step 3 taken, on one trace channel (R141). -/
def traceShed (c : TraceSt) : TraceSt :=
  match c.st with
  | .armed => { c with st := .shed }
  | .capturing => traceDone true c
  | _ => c

/-- Shed step 3 undone (R141). -/
def traceUnshed (c : TraceSt) : TraceSt := if c.st = .shed then { c with st := .armed } else c

/-- Every trace channel changed. -/
def mapTraces (f : TraceSt → TraceSt) (s : State) : State := onLpe (fun l => { l with traces := tmap {} f l.traces }) s

/-- A station link port under shed step 4: the lanes the image marks as unused and the second lane of a port whose traffic
fits one, never of the Carafe port (R41). -/
def slShed (s : State) (down : Bool) (p : Nat) (q : SlPort) : SlPort :=
  if s.pst.member && p == 0 then q
  else
    let l0 := s.img.slUnused.contains (2 * p)
    let l1 := s.img.slUnused.contains (2 * p + 1) || s.img.slOneLane.contains p
    if down then { q with lane0 := q.lane0 && !l0, lane1 := q.lane1 && !l1, shed := l1 }
    else { q with lane0 := q.lane0 || (l0 && q.up), lane1 := q.lane1 || (l1 && q.up), shed := false }

/-- What a shed step switches when taken or undone (R41). In Hold the trace channels keep their states (R132, R141). -/
def shedEffect (step : Nat) (down : Bool) (s : State) : State :=
  match step with
  | 1 => setDsp (fun d => { d with flOn := !down && d.run && !d.recovery }) s
  | 3 => if s.sup.mode = .hold then s else mapTraces (if down then traceShed else traceUnshed) s
  | 4 => onPst (fun p => { p with ports := (List.range 3).foldl (fun t i => tmod {} t i (slShed s down i)) p.ports }) s
  | _ => s

/-- The next step taken. -/
def takeStep (s : State) : State :=
  let n := s.tim.shed + 1
  shedEffect n true (onTim (fun t => { t with shed := n, lastTaken := some (nowUs s) }) s)

/-- The latest step undone. -/
def undoStep (s : State) : State :=
  shedEffect s.tim.shed false (onTim (fun t => { t with shed := t.shed - 1, lastRestore := some (nowUs s) }) s)

/-- Every step undone, as a reset of class W leaves TIM_SHED (R11, R51). -/
def unshedAll (s : State) : State :=
  let n := s.tim.shed
  forEach (List.range n) (fun k s => shedEffect (n - k) false s) s

/-- Whether the core may be lowered (R33, R43). -/
def mayLower (s : State) : Bool := decide (s.tim.vcore.toNat > s.img.vminMv) && aboveGuards s

/-- The core lowered by 10 mV. -/
def lowerCore (s : State) : State := if mayLower s then onTim (fun t => { t with vcore := t.vcore - 10 }) s else s

/-- The draw stays over the ceiling at step 5: posted once (R45). -/
def raiseUnattain (s : State) : State :=
  if s.tim.unattain then s else post 0x0704 0 [] (onTim (fun t => { t with unattain := true, evt := setBit t.evt 0 }) s)

/-- The draw over the ceiling (R43). -/
def governOver (s : State) : State :=
  let now := nowUs s
  let ready := match s.tim.lastTaken with
    | some t => decide (t + 10000 ≤ now)
    | none => true
  if s.tim.shed ≥ 5 then
    if mayLower s then lowerCore s
    else
      let s := onTim (fun t => { t with heldSince := some (t.heldSince.getD now) }) s
      if heldFor now 1000000 s.tim.heldSince then raiseUnattain s else s
  else if s.tim.shed < 4 then (if ready then takeStep s else s)
  else if ready then lowerCore (takeStep s)
  else s

/-- The draw well under the ceiling for 1 s (R43). -/
def governUnder (s : State) : State :=
  let now := nowUs s
  if s.tim.vcore.toNat < s.img.vunshedMv then
    onTim (raise10 now s.img.vunshedMv) s
  else
    let ok := match s.tim.lastRestore with
      | some t => decide (t + 1000000 ≤ now)
      | none => true
    if s.tim.shed > 0 && ok then undoStep s else s

/-- R43 on a mean of 100 samples. -/
def governOn (avg : BitVec 16) (s : State) : State :=
  let now := nowUs s
  let c := effCeiling s
  let a := avg.toNat
  let s := onTim (fun t => { t with heldSince := if a > c && decide (t.shed ≥ 5) && !mayLower s then t.heldSince else none,
                                    underSince := since now (decide (a + 500 ≤ c)) t.underSince,
                                    okSince := since now (decide (a ≤ c)) t.okSince }) s
  let s := onTim (fun t => { t with unattain := t.unattain && !heldFor now 1000000 t.okSince }) s
  let s := if a > c then governOver s else if heldFor now 1000000 s.tim.underSince then governUnder s else s
  floorGuard s

/-- GOVERNOR_EVALUATION: R43, every 1 ms, on the mean of the last 100 samples. During a start only the mean is recorded: Run is
entered at the unshed voltage with no step active (R32). -/
def govern (avg : BitVec 16) (s : State) : State :=
  let s := onTim (fun t => { t with drawAvg := avg, drawPeak := max16 t.drawPeak avg }) s
  if s.sup.mode = .start then s else governOn avg s

/-- GOVERNOR_EVALUATION (R43). -/
def execGovernorEvaluation (avg : BitVec 16) (s : State) : Outcome := .next (govern avg s)

/-- CEILING_UNATTAINABLE: the hold at step 5 has lasted 1 s (R45). -/
def execCeilingUnattainable (s : State) : Outcome :=
  .next (if s.tim.shed ≥ 5 && !mayLower s && decide (s.tim.drawAvg.toNat > effCeiling s) &&
      heldFor (nowUs s) 1000000 s.tim.heldSince then raiseUnattain s else s)

/-- The ceiling changed: a raised one ends "ceiling unattainable" (R45). DESIGN CHOICE (log 129): the second of R45 counts anew
from the raise, also where the draw still exceeds the new ceiling. -/
def newCeiling (f : Tim → Tim) (s : State) : State :=
  let t := onTim f s
  if effCeiling s < effCeiling t then onTim (fun t => { t with unattain := false, heldSince := none }) t else t

/-- BROWNOUT_CEILING_HOLD_END (R39). -/
def execBrownoutCeilingHoldEnd (s : State) : Outcome := .next (newCeiling (fun t => { t with boHold := false }) s)

/-- The operator ceiling written: judged on the value as written, then rounded down to 100 mW; 0 clears (R40). -/
def ceilingWrite (v : Word) (s : State) : Written :=
  if v = 0 || (decide (v.toNat ≥ 6000) && decide (v.toNat ≤ 15000)) then
    done (newCeiling (fun t => { t with ceilOp := BitVec.ofNat 16 (v.toNat / 100 * 100) }) s)
  else refuse stRange s

/-- OPERATOR_CEILING_WRITE (R40). -/
def execOperatorCeilingWrite (r : Req) (v : Word) (s : State) : Outcome :=
  .next (sessionWrites r (fun w => byLevel w lvEngineer (ceilingWrite v)) s)

/-! ### Barrier -/

/-- The ledger cost of a channel in mW (R47). -/
def ledgerCost (c : ChanCfg) : Nat :=
  match c.mode.toNat with
  | 1 => 12
  | 2 => 18
  | 0xB => 18
  | 3 => 22
  | 4 => if c.rate.toNat ≤ 3 then 30 else if c.rate.toNat ≤ 6 then 38 else 60
  | 5 => 28
  | 6 => 40
  | 7 => 35
  | 8 => 25
  | 9 => 55
  | 0xA => 20
  | _ => 0

/-- The ledger sum of a group of an image, its controller included (R47). -/
def groupLedger (img : Image) (g : Nat) : Nat :=
  (groupChans g).foldl (fun n i => n + ledgerCost (tget {} img.channels i)) 150

/-- The ledger sum of an image (R47). -/
def imageLedger (img : Image) : Nat := (List.range 6).foldl (fun n g => n + groupLedger img g) 0

/-- BARRIER_OVERLOAD: the 1 s average; above 5 000 mW it is posted (R50). -/
def execBarrierOverload (avg : BitVec 16) (s : State) : Outcome :=
  .next (
    let s := onTim (fun t => { t with barrierMw := avg }) s
    if avg.toNat > 5000 then post 0x0705 0 [] (onTim (fun t => { t with evt := setBit t.evt 4 }) s) else s)

/-- BARRIER_LIMIT: while the demand is 5.5 W or more the barrier limits and every input holds its value (R50, R152). -/
def barrierLimit (mw : Nat) (s : State) : State :=
  let lim := decide (mw > 5500) || (s.tim.barLimit && decide (mw ≥ 5500))
  let s := if lim && !s.tim.barLimit then
      forEach (List.range 6) (fun g s => setGrp g (fun x => { x with evt := setBit x.evt 5 }) s)
        (forEach (allChans.filter (fun i => isInput (chanMode s i))) (fun i s => setChan i (fun c => { c with value := valueWord s i }) s) s)
    else s
  let ended := s.tim.barLimit && !lim
  let s := onTim (fun t => { t with barLimit := lim }) s
  let s := if ended then forEach allChans (fun i s => setChan i (fun c => { c with value := shownWord false c }) s) s else s
  requalAll allChans s

/-- BARRIER_LIMIT (R50). -/
def execBarrierLimit (mw : Nat) (s : State) : Outcome := .next (barrierLimit mw s)

end Sys2Proof.Machine
end

