-- ==== Sys2Proof/Machine/Comparator.lean ====
section
/-! DEFINITION. The comparator (R89 to R113): verdicts on pairs of entries, stalls, completion of the compare, the digests
after a divergence, observation cycles, and the status words of the cells (R70), which follow the compare. -/

namespace Sys2Proof.Machine

/-! ### Verdicts -/

/-- Row 1 of R95: the stored bytes 0 to 15 of an entry do not match its check value. -/
def entryBroken (stored : List Byte) (check : BitVec 16) : Bool := crc16 stored != check

/-- The first matching row of R95. `seen`: an earlier pair of the cycle had a differing SIGREG. -/
def judge (seen badRail : Bool) (a b : Ckpt) : Verdict :=
  if entryBroken (ckptBytes a) a.check || entryBroken (ckptBytes b) b.check then .queueCheck
  else if badRail then .code
  else if a.kind ≠ b.kind || a.cell ≠ b.cell || a.ops ≠ b.ops then .sequence
  else if a.sigOut ≠ b.sigOut && a.kind = 0 then .inputCopy
  else if a.sigOut ≠ b.sigOut then .output
  else if a.sigReg ≠ b.sigReg && !seen then .diverged
  else .equal

/-- A fault of the comparator: CMP_FAULT, then the self-diagnosis fault (R97, R113). -/
def cmpFault (reason : Byte) (cell : BitVec 12) (why : FaultReason) (s : State) : State :=
  selfDiag why (onCmp (fun m => { m with faultReason := reason, faultCell := cell }) s)

/-- A pair judged in Checked mode (R95, R97). -/
def checkedVerdict (v : Verdict) (cell : BitVec 12) (s : State) : State :=
  match v with
  | .queueCheck => cmpFault 7 cell .queueCheck s
  | .code => cmpFault 6 cell .code s
  | .sequence => cmpFault 3 cell .sequence s
  | .inputCopy => cmpFault 1 cell .inputCopy s
  | .output => cmpFault 2 cell .output s
  | .diverged => onCmp (fun m => { m with marked := some cell.toNat }) s
  | .equal => s

/-- A mismatch of an observation cycle counted; a code, queue or stalled-compare finding blocks a later rejoin (R110, R111). -/
def observed (block : Bool) (s : State) : State :=
  onCmp (fun m => { m with obsMism := inc8 m.obsMism, obsFault := m.obsFault || block }) s

/-- A pair judged in an observation cycle (R111). -/
def observedVerdict (v : Verdict) (s : State) : State :=
  match v with
  | .equal => s
  | .queueCheck => observed true s
  | .code => observed true s
  | _ => observed false s

/-- Whether this pair or an earlier one of an observation cycle had a differing SIGREG: row 6 is met once in a cycle (R95). -/
def seenAfter (a b : Ckpt) (s : State) : Option Nat :=
  if s.cmp.mode = .rejoining && s.cmp.marked.isNone && a.sigReg != b.sigReg then some a.cell.toNat else s.cmp.marked

/-- CHECKPOINT_COMPARE: the first pair of entries leaves the queue with its verdict; the END of both lanes is judged where it
is the END of both (R96); a pair that closes a cell without a fault lets the OUTPUT frames of that cell go (R95, R313). DESIGN CHOICE
(log 135): where the two entries name different cells, CMP_FAULT shows Nib A's. -/
def compareEntries (badRail : Bool) (s : State) : State :=
  match s.cmp.queueA, s.cmp.queueB with
  | a :: qa, b :: qb =>
    let v := judge s.cmp.marked.isSome badRail a b
    let s := onCmp (fun m => { m with queueA := qa, queueB := qb, judged := m.judged + 1, marked := seenAfter a b s,
                                      endJudged := m.endJudged || (a.kind == 3 && b.kind == 3) }) s
    let s := if s.cmp.mode = .rejoining then observedVerdict v s else checkedVerdict v (a.cell.setWidth 12) s
    if s.sup.mode = .safe || s.sup.mode = .start then s
    else if a.kind = 2 || a.kind = 3 then sendClosed a.cell.toNat s else s
  | _, _ => s

/-- CHECKPOINT_COMPARE (R95). -/
def execCheckpointCompare (badRail : Bool) (s : State) : Outcome := .next (compareEntries badRail s)

/-- COMPARE_STALLED: a pair without a verdict for 10 µs (R98); in an observation cycle a failed rejoin (R110). The cell shown is
Nib A's entry's (log 135). -/
def compareStalled (s : State) : State :=
  match s.cmp.queueA, s.cmp.queueB with
  | a :: _, _ :: _ =>
    if s.cmp.mode = .rejoining then observed true s else cmpFault 8 (a.cell.setWidth 12) .stalledCompare s
  | _, _ => s

/-- COMPARE_STALLED (R98). -/
def execCompareStalled (s : State) : Outcome := .next (compareStalled s)

/-- The other lane. -/
def other : Lane → Lane
  | .a => .b
  | .b => .a

/-- LANE_STALLED: lane `l` takes no checkpoint in time after the other's END (R99). No pair is judged, so the cell shown
is a free value. DESIGN CHOICE: R110 and R111 do not list a stalled lane of an observation cycle; it counts as a mismatch and
does not block a later rejoin (log 111). -/
def laneStalled (l : Lane) (s : State) : State :=
  if (lane s (other l)).st = .ended && (lane s l).st = .running && s.cmp.mode != .split then
    if s.cmp.mode = .rejoining then observed false s
    else cmpFault 9 ((freeVal s).setWidth 12) .stalledLane (takeFree s)
  else s

/-- LANE_STALLED (R99). -/
def execLaneStalled (l : Lane) (s : State) : Outcome := .next (laneStalled l s)

/-! ### Cells: status after the compare (R70) -/

/-- The cell of what a force names; image words are counted to the root (log 26). -/
def targetCell (s : State) : ForceTarget → Nat
  | .tag n => tagCell s n
  | _ => 0

/-- Live state of a cell. -/
def cellSt (s : State) (n : Nat) : CellSt := tget {} s.cyc.cells n

/-- The bits a parent takes over from its children. -/
def aggMask : Word := 0x0000FF6E

/-- A cell's own status bits. -/
def ownStatus (s : State) (n : Nat) : Word :=
  let c := cellSt s n
  let recent := match c.divergedAt with
    | some t => decide (nowUs s < t + 3600000000)
    | none => false
  let ran := n == 0 || s.nibA.scanned.contains n || (s.cmp.mode == .split && s.nibB.scanned.contains n)
  let below := span (n + 1) s.img.cells.length
  Word.flag ran 0 ||| Word.flag (s.cyc.forces.any (fun f => targetCell s f.1 == n)) 1 |||
    Word.flag (s.cyc.consts.any (fun k => tagCell s k.1 == n)) 2 ||| Word.flag c.qbad 3 |||
    Word.flag (below.any (fun k => inCell s n k && (cellSt s k).mode != c.mode)) 4 |||
    Word.flag recent 5 ||| Word.flag c.ovr 6 ||| (c.app.setWidth 32 <<< 8)

/-- Status words from the highest cell down: each adds its bits to its parent. -/
def statusDown (s : State) : List Nat → Tab Word → Tab Word
  | [], t => t
  | n :: l, t =>
    let w := ownStatus s n ||| (tget 0 t n &&& aggMask)
    let t := tput 0 t n w
    let p := (cellCfg s n).parent
    statusDown s l (if n = 0 then t else tmod 0 t p (· ||| (w &&& aggMask)))

/-- The status word of every cell computed (R70). -/
def cellStatus (s : State) : State :=
  let t := statusDown s (List.range s.img.cells.length).reverse []
  forEach (List.range s.img.cells.length) (fun n s => setCell n (fun c => { c with status := tget 0 t n }) s) s

/-! ### END (R58, R69, R93, R313) -/

/-- Whether every lane that owns output words of station n is at END (R108, R313). -/
def ownersEnded (s : State) (n : Nat) : Bool :=
  match stnCfg s n with
  | some cfg => (List.range ((cfg.outLen + 3) / 4)).all (fun k => (lane s (ownerOf s (stnOut n + k))).st == .ended)
  | none => false

/-- In Split mode END lets the OUTPUT frames go whose words belong to lanes that are at END (R313). -/
def splitOutputs (s : State) : State :=
  if s.cmp.mode = .split then forEach ((stations s).filter (fun n => !(stn s n).outSent && ownersEnded s n)) sendOutput s else s

/-- END: the END checkpoint, and this lane is done for the cycle (R58, R69, R93). -/
def endOp (o : Blk) (s : State) : State :=
  blockOp o.l (blkWord 0x01 o.d o.a o.b) (o.d == 0 && o.a == 0 && o.b == 0) (fun s =>
    if (lane s o.l).opened.isEmpty then
      splitOutputs (checkpoint o.l 0 3 (setLane o.l (fun x => { x with st := .ended }) s))
    else selfDiag .cellOrder s) s

/-- END (R58). -/
def execEnd (o : Blk) (s : State) : Outcome := .next (endOp o s)

/-! ### Completion (R96, R100) -/

/-- Whether the compare of the cycle can complete: the END pair judged, or in Split mode both lanes at END. -/
def compareReady (s : State) : Bool :=
  if s.cmp.mode == .split then s.nibA.st == .ended && s.nibB.st == .ended
  else s.cmp.endJudged && s.cmp.queueA.isEmpty && s.cmp.queueB.isEmpty

/-- The output image as the cycle leaves it: Nib A's, or in Split mode each word from its owner (R63, R108). -/
def commitImage (s : State) : Tab Word :=
  if s.cmp.mode == .split then
    tputs 0 s.nibA.outs (s.img.outPartB.map (fun o => (o, tget 0 s.nibB.outs o)))
  else s.nibA.outs

/-- What every completed compare does: signatures and times kept, words committed (a word not written in the next cycle
keeps this value, R63), a divergence shown, an observation
cycle counted, the cells' status computed. -/
def finishCompare (s : State) : State :=
  let dt := nowUs s - s.cyc.openUs
  let us : BitVec 20 := if dt > 0xFFFFF then 0xFFFFF else BitVec.ofNat 20 dt
  let img := commitImage s
  let s : State := { s with nibA := { s.nibA with outs := img }, nibB := { s.nibB with outs := img } }
  let s := onCyc (fun c => { c with outImg := img, execLast := us, execMax := if c.execMax < us then us else c.execMax,
                                    opsLast := s.nibA.ops }) s
  let s := if s.cmp.mode = .split then s else
    onCmp (fun m => { m with sigOutA := s.nibA.sigOut, sigOutB := s.nibB.sigOut,
                             sigRegA := s.nibA.sigReg, sigRegB := s.nibB.sigReg }) s
  let s := match s.cmp.mode, s.cmp.marked with
    | .checked, some c =>
      setCell c (fun x => { x with divergedAt := some (nowUs s) }) (onCmp (fun m => { m with evt := setBit m.evt 0 }) s)
    | _, _ => s
  let s := if s.cmp.mode = .rejoining then onCmp (fun m => { m with obs := m.obs + 1 }) s else s
  cellStatus s

/-- COMPARE_COMPLETE (R96). -/
def compareComplete (s : State) : State :=
  if s.cyc.phase = .window && !s.cyc.late && compareReady s then
    onCyc (fun c => { c with phase := .compared }) (finishCompare s)
  else s

/-- COMPARE_COMPLETE (R96). -/
def execCompareComplete (s : State) : Outcome := .next (compareComplete s)

/-! ### Divergence (R100 to R103) -/

/-- The digest of a marked cell begins (R101). -/
def startDigest (s : State) : State :=
  match s.cmp.mode, s.cmp.marked with
  | .checked, some c =>
    onCmp (fun m => { m with divPend := true, divVerdict := 1, divCell := BitVec.ofNat 12 c,
                             divCycle := s.cyc.count.setWidth 32 }) s
  | _, _ => s

/-- The digest of a data range in one lane (R101). -/
def rangeDigest (x : LaneSt) (c : CellCfg) : Word := crc32cWords crcInit ((span c.lo c.hi).map (dataAt x))

/-- Whether a benign verdict now would be the ninth within an hour (R103). -/
def ninth (s : State) : Bool :=
  match s.cmp.benignAt with
  | t :: l => decide (l.length ≥ 7) && decide (nowUs s < t + 3600000000)
  | [] => false

/-- A benign divergence: posted, counted, Nib B's registers loaded from Nib A's (R102). -/
def benign (c : Nat) (s : State) : State :=
  let s := postCell 0x0201 0 c [BitVec.ofNat 32 c, s.cmp.divCycle] s
  let s := onCmp (fun m => { m with divPend := false, divVerdict := 2, evt := setBit m.evt 1, benignTotal := inc16 m.benignTotal,
                                    benignAt := (if m.benignAt.length ≥ 8 then m.benignAt.tail else m.benignAt) ++ [nowUs s] }) s
  { s with nibB := { s.nibB with g := s.nibA.g } }

/-- DATA_DIGEST_COMPLETE: equal digests are benign, but for the ninth within an hour; differing ones are a fault. -/
def digestComplete (s : State) : State :=
  if !s.cmp.divPend then s
  else
    let c := s.cmp.divCell.toNat
    let cfg := cellCfg s c
    if rangeDigest s.nibA cfg ≠ rangeDigest s.nibB cfg then
      cmpFault 4 s.cmp.divCell .dataDigest (onCmp (fun m => { m with divPend := false, divVerdict := 3 }) s)
    else if ninth s then cmpFault 5 s.cmp.divCell .persistent (onCmp (fun m => { m with divPend := false }) s)
    else benign c s

/-- DATA_DIGEST_COMPLETE (R102). -/
def execDataDigestComplete (s : State) : Outcome := .next (digestComplete s)

/-! ### Injection test and lane modes (R105, R106, R110, R111) -/

/-- A valid entry as the injection test places it: the entry of a CELLIN with both signatures at a given value. -/
def testEntry (sigOut sigReg : Word) : Ckpt := mkCkpt { sigOut := sigOut, sigReg := sigReg } 0 1

/-- The failures of the test of signature bit i: the pair of identical entries not judged equal (0x80), the pair that differs in
that bit not judged row 5 or row 6 (i). Bits 0 to 31 are SIGOUT's, 32 to 63 SIGREG's (R105). -/
def testBit (t : SelfTest) (i : Nat) : List Byte :=
  let same := testEntry 0 0
  let flip : Word := 1 <<< (i % 32)
  let other := if i < 32 then testEntry flip 0 else testEntry 0 flip
  let want := if i < 32 then Verdict.output else .diverged
  (if judge false false same same = .equal && !t.unequal.getLsbD i then [] else [0x80]) ++
  (if judge false false same other = want && !t.dead.getLsbD i then [] else [BitVec.ofNat 8 i])

/-- Bytes with bit n inverted. -/
def flipStored (l : List Byte) (n : Nat) : List Byte :=
  l.zipIdx.map (fun p => if p.2 = n / 8 then p.1 ^^^ ((1 : Byte) <<< (n % 8)) else p.1)

/-- The failure of the test of queue entry j: bit j mod 128 of its stored bytes inverted, and row 1 not flagged (R105). -/
def testPlace (t : SelfTest) (j : Nat) : List Byte :=
  let c := testEntry 0 0
  if entryBroken (flipStored (ckptBytes c) (j % 128)) c.check && !t.dead.getLsbD (0x40 + j) then [] else [BitVec.ofNat 8 (0x40 + j)]

/-- The injection test: its failures in order, by their codes in CMP_TEST (R105, R113). -/
def testFailures (t : SelfTest) : List Byte :=
  (List.range 64).flatMap (testBit t) ++ (List.range 64).flatMap (testPlace t)

/-- Whether an injection test passes: every expected flag and every "equal" verdict appears (R106). -/
def testPasses (t : SelfTest) : Bool := (testFailures t).isEmpty

/-- The result of an injection test in CMP_TEST; a failed one in CMP_FAULT, with cell 0 (R105, R106, R113). -/
def recordTest (t : SelfTest) (s : State) : State :=
  let l := testFailures t
  onCmp (fun m => { m with testDone := true, testPass := l.isEmpty, testFirst := l.headD 0xFF,
                           testMisses := BitVec.ofNat 8 (min l.length 255), testDur := t.dur,
                           faultReason := if l.isEmpty then m.faultReason else 0x0A,
                           faultCell := if l.isEmpty then m.faultCell else 0 }) s

/-- The digest of a marked cell begins, if one is marked, and the mark is used up (R101). -/
def dueDigest (s : State) : State := onCmp (fun m => { m with marked := none }) (startDigest s)

/-- A rejoin ended without success (R110, R111). -/
def rejoinFailed (block : Bool) (s : State) : State :=
  post 0x0202 0 [] (onCmp (fun m => { m with mode := .split, pending := false, rejoinAt := none, rejoinTested := false, rejoinHeld := false, rejoinDue := false,
                                             rejoinBlock := m.rejoinBlock || block, evt := setBit m.evt 4 }) s)

/-- The lane mode at a T0: an observation phase ends, or its next cycle begins (R110, R111). -/
def laneModeT0 (s : State) : State :=
  if s.cmp.mode = .rejoining then
    if s.cmp.obsMism ≠ 0 then rejoinFailed s.cmp.obsFault s
    else if s.cmp.obs.toNat ≥ 16 then
      onCmp (fun m => { m with mode := .checked, pending := false, evt := setBit m.evt 5 }) s
    else s
  else s

/-- A split taking effect; OBS and OBS_MISM go on showing the last rejoin (R110, R113). -/
def applySplit (s : State) : State := onCmp (fun m => { m with mode := .split, pending := false }) s

/-- Partition B's data range: the words of the cells of partition B (log 108). -/
def partBData (s : State) : List Nat :=
  ((s.img.cells.filter (·.partB)).flatMap (fun c => span c.lo c.hi)).filter (fun t => ((ownCell s t).map (fun c => (cellCfg s c).partB)).getD false)

/-- The copies between the lanes before observation (R111 step 4). -/
def rejoinCopy (s : State) : State :=
  let toA := (partBData s).map (fun t => (t, dataAt s.nibB t))
  let a := { s.nibA with data := tputs 0 s.nibA.data toA }
  let toB := (span s.img.varLo s.img.varHi ++ span s.img.constLo s.img.constHi).map (fun t => (t, dataAt a t))
  { s with nibA := a, nibB := { s.nibB with g := a.g, data := tputs 0 s.nibB.data toB } }

/-- Whether a rejoin that waits may go on: its partner has confirmed, or the module that accepted it has said so (R79). -/
def rejoinFree (s : State) : Bool := !s.cmp.rejoinHeld && !unconfirmedAct s .rejoin

/-- Whether a TO now is the first at which a prepared rejoin goes on (R111 step 4). -/
def rejoinReady (s : State) : Bool :=
  s.cmp.rejoinAt.any (fun t => t0Due s t) && s.cmp.rejoinTested && rejoinFree s && atGuards s

/-- A prepared rejoin begins its observation cycles (R111 steps 4 and 5). -/
def beginObservation (s : State) : State :=
  onCmp (fun m => { m with mode := .rejoining, pending := false, rejoinAt := none, rejoinDue := false, obs := 0, obsMism := 0,
                           obsFault := false }) (rejoinCopy s)

/-- At a TO whose compare is complete (R111 step 4). -/
def rejoinT0 (s : State) : State := if rejoinReady s then beginObservation s else s

/-- At an overrun TO the copies wait for the end of the late cycle, which the lanes still execute in Split mode (R74). DEDUCED:
the copies are made before the next window opens, as R111 asks (log 136). -/
def rejoinOverrun (s : State) : State := if rejoinReady s then onCmp (fun m => { m with rejoinDue := true }) s else s

/-- At the completion of a late cycle whose TO was the first of a prepared rejoin (R111 step 4). -/
def rejoinLate (s : State) : State := if s.cmp.rejoinDue then beginObservation s else s

end Sys2Proof.Machine
end

