-- ==== Sys2Proof/Machine/Channels.lean ====
section
/-! DEFINITION. The commands of the channel front ends and field groups (R153 to R182): filters, sensor supplies, output
diagnostics, PWM, test pulses, conversions, frequency inputs, shared channels, group supplies, links and maintenance. -/

namespace Sys2Proof.Machine

/-- Whether this module's stages act on the terminals: a standby's diagnostics of R158 to R163 do not apply (R172). -/
def stagesAct (s : State) : Bool := roleShown s != .standby

/-- The members of the paralleled set of a channel; the channel alone outside a set (R161). -/
def setMembers (s : State) (i : Nat) : List Nat :=
  if (chanCfg s i).par = 0 then [i]
  else (groupChans (groupOf i)).filter (fun j => (chanCfg s j).par != 0 && leadOf s j == leadOf s i)

/-- A diagnosed condition set on every member of a set, qualities looked at again (R161). -/
def onSet (i : Nat) (f : Chan → Chan) (s : State) : State :=
  let l := setMembers s i
  requalAll l (forEach l (fun j s => setChan j f s) s)

/-- Whether readback diagnostics of a channel run: not suppressed, not a standby's (R172, R176). -/
def diagnosed (s : State) (i : Nat) : Bool := stagesAct s && !(grp s (groupOf i)).suppr

/-! ### Digital inputs -/

/-- A digital input's raw and filtered states taken over. -/
def inputState (i : Nat) (raw filt : Bool) (s : State) : State :=
  let now := nowUs s
  let w := Word.flag filt 0 ||| Word.flag raw 1
  requal i (setChan i (fun c => { c with raw := raw, filt := filt, changes := if filt != c.filt then c.changes + 1 else c.changes,
                                         hasValue := true, live := w, hist := (now, w) :: pruneHist now c.hist }) s)

/-- One step of a counter filter (R155). -/
def filterStep (n : Nat) (raw : Bool) (c : Nat) (st : Bool) : Nat × Bool :=
  let c := if raw then min (c + 1) n else c - 1
  (c, if c = n then true else if c = 0 then false else st)

/-- SAFETY_INPUT_FILTER_TICK: the group controller's filter and the Quill's own, with the same N (R155, R218). -/
def filterTick (i : Nat) (raw : Bool) (s : State) : State :=
  let cfg := chanCfg s i
  if chanMode s i = 1 && cfg.safety then
    let n := cfg.filt.toNat / 65536
    let c := chan s i
    let a := filterStep n raw c.cnt c.filt
    let q := filterStep n raw c.qcnt c.qfilt
    let t := if q.2 != c.qfilt then nowUs s else c.qAt
    inputState i raw a.2 (setChan i (fun c => { c with cnt := a.1, qcnt := q.1, qfilt := q.2, qAt := t }) s)
  else s

/-- SAFETY_INPUT_FILTER_TICK (R155). -/
def execSafetyInputFilterTick (ch : Fin 96) (raw : Bool) (s : State) : Outcome := .next (filterTick ch.val raw s)

/-- DEBOUNCE_ACCEPT: the raw state, which the filtered one follows once it has held for the debounce time (R149, R154). -/
def execDebounceAccept (ch : Fin 96) (x : Debounce) (s : State) : Outcome :=
  .next (if chanMode s ch.val = 1 && !(chanCfg s ch.val).safety then
    inputState ch.val x.raw (if x.held then x.raw else (chan s ch.val).filt) s else s)

/-- SENSOR_SUPPLY_TRIP (R156). -/
def execSensorSupplyTrip (ch : Fin 96) (s : State) : Outcome :=
  .next (if (chanCfg s ch.val).supply && isInput (chanMode s ch.val) then
    requal ch.val (setChan ch.val (fun c => { c with qSupply := true, supplyOff := true }) s) else s)

/-- SENSOR_SUPPLY_RETRY: a retry that does not reach the limit ends the code (R156). -/
def execSensorSupplyRetry (ch : Fin 96) (limited : Bool) (s : State) : Outcome :=
  .next (if (chan s ch.val).supplyOff && !limited then
    requal ch.val (setChan ch.val (fun c => { c with qSupply := false, supplyOff := false }) s) else s)

/-! ### Digital outputs -/

/-- A duty command in %, clamped; a NaN is 0 (R150). -/
def clampDuty (w : Word) : Word := if fnan w then f0 else if flt w f0 then f0 else if flt f100 w then f100 else w

/-- The duty a PWM output gives: an on or off time shorter than 2 µs is 0 % or 100 % (R162). -/
def pwmDuty (cfg : ChanCfg) (w : Word) : Word :=
  let per := cfg.filt.toNat % 16777216
  let d := clampDuty w
  if (fval d).scaledLt per 2000 then f0
  else if (fval d).scaledGt per ((100 * per : Nat) - 2000) then f100 else d

/-- Whether a channel's command is on; a duty that a PWM output gives as 0 % is not (R162). -/
def cmdOn (s : State) (i : Nat) : Bool :=
  if chanMode s i = 3 then flt f0 (pwmDuty (chanCfg s i) (chan s i).cmd) else (chan s i).cmd.getLsbD 0

/-- OUTPUT_OVERLOAD_TRIP: 5 ms in limit switches the set off (R158, R161). -/
def overloadTrip (i : Nat) (s : State) : State :=
  if isSwitch (chanMode s i) && stagesAct s && (chan s i).stage then
    onSet i (fun c => { c with tripped := true, stage := false }) s
  else s

/-- OUTPUT_OVERLOAD_TRIP (R158). -/
def execOutputOverloadTrip (ch : Fin 96) (s : State) : Outcome := .next (overloadTrip ch.val s)

/-- OUTPUT_OVERLOAD_RETRY: with the command on the stage switches on again and the retry counts; with the command off
nothing happens (R158). -/
def overloadRetry (i : Nat) (limited : Bool) (s : State) : State :=
  if (chan s i).tripped && cmdOn s i && stagesAct s then
    let s := setChan i (fun c => { c with retries := inc16 c.retries }) s
    if limited then s else forEach (setMembers s i) applyOutput (onSet i (fun c => { c with tripped := false }) s)
  else s

/-- OUTPUT_OVERLOAD_RETRY (R158). -/
def execOutputOverloadRetry (ch : Fin 96) (limited : Bool) (s : State) : Outcome := .next (overloadRetry ch.val limited s)

/-- Open-load detection on: SUB[0] of a standard output; on the P side of a pair that bit numbers the pair (R159, R183). -/
def openLoadOn (c : ChanCfg) : Bool := !c.safety && c.sub.getLsbD 0

/-- OPEN_LOAD_DETECT: less than 5 mA gives the code, 5 mA or more ends it (R159). -/
def openLoad (i : Nat) (ma : BitVec 16) (s : State) : State :=
  if chanMode s i = 2 && openLoadOn (chanCfg s i) && (chan s i).stage && diagnosed s i then
    onSet i (fun c => { c with qOpen := decide (ma.toNat < 5) }) (setChan i (fun c => { c with rbCur := ma }) s)
  else s

/-- OPEN_LOAD_DETECT (R159). -/
def execOpenLoadDetect (ch : Fin 96) (ma : BitVec 16) (s : State) : Outcome := .next (openLoad ch.val ma s)

/-- A voltage in 10 mV as the signed 16-bit field of FCH_RB. -/
def voltField (v : Int) : BitVec 16 := BitVec.ofInt 16 v

/-- The SHORT latch of a pair whose channel took code 0x9 while the pair is off (R229). -/
def shortLatch (i : Nat) (s : State) : State :=
  if isPairChan s i && !(tget {} s.saf.pairs (pairOf s i)).on then
    onSaf (fun f => { f with pairs := tmod {} f.pairs (pairOf s i) (fun p =>
      { p with short := true, cntLatch := if p.short then p.cntLatch else inc16 p.cntLatch }) }) s
  else s

/-- SHORT_TO_SUPPLY_DETECT: an output commanded off that reads 11 V or more for 5 ms takes the code; 5 V or less while it is
off ends it (R160, R162). -/
def shortToSupply (i : Nat) (v : Int) (s : State) : State :=
  if (chanMode s i = 2 || chanMode s i = 3 || chanMode s i = 0xB) && !(chan s i).stage && diagnosed s i then
    let s := setChan i (fun c => { c with rbVolt := voltField v }) s
    if v ≥ 1100 && !cmdOn s i then shortLatch i (onSet i (fun c => { c with qCross := true }) s)
    else if v ≤ 500 then onSet i (fun c => { c with qCross := false }) s
    else s
  else s

/-- SHORT_TO_SUPPLY_DETECT (R160). -/
def execShortToSupplyDetect (ch : Fin 96) (v : Int) (s : State) : Outcome := .next (shortToSupply ch.val v s)

/-- PARALLEL_IMBALANCE: the set's code 0xC begins or ends (R161). -/
def execParallelImbalance (ch : Fin 96) (isOff : Bool) (s : State) : Outcome :=
  .next (if (chanCfg s ch.val).par ≠ 0 && diagnosed s ch.val then onSet ch.val (fun c => { c with qImbal := isOff }) s else s)

/-- The periods in a row whose off time read high, or, below 0, low; a reading between ends the run (R162, log 104). -/
def offRunStep (v : Int) (n : Int) : Int :=
  if v ≥ 1100 then (if n ≤ 0 then 1 else min (n + 1) 10) else if v ≤ 500 then (if n ≥ 0 then -1 else max (n - 1) (-10)) else 0

/-- Terminal A at the middle of the off time of a period: high in ten in a row gives the code, low in ten ends it (R162,
log 104). -/
def midOff (i : Nat) (v : Option Int) (s : State) : State :=
  match v with
  | none => s
  | some v =>
    if diagnosed s i then
      requal i (setChan i (fun c =>
        let n := offRunStep v c.offRun
        { c with offRun := n, rbVolt := voltField v, qCross := (c.qCross && n != -10) || n == 10 }) s)
    else s

/-- PWM_PERIOD_START: what was measured in the period just completed, and a new duty (R162). `raw` marks that a period has
begun. The outputs of a group that returns wait for the next TO (R179, R182). -/
def pwmStart (i : Nat) (on : Nat) (mid : Option Int) (s : State) : State :=
  if chanMode s i = 3 then
    let s := midOff i mid s
    let off := row1 s || !(grp s (groupOf i)).link
    let waits := waitsForTo s i
    setChan i (fun c =>
      let d := if off then f0 else if waits then c.duty else pwmDuty (chanCfg s i) c.cmd
      { c with duties := if c.raw then (c.duties ++ [on]).drop (c.duties.length + 1 - 10) else c.duties, raw := true,
               duty := d, stage := !off && !c.tripped && flt f0 d }) s
  else s

/-- PWM_PERIOD_START (R162). -/
def execPwmPeriodStart (ch : Fin 96) (x : PwmPeriod) (s : State) : Outcome :=
  .next (pwmStart ch.val x.onTenthUs x.midOffTenMilliVolt s)

/-- TEST_PULSE_START: the source's dark pulse begins (R163). -/
def execTestPulseStart (ch : Fin 96) (s : State) : Outcome :=
  .next (if chanMode s ch.val = 0xA && stagesAct s && (chan s ch.val).stage then
    setChan ch.val (fun c => { c with dark := true }) s else s)

/-- TEST_PULSE_END: what the readback saw (R163). -/
def testPulseEnd (i : Nat) (p : PulseSeen) (s : State) : State :=
  if (chan s i).dark then
    let s := setChan i (fun c => { c with dark := false }) s
    if diagnosed s i then
      requal i (setChan i (fun c => { c with qCross := p == .stayedHigh, qShort := p == .stayedLow }) s)
    else s
  else s

/-- TEST_PULSE_END (R163). -/
def execTestPulseEnd (ch : Fin 96) (p : PulseSeen) (s : State) : Outcome := .next (testPulseEnd ch.val p s)

/-! ### Analogue and frequency inputs -/

/-- CONVERSION_COMPLETE (R165). -/
def execConversionComplete (ch : Fin 96) (m : Meas) (s : State) : Outcome := .next (requal ch.val (convert ch.val m s))

/-- THERMOCOUPLE_BREAK_TEST: above 100 mV is a break (R169). -/
def execThermocoupleBreakTest (ch : Fin 96) (uv : Int) (s : State) : Outcome :=
  .next (if chanMode s ch.val = 7 || (chanMode s ch.val = 0xD && (tget {} s.boot.survey ch.val).cls == 6) then requal ch.val (setChan ch.val (fun c => { c with qOpen := decide (uv > 100000) }) s) else s)

/-- periods × 25 MHz / ticks, divided by the pulses per unit, rounded once (R171, log 18). -/
def freqWord (aux : Word) (periods ticks : Nat) : Word :=
  match fval aux with
  | .fin neg m e =>
    if m = 0 then fdiv (fofRatio ((periods * 25000000 : Nat) : Int) ticks) aux
    else
      let n : Int := ((periods * 25000000 * 2 ^ (-e).toNat : Nat) : Int)
      fofRatio (if neg then -n else n) (ticks * m * 2 ^ e.toNat)
  | _ => fdiv (fofRatio ((periods * 25000000 : Nat) : Int) ticks) aux

/-- The frequency limit of the threshold set, in Hz. -/
def freqLimit (cfg : ChanCfg) : Nat := if cfg.sub.getLsbD 1 then 50000 else 20000

/-- FREQUENCY_GATE (R171). -/
def freqGate (i periods ticks : Nat) (s : State) : State :=
  let cfg := chanCfg s i
  if chanMode s i = 8 && !cfg.sub.getLsbD 0 && ticks != 0 then
    requal i (setLive i (freqWord cfg.aux periods ticks)
      (setChan i (fun c => { c with qOver := decide (periods * 25000000 > freqLimit cfg * ticks) }) s))
  else s

/-- FREQUENCY_GATE (R171). -/
def execFrequencyGate (ch : Fin 96) (periods ticks : Nat) (s : State) : Outcome := .next (freqGate ch.val periods ticks s)

/-- FREQUENCY_TIMEOUT (R171). -/
def execFrequencyTimeout (ch : Fin 96) (s : State) : Outcome :=
  .next (if chanMode s ch.val = 8 && !(chanCfg s ch.val).sub.getLsbD 0 then
    requal ch.val (setLive ch.val f0 (setChan ch.val (fun c => { c with qOver := false }) s)) else s)

/-- PULSE_EDGE: one more rising edge, modulo 2^32 (R149, R171). -/
def execPulseEdge (ch : Fin 96) (s : State) : Outcome :=
  .next (if chanMode s ch.val = 8 && (chanCfg s ch.val).sub.getLsbD 0 then
    requal ch.val (setLive ch.val ((chan s ch.val).live + 1) s) else s)

/-! ### Channels shared by a pair -/

/-- SHARED_INPUT_TAKEOVER_CHECK: a disagreeing shared input holds its last value with code 0xE, at most 10 ms (R173). -/
def execSharedInputTakeoverCheck (ch : Fin 96) (agrees after10ms : Bool) (s : State) : Outcome :=
  .next (
    let m := chanMode s ch.val
    if (m = 4 || m = 6) && s.pst.member then
      requal ch.val (setChan ch.val (fun c =>
        if agrees || after10ms then { c with heldE := false, value := shownWord s.tim.barLimit { c with heldE := false } }
        else { c with heldE := true }) s)
    else s)

/-! ### Group supplies (R174 to R178) -/

/-- Whether an input freezes with its group's supply (R175); a survey channel with a state does too (R446). -/
def freezes (s : State) (i : Nat) : Bool :=
  chanMode s i == 1 || (chanMode s i == 0xD && ((tget {} s.boot.survey i).cls == 1 || (tget {} s.boot.survey i).cls == 2)) || (isInput (chanMode s i) && (chanCfg s i).supply)

/-- Low fault declared: inputs freeze at what they held 2 ms before, standard outputs are suppressed, and the Quill's
20 ms begin (R175 to R177). -/
def freezeGroup (g : Nat) (s : State) : State :=
  let now := nowUs s
  let s := forEach ((groupChans g).filter (freezes s)) (fun i s =>
    setChan i (fun c => { c with frozen := true, fz := valueBefore now c,
                                 value := if s.tim.barLimit || c.heldE then c.value else valueBefore now c }) s) s
  requalAll (groupChans g) (setGrp g (fun x => { x with suppr := true, sagArmed := true }) s)

/-- Low fault ended: frozen inputs take fresh values (R178). -/
def unfreezeGroup (g : Nat) (s : State) : State :=
  let s := forEach (groupChans g) (fun i s => setChan i (fun c =>
    { c with frozen := false, value := if c.frozen then shownWord s.tim.barLimit { c with frozen := false } else c.value }) s) s
  requalAll (groupChans g) (setGrp g (fun x => { x with sagArmed := false }) s)

/-- The supply level of a group after a crossing, with its sticky bits and counts (R174, R183). -/
def levelStep (e : SupplyEvent) (x : Group) : Group :=
  match e with
  | .warnOn => { x with warnOn := true, level := if x.level == .normal then .warning else x.level, evt := setBit x.evt 0,
                        cntWarn := inc16 x.cntWarn }
  | .warnOff => { x with warnOn := false, level := if x.level == .warning then .normal else x.level }
  | .faultOn => { x with level := if x.level == .missing then .missing else .fault, evt := setBit x.evt 1,
                         cntFault := if lowFault x then x.cntFault else inc16 x.cntFault }
  | .faultOff => { x with level := if x.level == .fault then (if x.warnOn then .warning else .normal) else x.level }
  | .missingOn => { x with level := .missing, evt := setBit (orBit x.evt 1 (!lowFault x)) 2,
                           cntFault := if lowFault x then x.cntFault else inc16 x.cntFault }
  | .missingOff => { x with level := if x.level == .missing then .fault else x.level }
  | .highOn => { x with high := true, evt := setBit x.evt 3 }
  | .highOff => { x with high := false }

/-- GROUP_SUPPLY_LEVEL_CHANGE: the level, its record, and what low fault does outside maintenance (R174 to R178,
R181). -/
def supplyChange (g : Nat) (e : SupplyEvent) (v a : BitVec 16) (s : State) : State :=
  let was := lowFault (grp s g)
  let s := setGrp g (fun x => levelStep e { x with volt := v, voltMin := if v < x.voltMin || x.voltMin = 0 then v else x.voltMin,
                                                   current := a }) s
  let is := lowFault (grp s g)
  let s := post 0x0601 (g + 1) [] s
  let s := if is && !was then onFch (fun f => { f with evt := setBit f.evt g }) s else s
  if (grp s g).maint then s
  else if is && !was then freezeGroup g s
  else if was && !is then unfreezeGroup g s
  else s

/-- GROUP_SUPPLY_LEVEL_CHANGE (R174). -/
def execGroupSupplyLevelChange (g : Fin 6) (e : SupplyEvent) (v a : BitVec 16) (s : State) : Outcome :=
  .next (supplyChange g.val e v a s)

/-- The pairs whose channels lie in a group (R164). -/
def pairsIn (s : State) (g : Nat) : List Nat :=
  (s.img.pairsCfg.filter (fun p => groupOf (p.2.pch - 1) == g && p.2.pch != 0)).map (·.1)

/-- A latch set on pairs: they open at once, and a latch newly set counts (R229). -/
def latchPairs (l : List Nat) (f : Pair → Pair) (s : State) : State :=
  applyOutputs (forEach l (fun p s => onSaf (fun x => { x with pairs := tmod {} x.pairs p (fun q =>
    let t := f q
    { switchPair (nowUs s) false t with cntLatch := if t = q then q.cntLatch else inc16 q.cntLatch }) }) s) s)

/-- SAG_LATCH_TIMER: 20 ms in low fault set the SAG latch on the group's pairs, on or off (R177). A blank module and
Decaf have none. -/
def sagLatch (g : Nat) (s : State) : State :=
  let x := grp s g
  if lowFault x && x.sagArmed && !x.maint && s.sup.mode != .decaf then
    let ps := pairsIn s g
    let s := setGrp g (fun x => { x with sagArmed := false, evt := orBit x.evt 6 (!ps.isEmpty) }) s
    latchPairs ps (fun p => { p with sag := true }) s
  else s

/-- SAG_LATCH_TIMER (R177). -/
def execSagLatchTimer (g : Fin 6) (s : State) : Outcome := .next (sagLatch g.val s)

/-- READBACK_DIAGNOSTICS_RESUME: 20 ms after low fault ended (R178). -/
def execReadbackDiagnosticsResume (g : Fin 6) (s : State) : Outcome :=
  .next (if (grp s g.val).suppr && !lowFault (grp s g.val) then
    requalAll (groupChans g.val) (setGrp g.val (fun x => { x with suppr := false }) s) else s)

/-! ### Couplers (R179) -/

/-- Whether the partner may take the role: it says it is ready (R277, R280). -/
def partnerMayTake (s : State) : Bool :=
  paired s && (match (partner s).hello with
    | some h => h.ready && decide (1 ≤ h.state.toNat) && decide (h.state.toNat ≤ 3)
    | none => false)

/-- GROUP_LINK_LOST: every stage of the group off, code 0xE, posted; an active module gives up the role when its partner
may take it and has that group's link (R179, R277). -/
def linkLost (g : Nat) (s : State) : State :=
  let s := setGrp g (fun x => { x with link := false, evt := setBit x.evt 4 }) s
  let s := onFch (fun f => { f with evt := setBit f.evt (16 + g) }) s
  let s := diagEvent (post 0x0603 (g + 1) [] s)
  let s := forEach (pairsIn s g) (fun p s => onSaf (fun x => { x with pairs := tmod {} x.pairs p (switchPair (nowUs s) false) }) s) s
  let s := forEach (groupChans g) applyOutput (requalAll (groupChans g) s)
  let has := match (partner s).hello with
    | some h => h.glink.getLsbD g
    | none => false
  if roleShown s = .active && partnerMayTake s && has then releaseRole 6 s else s

/-- GROUP_LINK_LOST (R179). -/
def execGroupLinkLost (g : Fin 6) (s : State) : Outcome := .next (linkLost g.val s)

/-- GROUP_LINK_RESTORE: 100 ms of valid frames. The Quill stream's loss ends; inputs return, and outputs wait for the next
TO (R179, R221). -/
def execGroupLinkRestore (g : Fin 6) (s : State) : Outcome :=
  .next (if (grp s g.val).link then setGrp g.val (fun x => { x with quillLost := false }) s else
    requalAll (groupChans g.val) (setGrp g.val (fun x => { x with link := true, quillLost := false, outWait := true }) s))

/-! ### Maintenance (R180 to R182) -/

/-- A maintenance command: refused outside service and while one of the group waits (R180). -/
def maintWrite (r : Req) (g : Fin 6) (enter : Bool) (s : State) : Written :=
  if inService s && !(grp s g.val).maintPend then
    doneBoth r (.maint g enter) (fun s => schedule (.maint g enter) (setGrp g.val (fun x => { x with maintPend := true }) s)) s
  else refuse stState s

/-- A maintenance command admitted (R180). -/
def maintCommand (r : Req) (g : Fin 6) (enter : Bool) (s : State) : State :=
  screenReq r lvEngineer false (answer r (maintWrite r g enter)) s

/-- ENTER_MAINTENANCE (R180). -/
def execEnterMaintenance (r : Req) (g : Fin 6) (s : State) : Outcome := .next (maintCommand r g true s)
/-- LEAVE_MAINTENANCE (R182). -/
def execLeaveMaintenance (r : Req) (g : Fin 6) (s : State) : Outcome := .next (maintCommand r g false s)

/-- What a channel keeps as its last-value substitute: an output its command, in a standby its partner's, an input its value (R181,
R183). -/
def keptSubst (s : State) (i : Nat) : Word :=
  if isOutput (chanMode s i) then (if roleShown s = .standby then partnerCmd s i else (chan s i).cmd) else valueWord s i

/-- Maintenance entered: the channels keep their substitutes, a frozen input's own word is its latest again, pairs take the MAINT latch (R181, R229). -/
def maintEnter (g : Nat) (s : State) : State :=
  let s := forEach (groupChans g) (fun i s => setChan i (fun c =>
    { c with subst := keptSubst s i, frozen := false, value := if c.frozen then shownWord s.tim.barLimit { c with frozen := false } else c.value }) s) s
  let s := setGrp g (fun x => { x with maint := true, maintPend := false, suppr := false, sagArmed := false }) s
  let s := post 0x0604 (g + 1) [0] s
  latchPairs (pairsIn s g) (fun p => { p with maint := true }) (requalAll (groupChans g) s)

/-- Maintenance left: fresh values; a low fault that stands acts as if declared now (R182). -/
def maintLeave (g : Nat) (s : State) : State :=
  let s := match s.fch.ses with
    | some t => if groupOf t.ch.val = g then discardTrim s else s
    | none => s
  let s := setGrp g (fun x => { x with maint := false, maintPend := false, outWait := true }) s
  let s := post 0x0604 (g + 1) [1] s
  let s := requalAll (groupChans g) s
  if lowFault (grp s g) then freezeGroup g s else s

/-- A maintenance command taking effect at its T0 (R181, R182). Entering a group that is in maintenance, or leaving one
that is not, changes nothing else. -/
def applyMaint (g : Nat) (enter : Bool) (s : State) : State :=
  if (grp s g).maint = enter then setGrp g (fun x => { x with maintPend := false }) s
  else if enter then maintEnter g s else maintLeave g s

end Sys2Proof.Machine
end

