-- ==== Sys2Proof/Machine/Current.lean ====
section
/-! DEFINITION. Current-loop outputs (R184 to R202): trims and trim sessions, the readback with its checks, and the end of a
take-over ramp. -/

namespace Sys2Proof.Machine

/-! ### Trims (R190 to R194) -/

/-- A pending trim held to ±80 µA (R191). -/
def holdTrim (ua : Int) : Int := if ua < -80 then -80 else if ua > 80 then 80 else ua

/-- The trim in use at a point. -/
def trimAt (s : State) (i : Nat) (p : TrimPoint) : Int :=
  let t := tget {} s.fch.trims i
  if t.bad then 0 else match p with | .zero => t.z | .span => t.s

/-- A trim record with one point set. -/
def withTrim (t : Trim) (p : TrimPoint) (ua : Int) : Trim :=
  let u : Trim := if t.bad then {} else t
  match p with
  | .zero => { u with z := ua }
  | .span => { u with s := ua }

/-- The trims and shunt value a module tells its partner (R199). -/
def trimsMsg (s : State) : FwdCmd := .trims s.fch.shunt (s.fch.trims.map (fun p => (p.1, (p.2.z, p.2.s))))

/-- A trim stored, posted and sent to the partner; it acts on the drive at the channel's next target (R192, R193, R199). -/
def saveTrim (i : Nat) (p : TrimPoint) (ua : Int) (s : State) : State :=
  let old := trimAt s i p
  let s := onFch (fun f => { f with trims := tmod {} f.trims i (fun t => withTrim t p ua) }) s
  let s := if chanMode s i = 9 then setChan i (fun c => { c with levt := setBit c.levt 3 }) s else s
  let pt : Word := match p with | .zero => 0 | .span => 1
  let s := post 0x0605 (i + 1) [0, pt, BitVec.ofInt 32 old, BitVec.ofInt 32 ua] s
  if paired s then forwardNow (trimsMsg s) s else s

/-- The open session's pending value stored and the session closed (R192). -/
def storeSession (s : State) : State :=
  match s.fch.ses with
  | none => s
  | some t => applyOutput t.ch.val (saveTrim t.ch.val t.point t.pending (onFch (fun f => { f with ses := none }) s))

/-- The pending value moved or set; the drive follows (R191, R192). -/
def setPending (f : Int → Int) (s : State) : State :=
  match s.fch.ses with
  | none => s
  | some t => applyOutput t.ch.val (onFch (fun x => { x with ses := some { t with pending := holdTrim (f t.pending) } }) s)

/-- A trim command of the station protocol that needs an open session. DESIGN CHOICE (log 140): the spec names no status where none
is open; the model answers "not allowed in this state". -/
def trimCommand (r : Req) (k : State → State) (s : State) : State :=
  screenReq r lvEngineer false (fun s => acceptIf r s.fch.ses.isSome stState (fun s => reply r stOk [] (k s)) s) s

/-- OPEN_TRIM: the conditions of R191. -/
def openTrim (r : Req) (ch : Fin 96) (p : TrimPoint) (s : State) : State :=
  screenReq r lvEngineer false (fun s =>
    let ok := s.sup.mode == .commissioning && (grp s (groupOf ch.val)).maint && roleShown s != .standby && s.fch.ses.isNone &&
      chanMode s ch.val == 9
    acceptIf r ok stState (fun s =>
      reply r stOk [] (applyOutput ch.val (onFch (fun f => { f with ses := some ⟨ch, p, trimAt s ch.val p⟩ }) s))) s) s

/-- OPEN_TRIM (R191). -/
def execOpenTrim (r : Req) (ch : Fin 96) (p : TrimPoint) (s : State) : Outcome := .next (openTrim r ch p s)
/-- SET_PENDING_TRIM (R191). -/
def execSetPendingTrim (r : Req) (ua : Int) (s : State) : Outcome := .next (trimCommand r (setPending (fun _ => ua)) s)
/-- STORE_TRIM (R192). -/
def execStoreTrim (r : Req) (s : State) : Outcome := .next (trimCommand r storeSession s)
/-- CLOSE_TRIM (R193). -/
def execCloseTrim (r : Req) (s : State) : Outcome := .next (trimCommand r discardTrim s)

/-- WRITE_TRIM: in Commissioning, any channel, ±80 µA (R193). -/
def writeTrim (r : Req) (ch : Fin 96) (p : TrimPoint) (ua : Int) (s : State) : State :=
  screenReq r lvEngineer false (fun s =>
    acceptIf r (s.sup.mode == .commissioning) stState (fun s =>
      acceptIf r (decide (-80 ≤ ua) && decide (ua ≤ 80)) stRange (fun s => reply r stOk [] (saveTrim ch.val p ua s)) s) s) s

/-- WRITE_TRIM (R193). -/
def execWriteTrim (r : Req) (ch : Fin 96) (p : TrimPoint) (ua : Int) (s : State) : Outcome := .next (writeTrim r ch p ua s)

/-- The trim inputs act by their filtered levels: one that is low alone moves the pending value by 1 µA, both low move
nothing, and a stuck input is ignored (R192, R194, log 76). -/
def trimMove (s : State) : State :=
  let up := s.fch.pinUp && !s.fch.stuckUp
  let dn := s.fch.pinDn && !s.fch.stuckDn
  if up && !dn then setPending (· + 1) s else if dn && !up then setPending (· - 1) s else s

/-- The filtered levels of the two moving inputs. -/
def trimPins (up dn : Bool) (s : State) : State := onFch (fun f => { f with pinUp := up, pinDn := dn }) s

/-- The filtered levels of the three inputs (R192, R202). -/
def trimLevels (up dn set : Bool) (s : State) : State := onFch (fun f => { f with pinSet := set }) (trimPins up dn s)

/-- A press of the storing input, unless it is stuck (R192, R194). -/
def trimSet (s : State) : State :=
  let s := onFch (fun f => { f with pinSet := true }) s
  if s.fch.stuckSet then s else storeSession s

/-- TRIM_UP_PRESS: the input's filtered level changes. A press, low, moves by +1 µA while TRIM_DN_N is not low too (R192). -/
def execTrimUpPress (x : TrimPress) (s : State) : Outcome :=
  .next (let t := trimLevels x.low x.otherLow x.setLow s; if x.low && !s.fch.stuckUp then trimMove t else t)
/-- TRIM_DN_PRESS: the same of the other input, −1 µA while TRIM_UP_N is not low too (R192). -/
def execTrimDnPress (x : TrimPress) (s : State) : Outcome :=
  .next (let t := trimLevels x.otherLow x.low x.setLow s; if x.low && !s.fch.stuckDn then trimMove t else t)
/-- TRIM_REPEAT: the held press again (R192). -/
def execTrimRepeat (upLow dnLow : Bool) (s : State) : Outcome := .next (trimMove (trimPins upLow dnLow s))
/-- TRIM_SET_PRESS (R192). The input reads released again with the next level change of the three inputs (log 139). -/
def execTrimSetPress (s : State) : Outcome := .next (trimSet s)

/-- A trim input marked stuck and low, or free again and high. -/
def setStuck (pin : TrimPin) (b : Bool) (f : Fch) : Fch :=
  match pin with
  | .up => { f with stuckUp := b, pinUp := b }
  | .dn => { f with stuckDn := b, pinDn := b }
  | .set => { f with stuckSet := b, pinSet := b }

/-- TRIM_INPUT_STUCK: an input low for more than 10 s is ignored and posted; high for 100 ms ends that (R194). -/
def execTrimInputStuck (x : TrimHeld) (s : State) : Outcome :=
  .next (if x.freed then onFch (setStuck x.pin false) s else post 0x0606 0 [] (onFch (setStuck x.pin true) s))

/-- TRIM_SESSION_TIMEOUT (R193). -/
def execTrimSessionTimeout (s : State) : Outcome := .next (discardTrim s)

/-! ### Readback (R195 to R197, R482) -/

/-- The runs of R196, R197 and R482 after one conversion against a clamped command. -/
def readbackRuns (c : Chan) (ua : Int) : Chan :=
  let v := fval c.lclamp
  let low := v.scaledGt 1000 (ua + 200)
  let high := v.scaledLt 1000 (ua - 200)
  let near := !v.scaledGt 1000 (ua + 100) && !v.scaledLt 1000 (ua - 100)
  { c with lmean := ua, hasValue := true,
           lrunLow := if low then c.lrunLow + 1 else 0, lrunHigh := if high then c.lrunHigh + 1 else 0,
           lrunIn := if near then c.lrunIn + 1 else 0,
           lrunOpen := if ua < 500 then c.lrunOpen + 1 else 0, lrunLive := if ua < 500 then 0 else c.lrunLive + 1 }

/-- The codes after one conversion: compliance lost, overcurrent, the open-loop condition (R196, R197). -/
def readbackCodes (c : Chan) : Chan :=
  let compl := (c.qCompl && decide (c.lrunIn < 100)) || decide (c.lrunLow ≥ 50)
  let past := (c.lover && decide (c.lrunIn < 100)) || decide (c.lrunHigh ≥ 50)
  let judged := compl && !(fval c.lclamp).scaledLt 10 35
  let opened := (c.lopen && compl && decide (c.lrunLive < 100)) || (judged && decide (c.lrunOpen ≥ 50))
  { c with qCompl := compl, lover := past, lopen := opened,
           levt := orBit (orBit (orBit c.levt 0 (compl && !c.qCompl)) 1 (past && !c.lover)) 2 (opened && !c.lopen) }

/-- READBACK_CONVERSION: a standby measures its partner's shunt and judges no drive of its own (R195, R199). -/
def readback (i : Nat) (ua : Int) (s : State) : State :=
  if chanMode s i = 9 then
    if stagesAct s then requal i (setChan i (fun c => readbackCodes (readbackRuns { c with lpartner := false } ua)) s)
    else requal i (setChan i (fun c => { c with lmean := ua, hasValue := true, lpartner := true }) s)
  else s

/-- READBACK_CONVERSION (R195). -/
def execReadbackConversion (ch : Fin 96) (ua : Int) (s : State) : Outcome := .next (readback ch.val ua s)

/-- TAKEOVER_RAMP_END: the target is reached (R200). -/
def execTakeoverRampEnd (ch : Fin 96) (s : State) : Outcome := .next (setChan ch.val (fun c => { c with lramp := false }) s)

/-- The mean readbacks of the current-loop outputs kept, and whether they were good: those before the old active module released its
drive (R200, R276). -/
def hearMeans (s : State) : State :=
  let l := (allChans.filter (fun i => chanMode s i = 9)).map (fun i => (i, ((chan s i).lmean, qualGood s i)))
  onPst (fun p => { p with heard := l }) s

/-- What was kept of a channel, or its mean readback now. -/
def heardAt (s : State) (i : Nat) : Int × Bool := (iget s.pst.heard i).getD ((chan s i).lmean, qualGood s i)

/-- The start of a take-over ramp from the readback of the partner's drive (R200). DESIGN CHOICE (log 141): TAKEOVER of FCH_L_EVT is
set for every current-loop output, also with RAMP = 0, where the start value and the target are one step apart and no ramp runs. -/
def startRamp (i : Nat) (s : State) : State :=
  if chanMode s i = 9 then
    let h := heardAt s i
    let m := maOf h.1
    let good := h.2 && !flt m ma3_5
    let w := if !good then ma3_5 else if flt ma21_5 m then ma21_5 else m
    setChan i (fun c => { c with lramp := (chanCfg s i).ramp != 0, lrampFrom := w, lrampAt := nowUs s, lpartner := false, levt := setBit c.levt 5,
                                 lrunLow := 0, lrunHigh := 0, lrunIn := 0, lrunOpen := 0, lrunLive := 0 }) s
  else s

end Sys2Proof.Machine
end

