-- ==== Sys2Proof/Machine/Quill.lean ====
section
/-! DEFINITION. The Quill (R203 to R239): slots, their causes of demand and transitions, discrepancy, test pulses, reset
demands, safe output pairs with their latches and tests, and safe brake control. -/

namespace Sys2Proof.Machine

/-! ### Inputs of a slot -/

/-- The Quill's filtered state of a channel numbered 1 to 96; a channel that is not named reads off. -/
def qin (s : State) (ch : Nat) : Bool := ch != 0 && (chan s (ch - 1)).qfilt

/-- The input channels that a slot's type calls for, with their run states (R207). -/
def slotInputs (c : SlotCfg) : List (Nat × Bool) :=
  let n := c.nch.toNat
  match c.typ.toNat with
  | 0 => (c.ch1, true) :: (if n ≥ 2 then [(c.ch2, true)] else [])
  | 1 => (c.ch1, true) :: (if n ≥ 2 then [(c.ch2, !c.antiv)] else [])
  | 2 => [(c.ch1, true), (c.ch2, false), (c.ch3, true), (c.ch4, false)]
  | 3 => [(c.ch1, true), (c.ch2, true)]
  | _ => []

/-- Automatic reset; an emergency stop never has it (R215). -/
def autoReset (c : SlotCfg) : Bool := c.auto && c.typ != 0

/-- Whether an input of a slot is in its run state. -/
def inRunState (s : State) (p : Nat × Bool) : Bool := qin s p.1 == p.2

/-- Every input in its run state. -/
def allRun (s : State) (c : SlotCfg) : Bool := (slotInputs c).all (inRunState s)
/-- Every input in its demand state. -/
def allDemandState (s : State) (c : SlotCfg) : Bool := (slotInputs c).all (fun p => !inRunState s p)

/-- Whether the first two of a list of inputs disagree (R219). -/
def disagree2 (s : State) : List (Nat × Bool) → Bool
  | a :: b :: _ => inRunState s a != inRunState s b
  | _ => false

/-- Whether a channel pair of a slot disagrees (R219). -/
def disagrees (s : State) (c : SlotCfg) : Bool :=
  disagree2 s (slotInputs c) || disagree2 s ((slotInputs c).drop 2)

/-- The pairs that a slot names. -/
def slotPairs (c : SlotCfg) : List Nat := (List.range 24).filter (fun p => c.pairs.getLsbD p)

/-- The channels a slot uses, CH1 to CH4, as indices. -/
def slotChans (c : SlotCfg) : List Nat := ([c.ch1, c.ch2, c.ch3, c.ch4].filter (· != 0)).map (· - 1)

/-! ### Brake ages (R234) -/

/-- BRKAGE of a slot in minutes. -/
def brakeAge (s : State) (n : Nat) : Nat := tget 0 s.saf.brkAge n
/-- TEST_DUE: the interval has passed, or the slot has no standstill input (R232, R234). -/
def testDue (s : State) (n : Nat) : Bool :=
  let c := slotCfg s n
  c.typ == 4 && (c.ch2 == 0 || decide (brakeAge s n ≥ 60 * c.interval))
/-- TEST_OVERDUE: interval and grace have passed (R234). -/
def testOverdue (s : State) (n : Nat) : Bool :=
  let c := slotCfg s n
  c.typ == 4 && decide (brakeAge s n ≥ 60 * (c.interval + c.grace))

/-! ### Causes of demand -/

/-- Whether the Quill evaluates its slots (R206). -/
def quillActive (s : State) : Bool := !s.sup.blank && (inService s || s.sup.mode == .safe)

/-- Whether a trigger slot of a brake slot is not Released (R221, R230). -/
def triggered (s : State) (c : SlotCfg) : Bool :=
  c.typ == 4 && (List.range 16).any (fun t => c.trig.getLsbD t && (tget {} s.saf.slots t).st != .released)

/-- The causes of R221 other than the triggers. -/
def otherExt (s : State) (n : Nat) : Bool :=
  let c := slotCfg s n
  let x := tget {} s.saf.slots n
  s.sup.mode == .hold ||
  (slotChans c).any (fun i => (grp s (groupOf i)).maint || (grp s (groupOf i)).quillLost) ||
  (c.typ == 4 && (x.testing || x.testFailed || (testOverdue s n && x.st != .released)))

/-- Any cause of demand (R212). -/
def causeOf (s : State) (n : Nat) : Bool :=
  otherExt s n || triggered s (slotCfg s n) || !allRun s (slotCfg s n)

/-! ### Transitions -/

/-- The four channels of a two-hand slot at rest (R217). -/
def atRest (s : State) (c : SlotCfg) : Bool := !qin s c.ch1 && qin s c.ch2 && !qin s c.ch3 && qin s c.ch4
/-- Button 1 or 2 of a two-hand slot actuated (R217). -/
def button (s : State) (c : SlotCfg) (first : Bool) : Bool :=
  if first then qin s c.ch1 && !qin s c.ch2 else qin s c.ch3 && !qin s c.ch4

/-- A two-hand slot that is Demanded: rearming, the first button, release by the second (R217). -/
def twoHand (n : Nat) (blocked : Bool) (s : State) : State :=
  let c := slotCfg s n
  let x := tget {} s.saf.slots n
  if atRest s c then setSlot n (fun x => { x with rearmed := true, firstButton := false, syncMiss := false }) s
  else if !x.rearmed then s
  else if button s c true && button s c false then
    (if blocked then setSlot n (fun x => { x with rearmed := false, firstButton := false }) s
     else slotTo n .released (fun x => { x with rearmed := false, firstButton := false }) s)
  else if button s c true || button s c false then setSlot n (fun x => { x with firstButton := true }) s
  else s

/-- The longest time from the filters of a slot's inputs to its evaluation as Demanded, in 10 µs (R236, R239): from the first of its
inputs that reached its demand state (log 63). -/
def noteResponse (c : SlotCfg) (s : State) : State :=
  let ts := ((slotInputs c).filter (fun p => !inRunState s p)).map (fun p => nowUs s - (chan s (p.1 - 1)).qAt)
  onSaf (fun f => { f with rspMax := max16 f.rspMax (sat16 (ts.foldl max 0 / 10)) }) s

/-- One slot evaluated (R212 to R221). -/
def evalSlot (n : Nat) (s : State) : State :=
  let c := slotCfg s n
  let other := otherExt s n
  let trig := triggered s c
  let dem := allDemandState s c
  let cause := other || trig || !allRun s c
  let s := setSlot n (fun x => { x with ext := other || trig, startupPend := x.startupPend && !dem }) s
  let x := tget {} s.saf.slots n
  match x.st with
  | .fault =>
    setSlot n (fun x => { x with
      allDemand := x.allDemand || dem
      missed := if dem then [] else x.missed
      crossed := if dem then 0 else x.crossed }) s
  | .demanded =>
    if c.typ = 2 then twoHand n (other || x.delaying) s
    else if cause || x.startupPend || x.delaying then s
    else slotTo n (if autoReset c then .released else .awaiting) id s
  | _ =>
    if cause then
      let s := if allRun s c then s else noteResponse c s
      demandSlot n (if c.typ = 4 then !other else true) s
    else s

/-- A slot put in Fault: no off delay (R211, R220). A two-hand slot rearms only from rest (R217). DESIGN CHOICE (log 144): a brake
test that runs ends without a verdict: nothing is posted, TEST_FAILED stays as it is. -/
def slotFault (n : Nat) (code : Byte) (s : State) : State :=
  let dem := allDemandState s (slotCfg s n)
  if (tget {} s.saf.slots n).st = .fault then s
  else slotTo n .fault (fun x => { x with fault := code, delaying := false, allDemand := dem, testing := false, rearmed := false, firstButton := false,
                                          cntFault := inc8 x.cntFault }) s

/-! ### Quill enables -/

/-- Whether a slot holds its pairs enabled: Released or in its off delay, but not while its brake test runs (R213, R233). -/
def holdsEnabled (x : Slot) : Bool := (x.st == .released || x.delaying) && !x.testing

/-- Any latch of R229. -/
def latched (p : Pair) : Bool := p.sag || p.maint || p.edm || p.stuck || p.short

/-- QEN of a pair (R206, R208, R213): every slot that names it holds it enabled, and at least one names it. -/
def qenOf (s : State) (p : Nat) : Bool :=
  let names := s.img.slotsCfg.filter (fun c => c.2.pairs.getLsbD p)
  quillActive s && !s.saf.tickFault && drives s && !latched (tget {} s.saf.pairs p) &&
    !names.isEmpty && names.all (fun c => holdsEnabled (tget {} s.saf.slots c.1))

/-- The Quill enables brought up to date: what falls opens at once, what rises waits for a TO (R205). -/
def refreshQen (s : State) : State :=
  let s := forEach (List.range 24) (fun p s =>
    let q := qenOf s p
    onSaf (fun f => { f with pairs := tmod {} f.pairs p (fun x => { x with qen := q }) }) s) s
  applyOutputs (openPairs s)

/-- The slots in the order in which they are evaluated: brake slots after their triggers. -/
def slotOrder (s : State) : List Nat :=
  (s.img.slotsCfg.filter (fun c => c.2.typ != 4)).map (·.1) ++ (s.img.slotsCfg.filter (fun c => c.2.typ == 4)).map (·.1)

/-- The instant at which a stuck reset input began to read off (R224). -/
def stuckStep (n : Nat) (s : State) : State :=
  let c := slotCfg s n
  let x := tget {} s.saf.slots n
  if !x.rstStuck then s
  else if qin s c.rst then setSlot n (fun x => { x with rstOffAt := none }) s
  else match x.rstOffAt with
    | none => setSlot n (fun x => { x with rstOffAt := some (nowUs s) }) s
    | some t => if nowUs s ≥ t + 100000 then setSlot n (fun x => { x with rstStuck := false, rstOffAt := none }) s else s

/-! ### The brake test (R232, R233) -/

/-- Whether a brake test is accepted (R232). DESIGN CHOICE (log 143): one asked for while a test runs is refused. -/
def brakeTestOk (s : State) (n : Nat) : Bool :=
  let c := slotCfg s n
  let x := tget {} s.saf.slots n
  quillActive s && c.typ == 4 && (iget s.img.slotsCfg n).isSome && x.st != .fault && !x.testing && c.ch2 != 0 && qin s c.ch2 &&
    (c.ch1 == 0 || qin s c.ch1) &&
    (slotPairs c).all (fun p => let q := tget {} s.saf.pairs p; !q.on && decide (q.offAt + 20000 * c.tfb ≤ nowUs s))

/-- A brake test begins: without a CH3 input its time starts now (R233). -/
def brakeTestStart (n : Nat) (s : State) : State :=
  let c := slotCfg s n
  refreshQen (evalSlot n (setSlot n (fun x => { x with testing := true, torque := c.ch3 == 0 }) s))

/-- A brake test ends (R233). -/
def brakeTestDone (n : Nat) (pass : Bool) (s : State) : State :=
  let s := setSlot n (fun x => { x with testing := false, torque := false, testFailed := !pass }) s
  let s := if pass then onSaf (fun f => { f with brkAge := tput 0 f.brkAge n 0 }) s else s
  post 0x0304 n [if pass then 0 else 1] s

/-- A running brake test looked at: torque begins the test time, and the first off state of the standstill input fails
it (R233). -/
def brakeTestStep (n : Nat) (s : State) : State :=
  let c := slotCfg s n
  let x := tget {} s.saf.slots n
  if !x.testing then s
  else
    let t := x.torque || qin s c.ch3
    let s := setSlot n (fun x => { x with torque := t }) s
    if t && !qin s c.ch2 then brakeTestDone n false s else s

/-- QUILL_EVALUATION: every slot, then the enables (R206, R212). -/
def quillEvaluation (s : State) : State :=
  if quillActive s then
    refreshQen (forEach (slotOrder s) (fun n s => evalSlot n (brakeTestStep n (stuckStep n s))) s)
  else refreshQen s

/-- QUILL_EVALUATION (R212). -/
def execQuillEvaluation (s : State) : Outcome := .next (quillEvaluation s)

/-- An event of a slot that only a configured slot of an evaluating Quill has; the enables follow. -/
def slotEvent (n : Nat) (ok : SlotCfg → Slot → Bool) (f : State → State) (s : State) : State :=
  match iget s.img.slotsCfg n with
  | none => s
  | some c => if quillActive s && ok c (tget {} s.saf.slots n) then refreshQen (f s) else s

/-- DISCREPANCY_TIMEOUT (R219). -/
def execDiscrepancyTimeout (n : Fin 16) (s : State) : Outcome :=
  .next (slotEvent n.val (fun c _ => c.typ != 4 && disagrees s c) (slotFault n.val 0x01) s)

/-- SAFETY_OFF_DELAY_END: the pairs are disabled, and the slot follows its transitions again (R220, R230). -/
def execSafetyOffDelayEnd (n : Fin 16) (s : State) : Outcome :=
  .next (slotEvent n.val (fun _ x => x.delaying) (fun s => evalSlot n.val (refreshQen (setSlot n.val (fun x => { x with delaying := false }) s))) s)

/-- TWO_HAND_SYNC_MISS: the second button came too late (R217). -/
def execTwoHandSyncMiss (n : Fin 16) (s : State) : Outcome :=
  .next (slotEvent n.val (fun c x => c.typ == 2 && x.st == .demanded && x.firstButton)
    (setSlot n.val (fun x => { x with syncMiss := true, rearmed := false, firstButton := false, syncCnt := x.syncCnt + 1 })) s)

/-- Whether a run of at least 20 low samples begins within the first `n` samples; `prev` is the sample before. -/
def lowRunFrom (n : Nat) (prev : Bool) : List Bool → Bool
  | [] => false
  | b :: t =>
    match n with
    | 0 => false
    | k + 1 => (prev && !b && decide (((b :: t).takeWhile (!·)).length ≥ 20)) || lowRunFrom k b t

/-- Whether the samples from a source's pulse start pass the check of R222: 20 low samples in a row begin within 150 µs of
it, and the input reads high again within 150 µs of the pulse's end, 400 µs after its start. -/
def pulseSeen (raw : List Bool) : Bool := lowRunFrom 16 true raw && ((raw.take 56).drop 40).any id

/-- CH1 to CH4 of a slot, and the sources named for them, numbered 1 to 96. -/
def slotChan (c : SlotCfg) (k : Fin 4) : Nat × Nat :=
  match k with
  | 0 => (c.ch1, c.tps1)
  | 1 => (c.ch2, c.tps2)
  | 2 => (c.ch3, c.tps3)
  | 3 => (c.ch4, c.tps4)

/-- Whether the pulses on an input are checked: it names a source and is in its run state with its contact closed (R222, log
106). DESIGN CHOICE (log 142): the inputs of a safe brake control slot have no run state, and none is checked. -/
def pulseChecked (s : State) (c : SlotCfg) (k : Fin 4) : Bool :=
  (slotChan c k).2 != 0 && qin s (slotChan c k).1 && (slotInputs c).any (fun p => p.1 == (slotChan c k).1 && p.2)

/-- The named source's pulse on an input: a second failure in a row is code 0x02 (R223). -/
def ownPulse (n : Nat) (k : Nat) (ok : Bool) (s : State) : State :=
  let m := if ok then 0 else tget 0 (tget {} s.saf.slots n).missed k + 1
  let s := setSlot n (fun x => { x with missed := tput 0 x.missed k (min m 2) }) s
  if m ≥ 2 then slotFault n 0x02 s else s

/-- Another source's pulse on an input: 20 low samples that begin inside it are code 0x03 (R223). -/
def otherPulse (n : Nat) (k : Nat) (low : Bool) (s : State) : State :=
  let b : BitVec 4 := 1 <<< k
  let s := setSlot n (fun x => { x with crossed := if low then x.crossed ||| b else x.crossed &&& ~~~b }) s
  if low then slotFault n 0x03 s else s

/-- A period of the named source in which its pulse is not checked ends a run of failures (R222, R223). -/
def periodUnchecked (n : Nat) (p : PulseSamples) (s : State) : State :=
  let c := slotCfg s n
  if p.source.val + 1 = (slotChan c p.input).2 && !pulseChecked s c p.input && (tget {} s.saf.slots n).st != .fault then
    setSlot n (fun x => { x with missed := tput 0 x.missed p.input.val 0 }) s
  else s

/-- TEST_PULSE_CHECK: one dark pulse on the raw samples of one input (R222, R223). -/
def testPulseCheck (n : Nat) (p : PulseSamples) (s : State) : State :=
  slotEvent n (fun c _ => pulseChecked s c p.input && chanMode s p.source.val == 0xA) (fun s =>
    if p.source.val + 1 = (slotChan (slotCfg s n) p.input).2 then ownPulse n p.input.val (pulseSeen p.raw) s
    else otherPulse n p.input.val (lowRunFrom 40 true p.raw) s) (periodUnchecked n p s)

/-- TEST_PULSE_CHECK (R223). -/
def execTestPulseCheck (n : Fin 16) (p : PulseSamples) (s : State) : Outcome := .next (testPulseCheck n.val p s)

/-! ### Reset demands (R214, R224, R225) -/

/-- The slots that name a channel index as reset input. -/
def resetsOn (s : State) (i : Nat) : List Nat := (s.img.slotsCfg.filter (fun c => c.2.rst == i + 1)).map (·.1)

/-- Whether a fault's cause has ended (R212, R219, R223, R231). -/
def faultOver (s : State) (n : Nat) : Bool :=
  let c := slotCfg s n
  let x := tget {} s.saf.slots n
  match x.fault.toNat with
  | 1 => !disagrees s c
  | 2 => x.missed == []
  | 3 => x.crossed == 0
  | 4 => c.ch1 == 0 || qin s c.ch1
  | _ => true

/-- A reset demand on one slot (R212): a cause of demand wins, and a press that comes too early is not stored. -/
def resetSlot (n : Nat) (s : State) : State :=
  let c := slotCfg s n
  let x := tget {} s.saf.slots n
  let c4 := c.typ == 4 || x.allDemand || allDemandState s c
  match x.st with
  | .awaiting => if autoReset c || causeOf s n then s else slotTo n .released id s
  | .fault => if c4 && faultOver s n then slotTo n .demanded (fun x => { x with fault := 0, allDemand := false, missed := [], crossed := 0, rearmed := false,
                                                                                                            firstButton := false }) s else s
  | _ => s

/-- The latches of a pair that a reset demand clears now (R229). -/
def clearLatches (p : Nat) (s : State) : State :=
  let c := (iget s.img.pairsCfg p).getD {}
  let g := grp s (groupOf (c.pch - 1))
  let shortOver := qualCode s (c.pch - 1) != 9 && qualCode s (c.mch - 1) != 9
  let edmOver := qin s c.edmch
  onSaf (fun f => { f with pairs := tmod {} f.pairs p (fun x =>
    { x with sag := x.sag && lowFault g, maint := x.maint && g.maint, short := x.short && !shortOver,
             edm := x.edm && !edmOver }) }) s

/-- RESET_DEMAND: the falling edge of a press of 50 ms to 3 s acts on every slot that names the input; a longer press is
counted (R224, R225). -/
def resetDemand (i : Nat) (ms : Nat) (s : State) : State :=
  let all := resetsOn s i
  let ns := all.filter (fun n => !(tget {} s.saf.slots n).rstStuck)
  if !quillActive s || ms < 50 then s
  else if ms > 3000 then forEach all (fun n s => setSlot n (fun x => { x with cntLong := inc8 x.cntLong }) s) s
  else
    let s := forEach (ns.flatMap (fun n => slotPairs (slotCfg s n))) clearLatches s
    refreshQen (forEach ns resetSlot s)

/-- RESET_DEMAND (R224). -/
def execResetDemand (ch : Fin 96) (ms : Nat) (s : State) : Outcome := .next (resetDemand ch.val ms s)

/-- RESET_INPUT_HELD_LONG: on for longer than 10 s (R224). -/
def execResetInputHeldLong (ch : Fin 96) (s : State) : Outcome :=
  .next (forEach (resetsOn s ch.val) (fun n s => setSlot n (fun x => { x with rstStuck := true, rstOffAt := none }) s) s)

/-! ### Pairs -/

/-- The settings of pair p. -/
def pairCfg (s : State) (p : Nat) : PairCfg := (iget s.img.pairsCfg p).getD {}

/-- A pair's state changed. -/
def setPair (p : Nat) (f : Pair → Pair) (s : State) : State := onSaf (fun x => { x with pairs := tmod {} x.pairs p f }) s

/-- SWITCH_OFF_TEST: one switch of a pair opened for 150 µs. The readback of its terminal, in 10 mV, must fall to 5 V or below
on the P side, rise to 11 V or above on the M side; two failures of one switch in a row are STUCK (R226, R227). -/
def switchOffTest (p : Nat) (side : Side) (v : Int) (s : State) : State :=
  let changed := match side with
    | .p => decide (v ≤ 500)
    | .m => decide (v ≥ 1100)
  if (tget {} s.saf.pairs p).on && (pairCfg s p).stest then
    let s := setPair p (fun x => match side with
      | .p => { x with failP := if changed then 0 else x.failP + 1 }
      | .m => { x with failM := if changed then 0 else x.failM + 1 }) s
    let x := tget {} s.saf.pairs p
    if x.failP ≥ 2 || x.failM ≥ 2 then
      refreshQen (latchPairs [p] (fun x => { x with stuck := true }) (post 0x0302 p [] s))
    else s
  else s

/-- SWITCH_OFF_TEST (R226). -/
def execSwitchOffTest (p : Fin 24) (side : Side) (v : Int) (s : State) : Outcome := .next (switchOffTest p.val side v s)

/-- EDM_FAULT latched and posted (R228). -/
def edmFault (p : Nat) (s : State) : State := latchPairs [p] (fun x => { x with edm := true }) (post 0x0303 p [] s)

/-- EDM_TIMEOUT: the EDM input has not followed the pair (R228). -/
def edmTimeout (p : Nat) (s : State) : State :=
  let c := pairCfg s p
  if c.edmch != 0 && qin s c.edmch == (tget {} s.saf.pairs p).on then
    refreshQen (edmFault p s)
  else s

/-- EDM_TIMEOUT (R228). -/
def execEdmTimeout (p : Fin 24) (s : State) : Outcome := .next (edmTimeout p.val s)

/-- What a pair needs beside QEN and its latches, with LEN and REQ as last released (R203, R204). -/
def pairMay (s : State) (p : Nat) (len req : Bool) : Bool :=
  let g := grp s (groupOf ((pairCfg s p).pch - 1))
  len && req && drives s && !row1 s && !row3 s && g.link && !g.quillLost

/-- A pair at a TO: LEN and REQ are what is released there, and it turns on when all four hold and no latch stands (R203 to
R205). One that would turn on with its EDM input off stays off and takes EDM_FAULT (R228). -/
def pairAtTo (p : Nat) (s : State) : State :=
  let c := pairCfg s p
  let len := tget 0 s.cyc.released (0x60 + p) != 0
  let req := (tget 0 s.cyc.released (c.pch - 1)).getLsbD 0
  let may := pairMay s p len req
  let x := tget {} s.saf.pairs p
  let edmOff := c.edmch != 0 && !qin s c.edmch
  let wants := x.qen && may && !latched x
  let now := nowUs s
  let on := wants && (x.on || !edmOff)
  let s := setPair p (fun x => { switchPair now on x with len := len, req := req, cntOn := if on && !x.on then inc16 x.cntOn else x.cntOn }) s
  if wants && !x.on && edmOff then edmFault p s else s

/-- Every configured pair at a TO. -/
def pairsAtTo (s : State) : State := forEach (s.img.pairsCfg.map (·.1)) pairAtTo s

/-! ### Safe brake control (R230 to R234) -/

/-- BRAKE_FEEDBACK_TIMEOUT: T_FB after a switching the feedback has not followed (R231). -/
def brakeFeedback (n : Nat) (s : State) : State :=
  slotEvent n (fun c _ => c.typ == 4 && c.ch1 != 0) (fun s =>
    let c := slotCfg s n
    let on := (slotPairs c).any (fun p => (tget {} s.saf.pairs p).on)
    if on && qin s c.ch1 then slotFault n 0x05 s
    else if !on && !qin s c.ch1 then slotFault n 0x04 s
    else s) s

/-- BRAKE_FEEDBACK_TIMEOUT (R231). -/
def execBrakeFeedbackTimeout (n : Fin 16) (s : State) : Outcome := .next (brakeFeedback n.val s)

/-- BRAKE_TEST: the station protocol command (R232). -/
def execBrakeTest (r : Req) (n : Fin 16) (s : State) : Outcome :=
  .next (screenReq r lvOperate false (fun s =>
    acceptIf r (brakeTestOk s n.val) stState (fun s => reply r stOk [] (brakeTestStart n.val s)) s) s)

/-- BRAKE_TEST_EDGE: a rising edge on CH4; one refused is counted (R232). -/
def execBrakeTestEdge (n : Fin 16) (s : State) : Outcome :=
  .next (slotEvent n.val (fun c _ => c.typ == 4 && c.ch4 != 0) (fun s =>
    if brakeTestOk s n.val then brakeTestStart n.val s else setSlot n.val (fun x => { x with refused := x.refused + 1 }) s) s)

/-- BRAKE_TORQUE_TIMEOUT: no torque within 5 s fails the test (R233). -/
def execBrakeTorqueTimeout (n : Fin 16) (s : State) : Outcome :=
  .next (slotEvent n.val (fun _ x => x.testing && !x.torque) (brakeTestDone n.val false) s)

/-- BRAKE_TEST_END: T_TEST has passed with the standstill input on, or not (R233). -/
def execBrakeTestEnd (n : Fin 16) (s : State) : Outcome :=
  .next (slotEvent n.val (fun _ x => x.testing && x.torque) (fun s => brakeTestDone n.val (qin s (slotCfg s n.val).ch2) s) s)

/-- One minute of operating time of a brake slot; reaching the interval posts "brake test due" (R234). DESIGN CHOICE (log 145): an age
that a new image sets past the interval, or that passes it in Decaf, posts nothing. -/
def ageSlot (n : Nat) (s : State) : State :=
  let a := brakeAge s n + 1
  let s := onSaf (fun f => { f with brkAge := tput 0 f.brkAge n (min a 0xFFFFFFFF) }) s
  if (iget s.img.slotsCfg n).isSome && a = 60 * (slotCfg s n).interval then post 0x0304 n [2] s else s

/-- The brake slots whose age is kept: those of the loaded image, or, where none is loaded, of the last one (R234). -/
def agedSlots (s : State) : List Nat :=
  if s.boot.loaded && s.sup.mode != .decaf then (s.img.slotsCfg.filter (fun c => c.2.typ == 4)).map (·.1)
  else s.saf.brkKeys.filterMap List.head?

/-- BRKAGE_TICK (R234). -/
def execBrkageTick (s : State) : Outcome := .next (forEach (agedSlots s) ageSlot s)

/-- QUILL_STREAM_LOST: every pair of the group opens and every slot that uses it is demanded (R179, R204, R221). -/
def quillStreamLost (g : Nat) (s : State) : State :=
  let s := setGrp g (fun x => { x with quillLost := true }) s
  let s := forEach (pairsIn s g) (fun p s => setPair p (switchPair (nowUs s) false) s) s
  quillEvaluation s

/-- QUILL_STREAM_LOST (R179). -/
def execQuillStreamLost (g : Fin 6) (s : State) : Outcome := .next (quillStreamLost g.val s)

end Sys2Proof.Machine
end

