-- ==== Sys2Proof/Machine/Cvu.lean ====
section
/-! DEFINITION. The check-value units (R359 to R370): the general contexts 4 to 7 and their writes, the claims, and the
checks of coupler frames (R179, R361, R362). -/

namespace Sys2Proof.Machine

/-! ### Algorithms -/

/-- The value held to the width of an algorithm (R359). -/
def algMask (alg : BitVec 2) (w : Word) : Word :=
  match alg.toNat with
  | 2 => w &&& 0xFFFF
  | 3 => w &&& 0xFF
  | _ => w

/-- The initial value of an algorithm (R359). -/
def algInit (alg : BitVec 2) : Word :=
  match alg.toNat with
  | 2 => 0xFFFF
  | 3 => 0
  | _ => 0xFFFFFFFF

/-- One byte folded into a running value (R359, R360). -/
def algByte (alg : BitVec 2) (c : Word) (b : Byte) : Word :=
  match alg.toNat with
  | 0 => crc32cByte c b
  | 1 => crc32Byte c b
  | 2 => (crc16Byte (c.setWidth 16) b).setWidth 32
  | _ => (crc8Byte (c.setWidth 8) b).setWidth 32

/-- The result: the running value XOR XOROUT (R360). -/
def algResult (alg : BitVec 2) (c : Word) : Word := if alg = 1 then ~~~ c else c

/-! ### Contexts -/

/-- Bytes fed into a context: folded in order and counted (R360, R370). -/
def feed (bs : List Byte) (x : Ctx) : Ctx :=
  { x with value := bs.foldl (algByte x.alg) x.value, count := sat16 (x.count.toNat + bs.length) }

/-- START: the initial value, then the virtual header; the configuration written last comes into force (R361, R368). -/
def startCtx (x : Ctx) : Ctx :=
  let alg : BitVec 2 := x.cfg.setWidth 2
  let hdr := (Word.bytes x.hdr0 ++ Word.bytes x.hdr1).take (x.cfg.toNat / 16 % 16)
  { x with alg := alg, value := hdr.foldl (algByte alg) (algInit alg), count := 0, compared := false }

/-- CLEAR: COUNT, MATCH and COMPARED to 0 (R370). -/
def clearCtx (x : Ctx) : Ctx := { x with count := 0, matched := false, compared := false }

/-- Whether a writer has a context: lanes have 4 and 5 (in Split one each), a session what it has claimed; Modbus, which writes as
session 0, has none (R365, R367). -/
def ctxRight (s : State) (w : Who) (c : Nat) : Bool :=
  match w with
  | .lane l => (c == 4 && (s.cmp.mode != .split || l == .a)) || (c == 5 && (s.cmp.mode != .split || l == .b))
  | .sess id lvl => decide (lvOperate ≤ lvl) && id != 0 &&
      ((c == 6 && s.cvu.claim6 == some id) || (c == 7 && s.cvu.claim7 == some id))

/-- A write to a context by a writer without the right: refused, with REFUSED set (R365, R370). -/
def ctxWrite (w : Who) (c : Nat) (k : State → Written) (s : State) : Written :=
  if ctxRight s w c then k s else refuse stAccess (onCvu (fun u => { u with evt := setBit u.evt 2 }) s)

/-- CVU_C_CFG written: a header length of 9 to 15 is refused (R370). -/
def cfgWrite (c : Nat) (v : Word) (s : State) : Written :=
  if v.toNat / 16 % 16 > 8 then refuse stRange s else done (setCtx c (fun x => { x with cfg := v &&& 0xF3 }) s)

/-- CVU_C_EXPECT written: the comparison of R368. -/
def expectWrite (c : Nat) (v : Word) (s : State) : Written :=
  let eq := algResult (ctx s c).alg (ctx s c).value == v
  let s := setCtx c (fun x => { x with compared := true, matched := eq }) s
  done (if eq then s else onCvu (fun u => { u with evt := setBit u.evt 1 }) s)

/-- CVU_C_CMD written. -/
def cmdWrite (c : Nat) (v : Word) (s : State) : Written :=
  let s := if v.getLsbD 0 then setCtx c startCtx s else s
  done (if v.getLsbD 1 then setCtx c clearCtx s else s)

/-- One claim bit: 1 claims, 0 releases what the session itself holds (R367). -/
def claimStep (id : Word) (want : Bool) (held : Option Word) : Option Word :=
  if want then some id else if held = some id then none else held

/-- CVU_CLAIM written: a context another session holds is busy (R367). -/
def claimWrite (w : Who) (v : Word) (s : State) : Written :=
  match w with
  | .lane _ => refuse stAccess s
  | .sess id lvl =>
    let other (b : Nat) (h : Option Word) := v.getLsbD b && h.isSome && h != some id
    if lvl < lvOperate || id == 0 then refuse stAccess s
    else if other 0 s.cvu.claim6 || other 1 s.cvu.claim7 then refuse stBusy s
    else done (onCvu (fun u => { u with claim6 := claimStep id (v.getLsbD 0) u.claim6,
                                        claim7 := claimStep id (v.getLsbD 1) u.claim7 }) s)

/-- A write into the CVU region (R365 to R370). -/
def cvuWrite (w : Who) (off : Nat) (v : Word) (s : State) : Written :=
  if off = 0 then claimWrite w v s
  else if off = 4 then byLaneOr w lvOperate (fun s => done (onCvu (fun u => { u with evt := clearBits u.evt v 7 }) s)) s
  else if 0x2000 ≤ off && off < 0x3000 then
    let c := (off - 0x1000) / 0x400
    ctxWrite w c (fun s => done (setCtx c (feed (Word.bytes v)) s)) s
  else if 0x100 ≤ off && off < 0x300 then
    let c := (off - 0x100) / 0x40
    match (off - 0x100) % 0x40 with
    | 0x00 => ctxWrite w c (cfgWrite c v) s
    | 0x04 => ctxWrite w c (fun s => done (setCtx c (fun x => { x with hdr0 := v }) s)) s
    | 0x08 => ctxWrite w c (fun s => done (setCtx c (fun x => { x with hdr1 := v }) s)) s
    | 0x0C => ctxWrite w c (cmdWrite c v) s
    | 0x10 => ctxWrite w c (fun s => done (setCtx c (fun x => { x with value := algMask x.alg v }) s)) s
    | 0x18 => ctxWrite w c (expectWrite c v) s
    | 0x20 => ctxWrite w c (fun s => done (setCtx c (feed [v.setWidth 8]) s)) s
    | _ => refuse stAccess s
  else refuse stAccess s

/-- The offset of a context's register. -/
def ctxOff (c r : Nat) : Nat := 0x100 + 0x40 * c + r

/-- A write of a context's register by either path. -/
def ctxCommand (p : Path) (c r : Nat) (v : Word) (s : State) : State :=
  regCommand p (BitVec.ofNat 32 (0xB0000 + ctxOff c r)) v (fun w => cvuWrite w (ctxOff c r)) s

/-- CVU_START (R361). -/
def execCvuStart (p : Path) (c : Fin 8) (s : State) : Outcome :=
  .next (ctxCommand p c.val 0x0C 1 s)
/-- CVU_CLEAR (R370). -/
def execCvuClear (p : Path) (c : Fin 8) (s : State) : Outcome :=
  .next (ctxCommand p c.val 0x0C 2 s)
/-- CVU_VALUE_WRITE (R360). -/
def execCvuValueWrite (p : Path) (c : Fin 8) (v : Word) (s : State) : Outcome :=
  .next (ctxCommand p c.val 0x10 v s)
/-- CVU_BYTE_FEED (R360). -/
def execCvuByteFeed (p : Path) (c : Fin 8) (v : Word) (s : State) : Outcome :=
  .next (ctxCommand p c.val 0x20 v s)
/-- CVU_EXPECT_WRITE (R368). -/
def execCvuExpectWrite (p : Path) (c : Fin 8) (v : Word) (s : State) : Outcome :=
  .next (ctxCommand p c.val 0x18 v s)
/-- CVU_CONFIG_WRITE (R368). -/
def execCvuConfigWrite (p : Path) (c : Fin 8) (v : Word) (s : State) : Outcome :=
  .next (ctxCommand p c.val 0x00 v s)

/-- Words written to consecutive addresses of a region in order, up to the first refusal. -/
def writeRun (f : Nat → Word → State → Written) : Nat → List Word → State → Written
  | _, [], s => done s
  | off, v :: vs, s =>
    let r := f off v s
    if r.1 = stOk then writeRun f (off + 4) vs r.2 else r

/-- The sticky marks of refused commands kept from a write that changes nothing else (R67, R78, R257, R370). -/
def keepRefusals (t s : State) : State :=
  onCyc (fun c => { c with evt := c.evt ||| (t.cyc.evt &&& 0x1C) })
    (onAlm (fun a => { a with evt := a.evt ||| (t.alm.evt &&& 0x10) })
      (onCvu (fun u => { u with evt := u.evt ||| (t.cvu.evt &&& 4) }) s))

/-- Words written to consecutive addresses as one step (R333): a word that is refused leaves all of them unwritten
(R331, log 27). -/
def writeWords (f : Nat → Word → State → Written) (off : Nat) (ws : List Word) (s : State) : Written :=
  let r := writeRun f off ws s
  if r.1 = stOk then r else (r.1, keepRefusals r.2 s)

/-- CVU_DATA_FEED: consecutive words of the data window, by a session as one step of 1 to 64 words, by a lane as one write each
(R66, R328, R367). Words beyond the window are another context's. -/
def execCvuDataFeed (p : Path) (c : Fin 8) (i : Fin 256) (ws : List Word) (s : State) : Outcome :=
  .next (
    let off (n : Nat) : Nat := 0x1000 + 0x400 * c.val + 4 * (i.val + n)
    match p with
    | .lane l => forEach ws.zipIdx (fun q s => laneWrites l (cvuWrite (.lane l) (off q.2)) s (BitVec.ofNat 32 (0xB0000 + off q.2), q.1)) s
    | .sess r => sessionWrites r (fun w s =>
        if ws.isEmpty || decide (ws.length > 64) then refuse stMalformed s else writeWords (cvuWrite w) (off 0) ws s) s)

/-- CVU_CLAIM_WRITE (R367). -/
def execCvuClaimWrite (r : Req) (v : Word) (s : State) : Outcome :=
  .next (sessionWrites r (fun w => cvuWrite w 0 v) s)

/-! ### Reading -/

/-- CVU_C_CFG of a context; contexts 0 to 3 are fixed by R363. -/
def ctxCfg (s : State) (c : Nat) : Word :=
  match c with
  | 0 => 0x80
  | 1 => 0x50
  | 2 => 0x80
  | 3 => 0x01
  | _ => (ctx s c).cfg

/-- A word of the CVU region as a reader sees it (R364, R370). -/
def cvuView (w : Who) (s : State) (off : Nat) : Word :=
  if off = 0 then
    let mine (h : Option Word) := match w with | .sess id _ => h == some id | .lane _ => false
    Word.flag (mine s.cvu.claim6) 0 ||| Word.flag (mine s.cvu.claim7) 1 |||
      Word.flag s.cvu.claim6.isSome 8 ||| Word.flag s.cvu.claim7.isSome 9
  else if off = 4 then s.cvu.evt
  else if 0x100 ≤ off && off < 0x300 then
    let c := (off - 0x100) / 0x40
    let x := ctx s c
    match (off - 0x100) % 0x40 with
    | 0x00 => ctxCfg s c
    | 0x04 => if c < 4 then 0 else x.hdr0
    | 0x08 => if c < 4 then 0 else x.hdr1
    | 0x10 => if c < 4 then 0 else x.value
    | 0x14 => if c < 4 then 0 else algResult x.alg x.value
    | 0x1C => Word.field x.count.toNat 16 ||| Word.flag x.matched 1 ||| Word.flag x.compared 0
    | _ => 0
  else 0

/-! ### Coupler frames (R179, R362) -/

/-- The payload of a lane stream frame whose check is right for the group and the expected sequence (R179, R362, R363). -/
def laneFrame (g : Nat) (fseq : BitVec 16) (bs : List Byte) : Option (List Byte) :=
  let pay := bs.take (bs.length - 2)
  let c := crc16 ([BitVec.ofNat 8 (g + 1)] ++ le16 fseq ++ pay)
  if bs.length ≥ 2 && bs.drop (bs.length - 2) == [c.extractLsb' 8 8, c.extractLsb' 0 8] then some pay else none

/-- The payload of a Quill stream frame whose check is right for the expected sequence. -/
def quillFrame (fseq : Byte) (bs : List Byte) : Option (List Byte) :=
  let pay := bs.take (bs.length - 1)
  if bs.length ≥ 1 && bs.drop (bs.length - 1) == [crc8 (fseq :: pay)] then some pay else none

/-- COUPLER_FRAME: the frame of a slot of a stream, after `empty` slots in which none came, checked against the sequence the
receiver expects there, so that a frame of an earlier slot fails; what fails is discarded as if it had been lost (R361). The
payload's layout is not in the spec: what a frame carries arrives as the channels' own commands. -/
def couplerFrame (g : Nat) (st : Stream) (empty : Nat) (bs : List Byte) (s : State) : State :=
  setGrp g (fun x => match st with
    | .lane =>
      let q := x.seqLane + BitVec.ofNat 16 (empty + 1)
      { x with seqLane := q, missLane := if (laneFrame g q bs).isSome then 0 else x.missLane + empty + 1 }
    | .quill =>
      let q := x.seqQuill + BitVec.ofNat 8 (empty + 1)
      { x with seqQuill := q, missQuill := if (quillFrame q bs).isSome then 0 else x.missQuill + empty + 1 }) s

/-- COUPLER_FRAME (R179). -/
def execCouplerFrame (g : Fin 6) (st : Stream) (empty : Nat) (bs : List Byte) (s : State) : Outcome :=
  .next (couplerFrame g.val st empty bs s)

end Sys2Proof.Machine
end

