-- ==== Sys2Proof/Machine/Inkwell.lean ====
section
/-! DEFINITION. The Inkwell beside its posting (R343 to R358): flushing, rate-limit windows, cursors, the EVENTS service and
the EVR region. -/

namespace Sys2Proof.Machine

/-! ### Records as bytes -/

/-- CHECK of a record: ID_SERIAL and SEQ folded first, then bytes 4 to 27 (R344). -/
def recCheck (serial : Word) (r : Rec) (body : List Byte) : Word := crc32c (crc32cWords crcInit [serial, r.seq]) body

/-- Bytes 4 to 27 of a record (R343). -/
def recBody (r : Rec) : List Byte :=
  Word.bytes (r.time.setWidth 32) ++ Word.bytes ((r.time >>> 32).setWidth 32) ++ le16 r.code ++ le16 r.source ++
    le16 r.cell ++ le16 r.flags ++ Word.bytes r.a ++ Word.bytes r.b

/-- The 32 bytes of a record (R343, R344). -/
def recBytes (serial : Word) (r : Rec) : List Byte :=
  Word.bytes r.seq ++ recBody r ++ Word.bytes (recCheck serial r (recBody r))

/-! ### Ring and store -/

/-- The records a reader sees, oldest first (R347). -/
def allRecs (e : Evr) : List Rec := e.store ++ e.ring

/-- Records held to the last 131 072 (R347). -/
def keepStore (l : List Rec) : List Rec := l.drop (l.length - 131072)

/-- A flush completed: the ring's records in the store, the directory written, space again (R348, R350), the time since its
start noted in units of 10 µs (R358, R480). -/
def flushDone (s : State) : State :=
  let e := s.evr
  let t := sat16 ((nowUs s - e.flushUs) / 10)
  let s := onEvr (fun e =>
    { e with store := keepStore (e.store ++ e.ring), ring := [], flushing := false,
             dirSeq := (e.ring.getLast?.map (·.seq)).orElse (fun _ => e.dirSeq),
             flushLast := t, flushMax := max16 e.flushMax t }) s
  if e.dropRun = 0 || !e.running then s
  else
    let n := s.evr.next
    onEvr (fun x => { x with lossPoint := true })
      (post 0x0001 0 [BitVec.ofNat 32 e.dropRun, n] (onEvr (fun x => { x with dropRun := 0 }) s))

/-- FLUSH_AGE_TIMEOUT: the oldest unflushed record has waited 100 ms (R348). -/
def execFlushAgeTimeout (s : State) : Outcome := .next (if s.evr.ring.isEmpty then s else startFlush s)

/-- FLOOD_WINDOW_END: the summaries of the window, and a new one (R353). -/
def execFloodWindowEnd (s : State) : Outcome := .next (floodSummaries s)

/-- RECORDS_LOST_POINT_END: 60 s after "records lost" (R352). -/
def execRecordsLostPointEnd (s : State) : Outcome := .next (onEvr (fun e => { e with lossPoint := false }) s)

/-! ### Cursors (R354, R355) -/

/-- Whether SEQ a is older than SEQ b, modulo 2^32 (R355). -/
def seqLt (a b : Word) : Bool := (b - a).toInt > 0

/-- SEQ of the newest record. -/
def newestSeq (e : Evr) : Word := ((allRecs e).getLast?.map (·.seq)).getD (e.next - 1)
/-- SEQ of the oldest readable record; the next one where there is none. -/
def oldestSeq (e : Evr) : Word := ((allRecs e).head?.map (·.seq)).getD e.next
/-- SEQ of the newest record in the store. -/
def flushedSeq (e : Evr) : Word := (e.store.getLast?.map (·.seq)).getD (oldestSeq e - 1)

/-- A cursor as a path begins (R354). -/
def freshCursor (e : Evr) : Cursor := { cur := e.next }

/-- A cursor moved to a SEQ, with the snapshot of what stands there (R354, R355). Where no record stands the snapshot is
left as it was; a SEQ that was lost counts as gone (log 29). -/
def moveTo (serial : Word) (e : Evr) (q : Word) (c : Cursor) : Cursor :=
  match (allRecs e).find? (fun r => r.seq == q) with
  | some r => { c with cur := q, skip := 0, state := 0, checkOk := true, fromRing := e.ring.any (fun x => x.seq == q),
                       snap := recBytes serial r }
  | none => { c with cur := q, skip := 0, state := if seqLt (newestSeq e) q then 2 else 1 }

/-- NEXT (R355): from "gone" to the next record there is, from a SEQ not yet read to itself, else one further. -/
def cursorNext (serial : Word) (e : Evr) (c : Cursor) : Cursor :=
  if c.state = 1 then
    let q := (((allRecs e).find? (fun r => seqLt c.cur r.seq)).map (·.seq)).getD (oldestSeq e)
    { moveTo serial e q c with skip := q - c.cur }
  else if c.state = 0 then moveTo serial e (c.cur + 1) c
  else moveTo serial e c.cur c

/-- The cursor of a writer. -/
def cursorOf (s : State) (w : Who) : Cursor :=
  match w with
  | .lane _ => s.evr.lanes
  | .sess id _ => ((findSession s id).map (·.cursor)).getD {}

/-- The cursor of a writer changed. -/
def setCursor (w : Who) (f : Cursor → Cursor) (s : State) : State :=
  match w with
  | .lane _ => onEvr (fun e => { e with lanes := f e.lanes }) s
  | .sess id _ => setSession id (fun x => { x with cursor := f x.cursor }) s

/-- A write into the EVR region (R358). -/
def evrWrite (w : Who) (off : Nat) (v : Word) (s : State) : Written :=
  let e := s.evr
  let ser := s.id.serial
  match off with
  | 0x1C => byLevel w lvOperate (fun s => done (onEvr (fun e => { e with evt := clearBits e.evt v 7 }) s)) s
  | 0x20 => done (setCursor w (moveTo ser e v) s)
  | 0x24 =>
    match (v &&& 15).toNat with
    | 1 => done (setCursor w (cursorNext ser e) s)
    | 2 => done (setCursor w (fun c => moveTo ser e (c.cur - 1) c) s)
    | 4 => done (setCursor w (moveTo ser e (oldestSeq e)) s)
    | 8 => done (setCursor w (moveTo ser e (newestSeq e)) s)
    | _ => refuse stAccess s
  | _ => refuse stAccess s

/-- EVR_CURSOR_WRITE (R354). -/
def execEvrCursorWrite (p : Path) (q : Word) (s : State) : Outcome := .next (regCommand p 0xA0020 q (fun w => evrWrite w 0x20) s)
/-- EVR_NEXT (R355). -/
def execEvrNext (p : Path) (s : State) : Outcome := .next (regCommand p 0xA0024 1 (fun w => evrWrite w 0x24) s)
/-- EVR_PREV (R355). -/
def execEvrPrev (p : Path) (s : State) : Outcome := .next (regCommand p 0xA0024 2 (fun w => evrWrite w 0x24) s)
/-- EVR_OLDEST (R355). -/
def execEvrOldest (p : Path) (s : State) : Outcome := .next (regCommand p 0xA0024 4 (fun w => evrWrite w 0x24) s)
/-- EVR_NEWEST (R355). -/
def execEvrNewest (p : Path) (s : State) : Outcome := .next (regCommand p 0xA0024 8 (fun w => evrWrite w 0x24) s)

/-- A word of the EVR region as a reader sees it (R358). -/
def evrView (w : Who) (s : State) (off : Nat) : Word :=
  let e := s.evr
  let c := cursorOf s w
  match off with
  | 0x00 => Word.field e.ring.length 16 ||| Word.flag e.lossPoint 2 ||| Word.flag e.flushing 1 ||| Word.flag e.running 0
  | 0x04 => newestSeq e
  | 0x08 => oldestSeq e
  | 0x0C => flushedSeq e
  | 0x10 => e.lost
  | 0x14 => e.dropped
  | 0x18 => e.suppr
  | 0x1C => e.evt
  | 0x20 => c.cur
  | 0x28 => Word.flag c.checkOk 3 ||| Word.flag c.fromRing 2 ||| c.state.setWidth 32
  | 0x2C => c.skip
  | 0x30 => Word.field e.flushMax.toNat 16 ||| e.flushLast.setWidth 32
  | _ => if 0x40 ≤ off && off < 0x60 then Word.ofBytes (c.snap.drop (off - 0x40)) else 0

/-! ### The EVENTS service (R356) -/

/-- The response of EVENTS from a SEQ, and the cursor it leaves. -/
def eventsFrom (r : Req) (count : Nat) (start : Word) (s : State) : State :=
  let e := s.evr
  let l := ((allRecs e).filter (fun x => !seqLt x.seq start)).take count
  match l.head?, l.getLast? with
  | some a, some z =>
    let nxt := z.seq + 1
    let s := setSession r.sess (fun x => { x with cursor := { x.cursor with
      cur := nxt, skip := a.seq - start, state := if (allRecs e).any (fun y => y.seq == nxt) then 0 else 2 } }) s
    reply r stOk (le16 (BitVec.ofNat 16 l.length) ++ Word.bytes nxt ++ Word.bytes (a.seq - start) ++
      l.flatMap (recBytes s.id.serial)) s
  | _, _ =>
    let cur := ((findSession s r.sess).map (·.cursor.cur)).getD 0
    reply r stOk (le16 0 ++ Word.bytes cur ++ Word.bytes 0) s

/-- An EVENTS request of 1 to 44 records, from a SEQ that the state gives. -/
def events (r : Req) (count : BitVec 16) (start : State → Word) (s : State) : State :=
  screenReq r lvView true (fun s =>
    acceptIf r (decide (1 ≤ count) && decide (count ≤ 44)) stRange (fun s => eventsFrom r count.toNat (start s) s) s) s

/-- EVENTS_FROM_SEQ: op 0x00 (R356). -/
def execEventsFromSeq (r : Req) (count : BitVec 16) (q : Word) (s : State) : Outcome := .next (events r count (fun _ => q) s)
/-- EVENTS_FROM_OLDEST: op 0x01 (R356). -/
def execEventsFromOldest (r : Req) (count : BitVec 16) (s : State) : Outcome := .next (events r count (fun s => oldestSeq s.evr) s)
/-- EVENTS_FROM_CURSOR: op 0x02 (R356). -/
def execEventsFromCursor (r : Req) (count : BitVec 16) (s : State) : Outcome :=
  .next (events r count (fun s => (cursorOf s (.sess r.sess 0)).cur) s)

/-- The SEQ of the first of the newest `n` records. -/
def newestFrom (e : Evr) (n : Nat) : Word :=
  let l := allRecs e
  ((l.drop (l.length - n)).head?.map (·.seq)).getD e.next

/-- EVENTS_NEWEST: op 0x03 (R356). -/
def execEventsNewest (r : Req) (count : BitVec 16) (s : State) : Outcome :=
  .next (events r count (fun s => newestFrom s.evr count.toNat) s)

end Sys2Proof.Machine
end

