-- ==== Sys2Proof/Machine/Loop.lean ====
section
/-! DEFINITION. The loop engine (R114 to R144): parameters and transfer, the loop law, groups with their delivered output,
clamps, hand-over, traces, and the writes of the LPE region. -/

namespace Sys2Proof.Machine

/-! ### Slots -/

/-- A loop slot's state. -/
def lslot (s : State) (k : Nat) : LoopSt := tget {} s.lpe.slots k
/-- A loop slot's state changed. -/
def setLoop (k : Nat) (f : LoopSt → LoopSt) (s : State) : State := onLpe (fun l => { l with slots := tmod {} l.slots k f }) s
/-- A loop slot's settings. -/
def loopCfg (s : State) (k : Nat) : LoopCfg := (iget s.img.loops k).getD {}
/-- A competition group's settings. -/
def lgroupCfg (s : State) (g : Nat) : LoopGroupCfg := (iget s.img.loopGroups g).getD {}
/-- A competition group's state changed. -/
def setLGroup (g : Nat) (f : LoopGroupSt → LoopGroupSt) (s : State) : State :=
  onLpe (fun l => { l with groups := tmod {} l.groups g f }) s

/-- The members of the unit that a slot belongs to; a standalone slot is a group of one (R126, R127). -/
def unitOf (s : State) (k : Nat) : List Nat :=
  match (loopCfg s k).group with
  | none => [k]
  | some g => let c := lgroupCfg s g; span c.head (c.head + c.count)

/-- The head of a slot's unit. -/
def headOf (s : State) (k : Nat) : Nat := (unitOf s k).headD k

/-- The output channel of a slot's unit, 1 to 96; 0 for none. -/
def outChan (s : State) (k : Nat) : Nat :=
  match (loopCfg s k).group with
  | none => (loopCfg s k).outch
  | some g => (lgroupCfg s g).outch

/-- Parameter n in force, in the order of LPE_S_PVLO to LPE_S_TD4 (R144). -/
def lpar (x : LoopSt) (n : Nat) : Word := x.params.getD n 0

/-- The default of parameter n in R118, given the parameters; the PV span and the schedule points have none there and keep what
they are (log 30). -/
def parDefault (ps : List Word) (n : Nat) : Word :=
  match n with
  | 2 => ps.getD 0 0
  | 3 => ps.getD 1 0
  | 5 => f100
  | 8 => 0x40000000
  | 9 => f1
  | 11 => 0x41200000
  | 14 => ps.getD 4 0
  | 15 => ps.getD 4 0
  | _ => if 20 ≤ n && n < 24 then f1 else if 24 ≤ n && n < 28 then 0x41200000
         else if n < 2 || (16 ≤ n && n < 20) then ps.getD n 0 else f0

/-- A value held between two bounds as R481 gives clamp. -/
def clampTo (x lo hi : Word) : Word := fmin (fmax x lo) hi

/-- A rate or time held to its range, where 0 stands apart (R118). -/
def clampZero (x lo hi : Word) : Word := if fle x f0 then f0 else clampTo x lo hi

/-- A bound value held to the range of parameter n (R118, R121). -/
def parClamp (ps : List Word) (n : Nat) (v : Word) : Word :=
  match n with
  | 2 => fmin v (ps.getD 3 0)
  | 3 => fmax v (ps.getD 2 0)
  | 4 => clampTo v f0 (ps.getD 5 0)
  | 5 => clampTo v (ps.getD 4 0) f100
  | 6 => clampZero v 0x3C23D70A 0x47C35000
  | 7 => clampZero v 0x3C23D70A 0x47C35000
  | 8 => clampTo v f0 0x42480000
  | 9 => clampTo v f0 f1
  | 10 => clampTo v f0 f1
  | 11 => clampTo v 0x40000000 f100
  | 12 => clampTo v 0xC47A0000 0x447A0000
  | 13 => clampTo v 0xC2C80000 f100
  | 14 => clampTo v (ps.getD 4 0) (ps.getD 5 0)
  | 15 => clampTo v (ps.getD 4 0) (ps.getD 5 0)
  | _ => if 20 ≤ n && n < 24 then clampTo v f0 0x447A0000
         else if 24 ≤ n && n < 28 then clampZero v 0x3A83126F 0x47C35000
         else if 28 ≤ n && n < 32 then clampTo v f0 0x461C4000
         else v

/-- A bound parameter taken from its constant at a transfer (R121). -/
def takeBound (first : Bool) (n : Nat) (v : Word) (x : LoopSt) : LoopSt :=
  if fnan v then
    { x with evt := setBit x.evt 3, params := if first then x.params.set n (parDefault x.params n) else x.params }
  else
    let w := parClamp x.params n v
    { x with evt := orBit x.evt 3 (!feq w v), params := x.params.set n w }

/-- The effective limits, and whether the program's words crossed (R121). -/
def loopLimits (x : LoopSt) : Word × Word × Bool :=
  if x.words.isEmpty then (lpar x 4, lpar x 5, false)
  else
    let hi := fmin (lpar x 5) (x.words.getD 5 0)
    let lo := fmax (lpar x 4) (x.words.getD 6 0)
    if flt hi lo then (lpar x 4, lpar x 5, true) else (lo, hi, false)

/-- KSCALE as the program gives it, or 1.0 (R120). -/
def kscaleOf (x : LoopSt) : Word := if x.words.isEmpty || x.stKbad then f1 else x.words.getD 7 0

/-! ### The transfer at TO (R17, R121, R123, R139) -/

/-- A program request refused (R123). -/
def modeRefused (k : Nat) (s : State) : State :=
  onLpe (fun l => { l with evt := setBit l.evt 2 }) (setLoop k (fun x => { x with evt := setBit x.evt 2 }) s)

/-- One slot's words transferred. The first transfer after a restart or a new image only sets the references (R123). -/
def transferSlot (first : Bool) (k : Nat) (s : State) : State :=
  let c := loopCfg s k
  let x := lslot s k
  let ws := (List.range 8).map (fun i => tget 0 s.cyc.released (0x80 + 8 * k + i))
  let req : BitVec 2 := (ws.getD 1 0).setWidth 2
  let man := ws.getD 2 0
  let trig := (ws.getD 1 0).getLsbD 3
  let ks := ws.getD 7 0
  let newMan := !first && x.prevMan != some man
  let s := setLoop k (fun x =>
    { x with words := ws, prevReq := some req, prevMan := some man, prevTrig := trig,
             progReq := if !first && x.prevReq != some req then some req else x.progReq,
             progMan := if newMan && !fnan man then some man else x.progMan,
             trig := x.trig || (!first && trig && !x.prevTrig),
             stKbad := fnan ks || flt ks 0x3DCCCCCD || flt 0x41200000 ks }) s
  let s := if newMan && fnan man then modeRefused k s else s
  let s := forEach c.bind (fun b s => setLoop k (takeBound s.lpe.firstTransfer b.1 (tget 0 s.nibA.data b.2)) s) s
  setLoop k (fun x => { x with evt := orBit x.evt 3 (loopLimits x).2.2 }) s

/-- The transfer of every slot's words at a TO (R17). Evaluation may begin from the first TO of Run (R131). -/
def loopTransfer (s : State) : State :=
  let first := s.lpe.firstTransfer
  let s := forEach (s.img.loops.map (·.1)) (transferSlot first) s
  onLpe (fun l => { l with firstTransfer := false, transferred := l.transferred || inRun s }) s

/-! ### Output in percent (R116) -/

/-- A channel's readback in percent of output span. -/
def rbPercent (s : State) (ch : Nat) : Word := fofRatio ((chan s (ch - 1)).lmean - 4000) 160

/-- Percent as a command word: mA for a current-loop output, percent of duty for PWM, rounded once (R116, log 18). -/
def percentCmd (s : State) (ch : Nat) (p : Word) : Word :=
  if chanMode s (ch - 1) = 9 then
    match fval p with
    | .fin neg m e =>
      let r := addDyadic (16 * sgnd neg m) e 400 0
      fofRatio (r.1 * 2 ^ r.2.toNat) (100 * 2 ^ (-r.2).toNat)
    | _ => p
  else p

/-- The delivered values handed to every loop-owned channel (R134). -/
def handOff (s : State) : State :=
  forEach (s.img.loops.map (·.1)) (fun k s =>
    let ch := outChan s k
    if ch = 0 || headOf s k != k then s
    else applyOutput (ch - 1) (onLpe (fun l => { l with handoff := tins (ch - 1) (percentCmd s ch (lslot s k).out) l.handoff }) s)) s

/-! ### Restart and take-over (R131, R133) -/

/-- A slot's parameters from the image: what it does not set takes its default (R118). -/
def imageParams (c : LoopCfg) : List Word :=
  (List.range 32).foldl (fun ps n => ps ++ [(iget c.params n).getD (parDefault ps n)]) []

/-- A slot's initial manual value: the image's, else RESTART (R118). -/
def initialMan (c : LoopCfg) : Word := c.man.getD ((imageParams c).getD 14 0)

/-- The mode a slot works in: the head's Manual or Off, else Cascade or Auto (R126). -/
def effMode (s : State) (k : Nat) : BitVec 2 :=
  let m := (lslot s (headOf s k)).mode
  if m = 0 || m = 1 then m else if (lslot s k).mode = 3 then 3 else 2

/-- A slot's parameters at entry into Run: a warm restart keeps those in force (R144, R426). -/
def paramsAtRun (s : State) (k : Nat) : List Word :=
  let x := lslot s k
  if x.params.isEmpty then imageParams (loopCfg s k) else x.params

/-- One slot at entry into Run after a restart (R131). -/
def loopInitSlot (k : Nat) (s : State) : State :=
  let ps := paramsAtRun s k
  let rs := (paramsAtRun s (headOf s k)).getD 14 0
  setLoop k (fun x =>
    { x with params := ps, out := rs, cand := rs, i := fsub rs (ps.getD 13 0), d := 0, edPrev := 0, p := 0, begun := false, pend := false,
             lastMode := effMode s k,
             words := [], prevReq := none, prevMan := none, prevTrig := false, trig := false, progReq := none,
             progMan := none, opReq := none, stPvBad := false, stTake := false, stMism := false }) s

/-- Every slot at entry into Run; the head's RESTART value is the group's delivered output, and the channels drive the RESTART
values until the first sample (R131). -/
def loopInit (s : State) : State :=
  let s := forEach (s.img.loops.map (·.1)) loopInitSlot s
  let s := forEach s.img.loopGroups (fun g s => setLGroup g.1 (fun y => { y with out := (lslot s g.2.head).out }) s) s
  handOff (onLpe (fun l => { l with transferred := false, firstTransfer := true, held := false }) s)

/-! ### One slot's candidate (R118 to R124, R130) -/

/-- Whether a mode may be requested of a slot (R122, R126). -/
def modeAllowed (s : State) (k : Nat) (m : BitVec 2) : Bool :=
  if m = 3 then (loopCfg s k).spSrc == 2 else if m = 2 then true else headOf s k == k

/-- The requests that wait for a slot's sample: the program's wins over the operator's (R123). -/
def loopRequests (k : Nat) (s : State) : State :=
  let x := lslot s k
  let s := if x.progReq.isSome && x.opReq.isSome then post 0x0404 k [] s else s
  let req := x.progReq.orElse (fun _ => x.opReq)
  let s := setLoop k (fun x => { x with progReq := none, opReq := none, progMan := none, man := x.progMan.getD x.man,
                                        modeChanged := false }) s
  match req with
  | none => s
  | some m =>
    if !modeAllowed s k m then modeRefused k s
    else if m = x.mode then s
    else setLoop k (fun x => { x with mode := m }) s

/-- A slot's process value and whether it is good (R115, R481). -/
def loopPv (s : State) (k : Nat) : Word × Bool :=
  let c := loopCfg s k
  if c.pvch = 0 then let v := (lslot s k).words.getD 4 0; (v, !fnan v)
  else (valueWord s (c.pvch - 1), qualGood s (c.pvch - 1))

/-- A slot's setpoint source; in Auto a slot set up for Cascade has none, and its setpoint stays (R117, R122, log 31). -/
def loopSpSource (s : State) (k : Nat) : Option Word :=
  let c := loopCfg s k
  let x := lslot s k
  match c.spSrc.toNat with
  | 0 => x.words[0]?
  | 1 => some x.spop
  | 2 =>
    if effMode s k = 3 then
      some (fadd (lpar x 2) (fdiv (fmul (lslot s c.outer).out (fsub (lpar x 3) (lpar x 2))) f100))
    else none
  | _ => none

/-- A slot's working setpoint: the source clamped; a NaN leaves it (R117, R481). -/
def loopSp (s : State) (k : Nat) : Word :=
  let x := lslot s k
  match loopSpSource s k with
  | some v => if fnan v then x.sp else clampTo v (lpar x 2) (lpar x 3)
  | none => x.sp

/-- A slot's feed-forward input; a NaN is 0 (R118, R481). -/
def loopFf (s : State) (k : Nat) : Word :=
  let c := loopCfg s k
  let v := match c.ffSrc.toNat with
    | 1 => (lslot s k).words.getD 3 0
    | 2 => if c.ffch = 0 then f0 else valueWord s (c.ffch - 1)
    | _ => f0
  if fnan v then f0 else v

/-- A value in percent of the PV span (R118). -/
def pvPercent (x : LoopSt) (v : Word) : Word := fdiv (fmul f100 (fsub v (lpar x 0))) (fsub (lpar x 1) (lpar x 0))

/-- One parameter of the schedule at x: four points from parameter index `base` (R119). -/
def interp (p : LoopSt) (base : Nat) (x : Word) : Word :=
  let xs (i : Nat) := lpar p (16 + i)
  let v (i : Nat) := lpar p (base + i)
  if flt x (xs 0) then v 0
  else if fle (xs 3) x then v 3
  else
    let i := if fle (xs 2) x then 2 else if fle (xs 1) x then 1 else 0
    fadd (v i) (fdiv (fmul (fsub (v (i + 1)) (v i)) (fsub x (xs i))) (fsub (xs (i + 1)) (xs i)))

/-- The schedule variable (R119). -/
def schedVar (c : LoopCfg) (x : LoopSt) (pvp spp ff : Word) : Word :=
  match c.schedSrc.toNat with
  | 0 => pvp
  | 1 => spp
  | 2 => x.out
  | _ => ff

/-- The gains of a sample: a NaN keeps the previous ones, or those of X1 at the first sample (R119, R120). -/
def loopGains (x : LoopSt) (v : Word) : LoopSt :=
  let y := if fnan v then (if x.begun then x else { x with kps := lpar x 20, ti := lpar x 24, td := lpar x 28 })
    else { x with kps := interp x 20 v, ti := interp x 24 v, td := interp x 28 v }
  { y with kp := fmul y.kps (kscaleOf y) }

/-- Ti of a sample at which the law is not computed: that of the schedule all the same, so that R128 sees whether the slot has
integral action (R119, R128). DEDUCED (log 138). -/
def keepTi (c : LoopCfg) (ff : Word) (x : LoopSt) : LoopSt :=
  { x with ti := (loopGains x (schedVar c x (pvPercent x x.pv) (pvPercent x x.sp) ff)).ti }

/-- The sample time in seconds. -/
def loopTs (c : LoopCfg) : Word := fofRatio c.period 10000

/-- The law of R118 for a slot whose PV is good. `reset` is a hand-over, a recovery or the first sample: the candidate is
the delivered value (R124, R130, R131). A NaN discards the sample (R481). -/
def loopLaw (c : LoopCfg) (reset : Bool) (ff : Word) (x : LoopSt) : LoopSt :=
  let sgn : Word := if c.direct then 0xBF800000 else f1
  let ts := loopTs c
  let pvp := pvPercent x x.pv
  let spp := pvPercent x x.sp
  let e := fmul sgn (fsub spp pvp)
  let ep := fmul sgn (fsub (fmul (lpar x 9) spp) pvp)
  let ed := fmul sgn (fsub (fmul (lpar x 10) spp) pvp)
  let y := loopGains x (schedVar c x pvp spp ff)
  let p := fmul y.kp ep
  let fft := fadd (fmul (lpar x 12) ff) (lpar x 13)
  let i := if reset then fsub x.out (fadd p fft)
    else if flt f0 y.ti then fadd x.i (fmul (fdiv (fmul y.kp ts) y.ti) e) else x.i
  let tf := fdiv y.td (lpar x 11)
  let den := fadd tf ts
  let d := if reset then f0
    else fadd (fmul (fdiv tf den) x.d) (fmul (fdiv (fmul y.kp y.td) den) (fsub ed x.edPrev))
  let total := fadd (fadd (fadd p i) d) fft
  let lim := loopLimits x
  if fnan total then { y with err := e, ff := fft, stNan := true, pend := reset }
  else
    let cand := if reset then x.out else clampTo total lim.1 lim.2.1
    { y with p := p, i := i, d := d, edPrev := ed, ff := fft, err := e, cand := cand, begun := true, pend := false,
             stLim := !reset && !feq cand total }

/-- A slot whose PV is bad (R130). A failure current counts as candidate; P and D are 0 while it lasts, so that the
formulas of R128 and R130 agree (log 32). -/
def loopBad (c : LoopCfg) (isHead : Bool) (ff : Word) (x : LoopSt) : LoopSt :=
  let fft := fadd (fmul (lpar x 12) ff) (lpar x 13)
  let cand := match c.pvbad.toNat with
    | 0 => x.cand
    | 1 => lpar x 15
    | 2 => if isHead then 0xC0480000 else x.cand
    | _ => if isHead then 0x42DAC000 else x.cand
  { x with stPvBad := true, evt := setBit x.evt 1, p := f0, d := f0, ff := fft, cand := cand, i := fsub cand fft }

/-- The status bits of a sample cleared. -/
def clearStatus (x : LoopSt) : LoopSt :=
  { x with stNan := false, stMism := false, stTrack := false, stOver := false, stCompl := false, stRate := false,
           stLim := false, stClamped := false, winner := false, complStart := false }

/-- One slot's candidate at a sample. A hand-over is from the mode of its last sample that was not discarded; one that a
sample without a result could not make is made at the next (R118, R124, R130, R481). -/
def evalLoop (k : Nat) (s : State) : State :=
  let c := loopCfg s k
  let m := effMode s k
  let (pv, good) := loopPv s k
  let sp := loopSp s k
  let ff := loopFf s k
  let isHead := headOf s k == k
  setLoop k (fun x =>
    let bad := x.stPvBad
    let old := x.lastMode
    let y := { clearStatus x with lastMode := m, modeChanged := old != m, pv := pv, sp := sp, stPvBad := !good, evt := orBit x.evt 1 (!good) }
    if m = 1 then
      if isHead then
        let man := if old = 2 || old = 3 then x.out else x.man
        let lim := loopLimits x
        let v := clampTo man lim.1 lim.2.1
        keepTi c ff { y with man := man, cand := v, stLim := !feq v man }
      else keepTi c ff y
    else if good then loopLaw c (!x.begun || x.pend || old != m || bad) ff y
    else loopBad c isHead ff (keepTi c ff y)) s

/-- A slot whose two runs differ: it keeps its previous states, and a standby's counts restart (R281); a second mismatch in a
row, or a fifth within 10 s, is a self-diagnosis fault (R136). -/
def loopMismatch (k : Nat) (s : State) : State :=
  let again := (lslot s k).stMism
  let now := nowUs s
  let s := setLoop k (fun x => { clearStatus x with stPvBad := x.stPvBad, stMism := true, evt := setBit x.evt 0,
                                                    mism := inc8 x.mism }) s
  let s := onLpe (fun l =>
    { l with evt := setBit l.evt 0, mismTotal := inc16 l.mismTotal,
             mismAt := l.mismAt.filter (fun t => decide (now < t + 10000000)) ++ [now] }) s
  let s := diagEvent (post 0x0402 k [] s)
  if again || decide (s.lpe.mismAt.length ≥ 5) then selfDiag .loopEngine s else s

/-! ### The delivered output (R125, R127 to R129) -/

/-- The lowest candidate; on equal ones the lower slot number (R127). -/
def lowest (s : State) : List Nat → Nat → Nat
  | [], b => b
  | k :: t, b => lowest s t (if flt (lslot s k).cand (lslot s b).cand then k else b)

/-- A value limited to a rate either way from the previous one; a limit of 0 is none. -/
def rateLimit (prev v up dn ts : Word) : Word :=
  let hi := fadd prev (fmul up ts)
  let lo := fsub prev (fmul dn ts)
  if flt f0 up && flt hi v then hi else if flt f0 dn && flt v lo then lo else v

/-- What the clamps of R129 do to a delivered value. -/
structure Clamped where
  v : Word
  ovr : Bool := false
  compl : Bool := false
  take : Bool := false

/-- Whether a channel is driven under rows 1 to 4 of R16 (R129). -/
def overridden (s : State) (i : Nat) : Bool := row1 s || row3 s || (grp s (groupOf i)).maint

/-- The external clamps in their order (R129). The compliance clamp compares the readback with the result of step 3 of R127; a
standby takes its partner's drive as its own readback measures it (R133). -/
def extClamp (s : State) (k : Nat) (v : Word) : Clamped :=
  let ch := outChan s k
  if ch = 0 then { v := v }
  else
    let x := lslot s k
    let cur := chanMode s (ch - 1) == 9
    let ovr := overridden s (ch - 1)
    let v1 := if ovr then (if cur then rbPercent s ch else if roleShown s = .standby then valueWord s (ch - 1) else driven s (ch - 1)) else v
    let compl := cur && (chan s (ch - 1)).qCompl && flt (rbPercent s ch) v
    let v2 := if compl then rbPercent s ch else v1
    let rate := fofRatio (chanCfg s (ch - 1)).ramp.toNat 10
    let v3 := if x.stTake then rateLimit x.out v2 rate rate (loopTs (loopCfg s k)) else v2
    { v := v3, ovr := ovr, compl := compl, take := x.stTake && !feq v3 v2 }

/-- The slot whose Cascade feeds on slot k and does not follow it now (R125). -/
def trackedBy (s : State) (k : Nat) : Option Nat :=
  (s.img.loops.find? (fun p => p.2.spSrc == 2 && p.2.outer == k && effMode s p.1 != 3)).map (·.1)

/-- The output of a tracking outer slot: its inner slot's working setpoint in percent (R125). -/
def trackValue (x : LoopSt) : Word := fdiv (fmul f100 (fsub x.sp (lpar x 2))) (fsub (lpar x 3) (lpar x 2))

/-- A member's integrator brought into line with the delivered value (R128). A sample that was discarded keeps I and the
candidate (R136, R481). -/
def alignLoop (v : Word) (win : Nat) (k : Nat) (s : State) : State :=
  setLoop k (fun x =>
    let pdf := fadd (fadd x.p x.d) x.ff
    if !flt f0 x.ti || x.stMism || x.stNan then x
    else if k = win then (if feq x.cand v then x else { x with i := fsub v pdf, cand := v })
    else
      let top := fadd v (lpar x 8)
      if flt top x.cand then { x with i := fsub top pdf, cand := top, stClamped := true } else x) s

/-- A group's winner noted; a change is posted and counted (R128). -/
def noteWinner (g win : Nat) (s : State) : State :=
  let x := tget {} s.lpe.groups g
  let n := BitVec.ofNat 7 win
  if x.known && x.winner = n then setLGroup g (fun y => { y with changed := false }) s
  else
    let s := setLoop win (fun y => { y with wins := inc16 y.wins }) s
    let s := setLGroup g (fun y => { y with winner := n, known := true, changed := x.known,
                                            prev := if x.known then x.winner else y.prev,
                                            switches := if x.known then inc16 y.switches else y.switches }) s
    if x.known then
      post 0x0401 g [x.winner.setWidth 32, n.setWidth 32] (onLpe (fun l => { l with evt := setBit l.evt 3 }) s)
    else s

/-- The delivered output of a unit formed from its members' candidates (R127 to R129). Where a member feeds an inner slot that
is not in Cascade, the unit's output tracks that slot's setpoint (R125). -/
def deliver (h : Nat) (s : State) : State :=
  let ms := unitOf s h
  let x := lslot s h
  let man := effMode s h == 1
  let fail := !man && x.stPvBad && !x.stMism && decide (2 ≤ (loopCfg s h).pvbad)
  let win := if man || fail then h else lowest s ms h
  let w := lslot s win
  let raw := if man && x.stMism && x.lastMode != 1 then x.out else w.cand
  let lim := if man || fail then raw else rateLimit x.out raw (lpar w 6) (lpar w 7) (loopTs (loopCfg s h))
  let c := extClamp s h lim
  let outer := ms.find? (fun k => (trackedBy s k).isSome)
  let v := match outer.bind (trackedBy s) with | some k => trackValue (lslot s k) | none => c.v
  let cs := c.compl && !x.stCompl
  let s := forEach ms (fun k s => setLoop k (fun y =>
    { y with out := v, stOver := c.ovr, stCompl := c.compl, stTake := c.take, stTrack := (trackedBy s k).isSome, complStart := cs,
             winner := k == win, stRate := k == win && !feq lim raw }) s) s
  let s := if cs then onLpe (fun l => { l with evt := setBit l.evt 4 }) s else s
  let s := forEach ms (alignLoop v win) s
  match (loopCfg s h).group with
  | some g => noteWinner g win (setLGroup g (fun y => { y with out := v }) s)
  | none => s

/-- One sample of a unit; `mism` are the slots whose two runs differ, `dlv` the heads of the units whose delivered output
does. A unit whose delivered output differs holds it, and every member keeps its states; it counts against the head (R123,
R126, R127, R136). -/
def sampleUnit (mism dlv : List Nat) (h : Nat) (s : State) : State :=
  let ms := unitOf s h
  let x := lslot s h
  let s := forEach ms loopRequests s
  if effMode s h = 0 then forEach ms (fun k s => setLoop k (fun y => { clearStatus y with lastMode := 0, modeChanged := y.lastMode != 0 }) s) s
  else if dlv.contains h then
    let s := forEach (ms.filter (· != h)) (fun k s =>
      if mism.contains k then loopMismatch k s else setLoop k (fun y => { y with stMism := false }) s) s
    setLoop h (fun y => { y with winner := x.winner, stCompl := x.stCompl }) (loopMismatch h s)
  else
    let s := forEach ms (fun k s => if mism.contains k then loopMismatch k s else evalLoop k s) s
    let s := setLoop h (fun y => { y with stCompl := x.stCompl }) s
    if ms.length = 1 && mism.contains h then s else deliver h s

/-! ### Traces (R140 to R143) -/

/-- The signal of a slot that a trace records (R142). -/
def traceSignal (s : State) (k : Nat) (sig : Nat) : Word :=
  let x := lslot s k
  let ch := outChan s k
  match sig with
  | 0 => pvPercent x x.pv
  | 1 => pvPercent x x.sp
  | 2 => x.out
  | 3 => x.cand
  | 4 => x.p
  | 5 => x.i
  | 6 => x.d
  | 7 => x.ff
  | 8 => x.err
  | 9 => if ch = 0 then f0 else if chanMode s (ch - 1) = 9 then rbPercent s ch else valueWord s (ch - 1)
  | _ => match (loopCfg s k).group with
    | some g => ((tget {} s.lpe.groups g).winner).setWidth 32
    | none => BitVec.ofNat 32 k

/-- The slot, signal and decimation of a trace channel (R144). -/
def traceSlot (t : TraceSt) : Nat := t.cfg.toNat / 16777216 % 128
/-- SIGNAL. -/
def traceSig (t : TraceSt) : Nat := t.cfg.toNat / 1048576 % 16
/-- DECIM; 0 is taken as 1. -/
def traceDecim (t : TraceSt) : Nat := if t.cfg.toNat % 65536 = 0 then 1 else t.cfg.toNat % 65536
/-- PRE. -/
def tracePre (t : TraceSt) : Nat := t.trig.toNat % 8192

/-- Whether a sample of its slot triggers a trace channel by its own source (R142). The winner number compares as a number. -/
def traceHit (s : State) (t : TraceSt) (v : Word) : Bool :=
  let k := traceSlot t
  let x := lslot s k
  let num (w : Word) : Word := if traceSig t = 10 then fofInt (w.toNat : Int) else w
  match t.trig.toNat / 268435456 with
  | 1 => flt (num t.last) t.level && fle t.level (num v)
  | 2 => flt t.level (num t.last) && fle (num v) t.level
  | 3 => x.modeChanged
  | 4 => match (loopCfg s k).group with
    | some g => (tget {} s.lpe.groups g).changed
    | none => false
  | 5 => x.complStart
  | 6 => x.trig
  | _ => false

/-- The channel whose trigger a trace channel follows, where its source says so (R142). -/
def traceLink (t : TraceSt) : Option Nat := if t.trig.toNat / 268435456 = 7 then some (t.trig.toNat / 16777216 % 16) else none

/-- A trigger accepted by an armed channel (R141). -/
def traceFire (now : Nat) (t : TraceSt) : TraceSt :=
  { t with st := .capturing, fired := true, tlo := BitVec.ofNat 32 now, thi := BitVec.ofNat 32 (now / 4294967296),
           count := min t.count (tracePre t), post := 0 }

/-- One sample stored where the decimation gives one (R140, R141). -/
def traceStore (v : Word) (t : TraceSt) : TraceSt :=
  if t.decim + 1 < traceDecim t then { t with decim := t.decim + 1 }
  else
    let u := { t with decim := 0, mem := tins t.wridx.toNat v t.mem, wridx := t.wridx + 1 }
    if t.st = .armed then { u with count := min (t.count + 1) (tracePre t) }
    else
      let u := { u with count := t.count + 1, post := t.post + 1 }
      if t.post + 1 ≥ 8192 - tracePre t then traceDone false u else u

/-- The trace channels that a trigger reaches in a tick: those whose own source triggers, and those whose linked channel does.
`fire` are the channels triggered so far; links are followed once per channel (R142). -/
def traceFires (s : State) (js : List Nat) : Nat → List Nat → List Nat
  | 0, fire => fire
  | n + 1, fire =>
    traceFires s js n (fire ++ js.filter (fun j =>
      let t := tget {} s.lpe.traces j
      t.st == .armed && !fire.contains j && ((traceLink t).any (fun l => fire.contains l) || (traceLink t).isSome && t.linked)))

/-- A trace channel at a sample of its slot (R141). -/
def traceSample (hits : List Nat) (j : Nat) (s : State) : State :=
  let t := tget {} s.lpe.traces j
  let v := traceSignal s (traceSlot t) (traceSig t)
  let hit := hits.contains j
  let now := nowUs s
  let put (u : TraceSt) (s : State) : State :=
    onLpe (fun l => { l with traces := tput {} l.traces j { u with last := v, linked := false } }) s
  match t.st with
  | .armed => put (traceStore v (if hit then traceFire now t else t)) s
  | .capturing => put (traceStore v t) s
  | .shed =>
    if hit then
      post 0x0403 j [] (onLpe (fun l => { l with evt := setBit l.evt 1 }) (put { t with capshed := true } s))
    else put t s
  | _ => s

/-- The trace channels of the slots sampled in a tick. A trigger of a linked channel, forced since the last tick or met in this
one, counts at the next sample of the channel that follows it (R142). -/
def traceTick (sampled : List Nat) (s : State) : State :=
  let js := (List.range 16).filter (fun j => sampled.contains (traceSlot (tget {} s.lpe.traces j)))
  let own := js.filter (fun j => let t := tget {} s.lpe.traces j; traceHit s t (traceSignal s (traceSlot t) (traceSig t)))
  let armed := own.filter (fun j => (tget {} s.lpe.traces j).st == .armed)
  let forced := (List.range 16).filter (fun j => (tget {} s.lpe.traces j).fired)
  let fire := traceFires s js 16 (forced ++ armed)
  let follows (t : TraceSt) : Bool := (traceLink t).any (fun l => fire.contains l) || (traceLink t).isSome && t.linked
  let hits := js.filter (fun j => own.contains j || follows (tget {} s.lpe.traces j))
  let s := forEach ((List.range 16).filter (fun j => !js.contains j)) (fun j s =>
    onLpe (fun l => { l with traces := tmod {} l.traces j (fun t => { t with linked := follows t }) }) s) s
  let s := forEach js (traceSample hits) s
  let s := onLpe (fun l => { l with traces := tmap {} (fun x => { x with fired := false }) l.traces }) s
  forEach sampled (fun k s => setLoop k (fun x => { x with trig := false, modeChanged := false }) s) s

/-! ### The tick (R132 to R136) -/

/-- Whether the engine evaluates: in a standby only in Twin-step mode or as a shadow, whose states no delta renews (R132 to R134,
R293). -/
def lpeRuns (s : State) : Bool :=
  inRun s && s.lpe.transferred && !s.lpe.held && (roleShown s != .standby || s.img.plan.mode == .twin || s.pst.shadow)

/-- The scale of T0 in µs: the own timebase of the speaker and of a module that knows none, station time of every other member
(R73, R134, R297). -/
def scaleUs (s : State) : Nat := if s.pst.speaker.isNone || isSpeaker s then nowUs s else (stationNs s / 1000).toNat

/-- Whether a slot samples now (R134). -/
def loopDue (s : State) (k : Nat) : Bool :=
  let c := loopCfg s k
  c.period != 0 && (scaleUs s / 100) % c.period == c.phase

/-- LOOP_TICK: every slot due, in ascending order; a unit samples with its head (R134). -/
def loopTick (mism dlv : List Nat) (s : State) : State :=
  if lpeRuns s then
    let due := (List.range 128).filter (fun k => (iget s.img.loops k).isSome && loopDue s k && headOf s k == k)
    let s := forEach due (sampleUnit mism dlv) s
    traceTick ((due.flatMap (unitOf s)).filter (fun k => effMode s k != 0 || (lslot s k).modeChanged)) s
  else s

/-- LOOP_TICK (R134). -/
def execLoopTick (mism dlv : List (Fin 128)) (s : State) : Outcome :=
  .next (loopTick (mism.map (·.val)) (dlv.map (·.val)) s)

/-- LOOP_OUTPUT_HANDOFF: the delivered values at t + 80 µs; an evaluation that is not complete is a self-diagnosis fault
(R134, R135). -/
def loopHandoff (t : BitVec 16) (s : State) : State :=
  if lpeRuns s then
    let s := onLpe (fun l => { l with tickLast := t, tickMax := max16 l.tickMax t }) s
    if t.toNat > 800 then selfDiag .loopLate s else handOff s
  else s

/-- LOOP_OUTPUT_HANDOFF (R134). -/
def execLoopOutputHandoff (t : BitVec 16) (s : State) : Outcome := .next (loopHandoff t s)

/-! ### Writes of the LPE region (R142, R144) -/

/-- A write of a slot's mode request, operator setpoint or manual value (R123, R144, R481). -/
def loopSlotWrite (k r : Nat) (v : Word) (s : State) : Written :=
  if !inRun s then refuse stState s
  else if (iget s.img.loops k).isNone then refuse stRange s
  else if r != 8 && fnan v then refuse stRange s
  else done (setLoop k (fun x => if r = 8 then { x with opReq := some (v.setWidth 2) }
                                 else if r = 0x18 then { x with spop := v } else { x with man := v }) s)

/-- Whether a trace channel is between ARM and its end (R142). -/
def traceBusy (t : TraceSt) : Bool := t.st == .armed || t.st == .capturing || t.st == .shed

/-- LPE_T_CFG, LPE_T_TRIG or LPE_T_LEVEL written (R142). -/
def traceCfgWrite (j r : Nat) (v : Word) (s : State) : Written :=
  let t := tget {} s.lpe.traces j
  let put (f : TraceSt → TraceSt) := done (onLpe (fun l => { l with traces := tmod {} l.traces j f }) s)
  if r = 8 then put (fun t => { t with level := v })
  else if traceBusy t then refuse stState s
  else if r = 0 then
    if v.toNat / 1048576 % 16 > 10 || (v.getLsbD 31 && (iget s.img.loops (v.toNat / 16777216 % 128)).isNone) then refuse stRange s
    else put (fun t => { t with cfg := v &&& 0xFFF0FFFF })
  else
    if v.toNat / 268435456 > 7 || (v.toNat / 268435456 = 7 && v.toNat / 16777216 % 16 = j) then refuse stRange s
    else put (fun t => { t with trig := v &&& 0xFF001FFF })

/-- The state that ARM gives: Armed, or Shed while shed step 3 stands and capture with it (R41, R141, log 121). -/
def armState (s : State) : TraceState := if s.tim.shed ≥ 3 then .shed else .armed

/-- LPE_T_CMD written (R141, R142). In Hold the states do not change. -/
def traceCmdWrite (j : Nat) (v : Word) (s : State) : Written :=
  let t := tget {} s.lpe.traces j
  let put (u : TraceSt) := done (onLpe (fun l => { l with traces := tput {} l.traces j u }) s)
  match v.toNat % 8 with
  | 0 => done s
  | 1 => if traceBusy t || !t.cfg.getLsbD 31 || s.sup.mode == .hold then done s
    else put { t with st := armState s, linked := false, count := 0, decim := 0, post := 0, capshed := false, trunc := false, last := fNaN, fired := false }
  | 2 => if t.st = .armed && s.sup.mode != .hold then put (traceFire (nowUs s) t) else done s
  | 4 => if traceBusy t && s.sup.mode != .hold then put { t with st := .idle } else done s
  | _ => refuse stAccess s

/-- A write into the LPE region (R144). -/
def lpeWrite (w : Who) (off : Nat) (v : Word) (s : State) : Written :=
  let k := (off - 0x1000) / 0x100
  let r := (off - 0x1000) % 0x100
  if off = 0x10 then byLevel w lvOperate (fun s => done (onLpe (fun l => { l with evt := clearBits l.evt v 0x1F }) s)) s
  else if 0x400 ≤ off && off < 0x600 then
    let j := (off - 0x400) / 0x20
    let q := (off - 0x400) % 0x20
    if q = 0 || q = 4 || q = 8 then byLevel w lvEngineer (traceCfgWrite j q v) s
    else if q = 0xC then byLevel w lvEngineer (traceCmdWrite j v) s
    else refuse stAccess s
  else if 0x1000 ≤ off && off < 0x9000 then
    if r = 8 || r = 0x18 || r = 0x1C then byLevel w lvOperate (loopSlotWrite k r v) s
    else if r = 0xCC then byLevel w lvOperate (fun s => done (setLoop k (fun x => { x with evt := clearBits x.evt v 0xF }) s)) s
    else refuse stAccess s
  else refuse stAccess s

/-- OPERATOR_MODE_REQUEST (R123). -/
def execOperatorModeRequest (r : Req) (k : Fin 128) (v : Word) (s : State) : Outcome :=
  .next (sessionWrites r (fun w => lpeWrite w (0x1008 + 0x100 * k.val) v) s)
/-- OPERATOR_SETPOINT_WRITE (R117). -/
def execOperatorSetpointWrite (r : Req) (k : Fin 128) (v : Word) (s : State) : Outcome :=
  .next (sessionWrites r (fun w => lpeWrite w (0x1018 + 0x100 * k.val) v) s)
/-- MANUAL_VALUE_WRITE (R123). -/
def execManualValueWrite (r : Req) (k : Fin 128) (v : Word) (s : State) : Outcome :=
  .next (sessionWrites r (fun w => lpeWrite w (0x101C + 0x100 * k.val) v) s)
/-- TRACE_ARM (R141). -/
def execTraceArm (r : Req) (j : Fin 16) (s : State) : Outcome :=
  .next (sessionWrites r (fun w => lpeWrite w (0x40C + 0x20 * j.val) 1) s)
/-- TRACE_FORCE (R142). -/
def execTraceForce (r : Req) (j : Fin 16) (s : State) : Outcome :=
  .next (sessionWrites r (fun w => lpeWrite w (0x40C + 0x20 * j.val) 2) s)
/-- TRACE_STOP (R141). -/
def execTraceStop (r : Req) (j : Fin 16) (s : State) : Outcome :=
  .next (sessionWrites r (fun w => lpeWrite w (0x40C + 0x20 * j.val) 4) s)
/-- TRACE_CONFIG_WRITE (R142). -/
def execTraceConfigWrite (r : Req) (j : Fin 16) (reg : TraceReg) (v : Word) (s : State) : Outcome :=
  let q := match reg with | .cfg => 0 | .trig => 4 | .level => 8
  .next (sessionWrites r (fun w => lpeWrite w (0x400 + 0x20 * j.val + q) v) s)

end Sys2Proof.Machine
end

