-- ==== Sys2Proof/Machine/RegView.lean ====
section
/-! DEFINITION. What a reader sees in every register of the object space (R340 and the region tables): each register is
composed from the state that holds it (log 3). Beside its value a view gives the bits that the tables reserve, whose value
on a read R8 leaves undefined. -/

namespace Sys2Proof.Machine

/-- A register's value and its reserved bits. -/
abbrev RV := Word × Word

/-- A register without reserved bits. -/
def rv (w : Word) : RV := (w, 0)
/-- A reserved register. -/
def rvRes : RV := (0, 0xFFFFFFFF)
/-- A number at a bit position. -/
def fld (n lo : Nat) : Word := Word.field n lo
/-- A flag at a bit position. -/
def bit (b : Bool) (n : Nat) : Word := Word.flag b n
/-- The low and high half of a 64-bit number. -/
def lo32 (n : Nat) : Word := BitVec.ofNat 32 n
/-- Bits 32 to 63. -/
def hi32 (n : Nat) : Word := BitVec.ofNat 32 (n / 4294967296)
/-- A signed number in 16 bits. -/
def s16 (i : Int) : Word := (BitVec.ofInt 16 i).setWidth 32
/-- Bits gathered from a condition on an index. -/
def bitsOf (n : Nat) (f : Nat → Bool) : Word := (List.range n).foldl (fun w i => orBit w i (f i)) 0
/-- A number that stays at the top of its width. -/
def satTo (top n : Nat) : Nat := if n > top then top else n

/-! ### ID (R22, R341) -/

/-- The code of a module state (R22). -/
def stateCode : ModState → Nat
  | .start => 0
  | .run => 1
  | .commissioning => 2
  | .hold => 3
  | .decaf => 4
  | .safe => 5

/-- The code of a role (R22). -/
def roleCode : Role → Nat
  | .single => 0
  | .active => 1
  | .standby => 2

/-- The ID region. -/
def idView (s : State) (off : Nat) : RV :=
  match off with
  | 0x00 => rv 0x00000A41
  | 0x04 => rv (fld 0x0096 16 ||| fld (if s.id.chopFitted then 0x4D else 0x4E) 8 ||| s.id.hwRev.setWidth 32)
  | 0x08 => rv s.id.serial
  | 0x0C => rv s.id.fw
  | 0x10 => (bit s.sup.blank 7 ||| bit (s.cmp.mode != .checked) 6 ||| fld (roleCode (roleShown s)) 4 |||
             fld (stateCode s.sup.mode) 0, 0xFFFFFF00)
  | 0x14 => rv (bit s.id.chopFitted 0)
  | 0x38 => rv (lo32 (satTo 0xFFFFFFFF ((nowUs s - s.boot.startUs) / 1000000)))
  | _ => if 0x18 ≤ off && off < 0x38 then
           rv (if s.boot.loaded then (s.img.digest >>> (8 * (off - 0x18))).setWidth 32 else 0) else rv 0

/-! ### SUP (R427) -/

/-- The code of a reset class (R427). -/
def classCode : ResetClass → Nat
  | .p => 0
  | .b => 1
  | .x => 2
  | .s => 3
  | .w => 4

/-- Episodes of the last 60 s (R410, R427). -/
def episodes60 (s : State) : Nat := countIf (fun t => decide (nowUs s < t + 60000000)) s.sup.episodeAt

/-- The RTC, seconds since 2000-01-01 UTC (R414). -/
def rtcNow (s : State) : Word := s.sup.rtc + lo32 ((nowUs s - s.sup.rtcAt) / 1000000)

/-- The UTC scale from the RTC (R339); at a start before the first record takes its TIME (R343). -/
def utcFromRtc (s : State) : State :=
  onPnw (fun p => { p with utcOffset := (rtcNow s).toNat * 1000000 - (nowUs s : Int) }) s

/-- Whether RST_N is ignored: stuck, and not yet high for 100 ms (R420). -/
def rstIgnored (s : State) : Bool :=
  s.sup.rstStuck && !(s.sup.rstHighAt.any (fun t => decide (t + 100000 ≤ nowUs s)))

/-- The SUP region. -/
def supView (s : State) (off : Nat) : RV :=
  let u := s.sup
  match off with
  | 0x00 => (bit u.rstPin 5 ||| bit (rstIgnored s) 4 ||| bit u.vbakLow 3 ||| bit u.vinHigh 2 ||| bit u.unstable 1 ||| bit u.vinWarn 0, 0xFFFFFFC0)
  | 0x04 => rv (fld u.vinMin.toNat 16 ||| u.vinNow.setWidth 32)
  | 0x08 => rv (u.vbak.setWidth 32)
  | 0x0C => (fld u.lastCause.toNat 16 ||| bit u.noWarn 8 ||| fld (classCode u.lastClass) 0, 0xFF00FEF8)
  | 0x10 => rv (fld u.rcntP.toNat 24 ||| fld u.rcntB.toNat 16 ||| fld u.rcntX.toNat 8 ||| u.rcntS.setWidth 32)
  | 0x14 => rv (fld u.episodes.toNat 16 ||| fld (satTo 255 (episodes60 s)) 0)
  | 0x18 => (u.evt, 0xFFFFFF80)
  | 0x1C => rv (rtcNow s)
  | 0x20 => (bit u.mirrorDiff 2 ||| bit u.mirrorOkShown 1 ||| bit u.rtcValidShown 0, 0xFFFFFFF8)
  | 0x24 => rv (if u.mode = .hold then lo32 ((nowUs s - u.holdSince) / 1000000) else u.holdSec)
  | 0x28 => rv (fld ((4 * s.img.retain.length + 1023) / 1024) 16 ||| bit u.cleared 1 ||| bit u.replayed 0)
  | _ => rv 0

/-! ### TIM (R51) -/

/-- The ledger limit in mW (R47). -/
def ledgerLimit : Nat := 5000

/-- The ledger sum of a group as shown: its controller and sixteen surveyed channels in Decaf, the image's where one is loaded,
else the default (R47, R49, R51). -/
def ledgerShown (s : State) (g : Nat) : Nat :=
  if s.sup.mode = .decaf then 150 + 16 * 12 else if s.boot.loaded then groupLedger s.img g else 0

/-- The TIM region. -/
def timView (s : State) (off : Nat) : RV :=
  let t := s.tim
  match off with
  | 0x00 => rv (lo32 (nowUs s))
  | 0x04 => rv (hi32 (nowUs s))
  | 0x08 => (bit t.qSeesTb 3 ||| bit t.tbSeesQ 2 ||| bit t.tickFault 1 ||| bit t.tbRun 0, 0xFFFFFFF0)
  | 0x0C => rv t.qtick
  | 0x10 => (fld t.lowA.toNat 16 ||| t.gaugeA.setWidth 32, 0xFC00FC00)
  | 0x14 => (fld t.lowB.toNat 16 ||| t.gaugeB.setWidth 32, 0xFC00FC00)
  | 0x18 => (fld (floors s).2 16 ||| fld (floors s).1 0, 0xFC00FC00)
  | 0x1C => (fld s.img.vunshedMv 20 ||| fld s.img.vminMv 10 ||| t.vcore.setWidth 32, 0xC0000000)
  | 0x20 => rv (s16 t.tj)
  | 0x24 => rv (fld t.drawPeak.toNat 16 ||| t.drawAvg.setWidth 32)
  | 0x28 => rv (lo32 s.img.ceilingMw)
  | 0x2C => rv (t.ceilOp.setWidth 32)
  | 0x30 => (bit (t.ceilOp != 0) 17 ||| bit t.boHold 16 ||| lo32 (effCeiling s), 0xFFFC0000)
  | 0x34 => (bit t.gaugeDis 10 ||| bit t.floorLost 9 ||| bit t.unattain 8 ||| bitsOf 5 (fun i => decide (i < t.shed)), 0xFFFFF8E0)
  | 0x38 => (t.evt, 0xFFFFFFE0)
  | 0x3C => rv (fld ledgerLimit 16 ||| lo32 (((List.range 6).map (ledgerShown s)).sum))
  | 0x40 => rv (t.barrierMw.setWidth 32)
  | _ => if 0x44 ≤ off && off < 0x5C then rv (lo32 (ledgerShown s ((off - 0x44) / 4))) else rv 0

/-! ### BOOT (R450) -/

/-- The state of a half (R450). -/
def halfView (h : HalfSt) : RV := (bit h.loaded 9 ||| bit h.valid 8 ||| h.reason.setWidth 32, 0xFFFFFC00)

/-- Whether the survey runs (R443, R450). -/
def surveying (s : State) : Bool := s.sup.mode == .decaf

/-- The BOOT region. -/
def bootView (s : State) (off : Nat) : RV :=
  let b := s.boot
  match off with
  | 0x00 => (bit b.writer.isSome 5 ||| bit b.fallback 4 ||| bit b.enrolled 3 ||| bit b.loaded 2 ||| bit (b.half == 1) 1 |||
             bit b.flashOk 0, 0xFFFFFFC0)
  | 0x04 => rv (bit (b.reasonHalf == 1) 8 ||| b.reason.setWidth 32)
  | 0x08 => rv (b.decaf.setWidth 32)
  | 0x0C => rv b.starts
  | 0x10 => rv (b.fails.setWidth 32)
  | 0x14 => rv (b.failDig.setWidth 32)
  | 0x18 => rv (if b.flashOk then fld b.flashMbit 16 ||| fld (if b.flashMbit > 128 then 4 else 3) 8 ||| b.flashJedec.setWidth 32 else 0)
  | 0x1C => rv (if b.h0.valid then b.h0.gen else 0)
  | 0x20 => rv (if b.h1.valid then b.h1.gen else 0)
  | 0x24 => halfView b.h0
  | 0x28 => halfView b.h1
  | 0x2C => rv (if b.loaded then lo32 s.img.len else 0)
  | 0x30 => rv (b.tRun.setWidth 32)
  | 0x34 => rv (match b.runUs with
      | some t => lo32 (satTo 0xFFFFFFFF ((nowUs s - t) / 1000000))
      | none => 0)
  | 0x38 => (match b.writer with
      | some w => bit true 31 ||| bit (w.half == 1) 30 ||| lo32 w.sectors
      | none => 0, 0x3FFFE000)
  | 0x3C => rv (lo32 s.pnw.imageKeys.length)
  | 0x40 => (b.evt, 0xFFFFFFE0)
  | _ =>
    if !surveying s then rv 0
    else if 0x100 ≤ off && off < 0x130 then
      rv ((List.range 8).foldl (fun w k => w ||| fld (tget {} b.survey (8 * ((off - 0x100) / 4) + k)).cls.toNat (4 * k)) 0)
    else if 0x140 ≤ off && off < 0x14C then rv (bitsOf 32 (fun k => let v := tget {} b.survey (32 * ((off - 0x140) / 4) + k); v.almState || v.almQual || v.almValue))
    else if 0x200 ≤ off && off < 0x380 then rv (tget {} b.survey ((off - 0x200) / 4)).value
    else rv 0

/-! ### CYC (R88) -/

/-- The depth of a cell under the root (R68). -/
def cellDepth (s : State) : Nat → Nat → Nat
  | 0, _ => 0
  | k + 1, n => if n = 0 then 0 else 1 + cellDepth s k (cellCfg s n).parent

/-- The CYC region. -/
def cycView (s : State) (off : Nat) : RV :=
  let c := s.cyc
  let n := s.img.cells.length
  match off with
  | 0x00 => rv (lo32 (cycleUs s))
  | 0x04 => rv (lo32 s.img.offsetUs)
  | 0x08 => rv (lo32 s.img.deadlineUs)
  | 0x0C => rv (c.count.setWidth 32)
  | 0x10 => rv ((c.count >>> 32).setWidth 32)
  | 0x14 => rv (c.execLast.setWidth 32)
  | 0x18 => rv (c.execMax.setWidth 32)
  | 0x1C => rv c.opsLast
  | 0x20 => rv (lo32 s.img.worstOps)
  | 0x24 => (bit c.ovrLast 16 ||| c.ovrCount.setWidth 32, 0xFFFE0000)
  | 0x28 => (c.evt, 0xFFFFFFC0)
  | 0x2C => (bit c.unsaved 31 ||| bit (c.sched.any (fun x => match x.act with | .change _ => true | _ => false)) 30 |||
             lo32 c.consts.length, 0x3FFFF800)
  | 0x30 => (bit (c.forces.any (fun f => safetyTarget s f.1)) 31 |||
             bit (c.sched.any (fun x => match x.act with | .force _ _ => true | .releaseCell _ => true | _ => false)) 30 ||| lo32 c.forces.length, 0x3FFFFE00)
  | 0x34 => (fld ((List.range n).foldl (fun m k => max m (cellDepth s n k)) 0) 16 ||| lo32 n, 0xF000E000)
  | _ =>
    if 0x1000 ≤ off && off < 0x5000 then
      let k := (off - 0x1000) / 4
      if k < n then ((cellSt s k).status, 0xFFFF0080) else rv 0
    else if 0x5000 ≤ off && off < 0x9000 then
      let k := (off - 0x5000) / 4
      if k < n then (fld (cellDepth s n k) 20 ||| fld (cellSt s k).mode.toNat 16 ||| lo32 (cellCfg s k).parent, 0xF000) else rv 0
    else rv 0

/-! ### CMP (R113) -/

/-- Whether the image configures a Category 4 slot. -/
def hasCat4 (s : State) : Bool := s.img.slotsCfg.any (fun c => c.2.cat == 4)

/-- The CMP region. -/
def cmpView (s : State) (off : Nat) : RV :=
  let c := s.cmp
  match off with
  | 0x00 => (bit (c.mode != .checked) 6 ||| bit (s.img.split && !hasCat4 s) 5 ||| bit (hasCat4 s) 4 ||| bit c.pending 3 ||| bit c.divPend 2 |||
             fld (match c.mode with | .checked => 0 | .split => 1 | .rejoining => 2) 0, 0xFFFFFF00)
  | 0x04 => rv c.sigOutA
  | 0x08 => rv c.sigOutB
  | 0x0C => rv c.sigRegA
  | 0x10 => rv c.sigRegB
  | 0x14 => (fld c.qMax.toNat 16 ||| lo32 (queued c), 0xFF80FF80)
  | 0x18 => (fld c.divVerdict.toNat 30 ||| c.divCell.setWidth 32, 0x3FFFF000)
  | 0x1C => rv c.divCycle
  | 0x20 => (fld c.benignTotal.toNat 16 ||| lo32 (satTo 8 (countIf (fun t => decide (nowUs s < t + 3600000000)) c.benignAt)), 0xFFF0)
  | 0x24 => (fld c.faultCell.toNat 16 ||| c.faultReason.setWidth 32, 0xF000FF00)
  | 0x28 => (bit c.testDone 31 ||| bit c.testPass 30 ||| fld c.testFirst.toNat 16 ||| fld c.testMisses.toNat 8 |||
             c.testDur.setWidth 32, 0x3F000000)
  | 0x2C => (fld c.xw.toNat 16 ||| bit c.rejoinBlock 15 ||| fld c.obs.toNat 8 ||| c.obsMism.setWidth 32, 0x6000)
  | 0x30 => (c.evt, 0xFFFFFFC0)
  | _ => rv 0

/-! ### LPE and TRC (R143, R144) -/

/-- LPE_S_STAT (R144). -/
def loopStat (s : State) (k : Nat) : Word :=
  let x := lslot s k
  bit x.stNan 13 ||| bit x.stKbad 12 ||| bit x.stMism 11 ||| bit x.stTake 10 ||| bit x.stTrack 9 ||| bit x.stOver 8 |||
  bit x.stCompl 7 ||| bit x.stPvBad 6 ||| bit x.stRate 5 ||| bit x.stLim 4 ||| bit x.stClamped 3 |||
  bit (x.winner || (loopCfg s k).group.isNone) 2 ||| fld (effMode s k).toNat 0

/-- The registers of loop slot k (R144). -/
def loopView (s : State) (k r : Nat) : RV :=
  let c := loopCfg s k
  let x := lslot s k
  let used := (iget s.img.loops k).isSome
  match r with
  | 0x00 => if used then (bit true 31 ||| bit c.direct 30 ||| bit c.group.isSome 29 ||| fld (c.group.getD 0) 24 |||
              fld c.schedSrc.toNat 22 ||| lo32 c.period, 0x3E0000) else (0, 0x3E0000)
  | 0x04 => (fld c.pvch 25 ||| fld (outChan s k) 18 ||| lo32 c.phase, 0x20000)
  | 0x08 => rv ((effMode s k).setWidth 32)
  | 0x0C => (if used then loopStat s k else 0, 0xFFFFC000)
  | 0x10 => rv x.pv
  | 0x14 => rv x.sp
  | 0x18 => rv x.spop
  | 0x1C => rv x.man
  | 0x20 => rv x.out
  | 0x24 => rv x.cand
  | 0x28 => rv x.p
  | 0x2C => rv x.i
  | 0x30 => rv x.d
  | 0x34 => rv x.ff
  | 0x38 => rv x.kp
  | 0x3C => rv x.ti
  | 0x40 => rv x.td
  | 0xC4 => rv (c.bind.foldl (fun w b => setBit w b.1) 0)
  | 0xC8 => (fld c.spSrc.toNat 30 ||| fld c.outer 23 ||| fld c.ffSrc.toNat 21 ||| fld c.ffch 14 ||| fld c.pvbad.toNat 12, 0xFFF)
  | 0xCC => (x.evt, 0xFFFFFFF0)
  | 0xD0 => (fld x.wins.toNat 16 ||| x.mism.setWidth 32, 0xFF00)
  | _ => if 0x44 ≤ r && r < 0xC4 then rv (if used then lpar x ((r - 0x44) / 4) else 0) else rvRes

/-- The code of a trace state (R144). -/
def traceCode : TraceState → Nat
  | .idle => 0
  | .armed => 1
  | .capturing => 2
  | .done => 3
  | .shed => 4

/-- The registers of trace channel j (R144). -/
def traceView (s : State) (j r : Nat) : RV :=
  let t := tget {} s.lpe.traces j
  match r with
  | 0x00 => (t.cfg, 0xF0000)
  | 0x04 => (t.trig, 0xFFE000)
  | 0x08 => rv t.level
  | 0x10 => rv (fld (traceCode t.st) 29 ||| bit t.trunc 28 ||| bit t.capshed 27 ||| fld t.count 13 ||| t.wridx.setWidth 32)
  | 0x14 => rv t.tlo
  | 0x18 => rv t.thi
  | 0x1C => rv (t.orig.setWidth 32)
  | _ => rv 0

/-- The LPE region. -/
def lpeView (s : State) (off : Nat) : RV :=
  let l := s.lpe
  match off with
  | 0x00 => (fld s.img.loopGroups.length 16 ||| fld s.img.loops.length 0, 0xFF00)
  | 0x04 => (bit l.testPass 3 ||| bit l.testDone 2 ||| bit (l.held && l.transferred) 1 ||| bit (lpeRuns s) 0, 0xFFFFFFF0)
  | 0x08 => rv (fld l.tickMax.toNat 16 ||| l.tickLast.setWidth 32)
  | 0x0C => rv (fld l.mismTotal.toNat 16 ||| lo32 (countIf (fun t => decide (nowUs s < t + 10000000)) l.mismAt))
  | 0x10 => (l.evt, 0xFFFFFFE0)
  | _ =>
    if 0x100 ≤ off && off < 0x300 then
      let g := (off - 0x100) / 0x10
      let c := lgroupCfg s g
      let x := tget {} l.groups g
      match off % 0x10 with
      | 0x00 => (if (iget s.img.loopGroups g).isSome then bit true 31 ||| fld c.count 16 ||| fld c.head 8 ||| fld c.outch 0 else 0, 0x7FF08080)
      | 0x04 =>
        let used := (iget s.img.loopGroups g).isSome
        (fld (if used then (effMode s c.head).toNat else 0) 16 ||| fld x.prev.toNat 8 ||| fld x.winner.toNat 0, 0xFFFC8080)
      | 0x08 => rv x.out
      | _ => rv (x.switches.setWidth 32)
    else if 0x400 ≤ off && off < 0x600 then traceView s ((off - 0x400) / 0x20) ((off - 0x400) % 0x20)
    else if 0x1000 ≤ off && off < 0x9000 then loopView s ((off - 0x1000) / 0x100) ((off - 0x1000) % 0x100)
    else rv 0

/-- The TRC region: a position that nothing has written since power-on is undefined (R143). -/
def trcView (s : State) (off : Nat) : RV :=
  match (tget {} s.lpe.traces (off / 0x8000)).mem.find? (fun p => p.1 == off % 0x8000 / 4) with
  | some p => rv p.2
  | none => rvRes

/-! ### FCH (R183, R202) -/

/-- FCH_MODE of a channel. -/
def modeWord (s : State) (i : Nat) : Word :=
  let c := chanCfg s i
  bit c.loop 31 ||| bit c.safety 30 ||| fld c.par.toNat 28 ||| fld c.parn.toNat 26 ||| bit c.supply 25 ||| bit c.substFix 24 |||
    fld c.rate.toNat 20 ||| fld c.sub.toNat 8 ||| fld (chanMode s i) 0

/-- FCH_RB of a channel index (R183): of a switching output what its stage implies, of a voltage input its conversion; the
current of a stage that is off is 0. No command carries the terminal voltage of any other input, which is left open (log 19). -/
def rbWord (s : State) (i : Nat) : RV :=
  let x := chan s i
  let m := chanMode s i
  if isSwitch m then rv (fld (if x.stage then x.rbCur.toNat else 0) 16 ||| (readbackVolt s i).setWidth 32)
  else if m = 9 then rv (fld (satTo 65535 (x.lmean / 1000).toNat) 16)
  else if m = 5 || m = 0 then rv (x.rbVolt.setWidth 32)
  else (0, 0xFFFF)

/-- The registers of a channel index (R183). -/
def chanView (s : State) (i r : Nat) : RV :=
  let c := chanCfg s i
  let x := chan s i
  match r with
  | 0x00 => (modeWord s i, 0xF00F0 ||| (if chanMode s i = 9 then 0xF800 else 0))
  | 0x04 => rv c.filt
  | 0x08 => rv c.lo
  | 0x0C => rv c.hi
  | 0x10 => rv c.aux
  | 0x14 => rv c.subst
  | 0x18 => rv (if chanMode s i = 0 then x.value else valueWord s i)
  | 0x1C => (qualWord s i, 0xFFFFFCF0)
  | 0x20 => rv x.cmd
  | 0x24 => rbWord s i
  | 0x28 => rv (x.rawCode.setWidth 32)
  | 0x2C => (x.evt, 0xFFFFFF80)
  | 0x30 => rv (fld x.faults.toNat 16 ||| x.retries.setWidth 32)
  | _ => rvRes

/-- The current-loop block of a channel index (R202). -/
def cloopView (s : State) (i r : Nat) : RV :=
  let x := chan s i
  let t := tget {} s.fch.trims i
  let on := chanMode s i == 9
  match r with
  | 0x10 => rv (if t.bad then 0 else (BitVec.ofInt 16 t.z).setWidth 32)
  | 0x14 => rv (if t.bad then 0 else (BitVec.ofInt 16 t.s).setWidth 32)
  | 0x00 => if on then ((chanCfg s i).ramp.setWidth 32, 0xFFFFC000) else rv 0
  | 0x04 => rv (if on && x.ldrive then rampTarget s i else 0)
  | 0x08 => rv (if on then maOf x.lmean else 0)
  | 0x0C => if on then (bit (s.fch.ses.any (fun q => q.ch.val == i)) 7 ||| bit x.lramp 6 ||| bit x.lpartner 5 ||| bit x.lopen 4 |||
              bit x.lover 3 ||| bit x.qCompl 2 ||| bit x.lclamped 1 ||| bit x.ldrive 0, 0xFFFFFF00) else rv 0
  | 0x18 => rv (if on then fld s.fch.partnerShunt.toNat 16 ||| s.fch.shunt.setWidth 32 else 0)
  | _ => if on then (x.levt, 0xFFFFFFC0) else rv 0

/-- The registers of a group index (R183). -/
def groupView (s : State) (g r : Nat) : RV :=
  let x := grp s g
  match r with
  | 0x00 => (bit ((pairsIn s g).any (fun p => (tget {} s.saf.pairs p).sag)) 7 ||| bit (lowFault x && !x.maint) 6 ||| bit s.tim.barLimit 5 |||
             bit x.high 4 ||| fld (supplyNibble x) 0, 0xFFFFFF00)
  | 0x04 => rv (fld x.current.toNat 16 ||| x.volt.setWidth 32)
  | 0x08 => rv (x.voltMin.setWidth 32)
  | 0x0C => rv (s16 x.cj)
  | 0x10 => (bit x.maintPend 1 ||| bit x.maint 0, 0xFFFFFFFC)
  | 0x14 => (x.evt, 0xFFFFFF80)
  | 0x18 => rv (fld x.cntWarn.toNat 16 ||| x.cntFault.setWidth 32)
  | _ => rv 0

/-- The FCH region. -/
def fchView (s : State) (off : Nat) : RV :=
  match off with
  | 0x00 => (fld (countIf (fun i => chanMode s i == 0xA) allChans) 16 ||| fld s.img.pairsCfg.length 8 |||
             lo32 (countIf (fun i => chanMode s i != 0) allChans), 0xFFE0E000)
  | 0x04 => rv (supplyWord s)
  | 0x08 => (s.fch.evt, 0xFFC0C0C0)
  | 0x10 =>
    let stuck := s.fch.stuckUp || s.fch.stuckDn || s.fch.stuckSet
    (bit stuck 29 ||| bit s.fch.pinSet 28 ||| bit s.fch.pinDn 27 ||| bit s.fch.pinUp 26 |||
      (match s.fch.ses with
       | some t => bit true 31 ||| bit (t.point == .span) 30 ||| fld (t.ch.val + 1) 16 ||| (BitVec.ofInt 16 t.pending).setWidth 32
       | none => 0), 0x3800000)
  | _ =>
    if 0x100 ≤ off && off < 0x280 then groupView s ((off - 0x100) / 0x40) ((off - 0x100) % 0x40)
    else if 0x1000 ≤ off && off < 0x7000 then chanView s ((off - 0x1000) / 0x100) ((off - 0x1000) % 0x100)
    else if 0x8000 ≤ off && off < 0x8C00 then cloopView s ((off - 0x8000) / 0x20) ((off - 0x8000) % 0x20)
    else rv 0

/-! ### SAF (R239) -/

/-- Whether a start has brought up the field side and the role: until then the fields that report them hold their defaults (R11,
R239). -/
def fieldKnown (s : State) : Bool := s.boot.loaded || s.sup.mode == .decaf

/-- The code of a slot state (R211). -/
def slotCode : SlotState → Nat
  | .demanded => 0
  | .released => 1
  | .awaiting => 2
  | .fault => 3

/-- SAF_STATES, the same word as input image word 0x00C5 (R211). -/
def statesWord (s : State) : Word := (List.range 16).foldl (fun w n => w ||| fld (slotCode (tget {} s.saf.slots n).st) (2 * n)) 0

/-- The registers of safety slot n (R239). -/
def slotView (s : State) (n r : Nat) : RV :=
  let c := slotCfg s n
  let x := tget {} s.saf.slots n
  let used := (iget s.img.slotsCfg n).isSome
  match r with
  | 0x00 => (if used then bit true 31 ||| fld c.typ.toNat 28 ||| fld c.cat.toNat 25 ||| bit c.antiv 24 ||| bit c.auto 23 |||
              bit c.startup 22 ||| fld c.nch.toNat 19 ||| c.trig.setWidth 32 else 0, 0x70000)
  | 0x04 => rv (fld c.ch1 0 ||| fld c.ch2 8 ||| fld c.ch3 16 ||| fld c.ch4 24)
  | 0x08 => rv (fld c.tps1 0 ||| fld c.tps2 8 ||| fld c.tps3 16 ||| fld c.tps4 24)
  | 0x0C => rv (c.pairs.setWidth 32)
  | 0x10 => rv (fld c.offDelay 16 ||| lo32 c.tMs)
  | 0x14 => rv (lo32 c.rst)
  | 0x18 => (fld x.fault.toNat 16 ||| bit x.rstStuck 12 ||| bit x.testFailed 11 ||| bit (used && testOverdue s n) 10 |||
             bit (used && testDue s n) 9 ||| bit x.testing 8 ||| bit x.ext 7 ||| bit (c.typ == 2 && !x.rearmed && x.st != .released) 6 |||
             bit x.syncMiss 5 ||| bit x.delaying 4 ||| bit x.startupPend 3 ||| fld (slotCode x.st) 0, 0xFF00E004)
  | 0x1C => rv (fld x.cntFault.toNat 24 ||| fld x.cntLong.toNat 16 ||| x.cntDemand.setWidth 32)
  | 0x20 => rv (fld c.tfb 25 ||| fld c.grace 18 ||| fld c.interval 8 ||| fld c.ttest 0)
  | 0x24 => rv (lo32 (brakeAge s n))
  | _ => rvRes

/-- The registers of pair p (R239). -/
def pairView (s : State) (p r : Nat) : RV :=
  let c := pairCfg s p
  let x := tget {} s.saf.pairs p
  match r with
  | 0x00 => (if (iget s.img.pairsCfg p).isSome then bit true 31 ||| bit c.stest 29 ||| fld c.tedm 21 ||| fld c.edmch 14 |||
              fld c.mch 7 ||| fld c.pch 0 else bit c.stest 29 ||| fld c.tedm 21, 0x50000000)
  | 0x04 => (bitsOf 16 (fun n => (slotCfg s n).pairs.getLsbD p && !holdsEnabled (tget {} s.saf.slots n)) <<< 16 |||
             bit x.short 10 ||| bit x.stuck 9 ||| bit x.edm 8 ||| bit x.maint 7 ||| bit x.sag 6 ||| bit (latched x) 5 |||
             bit x.on 4 ||| bit x.req 3 ||| bit (fieldKnown s && drives s) 2 ||| bit x.len 1 ||| bit x.qen 0, 0xF800)
  | 0x08 => rv (fld x.cntLatch.toNat 16 ||| x.cntOn.setWidth 32)
  | _ => rvRes

/-- The SAF region. -/
def safView (s : State) (off : Nat) : RV :=
  let ps := s.saf.pairs
  match off with
  | 0x00 =>
    let tps := ((s.img.slotsCfg.flatMap (fun c => [c.2.tps1, c.2.tps2, c.2.tps3, c.2.tps4])).filter (· != 0)).eraseDups.length
    (bit (hasCat4 s) 24 ||| fld tps 16 ||| fld s.img.pairsCfg.length 8 ||| lo32 s.img.slotsCfg.length, 0xFEE0E0E0)
  | 0x04 => (bit (s.saf.tickFault || (fieldKnown s && (!quillActive s || !drives s))) 10 ||| bit s.saf.tickFault 9 ||| bit (quillActive s) 8 |||
             bitsOf 6 (fun g => fieldKnown s && !(grp s g).quillLost), 0xFFFFF8C0)
  | 0x08 => rv (statesWord s)
  | 0x0C => rv (bitsOf 24 (fun p => (tget {} ps p).qen))
  | 0x10 => rv (bitsOf 24 (fun p => (tget {} ps p).on))
  | 0x14 => rv (bitsOf 24 (fun p => latched (tget {} ps p)))
  | 0x18 => rv (s.saf.rspMax.setWidth 32)
  | 0x1C => rv s.img.safetyDigest
  | _ =>
    if 0x400 ≤ off && off < 0x580 then pairView s ((off - 0x400) / 0x10) (off % 0x10)
    else if 0x1000 ≤ off && off < 0x1400 then slotView s ((off - 0x1000) / 0x40) ((off - 0x1000) % 0x40)
    else rv 0

/-! ### ALM (R265) -/

/-- ALM_N as driven: in Decaf while the peer net does not read low, with or without a survey alarm (R252, R445; DEDUCED, log 171). -/
def almNOut (s : State) : Bool := if s.sup.mode = .decaf then !s.pst.peerLow else s.alm.almN

/-- Counts of a priority: unacknowledged and active points. -/
def countWord (s : State) (prio : BitVec 2) : Word :=
  let l := (points s).filter (fun p => p.2.prio == prio)
  fld (countIf (fun p => isUnack (pnt s p.1).st) l) 16 ||| lo32 (countIf (fun p => isActive (pnt s p.1).st) l)

/-- The remaining shelf time in whole minutes. -/
def shelfMin (p : Point) : Nat := (p.shelfEval + 5999) / 6000

/-- Whether a point's on-delay or off-delay runs (R244). -/
def delaying (p : Point) : Bool := p.onCnt != 0 || p.offCnt != 0

/-- Whether this module announces (R262). -/
def announces (s : State) : Bool := inService s && roleShown s != .standby || s.sup.mode == .safe && roleShown s != .standby

/-- The state bits of a point (R265). -/
def pointView (s : State) (n : Nat) : Word :=
  match iget (points s) n with
  | none => 0xF
  | some c =>
    let p := pnt s n
    bit true 31 ||| fld (shelfMin p) 16 ||| fld ((c.call.map (·.val)).getD 0) 13 ||| fld c.prio.toNat 11 ||| bit p.srcBad 10 |||
      bit p.cond 9 ||| bit (delaying p) 8 ||| bit p.suppr 7 ||| bit p.held 6 ||| bit p.silenced 5 ||| fld (pointCode p.st) 0

/-- Seconds left of the dead-man timer's present state (R265). -/
def deadRemain (s : State) : Nat :=
  match s.img.dead with
  | none => 0
  | some d =>
    let gone := (nowUs s - s.alm.deadSince) / 1000000
    match s.alm.dead with
    | .running => d.tDm - gone
    | .prewarn => d.tPre - gone
    | _ => 0

/-- The registers of call group c (R265). -/
def callView (s : State) (c r : Nat) : RV :=
  let cfg := (iget s.img.calls c).getD {}
  let x := tget {} s.alm.calls c
  let d := tget {} s.alm.duty c
  match r with
  | 0x00 => (bit (iget s.img.calls c).isSome 31 ||| fld cfg.thr.toNat 29 ||| fld cfg.t2 19 ||| fld cfg.t1 9 ||| cfg.list.setWidth 32, 0x100)
  | 0x04 => (fld (match x.st with | .none_ => 0 | .calling => 1 | .accepted => 2) 30 ||| fld x.stage.toNat 28 ||| bit (!d.assigned && (iget s.img.calls c).isSome) 27 |||
             fld d.duty.toNat 24 ||| fld d.backup.toNat 21 ||| fld x.accepted.toNat 18 ||| lo32 (satTo 0xFFF x.members), 0x3F000)
  | 0x08 => rv (if x.st = .none_ then 0 else lo32 ((nowUs s - x.startUs) / 1000000))
  | 0x0C => rv (fld x.calls.toNat 16 ||| x.escalations.setWidth 32)
  | _ => rvRes

/-- A cell's alarm summary (R265). -/
def cellAlmView (s : State) (n : Nat) : RV :=
  if n < s.img.cells.length then
    let x := tget {} s.alm.cells n
    let g := (cellCfg s n).group
    let calling := match g with
      | some a => (match a.call with | some c => (tget {} s.alm.calls c.val).st != .none_ | none => false)
      | none => false
    (bit g.isSome 31 ||| bit calling 30 ||| bit x.shelved 29 ||| bit x.blocked 28 ||| bit x.suppr 27 ||| fld x.prio.toNat 25 |||
      fld (satTo 4095 x.unack) 12 ||| fld (satTo 4095 x.active) 0, 0x1000000)
  else rv 0

/-- The ALM region. -/
def almView (s : State) (off : Nat) : RV :=
  let a := s.alm
  let pts := points s
  match off with
  | 0x00 => rv (fld (countIf (fun c => c.group.isSome) s.img.cells) 16 ||| lo32 pts.length)
  | 0x04 =>
    let un := pts.filter (fun p => isUnack (pnt s p.1).st)
    let gs := (List.range s.img.cells.length).filter (fun c => (cellCfg s c).group.isSome && (tget {} s.alm.cells c).unack != 0)
    (bit s.img.net.acnEn 4 ||| bit (announces s) 3 |||
      bit (!(un.isEmpty && gs.isEmpty) && un.all (fun p => (pnt s p.1).silenced) && gs.all (fun c => (tget {} s.alm.cells c).silenced)) 2 |||
      bit (almNOut s) 1 ||| bit (!s.sup.blank && (inService s || s.sup.mode == .safe)) 0, 0xFFFFFFE0)
  | 0x08 => rv (fld a.evalMax.toNat 16 ||| a.evalLast.setWidth 32)
  | 0x10 => (a.evt, 0xFFFFFFC0)
  | 0x14 => (fld (match a.dead with | .off => 0 | .running => 1 | .prewarn => 2 | .alarm => 3) 30 ||| fld a.deadEngineer.toNat 27 |||
             fld ((s.img.dead.map (·.group.val)).getD 0) 24 ||| lo32 (satTo 0xFFF (deadRemain s)), 0xFFF000)
  | 0x18 => rv (fld (countIf (fun p => (pnt s p.1).st == .blocked) pts) 16 ||| lo32 (countIf (fun p => (pnt s p.1).st == .shelved) pts))
  | 0x20 => rv (countWord s 3)
  | 0x24 => rv (countWord s 2)
  | 0x28 => rv (countWord s 1)
  | _ =>
    if 0x400 ≤ off && off < 0x500 then callView s ((off - 0x400) / 0x20) ((off - 0x400) % 0x20)
    else if 0x1000 ≤ off && off < 0x5000 then cellAlmView s ((off - 0x1000) / 4)
    else if 0x8000 ≤ off && off < 0x10000 then
      let n := (off - 0x8000) / 8
      if off % 8 = 0 then (pointView s n, 0x70000010) else rv (pnt s n).value
    else rv 0

/-! ### PST and SLK (R302, R303) -/

/-- The budget of a delta in bytes (R288). -/
def deltaBudget (s : State) : Nat := min 786432 (220 * s.img.cycleUs)

/-- Whether a station link port's TESTP allows injection (R301). -/
def injOk (s : State) : Bool := s.sup.mode == .commissioning && s.pst.testp

/-- Whether the background self-test runs: in a standby, the scrub alone in Twin-step mode (R285). -/
def bistOn (s : State) : Bool := s.pst.member && inService s && roleShown s == .standby

/-- The PST region. -/
def pstView (s : State) (off : Nat) : RV :=
  let p := s.pst
  let pl := s.img.plan
  let pr := partner s
  match off with
  | 0x00 => (fld s.img.stnId.toNat 16 ||| fld pl.members.toNat 12 ||| fld (match pl.mode with | .single => 0 | .copy => 1 | .twin => 2) 8 |||
             fld (if p.member then (prefSlot s).toNat else (pl.pref.getD 0).toNat) 6 ||| fld (if p.member then partnerSlot s else 0) 4 ||| fld p.slot.toNat 0, 0xC0C)
  | 0x04 =>
    (bit p.swapDue 16 ||| bit (p.speaker == some p.slot) 15 ||| bit p.mixed 14 ||| bit p.shadow 13 ||| bit p.ready 12 |||
      bit (match pr.hello with | some h => pr.present && h.ready | none => false) 11 ||| bit pr.present 10 |||
      bit (tget {} p.ports 0).up 9 ||| bit p.ilkFault 8 ||| bit p.peerLow 7 ||| bit p.ownLow 6 ||| bit (p.member && gate s) 5 |||
      bit p.copying 4 ||| bit p.instep 3 ||| bit p.tbInhibit 2 ||| fld (roleCode (roleShown s)) 0, 0xFFFE0000)
  | 0x08 => (match pr.hello with
      | some h => bit (h.imgDigest == s.img.digest) 15 ||| bit h.ringOk 14 ||| fld h.glink.toNat 8 ||| fld h.role.toNat 4 ||| fld h.state.toNat 0
      | none => 0, 0xFFFF00C0)
  | 0x10 => rv (fld p.copyMax.toNat 16 ||| p.copyLast.setWidth 32)
  | 0x14 => rv (fld p.copyTMax.toNat 16 ||| p.copyTLast.setWidth 32)
  | 0x18 => rv (fld (deltaBudget s / 64) 16 ||| lo32 ((pl.wcDelta + 63) / 64))
  | 0x1C => rv (fld (satTo 65535 (if p.ready then (nowUs s - p.qualSince) / 1000000 else 0)) 16 ||| lo32 (satTo 65535 p.qualCycles))
  | 0x20 => (fld p.xferCount.toNat 16 ||| fld p.xferAge.toNat 8 ||| p.xferReason.setWidth 32, 0xFF000000)
  | 0x24 => (p.evt, 0xFFFFF800)
  | 0x28 => (bitsOf 4 (fun n => (tget {} p.peers n).present) <<< 12 ||| bitsOf 4 (fun n => (tget {} p.peers n).present && !(tget {} p.peers n).mism) <<< 8 |||
             fld ((p.speaker.map (·.toNat)).getD 0) 4 ||| bit p.speaker.isSome 3, 0xFFFF00C7)
  | 0x2C => rv (fld (satTo 65535 p.terrMax) 16 ||| s16 p.terrLast)
  | 0x30 => rv (fld p.absent.toNat 4 ||| p.stale.setWidth 32)
  | 0x34 => (fld p.bistPasses.toNat 16 ||| fld p.bistCorr.toNat 8 ||| bit (bistOn s) 0, 0xFE)
  | _ => rv 0

/-- The SLK region. -/
def slkView (s : State) (off : Nat) : RV :=
  if off = 0xC0 then rv (bit (injOk s) 1 ||| bit s.pst.testp 0)
  else if off < 0xC0 then
    let p := off / 0x40
    let x := tget {} s.pst.ports p
    match off % 0x40 with
    | 0x00 => (fld (portPeer s p) 8 ||| bit (p == 0 && s.pst.member) 7 ||| bit x.shed 6 ||| bit x.lane1 5 ||| bit x.lane0 4 ||| bit x.up 3, 0xFFFFFC07)
    | 0x04 => rv (x.delay.setWidth 32)
    | 0x08 => rv (fld x.errCheck.toNat 16 ||| x.errSeq.setWidth 32)
    | 0x0C => rv x.frames
    | 0x10 => (x.inj, 0x7FF80000)
    | 0x14 => rv x.injBit
    | 0x18 => rv x.injCnt
    | _ => rvRes
  else rv 0

/-! ### FRG (R322) -/

/-- The ring minimum cycle in µs and the minimum input deadline in µs (R315). L is a rational, held in 4 096ths. -/
def ringLimits (s : State) : Nat × Nat :=
  let st := s.img.ring.stations
  let l := st.foldl (fun n p => n + 1024 + 3 * max p.2.inLen p.2.outLen) 0
  let cyc := 400 + (50 * l + 4095) / 4096
  let dl := 30000 + st.foldl (fun n p => n + 1000 + 8 * (p.2.inLen + 64)) 0
  (max 1000 ((cyc + 249) / 250 * 250), max 50 ((dl + 9999) / 10000 * 10))

/-- The registers of station n (R322). -/
def stnView (s : State) (n r : Nat) : RV :=
  let x := stn s n
  let c := (iget s.img.ring.stations n).getD {}
  match r with
  | 0x00 => (if (iget s.img.ring.stations n).isSome then bit true 31 ||| fld c.outLen 18 ||| fld c.inLen 7 else 0, 0x6000007F)
  | 0x04 => (fld x.status.toNat 16 ||| bit x.subst 4 ||| bit (x.portsLast == 1 || x.portsLast == 2) 3 |||
             fld (match x.st with | .notJoined => 0 | .granted => 1 | .present => 2 | .oneMiss => 3 | .lost => 4) 0, 0xFFE0)
  | 0x08 => rv (fld x.losts.toNat 24 ||| fld x.joins.toNat 16 ||| x.missed.setWidth 32)
  | 0x0C => rv (x.unack.setWidth 32)
  | 0x10 => rv x.typ
  | _ => rvRes

/-- The FRG region. -/
def frgView (s : State) (off : Nat) : RV :=
  let f := s.frg
  let up (p : Nat) : Bool := (tget {} f.ports p).up
  match off with
  | 0x00 => rv (fld (etherTypeOf s).toNat 16 ||| lo32 s.img.ring.stations.length)
  | 0x04 => (bit (ringSender s) 4 ||| bit f.syncOk 3 ||| bit f.pathLost 2 ||| bit (up 1) 1 ||| bit (up 0) 0, 0xFFFFFFE0)
  | 0x08 => rv (presentWord s)
  | 0x0C => rv (bitsOf 32 (fun n => (stn s (n + 1)).st == .lost))
  | 0x10 => (f.evt, 0xFFFFFFE0)
  | 0x14 => rv (fld ((ringLimits s).1 / 10) 16 ||| lo32 (ringLimits s).2)
  | 0x18 => rv (fld f.inarrMax.toNat 16 ||| f.inarrLast.setWidth 32)
  | _ =>
    if 0x100 ≤ off && off < 0x180 then
      let x := tget {} f.ports ((off - 0x100) / 0x40)
      match off % 0x40 with
      | 0x00 => (bit x.supv 2 ||| bit x.up 1 ||| bit x.link 0, 0xFFFFFFF8)
      | 0x04 => rv (x.delay.setWidth 32)
      | 0x08 => rv (fld x.errCheck.toNat 16 ||| x.errFcs.setWidth 32)
      | 0x0C => rv x.frames
      | 0x10 => (x.inj, 0x7FF80000)
      | 0x14 => rv x.injBit
      | 0x18 => rv x.injCnt
      | _ => rv 0
    else if 0x1000 ≤ off && off < 0x1800 then stnView s ((off - 0x1000) / 0x40 + 1) ((off - 0x1000) % 0x40)
    else rv 0

/-! ### PNW (R342) -/

/-- Whether this module answers on the station address (R326). -/
def onStation (s : State) : Bool := s.pst.speaker == some s.pst.slot

/-- The PNW region. LAST of PNW_UTC reads its default before the first poll (log 157). -/
def pnwView (s : State) (off : Nat) : RV :=
  let p := s.pnw
  let port (i : Nat) : PnPort := tget {} p.ports i
  let n (l : BitVec 2) : Nat := countIf (fun x => x.opened && x.level == l) p.sessions
  match off with
  | 0x00 => (bit s.img.net.mbWr 4 ||| bit p.linkLocal 3 ||| bit (onStation s) 2 ||| bit p.pathLost 1 |||
             bit ((port 0).link || (port 1).link) 0, 0xFFFFFFE0)
  | 0x04 => rv p.ip
  | 0x08 => rv p.stnIp
  | 0x0C => rv (fld (n 0) 24 ||| fld (n 1) 16 ||| fld (n 2) 8 ||| fld (n 3) 0)
  | 0x10 => rv (fld p.authFail.toNat 16 ||| p.discarded.setWidth 32)
  | 0x14 => rv ((utcUs s).setWidth 32)
  | 0x18 => rv ((utcUs s >>> 32).setWidth 32)
  | 0x1C => (fld (match p.utcLastUs with | some t => satTo 65535 ((nowUs s - t) / 1000000) | none => if p.polls = 0 then 0 else 65535) 16 |||
             fld p.utcServer.toNat 2 ||| bit p.utcSync 1 ||| bit (utcValid s) 0, 0xFFF0)
  | 0x20 => rv (fld p.mbExc.toNat 16 ||| lo32 p.mbConns.length)
  | 0x24 => (p.evt, 0xFFFFFFE0)
  | _ =>
    if 0x100 ≤ off && off < 0x120 then
      let x := port ((off - 0x100) / 0x10)
      match off % 0x10 with
      | 0x00 => rv (fld x.speed.toNat 2 ||| bit x.path 1 ||| bit x.link 0)
      | 0x04 => rv (fld x.errFcs.toNat 16 ||| x.errLan.setWidth 32)
      | _ => rv 0
    else rv 0

/-! ### MTR (R385) -/

/-- The eight words of an audit record, the serial number folded into CHECK (R382). -/
def auditWords (serial : Word) (a : Audit) : List Word :=
  let w := [a.audit, a.opsec, fld a.param.toNat 16 ||| a.pon.setWidth 32, fld a.kind.toNat 8 ||| a.index.setWidth 32, a.old, a.new, a.verifier]
  w ++ [crc32cWords crcInit (serial :: w)]

/-- The registers of meter port m. -/
def meterView (v : ChopView) (m r : Nat) : RV :=
  let x := tget {} v.meters m
  match r with
  | 0x00 => (fld (meterFault x) 16 ||| fld x.grade.toNat 8 ||| bit (x.back != 0) 7 ||| bit x.gradeUnk 6 |||
             fld (v.modes.getD m 0).toNat 0, 0xFF00F03C)
  | 0x04 => rv x.flow
  | 0x08 => rv (narrow x.temp)
  | 0x0C => rv (v.kfs.getD m 0)
  | 0x10 => rv ((meterTotal x).setWidth 32)
  | 0x14 => rv ((meterTotal x >>> 32).setWidth 32)
  | 0x18 => rv (x.ftot.setWidth 32)
  | 0x1C => rv ((x.ftot >>> 32).setWidth 32)
  | 0x20 => rv (x.utot.setWidth 32)
  | 0x24 => rv ((x.utot >>> 32).setWidth 32)
  | 0x28 => rv (fld x.errors.toNat 16 ||| x.faults.setWidth 32)
  | 0x2C => rv x.back
  | 0x30 => rv x.cur
  | _ => rvRes

/-- The MTR region; it reads as absent where the Chop is not fitted (R371, R385). -/
def mtrView (s : State) (off : Nat) : RV :=
  let t := s.mtr
  let v := t.view
  let loaded := t.valid && (List.range v.audit.toNat).all (fun i => t.trail.any (fun p => p.1 == i))
  if !s.id.chopFitted then rv 0
  else
  match off with
  | 0x00 => ((v.stat &&& 0x1B8) ||| bit loaded 6 ||| bit t.stale 2 ||| bit t.valid 1 ||| bit true 0, 0xFFFFFE00)
  | 0x04 => rv v.fwid
  | 0x08 => rv v.fwchk
  | 0x0C => rv v.serial
  | 0x10 => rv v.audit
  | 0x14 => rv v.pon
  | 0x18 => rv v.opsec
  | 0x1C => rv (fld t.failures.toNat 16 ||| t.frames.setWidth 32)
  | 0x20 => rv (lo32 (satTo 65535 ((nowUs s - t.lastUs) / 1000)))
  | _ =>
    if 0x100 ≤ off && off < 0x200 then meterView v ((off - 0x100) / 0x40) ((off - 0x100) % 0x40)
    else if 0x200 ≤ off && off < 0x280 then
      let g := (tget {} v.meters ((off - 0x200) / 0x20)).gtot.getD ((off - 0x200) % 0x20 / 8) 0
      rv (if off % 8 = 0 then g.setWidth 32 else (g >>> 32).setWidth 32)
    else if 0x300 ≤ off && off < 0x340 then
      let g := v.grades.getD ((off - 0x300) / 0x10) {}
      match off % 0x10 with
      | 0x00 => rv g.name
      | 0x04 => rv g.alpha
      | _ => rv 0
    else if 0x8000 ≤ off && off < 0x10000 then
      match t.trail.find? (fun p => p.1 == (off - 0x8000) / 0x20) with
      | some p => rv ((auditWords v.serial p.2).getD ((off - 0x8000) % 0x20 / 4) 0)
      | none => rv 0
    else rv 0

/-! ### DSP (R405) -/

/-- The DSP region. -/
def dspView (s : State) (off : Nat) : RV :=
  let d := s.dsp
  match off with
  | 0x00 => (fld (inFlight d).length 12 ||| bit d.disabled 11 ||| bit d.recovery 10 ||| bit (d.queue.any (deferredReq s)) 9 ||| bit d.iqna 8 |||
             bit d.ntcBad 7 ||| bit d.flOn 6 ||| bit (railsGood s) 5 ||| bit (standbyPage s && d.run) 4 ||| bit (waveSet s == 0) 3 |||
             bit d.identOk 2 ||| bit d.present 1 ||| bit d.run 0, 0xFFFF0000)
  | 0x04 => (fld d.filter.toNat 30 ||| fld d.rows 16 ||| fld d.cols 0, 0x3800F800)
  | 0x08 => (bit d.outside 20 ||| fld (if d.ntcBad then 6 else d.band.toNat) 16 ||| s16 d.temp, 0xFFE00000)
  | 0x0C => rv ((BitVec.ofInt 16 d.vcom).setWidth 32 <<< 16 ||| lo32 (framePeriod s))
  | 0x10 => rv (d.page.setWidth 32)
  | 0x18 => rv (d.fl.setWidth 32)
  | 0x1C => (d.evt, 0xFFFFFFC0)
  | 0x20 => rv (fld d.updMax.toNat 16 ||| d.updLast.setWidth 32)
  | 0x24 => rv (fld d.cntDone.toNat 16 ||| d.cntAbort.setWidth 32)
  | 0x28 => rv (fld d.queue.length 16 ||| d.longest.setWidth 32)
  | 0x2C => rv (bit d.dirtySkipped 4 ||| lo32 d.dirtyFound)
  | _ =>
    if 0x40 ≤ off && off < 0xC0 then
      let x := tget {} d.slots ((off - 0x40) / 0x10)
      match off % 0x10 with
      | 0x00 => rv (fld x.area.y 16 ||| fld x.area.x 0)
      | 0x04 => rv (fld x.area.h 16 ||| fld x.area.w 0)
      | 0x08 => (bit x.active 31 ||| bit x.comp 30 ||| fld x.mode.toNat 28 ||| fld x.band.toNat 24 |||
                 fld (match x.cls with | .other => 0 | .alarm => 1 | .chop => 2) 22 ||| bit x.iqna 21 ||| fld x.done 7 ||| fld x.total 0, 0x1FC000)
      | _ => rvRes
    else rv 0

/-! ### The master map (R340) -/

/-- The reserved bits of the CVU and EVR regions (R358, R370). -/
def cvuReserved (off : Nat) : Word :=
  if off = 0 then 0xFFFFFCFC else if off = 4 then 0xFFFFFFF8
  else if 0x100 ≤ off && off < 0x300 then
    (match off % 0x40 with
     | 0x00 => 0xFFFFFF0C
     | 0x1C => 0xFFFC
     | _ => if off % 0x40 ≥ 0x24 then 0xFFFFFFFF else 0)
  else 0
/-- The reserved bits of the EVR region. -/
def evrReserved (off : Nat) : Word :=
  match off with
  | 0x00 => 0xC000FFF8
  | 0x28 => 0xFFFFFFF0
  | 0x1C => 0xFFFFFFF8
  | _ => 0

/-- Whether an address is a word of a tag of the image's variable and constant areas (R340). -/
def isTag (s : State) (n : Nat) : Bool :=
  (decide (s.img.varLo ≤ n) && decide (n < s.img.varHi)) || (decide (s.img.constLo ≤ n) && decide (n < s.img.constHi))

/-- What a reader sees at an address; none outside every region, unaligned, or at a tag that does not exist (R340). -/
def regView (w : Who) (s : State) (a : Nat) : Option RV :=
  if a % 4 != 0 then none
  else if a < 0x1000 then some (idView s a)
  else if a < 0x2000 then some (supView s (a - 0x1000))
  else if a < 0x3000 then some (timView s (a - 0x2000))
  else if a < 0x4000 then some (bootView s (a - 0x3000))
  else if a < 0x10000 then none
  else if a < 0x20000 then some (cycView s (a - 0x10000))
  else if a < 0x30000 then some (cmpView s (a - 0x20000))
  else if a < 0x40000 then some (lpeView s (a - 0x30000))
  else if a < 0x50000 then some (fchView s (a - 0x40000))
  else if a < 0x60000 then some (safView s (a - 0x50000))
  else if a < 0x70000 then some (almView s (a - 0x60000))
  else if a < 0x71000 then some (pstView s (a - 0x70000))
  else if a < 0x72000 then some (slkView s (a - 0x71000))
  else if a < 0x80000 then none
  else if a < 0x90000 then some (frgView s (a - 0x80000))
  else if a < 0xA0000 then some (pnwView s (a - 0x90000))
  else if a < 0xB0000 then some (evrView w s (a - 0xA0000), evrReserved (a - 0xA0000))
  else if a < 0xC0000 then some (cvuView w s (a - 0xB0000), cvuReserved (a - 0xB0000))
  else if a < 0xD0000 then some (mtrView (match w with | .lane _ => { s with mtr := s.mtrLanes } | _ => s) (a - 0xC0000))
  else if a < 0xE0000 then some (dspView s (a - 0xD0000))
  else if a < 0x100000 then none
  else if a < 0x180000 then some (trcView s (a - 0x100000))
  else if a < 0x10000000 then none
  else if a < 0x10080000 then
    let n := (a - 0x10000000) / 4
    if isTag s n then some (rv (tagValue s n)) else none
  else none

/-! ### What a read changes (R9, R10) -/

/-- The part of a read-and-clear register cleared by its read. DESIGN CHOICE: the spec says of an RC field only that a read
clears it; the model sets the least gauge reading to its default 0x3FF and every other such field to 0 (R9, R51, log 119). -/
def readEffect (a : Nat) (s : State) : State :=
  match a with
  | 0x1004 => onSup (fun u => { u with vinMin := 0 }) s
  | 0x2010 => onTim (fun t => { t with lowA := 0x3FF }) s
  | 0x2014 => onTim (fun t => { t with lowB := 0x3FF }) s
  | 0x2024 => onTim (fun t => { t with drawPeak := 0 }) s
  | 0x10018 => onCyc (fun c => { c with execMax := 0 }) s
  | 0x20014 => onCmp (fun c => { c with qMax := 0 }) s
  | 0x30008 => onLpe (fun l => { l with tickMax := 0 }) s
  | 0x60008 => onAlm (fun x => { x with evalMax := 0 }) s
  | 0x70010 => onPst (fun p => { p with copyMax := 0 }) s
  | 0x70014 => onPst (fun p => { p with copyTMax := 0 }) s
  | 0x7002C => onPst (fun p => { p with terrMax := 0 }) s
  | 0x80018 => onFrg (fun f => { f with inarrMax := 0 }) s
  | 0xA0030 => onEvr (fun e => { e with flushMax := 0 }) s
  | 0xD0020 => setDsp (fun d => { d with updMax := 0 }) s
  | _ => if 0x40108 ≤ a && a < 0x40280 && (a - 0x40108) % 0x40 = 0 then setGrp ((a - 0x40108) / 0x40) (fun g => { g with voltMin := 0 }) s else s

/-- One register read: its value, with a free value in its reserved bits, and the state after it (R8, R9). None where the
address is refused. -/
def objRead (w : Who) (a : Nat) (s : State) : Option (Word × State) :=
  match regView w s a with
  | none => none
  | some (v, m) =>
    if m = 0 then some (v, readEffect a s)
    else some ((v &&& ~~~m) ||| (freeVal s &&& m), takeFree (readEffect a s))

end Sys2Proof.Machine
end

