-- ==== Sys2Proof/Machine/Alarm.lean ====
section
/-! DEFINITION. The alarm engine and the engineer call (R240 to R264): sources and conditions, delays and blocking, point
states, summaries and group alarms, commands with their paths, calls, the dead-man timer and the alert sentences. -/

namespace Sys2Proof.Machine

/-! ### Sources (R241) -/

/-- What a point reads at an evaluation: the word, whether it is binary32, whether an integer is signed, the quality code. -/
structure Reading where
  word : Word := 0
  flt : Bool := false
  sgn : Bool := false
  code : BitVec 4 := 0
  tag : Bool := false
  deriving DecidableEq, Repr

/-- The regions whose bits a point may read: ID, SUP, TIM, CMP, FCH, SAF, PST, SLK, FRG and PNW (R241). -/
def diagRegion (a : Nat) : Bool :=
  decide (a < 0x3000) || [2, 4, 5, 8, 9].contains (a / 0x10000) || [0x70, 0x71].contains (a / 0x1000)

/-- A diagnostic bit, 0 at an address that holds none: the image names a register of one of the ten regions (R241). -/
def diagBit (s : State) (a b : Nat) : Bool :=
  diagRegion a && ((regView (.sess 0 0) s a).map (fun v => v.1.getLsbD b)).getD false

/-- A source read (R241). -/
def readSrc (s : State) : Src → Reading
  | .chan n f => { word := valueWord s (n - 1), flt := f, code := qualCode s (n - 1) }
  | .qual n => { word := (qualCode s (n - 1)).setWidth 32 }
  | .tag n f => { word := tget 0 s.cyc.snapshot n, flt := f, sgn := !f, tag := true }
  | .slot n => { word := BitVec.ofNat 32 (slotCode (tget {} s.saf.slots n).st) }
  | .diag a b => { word := Word.ofBool (diagBit s a.toNat b) }

/-- Whether points fed by the program hold: no snapshot is taken in Hold and Safe, nor from Hold to the first TO after it,
and there is none before the first TO (R245, R422). -/
def holdsTags (s : State) : Bool := !inRun s || !s.cyc.snapFresh

/-- Whether no snapshot was taken since the last restart of class P, B, X or S: no tag has a value for the points yet
(R18, R241). -/
def noSnapshot (s : State) : Bool := !s.cyc.snapFresh && s.cyc.snapshot.isEmpty

/-- The tags that an image's points name, bound constants included: those a snapshot holds (R241, R242). -/
def pointTags (img : Image) : List Nat :=
  let ofSrc : Src → List Nat := fun x => match x with
    | .tag n _ => [n]
    | _ => []
  img.points.flatMap (fun p =>
    ofSrc p.2.src ++ (p.2.refSrc.map ofSrc).getD [] ++ (p.2.block.map (fun b => ofSrc b.src)).getD [] ++
      p.2.bindL.toList ++ p.2.bindH.toList ++ p.2.bindOn.toList ++ p.2.bindOff.toList)

/-! ### Conditions (R242) -/

/-- An exact number: mantissa and power of two. -/
abbrev Exact := Int × Int

/-- A word as an exact number; none for a NaN. An infinity counts as greater than every finite number (log 35). -/
def exact (flt sgn : Bool) (w : Word) : Option Exact :=
  if flt then
    match fval w with
    | .fin neg m e => some (sgnd neg m, e)
    | .inf neg => some (if neg then -1 else 1, 4096)
    | .nan => none
  else some (if sgn then w.toInt else w.toNat, 0)

/-- The exact sum. -/
def xadd (a b : Exact) : Exact := addDyadic a.1 a.2 b.1 b.2
/-- The exact difference. -/
def xsub (a b : Exact) : Exact := addDyadic a.1 a.2 (-b.1) b.2
/-- Exact order. -/
def xlt (a b : Exact) : Bool := decide (0 < (xsub b a).1)
/-- The absolute value. -/
def xabs (a : Exact) : Exact := (a.1.natAbs, a.2)

/-- True above L, false below L − H, the previous result between (R242). -/
def above (v l h : Exact) (prev : Bool) : Bool := if xlt l v then true else if xlt v (xsub l h) then false else prev
/-- True below L, false above L + H, the previous result between (R242). -/
def below (v l h : Exact) (prev : Bool) : Bool := if xlt v l then true else if xlt (xadd l h) v then false else prev

/-- A limit: the bound constant as the last TO transferred it, or the image's (R242). -/
def limitOf (s : State) (b : Option Nat) (w : Word) : Word :=
  match b with
  | some t => if noSnapshot s then w else tget 0 s.cyc.snapshot t
  | none => w

/-- A delay in evaluations; a bound one is a time in ms, rounded up to 10 ms (R242, R244, log 36). -/
def delayOf (s : State) (b : Option Nat) (d : Nat) : Nat :=
  match b with
  | some t => if noSnapshot s then d else ((tget 0 s.cyc.snapshot t).toNat + 9) / 10
  | none => d

/-- A state condition (R242). -/
def stateCond (ne : Bool) (mask sv w : Word) : Bool := (w &&& mask == sv) != ne

/-- A state condition on a reading; none on a NaN (R242). -/
def stateOn (ne : Bool) (mask sv : Word) (r : Reading) : Option Bool :=
  if r.flt && fnan r.word then none else some (stateCond ne mask sv r.word)

/-- A rate condition from the window, newest first: the change over W seconds against L·W (R242). -/
def rateCond (c : PointCfg) (fall : Bool) (r : Reading) (win : List Word) (l h : Exact) (prev : Bool) : Option Bool :=
  match win[100 * c.w]? with
  | none => some false
  | some old =>
    match exact r.flt r.sgn r.word, exact r.flt r.sgn old with
    | some v, some o =>
      let d := if fall then xsub o v else xsub v o
      some (above d (l.1 * c.w, l.2) (h.1 * c.w, h.2) prev)
    | _, _ => none

/-- The reference of a deviation; none where its value is not good. -/
def refValue (s : State) (c : PointCfg) (r : Reading) : Option Exact :=
  match c.refSrc with
  | none => exact r.flt r.sgn c.ref
  | some x => let q := readSrc s x; if q.code = 0 then exact q.flt q.sgn q.word else none

/-- The condition of a point on a good reading; none leaves the result as it was (R242). -/
def evalCond (s : State) (c : PointCfg) (r : Reading) (win : List Word) (prev : Bool) : Option Bool :=
  match c.cond.toNat with
  | 5 => stateOn false c.mask c.sv r
  | 6 => stateOn true c.mask c.sv r
  | k =>
    match exact r.flt r.sgn r.word, exact r.flt r.sgn (limitOf s c.bindL c.lim), exact r.flt r.sgn (limitOf s c.bindH c.hys) with
    | some v, some l, some h =>
      match k with
      | 0 => some (above v l h prev)
      | 1 => some (below v l h prev)
      | 2 => (refValue s c r).map (fun x => above (xabs (xsub v x)) l h prev)
      | 3 => rateCond c false r win l h prev
      | 4 => rateCond c true r win l h prev
      | _ => none
    | _, _, _ => none

/-- A system point. -/
def isSystem (n : Nat) : Bool := decide (4064 ≤ n)

/-- The fact behind a system point (R256). -/
def systemFact (s : State) (n : Nat) : Bool :=
  if n < 4070 then lowFault (grp s (n - 4064))
  else if n < 4076 then !(grp s (n - 4070)).link
  else match n with
    | 4076 => s.alm.dead == .alarm
    | 4077 => s.img.ring.stations.any (fun p => (stn s p.1).st == .lost)
    | 4078 => s.pnw.pathLost || s.frg.pathLost
    | 4079 => s.pst.member && gate s && !((partner s).present && ((partner s).hello.map (·.ready)).getD false)
    | 4080 => s.sup.unstable || s.tim.unattain
    | 4081 => s.alm.ovrUs.any (fun t => decide (nowUs s < t + 60000000))
    | 4082 => s.tim.barLimit
    | 4083 => s.evr.lossPoint
    | _ => false

/-! ### Announcing (R252, R262, R263) -/

/-- A point's state changed. -/
def setPnt (n : Nat) (f : Point → Point) (s : State) : State :=
  onAlm (fun a => { a with points := tmod {} a.points n f }) s

/-- A sentence sent in its datagram: its line counter runs from 1 to 999 (R337). -/
def sentence (e : Emit) (s : State) : State :=
  let s := onAlm (fun a => { a with line := a.line % 999 + 1 }) s
  let n := s.img.net
  emitLan (.datagram { source := n.udpSource, line := s.alm.line, talker := n.udpTalker, group := n.udpGroup, port := n.udpPort } e) s

/-- The priority character of an alert: A, W or C (R263). -/
def prioChar (p : BitVec 2) : Byte := if p = 3 then 0x41 else if p = 2 then 0x57 else 0x43

/-- The state character of an alert (R263). -/
def alertChar (active unack silenced : Bool) : Byte :=
  if active && unack then (if silenced then 0x53 else 0x56) else if active then 0x41 else if unack then 0x55 else 0x4E

/-- The state character of a point: N in Normal, Shelved and Blocked. -/
def pointChar (p : Point) : Byte := alertChar (isActive p.st) (isUnack p.st) p.silenced

/-- The alert identifier of a point (R263). -/
def pointAlert (n : Nat) (c : PointCfg) : Nat := if c.alertId = 0 then 100000 + n else c.alertId
/-- The alert identifier of a group alarm (R263). -/
def groupAlert (n : Nat) (g : GroupAlarmCfg) : Nat := if g.alertId = 0 then 200000 + n else g.alertId

/-- The revision counter: 1 to 99, wrapping to 1 (R263). -/
def nextRev (r : Nat) : Nat := r % 99 + 1

/-- The ALF content of a point (R263). -/
def pointAlf (n : Nat) (c : PointCfg) (p : Point) : Alf :=
  { alert := pointAlert n c, category := c.category, prio := prioChar c.prio, state := pointChar p, rev := p.rev, esc := p.esc, text := c.text }

/-- The ALF of a point as it stands; nothing about a suppressed point is announced (R243, R263). -/
def sendPointAlf (n : Nat) (s : State) : State :=
  let c := pointCfg s n
  let p := pnt s n
  if c.bam && announces s && !p.suppr then sentence (.alf (pointAlf n c p)) s else s

/-- The ALF of a group alarm as it stands (R263). -/
def sendGroupAlf (n : Nat) (s : State) : State :=
  let x := tget {} s.alm.cells n
  match (cellCfg s n).group with
  | some g =>
    if g.bam && announces s then
      sentence (.alf { alert := groupAlert n g, category := g.category, prio := prioChar x.prio,
                       state := alertChar (x.active != 0) (x.unack != 0) x.silenced, rev := x.rev, esc := x.esc, text := g.text }) s else s
  | none => s

/-- What the panel shows of the alarm engine has changed (R391). -/
def showAlarms (s : State) : State := if announces s then alarmRedraw s else s

/-- A point brought to a state: posted, revised, shown and sent. A suppressed point keeps its state (R243, R248). -/
def pointTo (n : Nat) (st : PointState) (s : State) : State :=
  let p := pnt s n
  if p.suppr || p.st = st then s
  else
    let s := setPnt n (fun p => { p with st := st, rev := nextRev p.rev, silenced := p.silenced && isUnack st,
                                         shelfEval := if st = .shelved then p.shelfEval else 0,
                                         restore := p.restore && (st = .blocked || st = .normal) }) s
    let s := if st = .activeUnack then onAlm (fun a => { a with evt := setBit a.evt 0, fresh := a.fresh ++ [n] }) s else s
    showAlarms (sendPointAlf n (postCell 0x0501 0 (pointCfg s n).cell [] s))

/-- The shelf of a point ended: Active while its condition stands with its on-delay served; otherwise Normal, from which the
on-delay is served anew (R244, R248). -/
def unshelve (n : Nat) (s : State) : State :=
  let p := pnt s n
  if p.st != .shelved || p.suppr then s
  else if p.onServed && p.cond then pointTo n .activeUnack s
  else pointTo n .normal (setPnt n (fun p => { p with onServed := false, offCnt := 0 }) s)

/-- A point acknowledged that was unacknowledged before the evaluation, in `s0` (R247, R248). -/
def ackPoint (s0 : State) (n : Nat) (s : State) : State :=
  if isUnack (pnt s0 n).st then
    match (pnt s n).st with
    | .activeUnack => pointTo n .activeAck s
    | .returnedUnack => pointTo n .normal s
    | _ => s
  else s

/-! ### Delays, blocking and states (R244, R245, R248) -/

/-- A point goes active (R244, R248). -/
def goesActive (n : Nat) (s : State) : State :=
  let s := setPnt n (fun p => { p with onServed := true, onCnt := 0, offCnt := 0 }) s
  match (pnt s n).st with
  | .normal => pointTo n .activeUnack s
  | .returnedUnack => pointTo n .activeUnack s
  | .shelved => postCell 0x0501 0 (pointCfg s n).cell [] s
  | _ => s

/-- A point returns (R244, R248). -/
def returns (n : Nat) (s : State) : State :=
  let s := setPnt n (fun p => { p with onServed := false, onCnt := 0, offCnt := 0 }) s
  match (pnt s n).st with
  | .activeUnack => pointTo n (if ackretOf (pointCfg s n) then .returnedUnack else .normal) s
  | .activeAck => pointTo n .normal s
  | _ => s

/-- The on-delay and off-delay of a point in evaluations; system points have an off-delay of 2 s alone, and 4 081 its
60 s (R256). -/
def delays (s : State) (n : Nat) : Nat × Nat :=
  let c := pointCfg s n
  if isSystem n then (0, if n = 4081 then 0 else 200) else (delayOf s c.bindOn c.onDly, delayOf s c.bindOff c.offDly)

/-- One evaluation of the delays (R244): a delay is served when the condition has held at every evaluation for it. -/
def stepDelays (n : Nat) (s : State) : State :=
  let p := pnt s n
  let d := delays s n
  if p.cond then
    let s := setPnt n (fun p => { p with offCnt := 0 }) s
    if p.onServed then s
    else if p.onCnt + 1 > d.1 then goesActive n s
    else setPnt n (fun p => { p with onCnt := p.onCnt + 1 }) s
  else
    let s := setPnt n (fun p => { p with onCnt := 0 }) s
    if !p.onServed then s
    else if p.offCnt + 1 > d.2 then returns n s
    else setPnt n (fun p => { p with offCnt := p.offCnt + 1 }) s

/-- Blocking starts or goes on: delays stopped and cleared. Of an active or unacknowledged point both facts are recorded
(R245, log 39). -/
def block (n : Nat) (rel : Nat) (s : State) : State :=
  let old := (pnt s n).st
  let s := setPnt n (fun p => { p with blocking := true, relCnt := rel, onCnt := 0, offCnt := 0, onServed := false }) s
  if old = .blocked then s
  else
    let s := pointTo n .blocked s
    if isActive old || isUnack old then postCell 0x0501 0 (pointCfg s n).cell [] s else s

/-- Whether a blocking source is true, where it was `prev` before: a NaN leaves it so; a tag without a snapshot is not (R242,
R245, log 52). -/
def blockTrue (b : BlockCfg) (prev : Bool) (s : State) : Bool :=
  let r := readSrc s b.src
  !(r.tag && noSnapshot s) && (stateOn b.ne b.mask b.sv r).getD prev

/-- Whether a point is blocked now, with its release delay stepped (R245). -/
def blockStep (n : Nat) (s : State) : Bool × State :=
  match (pointCfg s n).block with
  | none => (false, s)
  | some b =>
    let now := blockTrue b (pnt s n).blockSrc s
    let s := setPnt n (fun p => { p with blockSrc := now }) s
    let p := pnt s n
    if now then (true, block n b.release s)
    else if p.blocking && decide (p.relCnt > 0) then (true, block n (p.relCnt - 1) s)
    else (false, (if p.st = .blocked then pointTo n .normal else id) (setPnt n (fun p => { p with blocking := false }) s))

/-- One evaluation's shelf time; that of the evaluation in which the shelf began does not count (R249). -/
def shelfStep (n : Nat) (s : State) : State :=
  if (pnt s n).shelfNew then setPnt n (fun p => { p with shelfNew := false }) s
  else if (pnt s n).st = .shelved then
    let s := setPnt n (fun p => { p with shelfEval := p.shelfEval - 1 }) s
    if (pnt s n).shelfEval = 0 then unshelve n s else s
  else s

/-- A point that MRAM held as Returned, unacknowledged: restored at its first evaluation where its condition is not active, else
Normal until its on-delay is served again (R250). -/
def restoreStep (n : Nat) (s : State) : State :=
  let p := pnt s n
  if p.restore && !p.held then
    setPnt n (fun p => { p with restore := false, st := if !p.cond && p.st == .normal then .returnedUnack else p.st }) s
  else s

/-- The value of a point taken, and its rate window moved on once its source has been valid (R242). -/
def takeValue (n : Nat) (c : PointCfg) (r : Reading) (s : State) : State :=
  let ok := r.code == 0 && !(r.tag && noSnapshot s) && (exact r.flt r.sgn r.word).isSome
  let rate := c.cond == 3 || c.cond == 4
  setPnt n (fun p => { p with value := r.word, window := if rate && (ok || !p.window.isEmpty) then
                                                           (r.word :: p.window).take (100 * c.w + 1) else p.window }) s

/-- The condition of a point evaluated on its reading (R242, R243, R245). -/
def condStep (n : Nat) (c : PointCfg) (r : Reading) (s : State) : State :=
  let held := r.tag && holdsTags s
  if held then setPnt n (fun p => { p with held := true }) s
  else
    let p := pnt s n
    let res := if isSystem n then some (systemFact s n)
               else if c.cond = 7 then some (match c.src with | .qual _ => r.word != 0 | _ => r.code != 0)
               else if r.code = 0 then evalCond s c r p.window p.cond else none
    setPnt n (fun p => { p with held := false, cond := res.getD p.cond, srcBad := res.isNone }) s

/-- One point evaluated (R246 steps 2 and 3). -/
def evalPoint (n : Nat) (s : State) : State :=
  let c := pointCfg s n
  let r := if isSystem n then { word := Word.ofBool (systemFact s n) } else readSrc s c.src
  let s := takeValue n c r s
  if r.code = 1 || r.code = 2 || r.code = 3 || r.code = 0xE then setPnt n (fun p => { p with suppr := true }) s
  else
    let s := condStep n c r (setPnt n (fun p => { p with suppr := false }) s)
    let b := blockStep n s
    if b.1 then b.2 else shelfStep n (stepDelays n (restoreStep n b.2))

/-! ### Summaries and group alarms (R253, R254) -/

/-- The points of a cell's subtree. -/
def subPoints (s : State) (c : Nat) : List (Nat × PointCfg) := (points s).filter (fun p => inCell s c p.2.cell)

/-- The highest priority of some points. -/
def topPrio (l : List (Nat × PointCfg)) : BitVec 2 := l.foldl (fun m p => if m < p.2.prio then p.2.prio else m) 0

/-- The summary of a cell (R253). -/
def summary (s : State) (c : Nat) (old : CellAlm) : CellAlm :=
  let l := subPoints s c
  let act := l.filter (fun p => isActive (pnt s p.1).st)
  { old with active := act.length, unack := countIf (fun p => isUnack (pnt s p.1).st) l, prio := topPrio act,
             shelved := l.any (fun p => (pnt s p.1).st == .shelved), blocked := l.any (fun p => (pnt s p.1).st == .blocked),
             suppr := l.any (fun p => (pnt s p.1).suppr) }

/-- A group that becomes active and unacknowledged in this evaluation. DESIGN CHOICE (log 149): one that is so already and whose
priority rises to the threshold of its call group by a new point starts no call. -/
def groupFresh (old new : CellAlm) : Bool := new.active != 0 && new.unack != 0 && !(old.active != 0 && old.unack != 0)

/-- A cell's summary formed; a group alarm is revised, sent and may reflash. `became`: the points that became Active,
unacknowledged in this evaluation (R254). -/
def cellStep (became : List Nat) (c : Nat) (s : State) : State :=
  let old := tget {} s.alm.cells c
  let x := summary s c old
  let x := { x with silenced := x.silenced && x.unack != 0 && old.unack != 0 }
  let put (x : CellAlm) (s : State) : State := onAlm (fun a => { a with cells := tput {} a.cells c x }) s
  if (cellCfg s c).group.isNone then put x s
  else
    let reflash := old.active != 0 && old.unack == 0 && became.any (fun n => inCell s c (pointCfg s n).cell)
    let changed := alertChar (old.active != 0) (old.unack != 0) old.silenced != alertChar (x.active != 0) (x.unack != 0) x.silenced
    let s := if reflash then onAlm (fun a => { a with evt := setBit a.evt 1 }) s else s
    if changed then showAlarms (sendGroupAlf c (put { x with rev := nextRev x.rev } s)) else put x s

/-! ### Calls (R258, R259) and their notifications (R334) -/

/-- A call group's state. -/
def call (s : State) (g : Nat) : Call := tget {} s.alm.calls g
/-- A call group's state changed. -/
def setCall (g : Nat) (f : Call → Call) (s : State) : State := onAlm (fun a => { a with calls := tmod {} a.calls g f }) s
/-- A call group's settings. -/
def callCfg (s : State) (g : Nat) : CallCfg := (iget s.img.calls g).getD {}
/-- The duty assignment of a call group. -/
def dutyOf (s : State) (g : Nat) : Duty := tget {} s.alm.duty g

/-- Whether a cell lies under a group alarm that names call group g. -/
def underCall (s : State) (g : Nat) (self : Bool) (c : Nat) : Bool :=
  (List.range s.img.cells.length).any (fun a =>
    (self || a != c) && inCell s a c && (((cellCfg s a).group.bind (·.call)).map (·.val) == some g))

/-- The calling points of a call group that are unacknowledged; the dead-man's point calls in the timer's group (R259,
R260). -/
def callPoints (s : State) (g : Nat) : List Nat :=
  ((points s).filter (fun p =>
    isUnack (pnt s p.1).st &&
      ((p.1 == 4076 && (s.img.dead.map (·.group.val)) == some g) ||
       (p.2.call.map (·.val) == some g && decide ((callCfg s g).thr ≤ p.2.prio) && !underCall s g true p.2.cell)))).map (·.1)

/-- The calling group alarms of a call group that are unacknowledged. A group whose points have all returned calls by the
highest priority still unacknowledged (log 37). -/
def callGroups (s : State) (g : Nat) : List Nat :=
  (List.range s.img.cells.length).filter (fun c =>
    let x := tget {} s.alm.cells c
    let pr := if x.active = 0 then topPrio ((subPoints s c).filter (fun p => isUnack (pnt s p.1).st)) else x.prio
    (((cellCfg s c).group.bind (·.call)).map (·.val) == some g) && x.unack != 0 && decide ((callCfg s g).thr ≤ pr) &&
      !underCall s g false c)

/-- The engineers a call group calls now, as a bit mask (R259). -/
def calledMask (s : State) (g : Nat) : BitVec 8 :=
  let x := call s g
  let d := dutyOf s g
  let duty : BitVec 8 := if d.assigned then 1 <<< d.duty.toNat else 0
  let back : BitVec 8 := if d.assigned && decide (x.stage ≥ 1) then 1 <<< d.backup.toNat else 0
  if x.st = .none_ then 0 else duty ||| back ||| (if x.stage ≥ 2 then (callCfg s g).list else 0)

/-- The body of a call notification: the fields in the order R334 names them (log 38). -/
def callBody (s : State) (g : Nat) : List Byte :=
  let x := call s g
  [BitVec.ofNat 8 g, (match x.st with | .none_ => 0 | .calling => 1 | .accepted => 2), x.stage.setWidth 8, x.accepted.setWidth 8,
   calledMask s g] ++ Word.bytes (BitVec.ofNat 32 x.starter)

/-- A notification to every subscriber of a call group (R334). -/
def notifyCall (g : Nat) (s : State) : State :=
  if announces s then
    let body := callBody s g
    forEach ((s.pnw.sessions.filter (fun x => x.opened && x.sub.getLsbD g)).map (·.id))
      (fun id s => match findSession s id with
        | none => s
        | some x =>
          let sq := x.nseq + 1
          emitLan (.message (messageTo x 2 0x0060 sq body)) (setSession id (fun x => { x with
            nseq := sq, unacked := x.unacked.filter (fun u => u.2.1 != g) ++ [(sq, g, 0)] }) s)) s
  else s

/-- Stage 2 of a call: escalated, and the ALF of each calling alert sent again with its escalation counter raised (R259). -/
def escalate (g : Nat) (s : State) : State :=
  let s := setCall g (fun x => { x with escalations := inc16 x.escalations }) (onAlm (fun a => { a with evt := setBit a.evt 2 }) s)
  let s := forEach (callPoints s g) (fun n s => sendPointAlf n (setPnt n (fun p => { p with esc := p.esc + 1 }) s)) s
  forEach (callGroups s g) (fun c s =>
    sendGroupAlf c (onAlm (fun a => { a with cells := tmod {} a.cells c (fun x => { x with esc := x.esc + 1 }) }) s)) s

/-- A call brought to a stage (R259). -/
def callStage (g : Nat) (st : BitVec 2) (s : State) : State :=
  let s := setCall g (fun x => { x with st := .calling, stage := st, stageUs := nowUs s }) s
  let s := if st = 2 then escalate g s else s
  notifyCall g (post 0x0503 g [0] s)

/-- A call started (R258, R259). -/
def startCall (g : Nat) (st : BitVec 2) (alert : Nat) (s : State) : State :=
  callStage g st (setCall g (fun x => { x with startUs := nowUs s, accepted := 0, starter := alert, calls := inc16 x.calls }) s)

/-- A call ended (R259). -/
def endCall (g : Nat) (s : State) : State :=
  notifyCall g (post 0x0503 g [0] (setCall g (fun x => { x with st := .none_, stage := 0, accepted := 0 }) s))

/-- One evaluation of a call group (R259). `fresh`: the cells whose group alarm became active and unacknowledged. -/
def callStep (became fresh : List Nat) (g : Nat) (s : State) : State :=
  let ps := callPoints s g
  let gs := callGroups s g
  let s := setCall g (fun x => { x with members := ps.length + gs.length }) s
  if (call s g).st ≠ .none_ then (if ps.isEmpty && gs.isEmpty then endCall g s else s)
  else
    let starters := (gs.filter (fresh.contains ·)).map (fun c => groupAlert c ((cellCfg s c).group.getD {})) ++
      (ps.filter (became.contains ·)).map (fun n => pointAlert n (pointCfg s n))
    match starters with
    | [] => s
    | a :: _ => startCall g (if (dutyOf s g).assigned then 0 else 2) a s

/-! ### The dead-man timer (R260) -/

/-- The dead-man timer brought to a state. -/
def deadTo (d : DeadState) (e : BitVec 3) (s : State) : State :=
  let old := s.alm.dead
  let s := onAlm (fun a => { a with dead := d, deadEngineer := e, deadSince := nowUs s,
                                    evt := orBit a.evt 3 (d == .alarm && old != .alarm) }) s
  if old = d then s else post 0x0504 0 [] s

/-- T_PRE ends: Alarm, point 4 076 active, its call group called at once at stage 2 (R260). -/
def deadAlarm (s : State) : State :=
  let s := goesActive 4076 (setPnt 4076 (fun p => { p with cond := true }) (deadTo .alarm s.alm.deadEngineer s))
  match s.img.dead with
  | none => s
  | some d =>
    let g := d.group.val
    match (call s g).st with
    | .none_ => startCall g 2 (pointAlert 4076 (pointCfg s 4076)) s
    | .calling => if (call s g).stage < 2 then callStage g 2 s else s
    | .accepted => s

/-! ### Commands (R247, R249, R252, R257 to R260, R265) -/

/-- OP of an ALM_CMD word. -/
def almOp (w : Word) : Nat := (w >>> 28).toNat
/-- ARG of an ALM_CMD word. -/
def almArg (w : Word) : Nat := (w >>> 12).toNat % 65536
/-- TARGET of an ALM_CMD word. -/
def almTarget (w : Word) : Nat := w.toNat % 4096

/-- An ALM_CMD word from its fields. -/
def almWord (op arg target : Nat) : Word := Word.field op 28 ||| Word.field arg 12 ||| BitVec.ofNat 32 target

/-- The bits of ARG that an operation uses (R265). -/
def almArgMask : Nat → Nat
  | 3 => 0xFFFF
  | 6 => 0x3F
  | 7 => 0x1FF
  | 8 => 0x38
  | _ => 0

/-- The status code "point not shelvable" (R249, R333). -/
def stShelvable : BitVec 16 := 0x000C

/-- Whether a point can be shelved: never one on a Quill slot state, nor 4 076 (R249). -/
def shelvable (s : State) (n : Nat) : Bool :=
  match iget (points s) n with
  | none => false
  | some c => c.shelvable && n != 4076 && (match c.src with | .slot _ => isSystem n | _ => true)

/-- The judgement of a command as it arrives (R249, R257, R265). -/
def almJudge (program : Bool) (w : Word) (s : State) : BitVec 16 :=
  let op := almOp w
  let arg := almArg w
  let t := almTarget w
  let onPoint := op = 1 || op = 3 || op = 4
  if program && (op = 3 || op = 4 || op = 7) then stAccess
  else if op = 0 || op > 0xB then stRange
  else if arg &&& almArgMask op ≠ arg || (!onPoint && op ≠ 2 && t ≠ 0) then stRange
  else if onPoint && (iget (points s) t).isNone then stRange
  else if op = 2 && decide (t ≥ s.img.cells.length) then stRange
  else if op = 3 && arg > 1440 then stRange
  else if op = 3 && !shelvable s t then stShelvable
  else if (op = 8 || op = 9 || op = 10) && s.img.dead.isNone then stState
  else stOk

/-- A refusal noted (R257). -/
def almRefused (s : State) : State := onAlm (fun a => { a with evt := setBit a.evt 4 }) s

/-- A command put in line for the next evaluation (R246, R247). -/
def almQueue (c : AlmCmd) (s : State) : State := onAlm (fun a => { a with cmds := a.cmds ++ [c] }) s

/-- The points that a forwarded acknowledgement may act on in the partner: those unacknowledged in an announcing sender, so that a
point which was never announced stays unacknowledged there (R262, log 150). -/
def almSeen (w : Word) (s : State) : Option (List Nat) :=
  if announces s && (almOp w = 1 || almOp w = 2 || almOp w = 11) then some (((points s).filter (fun p => isUnack (pnt s p.1).st)).map (·.1))
  else none

/-- A command that both modules of a pair apply, with the confirmation of R79 (R262). -/
def almBoth (o : Origin) (p : AlmPath) (w : Word) (s : State) : State :=
  if paired s then forwardBoth o (.alarm w p (almSeen w s)) id s else almQueue { path := p, word := w } s

/-- ALM_CMD from a lane, carried out at TO, for both modules of a pair: the standby runs no program, or discards its writes (R257,
R262, R292). -/
def almFromLane (w : Word) (s : State) : Written :=
  let st := almJudge true w s
  if st ≠ stOk then (st, almRefused s) else done (almBoth .program .program w s)

/-- ALM_CMD written by a session, or by Modbus, which has none (R257, R336): judged, forwarded, applied at the next
evaluation. -/
def almWrite (r : Req) (w : Word) (s : State) : Written :=
  let st := almJudge false w s
  if st ≠ stOk then (st, almRefused s) else done (almBoth (.sess r []) (.session r.sess) w s)

/-- An alarm command of a session, of Operate level or above; every refusal is noted (R257). -/
def almFromSession (r : Req) (w : Word) (s : State) : State :=
  screenReq r lvView false (fun s =>
    if ((findSession s r.sess).map (·.level)).getD 0 < lvOperate then reply r stAccess [] (almRefused s)
    else answer r (almWrite r w) s) s

/-- Silence: every point and group alarm with ALMN that was unacknowledged before the evaluation and still is (R247, R252). Where the
state of the alert changes by it, its sentence is sent (R263). -/
def silenceAll (s0 : State) (s : State) : State :=
  let due (n : Nat) : Bool := isUnack (pnt s0 n).st && isUnack (pnt s n).st && !(pnt s n).silenced
  let s := forEach ((points s).filter (fun p => almnOf p.2 && due p.1)) (fun p s =>
    if (pnt s p.1).st = .activeUnack then sendPointAlf p.1 (setPnt p.1 (fun x => { x with silenced := true, rev := nextRev x.rev }) s)
    else setPnt p.1 (fun x => { x with silenced := true }) s) s
  let cs := (List.range s.img.cells.length).filter (fun c =>
    ((cellCfg s c).group.map (·.almn)).getD false && (tget {} s.alm.cells c).unack != 0 && !(tget {} s.alm.cells c).silenced)
  let put (c : Nat) (f : CellAlm → CellAlm) (s : State) : State := onAlm (fun a => { a with cells := tmod {} a.cells c f }) s
  showAlarms (forEach cs (fun c s =>
    if (tget {} s.alm.cells c).active != 0 then sendGroupAlf c (put c (fun x => { x with silenced := true, rev := nextRev x.rev }) s)
    else put c (fun x => { x with silenced := true }) s) s)

/-- Accept call: from an engineer called before the evaluation, while it is calling (R247, R259). -/
def acceptCall (s0 : State) (g : Nat) (e : Nat) (s : State) : State :=
  if (call s0 g).st == .calling && (call s g).st == .calling && (calledMask s0 g).getLsbD e then
    notifyCall g (post 0x0503 g [1] (setCall g (fun x => { x with st := .accepted, accepted := BitVec.ofNat 3 e }) s))
  else s

/-- Whether a point can go to Shelved: from Normal, Active or Returned (R248). -/
def canShelve (p : Point) : Bool := !p.suppr && (p.st == .normal || isActive p.st || isUnack p.st)

/-- A point shelved for some minutes, or for its image default (R248, R249). -/
def shelve (n : Nat) (mins : Nat) (s : State) : State :=
  pointTo n .shelved (setPnt n (fun x => { x with shelfEval := 6000 * (if mins = 0 then (pointCfg s n).shelfDefault else mins),
                                                    shelfNew := true }) s)

/-- The dead-man timer ran, warned or called before the evaluation and does still. -/
def deadOn (s0 s : State) : Bool := s0.alm.dead != .off && s.alm.dead != .off

/-- One command applied (R246 step 1): it acts only on what already stood in `s0`, the state before the evaluation (R247,
log 120). The operations 12 and 13 are the request of an ACN for the ALF of a point or group, which no other path can give (R264). -/
def almApply (s0 : State) (c : AlmCmd) (s : State) : State :=
  let w := c.word
  let arg := almArg w
  let t := almTarget w
  let ack (n : Nat) (s : State) : State := if c.seen.all (fun l => l.contains n) then ackPoint s0 n s else s
  match almOp w with
  | 1 => ack t s
  | 2 => forEach ((subPoints s t).map (·.1)) ack s
  | 3 => if canShelve (pnt s0 t) && canShelve (pnt s t) then shelve t arg s else s
  | 4 => if (pnt s0 t).st = .shelved then unshelve t s else s
  | 5 => silenceAll s0 s
  | 6 => acceptCall s0 (arg % 8) (arg / 8 % 8) s
  | 7 => onAlm (fun a => { a with duty := tput {} a.duty (arg % 8) { assigned := true, duty := BitVec.ofNat 3 (arg / 8),
                                                                      backup := BitVec.ofNat 3 (arg / 64) } }) s
  | 8 => if s0.alm.dead == .off && s.alm.dead == .off then deadTo .running (BitVec.ofNat 3 (arg / 8)) s else s
  | 9 => if deadOn s0 s then deadTo .running s.alm.deadEngineer s else s
  | 10 => if deadOn s0 s then deadTo .off s.alm.deadEngineer s else s
  | 11 => forEach ((points s).map (·.1)) ack s
  | 12 => sendPointAlf t s
  | 13 => sendGroupAlf t s
  | _ => s

/-- The number of a path in its record, in the order of the table of R257. -/
def pathCode : AlmPath → Word
  | .session _ => 0
  | .program => 1
  | .acn => 2

/-- A command applied and posted with its path and session (R257). -/
def almCommand (s0 : State) (c : AlmCmd) (s : State) : State :=
  let id := match c.path with
    | .session x => x
    | _ => 0
  almApply s0 c (post 0x0502 0 [pathCode c.path, id] s)

/-- The commands received since the previous evaluation, in arrival order (R246 step 1). -/
def almCommands (s : State) : State := forEach s.alm.cmds (almCommand s) (onAlm (fun a => { a with cmds := [] }) s)

/-! ### The evaluation (R246) -/

/-- What MRAM keeps of every point (R250). -/
def keepPoints (s : State) : State :=
  onAlm (fun a => { a with mram := tputs {} [] ((points s).map (fun p =>
    (p.1, { retUnack := (pnt s p.1).st == .returnedUnack || (pnt s p.1).restore, shelf := if (pnt s p.1).st = .shelved then shelfMin (pnt s p.1) else 0 }))) }) s

/-- Whether ALM_N is asserted: an unacknowledged, unsilenced point or group alarm with ALMN (R252). -/
def wantsAlmN (s : State) : Bool :=
  announces s &&
    ((points s).any (fun p => almnOf p.2 && isUnack (pnt s p.1).st && !(pnt s p.1).silenced) ||
     (List.range s.img.cells.length).any (fun c =>
       ((cellCfg s c).group.map (·.almn)).getD false && (tget {} s.alm.cells c).unack != 0 && !(tget {} s.alm.cells c).silenced))

/-- The points that became Active, unacknowledged since the last summaries. -/
def becameActive (s : State) : List Nat := s.alm.fresh.filter (fun n => (pnt s n).st == .activeUnack)

/-- Whether the engine evaluates image points (R245). -/
def almRuns (s : State) : Bool := !s.sup.blank && (inService s || s.sup.mode == .safe)

/-- What a content shows of the alarm engine. -/
def alarmShown : PanelContent → List AlarmLine × List CellLine
  | .page _ a c _ _ => (a, c)
  | _ => ([], [])

/-- The panel's alarm list and cell status drawn where they changed without a change of state that is announced, as where a point is
suppressed (R253, R391). -/
def alarmRefresh (s : State) : State :=
  if announces s && !standbyPage s && alarmShown (panelContent s) != alarmShown s.dsp.content then alarmRedraw s else s

/-- ALARM_EVALUATION: commands, points, summaries, calls and ALM_N in the order of R246; one that has not completed at the
next 10 ms instant is a fault. -/
def alarmEvaluation (us : BitVec 16) (s : State) : State :=
  if !almRuns s then s
  else
    let a := forEach ((points s).map (·.1)) evalPoint (almCommands s)
    let became := becameActive a
    let a := onAlm (fun x => { x with fresh := [] }) a
    let cells := (List.range s.img.cells.length).reverse
    let b := forEach cells (cellStep became) a
    let fresh := cells.filter (fun c => groupFresh (tget {} s.alm.cells c) (tget {} b.alm.cells c))
    let b := forEach (List.range 8) (callStep became fresh) b
    let b := keepPoints (onAlm (fun x => { x with almN := wantsAlmN b, evalLast := us, evalMax := max16 x.evalMax us }) b)
    let b := alarmRefresh b
    if us.toNat > 10000 then selfDiag .alarmLate b else b

/-- ALARM_EVALUATION (R246). -/
def execAlarmEvaluation (us : BitVec 16) (s : State) : Outcome := .next (alarmEvaluation us s)

/-- Something that happens at an evaluation's instant, whose commands come first (R246, R247). -/
def atInstant (k : State → State) (s : State) : State := if almRuns s then k (almCommands s) else s

/-- An event of a point in use while the engine runs and the point is not suppressed (R243). -/
def pointEvent (n : Nat) (ok : Point → Bool) (k : State → State) (s : State) : State :=
  if almRuns s && (iget (points s) n).isSome then
    atInstant (fun s => if !(pnt s n).suppr && ok (pnt s n) then keepPoints (k s) else s) s
  else s

/-- POINT_ON_DELAY_END: the running on-delay is served (R244, log 33). -/
def execPointOnDelayEnd (p : BitVec 12) (s : State) : Outcome :=
  .next (pointEvent p.toNat (fun x => x.cond && x.onCnt != 0) (goesActive p.toNat) s)
/-- POINT_OFF_DELAY_END: the running off-delay is served (R244, log 33). -/
def execPointOffDelayEnd (p : BitVec 12) (s : State) : Outcome :=
  .next (pointEvent p.toNat (fun x => !x.cond && x.offCnt != 0) (returns p.toNat) s)
/-- BLOCK_RELEASE_DELAY_END: a blocked point whose source is no longer true goes to Normal (R245, log 33). -/
def execBlockReleaseDelayEnd (p : BitVec 12) (s : State) : Outcome :=
  .next (pointEvent p.toNat (fun x => x.st == .blocked && (match (pointCfg s p.toNat).block with
      | some b => !blockTrue b x.blockSrc s
      | none => false))
    (fun s => pointTo p.toNat .normal (setPnt p.toNat (fun x => { x with blocking := false, blockSrc := false, relCnt := 0 }) s)) s)
/-- SHELF_TIME_END (R248, log 33). -/
def execShelfTimeEnd (p : BitVec 12) (s : State) : Outcome :=
  .next (pointEvent p.toNat (fun x => x.st == .shelved) (unshelve p.toNat) s)

/-- CALL_STAGE_1: T1 after the call started (R259). -/
def execCallStage1 (g : Fin 8) (s : State) : Outcome :=
  .next (atInstant (fun s => if (call s g.val).st == .calling && (call s g.val).stage == 0 then callStage g.val 1 s else s) s)
/-- CALL_STAGE_2: T2 after stage 1 (R259). -/
def execCallStage2 (g : Fin 8) (s : State) : Outcome :=
  .next (atInstant (fun s => if (call s g.val).st == .calling && (call s g.val).stage == 1 then callStage g.val 2 s else s) s)

/-- The end of a time of the dead-man timer, unless a command that comes first at that instant has changed it (R246, R260). -/
def deadTimeEnd (d : DeadState) (k : State → State) (s : State) : State :=
  if s.alm.dead = d then
    let t := atInstant id s
    if t.alm.dead = d && t.alm.deadSince = s.alm.deadSince then k t else t
  else s

/-- DEAD_MAN_INTERVAL_END (R260). -/
def execDeadManIntervalEnd (s : State) : Outcome := .next (deadTimeEnd .running (deadTo .prewarn s.alm.deadEngineer) s)
/-- DEAD_MAN_PREWARNING_END (R260). -/
def execDeadManPrewarningEnd (s : State) : Outcome := .next (deadTimeEnd .prewarn deadAlarm s)

/-! ### The commands of R257 -/

/-- ACKNOWLEDGE_POINT (R255). -/
def execAcknowledgePoint (r : Req) (p : BitVec 12) (s : State) : Outcome := .next (almFromSession r (almWord 1 0 p.toNat) s)
/-- ACKNOWLEDGE_GROUP (R255). -/
def execAcknowledgeGroup (r : Req) (c : BitVec 12) (s : State) : Outcome := .next (almFromSession r (almWord 2 0 c.toNat) s)
/-- ACKNOWLEDGE_ALL (R257). -/
def execAcknowledgeAll (r : Req) (s : State) : Outcome := .next (almFromSession r (almWord 11 0 0) s)
/-- SHELVE (R249). -/
def execShelve (r : Req) (p : BitVec 12) (m : BitVec 16) (s : State) : Outcome :=
  .next (almFromSession r (almWord 3 m.toNat p.toNat) s)
/-- UNSHELVE (R248). -/
def execUnshelve (r : Req) (p : BitVec 12) (s : State) : Outcome := .next (almFromSession r (almWord 4 0 p.toNat) s)
/-- SILENCE (R252). -/
def execSilence (r : Req) (s : State) : Outcome := .next (almFromSession r (almWord 5 0 0) s)
/-- ACCEPT_CALL (R259). -/
def execAcceptCall (r : Req) (g e : Fin 8) (s : State) : Outcome := .next (almFromSession r (almWord 6 (g.val + 8 * e.val) 0) s)
/-- ASSIGN_DUTY (R258). -/
def execAssignDuty (r : Req) (g duty backup : Fin 8) (s : State) : Outcome :=
  .next (almFromSession r (almWord 7 (g.val + 8 * duty.val + 64 * backup.val) 0) s)
/-- DEAD_MAN_ON (R260). -/
def execDeadManOn (r : Req) (e : Fin 8) (s : State) : Outcome := .next (almFromSession r (almWord 8 (8 * e.val) 0) s)
/-- DEAD_MAN_RESET (R260). -/
def execDeadManReset (r : Req) (s : State) : Outcome := .next (almFromSession r (almWord 9 0 0) s)
/-- DEAD_MAN_OFF (R260). -/
def execDeadManOff (r : Req) (s : State) : Outcome := .next (almFromSession r (almWord 10 0 0) s)

/-! ### Sentences (R263, R264) -/

/-- The alerts in a state other than N. -/
def standingAlerts (s : State) : List Nat :=
  ((points s).filter (fun p => p.2.bam && pointChar (pnt s p.1) != 0x4E)).map (fun p => pointAlert p.1 p.2) ++
  (List.range s.img.cells.length).filterMap (fun c =>
    let x := tget {} s.alm.cells c
    match (cellCfg s c).group with
    | some g => if g.bam && (x.active != 0 || x.unack != 0) then some (groupAlert c g) else none
    | none => none)

/-- ALC_SEND (R263). -/
def execAlcSend (s : State) : Outcome := .next (if announces s then sentence (.alc (standingAlerts s)) s else s)

/-- HBT_SEND: the sequence counts from 0 to 9 (R263). -/
def execHbtSend (s : State) : Outcome :=
  .next (if announces s then
    onAlm (fun a => { a with hbtSeq := (a.hbtSeq + 1) % 10 }) (sentence (.hbt s.alm.hbtSeq) s) else s)

/-- An ACN counted as ignored (R264). -/
def acnIgnored (s : State) : State := onAlm (fun a => { a with evt := setBit a.evt 5 }) s

/-- The points or cells an alert identifier names. -/
def alertPoint (s : State) (alert : Nat) : Option Nat :=
  ((points s).find? (fun p => p.2.bam && pointAlert p.1 p.2 == alert)).map (·.1)
/-- The group alarm an alert identifier names. -/
def alertGroup (s : State) (alert : Nat) : Option Nat :=
  (List.range s.img.cells.length).find? (fun c => match (cellCfg s c).group with
    | some g => g.bam && groupAlert c g == alert
    | none => false)

/-- An ACN taken where the image enables it, by the active or single module; a command for the partner too (R262, R264).
An identifier of no alert of the module is not for it. -/
def acn (alert : Nat) (point group : Nat → State → State) (s : State) : State :=
  if !s.img.net.acnEn || !almRuns s then acnIgnored s
  else if !announces s then s
  else match alertPoint s alert, alertGroup s alert with
    | some n, _ => point n s
    | none, some c => group c s
    | none, none => s

/-- An ACN's command in line for the next evaluation, for both modules of a pair (R257, R262). -/
def acnQueue (w : Word) (s : State) : State := almBoth .acn .acn w s

/-- ACN_ACKNOWLEDGE (R264). -/
def execAcnAcknowledge (alert : Nat) (s : State) : Outcome :=
  .next (acn alert (fun n => acnQueue (almWord 1 0 n)) (fun c => acnQueue (almWord 2 0 c)) s)
/-- ACN_SILENCE (R264). -/
def execAcnSilence (alert : Nat) (s : State) : Outcome :=
  .next (acn alert (fun _ => acnQueue (almWord 5 0 0)) (fun _ => acnQueue (almWord 5 0 0)) s)
/-- ACN_REQUEST_REPEAT: in line like every command; the partner does not announce, and hears nothing of it (R246, R262, R264). -/
def execAcnRequestRepeat (alert : Nat) (s : State) : Outcome :=
  .next (acn alert (fun n => almQueue { path := .acn, word := almWord 12 0 n }) (fun c => almQueue { path := .acn, word := almWord 13 0 c }) s)
/-- ACN_IGNORED (R264). -/
def execAcnIgnored (s : State) : Outcome := .next (acnIgnored s)

/-! ### Starts and take-overs (R245, R250, R261, R262) -/

/-- The points at the start of classes P, B, X and S: Normal but for what MRAM held, every release delay as if blocking
had just ended; a point held as Returned, unacknowledged is so again once its condition is seen not to be active (R245, R250). -/
def pointsAtStart (s : State) : State :=
  let fresh (p : Nat × PointCfg) : Nat × Point :=
    let m := tget {} s.alm.mram p.1
    (p.1, { st := if m.shelf ≠ 0 then .shelved else .normal, restore := m.shelf = 0 && m.retUnack, shelfEval := 6000 * m.shelf,
            blocking := p.2.block.isSome, relCnt := (p.2.block.map (·.release)).getD 0 })
  onAlm (fun a => { a with points := tputs {} [] ((points s).map fresh), cells := [], calls := [], fresh := [] }) s

/-- The dead-man timer at the start of classes P, B, X and S: Running resumes in Pre-warning, T_PRE starting again (R261). -/
def deadAtStart (s : State) : State :=
  match s.alm.dead with
  | .running => deadTo .prewarn s.alm.deadEngineer s
  | .prewarn => onAlm (fun a => { a with deadSince := nowUs s }) s
  | _ => s

/-- A new active module announces its own point states: sentences, the panel, the call states (R262, R334). -/
def announceAll (s : State) : State :=
  let s := forEach ((points s).filter (fun p => pointChar (pnt s p.1) != 0x4E)) (fun p s => sendPointAlf p.1 s) s
  let s := forEach (List.range s.img.cells.length) (fun c s =>
    if (tget {} s.alm.cells c).active != 0 || (tget {} s.alm.cells c).unack != 0 then sendGroupAlf c s else s) s
  showAlarms (forEach (List.range 8) notifyCall s)

end Sys2Proof.Machine
end

