-- ==== Sys2Proof/Machine/Olc.lean ====
section
/-! DEFINITION. Online change and forcing (R78 to R85): acceptance, what takes effect at a T0, the list of changed constants. -/

namespace Sys2Proof.Machine

/-! ### Online change (R78 to R80, R84) -/

/-- The status code "online change list full" (R333). -/
def stListFull : BitVec 16 := 0x000A

/-- The distinct changed constants after some entries. DESIGN CHOICE: the spec does not say whether batches that still wait for
their T0 count; the model counts them, so that what was accepted never exceeds the list (R78, log 116). -/
def constTags (s : State) (b : List OlcEntry) : List Nat :=
  let waiting := s.cyc.sched.flatMap (fun x => match x.act with
    | .change l => l
    | _ => [])
  ((s.cyc.consts.map (·.1)) ++ ((waiting ++ b).filter (·.const)).map (·.tag)).eraseDups

/-- Why an entry is refused: a value write names a variable, a constant change a constant (R78). DESIGN CHOICE: the spec gives
no status for an entry whose kind and area do not match; the model answers "value out of range" (log 116). -/
def entryBad (s : State) (e : OlcEntry) : Option (BitVec 16) :=
  let ok := if e.const then isConst s e.tag else decide (s.img.varLo ≤ e.tag) && decide (e.tag < s.img.varHi)
  if !ok then some stRange
  else if safetyTarget s (.tag e.tag) && s.sup.mode != .commissioning then some stState
  else none

/-- Why a batch is refused, with the index of its first refused entry (R78, R328). -/
def batchBad (s : State) (b : List OlcEntry) : Option (BitVec 16 × Nat) :=
  if b.isEmpty || decide (b.length > 64) then some (stMalformed, 0)
  else if !inRun s then some (stState, 0)
  else
    match b.zipIdx.findSome? (fun e => (entryBad s e.1).map (fun st => (st, e.2))) with
    | some r => some r
    | none =>
      ((List.range b.length).find? (fun i => decide ((constTags s (b.take (i + 1))).length > 1024))).map (fun i => (stListFull, i))

/-- A refused batch noted in CYC_EVT (R88). -/
def olcRefused (s : State) : State := onCyc (fun c => { c with evt := setBit c.evt 3 }) s

/-- The unsaved-changes mark on the panel (R80). -/
def noteUnsaved (s : State) : State :=
  if s.cyc.unsaved then s else pageDraw (onCyc (fun c => { c with unsaved := true }) s)

/-- Data words put into both lanes. -/
def putBoth (a : Nat) (v : Word) (s : State) : State :=
  { s with nibA := { s.nibA with data := tput 0 s.nibA.data a v, wrote := if s.nibA.wrote.contains a then s.nibA.wrote else s.nibA.wrote ++ [a] },
           nibB := { s.nibB with data := tput 0 s.nibB.data a v } }

/-- One entry taking effect: posted with tag, old and new value; a value write to a forced tag is lost (R80, R84). -/
def applyEntry (e : OlcEntry) (s : State) : State :=
  let s := post 0x0102 0 [BitVec.ofNat 32 e.tag, dataAt (if wordOfB s e.tag then s.nibB else s.nibA) e.tag, e.value] s
  if e.const then
    noteUnsaved (putBoth e.tag e.value (onCyc (fun c => { c with consts := tins e.tag e.value c.consts }) s))
  else if (forced s (.tag e.tag)).isSome then s
  else putBoth e.tag e.value s

/-- A batch taking effect (R79). -/
def applyBatch (b : List OlcEntry) (s : State) : State := forEach b applyEntry s

/-- CHANGE after admission: accepted or refused whole, with the index of the first refused entry, 0xFFFF
where there is none (R78, R328). -/
def changeRequest (r : Req) (b : List OlcEntry) (s : State) : State :=
  match batchBad s b with
  | some (st, i) => reply r st (le16 (BitVec.ofNat 16 i)) (olcRefused s)
  | none => acceptWith r (le16 0xFFFF) (.change b) (schedule (.change b)) s

/-- Words written into the VAR region: value writes, one batch (R78, R340). An address that is no tag is refused. -/
def varWrite (r : Req) (b : List OlcEntry) (s : State) : Written :=
  if b.any (fun e => !isTag s e.tag) then refuse stAccess s
  else match batchBad s b with
    | some (st, _) => (st, olcRefused s)
    | none => doneBoth r (.change b) (schedule (.change b)) s

/-- CHANGE (R78). -/
def execChange (r : Req) (b : List OlcEntry) (s : State) : Outcome := .next (screenReq r lvEngineer false (changeRequest r b) s)

/-- READ_CHANGED_CONSTANTS: the tags and values of the list (R80). -/
def execReadChangedConstants (r : Req) (s : State) : Outcome :=
  .next (screenReq r lvView false (fun s =>
    reply r stOk (s.cyc.consts.flatMap (fun p => Word.bytes (BitVec.ofNat 32 p.1) ++ Word.bytes p.2)) s) s)

/-! ### Forcing (R81 to R85) -/

/-- The forces that stand once every force command in line has taken effect. -/
def forcesAfter (s : State) : List ForceTarget :=
  s.cyc.sched.foldl (fun l x => match x.act with
    | .force t (some _) => if l.contains t then l else l ++ [t]
    | .force t none => l.filter (· != t)
    | .releaseCell c => l.filter (fun t => !inCell s c (targetCell s t))
    | _ => l) (s.cyc.forces.map (·.1))

/-- Whether a force may name a variable: a tag of the image, or an image word bound to a variable (R81). DESIGN CHOICE: the spec
does not say in so many words whether a constant's tag may be forced; a force holds a variable, and only online change writes the
constant area (R54), so the model refuses it (log 117). -/
def forceable (s : State) (t : ForceTarget) : Bool :=
  match t with
  | .tag n => isTag s n && !isConst s n
  | .inp o => s.img.boundIn.any (fun p => p.1 == o)
  | .outp o => s.img.boundOut.any (fun p => p.1 == o)

/-- Why a force command is refused (R81). Forcing is taken in Run, Commissioning and Hold, the states with cycles or their
outputs; a 257th force is out of range (log 40). -/
def forceBad (s : State) (t : ForceTarget) (set : Bool) : Option (BitVec 16) :=
  if !inService s then some stState
  else if !forceable s t then some stRange
  else if set && safetyTarget s t && s.sup.mode != .commissioning then some stState
  else if set && !(forcesAfter s).contains t && decide ((forcesAfter s).length ≥ 256) then some stRange
  else none

/-- A refused force command noted in CYC_EVT (R88). -/
def frcRefused (s : State) : State := onCyc (fun c => { c with evt := setBit c.evt 4 }) s

/-- A force command after admission. -/
def forceRequest (r : Req) (t : ForceTarget) (v : Option Word) (s : State) : State :=
  match forceBad s t v.isSome with
  | some st => reply r st [] (frcRefused s)
  | none => acceptBoth r (.force t v) (schedule (.force t v)) s

/-- FORCE_SET (R81). -/
def execForceSet (r : Req) (t : ForceTarget) (v : Word) (s : State) : Outcome :=
  .next (screenReq r lvEngineer false (forceRequest r t (some v)) s)
/-- FORCE_RELEASE (R83). -/
def execForceRelease (r : Req) (t : ForceTarget) (s : State) : Outcome :=
  .next (screenReq r lvEngineer false (forceRequest r t none) s)

/-- FORCE_RELEASE_IN_CELL: every force that stands in the cell and its descendants when it takes effect is released; one
command, one confirmation, one answer (R79, R81, log 26). -/
def releaseInCell (r : Req) (c : BitVec 12) (s : State) : State :=
  if c.toNat ≥ s.img.cells.length then reply r stRange [] (frcRefused s)
  else if !inService s then reply r stState [] (frcRefused s)
  else acceptBoth r (.releaseCell c) (schedule (.releaseCell c.toNat)) s

/-- FORCE_RELEASE_IN_CELL (R81). -/
def execForceReleaseInCell (r : Req) (c : BitVec 12) (s : State) : Outcome :=
  .next (screenReq r lvEngineer false (releaseInCell r c) s)

/-- A force taking effect or released at a T0; a tag and an output word keep the forced value (R81, R83). -/
def applyForce (t : ForceTarget) (v : Option Word) (s : State) : State :=
  let old := forced s t
  let rest := s.cyc.forces.filter (fun f => f.1 != t)
  match v with
  | some w => post 0x0103 0 [0] (onCyc (fun c => { c with forces := rest ++ [(t, w)] }) s)
  | none =>
    match old with
    | none => s
    | some w =>
      let s := post 0x0103 0 [1] (onCyc (fun c => { c with forces := rest }) s)
      match t with
      | .tag n => putBoth n w s
      | .inp _ => s
      | .outp o => { s with nibA := { s.nibA with outs := tput 0 s.nibA.outs o w },
                            nibB := { s.nibB with outs := tput 0 s.nibB.outs o w },
                            cyc := { s.cyc with outImg := tput 0 s.cyc.outImg o w } }

/-- Every force of a cell and its descendants released at a T0 (R81). -/
def applyRelease (c : Nat) (s : State) : State :=
  forEach ((s.cyc.forces.map (·.1)).filter (fun t => inCell s c (targetCell s t))) (fun t s => applyForce t none s) s

end Sys2Proof.Machine
end

