-- ==== Sys2Proof/Machine/Acts.lean ====
section
/-! DEFINITION. What waits for a T0 (R79): Hold entered and left (R24, R76), the retain store and "clear retain variables" (R55, R71,
R423 to R425), and the acts that a T0 carries out. -/

namespace Sys2Proof.Machine

/-! ### Hold (R24, R76) -/

/-- Hold entered: the lanes stop, Released slots are demanded, outputs go to row 3 of R16 (R132, R212, R421). The digest of a
silent divergence goes on, and one that is due at the TO of its cycle starts there (R101). -/
def enterHold (s : State) : State :=
  if !inRun s then s
  else
    let s := pauseLanes (endCommissioning s)
    let s := onSup (fun u => { u with mode := .hold, holdSince := nowUs s, holdExit := 0, holdRow := false }) s
    let s := onCyc (fun c => { c with snapFresh := false }) s
    let s := demandReleased (onLpe (fun l => { l with held := true }) s)
    applyOutputs (openPairs s)

/-- Hold left: the next two T0 begin the cycles of R76; outputs stay in row 3 of R16 (R422). The trace channels, which kept their
states in Hold, follow the shed step that stands now (R41, R141). -/
def leaveHold (s : State) : State :=
  if s.sup.mode != .hold then s
  else
    let sec := BitVec.ofNat 32 ((nowUs s - s.sup.holdSince) / 1000000)
    let s := onSup (fun u => { u with mode := .run, holdExit := 2, holdRow := true, holdSec := sec }) s
    mapTraces (if s.tim.shed ≥ 3 then traceShed else traceUnshed) s

/-! ### The retain store (R55, R71, R423 to R425) -/

/-- The lane that holds a data word: Nib A, or in Split mode the owner of its cell (R55, R112). -/
def ownerLane (s : State) (t : Nat) : LaneSt := if wordOfB s t then s.nibB else s.nibA

/-- The journal's words applied to the store (R423). -/
def applyJournal (s : State) : State :=
  match s.cyc.journal with
  | none => s
  | some l => onCyc (fun c => { c with retain := tputs 0 c.retain l, journal := none }) s

/-- The retain words that the cycle wrote, into the journal; cell modes, loop modes and manual values with them. The store
takes the journal before the next TO, here at the next T0 (R55, R423, log 44). -/
def retainCopy (s : State) : State :=
  let s := applyJournal s
  let ws := (s.img.retain.filter (fun t => (ownerLane s t).wrote.contains t)).map (fun t => (t, dataAt (ownerLane s t) t))
  onCyc (fun c => { c with journal := some ws, retainModes := c.cells.filterMap (fun p => if p.2.mode = 0 then none else some (p.1, p.2.mode)),
                           retainLoops := s.lpe.slots.map (fun p => (p.1, (p.2.mode, p.2.man))) }) s

/-- The image's initial value of a data word (R86). -/
def initOf (s : State) (t : Nat) : Word := (iget s.img.init t).getD 0

/-- Cell modes and loop modes and manual values at the image's initial values (R424, R425). -/
def initialModes (s : State) : State :=
  let s := forEach (List.range s.img.cells.length) (fun n s => setCell n (fun c => { c with mode := (cellCfg s n).mode }) s) s
  forEach s.img.loops (fun p s => setLoop p.1 (fun x => { x with mode := p.2.mode, man := initialMan p.2 }) s) s

/-- Every retain variable, cell mode, loop mode and manual value at its initial value, in both lanes and in the store
(R425). -/
def clearRetain (s : State) : State :=
  let vals := s.img.retain.map (fun t => (t, initOf s t))
  let s := initialModes { s with nibA := { s.nibA with data := tputs 0 s.nibA.data vals }, nibB := { s.nibB with data := tputs 0 s.nibB.data vals } }
  onCyc (fun c => { c with retain := tputs 0 [] vals, journal := none,
                           retainModes := c.cells.filterMap (fun p => if p.2.mode = 0 then none else some (p.1, p.2.mode)),
                           retainLoops := s.lpe.slots.map (fun p => (p.1, (p.2.mode, p.2.man))) }) s

/-! ### The acts of a T0 (R79) -/

/-- An act that waited for this T0. -/
def applyAct (a : T0Act) (s : State) : State :=
  match a with
  | .maint g e => applyMaint g.val e s
  | .change b => applyBatch b s
  | .force t v => applyForce t v s
  | .releaseCell c => applyRelease c s
  | .split => applySplit s
  | .rejoin => s
  | .clearRetain => clearRetain s
  | .holdIn => enterHold s
  | .resumeIn => leaveHold s

/-- Whether an act takes effect at a T0 that falls `ahead` µs from now: two cycles have passed and the partner has confirmed
(R79). -/
def actDue (ahead : Nat) (s : State) (x : Sched) : Bool :=
  decide (nowUs s + ahead ≥ x.at_ + 2 * cycleUs s) && !x.held && !unconfirmedAct s x.act

/-- The acts of this T0 that `p` selects, in the order of their acceptance. -/
def applyDue (ahead : Nat) (p : T0Act → Bool) (s : State) : State :=
  let due := s.cyc.sched.filter (fun x => actDue ahead s x && p x.act)
  forEach due (fun x s => applyAct x.act s) (onCyc (fun c => { c with sched := c.sched.filter (fun x => !due.contains x) }) s)

/-- The acts that are applied before a transfer at the same T0 (R278). -/
def beforeTransfer : T0Act → Bool
  | .holdIn => true
  | .resumeIn => true
  | .split => true
  | _ => false

/-- The lane mode of a module whose lanes do not execute follows a confirmed rejoin without observation, at a T0 `ahead` µs from now
(R110). -/
def followRejoin (ahead : Nat) (s : State) : State :=
  match s.cmp.rejoinAt with
  | some t =>
    if s.sup.mode != .hold && decide (nowUs s + ahead ≥ t + 2 * cycleUs s) && rejoinFree s then
      onCmp (fun m => { m with mode := .checked, pending := false, rejoinAt := none, evt := setBit m.evt 5 }) s
    else s
  | none => s

end Sys2Proof.Machine
end

