-- ==== Sys2Proof/Machine/Pairs.lean ====
section
/-! DEFINITION. Pairs and stations (R266 to R301): the interlock nets, taking the role, deltas and the join copy, Twin-step
digests, forwarded commands, the background self-test, hellos, the speaker, station time, station exchange. -/

namespace Sys2Proof.Machine

/-! ### Station link ports (R267, R268, R300, R301) -/

/-- An injector register written: Engineer, in Commissioning with TESTP_N low (R301, R303, R321). -/
def injWrite (w : Who) (onRing : Bool) (p : Nat) (v : Word) (s : State) : Written :=
  byLevel w lvEngineer (fun s =>
    if !injOk s then refuse stAccess s
    else if injBad v then refuse stRange s
    else if onRing then done (setRingPort p (fun r => { r with inj := v &&& 0x8007FFFF, injSent := 0, injCnt := 0 }) s)
    else done (setSlPort p (fun r => { r with inj := v &&& 0x8007FFFF, injSent := 0, injCnt := 0 }) s)) s

/-- The bit an injector inverts (R303, R322). -/
def injBitWrite (w : Who) (onRing : Bool) (p : Nat) (v : Word) (s : State) : Written :=
  byLevel w lvEngineer (fun s =>
    if !injOk s then refuse stAccess s
    else if onRing then done (setRingPort p (fun r => { r with injBit := v &&& 0x3FFF }) s)
    else done (setSlPort p (fun r => { r with injBit := v &&& 0x3FFF }) s)) s

/-- SLK_INJECTOR_WRITE (R301). -/
def execSlkInjectorWrite (r : Req) (p : Fin 3) (v : Word) (s : State) : Outcome :=
  .next (sessionWrites r (fun w => injWrite w false p.val v) s)
/-- FRG_INJECTOR_WRITE (R321). -/
def execFrgInjectorWrite (r : Req) (p : Fin 2) (v : Word) (s : State) : Outcome :=
  .next (sessionWrites r (fun w => injWrite w true p.val v) s)

/-- TESTP_INPUT_CHANGE: a high reading ends every injection (R301). -/
def execTestpInputChange (low : Bool) (s : State) : Outcome :=
  .next (let s := onPst (fun p => { p with testp := low }) s
         if low then s else clearInjectors s)

/-! ### Taking the role (R270 to R279) -/

/-- Whether the standby may take the role: Run, Commissioning or Hold, its join copy complete (R277). -/
def mayTake (s : State) : Bool := s.pst.member && inService s && s.pst.joined && !s.pst.ownDrive && !s.pst.ilkFault

/-- Whether a terminal disagrees with the command of a switching output: on at or above 11 V (R149, R172). A PWM output
has one state only at 0 and at 100 %; the P side of a pair may be off under any request (log 105). -/
def switchDiffers (s : State) (i : Nat) (v : Int) : Bool :=
  let on := decide (v ≥ 1100)
  if chanMode s i = 3 then
    let d := pwmDuty (chanCfg s i) (partnerCmd s i)
    (feq d f0 && on) || (feq d f100 && !on)
  else if isPairChan s i then chanMode s i = 2 && on && !(partnerCmd s i).getLsbD 0
  else on != (partnerCmd s i).getLsbD 0

/-- The partner's drive target of a current-loop output, and whether its clamped command is 0 mA: in Copy mode as the state copy
brought it; in Twin-step mode, and until a copy has come, from the own command and the partner's trims (R199). -/
def partnerTarget (s : State) (i : Nat) : Word × Bool :=
  let cl := clampCmd (chanCfg s i) (partnerCmd s i)
  let t := tget {} s.fch.partnerTrims i
  let own := (driveTarget cl t.z t.s, !flt f0 cl)
  if copyFed s then (iget s.pst.targets i).getD own else own

/-- The cross-check of a current-loop output: the readback against the partner's target by more than 0.2 mA; none while
the partner reports compliance lost or a clamped command of 0 mA (R199). -/
def loopDiffers (s : State) (i : Nat) (lost : Bool) : Option Bool :=
  let t := partnerTarget s i
  let target := fval t.1
  let ua := (chan s i).lmean
  if lost || t.2 then none else some (target.scaledGt 1000 (ua + 200) || target.scaledLt 1000 (ua - 200))

/-- PARTNER_OUTPUT_MISMATCH: what a standby has read at the shared terminal for 10 ms, compared with its partner's command
(R172, R199); suppressed with the group's readback diagnostics (R176). The reading is the standby's readback of the terminal
(R149, R183). -/
def partnerCheck (i : Nat) (v : Int) (lost : Bool) (s : State) : State :=
  let m := chanMode s i
  let verdict := if m = 9 then loopDiffers s i lost else if (grp s (groupOf i)).suppr then none else some (switchDiffers s i v)
  if roleShown s = .standby && isOutput m then
    let s := if m = 9 then s else setChan i (fun c => { c with rbVolt := voltField v }) s
    match verdict with
    | some d => onSet i (fun c => { c with qPartner := d }) s
    | none => s
  else s

/-- PARTNER_OUTPUT_MISMATCH (R172). -/
def execPartnerOutputMismatch (ch : Fin 96) (x : CrossRead) (s : State) : Outcome :=
  .next (partnerCheck ch.val x.tenMilliVolt x.partnerLostCompliance s)

/-- Whether the shared terminal of a pair's P side reads on, as this standby last read it (R149, R172). -/
def heardOn (s : State) (p : Nat) : Bool := decide (1100 ≤ (chan s ((pairCfg s p).pch - 1)).rbVolt.toInt)

/-- The pairs at a take-over: one that the partner held on and whose slots are Released here stays on through the gap, any other
turns on at a TO alone; one held off here by a slot or a latch is a disagreement (R205, R237). -/
def pairsTakeover (s : State) : State :=
  forEach (s.img.pairsCfg.map (·.1)) (fun p s =>
    let len := tget 0 s.cyc.released (0x60 + p) != 0
    let req := (tget 0 s.cyc.released ((pairCfg s p).pch - 1)).getLsbD 0
    let q := qenOf s p
    let may := q && pairMay s p len req && heardOn s p
    let x := tget {} s.saf.pairs p
    let s := setPair p (fun x => { switchPair (nowUs s) (may && !latched x) x with qen := q, len := len, req := req }) s
    let ns := (List.range 16).filter (fun n => (slotCfg s n).pairs.getLsbD p &&
      ((tget {} s.saf.slots n).st == .awaiting || latched x))
    if len && req then forEach ns (fun n s => post 0x0305 n [] s) s else s) s

/-- A member's integrator follows a delivered value at a take-over (R128, R133). The copy of a slot carries no P, FF or Ti:
its candidate less I stands for P + D + FF, and any Ti of its schedule for integral action (log 122). -/
def alignCopy (v : Word) (win : Nat) (k : Nat) (s : State) : State :=
  let integral := (List.range 4).any (fun j => flt f0 (lpar (lslot s k) (24 + j)))
  setLoop k (fun x =>
    let y := { x with p := fsub x.cand x.i, d := f0, ff := f0, ti := if integral then f1 else f0, stMism := false, stNan := false }
    let z := lslot (alignLoop v win k (setLoop k (fun _ => y) s)) k
    { x with i := z.i, cand := z.cand, stClamped := z.stClamped }) s

/-- Every unit at a take-over: one that owns a current-loop output starts from the readback of the partner's drive and
moves no faster than the take-over ramp; its members' integrators follow (R133). -/
def loopsTakeover (copy : Bool) (s : State) : State :=
  forEach (s.img.loops.map (·.1)) (fun k s =>
    let ch := outChan s k
    if ch = 0 || chanMode s (ch - 1) != 9 || headOf s k != k then s
    else
      let rb := fofRatio ((heardAt s (ch - 1)).1 - 4000) 160
      let win := match (loopCfg s k).group with
        | some g => (tget {} s.lpe.groups g).winner.toNat
        | none => k
      let s := match (loopCfg s k).group with
        | some g => setLGroup g (fun y => { y with out := rb }) s
        | none => s
      let s := forEach (unitOf s k) (fun j s => setLoop j (fun x => { x with out := rb, stTake := true }) s) s
      if copy then forEach (unitOf s k) (alignCopy rb win) s else forEach (unitOf s k) (alignLoop rb win) s) s

/-- The role taken, the age of the last delta counted in the standby's own T0s since the cycle that sent it (log 124): at a transfer
at a cycle boundary what waits for the same T0 first (R278); the net asserted, outputs from the last delta or the own image,
current-loop outputs, loops and safety under their own rules, points announced (R200, R237, R262, R279, R391). -/
def takeRole (reason : Byte) (s : State) : State :=
  let s := if reason = 4 || reason = 5 then followRejoin 20 (applyDue 20 beforeTransfer s) else s
  let copy := copyFed s
  let age := if copy then s.pst.ticks - s.pst.applTick else 0
  let s := onPst (fun p => { p with ownDrive := true, ownLow := true, role := .active, ready := false, xferDue := none, takeoverDue := false,
                                    releaseSeen := none, swapDue := false, xferReason := reason, xferCount := inc8 p.xferCount,
                                    xferAge := if age > 255 then 255 else BitVec.ofNat 8 age, evt := setBit p.evt 0,
                                    requested := false, staging := none }) s
  let s := if copy then
      loopTransfer (onCyc (fun c => { c with released := c.outImg, count := (s.pst.applied.getD c.count) }) s)
    else s
  let s := post 0x0A01 0 [reason.setWidth 32] s
  let s := if copy && age > 1 then post 0x0A03 0 [0, BitVec.ofNat 32 age] s else s
  let s := if s.pst.shadow then onPst (fun p => { p with shadow := false }) (post 0x0A03 0 [1] s) else s
  let s := forEach allChans startRamp s
  let s := loopsTakeover copy (forEach allChans (fun i s => setChan i (fun c => { c with qPartner := false }) s) s)
  let s := pairsTakeover s
  let s := requalAll allChans (applyOutputs (handOff s))
  announceAll (alarmRedraw (onPst (fun p => { p with heard := [] }) s))

/-- Whether a release was seen within the last 10 µs (R276). -/
def releaseFresh (s : State) : Bool := s.pst.releaseSeen.any (fun t => decide (nowUs s ≤ t + 10))

/-- INTERLOCK_PEER_NET_CHANGE: the filtered readings of both nets, the gate they form, and what follows: a collision
(R273), an announced or unannounced take-over (R275, R276), the role wait (R272). -/
def netChange (own peer : Bool) (s : State) : State :=
  let wasLow := s.pst.peerLow
  let s := onPst (fun p => { p with ownLow := own, peerLow := peer }) s
  if !s.pst.member then s
  else
    let s := if peer && (s.sup.phase == .roleWait || s.sup.phase == .waitT0) then onPst (fun p => { p with decided := some .standby }) s else s
    let s := if own && peer && s.pst.ownDrive && prefSlot s != s.pst.slot then
        standbyDraw (standbyOutputs (post 0x0A02 0 [0] (onPst (fun p =>
          { p with ownDrive := false, ownLow := false, role := .standby, joined := false, wantJoin := true, joinNeed := none, shadow := p.mixed,
                   evt := setBit p.evt 6, standbySince := nowUs s }) (dropQen s))))
      else s
    let s := if wasLow && !peer && mayTake s then
        (if releaseFresh s then takeRole (s.pst.xferDue.getD 3) s else hearMeans (onPst (fun p => { p with takeoverDue := true }) s))
      else s
    applyOutputs (if drives s then openPairs s else dropQen s)

/-- INTERLOCK_PEER_NET_CHANGE (R270). -/
def execInterlockPeerNetChange (own peer : Bool) (s : State) : Outcome := .next (netChange own peer s)

/-- RELEASE_RECEIVED: the reason and the mean readbacks are kept; the role is taken once the peer net reads high (R200, R275). One that
comes after the net has gone high announces nothing: the wait of an unannounced release goes on (R276). -/
def execReleaseReceived (x : SlRx Byte) (s : State) : Outcome :=
  .next (slReceive 0 x.hdr (fun s =>
    if s.pst.member && !s.pst.ownDrive && s.pst.peerLow then
      hearMeans (onPst (fun p => { p with releaseSeen := some (nowUs s), xferDue := some x.body }) s)
    else s) id s)

/-- UNANNOUNCED_TAKEOVER: 1 200 µs after the peer net went high without a release (R276). -/
def execUnannouncedTakeover (s : State) : Outcome :=
  .next (if s.pst.takeoverDue && !s.pst.peerLow && mayTake s then takeRole 3 s
         else onPst (fun p => { p with takeoverDue := false }) s)

/-- Whether a net stands low that should not: the own net unasserted, or both (R274). -/
def netStuck (s : State) : Bool := s.pst.member && s.pst.ownLow && (!s.pst.ownDrive || s.pst.peerLow)

/-- INTERLOCK_STUCK: posted; the module does not drive until the fault ends (R274). -/
def execInterlockStuck (s : State) : Outcome :=
  .next (if netStuck s && !s.pst.ilkFault then
    applyOutputs (dropQen (post 0x0A02 0 [1] (onPst (fun p => { p with ilkFault := true, evt := setBit p.evt 5 }) s))) else s)

/-- INTERLOCK_STUCK_END (R274). -/
def execInterlockStuckEnd (s : State) : Outcome :=
  .next (if s.pst.ilkFault && !netStuck s then applyOutputs (onPst (fun p => { p with ilkFault := false }) s) else s)

/-- ROLE_WAIT_END: the role is decided; the module waits for the first T0 of Run (R272). -/
def execRoleWaitEnd (s : State) : Outcome :=
  .next (if s.sup.phase = .roleWait then
    let d := if s.pst.peerLow || s.pst.decided = some .standby then Role.standby else Role.active
    onSup (fun u => { u with phase := .waitT0 }) (onPst (fun p => { p with decided := some d }) s)
  else s)

/-- The role at the first T0 of Run (R272, R290). -/
def roleAtRun (s : State) : State :=
  if !s.pst.member then s
  else if s.pst.decided = some .active && !s.pst.peerLow && !s.pst.ilkFault then
    onPst (fun p => { p with ownDrive := true, ownLow := true, role := .active, joined := true, wantJoin := false, decided := none }) s
  else
    standbyDraw (onPst (fun p => { p with role := .standby, joined := false, wantJoin := true, joinNeed := none, decided := none,
                                          standbySince := nowUs s }) s)

/-! ### Readiness, take-back, swaps (R280 to R284) -/

/-- Readiness lost (R280, R281). -/
def notReady (s : State) : State := standbyDraw (requalify (onPst (fun p => { p with ready := false }) s))

/-- A joined standby that meets R280 again: SL1 is up, and a delta was applied, or it is in step, or it runs the shadow. It is
ready and starts to count (R280, R281). -/
def regain (s : State) : State :=
  if s.pst.member && !s.pst.ownDrive && inService s && s.pst.joined && !s.pst.ready && (slPort s 0).up &&
      (s.pst.shadow || s.img.plan.mode == .copy || s.pst.instep) then
    standbyDraw (requalify (onPst (fun p => { p with ready := true }) s))
  else s

/-- Whether every configured safety slot is Released with no off delay running (R282). -/
def safetyQuiet (s : State) : Bool :=
  s.img.slotsCfg.all (fun c => (tget {} s.saf.slots c.1).st == .released && !(tget {} s.saf.slots c.1).delaying)

/-- Whether the partner reports a condition. -/
def partnerSays (s : State) (f : Hello → Bool) : Bool := (partner s).present && ((partner s).hello.map f).getD false

/-- The conditions of R282 that both modules see. -/
def mayTakeBack (s : State) : Bool :=
  s.pst.member && !s.pst.mixed && !s.pst.tbInhibit && safetyQuiet s && partnerSays s (fun h => h.imgDigest == s.img.digest)

/-- The conditions of R282 that the active module sees: those, its own state, and the partner's readiness. -/
def activeTakesBack (s : State) : Bool := mayTakeBack s && inRun s && prefSlot s != s.pst.slot && partnerMayTake s

/-- The conditions of R282 that the standby sees: those, its counts, and the partner's state. -/
def standbyTakesBack (s : State) : Bool :=
  mayTakeBack s && s.pst.ready && prefSlot s == s.pst.slot && decide (s.pst.qualCycles ≥ 1000) &&
    decide (nowUs s ≥ s.pst.qualSince + 60000000) && partnerSays s (fun h => h.state == 1 || h.state == 2)

/-- TAKE_BACK: where the conditions of R282 that this module sees hold, the transfer falls due at a cycle boundary. -/
def takeBack (s : State) : State :=
  if (if s.pst.ownDrive then activeTakesBack s else standbyTakesBack s) then onPst (fun p => { p with xferDue := some 5 }) s else s

/-- TAKE_BACK (R282). -/
def execTakeBack (s : State) : Outcome := .next (takeBack s)

/-- A standby gets a new join copy; the active module sends one (R283, R290). -/
def resyncNow (s : State) : State :=
  if s.pst.ownDrive then onPst (fun p => { p with requested := true }) s
  else notReady (onPst (fun p => { p with joined := false, wantJoin := true, joinNeed := none, staging := none }) s)

/-- What a pair command does in either module (R283). -/
def pairEffect (c : FwdCmd) (s : State) : State :=
  match c with
  | .swap => if s.pst.ownDrive then onPst (fun p => { p with xferDue := some 4 }) s else s
  | .resync => resyncNow s
  | .inhibit => onPst (fun p => { p with tbInhibit := true, xferDue := if p.xferDue = some 5 then none else p.xferDue }) s
  | .allow => onPst (fun p => { p with tbInhibit := false }) s
  | _ => s

/-- Whether the standby of the pair is ready (R280). -/
def standbyReady (s : State) : Bool := if s.pst.ownDrive then partnerMayTake s else s.pst.ready

/-- A pair command; a module that is no pair member has no standby that could be ready (R283). -/
def pairWrite (r : Req) (c : FwdCmd) (s : State) : Written :=
  if s.pst.member && (c != .swap || standbyReady s) then doneBoth r c (pairEffect c) s else refuse stPartner s

/-- A pair command, at Engineer level (R283). -/
def pairCommand (r : Req) (c : FwdCmd) (s : State) : State :=
  screenReq r lvEngineer false (answer r (pairWrite r c)) s

/-- SWAP (R283). -/
def execSwap (r : Req) (s : State) : Outcome := .next (pairCommand r .swap s)
/-- RESYNC (R283). -/
def execResync (r : Req) (s : State) : Outcome := .next (pairCommand r .resync s)
/-- INHIBIT_TAKE_BACK (R283). -/
def execInhibitTakeBack (r : Req) (s : State) : Outcome := .next (pairCommand r .inhibit s)
/-- ALLOW_TAKE_BACK (R283). -/
def execAllowTakeBack (r : Req) (s : State) : Outcome := .next (pairCommand r .allow s)

/-- ROLE_SWAP_DUE: the exercise interval passed as standby (R284). -/
def execRoleSwapDue (s : State) : Outcome :=
  .next (if roleShown s = .standby && inService s && s.img.plan.exerciseH ≠ 0 && !s.pst.swapDue then
    post 0x0A06 0 [] (onPst (fun p => { p with swapDue := true }) s) else s)

/-! ### Background self-test (R285) -/

/-- A lane memory error: corrected, it is noted; uncorrectable, it is a fault (R52). -/
def memoryFound (f : ScrubFound) (s : State) : State :=
  match f with
  | .corrected => onCyc (fun c => { c with evt := setBit c.evt 5 }) s
  | .uncorrectable => selfDiag .memory s
  | _ => s

/-- SCRUB_STEP: what the check of a lane memory word finds. In a standby the scrub reads it and counts (R285); elsewhere it is
a lane's own access that meets it (R52, log 118). -/
def scrubStep (f : ScrubFound) (s : State) : State :=
  if !powered s then s
  else if !bistOn s then memoryFound f s
  else match f with
    | .passDone => onPst (fun p => { p with bistPasses := inc16 p.bistPasses }) s
    | .corrected => requalify (memoryFound f (onPst (fun p => { p with bistCorr := inc8 p.bistCorr }) s))
    | _ => memoryFound f s

/-- SCRUB_STEP (R285). -/
def execScrubStep (f : ScrubFound) (s : State) : Outcome := .next (scrubStep f s)

/-- BIST_TEST_SEQUENCE: the ROM sequence writes g1 to g63 of both lanes, with values the spec does not give: free values,
the same in both. A fault verdict on it is a fault with the verdict's reason; the cell of the ROM's entries is not given either
(R97, R285, log 7). -/
def bistSequence (v : Verdict) (s : State) : State :=
  if !(bistOn s && s.img.plan.mode == .copy) then s
  else
    let g : Tab Word := tputs 0 [] ((span 1 64).map (fun n => (n, Config.freeWord (s.free + n))))
    let s := { s with free := s.free + 64, nibA := { s.nibA with g := g }, nibB := { s.nibB with g := g } }
    if v = .equal || v = .diverged then s else checkedVerdict v ((freeVal s).setWidth 12) (takeFree s)

/-- BIST_TEST_SEQUENCE (R285). -/
def execBistTestSequence (v : Verdict) (s : State) : Outcome := .next (bistSequence v s)

/-- BIST_INJECTION_TEST (R105, R285). -/
def execBistInjectionTest (t : SelfTest) (s : State) : Outcome :=
  .next (if bistOn s && s.img.plan.mode == .copy then
    let s := recordTest t s
    if testPasses t then s else selfDiag .selfTest s
  else s)

/-! ### Deltas and the join copy (R287 to R294) -/

/-- The words of a 64-byte block. -/
def blockWords (b : Nat) : List Nat := span (16 * b) (16 * b + 16)

/-- The block number of an output image word: blocks of the output image follow those of data memory. -/
def outBlock (o : Nat) : Nat := (dataWords + o) / 16

/-- The blocks of the variable area and the output image that a cycle wrote; in Split mode each lane wrote its own (R108, R287). -/
def writtenBlocks (s : State) : List Nat :=
  (((if s.cmp.mode = .split then s.nibA.wrote ++ s.nibB.wrote else s.nibA.wrote).filter (fun a => decide (dataWords ≤ a) || (decide (s.img.varLo ≤ a) && decide (a < s.img.varHi)))).map (· / 16)).eraseDups

/-- Every block of the variable area and the output image (R290). -/
def allBlocks (s : State) : List Nat :=
  ((span s.img.varLo s.img.varHi).map (· / 16)).eraseDups ++ ((List.range outWords).map outBlock).eraseDups

/-- The data words of some blocks, in Split mode from the lane that owns each (R112). -/
def blockData (s : State) (bs : List Nat) : List (Nat × Word) :=
  (bs.filter (fun b => decide (16 * b < dataWords))).flatMap (fun b =>
    ((blockWords b).filter (fun a => decide (s.img.varLo ≤ a) && decide (a < s.img.varHi))).map (fun a => (a, dataAt (ownerLane s a) a)))

/-- The output image words of some blocks. -/
def blockOuts (s : State) (bs : List Nat) : List (Nat × Word) :=
  (bs.filter (fun b => decide (dataWords ≤ 16 * b))).flatMap (fun b =>
    ((blockWords b).map (· - dataWords)).map (fun o => (o, tget 0 s.cyc.outImg o)))

/-- The loop record (R287). -/
def loopRecord (s : State) : List (Nat × LoopCopy) :=
  s.img.loops.map (fun p =>
    let x := lslot s p.1
    let g := (loopCfg s p.1).group.map (fun g => (tget {} s.lpe.groups g).winner)
    (p.1, { i := x.i, d := x.d, edPrev := x.edPrev, cand := x.cand, delivered := x.out, man := x.man, mode := x.mode,
            flags := BitVec.ofNat 3 ((if x.begun then 1 else 0) + (if x.pend then 2 else 0) + (if x.stTake then 4 else 0)),
            prevWinner := g.getD 0 }))

/-- The code of a lane mode (R113). -/
def laneModeCode : LaneMode → Nat
  | .checked => 0
  | .split => 1
  | .rejoining => 2

/-- The code of a dead-man state (R265). -/
def deadCode : DeadState → BitVec 2
  | .off => 0
  | .running => 1
  | .prewarn => 2
  | .alarm => 3

/-- The values of the old tags that the partner's carry list names (R294, log 41). -/
def carryWords (s : State) : List (Nat × Word) := s.pst.carryTags.map (fun t => (t, tagValue s t))

/-- The stations in a delta (R309). -/
def stnCopies (s : State) : List (Nat × StnCopy) :=
  s.frg.stns.map (fun p => (p.1, { outBase := p.2.outBase, inBase := p.2.inBase, cGrant := p.2.cGrant,
                                   joined := p.2.st != .notJoined && p.2.st != .lost, freshAcked := p.2.freshAcked }))

/-- The drive targets of the current-loop outputs in a delta, marked where the clamped command is 0 mA (R199). -/
def driveTargets (s : State) : List (Nat × (Word × Bool)) :=
  (allChans.filter (fun i => chanMode s i = 9)).map (fun i => (i, ((chan s i).ltarget, !flt f0 (chan s i).lclamp)))

/-- The join record (R290). The dead-man state goes with the time it has lasted (log 125). -/
def joinRecord (s : State) : JoinRec :=
  { acks := (points s).map (fun p => (p.1, BitVec.ofNat 4 (pointCode (pnt s p.1).st))),
    shelves := ((points s).filter (fun p => (pnt s p.1).st == .shelved)).map (fun p => (p.1, shelfMin (pnt s p.1))),
    duty := (s.alm.duty.filter (·.2.assigned)).map (fun d => (d.1, d.2.duty.toNat, d.2.backup.toNat)),
    deadState := deadCode s.alm.dead, deadEngineer := s.alm.deadEngineer,
    deadUs := nowUs s - s.alm.deadSince, consts := s.cyc.consts, forces := s.cyc.forces,
    maint := BitVec.ofNat 6 ((List.range 6).foldl (fun n g => n + if (grp s g).maint then 2 ^ g else 0) 0),
    laneMode := BitVec.ofNat 2 (laneModeCode s.cmp.mode), tbInhibit := s.pst.tbInhibit, brkAge := s.saf.brkAge }

/-- The size of a delta in bytes, with the changed constants and forces of a join record, if it holds one (R287, R290). -/
def deltaSize (blocks : Nat) (extra : Option Nat) : Nat :=
  64 + 68 * blocks + 4112 + (match extra with
    | some n => 18432 + 8 * n
    | none => 0)

/-- The entries of the join record that this module would send. -/
def recordLen (s : State) : Nat := s.cyc.consts.length + s.cyc.forces.length

/-- The blocks that a delta carries (R287). -/
def frameBlocks (f : CarafeFrame) : List Nat :=
  (f.data.map (fun p : Nat × Word => p.1 / 16) ++ f.outw.map (fun p : Nat × Word => outBlock p.1)).eraseDups

/-- A delta's size noted, in 64-byte units (R302). -/
def noteSize (bytes : Nat) (s : State) : State :=
  let u := sat16 ((bytes + 63) / 64)
  onPst (fun p => { p with copyLast := u, copyMax := max16 p.copyMax u }) s

/-- The time a delta took noted: at the sender from its TO to the acknowledgement, at the receiver from its own TO to the
last frame (R302, R480, log 123). -/
def noteTime (us : Nat) (s : State) : State :=
  onPst (fun p => { p with copyTLast := sat16 us, copyTMax := max16 p.copyTMax (sat16 us) }) s

/-- A frame with the sequence that its port gives it as the base of its delta, which it is the only frame of. -/
def carafeNow (f : CarafeFrame) (s : State) : Emit := .carafe { f with base := (slPort s 0).txSeq }

/-- A frame on SL1 that an acknowledgement answers (R289, R300). -/
def sendCarafe (f : CarafeFrame) (s : State) : State :=
  let s := onPst (fun p => { p with lastSent := some f, ackDue := true, sentUs := nowUs s }) s
  slSend 0 (carafeNow f s) s

/-- The delta after a TO whose compare completed, to a standby in Copy mode; a join copy while one is asked for, spread
over as many cycles as the budget needs. A Twin-step standby gets no deltas but its join copy, a shadow only the join record and the
carried values (R287, R290, R292 to R294). -/
def sendDelta (s : State) : State :=
  if !(s.pst.ownDrive && gate s && paired s && (slPort s 0).up) then s
  else
    let mode := s.img.plan.mode
    let mixed := s.pst.mixed
    let start := s.pst.requested
    let normal := if mode == .copy && !mixed then writtenBlocks s else []
    let left := if start then (if mixed then [] else allBlocks s) else s.pst.joinLeft
    let join := start || !left.isEmpty
    if !join && (mode != .copy || mixed) then s
    else
      let extra := if start then some (recordLen s) else none
      let room := (deltaBudget s - deltaSize normal.length extra) / 68
      let now := left.take room
      let bs := (normal ++ now).eraseDups
      let size := deltaSize bs.length extra
      let f : CarafeFrame := { join := join, final := true, cycle := s.cyc.count, laneMode := BitVec.ofNat 2 (laneModeCode s.cmp.mode),
                               length := size, data := blockData s bs, outw := blockOuts s bs,
                               loops := if mixed then [] else loopRecord s, bases := if mixed then [] else stnCopies s,
                               joinRec := if start then some (joinRecord s) else none, carry := if start && mixed then carryWords s else [],
                               targets := if mixed then [] else driveTargets s }
      let s := onPst (fun p => { p with requested := false, joinLeft := left.drop room, copying := !(left.drop room).isEmpty }) s
      sendCarafe f (noteSize size s)

/-- Two parts of one delta put together. -/
def joinParts (o f : CarafeFrame) : CarafeFrame :=
  { f with join := o.join || f.join, data := o.data ++ f.data, outw := o.outw ++ f.outw,
           loops := if f.loops.isEmpty then o.loops else f.loops, bases := if f.bases.isEmpty then o.bases else f.bases,
           joinRec := f.joinRec.orElse (fun _ => o.joinRec), carry := o.carry ++ f.carry,
           targets := if f.targets.isEmpty then o.targets else f.targets }

/-- A frame staged beside what has arrived of its delta, numbered from the delta's port sequence base (R287, R289). -/
def stage (seq : Word) (x : CarafeRx) (old : Option Staging) : Staging :=
  let k := (seq - x.frame.base).toNat
  let last (l : Option Nat) : Option Nat := if x.frame.final then some k else l
  match old with
  | none => { frame := x.frame, crc := x.crc, after := [(k, x.after)], last := last none }
  | some o =>
    if o.frame.cycle ≠ x.frame.cycle || o.frame.base ≠ x.frame.base then { frame := x.frame, crc := x.crc, after := [(k, x.after)], last := last none }
    else { frame := joinParts o.frame x.frame, crc := x.crc, after := tins k x.after o.after, last := last o.last }

/-- Whether a delta has arrived whole (R289). -/
def stagedWhole (g : Staging) : Bool :=
  match g.last with
  | some n => g.after.length == n + 1 && g.after.all (fun p => decide (p.1 ≤ n))
  | none => false

/-- Whether the check in a delta's header is that of everything after the header (R287, R363). -/
def stagedGood (g : Staging) : Bool := g.crc == crc32c crcInit (g.after.flatMap (·.2))

/-- Whether this module takes deltas: a standby of a pair in service. -/
def takesDeltas (s : State) : Bool := s.pst.member && !s.pst.ownDrive && inService s

/-- A delta asked for again, once (R289). -/
def askAgain (s : State) : State :=
  if takesDeltas s && !s.pst.requested then slSend 0 (.slAck true) (onPst (fun p => { p with requested := true }) s) else s

/-- A Carafe frame into staging. A delta whose check fails is asked for again; one of another cycle may be asked for in its turn
(R289). -/
def stageFrame (seq : Word) (x : CarafeRx) (s : State) : State :=
  if !takesDeltas s then s
  else
    let g := stage seq x s.pst.staging
    let fresh := s.pst.staging.all (fun o => o.frame.cycle != x.frame.cycle) && s.pst.applied != some x.frame.cycle
    let s := onPst (fun p => { p with staging := some g, requested := p.requested && !fresh, copying := p.copying || x.frame.join }) s
    if !stagedWhole g then s
    else if stagedGood g then noteTime (nowUs s - s.pst.toUs) s
    else askAgain (onPst (fun p => { p with staging := none }) s)

/-- CARAFE_FRAME_RECEIVED: into staging; a frame that fails its check is requested again once (R289). -/
def carafeReceived (x : SlRx CarafeRx) (s : State) : State := slReceive 0 x.hdr (stageFrame x.hdr.seq x.body) askAgain s

/-- CARAFE_FRAME_RECEIVED (R289). -/
def execCarafeFrameReceived (x : SlRx CarafeRx) (s : State) : Outcome := .next (carafeReceived x s)

/-- A slot of the loop record taken over (R287). -/
def adoptLoop (p : Nat × LoopCopy) (s : State) : State :=
  let c := p.2
  let s := setLoop p.1 (fun x => { x with i := c.i, d := c.d, edPrev := c.edPrev, cand := c.cand, out := c.delivered, man := c.man, mode := c.mode,
                                          begun := c.flags.getLsbD 0, pend := c.flags.getLsbD 1, stTake := c.flags.getLsbD 2 }) s
  let s := setLoop p.1 (fun x => { x with lastMode := effMode s p.1 }) s
  match (loopCfg s p.1).group with
  | some g => setLGroup g (fun x => { x with winner := c.prevWinner, prev := c.prevWinner, known := true }) s
  | none => s

/-- A point state of the join record adopted: its acknowledgement and shelf (R290). -/
def adoptPoint (j : JoinRec) (a : Nat × BitVec 4) (s : State) : State :=
  let shelf := ((j.shelves.find? (fun x => x.1 == a.1)).map (·.2)).getD 0
  setPnt a.1 (fun p => { p with
    st := match a.2.toNat with
      | 0 => .normal
      | 1 => .activeUnack
      | 2 => .activeAck
      | 3 => .returnedUnack
      | 4 => .shelved
      | _ => .blocked,
    onServed := a.2 == 1 || a.2 == 2 || (p.onServed && a.2 != 0), shelfEval := 6000 * shelf }) s

/-- The constants that this module changed and the record does not name, back at their image values (R80, R290). -/
def ownConstsBack (l : List (Nat × Word)) (s : State) : State :=
  forEach ((s.cyc.consts.map (·.1)).filter (fun t => (iget l t).isNone)) (fun t s => putBoth t (initOf s t) s) s

/-- The lane mode that a code of R113 names. -/
def laneModeOf (c : BitVec 2) : LaneMode := if c = 0 then .checked else if c = 1 then .split else .rejoining

/-- The join record adopted: every item replaces the module's own, but a brake test age keeps the larger (R290). -/
def adoptJoin (j : JoinRec) (s : State) : State :=
  let s := forEach j.acks (adoptPoint j) s
  let s := onAlm (fun a => { a with duty := tputs {} [] (j.duty.map (fun d => (d.1, { assigned := true, duty := BitVec.ofNat 3 d.2.1, backup := BitVec.ofNat 3 d.2.2 }))),
                                    dead := (match j.deadState.toNat with | 0 => .off | 1 => .running | 2 => .prewarn | _ => .alarm),
                                    deadEngineer := j.deadEngineer, deadSince := nowUs s - j.deadUs }) s
  let s := forEach j.consts (fun c s => putBoth c.1 c.2 s) (ownConstsBack j.consts s)
  let s := onCyc (fun c => { c with consts := j.consts, forces := j.forces, unsaved := c.unsaved || !j.consts.isEmpty }) s
  let s := forEach (List.range 6) (fun g s => if (grp s g).maint = j.maint.getLsbD g then s else applyMaint g (j.maint.getLsbD g) s) s
  let s := onCmp (fun m => { m with mode := laneModeOf j.laneMode }) s
  let s := onPst (fun p => { p with tbInhibit := j.tbInhibit, evt := setBit p.evt 2 }) s
  onSaf (fun f => { f with brkAge := tputs 0 f.brkAge (j.brkAge.map (fun b => (b.1, max b.2 (tget 0 f.brkAge b.1)))) }) s

/-- The values of the old tags of the own carry list written to its new tags, in both lanes and the retain store (R294). -/
def adoptCarry (l : List (Nat × Word)) (s : State) : State :=
  let vals := s.img.carry.filterMap (fun c => (iget l c.1).map (fun v => (c.2, v)))
  forEach vals (fun v s =>
    let s := putBoth v.1 v.2 s
    if s.img.retain.contains v.1 then onCyc (fun c => { c with retain := tput 0 c.retain v.1 v.2 }) s else s) s

/-- A remote station as the delta has it: a standby follows the joins of its partner (R309, R320). -/
def adoptStn (b : Nat × StnCopy) (s : State) : State :=
  setStn b.1 (fun x => { x with outBase := b.2.outBase, inBase := b.2.inBase, cGrant := b.2.cGrant, freshAcked := b.2.freshAcked,
                                st := if b.2.joined && (x.st == .notJoined || x.cGrant != b.2.cGrant) then .granted else x.st }) s

/-- What a delta brings beside its join record: data and output words in both lanes, retain words in the own store too, the loop
record, the stations and the drive targets; none of it reaches a shadow (R287, R289, R293). -/
def adoptDelta (f : CarafeFrame) (s : State) : State :=
  if s.pst.shadow then s
  else
    let s := { s with nibA := { s.nibA with data := tputs 0 s.nibA.data f.data, outs := tputs 0 s.nibA.outs f.outw },
                      nibB := { s.nibB with data := tputs 0 s.nibB.data f.data, outs := tputs 0 s.nibB.outs f.outw } }
    let s := onCyc (fun c => { c with outImg := tputs 0 c.outImg f.outw, count := f.cycle,
                                      retain := tputs 0 c.retain (f.data.filter (fun p => s.img.retain.contains p.1)) }) s
    onPst (fun p => { p with targets := f.targets }) (forEach f.bases adoptStn (forEach f.loops adoptLoop s))

/-- The blocks of a join copy still to come after a delta: none are counted before its join record (R290). -/
def stillNeeded (f : CarafeFrame) (s : State) : Option (List Nat) :=
  let need := if f.joinRec.isSome then some (if s.pst.shadow then [] else allBlocks s) else s.pst.joinNeed
  need.map (fun l => l.filter (fun b => !(frameBlocks f).contains b))

/-- DELTA_APPLY: a whole and checked delta applied in one piece and acknowledged (R289). -/
def deltaApply (s : State) : State :=
  match s.pst.staging with
  | none => s
  | some g =>
    let f := g.frame
    if !(stagedWhole g && stagedGood g) || s.pst.ownDrive || !s.pst.member then s
    else
      let s := adoptDelta f s
      let s := match f.joinRec with
        | some j => adoptJoin j s
        | none => s
      let s := adoptCarry f.carry s
      let need := stillNeeded f s
      let s := onPst (fun p => { p with applied := some f.cycle, applTick := p.toTick, staging := none, requested := false, joinNeed := need })
        (noteSize f.length s)
      slSend 0 (.slAck false) (regain s)

/-- DELTA_APPLY (R289). -/
def execDeltaApply (s : State) : Outcome := .next (deltaApply s)

/-- DELTA_LOST: not complete and checked by the active module's next TO (R289). -/
def execDeltaLost (s : State) : Outcome :=
  .next (if s.pst.member && !s.pst.ownDrive && inService s && copyFed s then
    notReady (post 0x0A04 0 [0] (onPst (fun p => { p with evt := setBit p.evt 3, joined := false, wantJoin := true, joinNeed := none, staging := none,
                                                          requested := false }) s))
  else s)

/-- The latest frame sent again. -/
def repeatCarafe (s : State) : State :=
  match s.pst.lastSent with
  | some f => if s.pst.ackDue then slSend 0 (carafeNow f s) s else s
  | none => s

/-- CARAFE_ACK_RECEIVED: a request is answered by a repeat; an acknowledgement says the delta is applied (R289, R300). -/
def carafeAcked (again : Bool) (s : State) : State :=
  if again then repeatCarafe s
  else onPst (fun p => { p with ackDue := false, ackCycle := p.lastSent.map (·.cycle) }) (if s.pst.ackDue then noteTime (nowUs s - s.pst.sentUs) s else s)

/-- CARAFE_ACK_RECEIVED (R289). -/
def execCarafeAckReceived (x : SlRx Bool) (s : State) : Outcome := .next (slReceive 0 x.hdr (carafeAcked x.body) id s)

/-- SENDER_REPEAT: no acknowledgement after 50 µs (R300). -/
def execSenderRepeat (s : State) : Outcome := .next (repeatCarafe s)

/-- JOIN_COPY_COMPLETE: every block has arrived and the last delta is applied; the standby is ready and starts to count
(R280, R281, R290). -/
def execJoinCopyComplete (s : State) : Outcome :=
  .next (if s.pst.member && !s.pst.ownDrive && inService s && s.pst.wantJoin && s.pst.joinNeed == some [] && s.pst.staging.isNone then
    standbyDraw (requalify (onPst (fun p => { p with joined := true, wantJoin := false, copying := false, ready := (slPort s 0).up,
                                                     instep := p.instep || s.img.plan.mode == .twin }) s))
  else s)

/-! ### Twin-step digests (R292) -/

/-- The digest over the discrete set: the Boolean variables, timer and counter records that the image marks, the cell modes, the
command words of digital outputs. DEDUCED: in that order, in which R292 names them (log 151). -/
def twinDigest (s : State) : Word :=
  crc32cWords crcInit (s.img.plan.twinSet.map (dataAt s.nibA) ++
    (List.range s.img.cells.length).map (fun n => (cellSt s n).mode.setWidth 32) ++
    (allChans.filter (fun i => chanMode s i = 2)).map (tget 0 s.cyc.outImg))

/-- TWIN_STEP_DIGEST: the digests compared; on a mismatch the standby stops its lanes and takes a join copy (R292). -/
def twinStep (peer : Word) (s : State) : State :=
  if !(s.img.plan.mode == .twin && paired s && inRun s && !s.pst.mixed) then s
  else
    let d := twinDigest s
    let s := slSend 0 (.twinDigest d) s
    if d = peer then onPst (fun p => { p with instep := true }) s
    else
      let s := onPst (fun p => { p with instep := false, evt := setBit p.evt 4 }) s
      if s.pst.ownDrive then s
      else notReady (post 0x0A04 0 [1] (onPst (fun p => { p with joined := false, wantJoin := true, joinNeed := none }) (pauseLanes s)))

/-- TWIN_STEP_DIGEST (R292). -/
def execTwinStepDigest (x : SlRx Word) (s : State) : Outcome := .next (slReceive 0 x.hdr (twinStep x.body) id s)

/-! ### Forwarded commands (R79, R262, R333) -/

/-- A rejoin accepted at an instant: its injection test has run; a failed one ends it (R105, R111 steps 1 and 2). -/
def beginRejoin (at_ : Nat) (t : SelfTest) (s : State) : State :=
  let s := recordTest t (onCmp (fun m => { m with pending := true, rejoinAt := some at_ }) s)
  if testPasses t then onCmp (fun m => { m with rejoinTested := true }) s else rejoinFailed true s

/-- What a forwarded command does in the module that receives it, or in the addressed one at the confirmation. -/
def forwardEffect (c : FwdCmd) (s : State) : State :=
  match c with
  | .alarm w p seen => almQueue { path := p, word := w, seen := seen } s
  | .trims sh ts => onFch (fun f => { f with partnerShunt := sh, partnerTrims := tputs {} [] (ts.map (fun t => (t.1, { z := t.2.1, s := t.2.2 }))) }) s
  | .carry ts => onPst (fun p => { p with carryTags := ts, requested := p.requested || (p.ownDrive && p.mixed) }) s
  | _ => pairEffect c s

/-- The instant of a station time in µs on this module's timebase (R297). -/
def fromStation (us : Int) (s : State) : Nat := (us - s.pst.offsetNs / 1000).toNat

/-- A command for a T0 in the partner: in line since the instant of its acceptance, held until its confirmation has arrived
(R79, log 107). -/
def holdAct (c : FwdCmd) (a : T0Act) (at_ : Nat) (s : State) : State :=
  let s := onCyc (fun y => { y with sched := y.sched ++ [⟨at_, a, true⟩] }) s
  match c with
  | .maint g _ => setGrp g.val (fun x => { x with maintPend := true }) s
  | .split => onCmp (fun m => { m with pending := true }) s
  | _ => s

/-- The first held act of a command set free. -/
def freeSched (a : T0Act) : List Sched → List Sched
  | [] => []
  | x :: l => if x.held && x.act == a then { x with held := false } :: l else x :: freeSched a l

/-- A command that its partner's module knows to be confirmed: it takes effect at its T0 (R79). -/
def freeAct (c : FwdCmd) (s : State) : State :=
  match fwdAct c with
  | some .rejoin => onCmp (fun m => { m with rejoinHeld := false }) s
  | some a => onCyc (fun y => { y with sched := freeSched a y.sched }) s
  | none => s

/-- Whether a forwarded command is a message that is taken in any state and not confirmed: the partner's shunt and trims, or its
carry list (R199, R294). -/
def isMessage : FwdCmd → Bool
  | .trims _ _ => true
  | .carry _ => true
  | _ => false

/-- FORWARDED_COMMAND: taken as in the addressed module and confirmed; a rejoin runs its injection test here too, and one that
fails ends the rejoin without a confirmation (R79, R106, R111). A module that is not in service confirms nothing. -/
def forwardedCommand (c : FwdCmd) (us : Int) (t : SelfTest) (s : State) : State :=
  if isMessage c then forwardEffect c s
  else if !(s.pst.member && inService s) then s
  else match c with
    | .go d => freeAct d s
    | .rejoin =>
      let s := beginRejoin (fromStation us s) t s
      if testPasses t then slSend 0 (.confirm c) (onCmp (fun m => { m with rejoinHeld := true }) s) else s
    | _ => slSend 0 (.confirm c) (match fwdAct c with
      | some a => holdAct c a (fromStation us s) s
      | none => forwardEffect c s)

/-- FORWARDED_COMMAND (R79). -/
def execForwardedCommand (x : SlRx Forwarded) (t : SelfTest) (s : State) : Outcome :=
  .next (slReceive 0 x.hdr (forwardedCommand x.body.cmd x.body.stationUs t) id s)

/-- The marks of an act that will not be carried out (R79, R88, R113, R180). -/
def withdraw (a : T0Act) (s : State) : State :=
  match a with
  | .maint g _ => setGrp g.val (fun x => { x with maintPend := false }) s
  | .split => onCmp (fun m => { m with pending := false }) s
  | .rejoin => onCmp (fun m => { m with pending := false, rejoinAt := none, rejoinHeld := false }) s
  | _ => s

/-- An exception of Modbus, counted (R336). -/
def mbException (h : MbHdr) (fc code : Byte) (s : State) : State :=
  emitLan (.modbus h [fc ||| 0x80, code]) (onPnw (fun p => { p with mbExc := inc16 p.mbExc }) s)

/-- The sender of a command answered with its status: a request by a response, Modbus by its answer or exception 04; the program and
an ACN get none (R333, R336). -/
def answerOrigin (o : Origin) (st : BitVec 16) (s : State) : State :=
  match o with
  | .sess r body => reply r st (if st = stOk then body else []) s
  | .modbus h pdu => if st = stOk then emitLan (.modbus h pdu) s else mbException h (pdu.headD 0) 4 s
  | .program => s
  | .acn => s

/-- PARTNER_CONFIRMATION: the oldest unconfirmed command is answered, and carried out where no T0 carries it out; the partner
hears that a command for a T0 stands (R79, R333, log 107). -/
def partnerConfirmed (s : State) : State :=
  let s := slTook 0 s
  match s.pst.unconfirmed with
  | [] => s
  | u :: l =>
    let s := onPst (fun p => { p with unconfirmed := l }) s
    answerOrigin u.2.1 stOk (if (fwdAct u.1).isSome then forwardNow (.go u.1) s else forwardEffect u.1 s)

/-- PARTNER_CONFIRMATION (R79). -/
def execPartnerConfirmation (s : State) : Outcome := .next (partnerConfirmed s)

/-- The last waiting act of a command taken out of line. -/
def dropSched (a : T0Act) (l : List Sched) : List Sched :=
  match l.reverse.find? (fun x => x.act == a) with
  | some x => (l.reverse.erase x).reverse
  | none => l

/-- An unconfirmed command taken out of line, with the mark of its wait (R79). -/
def dropAct (c : FwdCmd) (s : State) : State :=
  match fwdAct c with
  | some a => withdraw a (onCyc (fun c => { c with sched := dropSched a c.sched }) s)
  | none => s

/-- The event of a command that is refused after its acceptance (R88, R265). -/
def refusedEvent (c : FwdCmd) (s : State) : State :=
  match c with
  | .change _ => olcRefused s
  | .force _ _ => frcRefused s
  | .releaseCell _ => frcRefused s
  | .alarm _ _ _ => almRefused s
  | _ => s

/-- PARTNER_CONFIRM_TIMEOUT: the oldest unconfirmed command is refused, and neither module carries it out (R79). -/
def confirmTimeout (s : State) : State :=
  match s.pst.unconfirmed with
  | [] => s
  | u :: l => answerOrigin u.2.1 stConfirm (refusedEvent u.1 (dropAct u.1 (onPst (fun p => { p with unconfirmed := l }) s)))

/-- PARTNER_CONFIRM_TIMEOUT (R79). -/
def execPartnerConfirmTimeout (s : State) : Outcome := .next (confirmTimeout s)

/-! ### Hellos and membership (R295) -/

/-- This module's hello. -/
def ownHello (s : State) : Hello :=
  { slot := s.pst.slot.toFin, state := BitVec.ofNat 4 (stateCode s.sup.mode), role := BitVec.ofNat 2 (roleCode (roleShown s)), stnId := s.img.stnId,
    planDigest := s.img.plan.digest, imgDigest := s.img.digest,
    glink := BitVec.ofNat 6 ((List.range 6).foldl (fun n g => n + if (grp s g).link then 2 ^ g else 0) 0),
    ringOk := (tget {} s.frg.ports 0).up || (tget {} s.frg.ports 1).up, ready := s.pst.ready,
    speaker := s.pst.speaker == some s.pst.slot }

/-- HELLO_SEND: on every port (R295). -/
def execHelloSend (s : State) : Outcome :=
  .next (if powered s then
    slFrame 2 (.hello 2 (ownHello s)) (slFrame 1 (.hello 1 (ownHello s)) (slFrame 0 (.hello 0 (ownHello s)) s))
  else s)

/-- A speaker adopted; a change is posted (R296). A module that was speaker ends the sessions on the station address, and a
new one announces that address (R326). -/
def setSpeaker (w : Option (BitVec 2)) (s : State) : State :=
  if s.pst.speaker = w then s
  else
    let was := s.pst.speaker = some s.pst.slot
    let s := if s.pst.speaker.isSome then post 0x0A05 ((w.map (·.toNat)).getD 0) [3] (onPst (fun p => { p with evt := setBit p.evt 7 }) s) else s
    let s := onPst (fun p => { p with speaker := w }) s
    let s := if was then forEach ((s.pnw.sessions.filter (·.stnAddr)).map (·.id)) endSession s else s
    if w = some s.pst.slot then emitLan .gratuitousArp (if s.pnw.utcFirst then utcFromRtc (onPnw (fun p => { p with utcSync := false }) s) else s)
    else s

/-- What a hello of the partner says taken over: whether its image differs, its readiness. At pair join each module tells the other
its shunt and trims, and a shadow its carry list (R199, R293, R294). -/
def takePartner (was : Bool) (h : Hello) (s : State) : State :=
  let differ := h.imgDigest != s.img.digest
  let tell := !was || (differ && !s.pst.mixed)
  let s := onPst (fun p => { p with mixed := differ, shadow := differ && !p.ownDrive }) s
  let s := if was then s else forwardNow (trimsMsg s) s
  let s := if tell && s.pst.shadow && !s.img.carry.isEmpty then forwardNow (.carry (s.img.carry.map (·.1))) s else s
  if s.pst.ownDrive && h.role == 2 && !h.ready && !s.pst.copying && s.pst.joinLeft.isEmpty && !s.pst.ackDue
  then onPst (fun p => { p with requested := true }) s else s

/-- A claim of the speaker's role heard from slot n: an unknown speaker is adopted; of two that claim, the lower slot keeps the role,
and the change is posted once in either (R296). -/
def takeClaim (n : Nat) (before : Bool) (s : State) : State :=
  match s.pst.speaker with
  | none => setSpeaker (some (BitVec.ofNat 2 n)) s
  | some x =>
    if x.toNat = n then s
    else if n < x.toNat then setSpeaker (some (BitVec.ofNat 2 n)) s
    else
      let claims := x == s.pst.slot || (tget {} s.pst.peers x.toNat).hello.any (·.speaker)
      if claims && !before then post 0x0A05 x.toNat [3] (onPst (fun p => { p with evt := setBit p.evt 7 }) s) else s

/-- What a valid hello says taken over: membership, what the partner says of itself, a claim of the speaker's role
(R293, R295, R296). -/
def takeHello (h : Hello) (s : State) : State :=
  let n := h.slot.val
  let old := tget {} s.pst.peers n
  let mism := h.stnId != s.img.stnId || h.planDigest != s.img.plan.digest
  let s := onPst (fun p => { p with peers := tput {} p.peers n { present := true, hello := some h, mism := mism } }) s
  let s := if mism && !(old.present && old.mism) then
      post 0x0A05 n [0] (onPst (fun p => { p with evt := setBit p.evt 10 }) s) else s
  if mism then s
  else
    let s := if s.pst.member && n = partnerSlot s then takePartner (old.present && !old.mism) h s else s
    if h.speaker then takeClaim n (old.hello.any (·.speaker)) s else s

/-- HELLO_RECEIVED: discarded where its check fails or its sequence is behind the window (R295, R300). -/
def helloReceived (p : Fin 3) (x : SlRx Hello) (s : State) : State := slReceive p.val x.hdr (takeHello x.body) id s

/-- HELLO_RECEIVED (R295). -/
def execHelloReceived (p : Fin 3) (x : SlRx Hello) (s : State) : Outcome := .next (helloReceived p x s)

/-- STATION_LINK_DOWN: 1 ms without a valid frame (R268). -/
def execStationLinkDown (p : Fin 3) (s : State) : Outcome :=
  .next (
    let n := portPeer s p.val
    let s := setSlPort p.val (fun x => { x with up := false, lane0 := false, lane1 := false, rxSeq := none }) s
    let s := onPst (fun q => { q with peers := tmod {} q.peers n (fun x => { x with present := false }) }) s
    if p = 0 && s.pst.ready then notReady s else s)

/-- STATION_LINK_UP: 10 ms of valid frames, the delay measured by round trip; at pair join each module tells the other its
shunt and trims (R199, R268, R297). -/
def execStationLinkUp (p : Fin 3) (d : BitVec 16) (s : State) : Outcome :=
  .next (
    let s := setSlPort p.val (fun x => slShed s (decide (4 ≤ s.tim.shed)) p.val { x with up := true, lane0 := true, lane1 := true, delay := d }) s
    if p = 0 && s.pst.member then forwardNow (trimsMsg s) (if copyFed s then s else regain s) else s)

/-! ### The speaker and station time (R296, R297) -/

/-- The rank of a candidate: role before slot; lower is higher (R296). -/
def speakerRank (standby : Bool) (slot : Nat) : Nat := (if standby then 4 else 0) + slot

/-- The candidates: members in Run, Commissioning or Hold, with their ranks. -/
def candidates (s : State) : List (Nat × Nat) :=
  (if inService s then [(speakerRank (roleShown s == .standby) s.pst.slot.toNat, s.pst.slot.toNat)] else []) ++
  (List.range 4).filterMap (fun n =>
    let p := tget {} s.pst.peers n
    match p.hello with
    | some h => if n ≠ s.pst.slot.toNat && p.present && !p.mism && decide (1 ≤ h.state.toNat) && decide (h.state.toNat ≤ 3) then
                  some (speakerRank (h.role == 2) n, n) else none
    | none => none)

/-- The best candidate. -/
def bestOf : List (Nat × Nat) → Option (Nat × Nat)
  | [] => none
  | c :: l => match bestOf l with
    | some b => if b.1 < c.1 then some b else some c
    | none => some c

/-- SPEAKER_ELECTION: held while the present speaker is absent, has left those states or is a standby; another keeps the
role (R296). -/
def speakerElection (s : State) : State :=
  let cs := candidates s
  let stays := match s.pst.speaker with
    | some w => cs.any (fun c => c.2 == w.toNat && decide (c.1 < 4))
    | none => false
  if stays then s else setSpeaker ((bestOf cs).map (fun c => BitVec.ofNat 2 c.2)) s

/-- SPEAKER_ELECTION (R296). -/
def execSpeakerElection (s : State) : Outcome := .next (speakerElection s)

/-- TIME_MARK_SEND: by the speaker on every port, with UTC as an offset from station time (R297, R339). -/
def execTimeMarkSend (s : State) : Outcome :=
  .next (if isSpeaker s then
    let m : TimeMark := { utcOffsetUs := s.pnw.utcOffset - s.pst.offsetNs / 1000, sync := s.pnw.utcSync, valid := utcValid s }
    let t := stationNs s
    slSend 2 (.timeMark 2 t m) (slSend 1 (.timeMark 1 t m) (slSend 0 (.timeMark 0 t m) s))
  else s)

/-- TIME_MARK_RECEIVED: the offset moves toward the error by at most 0.5 µs, or in one step before Run; ten marks beyond
2 µs are "station time lost" (R297). UTC follows the speaker's (R339). -/
def timeMark (p : Nat) (ns : Int) (m : TimeMark) (s : State) : State :=
  if isSpeaker s then s
  else
    let err := ns + (slPort s p).delay.toNat - stationNs s
    let move := if s.sup.mode = .start then err else if err > 500 then 500 else if err < -500 then -500 else err
    let run := if err.natAbs > 2000 then s.pst.terrRun + 1 else 0
    let s := onPst (fun x => { x with offsetNs := x.offsetNs + move, terrLast := err, terrMax := max x.terrMax err.natAbs, terrRun := run }) s
    let s := if run = 10 then post 0x0A05 s.pst.slot.toNat [2] (onPst (fun x => { x with evt := setBit x.evt 8 }) s) else s
    onPnw (fun n => { n with utcOffset := m.utcOffsetUs + s.pst.offsetNs / 1000, utcSync := m.sync, utcMark := m.valid }) s

/-- TIME_MARK_RECEIVED (R297). -/
def execTimeMarkReceived (p : Fin 3) (ns : Int) (x : SlRx TimeMark) (s : State) : Outcome :=
  .next (slReceive p.val x.hdr (timeMark p.val ns x.body) id s)

/-! ### Station exchange (R298, R299) -/

/-- The slots of a position of the plan: a pair's position has both of its slots (R298). -/
def posSlots (s : State) (n : Nat) : List Nat := if s.img.plan.pairPos.getLsbD (n / 2) then [2 * (n / 2), 2 * (n / 2) + 1] else [n]

/-- The exports of a position kept for the next T0; a Copy standby discards them (R298). -/
def takeExports (pos : Nat) (x : ExportRx) (complete : Bool) (s : State) : State :=
  if complete && inService s && (posSlots s pos).contains (portPeer s x.port.val) && !(roleShown s == .standby && copyFed s) then
    onPst (fun p => { p with imports := tins pos x.words p.imports }) s
  else s

/-- STATION_EXPORT_RECEIVED (R298). -/
def execStationExportReceived (pos : Fin 4) (x : ExportRx) (complete : Bool) (s : State) : Outcome :=
  .next (slReceive x.port.val x.hdr (takeExports pos.val x complete) id s)

/-- The exports after a TO whose compare completed, by the active or single module, to both modules of each importing
position (R298). -/
def sendExports (s : State) : State :=
  if roleShown s = .standby then s
  else forEach s.img.plan.exports (fun e s =>
    let ws := e.2.map (fun t => (t, tagValue s t))
    forEach ([0, 1, 2].filter (fun p : Fin 3 => (posSlots s e.1).contains (portPeer s p.val))) (fun p s => slSend p.val (.exports p ws) s) s) s

/-- A bit of a four-bit set. -/
def bit4 (v : BitVec 4) (n : Nat) (b : Bool) : BitVec 4 := if b then v ||| ((1 : BitVec 4) <<< n) else v &&& ~~~((1 : BitVec 4) <<< n)

/-- The imports of one source at a T0 (R298, R299). -/
def importAtT0 (e : Nat × List (Nat × Option Word)) (s : State) : State :=
  let n := e.1
  let away := !(posSlots s n).any (fun k => (tget {} s.pst.peers k).present)
  match s.pst.imports.find? (fun p => p.1 == n) with
  | some (_, ws) =>
    let s := onPst (fun p => { p with stale := bit4 p.stale n false, absent := bit4 p.absent n away, staleRun := tput 0 p.staleRun n 0 }) s
    forEach (ws.filter (fun w => e.2.any (fun t => t.1 == w.1))) (fun w s => putBoth w.1 w.2 s) s
  | none =>
    let run := tget 0 s.pst.staleRun n + 1
    let s := onPst (fun p => { p with stale := bit4 p.stale n true, absent := bit4 p.absent n away, staleRun := tput 0 p.staleRun n run }) s
    let s := if run = 1 then post 0x0A05 n [1] (onPst (fun p => { p with evt := setBit p.evt 9 }) s) else s
    if decide (run ≥ 10) || away then
      forEach e.2 (fun t s => match t.2 with
        | some v => putBoth t.1 v s
        | none => s) s
    else s

/-- Every source at a T0; what arrived is used up. -/
def importsT0 (s : State) : State :=
  if roleShown s == .standby && s.img.plan.mode == .copy && !s.pst.shadow then s
  else onPst (fun p => { p with imports := [] }) (forEach s.img.plan.imports importAtT0 s)

end Sys2Proof.Machine
end

