-- ==== Sys2Proof/Machine/ObjSpace.lean ====
section
/-! DEFINITION. Writes into the object space by any path (R9, R67, R328, R331, R340), and the system blocks OBJRD and
OBJWR (R66, R67). -/

namespace Sys2Proof.Machine

/-! ### The regions' writers -/

/-- SUP: SUP_EVT (R427). -/
def supWrite (w : Who) (off : Nat) (v : Word) (s : State) : Written :=
  if off = 0x18 then byLevel w lvOperate (fun s => done (onSup (fun u => { u with evt := clearBits u.evt v 0x7F }) s)) s
  else refuse stAccess s

/-- TIM: the operator ceiling at Engineer level, TIM_GOV_EVT (R40, R51). -/
def timWrite (w : Who) (off : Nat) (v : Word) (s : State) : Written :=
  if off = 0x2C then byLevel w lvEngineer (ceilingWrite v) s
  else if off = 0x38 then byLevel w lvOperate (fun s => done (onTim (fun t => { t with evt := clearBits t.evt v 0x1F }) s)) s
  else refuse stAccess s

/-- BOOT: BOOT_EVT (R450). -/
def bootWrite (w : Who) (off : Nat) (v : Word) (s : State) : Written :=
  if off = 0x40 then byLevel w lvOperate (fun s => done (onBoot (fun b => { b with evt := clearBits b.evt v 0x1F }) s)) s
  else refuse stAccess s

/-- CYC: CYC_EVT (R88). -/
def cycWrite (w : Who) (off : Nat) (v : Word) (s : State) : Written :=
  if off = 0x28 then byLevel w lvOperate (fun s => done (onCyc (fun c => { c with evt := clearBits c.evt v 0x3F }) s)) s
  else refuse stAccess s

/-- CMP: CMP_EVT (R113). -/
def cmpWrite (w : Who) (off : Nat) (v : Word) (s : State) : Written :=
  if off = 0x30 then byLevel w lvOperate (fun s => done (onCmp (fun c => { c with evt := clearBits c.evt v 0x3F }) s)) s
  else refuse stAccess s

/-- FCH: the sticky bits, and FCH_G_MAINT at Engineer level (R180, R183, R202). -/
def fchWrite (w : Who) (r : Req) (off : Nat) (v : Word) (s : State) : Written :=
  if off = 8 then byLevel w lvOperate (fun s => done (onFch (fun f => { f with evt := clearBits f.evt v 0x3F3F3F }) s)) s
  else if h : 0x100 ≤ off ∧ off < 0x280 then
    let g : Fin 6 := ⟨(off - 0x100) / 0x40, by omega⟩
    match (off - 0x100) % 0x40 with
    | 0x10 => byLevel w lvEngineer (maintWrite r g (v.getLsbD 0)) s
    | 0x14 => byLevel w lvOperate (fun s => done (setGrp g.val (fun x => { x with evt := clearBits x.evt v 0x7F }) s)) s
    | _ => refuse stAccess s
  else if 0x1000 ≤ off && off < 0x7000 && (off - 0x1000) % 0x100 == 0x2C then
    byLevel w lvOperate (fun s => done (setChan ((off - 0x1000) / 0x100) (fun c => { c with evt := clearBits c.evt v 0x7F }) s)) s
  else if 0x8000 ≤ off && off < 0x8C00 && (off - 0x8000) % 0x20 == 0x1C then
    byLevel w lvOperate (fun s => done (setChan ((off - 0x8000) / 0x20) (fun c => { c with levt := clearBits c.levt v 0x3F }) s)) s
  else refuse stAccess s

/-- ALM: the command register and ALM_EVT (R257, R265). -/
def almRegWrite (w : Who) (r : Req) (off : Nat) (v : Word) (s : State) : Written :=
  if off = 0xC then
    match w with
    | .lane _ => almFromLane v s
    | .sess _ l => if l < lvOperate then refuse stAccess (almRefused s) else almWrite r v s
  else if off = 0x10 then byLaneOr w lvOperate (fun s => done (onAlm (fun a => { a with evt := clearBits a.evt v 0x3F }) s)) s
  else refuse stAccess s

/-- The command of PST_CMD (R283). -/
def pairCmdOf (v : Word) : Option FwdCmd :=
  match (v >>> 28).toNat with
  | 1 => some .swap
  | 2 => some .resync
  | 3 => some .inhibit
  | 4 => some .allow
  | _ => none

/-- PST: the pair commands at Engineer level, PST_EVT (R283, R303). -/
def pstWrite (w : Who) (r : Req) (off : Nat) (v : Word) (s : State) : Written :=
  if off = 0xC then
    byLevel w lvEngineer (fun s => match pairCmdOf v with
      | some c => pairWrite r c s
      | none => refuse stRange s) s
  else if off = 0x24 then byLevel w lvOperate (fun s => done (onPst (fun p => { p with evt := clearBits p.evt v 0x7FF }) s)) s
  else refuse stAccess s

/-- SLK: the injectors (R301, R303). -/
def slkWrite (w : Who) (off : Nat) (v : Word) (s : State) : Written :=
  if off < 0xC0 && off % 0x40 == 0x10 then injWrite w false (off / 0x40) v s
  else if off < 0xC0 && off % 0x40 == 0x14 then injBitWrite w false (off / 0x40) v s
  else refuse stAccess s

/-- FRG: the injectors, FRG_EVT (R321, R322). -/
def frgWrite (w : Who) (off : Nat) (v : Word) (s : State) : Written :=
  if off = 0x10 then byLevel w lvOperate (fun s => done (onFrg (fun f => { f with evt := clearBits f.evt v 0x1F }) s)) s
  else if 0x100 ≤ off && off < 0x180 && off % 0x40 == 0x10 then injWrite w true ((off - 0x100) / 0x40) v s
  else if 0x100 ≤ off && off < 0x180 && off % 0x40 == 0x14 then injBitWrite w true ((off - 0x100) / 0x40) v s
  else refuse stAccess s

/-- PNW: PNW_EVT (R342). -/
def pnwWrite (w : Who) (off : Nat) (v : Word) (s : State) : Written :=
  if off = 0x24 then byLevel w lvOperate (fun s => done (onPnw (fun p => { p with evt := clearBits p.evt v 0x1F }) s)) s
  else refuse stAccess s

/-- The panel as the last panel start found it: what a REINIT written as a register finds (log 42). -/
def presentPanel (s : State) : PanelIdent :=
  let i := s.dsp.ident.getD { cols := 0, rows := 0, filter := 0, vcomMv := 0 }
  { answers := s.dsp.ident.isSome, cols := i.cols, rows := i.rows, filter := i.filter, vcomMv := i.vcomMv,
    ntc := if s.dsp.ntcBad then .open_ else .temp s.dsp.temp }

/-- DSP: page, command, front light, DSP_EVT (R400, R405). -/
def dspWrite (w : Who) (off : Nat) (v : Word) (s : State) : Written :=
  let bad (b : Option (BitVec 16)) (k : State → State) (s : State) : Written := match b with
    | some st => refuse st s
    | none => done (k s)
  match off with
  | 0x10 => byLaneOr w lvOperate (fun s => bad (pageBad v s) (pageWrite v) s) s
  | 0x14 =>
    match (v &&& 7).toNat with
    | 0 => byLaneOr w lvOperate done s
    | 1 => byLaneOr w lvOperate (fun s => done (panelRedraw s)) s
    | 2 => byLaneOr w lvOperate (fun s => done (panelClear s)) s
    | 4 => byLevel w lvEngineer (fun s => done (panelReinit (presentPanel s) s)) s
    | _ => byLaneOr w lvOperate (refuse stRange) s
  | 0x18 => byLaneOr w lvOperate (fun s => bad (flBad v s) (flWrite v) s) s
  | 0x1C => byLaneOr w lvOperate (fun s => done (setDsp (fun d => { d with evt := clearBits d.evt v 0x3F }) s)) s
  | _ => refuse stAccess s

/-! ### The object space -/

/-- The request of a write that no session carries: a lane's, or Modbus' (R336). -/
def noReq : Req := { sess := 0, seq := 0 }

/-- One word written at an address (R67, R340). `r` is the request that carries it. Words of the VAR region are a batch
and are written by `varWrite`. -/
def objWrite (w : Who) (r : Req) (a : Nat) (v : Word) (s : State) : Written :=
  if a % 4 != 0 then refuse stAccess s
  else if a < 0x1000 then refuse stAccess s
  else if a < 0x2000 then supWrite w (a - 0x1000) v s
  else if a < 0x3000 then timWrite w (a - 0x2000) v s
  else if a < 0x4000 then bootWrite w (a - 0x3000) v s
  else if a < 0x10000 then refuse stAccess s
  else if a < 0x20000 then cycWrite w (a - 0x10000) v s
  else if a < 0x30000 then cmpWrite w (a - 0x20000) v s
  else if a < 0x40000 then lpeWrite w (a - 0x30000) v s
  else if a < 0x50000 then fchWrite w r (a - 0x40000) v s
  else if a < 0x60000 then refuse stAccess s
  else if a < 0x70000 then almRegWrite w r (a - 0x60000) v s
  else if a < 0x71000 then pstWrite w r (a - 0x70000) v s
  else if a < 0x72000 then slkWrite w (a - 0x71000) v s
  else if a < 0x80000 then refuse stAccess s
  else if a < 0x90000 then frgWrite w (a - 0x80000) v s
  else if a < 0xA0000 then pnwWrite w (a - 0x90000) v s
  else if a < 0xB0000 then evrWrite w (a - 0xA0000) v s
  else if a < 0xC0000 then cvuWrite w (a - 0xB0000) v s
  else if a < 0xD0000 then refuse stAccess s
  else if a < 0xE0000 then dspWrite w (a - 0xD0000) v s
  else refuse stAccess s

/-- The base of the VAR region (R53). -/
def varBase : Nat := 0x10000000

/-- The tag at an address of the VAR region. -/
def varTag (a : Nat) : Option Nat := if varBase ≤ a && a < varBase + 0x80000 && a % 4 == 0 then some ((a - varBase) / 4) else none

/-- Words written in one step whose run reaches DSP_EVT: its bits are cleared first, so that an event which another word of the
run brings about stays set (R10). -/
def eventsKept (w : Who) (r : Req) (a : Nat) (ws : List Word) (s : State) : Written :=
  let k := (0xD001C - a) / 4
  let t := writeWords (objWrite w r) a ws s
  if t.1 = stOk && decide (a ≤ 0xD001C) && decide (k < ws.length) then
    writeWords (objWrite w r) a (ws.set k 0) (objWrite w r 0xD001C (ws.getD k 0) s).2
  else t

/-- Consecutive words written by a session, or by Modbus, as one step (R333). -/
def writeSpace (w : Who) (r : Req) (a : Nat) (ws : List Word) (s : State) : Written :=
  match varTag a with
  | some n => byLevel w lvEngineer (varWrite r (ws.zipIdx.map (fun p => { tag := n + p.2, value := p.1, const := false }))) s
  | none => eventsKept w r a ws s

/-! ### OBJRD and OBJWR (R66, R67) -/

/-- A register value delivered to the lane; where both lanes run the same code it is kept for the other (R66). -/
def keepRead (n : Nat) (a v : Word) (s : State) : State :=
  if s.cmp.mode != .split && n == s.cyc.objVals.length then onCyc (fun c => { c with objVals := c.objVals ++ [(a, v)] }) s else s

/-- OBJRD: 0 when refused, as the VAR region always is. -/
def objrdOp (l : Lane) (d : BitVec 6) (s : State) : State :=
  let n := (lane s l).objCnt
  let a := greg (lane s l) 1
  let s := setLane l (fun x => { x with objCnt := n + 1 }) s
  match (if s.cmp.mode = .split then none else (s.cyc.objVals[n]?).filter (fun p => p.1 == a)) with
  | some p => result l d p.2 s
  | none =>
    match (if varBase ≤ a.toNat then none else objRead (.lane l) a.toNat s) with
    | none => result l d 0 (keepRead n a 0 (objRefused s))
    | some (v, s) => result l d v (keepRead n a v s)

/-- OBJRD (R66). -/
def execObjrd (l : Lane) (d a : BitVec 6) (s : State) : Outcome := .next (sysOp 0x020 l d a (a == 0) (objrdOp l d) s)

/-- OBJWR: judged as it is executed, folded into the output signature, queued for TO (R66, R67, R91). -/
def objwrOp (l : Lane) (d : BitVec 6) (s : State) : State :=
  let a := greg (lane s l) 1
  let v := greg (lane s l) 2
  let s := setLane l (foldOut [0x00020000, a, v]) s
  let j := objWrite (.lane l) noReq a.toNat v s
  if j.1 = stOk then result l d 0 (queueForTo l (.objwr a v) s) else result l d 1 (objRefused j.2)

/-- OBJWR (R66). -/
def execObjwr (l : Lane) (d a : BitVec 6) (s : State) : Outcome := .next (sysOp 0x021 l d a (a == 0) (objwrOp l d) s)

/-- A queued write carried out at TO, without being judged again (R67). -/
def runObjwr (l : Lane) (a v : Word) (s : State) : State := (objWrite (.lane l) noReq a.toNat v s).2

end Sys2Proof.Machine
end

