-- ==== Sys2Proof/Machine/Net.lean ====
section
/-! DEFINITION. The plant network (R323 to R342): PRP paths and addresses, sessions and their keys, reads and writes of the
object space, call notifications, Modbus TCP and UTC. -/

namespace Sys2Proof.Machine

/-! ### Ports, paths and addresses (R323 to R326) -/

/-- Whether the network runs: the module has supply and is neither entering nor held in reset. -/
def netUp (s : State) : Bool :=
  match s.sup.phase with
  | .off => false
  | .entry _ _ => false
  | .reset _ _ => false
  | _ => true

/-- PRP_SUPERVISION_SEND (R323). -/
def execPrpSupervisionSend (s : State) : Outcome := .next (if netUp s then emitLan (.supervision true) s else s)

/-- PLANT_PATH_LOST: a link down, or a node silent on one port for 6 s (R324). -/
def execPlantPathLost (p : Fin 2) (linkDown : Bool) (s : State) : Outcome :=
  .next (onPnw (fun n => { n with pathLost := true, evt := setBit n.evt 0 })
    (setPnPort p.val (fun x => { x with path := false, link := x.link && !linkDown }) s))

/-- PLANT_PATH_RESTORED: 6 s of frames from every known node on both ports (R324). -/
def execPlantPathRestored (s : State) : Outcome :=
  .next (onPnw (fun n => { n with pathLost := false })
    (setPnPort 1 (fun x => { x with path := true, link := true }) (setPnPort 0 (fun x => { x with path := true, link := true }) s)))

/-- A link-local address of RFC 3927 from a free value: 169.254.1.0 to 169.254.254.255 (R325, log 7). -/
def linkLocalOf (w : Word) : Word := 0xA9FE0100 + BitVec.ofNat 32 (w.toNat % 65024)

/-- A link-local address taken, other than the one in use. -/
def takeLinkLocal (s : State) : State :=
  let a := linkLocalOf (freeVal s)
  let b := if a = s.pnw.ip then (if a = 0xA9FEFEFF then 0xA9FE0100 else a + 1) else a
  takeFree (onPnw (fun n => { n with ip := b, linkLocal := true }) s)

/-- ADDRESS_CONFLICT: the link-local address is another node's; another is taken (R325). -/
def execAddressConflict (s : State) : Outcome :=
  .next (if s.pnw.linkLocal then takeLinkLocal (onPnw (fun n => { n with evt := setBit n.evt 1 }) s) else s)

/-! ### IDENTIFY, OPEN, AUTH, CLOSE (R328 to R330) -/

/-- The body of an IDENTIFY response after its status (R328). -/
def identityBody (s : State) : List Byte :=
  wordsBytes ([0x00, 0x04, 0x08, 0x0C, 0x10, 0x14].map (fun o => (idView s o).1)) ++ le16 s.img.stnId ++ [s.pst.slot.setWidth 8] ++
    Word.bytes s.pnw.ip ++ Word.bytes s.pnw.stnIp

/-- A response outside a session: SESSION 0, no TAG (R327). -/
def replyOpen (m : Req) (st : BitVec 16) (body : List Byte) (s : State) : State :=
  emitLan (.message { sess := 0, seq := m.seq, typ := 1, level := m.level, service := m.service, body := le16 st ++ body }) s

/-- Admission of a message without a session: the datagram, VER and TYPE, TARGET (R323, R327). -/
def openReq (m : Req) (k : State → State) (s : State) : State :=
  arriving m.rx (fun s =>
    if !netUp s || m.ver != 1 || m.typ != 0 then s
    else if elsewhere m s then relayed m (replyOpen m stTarget []) s
    else k s) s

/-- IDENTIFY, also broadcast: answered from the own address (R328). -/
def execIdentify (m : Unsess) (s : State) : Outcome :=
  .next (openReq m.msg (fun s => replyOpen m.msg stOk (identityBody s) s) s)

/-- A session identifier that is neither 0 nor in use, from a free value (log 7). -/
def newSessionId (s : State) : Word :=
  let used (w : Word) : Bool := w == 0 || s.pnw.sessions.any (fun x => x.id == w)
  (((List.range 10).map (fun k => freeVal s + BitVec.ofNat 32 k)).find? (fun w => !used w)).getD 1

/-- Sixteen bytes of nonce from free values. -/
def moduleNonce (s : State) : List Byte := (List.range 4).flatMap (fun k => Word.bytes (Config.freeWord (s.free + 1 + k)))

/-- OPEN (R329, R330): ignored from a blocked address; the ninth session is refused. On the station address only the
speaker answers (R326). -/
def openSession (m : Unsess) (onStn : Bool) (level : BitVec 8) (nonce : List Byte) (s : State) : State :=
  if s.pnw.blockedIp.contains m.ip || (onStn && !onStation s) then s
  else if nonce.length ≠ 16 then replyOpen m.msg stMalformed [] s
  else if level.toNat > 3 then replyOpen m.msg stRange [] s
  else if s.pnw.sessions.length ≥ 8 then replyOpen m.msg stBusy [] s
  else
    let x : Session := { id := newSessionId s, level := level.setWidth 2, ip := m.ip, clientNonce := nonce, moduleNonce := moduleNonce s,
                         stnAddr := onStn }
    replyOpen m.msg stOk (Word.bytes x.id ++ x.moduleNonce)
      { s with pnw := { s.pnw with sessions := s.pnw.sessions ++ [x] }, free := s.free + 5 }

/-- OPEN (R329). -/
def execOpen (m : Unsess) (onStn : Bool) (level : BitVec 8) (nonce : List Byte) (s : State) : Outcome :=
  .next (openReq m.msg (openSession m onStn level nonce) s)

/-- The key of a level: the image's; without a valid image the key store's; as delivered the Engineer key of the label
and no other (R329). -/
def levelKey (s : State) (lvl : Nat) : List Byte :=
  if s.boot.loaded && s.sup.mode != .decaf then s.img.net.keys.getD lvl []
  else if s.pnw.levelKeys.isEmpty then (if lvl = 2 then Config.labelKey s.id.serial else [])
  else s.pnw.levelKeys.getD lvl []

/-- The bytes of "VZOPEN". -/
def vzOpen : List Byte := [0x56, 0x5A, 0x4F, 0x50, 0x45, 0x4E]
/-- The bytes of "VZSESS". -/
def vzSess : List Byte := [0x56, 0x5A, 0x53, 0x45, 0x53, 0x53]

/-- The proof that opens a session (R329). -/
def authProof (key : List Byte) (x : Session) : List Byte := hmac key (vzOpen ++ x.clientNonce ++ x.moduleNonce ++ Word.bytes x.id)

/-- The key of a session (R329). -/
def sessionKey (key : List Byte) (x : Session) : List Byte := hmac key (vzSess ++ x.clientNonce ++ x.moduleNonce)

/-- A failed AUTH: the fifth from one address within 60 s blocks it (R330). -/
def authFailed (ip : Word) (s : State) : State :=
  let now := nowUs s
  let l := s.pnw.failedAt.filter (fun f => decide (now < f.2 + 60000000)) ++ [(ip, now)]
  let s := onPnw (fun p => { p with authFail := inc16 p.authFail, failedAt := l }) s
  if countIf (fun f => f.1 == ip) l ≥ 5 && !s.pnw.blockedIp.contains ip then
    post 0x0C01 0 [] (onPnw (fun p => { p with
      blockedIp := p.blockedIp ++ [ip], failedAt := l.filter (fun f => f.1 != ip), evt := setBit p.evt 2 }) s)
  else s

/-- AUTH (R329): the session opens where the proof matches; its cursor stands at the next record (R354). -/
def auth (m : Unsess) (sess : Word) (proof : List Byte) (s : State) : State :=
  if proof.length ≠ 32 then replyOpen m.msg stMalformed [] s
  else match s.pnw.sessions.find? (fun x => x.id == sess && !x.opened) with
    | none => replyOpen m.msg stAccess [] (authFailed m.ip s)
    | some x =>
      let key := levelKey s x.level.toNat
      if !key.isEmpty && proof == authProof key x then
        replyOpen m.msg stOk [] (setSession sess (fun x => { x with opened := true, key := sessionKey key x, cursor := freshCursor s.evr }) s)
      else replyOpen m.msg stAccess [] (authFailed m.ip s)

/-- AUTH (R329). -/
def execAuth (m : Unsess) (sess : Word) (proof : List Byte) (s : State) : Outcome := .next (openReq m.msg (auth m sess proof) s)

/-- CLOSE (R330). -/
def execClose (r : Req) (s : State) : Outcome := .next (screenReq r lvView true (fun s => endSession r.sess (reply r stOk [] s)) s)

/-- SESSION_TIMEOUT: 60 s without a valid request (R330). -/
def execSessionTimeout (sess : Word) (s : State) : Outcome := .next (endSession sess s)

/-- AUTHENTICATION_BLOCK_END: 60 s after the block (R330). -/
def execAuthenticationBlockEnd (ip : Word) (s : State) : Outcome :=
  .next (onPnw (fun p => { p with blockedIp := p.blockedIp.filter (fun a => a != ip) }) s)

/-! ### READ, WRITE, READVAR (R328, R333, R340) -/

/-- Consecutive words read in order; none where one is refused. -/
def readWords (w : Who) : Nat → Nat → State → Option (List Word × State)
  | _, 0, s => some ([], s)
  | a, n + 1, s =>
    match objRead w a s with
    | none => none
    | some (v, s) => (readWords w (a + 4) n s).map (fun p => (v :: p.1, p.2))

/-- The level of a session. -/
def levelOf (s : State) (sess : Word) : BitVec 2 := ((findSession s sess).map (·.level)).getD 0

/-- Words read for a session and answered as one step (R333). -/
def readSpace (r : Req) (a n : Nat) (s : State) : State :=
  if n = 0 || n > 256 then reply r stMalformed [] s
  else match readWords (.sess r.sess (levelOf s r.sess)) a n s with
    | none => reply r stAccess [] s
    | some (ws, s) => reply r stOk (wordsBytes ws) s

/-- READ (R328). -/
def execRead (r : Req) (addr : Word) (count : BitVec 16) (s : State) : Outcome :=
  .next (screenReq r lvView true (readSpace r addr.toNat count.toNat) s)

/-- READVAR (R328): the words of consecutive tags. -/
def execReadvar (r : Req) (tag : Word) (count : BitVec 16) (s : State) : Outcome :=
  .next (screenReq r lvView false (readSpace r (varBase + 4 * tag.toNat) count.toNat) s)

/-- WRITE (R328): the level is judged register by register. -/
def execWrite (r : Req) (addr : Word) (ws : List Word) (s : State) : Outcome :=
  .next (screenReq r lvView false (fun s =>
    if ws.isEmpty || decide (ws.length > 64) then reply r stMalformed [] s
    else answer r (writeSpace (.sess r.sess (levelOf s r.sess)) r addr.toNat ws) s) s)

/-! ### Call notifications (R334) -/

/-- SUBSCRIBE: a mask of call groups; 0 ends the subscription (R328, R334). -/
def execSubscribe (r : Req) (mask : BitVec 8) (s : State) : Outcome :=
  .next (screenReq r lvView false (fun s =>
    reply r stOk [] (setSession r.sess (fun x => { x with
      sub := mask, unacked := x.unacked.filter (fun u => mask.getLsbD u.2.1) }) s)) s)

/-- CALL_NOTIFICATION_SEND: every 30 s while the call is calling or accepted (R334). -/
def execCallNotificationSend (g : Fin 8) (s : State) : Outcome :=
  .next (if (call s g.val).st = .none_ then s else notifyCall g.val s)

/-- NOTIFICATION_ACKNOWLEDGEMENT: it repeats the SEQ of the notification (R327, R334). -/
def execNotificationAcknowledgement (r : Req) (s : State) : Outcome :=
  .next (arriving r.rx (fun s =>
    if r.ver != 1 || r.typ != 3 then s
    else match findSession s r.sess with
      | none => discardMessage s
      | some x =>
        if tagRight x.key r then setSession r.sess (fun x => { x with unacked := x.unacked.filter (fun u => u.1 != r.seq) }) s
        else discardMessage s) s)

/-- CALL_NOTIFICATION_RETRY: the oldest notification without acknowledgement is sent again; after five repeats it is given
up (R334). -/
def execCallNotificationRetry (sess : Word) (s : State) : Outcome :=
  .next (match findSession s sess with
    | none => s
    | some x => match x.unacked with
      | [] => s
      | (sq, g, n) :: l =>
        if n < 5 then emitLan (.message (messageTo x 2 0x0060 sq (callBody s g))) (setSession sess (fun x => { x with unacked := l ++ [(sq, g, n + 1)] }) s)
        else post 0x0C03 g [] (onPnw (fun p => { p with evt := setBit p.evt 4 }) (setSession sess (fun x => { x with unacked := l }) s)))

/-! ### Modbus TCP (R335, R336) -/

/-- Whether the Modbus server runs: not in Decaf, where the network serves R332 alone (R441). -/
def mbServes (s : State) (conn : Nat) : Bool := netUp s && s.sup.mode != .decaf && s.pnw.mbConns.contains conn

/-- The bytes of a 16-bit value, most significant first. -/
def be16 (v : BitVec 16) : List Byte := [v.extractLsb' 8 8, v.extractLsb' 0 8]

/-- The fixed input registers 0x0000 to 0x000F: an address, or zero (R335). -/
def mbFixed : List (Nat × Option Nat) :=
  [(0, some 0x10), (2, some 0x60020), (4, some 0x60024), (6, some 0x60028), (8, some 0x1000C), (10, none), (12, none), (14, none)]

/-- The value of a table entry; none where its register or tag is refused. -/
def mbValue (e : MbEntry) (s : State) : Option (Word × State) :=
  if e.isTag then (if isTag s e.addr then some (tagValue s e.addr, s) else none) else objRead (.sess 0 lvView) e.addr s

/-- The registers from `n` on, `q` of them, as 16-bit values; none is exception 02. A 32-bit value is sent high word
first; a 16-bit one is the low half of its word. -/
def mbRead (inputs : Bool) (tbl : List (Nat × MbEntry)) : Nat → Nat → State → Option (List (BitVec 16) × State)
  | 0, _, s => some ([], s)
  | q + 1, n, s =>
    let wide (v : Word) (rest : Option (List (BitVec 16) × State)) : Option (List (BitVec 16) × State) :=
      rest.map (fun p => (v.extractLsb' 16 16 :: v.extractLsb' 0 16 :: p.1, p.2))
    if inputs && n < 16 then
      if n ≥ 10 then (mbRead inputs tbl q (n + 1) s).map (fun p => (0 :: p.1, p.2))
      else match (iget mbFixed n).join, q with
        | some a, q' + 1 => match objRead (.sess 0 lvView) a s with
          | some (v, s) => wide v (mbRead inputs tbl q' (n + 2) s)
          | none => none
        | _, _ => none
    else match iget tbl n with
      | none => none
      | some e =>
        match mbValue e s with
        | none => none
        | some (v, s) =>
          if e.wide then match q with
            | q' + 1 => wide v (mbRead inputs tbl q' (n + 2) s)
            | 0 => none
          else (mbRead inputs tbl q (n + 1) s).map (fun p => (v.extractLsb' 0 16 :: p.1, p.2))

/-- Function codes 3 and 4 (R335, R336). -/
def mbReadReq (h : MbHdr) (fc : Byte) (inputs : Bool) (start qty : BitVec 16) (s : State) : State :=
  if !mbServes s h.conn then s
  else if qty = 0 || qty.toNat > 125 then mbException h fc 3 s
  else match mbRead inputs (if inputs then s.img.net.inputs else s.img.net.holding) qty.toNat start.toNat s with
    | none => mbException h fc 2 s
    | some (vs, s) => emitLan (.modbus h ([fc, BitVec.ofNat 8 (2 * vs.length)] ++ vs.flatMap be16)) s

/-- MODBUS_READ_HOLDING (R335). -/
def execModbusReadHolding (h : MbHdr) (start qty : BitVec 16) (s : State) : Outcome := .next (mbReadReq h 3 false start qty s)
/-- MODBUS_READ_INPUT (R335). -/
def execModbusReadInput (h : MbHdr) (start qty : BitVec 16) (s : State) : Outcome := .next (mbReadReq h 4 true start qty s)

/-- The entries that consecutive holding registers name, with their words; none where one is unmapped or half of a 32-bit
entry (exception 02). -/
def mbEntries (s : State) : Nat → List (BitVec 16) → Option (List (MbEntry × Word))
  | _, [] => some []
  | n, v :: vs =>
    match iget s.img.net.holding n with
    | none => none
    | some e =>
      if e.wide then match vs with
        | w :: ws => (mbEntries s (n + 2) ws).map (fun l => (e, v ++ w) :: l)
        | [] => none
      else (mbEntries s (n + 1) vs).map (fun l => (e, v.setWidth 32) :: l)

/-- The registers of a write carried out in order; the first refusal ends them. -/
def mbWriteRegs : List (MbEntry × Word) → State → Written
  | [], s => done s
  | (e, v) :: l, s =>
    let t := objWrite (.sess 0 lvOperate) noReq e.addr v s
    if t.1 = stOk then mbWriteRegs l t.2 else t

/-- Entries written as one step: registers at Operate level, tags as one batch of value writes; never a safety-related
variable (R336). -/
def mbWriteAll (l : List (MbEntry × Word)) (s : State) : Written :=
  let tags := (l.filter (fun p => p.1.isTag)).map (fun p => ({ tag := p.1.addr, value := p.2, const := false } : OlcEntry))
  if !s.img.net.mbWr || l.any (fun p => !p.1.writable) || tags.any (fun t => safetyTarget s (.tag t.tag)) then refuse stAccess s
  else
    let t := mbWriteRegs (l.filter (fun p => !p.1.isTag)) s
    if t.1 ≠ stOk then (t.1, keepRefusals t.2 s)
    else if tags.isEmpty then t
    else
      let u := varWrite noReq tags t.2
      if u.1 = stOk then u else (u.1, keepRefusals u.2 s)

/-- The last of the forwarded commands takes the answer; those before it, of the same write, give none. -/
def answeredLast (o : Origin) (l : List (FwdCmd × Origin × Nat)) : List (FwdCmd × Origin × Nat) :=
  match l.getLast? with
  | some x => l.dropLast ++ [(x.1, o, x.2.2)]
  | none => []

/-- A write of Modbus answered by its PDU, or by exception 04; what goes to the partner first is answered once the partner confirms
(R333, R336). -/
def mbWriteReq (h : MbHdr) (fc : Byte) (start : BitVec 16) (vals : List (BitVec 16)) (ok : List Byte) (s : State) : State :=
  match mbEntries s start.toNat vals with
  | none => mbException h fc 2 s
  | some l =>
    let t := mbWriteAll l s
    if t.1 ≠ stOk then mbException h fc 4 t.2
    else if s.pst.unconfirmed.length < t.2.pst.unconfirmed.length then onPst (fun p => { p with unconfirmed := answeredLast (.modbus h ok) p.unconfirmed }) t.2
    else emitLan (.modbus h ok) t.2

/-- MODBUS_WRITE_SINGLE (R336). -/
def execModbusWriteSingle (h : MbHdr) (reg value : BitVec 16) (s : State) : Outcome :=
  .next (if mbServes s h.conn then mbWriteReq h 6 reg [value] ([6] ++ be16 reg ++ be16 value) s else s)

/-- MODBUS_WRITE_MULTIPLE (R336). -/
def execModbusWriteMultiple (h : MbHdr) (start qty : BitVec 16) (byteCount : Nat) (vals : List (BitVec 16)) (s : State) : Outcome :=
  .next (if !mbServes s h.conn then s
    else if qty = 0 || qty.toNat > 123 || byteCount ≠ 2 * qty.toNat || vals.length ≠ qty.toNat then mbException h 16 3 s
    else mbWriteReq h 16 start vals ([16] ++ be16 start ++ be16 qty) s)

/-- MODBUS_OTHER_FUNCTION: exception 01 (R336). -/
def execModbusOtherFunction (h : MbHdr) (fc : Byte) (s : State) : Outcome :=
  .next (if mbServes s h.conn then mbException h fc 1 s else s)

/-- MODBUS_CONNECTION_OPEN: up to four (R335). -/
def execModbusConnectionOpen (conn : Nat) (s : State) : Outcome :=
  .next (if netUp s && s.sup.mode != .decaf && decide (s.pnw.mbConns.length < 4) && !s.pnw.mbConns.contains conn
    then onPnw (fun p => { p with mbConns := p.mbConns ++ [conn] }) s else s)

/-- MODBUS_CONNECTION_TIMEOUT: 60 s without a request (R335). -/
def execModbusConnectionTimeout (conn : Nat) (s : State) : Outcome :=
  .next (onPnw (fun p => { p with mbConns := p.mbConns.filter (fun c => c != conn) }) s)

/-! ### UTC (R338, R339, R414) -/

/-- Whether the NTP client runs: in the speaker, out of Decaf (R338, R332). -/
def ntpRuns (s : State) : Bool := netUp s && s.sup.mode != .decaf && onStation s && s.img.net.ntpServers != 0

/-- NTP_POLL (R338). -/
def execNtpPoll (s : State) : Outcome :=
  .next (if ntpRuns s then emitLan .ntpRequest (onPnw (fun p => { p with polls := p.polls + 1 }) s) else s)

/-- How much of a small offset has been slewed: at most 500 ppm of the time since the last valid offset, the rest is open
(R338, log 7). -/
def slewed (s : State) (off : Int) : Int :=
  let gone := match s.pnw.utcLastUs with
    | some t => (nowUs s - t) / 2000
    | none => 0
  let n := (freeVal s).toNat % (min off.natAbs gone + 1)
  if off < 0 then -(n : Int) else n

/-- NTP_RESPONSE: the first valid offset after start in one step; below 128 ms slewed; a larger one waits for
UTC_STEPPED (R338). -/
def execNtpResponse (server : Fin 4) (off : Int) (s : State) : Outcome :=
  .next (if !(ntpRuns s && decide (server.val < s.img.net.ntpServers)) then s
    else
      let add (d : Int) (big : Option Int) (s : State) : State :=
        onPnw (fun p => { p with utcOffset := p.utcOffset + d, utcBig := big, utcServer := BitVec.ofNat 2 server.val,
                                 utcSync := true, utcFirst := false, utcLastUs := some (nowUs s) }) s
      if s.pnw.utcFirst then add off none s
      else if off.natAbs < 128000 then takeFree (add (slewed s off) none s)
      else add 0 (some off) s)

/-- UTC_STEPPED: an offset of 128 ms or more has persisted for 900 s; the step in µs is posted (R338). -/
def execUtcStepped (s : State) : Outcome :=
  .next (match s.pnw.utcBig with
    | none => s
    | some o =>
      post 0x0C02 0 [BitVec.ofInt 32 o]
        (onPnw (fun p => { p with utcOffset := p.utcOffset + o, utcBig := none, evt := setBit p.evt 3 }) s))

/-- RTC_SET: while SYNC is 1, at the first valid offset and every hour after it (R414). -/
def execRtcSet (s : State) : Outcome :=
  .next (if s.pnw.utcSync then
    onSup (fun u => { u with rtc := BitVec.ofNat 32 ((utcUs s).toNat / 1000000), rtcAt := nowUs s, rtcSet := true, rtcValidShown := true }) s
  else s)

end Sys2Proof.Machine
end

