-- ==== Sys2Proof/Machine/Cycle.lean ====
section
/-! DEFINITION. The program cycle (R20, R62, R73 to R77): T0, the opening of the execute window, TO, the late compare; the
module state commands (R23, R24), the lane mode commands (R110), the role transfer (R278) and the silence of the field ring (R277). -/

namespace Sys2Proof.Machine

/-! ### Hold, resume, Commissioning (R23, R24, R76, R85) -/

/-- A state command for both modules of a pair: at the T0 of R79 in a pair, at once otherwise (R24). -/
def stateCommand (r : Req) (ok : State → Bool) (c : FwdCmd) (a : T0Act) (apply : State → State) (s : State) : State :=
  screenReq r lvEngineer false (fun s =>
    acceptIf r (ok s) stState (acceptBoth r c (fun s => if paired s then schedule a s else apply s)) s) s

/-- HOLD (R24). -/
def execHold (r : Req) (s : State) : Outcome := .next (stateCommand r inRun .hold .holdIn enterHold s)
/-- RESUME (R76). -/
def execResume (r : Req) (s : State) : Outcome :=
  .next (stateCommand r (fun s => s.sup.mode == .hold) .resume .resumeIn leaveHold s)

/-- ENTER_COMMISSIONING (R23). -/
def execEnterCommissioning (r : Req) (s : State) : Outcome :=
  .next (screenReq r lvEngineer false (fun s =>
    acceptIf r (s.sup.mode == .run) stState (fun s => reply r stOk [] (onSup (fun u => { u with mode := .commissioning }) s)) s) s)

/-- Whether a force on a safety-related variable stands (R81, R85). -/
def safetyForced (s : State) : Bool := s.cyc.forces.any (fun f => safetyTarget s f.1)

/-- Run again; a safety-related force is cleared by a warm restart at the next T0 (R85). DESIGN CHOICE (log 133): one that was
accepted and still waits for its T0 is no standing force; it takes effect in Run. -/
def leaveCommissioning (s : State) : State :=
  let s := endCommissioning s
  onSup (fun u => { u with mode := .run, warmDue := if safetyForced s then some 0x21 else u.warmDue }) s

/-- LEAVE_COMMISSIONING (R85). -/
def execLeaveCommissioning (r : Req) (s : State) : Outcome :=
  .next (screenReq r lvEngineer false (fun s =>
    acceptIf r (s.sup.mode == .commissioning) stState (fun s => reply r stOk [] (leaveCommissioning s)) s) s)

/-- WARM_RESTART: at the next T0 (R23, R418). -/
def execWarmRestart (r : Req) (s : State) : Outcome :=
  .next (screenReq r lvEngineer false (fun s =>
    acceptIf r (inRun s) stState (fun s => reply r stOk [] (onSup (fun u => { u with warmDue := some 0x20 }) s)) s) s)

/-- RESTART_CLASS_S (R23, R417). -/
def execRestartClassS (r : Req) (s : State) : Outcome :=
  .next (screenReq r lvEngineer false (fun s => enterReset .s 0x11 (reply r stOk [] s)) s)

/-- LEAVE_DECAF: the failed-start count becomes 2 (R442). -/
def execLeaveDecaf (r : Req) (s : State) : Outcome :=
  .next (screenReq r lvEngineer true (fun s =>
    acceptIf r (s.sup.mode == .decaf) stState (fun s => enterReset .s 0x13 (reply r stOk [] (setFails 2 s))) s) s)

/-! ### Split and rejoin (R107, R110, R111) -/

/-- Status: split not permitted by image (R333). -/
def stSplit : BitVec 16 := 0x000B

/-- SPLIT_LANES: from Checked, where the image permits it (R107, R110). DESIGN CHOICE: the spec does not say what a second
"split lanes" does while one waits for its T0; it is accepted and waits beside the first (log 112). -/
def execSplitLanes (r : Req) (s : State) : Outcome :=
  .next (screenReq r lvEngineer false (fun s =>
    if !(inRun s && s.cmp.mode == .checked) then reply r stState [] s
    else if !s.img.split || hasCat4 s then reply r stSplit [] s
    else acceptBoth r .split (fun s => schedule .split (onCmp (fun m => { m with pending := true }) s)) s) s)

/-- REJOIN_LANES (R110, R111): a rejoin whose own test fails is accepted and ends there; the partner does not hear of it.
DESIGN CHOICE: the spec gives no status for a refusal by REJOIN_BLOCK, the model answers "not allowed in this state"; nor does
it say what a second "rejoin lanes" does while one is prepared, the model tests again and counts from it (log 112). -/
def execRejoinLanes (r : Req) (t : SelfTest) (s : State) : Outcome :=
  .next (screenReq r lvEngineer false (fun s =>
    acceptIf r (inRun s && s.cmp.mode == .split && !s.cmp.rejoinBlock) stState (fun s =>
      if testPasses t then acceptBoth r .rejoin (beginRejoin (nowUs s) t) s else reply r stOk [] (beginRejoin (nowUs s) t s)) s) s)

/-- CLEAR_RETAIN_VARIABLES (R425). -/
def execClearRetainVariables (r : Req) (s : State) : Outcome :=
  .next (screenReq r lvEngineer false (fun s =>
    acceptIf r (s.sup.mode == .commissioning) stState (acceptBoth r .clearRetain (schedule .clearRetain)) s) s)

/-! ### T0 (R62, R73, R75 to R79) -/

/-- Acts of the partner that it has not said to be confirmed by their T0, or within 50 ms if that is longer: neither module
carries them out (R79). -/
def dropHeld (s : State) : State :=
  let past (t : Nat) : Bool := t0Due s t && decide (nowUs s ≥ t + 50000)
  let gone := s.cyc.sched.filter (fun x => x.held && past x.at_)
  let s := forEach gone (fun x s => withdraw x.act s) (onCyc (fun c => { c with sched := c.sched.filter (fun x => !gone.contains x) }) s)
  if s.cmp.rejoinHeld && s.cmp.rejoinAt.any past then withdraw .rejoin s else s

/-- Whether the lanes execute: in Run and Commissioning, but not in a Copy standby, nor in a Twin-step standby that is not
in step; a shadow standby executes (R287, R292, R293). -/
def executes (s : State) : Bool :=
  inRun s && (roleShown s != .standby || s.pst.shadow || (s.img.plan.mode == .twin && s.pst.instep))

/-- The image keys after Run with a KEYS record: the image's own key and the record's (R434). DESIGN CHOICE (log 172): of five keys
the record's last one is dropped. -/
def adoptKeys (s : State) : State :=
  match s.img.keysRec with
  | some ks => onPnw (fun p => { p with imageKeys := (s.img.pubkey :: ks).eraseDups.take 4 }) s
  | none => s

/-- Run entered at the first T0 after the start sequence (R23, R131, R272, R436 step 13). -/
def enterRun (s : State) : State :=
  let ms := sat16 ((nowUs s - s.boot.startUs) / 1000)
  let s := adoptKeys (onSup (fun u => { u with mode := .run, phase := .up }) (roleAtRun s))
  let s := onBoot (fun b => { b with runUs := some (nowUs s), tRun := if s.sup.lastClass = .w then b.tRun else ms }) s
  let s := onCyc (fun c => { c with firstDue := true, snapFresh := false }) s
  requalAll allChans (applyOutputs (loopInit s))

/-- The status words of the input image (R62). -/
def statusWords (s : State) : List (Nat × Word) :=
  [(0xC0, s.cyc.count.setWidth 32), (0xC1, (idView s 0x10).1),
   (0xC2, bit s.cyc.firstDue 0 ||| bit (decide (s.sup.holdExit > 0)) 1 ||| bit s.cyc.ovrLast 2 ||| bit (safetyForced s) 3),
   (0xC3, supplyWord s), (0xC5, statesWord s), (0xC6, lo32 s.cyc.t0Us), (0xC7, hi32 s.cyc.t0Us), (0xC8, lo32 (cycleUs s))]

/-- The four words of each loop slot (R138). -/
def loopWords (s : State) : List (Nat × Word) :=
  s.img.loops.flatMap (fun p =>
    let x := lslot s p.1
    [(0x2100 + 4 * p.1, x.pv), (0x2101 + 4 * p.1, x.out), (0x2102 + 4 * p.1, loopStat s p.1), (0x2103 + 4 * p.1, x.sp)])

/-- TI: the local words latched; remote words stay until the window opens (R62, R148). The count of input changes begins
again (R149). -/
def latchInputs (s : State) : State :=
  let ws := allChans.map (fun i => (i, valueWord s i)) ++ allChans.map (fun i => (0x60 + i, qualWord s i)) ++ statusWords s ++ loopWords s
  let s := onCyc (fun c => { c with inputs := tputs 0 (c.inputs.filter (fun p => 0x100 ≤ p.1 && p.1 < 0x2100)) ws, firstDue := false }) s
  forEach allChans (fun i s => setChan i (fun c => { c with changes := 0 }) s) s

/-- A cycle that the lanes execute begins (R62, R73, R132). DESIGN CHOICE: the number is counted up before it is latched, so
that the first cycle after a restart has number 1 (log 114). -/
def beginCycle (s : State) : State :=
  let s := onCyc (fun c => { c with count := c.count + 1, t0Us := nowUs s, phase := .inputs, objVals := [] }) s
  latchInputs (syncSend (ringT0 (importsT0 (onLpe (fun l => { l with held := false }) s))))

/-- A T0 at which the lanes do not execute: Hold, or a standby in Copy mode, whose lane mode follows without observation;
the loop engine goes on after Hold (R110, R132, R421). DESIGN CHOICE: FIRST stays due until a cycle is executed, so that the first cycle of a Copy standby after a
take-over has it (log 113). -/
def idleT0 (s : State) : State :=
  let s := onCyc (fun c => { c with t0Us := nowUs s, phase := .idle }) s
  let s := if s.sup.mode = .hold then s
    else onLpe (fun l => { l with held := false }) (onPst (fun p => { p with ticks := p.ticks + 1 }) s)
  syncSend (ringT0 (importsT0 (followRejoin 0 s)))

/-- The qualifying cycles of a standby that is ready (R281). -/
def countQual (s : State) : State :=
  if roleShown s = .standby && s.pst.ready then onPst (fun p => { p with qualCycles := p.qualCycles + 1 }) s else s

/-- Whether a T0 finds the late cycle unfinished (R75). An observation cycle that the comparator cannot complete, because its
compare stalled or its END stayed unpaired, ends here once no lane executes it, and the rejoin fails (R110). DEDUCED: it is then no
consecutive overrun of R75 (log 137). -/
def stillLate (s : State) : Bool :=
  s.cyc.late && !(s.cmp.mode == .rejoining && s.cmp.obsMism != 0 && s.nibA.st != .running && s.nibB.st != .running)

/-- CYCLE_T0: a warm restart that is due (R418), in Run and Commissioning alone: one that Hold came before waits for the first
T0 after it (R23, log 115), the second consecutive overrun (R75), what waited for this T0 (R79), the
lane mode (R110), then the cycle. -/
def cycleT0 (s : State) : State :=
  let s := if s.sup.phase = .waitT0 then enterRun s else s
  if !(s.sup.phase == .up && inService s) then s
  else match (if inRun s then s.sup.warmDue else none) with
    | some cause => enterReset .w cause s
    | none =>
      if stillLate s then selfDiag .consecutiveOverrun s
      else
        let s := onCyc (fun c => { c with late := false }) s
        let s := dropHeld (applyJournal s)
        let s : State := { s with nibA := { s.nibA with wrote := [] }, nibB := { s.nibB with wrote := [] } }
        let s := countQual (laneModeT0 (applyDue 0 (fun _ => true) s))
        if executes s then beginCycle s else idleT0 s

/-- CYCLE_T0 (R73). -/
def execCycleT0 (s : State) : Outcome := .next (cycleT0 s)

/-! ### The execute window (R20, R89 to R91) -/

/-- The input check of a copy of the input image (R90). -/
def inputCheck (inp : Tab Word) : Word := crc32cWords crcInit ((List.range inWords).map (tget 0 inp))

/-- A lane at the opening of the window (R68, R73, R91). -/
def startLane (entry : Nat) (inp : Tab Word) (x : LaneSt) : LaneSt :=
  let c := inputCheck inp
  { x with pc := entry, st := .running, inp := inp, inCheck := c, sigOut := c, sigReg := crcInit, ops := 0, opened := [], scanned := [],
           queue := [], objCnt := 0, blocked := none }

/-- The window opens: both lanes start from the entry of the lane mode with their copies of the inputs (R62, R73, R89,
R108, R111), and take the checkpoint of the opening, at which their input checks meet (R90, R93). -/
def openWindow (s : State) : State :=
  let inp := tput 0 s.cyc.inputs 0xC4 (presentWord s)
  let split := s.cmp.mode == .split
  let s : State := { s with mtrLanes := s.mtr
                            nibA := startLane (if split then s.img.entryA else s.img.entry) inp s.nibA
                            nibB := startLane (if split then s.img.entryB else s.img.entry) inp s.nibB }
  let s := onCmp (fun m => { m with queueA := [], queueB := [], judged := 0, endJudged := false, marked := none }) s
  let s := onCyc (fun c => { c with phase := .window, openUs := nowUs s, inputs := inp, objVals := [],
                                    cells := tmap {} (fun x => { x with qbad := false, ovr := false }) c.cells }) s
  checkpoint .b 0 0 (checkpoint .a 0 0 s)

/-- EXECUTE_WINDOW_OPEN: every expected remote frame has arrived (R20). -/
def execExecuteWindowOpen (s : State) : Outcome :=
  .next (if s.cyc.phase = .inputs && inRun s && allArrived s then openWindow s else s)

/-- INPUT_DEADLINE: missing frames count as missed, and the window opens (R20, R317). -/
def execInputDeadline (s : State) : Outcome :=
  .next (if !inService s then s
    else
      let s := onFrg (fun r => { r with deadlineOver := true }) (forEach (stations s) deadlineStn s)
      if s.cyc.phase = .inputs && inRun s then openWindow s else s)

/-! ### TO (R16, R17, R19, R66, R74, R76) -/

/-- The output image with the forces on its words (R82). -/
def forcedImage (s : State) : Tab Word :=
  s.cyc.forces.foldl (fun t f => match f.1 with
    | .outp o => tput 0 t o f.2
    | _ => t) s.cyc.outImg

/-- A lane's queued writes and records carried out in program order: the writes not of a late cycle nor of a standby; the
records with the time of the cycle's T0 (R66, R74, R292, R345). -/
def runQueue (l : Lane) (late : Bool) (s : State) : State :=
  let standby := roleShown s == .standby
  let t : BitVec 64 := BitVec.ofInt 64 ((s.cyc.t0Us : Int) + s.pnw.utcOffset)
  forEach (lane s l).queue (fun q s => match q with
    | .objwr a v => if late || standby then s else runObjwr l a v s
    | .evpost code a b cell =>
      postHead { code := code.toNat, source := 0x0001, cell := cell, time := t, late := late, standby := standby } [a, b] s)
    (setLane l (fun x => { x with queue := [] }) s)

/-- The queues of a cycle: Nib A's; in Split mode Nib B's after it; otherwise Nib B's equals Nib A's and is dropped (R66,
R108, R111). -/
def runQueues (late : Bool) (s : State) : State :=
  let s := runQueue .a late s
  if s.cmp.mode = .split then runQueue .b late s else setLane .b (fun x => { x with queue := [] }) s

/-- The snapshot of the tags that points name; the first since a restart or Hold lets their points go on (R18, R241, R422). -/
def takeSnapshot (s : State) : State :=
  onCyc (fun c => { c with snapshot := tputs 0 [] ((pointTags s.img).map (fun n => (n, tagValue s n))), snapFresh := true }) s

/-- Groups whose outputs waited for a TO take their commands (R179, R182). -/
def endOutWait (s : State) : State := forEach (List.range 6) (fun g s => setGrp g (fun x => { x with outWait := false }) s) s

/-- One of the two cycles after Hold is over (R76). -/
def exitStep (s : State) : State := onSup (fun u => { u with holdExit := u.holdExit - 1 }) s

/-- The output image and the loop transfer of a TO whose compare is complete; withheld in the first cycle after Hold. Row 3 of
R16 ends with the first image released (R17, R19, R76). DESIGN CHOICE (log 134): where the second cycle after Hold overruns, its TO
releases nothing, and row 3 goes on to the TO that releases the first image. -/
def releaseImage (s : State) : State :=
  if s.sup.holdExit ≥ 2 then exitStep s
  else
    let s := onSup (fun u => { u with holdRow := false }) (exitStep s)
    loopTransfer (onCyc (fun c => { c with released := forcedImage s }) s)

/-- A TO whose compare is complete. -/
def releaseCycle (s : State) : State :=
  let s := releaseImage s
  let s := runQueues false s
  let s := takeSnapshot (retainCopy s)
  let s := dueDigest (onCyc (fun c => { c with phase := .idle, ovrLast := false }) s)
  let s := applyOutputs (pairsAtTo (endOutWait s))
  let s := grantAll (sendExports (sendDelta s))
  panelRefresh (pageClass s) (rejoinT0 s)

/-- The cells that a lane has open; the root until END (R68). -/
def openCells (x : LaneSt) : List Nat := if x.st = .running || x.st = .waiting then 0 :: x.opened else []

/-- The cells open when a TO passes without a completed compare (R88). -/
def markOverrun (s : State) : State :=
  let cells := if s.cyc.phase = .inputs then [] else openCells s.nibA ++ openCells s.nibB
  forEach cells (fun n s => setCell n (fun c => { c with ovr := true }) s) s

/-- A queue without its writes (R74). -/
def dropWrites (x : LaneSt) : LaneSt :=
  { x with queue := x.queue.filter (fun q => match q with | .objwr _ _ => false | _ => true) }

/-- A TO whose compare is not complete: the cycle overruns; the second one in a row is a fault (R74, R75). No transfer takes
place, but the loop engine evaluates from the first TO of Run, be it this one (R131). -/
def overrun (s : State) : State :=
  let again := s.cyc.ovrLast
  let s : State := { s with nibA := dropWrites s.nibA, nibB := dropWrites s.nibB }
  let s := onLpe (fun l => { l with transferred := l.transferred || inRun s }) s
  let s := onCyc (fun c => { c with late := true, ovrLast := true, ovrCount := inc16 c.ovrCount, evt := setBit c.evt 0 }) (markOverrun s)
  let s := post 0x0101 0 [] (onAlm (fun a => { a with ovrUs := some (nowUs s) }) s)
  let s := rejoinOverrun (grantAll (applyOutputs (pairsAtTo (endOutWait (exitStep s)))))
  if again then selfDiag .consecutiveOverrun s else s

/-- TO in Hold: the digest of a cycle that was compared before Hold starts (R101); the remote stations get their safe values
(R320). -/
def holdRelease (s : State) : State :=
  let s := dueDigest s
  grantAll (applyOutputs (pairsAtTo (endOutWait (holdOutputs s))))

/-- TO in a standby in Copy mode: nothing is executed; the two cycles after Hold pass as in the active module (R76). -/
def standbyRelease (s : State) : State :=
  let s := endOutWait (takeSnapshot (onPst (fun p => { p with toTick := p.ticks, toUs := nowUs s }) s))
  applyOutputs (exitStep (if s.sup.holdExit ≥ 2 then s else onSup (fun u => { u with holdRow := false }) s))

/-- OUTPUT_RELEASE: TO (R20). In Split a cycle is complete when both lanes are at END (R108). Where Hold, or the stop of a Twin-step
standby, came between the compare and the TO, the digest that is due starts here (R101). -/
def outputRelease (s : State) : State :=
  if !(inService s && s.sup.phase == .up) then s
  else if s.sup.mode = .hold then holdRelease s
  else
    let s := if s.cmp.mode = .split then compareComplete s else s
    match s.cyc.phase with
    | .compared => releaseCycle s
    | .idle => if executes s then dueDigest s else standbyRelease (dueDigest s)
    | _ => if s.cyc.late then s else overrun s

/-- OUTPUT_RELEASE (R20). -/
def execOutputRelease (s : State) : Outcome := .next (outputRelease s)

/-- LATE_COMPARE_COMPLETE: the late cycle ends without a fault verdict; its records are posted late, its retain words kept,
its delta sent (R55, R74, R101, R287). -/
def lateComplete (s : State) : State :=
  if s.cyc.late && inRun s && compareReady s then
    let s := finishCompare s
    let s := retainCopy (runQueues true s)
    let s := dueDigest (onCyc (fun c => { c with late := false, phase := .idle }) s)
    rejoinLate (sendExports (sendDelta s))
  else s

/-- LATE_COMPARE_COMPLETE (R74). -/
def execLateCompareComplete (s : State) : Outcome := .next (lateComplete s)

/-! ### Transfers of the role (R277, R278) -/

/-- ROLE_TRANSFER, 20 µs before a T0: where one is due and the standby has applied the delta of the ending cycle, or is in
step; what waits for the same T0 comes first; a standby with a differing image gets the carried values again (R278, R294). A take-back
whose conditions no longer hold falls away (R282). -/
def roleTransfer (s : State) : State :=
  match s.pst.xferDue with
  | none => s
  | some reason =>
    let applied := if s.pst.mixed then true else if s.img.plan.mode = .twin then s.pst.instep else s.pst.ackCycle == some s.cyc.count
    if s.pst.ownDrive && reason = 5 && !activeTakesBack s then onPst (fun p => { p with xferDue := none }) s
    else if s.pst.ownDrive && gate s && inService s && partnerMayTake s && applied then
      let s := laneModeT0 (applyDue 20 beforeTransfer s)
      let s := if s.pst.mixed then
          sendCarafe { join := true, final := true, cycle := s.cyc.count, data := [], outw := [], loops := [], bases := [],
                       joinRec := none, carry := carryWords s } s
        else s
      releaseRole reason s
    else s

/-- ROLE_TRANSFER (R278). -/
def execRoleTransfer (s : State) : Outcome := .next (roleTransfer s)

/-- FIELD_RING_SILENCE: the active module has heard nothing on the ring for 10 ms; it gives up the role where the partner may
take it and hears the ring (R277). -/
def execFieldRingSilence (s : State) : Outcome :=
  .next (if roleShown s = .active && inService s && !(ringPort s 0).up && !(ringPort s 1).up && partnerMayTake s && partnerSays s (fun h => h.ringOk) then releaseRole 7 s else s)

end Sys2Proof.Machine
end

