-- ==== Sys2Proof/Machine/Supplies.lean ====
section
/-! DEFINITION. Supplies, resets and retention (R406 to R427): VIN and its episodes, VBAK, the reset pin, what a reset clears
and what it keeps (R418, R426), and the completion of a flush. -/

namespace Sys2Proof.Machine

/-! ### VIN measured -/

/-- A mean of VIN taken over; MIN is the lowest since it was last read, 0 before the first (R427). -/
def seeVin (v : BitVec 16) (s : State) : State :=
  onSup (fun u => { u with vinNow := v, vinMin := if u.vinMin = 0 || decide (v < u.vinMin) then v else u.vinMin }) s

/-! ### What a reset clears (R418 step 4, R426) -/

/-- A lane's register file and data memory: no reset clears them (R87). -/
def laneKept (x : LaneSt) : LaneSt := { g := x.g, data := x.data }

/-- What no class clears of a loop slot: the operator setpoint, mode and manual value (R144, R426). -/
def loopKept (x : LoopSt) : LoopSt := { mode := x.mode, man := x.man, spop := x.spop }

/-- What no class clears of a context (R370). -/
def ctxKept (x : Ctx) : Ctx := { hdr0 := x.hdr0, hdr1 := x.hdr1, value := x.value, alg := x.alg }

/-- A group's maintenance, kept in MRAM (R182). -/
def groupKept (x : Group) : Group := { maint := x.maint }

/-- What no class clears of a channel: the substitute that it kept at the entry into maintenance, which outlives a reset with the
maintenance (R181, R182). -/
def chanKept (x : Chan) : Chan := { subst := x.subst }

/-- A safe output pair after a warm restart: its latches and counters (R227, R229, R426). -/
def pairKept (x : Pair) : Pair :=
  { sag := x.sag, maint := x.maint, edm := x.edm, stuck := x.stuck, short := x.short, failP := x.failP, failM := x.failM,
    offAt := x.offAt, cntLatch := x.cntLatch, cntOn := x.cntOn }

/-- A slot after a warm restart: Demanded, its counters kept (R212, R239, R426). -/
def slotKept (x : Slot) : Slot := { cntFault := x.cntFault, cntLong := x.cntLong, cntDemand := x.cntDemand }

/-- A trace channel Idle with its memory, and its settings where they are kept (R141, R143). -/
def traceKept (settings : Bool) (x : TraceSt) : TraceSt :=
  if settings then { cfg := x.cfg, trig := x.trig, level := x.level, mem := x.mem } else { mem := x.mem }

/-- The comparator after a warm restart (R103, R110, R113): modes and measurements at their defaults, the records of past
divergences, the injection test and the events kept. -/
def cmpWarm (c : Cmp) : Cmp :=
  { divVerdict := c.divVerdict, divCell := c.divCell, divCycle := c.divCycle, benignTotal := c.benignTotal, benignAt := c.benignAt,
    faultReason := c.faultReason, faultCell := c.faultCell, testDone := c.testDone, testPass := c.testPass, testFirst := c.testFirst,
    testMisses := c.testMisses, testDur := c.testDur, evt := c.evt }

/-- The Inkwell through a reset: SEQ, store and losses stay; counts and events stay at W alone (R346, R351, R358). -/
def evrKept (warm : Bool) (e : Evr) : Evr :=
  let k : Evr := { next := e.next, ring := e.ring, store := e.store, dirSeq := e.dirSeq, lost := e.lost, running := false, dropRun := e.dropRun }
  if warm then { k with dropped := e.dropped, suppr := e.suppr, evt := e.evt, lossPoint := e.lossPoint } else k

/-- A channel after a warm restart (R11, R183, R202): its registers of class W at their defaults, so that it has no value since
the start (R151); filters, supply, trips and freezing are the group controller's, which goes on (R437), and sticky bits and
counters stay. A frozen input shows the word it froze on. -/
def chanWarm (x : Chan) : Chan :=
  { value := if x.frozen then x.fz else 0, raw := x.raw, filt := x.filt, cnt := x.cnt, qcnt := x.qcnt, qfilt := x.qfilt,
    qAt := x.qAt, hist := x.hist, frozen := x.frozen, fz := x.fz,
    subst := x.subst, qSupply := x.qSupply, supplyOff := x.supplyOff, qCross := x.qCross, qOpen := x.qOpen, qShort := x.qShort,
    qImbal := x.qImbal, tripped := x.tripped, coldJ := x.coldJ, evt := x.evt, faults := x.faults, retries := x.retries, levt := x.levt }

/-- A group after a warm restart: its measured values at their defaults (R11, R183). -/
def groupWarm (x : Group) : Group := { x with volt := 0, voltMin := 0, current := 0, cj := 0 }

/-- Field groups and channels after a warm restart. -/
def fchWarm (f : Fch) : Fch :=
  { f with ch := tmap {} chanWarm f.ch, grp := tmap {} groupWarm f.grp, ses := none, pinUp := false, pinDn := false, pinSet := false,
           stuckUp := false, stuckDn := false, stuckSet := false }

/-- The timing block after a warm restart (R11, R51): measured values and the governor's state at their defaults; the timebase,
the core voltage, the checks of R36 and the operator's ceiling stay. -/
def timWarm (t : Tim) : Tim :=
  { ticks := t.ticks, tbRun := t.tbRun, qSeesTb := t.qSeesTb, tbSeesQ := t.tbSeesQ, tickFault := t.tickFault, qtick := t.qtick,
    vcore := t.vcore, ceilOp := t.ceilOp, boHold := t.boHold, evt := t.evt, barLimit := t.barLimit }

/-- A ring port after a warm restart: its counters (R11, R322). -/
def ringPortWarm (q : RingPort) : RingPort := { errCheck := q.errCheck, errFcs := q.errFcs, frames := q.frames, linkSeq := q.linkSeq }

/-- A remote station after a warm restart: not joined, its counters and the bases of its last grant kept (R11, R309, R322). -/
def stnWarm (q : Stn) : Stn :=
  { missed := q.missed, joins := q.joins, losts := q.losts, unack := q.unack, outBase := q.outBase, inBase := q.inBase }

/-- The bases of a station's last grant, which no later grant repeats (R309). -/
def stnBases (q : Stn) : Stn := { outBase := q.outBase, inBase := q.inBase }

/-- A call group after a warm restart: its counters (R11, R265). -/
def callWarm (x : Call) : Call := { calls := x.calls, escalations := x.escalations }

/-- The state registers of a half after a warm restart, which examines neither (R437, R450). -/
def halfWarm (h : HalfSt) : HalfSt := { h with reason := 0 }

/-- The links after a warm restart: delays measured anew, the ring's paths and stations found anew (R11, R303, R322). -/
def portsWarm (s : State) : State :=
  onFrg (fun r => { r with ports := tmap {} ringPortWarm r.ports, stns := tmap {} stnWarm r.stns, pathLost := false, syncOk := false,
                           inarrLast := 0, inarrMax := 0, outDone := false })
    (onPst (fun p => { p with ports := tmap {} (fun q => { q with delay := 0, injHeld := none }) p.ports }) s)

/-- A plant network port after a warm restart: its counters (R11, R342). -/
def pnPortWarm (q : PnPort) : PnPort := { errFcs := q.errFcs, errLan := q.errLan }

/-- The plant network after a warm restart (R11, R330, R342): no session, no connection, links found anew, NTP not yet heard; the
addresses, the counters and the UTC scale, which the timebase carries on, stay. DEDUCED (log 158). -/
def pnwWarm (p : Pnw) : Pnw :=
  { p with sessions := [], ports := tmap {} pnPortWarm p.ports, pathLost := false, seen := [], mbConns := [], mbExc := 0, utcSync := false,
           utcFirst := true, utcServer := 0, utcLastUs := none, utcMark := false, utcBig := none, polls := 0 }

/-- A reset of class P, B, X or S (R426). -/
def resetCold (c : ResetClass) (s : State) : State :=
  { s with
    img := .blank
    sup := { mode := .start, phase := s.sup.phase, vinWarn := s.sup.vinWarn, vinHigh := s.sup.vinHigh, vbakLow := s.sup.vbakLow,
             rstStuck := s.sup.rstStuck, rstPin := s.sup.rstPin, rstHighAt := s.sup.rstHighAt.map (fun _ => 0),
             vinLow := s.sup.vinLow, warnReset := s.sup.warnReset, stuckDue := s.sup.stuckDue, retentionLost := s.sup.retentionLost,
             lastClass := s.sup.lastClass, lastCause := s.sup.lastCause, noWarn := s.sup.noWarn, rcntP := s.sup.rcntP,
             rcntB := s.sup.rcntB, rcntX := s.sup.rcntX, rcntS := s.sup.rcntS, rtc := s.sup.rtc, rtcAt := 0, rtcSet := s.sup.rtcSet,
             mirrorStarts := s.sup.mirrorStarts, mirrorFails := s.sup.mirrorFails }
    tim := {}
    nibA := laneKept s.nibA
    nibB := laneKept s.nibB
    cyc := { retain := s.cyc.retain, retainModes := s.cyc.retainModes, retainLoops := s.cyc.retainLoops,
             loopLayout := s.cyc.loopLayout, retainDigest := s.cyc.retainDigest, journal := s.cyc.journal }
    cmp := if c = .p then {} else { faultReason := s.cmp.faultReason, faultCell := s.cmp.faultCell }
    lpe := { slots := tmap {} loopKept s.lpe.slots,
             traces := tmap {} (traceKept false) s.lpe.traces }
    fch := { ch := tmap {} chanKept s.fch.ch, grp := tmap {} groupKept s.fch.grp, trims := s.fch.trims, shunt := s.fch.shunt }
    saf := { brkAge := s.saf.brkAge, brkKeys := s.saf.brkKeys }
    alm := { mram := s.alm.mram, duty := s.alm.duty, dead := s.alm.dead, deadEngineer := s.alm.deadEngineer }
    pst := { slot := s.pst.slot, tbInhibit := s.pst.tbInhibit, testp := s.pst.testp, peerLow := s.pst.peerLow }
    frg := { stns := tmap {} stnBases s.frg.stns }
    pnw := { keysIp := s.pnw.keysIp, keysStn := s.pnw.keysStn, keysMask := s.pnw.keysMask, keysGw := s.pnw.keysGw,
             levelKeys := s.pnw.levelKeys, imageKeys := s.pnw.imageKeys }
    evr := evrKept false s.evr
    cvu := { ctx := tmap {} ctxKept s.cvu.ctx }
    mtr := {}
    mtrLanes := {}
    dsp := { dirty := s.dsp.dirty, fast := s.dsp.fast, draft := s.dsp.draft, target := s.dsp.target, glass := s.dsp.glass,
             waves := s.dsp.waves, gamma := s.dsp.gamma, draws := s.dsp.draws }
    boot := { starts := s.boot.starts, fails := s.boot.fails, failDig := s.boot.failDig, failReason := s.boot.failReason } }

/-- A reset of class W (R426, R437): the image, constants, an online change that waits (R88), timebase, latches, points and the
panel are kept. -/
def resetWarm (s : State) : State :=
  let s := portsWarm (clearInjectors (unshedAll s))
  { s with
    sup := { s.sup with holdSec := 0, vinNow := 0, vinMin := 0, vbak := 0 }
    tim := timWarm s.tim
    fch := fchWarm s.fch
    nibA := laneKept s.nibA
    nibB := laneKept s.nibB
    cyc := { evt := s.cyc.evt, code := s.cyc.code, consts := s.cyc.consts, unsaved := s.cyc.unsaved, snapshot := s.cyc.snapshot,
             sched := s.cyc.sched,
             cells := tmap {} (fun x => { mode := x.mode }) s.cyc.cells,
             retain := s.cyc.retain, retainModes := s.cyc.retainModes, retainLoops := s.cyc.retainLoops,
             loopLayout := s.cyc.loopLayout, retainDigest := s.cyc.retainDigest, journal := s.cyc.journal }
    cmp := cmpWarm s.cmp
    lpe := { s.lpe with slots := tmap {} (fun x => { loopKept x with params := x.params, wins := x.wins, mism := x.mism, evt := x.evt }) s.lpe.slots,
                        groups := tmap {} (fun x => { switches := x.switches }) s.lpe.groups,
                        traces := tmap {} (traceKept true) s.lpe.traces, held := false, testDone := false, testPass := false,
                        tickLast := 0, tickMax := 0,
                        transferred := false, firstTransfer := true, handoff := [] }
    saf := { s.saf with slots := tmap {} slotKept s.saf.slots, pairs := tmap {} pairKept s.saf.pairs }
    alm := { s.alm with calls := tmap {} callWarm s.alm.calls, evalLast := 0, evalMax := 0, cmds := [], almN := false }
    pst := { s.pst with stale := 0, absent := 0, staleRun := [], joined := false, applied := none, ready := false, shadow := false,
                        mixed := false, swapDue := false, instep := false, copying := false,
                        joinLeft := [], wantJoin := false, qualCycles := 0, terrLast := 0, terrMax := 0, terrRun := 0, copyLast := 0,
                        copyMax := 0, copyTLast := 0, copyTMax := 0, decided := none, takeoverDue := false, releaseSeen := none,
                        staging := none, joinNeed := none, heard := [], targets := [], carryTags := [], ackCycle := none,
                        requested := false, ackDue := false, lastSent := none, unconfirmed := [] }
    pnw := pnwWarm s.pnw
    evr := evrKept true s.evr
    cvu := { s.cvu with ctx := tmap {} ctxKept s.cvu.ctx }
    dsp := { s.dsp with updLast := 0, updMax := 0, longest := 0 }
    mtr := { s.mtr with lastUs := nowUs s }
    mtrLanes := { s.mtrLanes with lastUs := nowUs s }
    boot := { s.boot with enrolled := false, fallback := false, h0 := halfWarm s.boot.h0, h1 := halfWarm s.boot.h1,
                          runUs := none, survey := [] } }

/-- What internal reset does to the state, by class (R426). -/
def resetState (c : ResetClass) (s : State) : State := if c = .w then resetWarm s else resetCold c s

/-! ### Reset held, and the start allowed (R411, R412, R418 to R420) -/

/-- The RTC at a start: it ran on while the module was in reset or off, for a time that nothing states (log 7); after a loss
it counts from 2000-01-01 (R414). -/
def rtcAtStart (s : State) : State :=
  if s.sup.retentionLost then onSup (fun u => { u with rtc := 0, rtcAt := 0 }) s
  else takeFree (onSup (fun u => { u with rtc := freeVal s, rtcAt := 0 }) s)

/-- Reset released: class and cause in SUP_LAST, the resets of MRAM counted (R417, R427). -/
def beginStart (c : ResetClass) (cause : Byte) (s : State) : State :=
  let s := if c = .w then s else rtcAtStart s
  onSup (fun u => { u with phase := .starting, lastClass := c, lastCause := cause, noWarn := u.noWarn && c == .p,
                           rcntP := if c = .p then inc8 u.rcntP else u.rcntP, rcntB := if c = .b then inc8 u.rcntB else u.rcntB,
                           rcntX := if c = .x then inc8 u.rcntX else u.rcntX, rcntS := if c = .s then inc8 u.rcntS else u.rcntS }) s

/-- Whether a cause holds the module in reset: VIN has not restarted, or RST_N reads low (R418 step 5). -/
def resetHeld (s : State) : Bool := s.sup.vinLow || (s.sup.rstPin && !s.sup.rstStuck)

/-- Internal reset asserted and, while a cause stands, held; the start otherwise (R418 steps 4 to 6). -/
def holdReset (c : ResetClass) (cause : Byte) (s : State) : State :=
  if resetHeld s then onSup (fun u => { u with phase := .reset c cause }) s else beginStart c cause s

/-- The start of a module held in reset, where no cause stands any more. -/
def releaseReset (s : State) : State :=
  match s.sup.phase with
  | .reset c cause => if resetHeld s then s else beginStart c cause s
  | _ => s

/-- FLUSH_COMPLETE: the store and the directory (R348); within a reset entry, internal reset (R418 step 4). -/
def flushComplete (s : State) : State :=
  if !s.evr.flushing then s
  else
    let s := flushDone s
    match s.sup.phase with
    | .entry c cause => holdReset c cause (resetState c s)
    | _ => s

/-- FLUSH_COMPLETE (R348, R418). -/
def execFlushComplete (s : State) : Outcome := .next (flushComplete s)

/-! ### VIN (R406 to R412) -/

/-- VIN_WARNING: the flush starts and the panel aborts; nothing else changes (R408). -/
def vinWarning (v : BitVec 16) (s : State) : State :=
  if s.sup.phase = .off || s.sup.vinWarn then s
  else
    let s := onSup (fun u => { u with vinWarn := true, warnReset := false, evt := setBit u.evt 0 }) (seeVin v s)
    if powered s then panelAbort (startFlush s) else s

/-- VIN_WARNING (R408). -/
def execVinWarning (v : BitVec 16) (s : State) : Outcome := .next (vinWarning v s)

/-- The fourth episode within 60 s (R410). -/
def raiseUnstable (s : State) : State :=
  if decide (episodes60 s ≥ 4) && !s.sup.unstable then
    post 0x0D02 0 [1] (onSup (fun u => { u with unstable := true, evt := setBit u.evt 2 }) s)
  else s

/-- BROWNOUT_EPISODE_END: a warning ends before the reset threshold was declared, in a reset entry too (R409). The mean of VIN now is
open. -/
def episodeEnd (lowest : BitVec 16) (us : Word) (s : State) : State :=
  if !s.sup.vinWarn || s.sup.warnReset || s.sup.phase == .off then s
  else
    let now := nowUs s
    let s := takeFree (onSup (fun u => { u with vinNow := (freeVal s).setWidth 16 }) s)
    let s := onSup (fun u => { u with vinWarn := false, episodes := inc16 u.episodes, evt := setBit u.evt 1,
                                      episodeAt := u.episodeAt.filter (fun t => decide (now < t + 60000000)) ++ [now] }) s
    let s := post 0x0D02 0 [0, lowest.setWidth 32, us] (newCeiling (fun t => { t with boHold := true }) s)
    raiseUnstable (railsUp (panelReissue s))

/-- BROWNOUT_EPISODE_END (R409, R410). -/
def execBrownoutEpisodeEnd (lowest : BitVec 16) (us : Word) (s : State) : Outcome := .next (episodeEnd lowest us s)

/-- SUPPLY_UNSTABLE_END: 60 s without an episode (R410). -/
def execSupplyUnstableEnd (s : State) : Outcome :=
  .next (if episodes60 s = 0 then onSup (fun u => { u with unstable := false }) s else s)

/-- VIN_RESET_THRESHOLD (R411). -/
def vinReset (v : BitVec 16) (s : State) : State :=
  if s.sup.phase = .off then s
  else enterReset .b 0x08 (onSup (fun u => { u with vinLow := true, warnReset := true }) (seeVin v s))

/-- VIN_RESET_THRESHOLD (R411). -/
def execVinResetThreshold (v : BitVec 16) (s : State) : Outcome := .next (vinReset v s)

/-- A flush cut off: a free number of the ring's records reached the store, the directory does not name them, the rest is
lost with the ring (R351, log 7). -/
def cutFlush (s : State) : State :=
  let n := if s.evr.flushing then (freeVal s).toNat % (s.evr.ring.length + 1) else 0
  takeFree (onEvr (fun e => { e with store := keepStore (e.store ++ e.ring.take n), ring := [], dropRun := 0, flushing := false }) s)

/-- INTERNAL_SUPPLIES_STOP: all but the retention domain stops; a reset entry whose flush had not completed makes the next
start one without warning (R406, R411). -/
def suppliesStop (s : State) : State :=
  match s.sup.phase with
  | .off => s
  | .reset _ _ => onSup (fun u => { u with phase := .off, noWarn := false }) (resetCold .p s)
  | _ =>
    let s := cutFlush (endSessions (panelAbort s))
    let s := onSup (fun u => { u with phase := .off, noWarn := true }) (resetCold .p s)
    applyOutputs s

/-- INTERNAL_SUPPLIES_STOP (R406). -/
def execInternalSuppliesStop (s : State) : Outcome := .next (suppliesStop s)

/-- VIN_RESTART: VIN above the restart threshold and 14.5 V for 10 ms; from no supply a start of class P, else the reset that
is held ends (R411, R417). -/
def vinRestart (s : State) : State :=
  let s := onSup (fun u => { u with vinLow := false }) s
  if s.sup.phase = .off then holdReset .p (if s.sup.retentionLost then 0x02 else 0x01) s else releaseReset s

/-- VIN_RESTART (R411). -/
def execVinRestart (s : State) : Outcome := .next (vinRestart s)

/-- VIN_HIGH: above 33.0 V, and its end (R406). -/
def execVinHigh (high : Bool) (v : BitVec 16) (s : State) : Outcome :=
  .next (if s.sup.phase = .off then s
    else onSup (fun u => { u with vinHigh := high, evt := orBit u.evt 6 high }) (seeVin v s))

/-! ### VBAK and retention (R413, R414) -/

/-- VBAK_LOW: VBAK with VIN present, low under 2.2 V (R413). -/
def execVbakLow (mv : BitVec 12) (s : State) : Outcome :=
  .next (if s.sup.phase = .off then s
    else onSup (fun u => { u with vbak := mv, vbakLow := decide (mv < 2200), evt := orBit u.evt 4 (decide (mv < 2200)) }) s)

/-- RETENTION_DOMAIN_LOST: the RTC, its flag and the mirror (R413 to R415). -/
def execRetentionDomainLost (s : State) : Outcome :=
  .next (if s.sup.phase = .off then
    onSup (fun u => { u with retentionLost := true, rtc := 0, rtcSet := false, mirrorStarts := 0, mirrorFails := 0 }) s else s)

/-! ### The reset pin (R419, R420) -/

/-- RESET_PIN_ASSERT: low for 20 ms. A stuck input is ignored until it has read high for 100 ms (R420). -/
def pinLow (s : State) : State :=
  if s.sup.rstPin then s
  else
    let ignored := rstIgnored s
    let s := onSup (fun u => { u with rstPin := true, rstHighAt := none, rstStuck := ignored }) s
    if ignored then s else enterReset .x 0x09 s

/-- RESET_PIN_ASSERT (R419). -/
def execResetPinAssert (s : State) : Outcome := .next (pinLow s)

/-- RESET_PIN_RELEASE: high for 20 ms (R419). -/
def pinHigh (s : State) : State :=
  releaseReset (onSup (fun u => { u with rstPin := false, rstHighAt := if u.rstPin && u.rstStuck then some (nowUs s) else u.rstHighAt }) s)

/-- RESET_PIN_RELEASE (R419). -/
def execResetPinRelease (s : State) : Outcome := .next (pinHigh s)

/-- RESET_INPUT_STUCK: the module, held in reset by its pin alone, starts; the record follows once posting resumes (R420). -/
def pinStuck (s : State) : State :=
  match s.sup.phase with
  | .reset _ _ =>
    if s.sup.rstPin && !s.sup.rstStuck then
      releaseReset (onSup (fun u => { u with rstStuck := true, stuckDue := true, rstHighAt := none, evt := setBit u.evt 3 }) s)
    else s
  | _ => s

/-- RESET_INPUT_STUCK (R420). -/
def execResetInputStuck (s : State) : Outcome := .next (pinStuck s)

/-- JUNCTION_OVERTEMPERATURE: over 115 °C for 100 ms (R465). -/
def execJunctionOvertemperature (deciC : Int) (s : State) : Outcome :=
  .next (if powered s then
    let s := onTim (fun t => { t with tj := deciC }) s
    if deciC > 1150 then selfDiag .overtemperature s else s
  else s)

end Sys2Proof.Machine
end

