-- ==== Sys2Proof/Machine/Flash.lean ====
section
/-! DEFINITION. The configuration flash (R428 to R430), the image and its checks (R431 to R435, and the configuration checks
behind the refused reasons), and the writer (R447 to R449). -/

namespace Sys2Proof.Machine

/-! ### Flash -/

/-- A byte of the flash; an unlisted one is erased (log 5). -/
def flashByte (f : Flash) (a : Nat) : Byte := tget 0xFF f.mem a
/-- `n` bytes from an address. -/
def flashBytes (f : Flash) (a n : Nat) : List Byte := (List.range n).map (fun i => flashByte f (a + i))
/-- Bytes programmed at an address. -/
def flashPut (a : Nat) (bs : List Byte) (f : Flash) : Flash :=
  { f with mem := tputs 0xFF f.mem (bs.zipIdx.map (fun p => (a + p.2, p.1))) }
/-- The 4 KiB sector at an address erased (R428). -/
def eraseSector (a : Nat) (f : Flash) : Flash := { f with mem := f.mem.filter (fun p => decide (p.1 < a) || decide (a + 4096 ≤ p.1)) }

/-- The size of a half in bytes (R429). -/
def halfSize (mbit : Nat) : Nat := mbit * 65536
/-- The address of a half's control block (R429). -/
def ctrlAt (mbit h : Nat) : Nat := h * halfSize mbit + halfSize mbit - 4096
/-- The greatest image of a half (R429). -/
def halfLimit (mbit : Nat) : Nat := min (halfSize mbit - 4096) 16777216

/-- The field of `n` bytes at an offset, as a number. -/
def leAt (l : List Byte) (off n : Nat) : Nat := leNat ((l.drop off).take n)

/-- A control block as read (R430). -/
structure Ctrl where
  valid : Bool
  gen : Nat
  len : Nat
  digest : List Byte

/-- The control block of a half (R430). -/
def readCtrl (f : Flash) (mbit h : Nat) : Ctrl :=
  let l := flashBytes f (ctrlAt mbit h) 52
  let gen := leAt l 4 4
  { valid := leAt l 0 4 = 0x4B435A56 && leAt l 48 4 = (crc32 (l.take 48)).toNat && gen != 0 && gen != 0xFFFFFFFF
    gen := gen, len := leAt l 8 4, digest := (l.drop 16).take 32 }

/-- The bytes of a control block (R430). -/
def ctrlBytes (gen len : Nat) (digest : List Byte) : List Byte :=
  let l := wordsBytes [0x4B435A56, BitVec.ofNat 32 gen, BitVec.ofNat 32 len, 0] ++ digest
  l ++ Word.bytes (crc32 l)

/-! ### The unusable-class checks (R431 to R435) -/

/-- The records after a header: ascending type, each check right, padding zero, nothing after the last (R432). The error
is the reason of R435. -/
def parseRecs : Nat → Nat → List Byte → Except Byte (List (Nat × List Byte))
  | 0, _, l => if l.isEmpty then .ok [] else .error 0x13
  | n + 1, least, l =>
    let typ := leAt l 0 2
    let len := leAt l 4 4
    let size := 8 + (len + 3) / 4 * 4
    if l.length < size + 4 then .error 0x13
    else if leAt l size 4 ≠ (crc32 (l.take size)).toNat || leAt l 2 2 ≠ 0 || typ < least ||
        ((l.take size).drop (8 + len)).any (fun b => b != 0) then .error 0x13
    else if 0xF < typ && typ < 0x8000 || typ = 0 then .error 0x11
    else (parseRecs n (typ + 1) (l.drop (size + 4))).map (fun t => (typ, (l.drop 8).take len) :: t)

/-- A record as it is stored, from its TYPE to the end of its RCHK (R432). -/
def recordBytes (typ : Nat) (data : List Byte) : List Byte :=
  let l := le16 (BitVec.ofNat 16 typ) ++ [0, 0] ++ Word.bytes (BitVec.ofNat 32 data.length) ++ data ++
    List.replicate ((4 - data.length % 4) % 4) 0
  l ++ Word.bytes (crc32 l)

/-- SAF_DIGEST of an image: the CRC-32C running value over its stored SAFETY record, 0 without one (R238). -/
def safetyDigestOf (recs : List (Nat × List Byte)) : Word :=
  match iget recs 7 with
  | some d => crc32c crcInit (recordBytes 7 d)
  | none => 0

/-- An image read from a half: its identity and its settings, of which the Modbus table counts as far as 4 096 entries (R335, log
156), or the unusable-class reason, checked in the order of R435. `cb` is the half's control block; at Commit there is none yet. -/
def readImage (s : State) (f : Flash) (mbit h : Nat) (cb : Option Ctrl) : Except Byte Image :=
  let base := h * halfSize mbit
  let hd := flashBytes f base 64
  let len := leAt hd 8 4
  if leAt hd 0 4 ≠ 0x4D495A56 || leAt hd 60 4 ≠ (crc32 (hd.take 60)).toNat || len < 192 || cb.any (fun c => c.len != len) then .error 0x10
  else if leAt hd 4 2 ≠ 1 then .error 0x11
  else if len > halfLimit mbit then .error 0x12
  else
    let img := flashBytes f base len
    let sig := img.drop (len - 128)
    let pub := sig.take 32
    let dig := (sig.drop 96).take 32
    match parseRecs (leAt hd 12 2) 0 ((img.drop 64).take (len - 192)) with
    | .error e => .error e
    | .ok recs =>
      if !([1, 2, 3, 4, 5].all (fun t => recs.any (fun r => r.1 == t))) then .error 0x13
      else if dig ≠ sha256 (img.take (len - 128)) || cb.any (fun c => c.digest != dig) then .error 0x14
      else if !(ed25519 pub dig ((sig.drop 32).take 64)) || (hd.drop 28).take 8 ≠ (sha256 pub).take 8 then .error 0x15
      else if !s.pnw.imageKeys.isEmpty && !s.pnw.imageKeys.contains pub then .error 0x16
      else if s.id.fw.toNat < leAt hd 16 4 then .error 0x17
      else if leAt hd 6 2 ≠ 0x96 || !((hd.getD 14 0).getLsbD s.pst.slot.toNat) then .error 0x18
      else
        let set := Config.imageSettings (recs.filter (fun r => decide (r.1 < 0x8000)))
        .ok { set with
        net := { set.net with holding := set.net.holding.take 4096, inputs := set.net.inputs.take (4096 - set.net.holding.length) },
        half := h, len := len, digest := BitVec.ofNat 256 (leNat dig), slots := (hd.getD 14 0).setWidth 4,
        chop := (hd.getD 15 0).getLsbD 0, minFw := BitVec.ofNat 32 (leAt hd 16 4), stnId := BitVec.ofNat 16 (leAt hd 24 2), pubkey := pub,
        safetyDigest := safetyDigestOf recs }

/-! ### The configuration checks (R436 step 7) -/

/-- Rounded up to a multiple. -/
def roundUp (n m : Nat) : Nat := (n + m - 1) / m * m

/-- The least cycle in µs that the ring load allows (R315). -/
def ringMinCycle (img : Image) : Nat :=
  let l := (img.ring.stations.map (fun p => 1024 + 3 * max p.2.inLen p.2.outLen)).foldl (· + ·) 0
  max 1000 (roundUp ((400 * 4096 + 50 * l + 4095) / 4096) 250)

/-- The least input deadline in µs that the remote stations allow (R315). -/
def ringMinDeadline (img : Image) : Nat :=
  let ns := (img.ring.stations.map (fun p => (p.2.inLen + 64) * 8)).foldl (· + ·) (30000 + 1000 * img.ring.stations.length)
  max 50 (roundUp ((ns + 999) / 1000) 10)

/-- Cycle parameters (R72, R20, R96, R104, R313, R315). The execute time is the worst case at the floor, the compare 40 µs; when
the last OUTPUT frame can leave is open (log 46). -/
def cycleOk (img : Image) : Bool :=
  let c := img.cycleUs
  let exe := if img.floorA = 0 then 0 else (img.worstOps + img.floorA - 1) / img.floorA
  decide (1000 ≤ c) && decide (c ≤ 1000000) && c % 250 == 0 && decide (50 ≤ img.deadlineUs) && img.deadlineUs % 10 == 0 &&
    img.offsetUs % 10 == 0 && decide (img.offsetUs + 250 ≤ c) && decide (img.deadlineUs + exe + 40 + 100 ≤ img.offsetUs) &&
    img.cells.all (fun x => decide (x.hi - x.lo ≤ 100 * (c - img.offsetUs + img.deadlineUs))) &&
    (img.ring.stations.isEmpty || (decide (ringMinCycle img ≤ c) && decide (ringMinDeadline img ≤ img.deadlineUs) && Config.lastOutputInTime img))

/-- A field within a range. -/
def inRange (lo hi n : Nat) : Bool := decide (lo ≤ n) && decide (n ≤ hi)

/-- One channel's settings (R147). Survey is not the image's to set, and the codes above it are no modes. -/
def chanOk (img : Image) (i : Nat) (c : ChanCfg) : Bool :=
  let f := c.filt.toNat
  match c.mode.toNat with
  | 1 => inRange 1 5000 (if c.safety then f / 65536 else f % 65536)
  | 3 => inRange 500 10000000 (f % 16777216)
  | 8 => c.sub.getLsbD 0 || (inRange 1 1000 (f % 65536) && inRange 1 100 (f / 65536))
  | 0xC => i % 16 != 0 && (tget {} img.channels (i - 1)).mode == 6
  | m => decide (m < 0xD)

/-- Channel configuration (R147). -/
def channelsOk (img : Image) : Bool := img.channels.all (fun p => chanOk img p.1 p.2)

/-- Whether channel n, 1 to 96, is a digital input with SAFETY = 1; 0 names none. -/
def safeInput (img : Image) (n : Nat) : Bool := n == 0 || ((tget {} img.channels (n - 1)).mode == 1 && (tget {} img.channels (n - 1)).safety)

/-- A safety slot of an image: its type, the channels that type calls for, every named input a safety input, no automatic
reset of an emergency stop, T within 10 ms to 2 s (R207, R215, R219). -/
def slotOk (img : Image) (c : SlotCfg) : Bool :=
  decide (c.typ ≤ 4) && (slotInputs c).all (fun p => p.1 != 0) && [c.ch1, c.ch2, c.ch3, c.ch4, c.rst].all (safeInput img) &&
    !(c.typ == 0 && c.auto) && decide (10 ≤ c.tMs) && decide (c.tMs ≤ 2000)

/-- Safety configuration: every slot, and every pair named by one (R207, R208, R219). -/
def safetyOk (img : Image) : Bool :=
  img.slotsCfg.all (fun p => slotOk img p.2) && img.pairsCfg.all (fun p => img.slotsCfg.any (fun c => c.2.pairs.getLsbD p.1))

/-- The code of a pair mode in PST_CFG (R302). -/
def modeCode : PairMode → BitVec 2
  | .single => 0
  | .copy => 1
  | .twin => 2

/-- Pair configuration (R286): the mode that the partner declares, where it is heard; Twin-step in a station of one pair without
remote stations; no single module beside an occupied partner slot; the worst delta within its budget. -/
def pairOk (s : State) (occupied : Bool) (declared : Option (BitVec 2)) (img : Image) : Bool :=
  let own : BitVec 4 := if s.pst.slot < 2 then 3 else 12
  (declared.all (fun m => m == modeCode img.plan.mode)) &&
  (img.plan.mode != .twin || (img.plan.members == own && img.ring.stations.isEmpty)) && !(img.plan.mode == .single && occupied) &&
    decide (img.plan.wcDelta ≤ deltaBudget { s with img := img })

/-- Whether slot k heads its unit: standalone, or the head of its group. -/
def headsUnit (img : Image) (k : Nat) (c : LoopCfg) : Bool :=
  match c.group with
  | none => true
  | some g => (iget img.loopGroups g).any (fun x => x.head == k)

/-- The output channel of a slot's unit; 0 for none (R116). -/
def unitOut (img : Image) (c : LoopCfg) : Nat :=
  match c.group with
  | none => c.outch
  | some g => ((iget img.loopGroups g).map (·.outch)).getD 0

/-- Every output channel that a unit owns. -/
def ownedOuts (img : Image) : List Nat :=
  ((img.loops.filter (fun p => headsUnit img p.1 p.2)).map (fun p => unitOut img p.2)).filter (· != 0)

/-- One loop slot (R116, R117, R126, R130): a member lies in its group's span, and every slot of a span is a member. -/
def loopOk (img : Image) (k : Nat) (c : LoopCfg) : Bool :=
  let ch := unitOut img c
  let cfg := tget {} img.channels (ch - 1)
  let ps := imageParams c
  let limits := fle f0 (ps.getD 4 0) && fle (ps.getD 4 0) (ps.getD 5 0) && fle (ps.getD 5 0) f100
  let outer := (iget img.loops c.outer).any (fun o => c.period != 0 && o.period % c.period == 0 && o.phase % c.period == c.phase % c.period)
  let inGroup := match c.group with
    | none => img.loopGroups.all (fun p => decide (k < p.2.head) || decide (p.2.head + p.2.count ≤ k))
    | some g => (iget img.loopGroups g).any (fun x => decide (x.head ≤ k) && decide (k < x.head + x.count))
  inGroup && (ch == 0 || ((cfg.mode == 9 || cfg.mode == 3) && cfg.loop && countIf (· == ch) (ownedOuts img) == 1)) && limits &&
    c.spSrc != 3 && decide (k < 128) && (c.spSrc != 2 || (decide (c.outer < k) && outer)) &&
    (c.pvbad < 2 || (headsUnit img k c && ch != 0 && cfg.mode == 9))

/-- One competition group (R126). -/
def groupOk (img : Image) (g : Nat) (c : LoopGroupCfg) : Bool :=
  let first := (iget img.loops c.head).getD {}
  decide (g < 32) && inRange 2 8 c.count && (span c.head (c.head + c.count)).all (fun k =>
    (iget img.loops k).any (fun x => x.group == some g && x.period == first.period && x.phase == first.phase))

/-- Loop configuration (R116, R117, R126, R130). -/
def loopsOk (img : Image) : Bool :=
  img.loops.all (fun p => loopOk img p.1 p.2) && img.loopGroups.all (fun p => groupOk img p.1 p.2)

/-- The refused-class reason of step 7; none where the image fits (R436). -/
def configReason (s : State) (occupied : Bool) (declared : Option (BitVec 2)) (img : Image) : Option Byte :=
  if img.chop && !s.id.chopFitted then some 0x20
  else if !cycleOk img then some 0x21
  else if !channelsOk img then some 0x22
  else if !safetyOk img then some 0x23
  else if !pairOk s occupied declared img then some 0x24
  else if imageLedger img > ledgerLimit then some 0x25
  else if !loopsOk img then some 0x29
  else none

/-! ### The writer (R447 to R449) -/

/-- A half's registers changed. -/
def setHalf (h : Nat) (f : HalfSt → HalfSt) (b : Boot) : Boot := if h = 0 then { b with h0 := f b.h0 } else { b with h1 := f b.h1 }
/-- A half's registers. -/
def halfOf (b : Boot) (h : Nat) : HalfSt := if h = 0 then b.h0 else b.h1

/-- The flash changed. -/
def onFlash (f : Flash → Flash) (s : State) : State := { s with flash := s.flash.map f }

/-- Status: image refused, the reason in the body (R333). -/
def stImage : BitVec 16 := 0x000D

/-- Whether the module serves the writer (R447), and the flash answers. -/
def writerServes (s : State) : Bool := (inService s || s.sup.mode == .decaf) && s.boot.flashOk

/-- An IMAGEWR request: admitted at Engineer level, in a state that serves it, naming a half that is not loaded, the
writer free or its own (R447). -/
def imageWrite (r : Req) (h : Fin 2) (k : State → State) (s : State) : State :=
  screenReq r lvEngineer true (fun s =>
    if !writerServes s then reply r stState [] s
    else if (halfOf s.boot h.val).loaded then reply r stRange [] s
    else if s.boot.writer.any (fun w => w.sess != r.sess) then reply r stBusy [] s
    else k s) s

/-- Begin: the control block erased, the writer taken (R447). -/
def writeBegin (r : Req) (h : Nat) (s : State) : State :=
  let s := onFlash (eraseSector (ctrlAt s.boot.flashMbit h)) s
  reply r stOk [] (onBoot (fun b => setHalf h (fun x => { x with valid := false, gen := 0 }) { b with writer := some { sess := r.sess, half := h } }) s)

/-- The sectors from `lo` up to below `hi` of a half erased. -/
def eraseSectors (base lo hi : Nat) (f : Flash) : Flash := (span lo hi).foldl (fun f k => eraseSector (base + 4096 * k) f) f

/-- Data: ascending, within the limit, not while the last segment is being programmed; sectors entered for the first time are
erased (R447). -/
def writeData (r : Req) (h : Nat) (off : Nat) (bs : List Byte) (programming : Bool) (s : State) : State :=
  match s.boot.writer with
  | none => reply r stState [] s
  | some w =>
    if w.half ≠ h then reply r stState [] s
    else if programming then reply r stBusy [] s
    else if bs.length > 1024 || off < w.next || off + bs.length > halfLimit s.boot.flashMbit then reply r stMalformed [] s
    else if bs.isEmpty then reply r stOk (Word.bytes (BitVec.ofNat 32 off)) s
    else
      let base := h * halfSize s.boot.flashMbit
      let lo := max w.erased (off / 4096)
      let hi := (off + bs.length - 1) / 4096 + 1
      let s := onFlash (fun f => flashPut (base + off) bs (eraseSectors base lo hi f)) s
      let w := { w with next := off + bs.length, erased := max w.erased hi, sectors := w.sectors + (hi - lo) }
      reply r stOk (Word.bytes (BitVec.ofNat 32 off)) (onBoot (fun b => { b with writer := some w }) s)

/-- GEN for an image written now: one more than the loaded half's, or 1 (R448). -/
def nextGen (s : State) : Nat := if s.boot.loaded then (halfOf s.boot s.boot.half).gen.toNat + 1 else 1

/-- A control block written to a half. -/
def writeCtrl (h len : Nat) (digest : List Byte) (s : State) : State :=
  let g := nextGen s
  let s := onFlash (fun f => flashPut (ctrlAt s.boot.flashMbit h) (ctrlBytes g len digest) (eraseSector (ctrlAt s.boot.flashMbit h) f)) s
  onBoot (setHalf h (fun x => { x with valid := true, gen := BitVec.ofNat 32 g })) s

/-- Commit: the half read back and checked; a passing image gets its control block and ends the writer (R442, R448). -/
def writeCommit (r : Req) (h : Nat) (s : State) : State :=
  match s.boot.writer, s.flash with
  | some w, some f =>
    if w.half ≠ h then reply r stState [] s
    else match readImage s f s.boot.flashMbit h none with
      | .error e => reply r stImage [e] s
      | .ok img =>
        let s := writeCtrl h img.len ((List.range 32).map (fun i => (img.digest >>> (8 * i)).setWidth 8)) s
        reply r stOk [] (onBoot (fun b => { b with writer := none, evt := setBit b.evt 3, commitDue := b.commitDue || s.sup.mode == .decaf }) s)
  | _, _ => reply r stState [] s

/-- Abort (R447). -/
def writeAbort (r : Req) (h : Nat) (s : State) : State :=
  if s.boot.writer.any (fun w => w.half == h) then reply r stOk [] (endWriter s) else reply r stState [] s

/-- IMAGE_WRITE_BEGIN (R447). -/
def execImageWriteBegin (r : Req) (h : Fin 2) (s : State) : Outcome := .next (imageWrite r h (writeBegin r h.val) s)
/-- IMAGE_WRITE_DATA (R447). -/
def execImageWriteData (r : Req) (h : Fin 2) (off : Word) (bs : List Byte) (programming : Bool) (s : State) : Outcome :=
  .next (imageWrite r h (writeData r h.val off.toNat bs programming) s)
/-- IMAGE_WRITE_COMMIT (R448). -/
def execImageWriteCommit (r : Req) (h : Fin 2) (s : State) : Outcome := .next (imageWrite r h (writeCommit r h.val) s)
/-- IMAGE_WRITE_ABORT (R447). -/
def execImageWriteAbort (r : Req) (h : Fin 2) (s : State) : Outcome := .next (imageWrite r h (writeAbort r h.val) s)

/-- COMMIT_RESTART: 100 ms after a commit answered in Decaf (R442). -/
def execCommitRestart (s : State) : Outcome :=
  .next (if s.boot.commitDue && s.sup.mode == .decaf then enterReset .s 0x13 s else s)

/-- RESTART_OTHER_IMAGE_HALF: the other half's control block rewritten with a higher GEN, then a reset of class S (R449). -/
def restartOther (r : Req) (s : State) : State :=
  let h := 1 - s.boot.half
  match s.flash with
  | some f =>
    let cb := readCtrl f s.boot.flashMbit h
    if s.boot.flashOk && s.boot.loaded && cb.valid then
      let decaf := s.sup.mode == .decaf
      enterReset .s (if decaf then 0x13 else 0x11) (reply r stOk [] (writeCtrl h cb.len cb.digest s))
    else reply r stState [] s
  | none => reply r stState [] s

/-- RESTART_OTHER_IMAGE_HALF (R449). -/
def execRestartOtherImageHalf (r : Req) (s : State) : Outcome := .next (screenReq r lvEngineer true (restartOther r) s)

end Sys2Proof.Machine
end

