-- ==== Sys2Proof/Machine/Start.lean ====
section
/-! DEFINITION. The start sequences (R436, R437), failed starts and Decaf (R438 to R443). -/

namespace Sys2Proof.Machine

/-! ### Step 1: start counter, Inkwell (R351, R415) -/

/-- The start counter reconciled with its mirror, and this start counted (R415). -/
def countStart (s : State) : State :=
  let valid := !s.sup.retentionLost
  let st := if valid && decide (s.boot.starts < s.sup.mirrorStarts) then s.sup.mirrorStarts else s.boot.starts
  let fl := if valid && decide (s.boot.fails < s.sup.mirrorFails) then s.sup.mirrorFails else s.boot.fails
  let diff := valid && (s.boot.starts != s.sup.mirrorStarts || s.boot.fails != s.sup.mirrorFails)
  { s with boot := { s.boot with starts := st + 1, fails := fl },
           sup := { s.sup with mirrorStarts := st + 1, mirrorFails := fl, mirrorOkShown := valid, mirrorDiff := diff,
                               rtcValidShown := s.sup.rtcSet, retentionLost := false,
                               evt := orBit s.sup.evt 5 s.sup.retentionLost } }

/-- Posting resumes; the records that went with the ring are counted and posted (R351), then the records that a full ring
had dropped (R350). -/
def resumeInkwell (s : State) : State :=
  let e := s.evr
  let first := (e.store.getLast?.map (fun r => r.seq + 1)).getD 0
  let n := e.next - first
  let s := onEvr (fun e => { e with running := true, dropRun := 0,
                                    dirSeq := (e.store.getLast?.map (·.seq)).orElse (fun _ => e.dirSeq) }) s
  let s := if n = 0 then s
    else
      let sum := e.lost.toNat + n.toNat
      post 0x0001 0 [n, first] (onEvr (fun e => { e with lossPoint := true, evt := setBit e.evt 0,
                                                         lost := if sum > 0xFFFFFFFF then 0xFFFFFFFF else e.lost + n }) s)
  let s := if e.dropRun = 0 then s
    else post 0x0001 0 [BitVec.ofNat 32 e.dropRun, e.next] (onEvr (fun e => { e with lossPoint := true }) s)
  onEvr (fun e => { e with lanes := freshCursor e }) s

/-- "Restart" with the class and the start counter, the groups in maintenance (R182), and "reset input stuck" where the start
was made past the pin (R420, R437). -/
def postRestart (s : State) : State :=
  let s := post 0x0D01 0 [BitVec.ofNat 32 (classCode s.sup.lastClass), s.boot.starts] s
  let s := forEach ((List.range 6).filter (fun g => (grp s g).maint)) (fun g s => post 0x0604 (g + 1) [2] s) s
  if s.sup.stuckDue then post 0x0D03 0 [] (onSup (fun u => { u with stuckDue := false }) s) else s

/-- Step 1 of a start. -/
def startStep1 (s : State) : State :=
  let s := onSup (fun u => { u with vinWarn := false, warnReset := false }) s
  let s := onBoot (fun b => { b with startUs := nowUs s }) s
  postRestart (resumeInkwell (utcFromRtc (countStart s)))

/-! ### Step 2: trims, addresses, time, the retain journal (R190, R325, R339, R423) -/

/-- A trim record that fails its check: no trim until one is stored again, TRIM_BAD set (R190, R202). -/
def badTrim (i : Nat) (s : State) : State :=
  post 0x0605 (i + 1) [2] (setChan i (fun c => { c with levt := setBit c.levt 4 })
    (onFch (fun f => { f with trims := tmod {} f.trims i (fun t => { t with bad := true }) }) s))

/-- The stored address, or a link-local one (R325). -/
def storedAddress (s : State) : State :=
  if s.pnw.keysIp = 0 then takeLinkLocal s
  else onPnw (fun p => { p with ip := p.keysIp, stnIp := p.keysStn, mask := p.keysMask, gw := p.keysGw, linkLocal := false }) s

/-- The plant network ports as they come up (R324). -/
def portsUp (l : List (Option (BitVec 2))) (s : State) : State :=
  forEach (l.take 2).zipIdx (fun p s => setPnPort p.2 (fun x => match p.1 with
    | some v => { x with link := true, path := true, speed := v }
    | none => x) s) s

/-- Step 2 of a start, with the straps of R266 and what the nets and the network read. -/
def startStep2 (env : StartEnv) (s : State) : State :=
  let s := onPst (fun p => { p with slot := env.strap, peerLow := env.peerLow }) s
  let s := forEach env.trimsBad (fun i s => badTrim i.val s) s
  let s := portsUp env.pnSpeeds (storedAddress s)
  let had := s.cyc.journal.isSome
  onSup (fun u => { u with replayed := had }) (applyJournal s)

/-! ### Decaf (R441, R443) -/

/-- The field groups as the group controllers report them first (R174, R436 step 10). -/
def groupsUp (levels : List (Fin 6 × SupplyEvent)) (s : State) : State :=
  forEach levels (fun p s => supplyChange p.1.val p.2 (grp s p.1.val).volt (grp s p.1.val).current s) s

/-- Decaf entered: no setting of an image is used; only its identity stays (R441). A module without an image is blank (R443), and
takes a link-local address whatever is stored (R325). -/
def enterDecaf (blank : Bool) (reason : Byte) (env : StartEnv) (s : State) : State :=
  let i := s.img
  let s : State := { s with img := { half := i.half, len := i.len, digest := i.digest, stnId := i.stnId, pubkey := i.pubkey } }
  let s := onSup (fun u => { u with mode := .decaf, phase := .up, blank := blank }) s
  let s := onBoot (fun b => { b with decaf := reason, reason := reason, reasonHalf := if blank then b.reasonHalf else i.half, evt := setBit b.evt 2 }) s
  let s := groupsUp env.groupLevels (post 0x0D05 0 [reason.setWidth 32] s)
  let s := if blank && !s.pnw.linkLocal then takeLinkLocal s else s
  panelDraw (panelArea s.dsp) .other (requalAll allChans (applyOutputs s))

/-- A failed start: another reset, or Decaf at the third (R439). -/
def failStart (reason : Byte) (env : StartEnv) (s : State) : State :=
  let s := countFailure reason [] s
  if s.boot.fails = 3 then enterDecaf false reason env s else enterReset .s 0x12 s

/-! ### Steps 3 to 6: the flash, a half, the image, the keys (R428, R434, R435, R440) -/

/-- A half refused as unusable: its reason, the record, BOOT_REASON (R435). -/
def refuseHalf (h : Nat) (e : Byte) (s : State) : State :=
  let s := onBoot (fun b => setHalf h (fun x => { x with reason := e }) { b with reason := e, reasonHalf := h, evt := setBit b.evt 1 }) s
  post 0x0D04 0 [e.setWidth 32, BitVec.ofNat 32 h] s

/-- The halves in the order of R435: valid control blocks, the higher GEN first, half 0 where they are equal. -/
def halfOrder (c0 c1 : Ctrl) : List (Nat × Ctrl) :=
  ((if c0.gen < c1.gen then [(1, c1), (0, c0)] else [(0, c0), (1, c1)]) : List (Nat × Ctrl)).filter (fun p => p.2.valid)

/-- The first half of a list whose image is usable, the others refused. -/
def selectHalf (readOk : Bool) (f : Flash) (mbit : Nat) : List (Nat × Ctrl) → State → Option Image × State
  | [], s => (none, s)
  | (h, c) :: t, s =>
    match (if readOk then readImage s f mbit h (some c) else .error 0x19) with
    | .ok img => (some img, s)
    | .error e => selectHalf readOk f mbit t (refuseHalf h e s)

/-- The selected image loaded: its half, keys enrolled where the store held none, four at most (log 172), its digest against
FAILDIG (R434, R440). -/
def loadImage (img : Image) (fallback : Bool) (s : State) : State :=
  let enrol := s.pnw.imageKeys.isEmpty
  let s : State := { s with img := img }
  let s := onBoot (fun b => setHalf img.half (fun x => { x with loaded := true })
    { b with half := img.half, loaded := true, enrolled := enrol, fallback := fallback, evt := orBit b.evt 0 fallback }) s
  let s := if enrol then onPnw (fun p => { p with imageKeys := (img.pubkey :: img.keysRec.getD []).eraseDups.take 4 }) s else s
  let s := onPst (fun p => { p with member := img.plan.mode != .single }) s
  if img.digest = s.boot.failDig then s else setFails 0 s

/-! ### Steps 8 and 9: speed floors and self-tests (R32, R105, R137) -/

/-- Whether a gauge reading, derated to 105 °C by the coefficient in 0.01 %/K, lies below a floor (R32). -/
def belowFloor (tc reading floor : Nat) (tjDeciC : Int) : Bool :=
  let k : Int := if tjDeciC ≥ 1050 then 100000 else 100000 - tc * (1050 - tjDeciC)
  decide ((reading : Int) * k < floor * 100000)

/-- Step 8: the coefficient's record, and the readings at the lowest voltage (R32). -/
def speedStep (env : StartEnv) (s : State) : State :=
  let s := if env.gaugeRecordOk then s else post 0x0605 0 [2] s
  onTim (fun t => { t with gaugeA := BitVec.ofNat 10 env.gaugeA, gaugeB := BitVec.ofNat 10 env.gaugeB, gauged := true, lowA := BitVec.ofNat 10 env.gaugeA,
                           lowB := BitVec.ofNat 10 env.gaugeB, tj := env.tjDeciC, vcore := BitVec.ofNat 10 s.img.vminMv }) s

/-- The core at the unshed voltage, once both readings pass (R32). -/
def raiseCore (s : State) : State := onTim (fun t => { t with vcore := BitVec.ofNat 10 s.img.vunshedMv }) s

/-- Whether the speed floors are unreachable (R32). -/
def floorBad (env : StartEnv) (s : State) : Bool :=
  let tc := if env.gaugeRecordOk then s.id.gaugeTc else 50
  belowFloor tc env.gaugeA s.img.floorA env.tjDeciC || belowFloor tc env.gaugeB s.img.floorB env.tjDeciC

/-- Step 9: both tests recorded (R105, R137). -/
def selfTests (env : StartEnv) (s : State) : State :=
  onLpe (fun l => { l with testDone := true, testPass := decide (env.loopMisses = 0) }) (recordTest env.cmpTest s)

/-! ### Step 10: memories, channels, retain, alarms (R86, R131, R140, R207, R250, R424) -/

/-- A lane's declared words from the image: variables and constants; the rest of data memory stays (R86, R87). -/
def reloadData (img : Image) (consts : Bool) (x : LaneSt) : LaneSt :=
  let keep (p : Nat × Word) : Bool :=
    !(decide (img.varLo ≤ p.1) && decide (p.1 < img.varHi)) && !(consts && decide (img.constLo ≤ p.1) && decide (p.1 < img.constHi))
  let isC (a : Nat) : Bool := decide (img.constLo ≤ a) && decide (a < img.constHi)
  { x with data := tputs 0 (x.data.filter keep) (img.init.filter (fun p => consts || !isC p.1)), outs := tputs 0 [] img.outInit }

/-- Both lanes' declared words and the output image at their initial values (R86). -/
def reloadLanes (consts : Bool) (s : State) : State :=
  let s : State := { s with nibA := reloadData s.img consts s.nibA, nibB := reloadData s.img consts s.nibB }
  onCyc (fun c => { c with outImg := tputs 0 [] s.img.outInit, released := tputs 0 [] s.img.outInit }) s

/-- Retain words from the store into both lanes (R55, R423). -/
def retainWords (s : State) : State :=
  let vals := s.img.retain.map (fun t => (t, tget 0 s.cyc.retain t))
  { s with nibA := { s.nibA with data := tputs 0 s.nibA.data vals }, nibB := { s.nibB with data := tputs 0 s.nibB.data vals } }

/-- The loop slot layout of the image: every slot with its group, its channels and its sample instants (R122, log 48). -/
def loopLayoutOf (s : State) : List (List Nat) :=
  s.img.loops.map (fun p => [p.1, p.2.group.elim 0 (· + 1), p.2.pvch, outChan s p.1, p.2.period, p.2.phase])

/-- A loop slot's mode and manual value at the image's initial values. -/
def loopInitial (p : Nat × LoopCfg) (s : State) : State := setLoop p.1 (fun x => { x with mode := p.2.mode, man := initialMan p.2 }) s

/-- Loop modes and manual values from the store, or from the image where the slot layout differs from the previous image's
(R122). -/
def loopsAtStart (s : State) : State :=
  let l := loopLayoutOf s
  let s := if s.cyc.loopLayout = l then
      forEach s.img.loops (fun p s => match iget s.cyc.retainLoops p.1 with
        | some v => setLoop p.1 (fun x => { x with mode := v.1, man := v.2 }) s
        | none => loopInitial p s) s
    else forEach s.img.loops loopInitial s
  onCyc (fun c => { c with loopLayout := l }) s

/-- Retain variables and cell modes from the store, or from the image where the layout digest differs or the store's check
fails; loop modes and manual values with them (R122, R424). -/
def retainAtStart (storeOk : Bool) (s : State) : State :=
  if storeOk && s.cyc.retainDigest == s.img.retainDigest then
    loopsAtStart (forEach (List.range s.img.cells.length)
      (fun n s => setCell n (fun c => { c with mode := tget 0 s.cyc.retainModes n }) s) (retainWords s))
  else
    let s := onSup (fun u => { u with cleared := true }) (clearRetain s)
    let l := loopLayoutOf s
    onCyc (fun c => { c with retainDigest := s.img.retainDigest, loopLayout := l }) s

/-- The first conversion of every input (R436 step 10, R437 step 4): digital inputs that read on, analogue quantities; outputs
and pulse counts have a value at once. -/
def firstValues (env : StartEnv) (s : State) : State :=
  let s := forEach allChans (fun i s =>
    let m := chanMode s i
    if m = 1 then
      let on := env.onInputs.any (fun c => c.val == i)
      let n := if on then (chanCfg s i).filt.toNat / 65536 else 0
      inputState i on on (setChan i (fun c => { c with cnt := n, qcnt := n, qfilt := on, qAt := nowUs s }) s)
    else if isOutput m || (m = 8 && (chanCfg s i).sub.getLsbD 0) then setChan i (fun c => { c with hasValue := true }) s
    else s) s
  let s := forEach env.firstMeas (fun p s => requal p.1.val (convert p.1.val p.2 s)) s
  requalAll allChans s

/-- Trace channels as the image configures them (R140, R143). -/
def tracesAtStart (s : State) : State :=
  onLpe (fun l => { l with traces := tputs {} [] ((List.range 16).map (fun j =>
    let c := (iget s.img.traces j).getD {}
    let old := tget {} l.traces j
    (j, if (iget s.img.traces j).isSome then { old with cfg := c.cfg, trig := c.trig, level := c.level } else old))) }) s

/-- The MAINT latch of every pair of a group in maintenance, which a restart leaves there (R181, R182, R229). -/
def maintLatches (s : State) : State :=
  forEach ((List.range 6).filter (fun g => (grp s g).maint)) (fun g s => latchPairs (pairsIn s g) (fun p => { p with maint := true }) s) s

/-- Every slot Demanded, its start-up test outstanding where it has one (R211, R216); the pairs of groups in maintenance
latched. -/
def slotsAtStart (s : State) : State :=
  maintLatches (forEach s.img.slotsCfg (fun p s => setSlot p.1 (fun x => { x with st := .demanded, startupPend := p.2.startup }) s) s)

/-- What an image gives a brake slot whose change calls for a brake test: its pairs and channels (R234). -/
def brakeKey (p : Nat × SlotCfg) : List Nat := [p.1, p.2.pairs.toNat, p.2.ch1, p.2.ch2, p.2.ch3, p.2.ch4]

/-- The brake slots of the image: one whose pairs or channels the previous image did not give it is overdue (R234). -/
def brakesAtStart (s : State) : State :=
  let bs := s.img.slotsCfg.filter (fun p => p.2.typ == 4)
  let new := bs.filter (fun p => !s.saf.brkKeys.contains (brakeKey p))
  onSaf (fun f => { f with brkKeys := bs.map brakeKey,
                           brkAge := tputs 0 f.brkAge (new.map (fun p => (p.1, 60 * (p.2.interval + p.2.grace)))) }) s

/-- The image's addresses and level keys, kept from now on (R325, R329). -/
def imageAddresses (s : State) : State :=
  let n := s.img.net
  let s := onPnw (fun p => { p with levelKeys := n.keys }) s
  if n.ip = 0 then s
  else onPnw (fun p => { p with ip := n.ip, stnIp := n.stnIp, mask := n.mask, gw := n.gw, linkLocal := false,
                                keysIp := n.ip, keysStn := n.stnIp, keysMask := n.mask, keysGw := n.gw }) s

/-- Steps 10 and 11. -/
def prepare (env : StartEnv) (s : State) : State :=
  let s := reloadLanes true (onCyc (fun c => { c with code := tputs 0 [] s.img.code }) s)
  let s := tracesAtStart (brakesAtStart (slotsAtStart (retainAtStart env.storeOk s)))
  let s := setDsp (fun d => { d with fl := BitVec.ofNat 7 s.img.panel.fl }) (imageAddresses s)
  let s := firstValues env (groupsUp env.groupLevels s)
  let s := deadAtStart (pointsAtStart s)
  onPst (fun p => { p with offsetNs := env.markNs.getD 0 }) s

/-! ### Step 12: the role (R272) -/

/-- A pair member whose peer net reads high waits; any other module waits only for its first T0. -/
def roleStep (s : State) : State :=
  if s.pst.member && !s.pst.peerLow then onSup (fun u => { u with phase := .roleWait }) s
  else onSup (fun u => { u with phase := .waitT0 })
    (onPst (fun p => { p with decided := if p.member then some .standby else none }) s)

/-! ### The sequences -/

/-- Steps 6 to 12 on the image of a half. -/
def startWith (env : StartEnv) (s : State) : State :=
  if s.boot.fails = 3 && s.img.digest = s.boot.failDig then enterDecaf false s.boot.failReason env s
  else match configReason s env.partnerOccupied env.partnerMode s.img with
    | some e => failStart e env s
    | none =>
      let s := speedStep env s
      if floorBad env s then failStart 0x26 env s
      else
        let s := selfTests env (raiseCore s)
        if !testPasses env.cmpTest then failStart 0x27 env s
        else if env.loopMisses ≠ 0 then failStart 0x28 env s
        else roleStep (prepare env s)

/-- No usable image, or no flash: Decaf with BLANK = 1, not a failed start (R435, R443). -/
def goBlank (reason : Byte) (env : StartEnv) (s : State) : State := enterDecaf true reason env s

/-- START_SEQUENCE: steps 1 to 12 (R436). -/
def startSequence (env : StartEnv) (s : State) : State :=
  if !(s.sup.phase == .starting && s.sup.lastClass != .w) then s
  else
    let s := startStep2 env (startStep1 s)
    match s.flash with
    | none => goBlank 0x01 env s
    | some f =>
      let m := env.flashMbit
      if !(env.flashAnswers && decide (64 ≤ m) && decide (m ≤ 512)) then goBlank 0x01 env s
      else
        let c0 := readCtrl f m 0
        let c1 := readCtrl f m 1
        let s := onBoot (fun b => { b with flashOk := true, flashMbit := m, flashJedec := env.flashJedec,
                                           h0 := { valid := c0.valid, gen := if c0.valid then BitVec.ofNat 32 c0.gen else 0 },
                                           h1 := { valid := c1.valid, gen := if c1.valid then BitVec.ofNat 32 c1.gen else 0 } }) s
        let order := halfOrder c0 c1
        match selectHalf env.flashReadOk f m order s with
        | (none, s) => goBlank 0x02 env s
        | (some img, s) => startWith env (loadImage img (order.head?.any (fun p => p.1 != img.half)) s)

/-- START_SEQUENCE (R436). -/
def execStartSequence (env : StartEnv) (s : State) : Outcome := .next (startSequence env s)

/-- WARM_START_SEQUENCE: DATA read again, both tests, fresh conversions, the role wait; what fails ends in a reset of class S
with cause 0x10 (R437). -/
def warmStart (env : StartEnv) (s : State) : State :=
  if !(s.sup.phase == .starting && s.sup.lastClass == .w) then s
  else
    let s := postRestart (resumeInkwell s)
    if !env.flashReadOk then enterReset .s 0x10 s
    else
      let s := raiseCore (onTim (fun t => { t with tj := env.tjDeciC }) s)
      let s := selfTests env (retainWords (reloadLanes false (applyJournal s)))
      if !testPasses env.cmpTest || env.loopMisses ≠ 0 then enterReset .s 0x10 s
      else roleStep (firstValues env (slotsAtStart (portsUp env.pnSpeeds (onPst (fun p => { p with peerLow := env.peerLow }) s))))

/-- WARM_START_SEQUENCE (R437). -/
def execWarmStartSequence (env : StartEnv) (s : State) : Outcome := .next (warmStart env s)

/-- Nothing measured: what a start that fails without its sequence enters Decaf with. -/
def noEnv : StartEnv :=
  { strap := 0, flashAnswers := false, flashReadOk := false, flashMbit := 0, flashJedec := 0, gaugeA := 0, gaugeB := 0, tjDeciC := 0,
    cmpTest := { dead := 0, unequal := 0, dur := 0 }, loopMisses := 0, partnerOccupied := false, peerLow := false, markNs := none,
    gaugeRecordOk := true, trimsBad := [], groupLevels := [], onInputs := [], firstMeas := [], storeOk := true, pnSpeeds := [] }

/-- RUN_NOT_REACHED: 30 s after the moment of R412; a warm restart neither fails nor counts (R438). -/
def execRunNotReached (s : State) : Outcome :=
  .next (if (s.sup.phase = .starting || s.sup.phase = .roleWait || s.sup.phase = .waitT0) && s.sup.lastClass != .w
    then failStart 0x30 noEnv s else s)

/-- FAIL_COUNT_CLEAR: 600 s without leaving Run, Commissioning or Hold (R439). -/
def execFailCountClear (s : State) : Outcome :=
  .next (if inService s then onBoot (fun b => { b with failDig := 0 }) (setFails 0 s) else s)

/-! ### The survey (R444 to R446) -/

/-- The class that a measurement gives (R444). Under a driving partner the classes that need a test current are not given
(R446). -/
def surveyClass (partnerLow : Bool) (m : SurveyMeas) : BitVec 4 :=
  let volt := decide (10000 ≤ m.aMilliVolt) && decide (m.aMilliVolt ≤ 32000)
  let k : BitVec 4 :=
    if volt && decide (m.fallMilliVolt < 500) then 2
    else if volt && decide (m.fallMilliVolt > 2000) && decide (3000 ≤ m.loopMicroAmp) && decide (m.loopMicroAmp ≤ 23000) then 3
    else if m.alternates || (decide (m.milliOhm < 10000) && decide (m.abMicroVolt.natAbs < 200)) then 1
    else if decide (m.milliOhm < 60000) && m.steady && decide (-10000 ≤ m.abMicroVolt) && decide (m.abMicroVolt ≤ 80000) &&
        decide (200 ≤ m.abMicroVolt.natAbs) then 6
    else if decide (60000 ≤ m.milliOhm) && decide (m.milliOhm ≤ 250000) then 4
    else if decide (600000 ≤ m.milliOhm) && decide (m.milliOhm ≤ 2500000) then 5
    else if decide (m.aMilliVolt.natAbs ≤ 500) && decide (m.milliOhm > 1000000000) then 0
    else 7
  if partnerLow && (k == 1 || k == 4 || k == 5 || k == 6) then 7 else k

/-- The value of a class in its unit (R444). An unknown load shows V where it has a voltage above 0.5 V, Ω otherwise
(log 45). -/
def surveyValue (k : BitVec 4) (m : SurveyMeas) : Word :=
  match k.toNat with
  | 1 => if m.milliOhm < 10000 then f1 else f0
  | 2 => fofRatio m.aMilliVolt 1000
  | 3 => fofRatio m.loopMicroAmp 1000
  | 4 => fofRatio m.milliOhm 1000
  | 5 => fofRatio m.milliOhm 1000
  | 6 => fofRatio m.abMicroVolt 1000
  | 7 => if m.aMilliVolt.natAbs > 500 then fofRatio m.aMilliVolt 1000 else fofRatio m.milliOhm 1000
  | _ => f0

/-- A new class taken, with the first value seen in it. -/
def takeClass (k : BitVec 4) (m : SurveyMeas) (x : Survey) : Survey :=
  { x with cls := k, cand := k, agree := 0, value := surveyValue k m, seen := some (surveyValue k m), off10 := 0, changedUs := none,
           state := none, almValue := false }

/-- A measurement on a channel's class: three that agree classify, ten of another class reclassify, and a loop above 23.0 mA
is unknown at once (R444). -/
def classStep (k : BitVec 4) (m : SurveyMeas) (x : Survey) : Survey :=
  if x.cls = 3 && decide (m.loopMicroAmp > 23000) then takeClass 7 m x
  else if k = x.cls then { x with cand := k, agree := 0, value := surveyValue k m }
  else
    let n := if k = x.cand then x.agree + 1 else 1
    if n ≥ (if x.cls = 0xF then 3 else 10) then takeClass k m x else { x with cand := k, agree := n }

/-- Whether a value differs by more than 10 % from another (R445). -/
def off10 (v seen : Word) : Bool :=
  match exact true false v, exact true false seen with
  | some a, some b => xlt (xabs b) (10 * (xabs (xsub a b)).1, (xabs (xsub a b)).2)
  | _, _ => false

/-- The survey alarm on the value: three measurements in a row (R445). -/
def valueStep (x : Survey) : Survey :=
  let n := if x.cls != 0xF && x.seen.any (off10 x.value) then x.off10 + 1 else 0
  { x with off10 := n, almValue := decide (n ≥ 3) }

/-- The conditions behind the quality of a survey channel (R445). A thermocouple's break is the test's of R169. -/
def surveyQual (k : BitVec 4) (m : SurveyMeas) (c : Chan) : Chan :=
  match k.toNat with
  | 3 => maBands true false m.loopMicroAmp c
  | 4 => { clearMeas c with qOpen := decide (m.milliOhm > 4000000) }
  | 5 => { clearMeas c with qOpen := decide (m.milliOhm > 40000000) }
  | 6 => c
  | _ => clearMeas c

/-- A channel's survey state. -/
def surveyOf (s : State) (i : Nat) : Survey := tget {} s.boot.survey i
/-- A channel's survey state changed. -/
def setSurvey (i : Nat) (f : Survey → Survey) (s : State) : State := onBoot (fun b => { b with survey := tmod {} b.survey i f }) s

/-- What the grid shows of a channel: class and survey alarm (R445). -/
def surveyShown (s : State) (i : Nat) : BitVec 4 × Bool :=
  let x := surveyOf s i
  (x.cls, x.almState || x.almQual || x.almValue)

/-- The alarms of state and quality looked at again, and the grid redrawn where it changes (R391, R441, R445). -/
def surveyAlarms (i : Nat) (before : BitVec 4 × Bool) (s : State) : State :=
  let s := requal i s
  let q := qualCode s i
  let now := nowUs s
  let s := setSurvey i (fun x => { x with almState := x.changedUs.any (fun t => decide (now < t + 60000000)),
                                          almQual := x.cls != 0xF && (q == 4 || (x.cls == 3 && (q == 6 || q == 7))) }) s
  if surveyShown s i = before then s
  else alarmRedraw s

/-- SURVEY_MEASUREMENT: class, value, quality and alarms of a channel; a frozen one is left as it is (R444 to R446). -/
def surveyMeasure (i : Nat) (m : SurveyMeas) (s : State) : State :=
  if !surveying s || (chan s i).frozen then s
  else
    let before := surveyShown s i
    let s := setSurvey i (fun x => valueStep (classStep (surveyClass s.pst.peerLow m) m x)) s
    let k := (surveyOf s i).cls
    let s := setChan i (fun c => { c with hasValue := k != 0xF }) (setLive i (k.setWidth 32) (setChan i (surveyQual k m) s))
    surveyAlarms i before s

/-- SURVEY_MEASUREMENT (R444). -/
def execSurveyMeasurement (ch : Fin 96) (m : SurveyMeas) (s : State) : Outcome := .next (surveyMeasure ch.val m s)

/-- SURVEY_FAST_SAMPLE: a dry contact's or powered signal's state; a change raises the alarm for 60 s (R445). -/
def surveySample (i : Nat) (on : Bool) (s : State) : State :=
  let x := surveyOf s i
  if !surveying s || (chan s i).frozen || !(x.cls == 1 || x.cls == 2) then s
  else
    let now := nowUs s
    let before := surveyShown s i
    let s := setSurvey i (fun x => { x with changedUs := if x.state = some (!on) then some now else x.changedUs, state := some on,
                                            value := if x.cls = 1 then (if on then f1 else f0) else x.value }) s
    surveyAlarms i before s

/-- SURVEY_FAST_SAMPLE (R445). -/
def execSurveyFastSample (ch : Fin 96) (on : Bool) (s : State) : Outcome := .next (surveySample ch.val on s)

end Sys2Proof.Machine
end

