-- ==== Sys2Proof/Machine/Chop.lean ====
section
/-! DEFINITION. The Chop (R371 to R386): quadrature decoding and faults, totals, grades, the export and its reception, the
verifier's switch and port. -/

namespace Sys2Proof.Machine

/-! ### Running -/

/-- Whether the Chop is there and powered (R371, R372). -/
def chopRuns (s : State) : Bool := s.id.chopFitted && s.chop.on
/-- Whether it totalises (R383). -/
def chopCounts (s : State) : Bool := chopRuns s && !s.chop.romFault && !s.chop.paramFault

/-- A port's parameters. -/
def portPar (s : State) (m : Nat) : ChopPortPar := s.chop.ports.getD m {}
/-- A port's measuring state. -/
def meter (s : State) (m : Nat) : Meter := tget {} s.chop.meters m
/-- A port's measuring state changed. -/
def setMeter (m : Nat) (f : Meter → Meter) (s : State) : State := onChop (fun c => { c with meters := tmod {} c.meters m f }) s

/-- What survives a power-off of a port: totals with their fractions, the counters and the backflow balance (R372, R377). -/
def meterKept (x : Meter) : Meter :=
  { errors := x.errors, faults := x.faults, back := x.back, ftot := x.ftot, utot := x.utot, gtot := x.gtot, ffrac := x.ffrac,
    ufrac := x.ufrac, gfrac := x.gfrac }

/-- The parameter set in force: the first copy. -/
def firstCopy (c : Chop) : ChopPars := { ports := c.ports, grades := c.grades, key := c.key }

/-- A bad copy of the parameter set repaired from the good one; two bad ones stay as they are (R383). -/
def repairCopies (a b : Bool) (c : Chop) : Chop :=
  if a then (if b then c else { c with second := firstCopy c })
  else if b then { c with ports := c.second.ports, grades := c.second.grades, key := c.second.key }
  else c

/-- CHOP_POWER_ON: the check value over the ROM compared with the one it holds, the copies of the parameter set checked and repaired,
the power-on counted (R377, R383). -/
def chopPowerOn (rom : Word) (a b : Bool) (s : State) : State :=
  if !s.id.chopFitted || s.chop.on then s
  else onChop (fun c => repairCopies a b { c with
      on := true, romFault := rom != s.id.chopRom, paramFault := !a && !b, fwchk := rom, fwid := s.id.chopFw &&& 0xFFFF0000,
      pon := c.pon + 1, staged := [], closing := false, session := none, verifier := 0, rotate := 0, frame := none,
      meters := (List.range 4).foldl (fun l m => tmod {} l m meterKept) c.meters }) s

/-- CHOP_POWER_ON (R383). -/
def execChopPowerOn (rom : Word) (a b : Bool) (s : State) : Outcome := .next (chopPowerOn rom a b s)

/-! ### Decoding and faults (R374) -/

/-- A cause of fault declared: an episode where none stood, and the pulses since the last valid cycle go to the fault
total. -/
def declareFault (cause : Nat) (x : Meter) : Meter :=
  if x.causes.getLsbD cause then x
  else
    let first := x.causes == 0
    let moved := if x.lastChan == some .b && decide (x.runChan ≥ 16) then x.runChan else x.sinceValid
    { x with causes := x.causes ||| ((1 : BitVec 4) <<< cause), faults := if first then inc16 x.faults else x.faults, sinceValid := 0,
             overCycles := if cause = 2 then 0 else x.overCycles, stepFault := if first then x.stepFault + moved else x.stepFault }

/-- A cause of fault ended. -/
def endFault (cause : Nat) (x : Meter) : Meter := { x with causes := x.causes &&& ~~~((1 : BitVec 4) <<< cause) }

/-- The faults that end by valid cycles: channel loss and error rate with 1 000 consecutive ones, over range with 1 000 since it was
declared and both channels below 9.5 kHz for 1 s (log 161). -/
def endByCycles (x : Meter) : Meter :=
  let x := if x.valid ≥ 1000 then endFault 0 (endFault 1 x) else x
  if x.overCycles ≥ 1000 && decide (x.slowRun ≥ 100) then endFault 2 x else x

/-- A forward cycle: the balance first, then the pulses of the step. -/
def forwardCycle (x : Meter) : Meter :=
  let x := { x with cycles := x.cycles + 1, valid := x.valid + 1, overCycles := x.overCycles + 1, sinceValid := 0 }
  let x := if x.back ≠ 0 then { x with back := x.back - 1 } else if x.causes = 0 then { x with stepPulses := x.stepPulses + 1 } else x
  endByCycles x

/-- A reverse cycle: the balance alone. -/
def reverseCycle (x : Meter) : Meter := { x with back := x.back + 1, valid := 0 }

/-- An error pulse; more than ERRLIM within 10 000 valid cycles is a fault. -/
def errorPulse (errlim : Nat) (x : Meter) : Meter :=
  let w := x.errWindow.filter (fun c => decide (x.cycles < c + 10000)) ++ [x.cycles]
  let x := { x with errors := inc16 x.errors, errWindow := w, valid := 0 }
  if w.length > errlim then declareFault 1 x else x

/-- The quadrature position after an edge: forward when A leads B. -/
def turn (chan : MeterChan) (rising : Bool) (x : Meter) : Meter :=
  let fwd := match chan with
    | .a => rising != x.highB
    | .b => rising == x.highA
  let x := match chan with
    | .a => { x with highA := rising }
    | .b => { x with highB := rising }
  let p := if fwd then x.phase + 1 else x.phase - 1
  if p = 4 then forwardCycle { x with phase := 0 } else if p = -4 then reverseCycle { x with phase := 0 } else { x with phase := p }

/-- One edge: the run of pulses on one channel, an edge repeated without the other channel, channel loss, the position. A pulse that is
too many is one error pulse, told by the first edge of it that repeats (log 160). -/
def edge (errlim : Nat) (chan : MeterChan) (rising : Bool) (x : Meter) : Meter :=
  let same := x.lastChan == some chan
  let repeated := same && (if rising then x.upSeen else x.downSeen)
  let run := (if same then x.runChan else 0) + (if rising then 1 else 0)
  let kept := same && !repeated
  let x := { x with lastChan := some chan, runChan := run, upSeen := rising || (kept && x.upSeen), downSeen := !rising || (kept && x.downSeen) }
  let pulseA := rising && chan == .a
  let x := if pulseA then { x with sinceValid := x.sinceValid + 1, stepFault := if x.causes = 0 then x.stepFault else x.stepFault + 1 } else x
  let x := turn chan rising x
  let x := if repeated then errorPulse errlim x else x
  if run ≥ 16 then declareFault 0 x else x

/-- METER_PULSE_EDGE (R374). -/
def execMeterPulseEdge (m : Fin 4) (chan : MeterChan) (rising : Bool) (s : State) : Outcome :=
  .next (if chopCounts s && (portPar s m.val).mode != 0 then setMeter m.val (edge (portPar s m.val).errlim chan rising) s else s)

/-! ### Totals (R375, R376) -/

/-- A binary32 word as binary64, exactly. -/
def toF64 (w : Word) : Nat :=
  match fval w with
  | .fin neg m e => f64.ofDyadic neg (sgnd neg m) e
  | _ => f64.nanBits

/-- A natural number as binary64. -/
def natF64 (n : Nat) : Nat := f64.ofInt n

/-- The quantity of `n` pulses in g or mL, binary64: pulses / KFACTOR, in VOL15 times 1 − ALPHA × (T − 15 °C) (R375). -/
def quantity (p : ChopPortPar) (alpha : Word) (t n : Nat) : Nat :=
  let q := f64.div (natF64 n) (toF64 p.kfactor)
  let q := if p.mode = 2 then
      f64.mul q (f64.sub (natF64 1) (f64.mul (toF64 alpha) (f64.sub t (natF64 15)))) else q
  f64.mul q (natF64 1000)

/-- A quantity added to a total of whole units and its fraction, which carries (R375). -/
def addTotal (tot : BitVec 64) (frac q : Nat) : BitVec 64 × Nat :=
  let sum := f64.add frac q
  match f64.decode sum with
  | .fin neg m e =>
    let whole := truncFin neg m e
    (tot + BitVec.ofInt 64 whole, f64.sub sum (f64.ofInt whole))
  | _ => (tot, frac)

/-- ALPHA of a grade; with no grade in force the spec names none: a free value of its range (R375, log 7). -/
def gradeAlpha (s : State) (g : BitVec 4) : Word :=
  if g = 0 then fofRatio ((freeVal s).toNat % 2001 : Nat) 1000000 else (s.chop.grades.getD (g.toNat - 1) {}).alpha

/-- A quantity to the total of a grade, or to the unassigned total (R376, R378). -/
def toGrade (g : BitVec 4) (q : Nat) (x : Meter) : Meter :=
  if g = 0 then
    let r := addTotal x.utot x.ufrac q
    { x with utot := r.1, ufrac := r.2 }
  else
    let k := g.toNat - 1
    let r := addTotal (x.gtot.getD k 0) (x.gfrac.getD k 0) q
    { x with gtot := x.gtot.set k r.1, gfrac := x.gfrac.set k r.2 }

/-- The running step of a port closed: its pulses into the totals with what was in force at its start; the flow of the last
second (R375, R376). -/
def closeStep (p : ChopPortPar) (alpha : Word) (t : Nat) (x : Meter) : Meter :=
  let q := quantity p alpha t x.stepPulses
  let qf := quantity p alpha (if x.causes.getLsbD 3 then x.lastTemp else t) x.stepFault
  let x := toGrade x.stepGrade q x
  let r := addTotal x.ftot x.ffrac qf
  let h := (x.history ++ [f64.add q qf]).drop (x.history.length + 1 - 100)
  let perH := f64.div (f64.mul (h.foldl f64.add 0) (natF64 3600)) (natF64 1000)
  { x with ftot := r.1, ffrac := r.2, stepPulses := 0, stepFault := 0, stepGrade := x.grade, history := h, flow := narrow perH }

/-- A temperature of the Pt100 with TOFFSET, binary64 (R375, R379). -/
def portTemp (p : ChopPortPar) (centiC : Int) : Nat := f64.add (f64.ofRatio (centiC < 0) centiC.natAbs 100) (toF64 p.toffset)

/-- What a port measured during the step: the current, over range, the Pt100 and its fault (R374, R378). An unused port has no
fault (R375). -/
def measurePort (p : ChopPortPar) (env : ChopPortEnv) (x : Meter) : Meter :=
  let x := { x with cur := maOf env.microAmp, fastRun := if env.over10k then x.fastRun + 1 else 0,
                    slowRun := if env.under9k5 then x.slowRun + 1 else 0 }
  let x := if p.mode != 0 && decide (x.fastRun ≥ 10) then declareFault 2 x else endByCycles x
  let ok := env.tempCentiC.any (fun c => decide (-2000 ≤ c) && decide (c ≤ 18000))
  let t := match env.tempCentiC with
    | some c => portTemp p c
    | none => x.temp
  let x := { x with temp := t, measured := true, lastTemp := if ok then t else x.lastTemp, ptOk := if ok then x.ptOk + 1 else 0 }
  if p.mode = 2 && !ok then declareFault 3 x else if x.ptOk ≥ 1000 then endFault 3 x else x

/-- The temperature in force at the start of a port's step; before the first measurement, that of the step. -/
def stepTemp (p : ChopPortPar) (env : Option ChopPortEnv) (x : Meter) : Nat :=
  if x.measured then x.temp
  else match env.bind (·.tempCentiC) with
    | some c => portTemp p c
    | none => x.lastTemp

/-- One port at the end of a step: an unused one has no quantity; the step after it begins with the grade in force (R375). -/
def portStep (env : List ChopPortEnv) (m : Nat) (s : State) : State :=
  let p := portPar s m
  let x := meter s m
  let used := p.mode != 0
  let alpha := gradeAlpha s x.stepGrade
  let e := env[m]?
  let s := if used && x.stepGrade == 0 then takeFree s else s
  setMeter m (fun x =>
    let x := if used then closeStep p alpha (stepTemp p e x) x else { x with stepPulses := 0, stepFault := 0, stepGrade := x.grade }
    match e with
    | some v => measurePort p v x
    | none => x) s

/-! ### Parameters (R379, R381, R382) -/

/-- A word from four little-endian bytes. -/
def valWord (v : List Byte) : Word := Word.ofBytes v

/-- The parameter's value as a record carries it, before a change (R382). -/
def parWord (s : State) (param : BitVec 16) (index : Byte) : Word :=
  let i := index.toNat - 1
  let p := portPar s i
  let g := s.chop.grades.getD i {}
  match param.toNat with
  | 1 => p.mode.setWidth 32
  | 2 => p.kfactor
  | 3 => BitVec.ofNat 32 p.errlim
  | 4 => p.grades.setWidth 32
  | 5 => p.toffset
  | 6 => g.alpha
  | 7 => g.name
  | _ => 0

/-- A port's parameters with one set. -/
def withPar (param : BitVec 16) (w : Word) (p : ChopPortPar) : ChopPortPar :=
  match param.toNat with
  | 1 => { p with mode := w.setWidth 2 }
  | 2 => { p with kfactor := w }
  | 3 => { p with errlim := w.toNat }
  | 4 => { p with grades := w.setWidth 4 }
  | 5 => { p with toffset := w }
  | _ => p

/-- One staged value taken into force. -/
def applyPar (x : Staged) (c : Chop) : Chop :=
  let i := x.index.toNat - 1
  let w := valWord x.value
  match x.param.toNat with
  | 6 => { c with grades := c.grades.set i { c.grades.getD i {} with alpha := w } }
  | 7 => { c with grades := c.grades.set i { c.grades.getD i {} with name := w } }
  | 8 => c
  | 9 => { c with key := x.value }
  | _ => { c with ports := c.ports.set i (withPar x.param w (c.ports.getD i {})) }

/-- The kind of a record (R382). -/
def auditKind (param : BitVec 16) : Byte := if param = 8 then 2 else if param = 9 then 3 else 1

/-- Operating seconds (R382, R385). -/
def opsec (c : Chop) : Word := BitVec.ofNat 32 (c.opsecSteps / 100)

/-- One staged value applied to both copies, with its record (R371, R381, R382). -/
def applyStaged (x : Staged) (s : State) : State :=
  let c := s.chop
  let old := parWord s x.param x.index
  let kind := auditKind x.param
  let r : Audit := { audit := c.audit + 1, opsec := opsec c, pon := c.pon.setWidth 16, param := x.param, index := x.index, kind := kind,
                     old := if kind = 1 then old else 0, new := if kind = 1 then valWord x.value else 0, verifier := c.verifier }
  onChop (fun c =>
    let c := applyPar x { c with audit := c.audit + 1, trail := c.trail ++ [r], rotate := 0 }
    { c with second := firstCopy c }) s

/-- The switch closed, at the end of the running step: every staged value, or none where the trail cannot hold them or was full at an
earlier close (R381, R385). -/
def applyClose (s : State) : State :=
  if !s.chop.closing then s
  else
    let l := s.chop.staged
    let s := onChop (fun c => { c with closing := false, staged := [], verifier := 0, session := none }) (
      if !l.isEmpty && (s.chop.trailFull || decide (s.chop.trail.length + l.length > 1024)) then onChop (fun c => { c with trailFull := true }) s else forEach l applyStaged s)
    s

/-- CHOP_STEP: every port's step, then what a closed switch brings (R375, R377, R381). -/
def chopStep (env : List ChopPortEnv) (s : State) : State :=
  if !chopRuns s then s
  else
    let s := if chopCounts s then forEach (List.range 4) (portStep env) s else s
    applyClose (onChop (fun c => { c with opsecSteps := c.opsecSteps + 1 }) s)

/-- CHOP_STEP (R375). -/
def execChopStep (env : List ChopPortEnv) (s : State) : Outcome := .next (chopStep env s)

/-- CHOP_SUPPLY_FALL: the running step closed and written; counting stops (R377). -/
def execChopSupplyFall (s : State) : Outcome :=
  .next (if chopRuns s then
    let s := if chopCounts s then forEach (List.range 4) (portStep []) s else s
    onChop (fun c => { c with on := false, session := none, frame := none }) (applyClose s)
  else s)

/-! ### Grades (R378) -/

/-- The grade of a current; 0 for none. -/
def gradeBand (ua : Int) : BitVec 4 :=
  if 4500 ≤ ua ∧ ua ≤ 7500 then 1 else if 8500 ≤ ua ∧ ua ≤ 11500 then 2 else if 12500 ≤ ua ∧ ua ≤ 15500 then 3
  else if 16500 ≤ ua ∧ ua ≤ 19500 then 4 else 0

/-- GRADE_CHANGE: a grade that the port allows takes effect; another current is no grade. -/
def gradeChange (m : Nat) (ua : Int) (s : State) : State :=
  let g := gradeBand ua
  if !chopRuns s || g = 0 || !(portPar s m).grades.getLsbD (g.toNat - 1) then s
  else setMeter m (fun x => { x with grade := g, gradeUnk := false, cur := maOf ua }) s

/-- GRADE_CHANGE (R378). -/
def execGradeChange (m : Fin 4) (ua : Int) (s : State) : Outcome := .next (gradeChange m.val ua s)

/-- GRADE_UNKNOWN: 5 s with no grade (R378). -/
def execGradeUnknown (m : Fin 4) (s : State) : Outcome :=
  .next (if chopRuns s then setMeter m.val (fun x => { x with grade := 0, gradeUnk := true }) s else s)

/-! ### The export (R384, R385) -/

/-- Up to eight audit records in rotation, newest first. -/
def exportTrail (c : Chop) : List Audit := (c.trail.reverse.drop c.rotate).take 8

/-- The contents of an export frame. -/
def exportView (s : State) : ChopView :=
  let c := s.chop
  { stat := bit c.paramFault 8 ||| bit c.trailFull 7 ||| bit c.romFault 5 ||| bit (!c.staged.isEmpty) 4 ||| bit c.switchOpen 3,
    fwid := c.fwid, fwchk := c.fwchk, serial := c.serial, audit := c.audit, pon := c.pon, opsec := opsec c, meters := c.meters,
    modes := c.ports.map (·.mode), kfs := c.ports.map (·.kfactor), grades := c.grades, trail := exportTrail c }

/-- CHOP_EXPORT_SEND (R384). -/
def execChopExportSend (s : State) : Outcome :=
  .next (if chopRuns s then
    let v := exportView s
    emit (.chopExport v) (onChop (fun c => { c with frame := some v, rotate := if c.rotate + 8 ≥ c.trail.length then 0 else c.rotate + 8 }) s)
  else s)

/-- CHOP_EXPORT_RECEIVED: a failed check counts; a valid frame is applied in one step (R384). -/
def exportReceived (ok : Bool) (s : State) : State :=
  match s.chop.frame with
  | none => s
  | some v =>
    let s := onChop (fun c => { c with frame := none }) s
    if !powered s then s
    else if !ok then onMtr (fun m => { m with failures := inc16 m.failures }) s
    else onMtr (fun m => { m with view := { v with trail := [] }, valid := true, stale := false, frames := m.frames + 1, lastUs := nowUs s,
                                  trail := v.trail.foldl (fun t a => tins (a.audit.toNat - 1) a t) m.trail }) s

/-- CHOP_EXPORT_RECEIVED (R384). -/
def execChopExportReceived (ok : Bool) (s : State) : Outcome := .next (exportReceived ok s)

/-- CHOP_EXPORT_STALE: no valid frame for 1 s (R384). -/
def execChopExportStale (s : State) : Outcome :=
  .next (if s.id.chopFitted && powered s then onMtr (fun m => { m with stale := true }) s else s)

/-! ### The verifier's switch and port (R380, R381) -/

/-- VERIFIER_SWITCH_OPEN: the optical port is active (R380). -/
def execVerifierSwitchOpen (s : State) : Outcome :=
  .next (if s.id.chopFitted then onChop (fun c => { c with switchOpen := true }) s else s)

/-- VERIFIER_SWITCH_CLOSE: staged values take effect at the end of the running step (R381). -/
def execVerifierSwitchClose (s : State) : Outcome :=
  .next (if s.id.chopFitted then onChop (fun c => { c with switchOpen := false, closing := c.on && c.switchOpen, session := none }) s else s)

/-- Whether the optical port receives. -/
def opticalOn (s : State) : Bool := chopRuns s && s.chop.switchOpen

/-- A response of the optical port outside a session (R327, R380). -/
def verifierReplyOpen (m : Req) (st : BitVec 16) (body : List Byte) (s : State) : State :=
  emit (.verifier { sess := 0, seq := m.seq, typ := 1, level := 3, service := m.service, body := le16 st ++ body }) s

/-- A message that the optical port takes: VER, TYPE, TARGET 0xFF and LEVEL 3; another is discarded (R327, R380, log 152). -/
def verifierMessage (m : Req) : Bool := m.ver == 1 && m.typ == 0 && m.target == 0xFF && m.level == 3

/-- VERIFIER_OPEN: nonces and an identifier, as OPEN gives them (R329, R380). -/
def verifierOpen (m : Verif) (s : State) : State :=
  if !opticalOn s || !verifierMessage m.msg then s
  else if m.data.length ≠ 16 then verifierReplyOpen m.msg stMalformed [] s
  else
    let x : Session := { id := if freeVal s = 0 then 1 else freeVal s, level := lvVerifier, clientNonce := m.data, moduleNonce := moduleNonce s }
    verifierReplyOpen m.msg stOk (Word.bytes x.id ++ x.moduleNonce)
      { s with chop := { s.chop with session := some x, verifier := 0 }, free := s.free + 5 }

/-- VERIFIER_OPEN (R380). -/
def execVerifierOpen (m : Verif) (s : State) : Outcome := .next (verifierOpen m s)

/-- VERIFIER_AUTH: the proof under the Chop's verifier key (R329, R380). -/
def verifierAuth (m : Verif) (s : State) : State :=
  if !opticalOn s || !verifierMessage m.msg then s
  else match s.chop.session with
    | none => verifierReplyOpen m.msg stAccess [] s
    | some x =>
      if m.data.length ≠ 32 then verifierReplyOpen m.msg stMalformed [] s
      else if !x.opened && m.data == authProof s.chop.key x then
        verifierReplyOpen m.msg stOk [] (onChop (fun c => { c with session := some { x with opened := true, key := sessionKey c.key x } }) s)
      else verifierReplyOpen m.msg stAccess [] s

/-- VERIFIER_AUTH (R380). -/
def execVerifierAuth (m : Verif) (s : State) : Outcome := .next (verifierAuth m s)

/-- A request on the optical port: the open session, its TAG and SEQ, TARGET 0xFF and LEVEL 3; another is discarded without reply
(R327, R330, R380). -/
def verifierRequest (r : Req) (k : State → State) (s : State) : State :=
  match s.chop.session with
  | none => s
  | some x =>
    if opticalOn s && verifierMessage r && x.opened && x.id == r.sess && tagRight x.key r && decide (x.seq < r.seq) then
      k (onChop (fun c => { c with session := some { x with seq := r.seq } }) s)
    else s

/-- The response to a request of the session: it repeats SESSION and SEQ and carries a TAG (R327, R380). -/
def verifierReply (r : Req) (st : BitVec 16) (body : List Byte) (s : State) : State :=
  match s.chop.session with
  | none => s
  | some x => emit (.verifier (messageTo x 1 r.service r.seq (le16 st ++ body))) s

/-- The parameter set as the response carries it: ports, grades, staged values; no key (R380, log 47). -/
def parameterBody (c : Chop) : List Byte :=
  c.ports.flatMap (fun p => wordsBytes [p.mode.setWidth 32, p.kfactor, BitVec.ofNat 32 p.errlim, p.grades.setWidth 32, p.toffset]) ++
    c.grades.flatMap (fun g => wordsBytes [g.alpha, g.name]) ++
    c.staged.flatMap (fun x => le16 x.param ++ [x.index] ++ (if x.param = 9 then [] else x.value))

/-- READ_PARAMETERS (R380). -/
def execReadParameters (r : Req) (s : State) : Outcome :=
  .next (verifierRequest r (fun s => verifierReply r stOk (parameterBody s.chop) s) s)

/-- Whether a value lies in its parameter's range (R379). -/
def parInRange (param : BitVec 16) (v : List Byte) : Bool :=
  let w := valWord v
  match param.toNat with
  | 1 => decide (w.toNat ≤ 2)
  | 2 => fle 0x3DCCCCCD w && fle w 0x47C35000
  | 3 => decide (1 ≤ w.toNat) && decide (w.toNat ≤ 100)
  | 4 => decide (w.toNat ≤ 15)
  | 5 => fle 0xBF800000 w && fle w 0x3F800000
  | 6 => fle 0 w && fle w 0x3B03126F
  | 7 => v.all (fun b => decide (b.toNat < 128))
  | _ => true

/-- Whether an index names a port or a grade; VERIFY and KEY have none (R379). -/
def indexOk (param : BitVec 16) (index : Byte) : Bool := decide (param.toNat ≥ 8) || (decide (1 ≤ index.toNat) && decide (index.toNat ≤ 4))

/-- A value staged; one staged before keeps its place and takes the new value. VERIFY and KEY have no index, and their record shows 0
(R379, R381, R382). -/
def stagePar (x : Staged) (c : Chop) : Chop :=
  let x := if x.param.toNat ≥ 8 then { x with index := 0 } else x
  let same (y : Staged) : Bool := y.param == x.param && y.index == x.index
  { c with staged := if c.staged.any same then c.staged.map (fun y => if same y then x else y) else c.staged ++ [x],
           verifier := if x.param = 8 then valWord x.value else c.verifier }

/-- STAGE (R379, R380). -/
def stageRequest (r : Req) (x : Staged) (s : State) : State :=
  verifierRequest r (fun s =>
    if x.param = 0 || x.param.toNat > 9 || !indexOk x.param x.index then verifierReply r stRange [] s
    else if x.value.length ≠ (if x.param = 9 then 32 else 4) then verifierReply r stMalformed [] s
    else if !parInRange x.param x.value then verifierReply r stRange [] s
    else verifierReply r stOk [] (onChop (stagePar x) s)) s

/-- STAGE (R380). -/
def execStage (r : Req) (param : BitVec 16) (index : Byte) (value : List Byte) (s : State) : Outcome :=
  .next (stageRequest r { param := param, index := index, value := value } s)

/-- DISCARD (R380). -/
def execDiscard (r : Req) (s : State) : Outcome :=
  .next (verifierRequest r (fun s => verifierReply r stOk [] (onChop (fun c => { c with staged := [] }) s)) s)

/-- READ_TRAIL: records from an AUDIT on, 1 to 32 (R380). -/
def execReadTrail (r : Req) (first : Word) (count : BitVec 16) (s : State) : Outcome :=
  .next (verifierRequest r (fun s =>
    if count = 0 || count.toNat > 32 then verifierReply r stRange [] s
    else
      let l := (s.chop.trail.filter (fun a => decide (first ≤ a.audit))).take count.toNat
      verifierReply r stOk (l.flatMap (fun a => wordsBytes (auditWords s.chop.serial a))) s) s)

end Sys2Proof.Machine
end

