-- ==== Sys2Proof/Machine/Dispatch.lean ====
section
/-! DEFINITION. One arm per command: each is a direct call of the command's own meaning. -/

namespace Sys2Proof.Machine

def exec (i : Instr) (s : State) : Host.Outcome State Fault Refusal :=
  match i with
  | .enterCommissioning r => Sys2Proof.Machine.execEnterCommissioning r s
  | .leaveCommissioning r => Sys2Proof.Machine.execLeaveCommissioning r s
  | .hold r => Sys2Proof.Machine.execHold r s
  | .resume r => Sys2Proof.Machine.execResume r s
  | .warmRestart r => Sys2Proof.Machine.execWarmRestart r s
  | .restartClassS r => Sys2Proof.Machine.execRestartClassS r s
  | .leaveDecaf r => Sys2Proof.Machine.execLeaveDecaf r s
  | .restartOtherImageHalf r => Sys2Proof.Machine.execRestartOtherImageHalf r s
  | .splitLanes r => Sys2Proof.Machine.execSplitLanes r s
  | .rejoinLanes r t => Sys2Proof.Machine.execRejoinLanes r t s
  | .enterMaintenance r g => Sys2Proof.Machine.execEnterMaintenance r g s
  | .leaveMaintenance r g => Sys2Proof.Machine.execLeaveMaintenance r g s
  | .openTrim r ch point => Sys2Proof.Machine.execOpenTrim r ch point s
  | .setPendingTrim r ua => Sys2Proof.Machine.execSetPendingTrim r ua s
  | .storeTrim r => Sys2Proof.Machine.execStoreTrim r s
  | .closeTrim r => Sys2Proof.Machine.execCloseTrim r s
  | .writeTrim r ch point ua => Sys2Proof.Machine.execWriteTrim r ch point ua s
  | .brakeTest r slot => Sys2Proof.Machine.execBrakeTest r slot s
  | .clearRetainVariables r => Sys2Proof.Machine.execClearRetainVariables r s
  | .readChangedConstants r => Sys2Proof.Machine.execReadChangedConstants r s
  | .cycleT0 => Sys2Proof.Machine.execCycleT0 s
  | .executeWindowOpen => Sys2Proof.Machine.execExecuteWindowOpen s
  | .inputDeadline => Sys2Proof.Machine.execInputDeadline s
  | .nop l w => Sys2Proof.Machine.execNop l w s
  | .end_ o => Sys2Proof.Machine.execEnd o s
  | .br o => Sys2Proof.Machine.execBr o s
  | .bz o => Sys2Proof.Machine.execBz o s
  | .bnz o => Sys2Proof.Machine.execBnz o s
  | .jmp o => Sys2Proof.Machine.execJmp o s
  | .call o => Sys2Proof.Machine.execCall o s
  | .add o => Sys2Proof.Machine.execAdd o s
  | .sub o => Sys2Proof.Machine.execSub o s
  | .mul o => Sys2Proof.Machine.execMul o s
  | .mulh o => Sys2Proof.Machine.execMulh o s
  | .div o => Sys2Proof.Machine.execDiv o s
  | .rem o => Sys2Proof.Machine.execRem o s
  | .and_ o => Sys2Proof.Machine.execAnd o s
  | .or_ o => Sys2Proof.Machine.execOr o s
  | .xor_ o => Sys2Proof.Machine.execXor o s
  | .shl o => Sys2Proof.Machine.execShl o s
  | .shr o => Sys2Proof.Machine.execShr o s
  | .sar o => Sys2Proof.Machine.execSar o s
  | .slt o => Sys2Proof.Machine.execSlt o s
  | .sltu o => Sys2Proof.Machine.execSltu o s
  | .seq o => Sys2Proof.Machine.execSeq o s
  | .min o => Sys2Proof.Machine.execMin o s
  | .addi o => Sys2Proof.Machine.execAddi o s
  | .andi o => Sys2Proof.Machine.execAndi o s
  | .ori o => Sys2Proof.Machine.execOri o s
  | .xori o => Sys2Proof.Machine.execXori o s
  | .shli o => Sys2Proof.Machine.execShli o s
  | .shri o => Sys2Proof.Machine.execShri o s
  | .sari o => Sys2Proof.Machine.execSari o s
  | .slti o => Sys2Proof.Machine.execSlti o s
  | .seqi o => Sys2Proof.Machine.execSeqi o s
  | .lui o => Sys2Proof.Machine.execLui o s
  | .orim o => Sys2Proof.Machine.execOrim o s
  | .fadd o => Sys2Proof.Machine.execFadd o s
  | .fsub o => Sys2Proof.Machine.execFsub o s
  | .fmul o => Sys2Proof.Machine.execFmul o s
  | .fdiv o => Sys2Proof.Machine.execFdiv o s
  | .fsqrt o => Sys2Proof.Machine.execFsqrt o s
  | .fmin o => Sys2Proof.Machine.execFmin o s
  | .fmax o => Sys2Proof.Machine.execFmax o s
  | .fabs o => Sys2Proof.Machine.execFabs o s
  | .fneg o => Sys2Proof.Machine.execFneg o s
  | .flt o => Sys2Proof.Machine.execFlt o s
  | .fle o => Sys2Proof.Machine.execFle o s
  | .feq o => Sys2Proof.Machine.execFeq o s
  | .itof o => Sys2Proof.Machine.execItof o s
  | .ftoi o => Sys2Proof.Machine.execFtoi o s
  | .fma o => Sys2Proof.Machine.execFma o s
  | .ld o => Sys2Proof.Machine.execLd o s
  | .st o => Sys2Proof.Machine.execSt o s
  | .ldx o => Sys2Proof.Machine.execLdx o s
  | .stx o => Sys2Proof.Machine.execStx o s
  | .in_ o => Sys2Proof.Machine.execIn o s
  | .out o => Sys2Proof.Machine.execOut o s
  | .cellin o => Sys2Proof.Machine.execCellin o s
  | .cellout o => Sys2Proof.Machine.execCellout o s
  | .ton l d a => Sys2Proof.Machine.execTon l d a s
  | .tof l d a => Sys2Proof.Machine.execTof l d a s
  | .tp l d a => Sys2Proof.Machine.execTp l d a s
  | .ctu l d a => Sys2Proof.Machine.execCtu l d a s
  | .ctd l d a => Sys2Proof.Machine.execCtd l d a s
  | .ctud l d a => Sys2Proof.Machine.execCtud l d a s
  | .rTrig l d a => Sys2Proof.Machine.execRTrig l d a s
  | .fTrig l d a => Sys2Proof.Machine.execFTrig l d a s
  | .cv l d a => Sys2Proof.Machine.execCv l d a s
  | .timel l d a => Sys2Proof.Machine.execTimel l d a s
  | .timeh l d a => Sys2Proof.Machine.execTimeh l d a s
  | .objrd l d a => Sys2Proof.Machine.execObjrd l d a s
  | .objwr l d a => Sys2Proof.Machine.execObjwr l d a s
  | .evpost l d a => Sys2Proof.Machine.execEvpost l d a s
  | .cellstat l d a => Sys2Proof.Machine.execCellstat l d a s
  | .cellmode l d a => Sys2Proof.Machine.execCellmode l d a s
  | .checkpointCompare invalidRail => Sys2Proof.Machine.execCheckpointCompare invalidRail s
  | .checkpointAppendResume l => Sys2Proof.Machine.execCheckpointAppendResume l s
  | .compareStalled => Sys2Proof.Machine.execCompareStalled s
  | .laneStalled l => Sys2Proof.Machine.execLaneStalled l s
  | .compareComplete => Sys2Proof.Machine.execCompareComplete s
  | .commitSend => Sys2Proof.Machine.execCommitSend s
  | .outputRelease => Sys2Proof.Machine.execOutputRelease s
  | .lateCompareComplete => Sys2Proof.Machine.execLateCompareComplete s
  | .dataDigestComplete => Sys2Proof.Machine.execDataDigestComplete s
  | .speedGaugeUpdate a b => Sys2Proof.Machine.execSpeedGaugeUpdate a b s
  | .gaugeDisagreement => Sys2Proof.Machine.execGaugeDisagreement s
  | .speedFloorLost => Sys2Proof.Machine.execSpeedFloorLost s
  | .timeReferenceCheck quillTicks marks => Sys2Proof.Machine.execTimeReferenceCheck quillTicks marks s
  | .governorEvaluation drawMw => Sys2Proof.Machine.execGovernorEvaluation drawMw s
  | .ceilingUnattainable => Sys2Proof.Machine.execCeilingUnattainable s
  | .brownoutCeilingHoldEnd => Sys2Proof.Machine.execBrownoutCeilingHoldEnd s
  | .operatorCeilingWrite r v => Sys2Proof.Machine.execOperatorCeilingWrite r v s
  | .barrierOverload avgMw => Sys2Proof.Machine.execBarrierOverload avgMw s
  | .barrierLimit demandMw => Sys2Proof.Machine.execBarrierLimit demandMw s
  | .loopTick mism dlv => Sys2Proof.Machine.execLoopTick mism dlv s
  | .loopOutputHandoff evalTenthUs => Sys2Proof.Machine.execLoopOutputHandoff evalTenthUs s
  | .operatorModeRequest r k v => Sys2Proof.Machine.execOperatorModeRequest r k v s
  | .operatorSetpointWrite r k v => Sys2Proof.Machine.execOperatorSetpointWrite r k v s
  | .manualValueWrite r k v => Sys2Proof.Machine.execManualValueWrite r k v s
  | .traceArm r j => Sys2Proof.Machine.execTraceArm r j s
  | .traceForce r j => Sys2Proof.Machine.execTraceForce r j s
  | .traceStop r j => Sys2Proof.Machine.execTraceStop r j s
  | .traceConfigWrite r j reg v => Sys2Proof.Machine.execTraceConfigWrite r j reg v s
  | .takeoverRampEnd ch => Sys2Proof.Machine.execTakeoverRampEnd ch s
  | .safetyInputFilterTick ch raw => Sys2Proof.Machine.execSafetyInputFilterTick ch raw s
  | .debounceAccept ch x => Sys2Proof.Machine.execDebounceAccept ch x s
  | .sensorSupplyTrip ch => Sys2Proof.Machine.execSensorSupplyTrip ch s
  | .sensorSupplyRetry ch limited => Sys2Proof.Machine.execSensorSupplyRetry ch limited s
  | .outputOverloadTrip ch => Sys2Proof.Machine.execOutputOverloadTrip ch s
  | .outputOverloadRetry ch limited => Sys2Proof.Machine.execOutputOverloadRetry ch limited s
  | .openLoadDetect ch milliAmp => Sys2Proof.Machine.execOpenLoadDetect ch milliAmp s
  | .shortToSupplyDetect ch tenMilliVolt => Sys2Proof.Machine.execShortToSupplyDetect ch tenMilliVolt s
  | .parallelImbalance ch isOff => Sys2Proof.Machine.execParallelImbalance ch isOff s
  | .pwmPeriodStart ch x => Sys2Proof.Machine.execPwmPeriodStart ch x s
  | .testPulseStart ch => Sys2Proof.Machine.execTestPulseStart ch s
  | .testPulseEnd ch seen => Sys2Proof.Machine.execTestPulseEnd ch seen s
  | .conversionComplete ch m => Sys2Proof.Machine.execConversionComplete ch m s
  | .thermocoupleBreakTest ch microVolt => Sys2Proof.Machine.execThermocoupleBreakTest ch microVolt s
  | .frequencyGate ch periods ticks40ns => Sys2Proof.Machine.execFrequencyGate ch periods ticks40ns s
  | .frequencyTimeout ch => Sys2Proof.Machine.execFrequencyTimeout ch s
  | .pulseEdge ch => Sys2Proof.Machine.execPulseEdge ch s
  | .partnerOutputMismatch ch x => Sys2Proof.Machine.execPartnerOutputMismatch ch x s
  | .sharedInputTakeoverCheck ch agrees after10ms => Sys2Proof.Machine.execSharedInputTakeoverCheck ch agrees after10ms s
  | .groupSupplyLevelChange g lvl tenMilliVolt tenMilliAmp => Sys2Proof.Machine.execGroupSupplyLevelChange g lvl tenMilliVolt tenMilliAmp s
  | .sagLatchTimer g => Sys2Proof.Machine.execSagLatchTimer g s
  | .readbackDiagnosticsResume g => Sys2Proof.Machine.execReadbackDiagnosticsResume g s
  | .couplerFrame g st empty bytes => Sys2Proof.Machine.execCouplerFrame g st empty bytes s
  | .groupLinkLost g => Sys2Proof.Machine.execGroupLinkLost g s
  | .quillStreamLost g => Sys2Proof.Machine.execQuillStreamLost g s
  | .groupLinkRestore g => Sys2Proof.Machine.execGroupLinkRestore g s
  | .readbackConversion ch microAmp => Sys2Proof.Machine.execReadbackConversion ch microAmp s
  | .trimUpPress x => Sys2Proof.Machine.execTrimUpPress x s
  | .trimDnPress x => Sys2Proof.Machine.execTrimDnPress x s
  | .trimRepeat upLow dnLow => Sys2Proof.Machine.execTrimRepeat upLow dnLow s
  | .trimSetPress => Sys2Proof.Machine.execTrimSetPress s
  | .trimInputStuck x => Sys2Proof.Machine.execTrimInputStuck x s
  | .trimSessionTimeout => Sys2Proof.Machine.execTrimSessionTimeout s
  | .quillEvaluation => Sys2Proof.Machine.execQuillEvaluation s
  | .discrepancyTimeout slot => Sys2Proof.Machine.execDiscrepancyTimeout slot s
  | .safetyOffDelayEnd slot => Sys2Proof.Machine.execSafetyOffDelayEnd slot s
  | .twoHandSyncMiss slot => Sys2Proof.Machine.execTwoHandSyncMiss slot s
  | .testPulseCheck slot x => Sys2Proof.Machine.execTestPulseCheck slot x s
  | .resetDemand ch pressMs => Sys2Proof.Machine.execResetDemand ch pressMs s
  | .resetInputHeldLong ch => Sys2Proof.Machine.execResetInputHeldLong ch s
  | .switchOffTest p side changed => Sys2Proof.Machine.execSwitchOffTest p side changed s
  | .edmTimeout p => Sys2Proof.Machine.execEdmTimeout p s
  | .brakeFeedbackTimeout slot => Sys2Proof.Machine.execBrakeFeedbackTimeout slot s
  | .brakeTestEdge slot => Sys2Proof.Machine.execBrakeTestEdge slot s
  | .brakeTorqueTimeout slot => Sys2Proof.Machine.execBrakeTorqueTimeout slot s
  | .brakeTestEnd slot => Sys2Proof.Machine.execBrakeTestEnd slot s
  | .brkageTick => Sys2Proof.Machine.execBrkageTick s
  | .acknowledgePoint r p => Sys2Proof.Machine.execAcknowledgePoint r p s
  | .acknowledgeGroup r c => Sys2Proof.Machine.execAcknowledgeGroup r c s
  | .acknowledgeAll r => Sys2Proof.Machine.execAcknowledgeAll r s
  | .shelve r p minutes => Sys2Proof.Machine.execShelve r p minutes s
  | .unshelve r p => Sys2Proof.Machine.execUnshelve r p s
  | .silence r => Sys2Proof.Machine.execSilence r s
  | .acceptCall r g e => Sys2Proof.Machine.execAcceptCall r g e s
  | .assignDuty r g duty backup => Sys2Proof.Machine.execAssignDuty r g duty backup s
  | .deadManOn r e => Sys2Proof.Machine.execDeadManOn r e s
  | .deadManReset r => Sys2Proof.Machine.execDeadManReset r s
  | .deadManOff r => Sys2Proof.Machine.execDeadManOff r s
  | .alarmEvaluation evalUs => Sys2Proof.Machine.execAlarmEvaluation evalUs s
  | .pointOnDelayEnd p => Sys2Proof.Machine.execPointOnDelayEnd p s
  | .pointOffDelayEnd p => Sys2Proof.Machine.execPointOffDelayEnd p s
  | .blockReleaseDelayEnd p => Sys2Proof.Machine.execBlockReleaseDelayEnd p s
  | .shelfTimeEnd p => Sys2Proof.Machine.execShelfTimeEnd p s
  | .callStage1 g => Sys2Proof.Machine.execCallStage1 g s
  | .callStage2 g => Sys2Proof.Machine.execCallStage2 g s
  | .deadManIntervalEnd => Sys2Proof.Machine.execDeadManIntervalEnd s
  | .deadManPrewarningEnd => Sys2Proof.Machine.execDeadManPrewarningEnd s
  | .alcSend => Sys2Proof.Machine.execAlcSend s
  | .hbtSend => Sys2Proof.Machine.execHbtSend s
  | .acnAcknowledge alert => Sys2Proof.Machine.execAcnAcknowledge alert s
  | .acnSilence alert => Sys2Proof.Machine.execAcnSilence alert s
  | .acnRequestRepeat alert => Sys2Proof.Machine.execAcnRequestRepeat alert s
  | .acnIgnored => Sys2Proof.Machine.execAcnIgnored s
  | .interlockPeerNetChange ownLow peerLow => Sys2Proof.Machine.execInterlockPeerNetChange ownLow peerLow s
  | .interlockStuck => Sys2Proof.Machine.execInterlockStuck s
  | .interlockStuckEnd => Sys2Proof.Machine.execInterlockStuckEnd s
  | .roleWaitEnd => Sys2Proof.Machine.execRoleWaitEnd s
  | .releaseReceived reason => Sys2Proof.Machine.execReleaseReceived reason s
  | .unannouncedTakeover => Sys2Proof.Machine.execUnannouncedTakeover s
  | .roleTransfer => Sys2Proof.Machine.execRoleTransfer s
  | .fieldRingSilence => Sys2Proof.Machine.execFieldRingSilence s
  | .takeBack => Sys2Proof.Machine.execTakeBack s
  | .swap r => Sys2Proof.Machine.execSwap r s
  | .resync r => Sys2Proof.Machine.execResync r s
  | .inhibitTakeBack r => Sys2Proof.Machine.execInhibitTakeBack r s
  | .allowTakeBack r => Sys2Proof.Machine.execAllowTakeBack r s
  | .roleSwapDue => Sys2Proof.Machine.execRoleSwapDue s
  | .scrubStep found => Sys2Proof.Machine.execScrubStep found s
  | .bistTestSequence faultVerdict => Sys2Proof.Machine.execBistTestSequence faultVerdict s
  | .bistInjectionTest t => Sys2Proof.Machine.execBistInjectionTest t s
  | .carafeFrameReceived f => Sys2Proof.Machine.execCarafeFrameReceived f s
  | .deltaApply => Sys2Proof.Machine.execDeltaApply s
  | .deltaLost => Sys2Proof.Machine.execDeltaLost s
  | .carafeAckReceived again => Sys2Proof.Machine.execCarafeAckReceived again s
  | .joinCopyComplete => Sys2Proof.Machine.execJoinCopyComplete s
  | .twinStepDigest peer => Sys2Proof.Machine.execTwinStepDigest peer s
  | .forwardedCommand f t => Sys2Proof.Machine.execForwardedCommand f t s
  | .partnerConfirmTimeout => Sys2Proof.Machine.execPartnerConfirmTimeout s
  | .helloSend => Sys2Proof.Machine.execHelloSend s
  | .helloReceived port h => Sys2Proof.Machine.execHelloReceived port h s
  | .stationLinkDown port => Sys2Proof.Machine.execStationLinkDown port s
  | .stationLinkUp port delayNs => Sys2Proof.Machine.execStationLinkUp port delayNs s
  | .speakerElection => Sys2Proof.Machine.execSpeakerElection s
  | .timeMarkSend => Sys2Proof.Machine.execTimeMarkSend s
  | .timeMarkReceived port markNs m => Sys2Proof.Machine.execTimeMarkReceived port markNs m s
  | .stationExportReceived pos ws complete => Sys2Proof.Machine.execStationExportReceived pos ws complete s
  | .slkInjectorWrite r port v => Sys2Proof.Machine.execSlkInjectorWrite r port v s
  | .frgInjectorWrite r port v => Sys2Proof.Machine.execFrgInjectorWrite r port v s
  | .testpInputChange low => Sys2Proof.Machine.execTestpInputChange low s
  | .syncReceived port f => Sys2Proof.Machine.execSyncReceived port f s
  | .remoteInputReceived port f => Sys2Proof.Machine.execRemoteInputReceived port f s
  | .remoteJoinReceived port f => Sys2Proof.Machine.execRemoteJoinReceived port f s
  | .linkDelayMeasure port => Sys2Proof.Machine.execLinkDelayMeasure port s
  | .linkReqReceived port f => Sys2Proof.Machine.execLinkReqReceived port f s
  | .linkRspReceived port f roundTripNs => Sys2Proof.Machine.execLinkRspReceived port f roundTripNs s
  | .hsrSupervisionSend => Sys2Proof.Machine.execHsrSupervisionSend s
  | .ringPathLost port => Sys2Proof.Machine.execRingPathLost port s
  | .ringPortDown port => Sys2Proof.Machine.execRingPortDown port s
  | .prpSupervisionSend => Sys2Proof.Machine.execPrpSupervisionSend s
  | .plantPathLost port linkDown => Sys2Proof.Machine.execPlantPathLost port linkDown s
  | .plantPathRestored => Sys2Proof.Machine.execPlantPathRestored s
  | .identify broadcast => Sys2Proof.Machine.execIdentify broadcast s
  | .open_ ip onStation level clientNonce => Sys2Proof.Machine.execOpen ip onStation level clientNonce s
  | .auth ip sess proof => Sys2Proof.Machine.execAuth ip sess proof s
  | .close r => Sys2Proof.Machine.execClose r s
  | .read r addr count => Sys2Proof.Machine.execRead r addr count s
  | .write r addr ws => Sys2Proof.Machine.execWrite r addr ws s
  | .readvar r tag count => Sys2Proof.Machine.execReadvar r tag count s
  | .eventsFromSeq r count sq => Sys2Proof.Machine.execEventsFromSeq r count sq s
  | .eventsFromOldest r count => Sys2Proof.Machine.execEventsFromOldest r count s
  | .eventsFromCursor r count => Sys2Proof.Machine.execEventsFromCursor r count s
  | .eventsNewest r count => Sys2Proof.Machine.execEventsNewest r count s
  | .change r batch => Sys2Proof.Machine.execChange r batch s
  | .forceSet r t v => Sys2Proof.Machine.execForceSet r t v s
  | .forceRelease r t => Sys2Proof.Machine.execForceRelease r t s
  | .forceReleaseInCell r c => Sys2Proof.Machine.execForceReleaseInCell r c s
  | .subscribe r mask => Sys2Proof.Machine.execSubscribe r mask s
  | .callNotificationSend g => Sys2Proof.Machine.execCallNotificationSend g s
  | .notificationAcknowledgement r => Sys2Proof.Machine.execNotificationAcknowledgement r s
  | .callNotificationRetry sess => Sys2Proof.Machine.execCallNotificationRetry sess s
  | .sessionTimeout sess => Sys2Proof.Machine.execSessionTimeout sess s
  | .authenticationBlockEnd ip => Sys2Proof.Machine.execAuthenticationBlockEnd ip s
  | .modbusReadHolding conn start qty => Sys2Proof.Machine.execModbusReadHolding conn start qty s
  | .modbusReadInput conn start qty => Sys2Proof.Machine.execModbusReadInput conn start qty s
  | .modbusWriteSingle conn reg value => Sys2Proof.Machine.execModbusWriteSingle conn reg value s
  | .modbusWriteMultiple conn start qty byteCount vals => Sys2Proof.Machine.execModbusWriteMultiple conn start qty byteCount vals s
  | .modbusOtherFunction conn fc => Sys2Proof.Machine.execModbusOtherFunction conn fc s
  | .modbusConnectionTimeout conn => Sys2Proof.Machine.execModbusConnectionTimeout conn s
  | .ntpPoll => Sys2Proof.Machine.execNtpPoll s
  | .ntpResponse server offsetUs => Sys2Proof.Machine.execNtpResponse server offsetUs s
  | .utcStepped => Sys2Proof.Machine.execUtcStepped s
  | .rtcSet => Sys2Proof.Machine.execRtcSet s
  | .addressConflict => Sys2Proof.Machine.execAddressConflict s
  | .flushAgeTimeout => Sys2Proof.Machine.execFlushAgeTimeout s
  | .flushComplete => Sys2Proof.Machine.execFlushComplete s
  | .floodWindowEnd => Sys2Proof.Machine.execFloodWindowEnd s
  | .recordsLostPointEnd => Sys2Proof.Machine.execRecordsLostPointEnd s
  | .evrCursorWrite p sq => Sys2Proof.Machine.execEvrCursorWrite p sq s
  | .evrNext p => Sys2Proof.Machine.execEvrNext p s
  | .evrPrev p => Sys2Proof.Machine.execEvrPrev p s
  | .evrOldest p => Sys2Proof.Machine.execEvrOldest p s
  | .evrNewest p => Sys2Proof.Machine.execEvrNewest p s
  | .cvuStart p c => Sys2Proof.Machine.execCvuStart p c s
  | .cvuClear p c => Sys2Proof.Machine.execCvuClear p c s
  | .cvuValueWrite p c v => Sys2Proof.Machine.execCvuValueWrite p c v s
  | .cvuDataFeed p c first ws => Sys2Proof.Machine.execCvuDataFeed p c first ws s
  | .cvuByteFeed p c v => Sys2Proof.Machine.execCvuByteFeed p c v s
  | .cvuExpectWrite p c v => Sys2Proof.Machine.execCvuExpectWrite p c v s
  | .cvuConfigWrite p c v => Sys2Proof.Machine.execCvuConfigWrite p c v s
  | .cvuClaimWrite r v => Sys2Proof.Machine.execCvuClaimWrite r v s
  | .chopPowerOn romCheck copyAOk copyBOk => Sys2Proof.Machine.execChopPowerOn romCheck copyAOk copyBOk s
  | .chopSupplyFall => Sys2Proof.Machine.execChopSupplyFall s
  | .meterPulseEdge m chan rising => Sys2Proof.Machine.execMeterPulseEdge m chan rising s
  | .chopStep env => Sys2Proof.Machine.execChopStep env s
  | .gradeChange m microAmp => Sys2Proof.Machine.execGradeChange m microAmp s
  | .gradeUnknown m => Sys2Proof.Machine.execGradeUnknown m s
  | .chopExportSend => Sys2Proof.Machine.execChopExportSend s
  | .chopExportReceived checkOk => Sys2Proof.Machine.execChopExportReceived checkOk s
  | .chopExportStale => Sys2Proof.Machine.execChopExportStale s
  | .verifierSwitchOpen => Sys2Proof.Machine.execVerifierSwitchOpen s
  | .verifierSwitchClose => Sys2Proof.Machine.execVerifierSwitchClose s
  | .verifierOpen m => Sys2Proof.Machine.execVerifierOpen m s
  | .verifierAuth m => Sys2Proof.Machine.execVerifierAuth m s
  | .readParameters r => Sys2Proof.Machine.execReadParameters r s
  | .stage r param index value => Sys2Proof.Machine.execStage r param index value s
  | .discard r => Sys2Proof.Machine.execDiscard r s
  | .readTrail r first count => Sys2Proof.Machine.execReadTrail r first count s
  | .chopRectangleRenew => Sys2Proof.Machine.execChopRectangleRenew s
  | .panelFrameStart => Sys2Proof.Machine.execPanelFrameStart s
  | .rectangleUpdateEnd slot => Sys2Proof.Machine.execRectangleUpdateEnd slot s
  | .railsIdleOff => Sys2Proof.Machine.execRailsIdleOff s
  | .railFault => Sys2Proof.Machine.execRailFault s
  | .railRetry => Sys2Proof.Machine.execRailRetry s
  | .panelTemperatureMeasure ntc => Sys2Proof.Machine.execPanelTemperatureMeasure ntc s
  | .redraw p => Sys2Proof.Machine.execRedraw p s
  | .dspClear p => Sys2Proof.Machine.execDspClear p s
  | .reinit r geom => Sys2Proof.Machine.execReinit r geom s
  | .dspPageWrite p v => Sys2Proof.Machine.execDspPageWrite p v s
  | .dspFlWrite p v => Sys2Proof.Machine.execDspFlWrite p v s
  | .panelStartSequence geom => Sys2Proof.Machine.execPanelStartSequence geom s
  | .vinWarning tenMilliVolt => Sys2Proof.Machine.execVinWarning tenMilliVolt s
  | .brownoutEpisodeEnd lowest10mV durationUs => Sys2Proof.Machine.execBrownoutEpisodeEnd lowest10mV durationUs s
  | .supplyUnstableEnd => Sys2Proof.Machine.execSupplyUnstableEnd s
  | .vinResetThreshold tenMilliVolt => Sys2Proof.Machine.execVinResetThreshold tenMilliVolt s
  | .internalSuppliesStop => Sys2Proof.Machine.execInternalSuppliesStop s
  | .vinRestart => Sys2Proof.Machine.execVinRestart s
  | .vinHigh high tenMilliVolt => Sys2Proof.Machine.execVinHigh high tenMilliVolt s
  | .vbakLow milliVolt => Sys2Proof.Machine.execVbakLow milliVolt s
  | .retentionDomainLost => Sys2Proof.Machine.execRetentionDomainLost s
  | .resetPinAssert => Sys2Proof.Machine.execResetPinAssert s
  | .resetPinRelease => Sys2Proof.Machine.execResetPinRelease s
  | .resetInputStuck => Sys2Proof.Machine.execResetInputStuck s
  | .junctionOvertemperature deciC => Sys2Proof.Machine.execJunctionOvertemperature deciC s
  | .startSequence env => Sys2Proof.Machine.execStartSequence env s
  | .warmStartSequence env => Sys2Proof.Machine.execWarmStartSequence env s
  | .runNotReached => Sys2Proof.Machine.execRunNotReached s
  | .failCountClear => Sys2Proof.Machine.execFailCountClear s
  | .commitRestart => Sys2Proof.Machine.execCommitRestart s
  | .surveyMeasurement ch m => Sys2Proof.Machine.execSurveyMeasurement ch m s
  | .surveyFastSample ch on => Sys2Proof.Machine.execSurveyFastSample ch on s
  | .imageWriteBegin r half => Sys2Proof.Machine.execImageWriteBegin r half s
  | .imageWriteData r half offset bytes programming => Sys2Proof.Machine.execImageWriteData r half offset bytes programming s
  | .imageWriteCommit r half => Sys2Proof.Machine.execImageWriteCommit r half s
  | .imageWriteAbort r half => Sys2Proof.Machine.execImageWriteAbort r half s
  | .senderRepeat => Sys2Proof.Machine.execSenderRepeat s
  | .partnerConfirmation => Sys2Proof.Machine.execPartnerConfirmation s
  | .modbusConnectionOpen conn => Sys2Proof.Machine.execModbusConnectionOpen conn s

end Sys2Proof.Machine
end

