-- ==== Sys2Proof/Machine/Step.lean ====
section
/-! DEFINITION. One step of the module: the command at the front of the queue is carried out on the state with the queue's
rest; on an empty queue one tick of the timebase passes (R35, log 14). -/

namespace Sys2Proof.Machine

/-- Whether the timebase counts: the module has its supplies and the timebase oscillator runs (R26, R35). -/
def counting (s : State) : Bool := powered s && s.tim.tbRun

/-- One tick of the timebase, 40 ns (R35); nothing when it does not count. DESIGN CHOICE (log 14). -/
def tick (s : State) : State :=
  if counting s then { s with tim := { s.tim with ticks := s.tim.ticks + 1 } } else s

/-- One step. -/
def step (s : State) : Host.Outcome State Fault Refusal :=
  match s.pending with
  | [] => .next (tick s)
  | c :: q => exec c { s with pending := q }

/-- The state with the command that a word spells put at the front of the queue. The table gives no bits, so no word
spells one and the state is as it was. -/
def State.withFetchWord (s : State) (nbits w : Nat) : State :=
  match decodeTableWord nbits w with
  | some c => { s with pending := c :: s.pending }
  | none => s

end Sys2Proof.Machine
end

