-- ==== Sys2Proof/Safety.lean ====
section
/-! DEFINITION. The terms in which the statements speak: what a command does, which parts of the state it may change, when a
request is admitted and how it is answered, and the invariants of the module. -/

namespace Sys2Proof.Machine

/-- Command `c` in state `s` completes, and the state it leaves satisfies `P`. -/
def Does (c : Instr) (s : State) (P : State → Prop) : Prop := ∃ t, exec c s = .next t ∧ P t

/-- The parts of the state, one for each field of `State`. -/
inductive Part
  | pending | id | img | flash | sup | tim | nibA | nibB | cyc | cmp | lpe | fch | saf | alm | pst | frg | pnw | evr | cvu
  | chop | mtr | mtrLanes | dsp | boot | sent | free
  deriving DecidableEq, Repr

/-- Whether one part is the same in two states. -/
def Part.same (p : Part) (s t : State) : Prop :=
  match p with
  | .pending => t.pending = s.pending
  | .id => t.id = s.id
  | .img => t.img = s.img
  | .flash => t.flash = s.flash
  | .sup => t.sup = s.sup
  | .tim => t.tim = s.tim
  | .nibA => t.nibA = s.nibA
  | .nibB => t.nibB = s.nibB
  | .cyc => t.cyc = s.cyc
  | .cmp => t.cmp = s.cmp
  | .lpe => t.lpe = s.lpe
  | .fch => t.fch = s.fch
  | .saf => t.saf = s.saf
  | .alm => t.alm = s.alm
  | .pst => t.pst = s.pst
  | .frg => t.frg = s.frg
  | .pnw => t.pnw = s.pnw
  | .evr => t.evr = s.evr
  | .cvu => t.cvu = s.cvu
  | .chop => t.chop = s.chop
  | .mtr => t.mtr = s.mtr
  | .mtrLanes => t.mtrLanes = s.mtrLanes
  | .dsp => t.dsp = s.dsp
  | .boot => t.boot = s.boot
  | .sent => t.sent = s.sent
  | .free => t.free = s.free

/-- `t` differs from `s` in no part that is not listed. -/
def Changes (ps : List Part) (s t : State) : Prop := ∀ p : Part, ps.contains p = false → p.same s t

/-- Whether every part of one list stands in another. -/
def subParts (a b : List Part) : Bool := a.all (fun p => b.contains p)

/-- The parts of the state that a command may change. Which of them it does change, and how, its own rule says; the queue
and the identity are in no list. -/
def touches (c : Instr) : List Part :=
  match c with
  | .enterCommissioning _ | .warmRestart _ => [.sup, .pnw, .sent]
  | .leaveCommissioning _ => [.sup, .fch, .pst, .frg, .pnw, .evr, .sent]
  | .hold _ => [.sup, .nibA, .nibB, .cyc, .cmp, .lpe, .fch, .saf, .pst, .frg, .pnw, .evr, .sent]
  | .resume _ => [.sup, .cyc, .lpe, .pst, .pnw, .sent]
  | .restartClassS _ | .leaveDecaf _ | .vinResetThreshold _ | .resetPinAssert | .commitRestart
    => [.sup, .nibA, .nibB, .cyc, .cmp, .fch, .saf, .alm, .pst, .pnw, .evr, .cvu, .dsp, .boot, .sent]
  | .restartOtherImageHalf _
    => [.flash, .sup, .nibA, .nibB, .cyc, .cmp, .fch, .saf, .alm, .pst, .pnw, .evr, .cvu, .dsp, .boot, .sent]
  | .splitLanes _ => [.cyc, .cmp, .pst, .pnw, .sent]
  | .rejoinLanes _ _ => [.cmp, .pst, .pnw, .evr, .sent]
  | .enterMaintenance _ _ | .leaveMaintenance _ _ => [.cyc, .fch, .pst, .pnw, .sent]
  | .openTrim _ _ _ | .setPendingTrim _ _ | .closeTrim _ => [.fch, .pnw, .evr, .sent]
  | .storeTrim _ | .writeTrim _ _ _ _ => [.fch, .pst, .pnw, .evr, .sent]
  | .brakeTest _ _ => [.fch, .saf, .pnw, .evr, .sent]
  | .clearRetainVariables _ | .change _ _ | .forceSet _ _ _ | .forceRelease _ _ | .forceReleaseInCell _ _
    => [.cyc, .pst, .pnw, .sent]
  | .readChangedConstants _ | .identify _ | .eventsFromSeq _ _ _ | .eventsFromOldest _ _ | .eventsFromCursor _ _
  | .eventsNewest _ _ | .subscribe _ _ | .callNotificationSend _ | .modbusOtherFunction _ _ | .ntpPoll => [.pnw, .sent]
  | .cycleT0
    => [.sup, .nibA, .nibB, .cyc, .cmp, .lpe, .fch, .saf, .alm, .pst, .frg, .pnw, .evr, .cvu, .dsp, .boot, .sent, .free]
  | .executeWindowOpen => [.nibA, .nibB, .cyc, .cmp, .mtrLanes]
  | .inputDeadline => [.nibA, .nibB, .cyc, .cmp, .frg, .evr, .mtrLanes]
  | .nop _ _ | .end_ _ | .br _ | .bz _ | .bnz _ | .jmp _ | .call _ | .add _ | .sub _ | .mul _ | .mulh _ | .div _ | .rem _
  | .and_ _ | .or_ _ | .xor_ _ | .shl _ | .shr _ | .sar _ | .slt _ | .sltu _ | .seq _ | .min _ | .addi _ | .andi _
  | .ori _ | .xori _ | .shli _ | .shri _ | .sari _ | .slti _ | .seqi _ | .lui _ | .orim _ | .fadd _ | .fsub _ | .fmul _
  | .fdiv _ | .fsqrt _ | .fmin _ | .fmax _ | .fabs _ | .fneg _ | .flt _ | .fle _ | .feq _ | .itof _ | .ftoi _ | .fma _
  | .ld _ | .st _ | .ldx _ | .stx _ | .in_ _ | .out _ | .cellin _ | .cellout _ | .ton _ _ _ | .tof _ _ _ | .tp _ _ _
  | .ctu _ _ _ | .ctd _ _ _ | .ctud _ _ _ | .rTrig _ _ _ | .fTrig _ _ _ | .cv _ _ _ | .timel _ _ _ | .timeh _ _ _
  | .evpost _ _ _ | .cellstat _ _ _ | .cellmode _ _ _ | .checkpointCompare _ | .compareStalled | .dataDigestComplete
  | .alarmEvaluation _ | .scrubStep _ | .bistInjectionTest _
    => [.sup, .nibA, .nibB, .cyc, .cmp, .fch, .saf, .alm, .pst, .frg, .pnw, .evr, .cvu, .dsp, .boot, .sent]
  | .objrd _ _ _ | .outputRelease
    => [.sup, .tim, .nibA, .nibB, .cyc, .cmp, .lpe, .fch, .saf, .alm, .pst, .frg, .pnw, .evr, .cvu, .dsp, .boot, .sent, .free]
  | .objwr _ _ _
    => [.sup, .tim, .nibA, .nibB, .cyc, .cmp, .lpe, .fch, .saf, .alm, .pst, .frg, .pnw, .evr, .cvu, .dsp, .boot, .sent]
  | .checkpointAppendResume _ => [.nibA, .nibB, .cmp]
  | .laneStalled _ | .bistTestSequence _
    => [.sup, .nibA, .nibB, .cyc, .cmp, .fch, .saf, .alm, .pst, .frg, .pnw, .evr, .cvu, .dsp, .boot, .sent, .free]
  | .compareComplete => [.nibA, .nibB, .cyc, .cmp]
  | .commitSend | .linkDelayMeasure _ | .hsrSupervisionSend => [.frg, .sent]
  | .lateCompareComplete
    => [.sup, .tim, .nibA, .nibB, .cyc, .cmp, .lpe, .fch, .alm, .pst, .frg, .pnw, .evr, .cvu, .dsp, .boot, .sent]
  | .speedGaugeUpdate _ _ | .brownoutCeilingHoldEnd => [.tim]
  | .gaugeDisagreement | .speedFloorLost | .ceilingUnattainable | .barrierOverload _ => [.tim, .evr]
  | .timeReferenceCheck _ _ | .junctionOvertemperature _
    => [.sup, .tim, .nibA, .nibB, .cyc, .cmp, .fch, .saf, .alm, .pst, .frg, .pnw, .evr, .cvu, .dsp, .boot, .sent]
  | .governorEvaluation _ => [.tim, .lpe, .pst, .evr, .dsp]
  | .operatorCeilingWrite _ _ => [.tim, .pnw, .sent]
  | .barrierLimit _ => [.tim, .fch, .evr]
  | .loopTick _ _ | .loopOutputHandoff _
    => [.sup, .nibA, .nibB, .cyc, .cmp, .lpe, .fch, .saf, .alm, .pst, .frg, .pnw, .evr, .cvu, .dsp, .boot, .sent]
  | .operatorModeRequest _ _ _ | .operatorSetpointWrite _ _ _ | .manualValueWrite _ _ _ | .traceArm _ _ | .traceForce _ _
  | .traceStop _ _ | .traceConfigWrite _ _ _ _ => [.lpe, .pnw, .sent]
  | .takeoverRampEnd _ | .testPulseStart _ | .couplerFrame _ _ _ _ => [.fch]
  | .safetyInputFilterTick _ _ | .debounceAccept _ _ | .sensorSupplyTrip _ | .sensorSupplyRetry _ _
  | .outputOverloadTrip _ | .outputOverloadRetry _ _ | .openLoadDetect _ _ | .parallelImbalance _ _ | .pwmPeriodStart _ _
  | .testPulseEnd _ _ | .thermocoupleBreakTest _ _ | .frequencyGate _ _ _ | .frequencyTimeout _ | .pulseEdge _
  | .partnerOutputMismatch _ _ | .sharedInputTakeoverCheck _ _ _ | .groupSupplyLevelChange _ _ _ _
  | .readbackDiagnosticsResume _ | .groupLinkRestore _ | .readbackConversion _ _ | .trimUpPress _ | .trimDnPress _
  | .trimRepeat _ _ | .trimInputStuck _ | .trimSessionTimeout => [.fch, .evr]
  | .shortToSupplyDetect _ _ | .sagLatchTimer _ | .quillStreamLost _ | .quillEvaluation | .discrepancyTimeout _
  | .safetyOffDelayEnd _ | .twoHandSyncMiss _ | .testPulseCheck _ _ | .resetDemand _ _ | .switchOffTest _ _ _
  | .edmTimeout _ | .brakeFeedbackTimeout _ | .brakeTestEdge _ | .brakeTorqueTimeout _ | .brakeTestEnd _ => [.fch, .saf, .evr]
  | .conversionComplete _ _ => [.fch, .evr, .free]
  | .groupLinkLost _ | .fieldRingSilence => [.fch, .saf, .alm, .pst, .evr, .dsp, .sent]
  | .trimSetPress => [.fch, .pst, .evr, .sent]
  | .resetInputHeldLong _ => [.saf]
  | .brkageTick => [.saf, .evr]
  | .acknowledgePoint _ _ | .acknowledgeGroup _ _ | .acknowledgeAll _ | .shelve _ _ _ | .unshelve _ _ | .silence _
  | .acceptCall _ _ _ | .assignDuty _ _ _ _ | .deadManOn _ _ | .deadManReset _ | .deadManOff _ => [.alm, .pst, .pnw, .sent]
  | .pointOnDelayEnd _ | .pointOffDelayEnd _ | .blockReleaseDelayEnd _ | .shelfTimeEnd _ | .callStage1 _ | .callStage2 _
  | .deadManIntervalEnd | .deadManPrewarningEnd => [.alm, .pnw, .evr, .dsp, .sent]
  | .alcSend | .hbtSend => [.alm, .sent]
  | .acnAcknowledge _ | .acnSilence _ => [.alm, .pst, .sent]
  | .acnRequestRepeat _ | .acnIgnored => [.alm]
  | .interlockPeerNetChange _ _ | .unannouncedTakeover
    => [.sup, .nibA, .nibB, .cyc, .cmp, .lpe, .fch, .saf, .alm, .pst, .frg, .pnw, .evr, .dsp, .sent]
  | .interlockStuck => [.fch, .saf, .pst, .evr]
  | .interlockStuckEnd => [.fch, .pst, .evr]
  | .roleWaitEnd => [.sup, .pst]
  | .releaseReceived _ | .carafeFrameReceived _ | .carafeAckReceived _ | .stationExportReceived _ _ _ => [.pst, .cvu, .sent]
  | .roleTransfer => [.sup, .nibA, .nibB, .cyc, .cmp, .lpe, .fch, .saf, .alm, .pst, .frg, .evr, .dsp, .sent]
  | .takeBack => [.pst]
  | .swap _ | .resync _ | .inhibitTakeBack _ | .allowTakeBack _ => [.pst, .pnw, .dsp, .sent]
  | .roleSwapDue => [.pst, .evr]
  | .deltaApply => [.nibA, .nibB, .cyc, .cmp, .lpe, .fch, .saf, .alm, .pst, .frg, .evr, .dsp, .sent]
  | .deltaLost => [.pst, .evr, .dsp]
  | .joinCopyComplete | .stationLinkDown _ => [.pst, .dsp]
  | .twinStepDigest _ => [.nibA, .nibB, .cyc, .cmp, .pst, .evr, .cvu, .dsp, .sent]
  | .forwardedCommand _ _ => [.cyc, .cmp, .fch, .alm, .pst, .evr, .cvu, .dsp, .sent]
  | .partnerConfirmTimeout => [.cyc, .cmp, .fch, .alm, .pst, .pnw, .sent]
  | .helloSend | .timeMarkSend | .senderRepeat => [.pst, .sent]
  | .helloReceived _ _ | .speakerElection => [.pst, .pnw, .evr, .cvu, .boot, .sent]
  | .stationLinkUp _ _ => [.pst, .dsp, .sent]
  | .timeMarkReceived _ _ _ => [.pst, .pnw, .evr, .cvu, .sent]
  | .slkInjectorWrite _ _ _ | .frgInjectorWrite _ _ _ => [.pst, .frg, .pnw, .sent]
  | .testpInputChange _ => [.pst, .frg]
  | .syncReceived _ _ => [.frg, .cvu, .sent, .free]
  | .remoteInputReceived _ _ => [.cyc, .frg, .cvu, .sent]
  | .remoteJoinReceived _ _ | .linkReqReceived _ _ | .linkRspReceived _ _ _ => [.frg, .cvu, .sent]
  | .ringPathLost _ | .ringPortDown _ => [.frg]
  | .prpSupervisionSend => [.sent]
  | .plantPathLost _ _ | .plantPathRestored | .notificationAcknowledgement _ | .authenticationBlockEnd _
  | .modbusConnectionTimeout _ | .modbusConnectionOpen _ => [.pnw]
  | .open_ _ _ _ _ => [.pnw, .sent, .free]
  | .auth _ _ _ | .callNotificationRetry _ => [.pnw, .evr, .sent]
  | .close _ => [.pnw, .cvu, .boot, .sent]
  | .read _ _ _ | .readvar _ _ _ | .modbusReadHolding _ _ _ | .modbusReadInput _ _ _
    => [.sup, .tim, .cyc, .cmp, .lpe, .fch, .alm, .pst, .frg, .pnw, .evr, .dsp, .sent, .free]
  | .write _ _ _ | .modbusWriteSingle _ _ _ | .modbusWriteMultiple _ _ _ _ _
    => [.sup, .tim, .cyc, .cmp, .lpe, .fch, .alm, .pst, .frg, .pnw, .evr, .cvu, .dsp, .boot, .sent]
  | .sessionTimeout _ => [.pnw, .cvu, .boot]
  | .ntpResponse _ _ | .addressConflict => [.pnw, .free]
  | .utcStepped => [.pnw, .evr]
  | .rtcSet | .supplyUnstableEnd | .vinHigh _ _ | .vbakLow _ | .retentionDomainLost => [.sup]
  | .flushAgeTimeout | .floodWindowEnd | .recordsLostPointEnd => [.evr]
  | .flushComplete | .internalSuppliesStop
    => [.img, .sup, .tim, .nibA, .nibB, .cyc, .cmp, .lpe, .fch, .saf, .alm, .pst, .frg, .pnw, .evr, .cvu, .mtr, .mtrLanes, .dsp, .boot, .free]
  | .evrCursorWrite _ _ | .evrNext _ | .evrPrev _ | .evrOldest _ | .evrNewest _ => [.nibA, .nibB, .cyc, .pnw, .evr, .sent]
  | .cvuStart _ _ | .cvuClear _ _ | .cvuValueWrite _ _ _ | .cvuByteFeed _ _ _ | .cvuExpectWrite _ _ _
  | .cvuConfigWrite _ _ _ => [.nibA, .nibB, .cyc, .pnw, .cvu, .sent]
  | .cvuDataFeed _ _ _ _ => [.nibA, .nibB, .cyc, .alm, .pnw, .cvu, .sent]
  | .cvuClaimWrite _ _ => [.pnw, .cvu, .sent]
  | .chopPowerOn _ _ _ | .meterPulseEdge _ _ _ | .gradeChange _ _ | .gradeUnknown _ | .verifierSwitchOpen
  | .verifierSwitchClose => [.chop]
  | .chopSupplyFall | .chopStep _ => [.chop, .free]
  | .chopExportSend | .verifierAuth _ | .readParameters _ | .stage _ _ _ _ | .discard _ | .readTrail _ _ _ => [.chop, .sent]
  | .chopExportReceived _ => [.chop, .mtr]
  | .chopExportStale => [.mtr]
  | .verifierOpen _ => [.chop, .sent, .free]
  | .chopRectangleRenew | .rectangleUpdateEnd _ | .railsIdleOff | .railFault | .railRetry | .panelTemperatureMeasure _
  | .panelStartSequence _ => [.dsp]
  | .panelFrameStart => [.evr, .dsp]
  | .redraw _ | .dspClear _ | .dspPageWrite _ _ | .dspFlWrite _ _ => [.nibA, .nibB, .cyc, .pnw, .dsp, .sent]
  | .reinit _ _ => [.pnw, .dsp, .sent]
  | .vinWarning _ => [.sup, .evr, .dsp]
  | .brownoutEpisodeEnd _ _ => [.sup, .tim, .evr, .dsp, .free]
  | .vinRestart | .resetPinRelease | .resetInputStuck => [.sup, .free]
  | .startSequence _
    => [.img, .sup, .tim, .nibA, .nibB, .cyc, .cmp, .lpe, .fch, .saf, .alm, .pst, .pnw, .evr, .cvu, .dsp, .boot, .sent, .free]
  | .warmStartSequence _
    => [.sup, .tim, .nibA, .nibB, .cyc, .cmp, .lpe, .fch, .saf, .alm, .pst, .pnw, .evr, .cvu, .dsp, .boot, .sent, .free]
  | .runNotReached
    => [.img, .sup, .nibA, .nibB, .cyc, .cmp, .fch, .saf, .alm, .pst, .pnw, .evr, .cvu, .dsp, .boot, .sent, .free]
  | .failCountClear => [.sup, .boot]
  | .surveyMeasurement _ _ | .surveyFastSample _ _ => [.fch, .evr, .dsp, .boot]
  | .imageWriteBegin _ _ | .imageWriteData _ _ _ _ _ | .imageWriteCommit _ _ => [.flash, .pnw, .boot, .sent]
  | .imageWriteAbort _ _ => [.pnw, .boot, .sent]
  | .partnerConfirmation => [.fch, .alm, .pst, .pnw, .dsp, .sent]

/-! ### Requests (R327 to R333) -/

/-- What admission asks of a request's message itself, under a session key: a datagram with a right FCS, VER 1, TYPE 0, a listed
service, a body that its LEN holds, a right TAG (R323, R327, R328, R330). -/
def rightMessage (key : List Byte) (r : Req) : Bool :=
  !r.rx.fcsBad && r.ver == 1 && r.typ == 0 && !unlisted r && !malformed r && tagRight key r && r.sess != 0

/-- Whether a request passes admission at a level: a first copy of a right message, for an open session and above its last SEQ, one of
at most 200 in the second, this module as TARGET, the session's LEVEL, and that level high enough (R323, R327, R330, R331, log
152). -/
def admits (r : Req) (lvl : BitVec 2) (s : State) : Bool :=
  match findSession s r.sess with
  | none => false
  | some x => rightMessage x.key r && !duplicateFrame r.rx s && decide (x.seq < r.seq) &&
      decide ((countRequest (nowUs s) x).reqCnt ≤ 200) && !elsewhere r s && x.level.toNat == r.level.toNat && decide (lvl ≤ x.level)

/-- The state with the request's SEQ taken over, the request counted and its datagram noted (R323, R330). -/
def admitted (r : Req) (s : State) : State :=
  match findSession s r.sess with
  | none => s
  | some x => setSession r.sess (fun _ => { countRequest (nowUs s) x with seq := r.seq }) (noteFrame r.rx s)

/-- The response that a request of an open session gets, as it goes out on the plant network (R323, R327). -/
def responses (r : Req) (st : BitVec 16) (body : List Byte) (s : State) : List Emit :=
  match findSession s r.sess with
  | none => []
  | some x => [.lan (lanSeq s) (.message (messageTo x 1 r.service r.seq (le16 st ++ body)))]

/-- The request was answered with a status and a body, and nothing else was sent or kept of it. -/
def Answered (r : Req) (st : BitVec 16) (body : List Byte) (s t : State) : Prop :=
  t.sent = s.sent ++ responses r st body s ∧ t.pnw = (admitted r s).pnw

/-- The request was accepted: by a single module it was answered with OK and a body; by a pair member with its partner present the
command was forwarded with the station time of its acceptance, and the answer waits for the confirmation (R79, R333). -/
def AcceptedWith (r : Req) (body : List Byte) (c : FwdCmd) (s t : State) : Prop :=
  t.pnw = (admitted r s).pnw ∧
  (if paired s then t.sent = (forwardNow c s).sent ∧
      t.pst = { (forwardNow c s).pst with unconfirmed := s.pst.unconfirmed ++ [(c, .sess r body, nowUs s)] }
   else t.sent = s.sent ++ responses r stOk body s ∧ t.pst = s.pst)

/-- The request was accepted, and its answer has no body. -/
def AcceptedBoth (r : Req) (c : FwdCmd) (s t : State) : Prop := AcceptedWith r [] c s t

/-! ### Station link frames (R295, R300, R301) -/

/-- Whether a frame that arrives on a port is right and new: its check value is that of its bytes, and its sequence neither a repeat
nor behind the window (R300). -/
def takenIn (p : Nat) (h : SlHdr) (s : State) : Bool := h.check == slCheck s p h && (slWindow h.seq (slPort s p)).isSome

/-- The state in which the content of such a frame is dealt with: the port has counted it, with what its window lost, and a standby may
have asked for a missing one (R289, R303, log 148). -/
def taken (p : Nat) (h : SlHdr) (s : State) : State :=
  match slWindow h.seq (slPort s p) with
  | none => s
  | some x => noticeGap (slPort s p) p (setSlPort p (fun _ => { x with frames := x.frames + 1 }) s)

/-- A port that passes frames on unchanged: its injector disarmed, nothing held, no module of another plan at its far end. -/
def passes (s : State) (p : Nat) : Bool :=
  (slPort s p).inj == 0 && (slPort s p).injHeld.isNone && !(tget {} s.pst.peers (portPeer s p)).mism

/-- A frame as it goes out on a port that passes frames on. -/
def onLink (p : Nat) (s : State) (e : Emit) : Emit := .link p s.pst.slot (slPort s p).txSeq e

/-- A frame that is not taken leaves no trace but its count: a wrong check value is counted, a repeat or one behind the window
changes nothing (R300, R303, R362). -/
def Lost (p : Nat) (h : SlHdr) (c : Instr) (s : State) : Prop :=
  (h.check ≠ slCheck s p h → Does c s (fun t => (slPort t p).errCheck = inc16 (slPort s p).errCheck ∧ t.sent = s.sent ∧
    t.pst = { s.pst with ports := t.pst.ports } ∧ (∀ q, q ≠ p → slPort t q = slPort s q) ∧
    (tget {} t.cvu.ctx 1).count = inc16 (tget {} s.cvu.ctx 1).count ∧ Changes [.pst, .cvu] s t)) ∧
  (h.check = slCheck s p h → slWindow h.seq (slPort s p) = none → exec c s = .next s)

/-! ### The lanes (R52 to R57) -/

/-- Whether a lane comes to a word and a code word follows it: the lane runs, its pc names the word (R56, R61). -/
def ready (s : State) (l : Lane) (w : Word) : Bool := fetches s l w && decide ((lane s l).pc + 1 < 0x40000)

/-- A lane after a word that writes `v` to g[d]: the word counted, the pc one further, the register written. -/
def wrote (d : BitVec 6) (v : Word) (x : LaneSt) : LaneSt := { gwrite d v x with ops := x.ops + 1, pc := x.pc + 1 }

/-- A lane after a word that writes no register: the word counted, the pc at `pc`. -/
def stepped (pc : Nat) (x : LaneSt) : LaneSt := { x with ops := x.ops + 1, pc := pc }

/-! ### Channels (R149 to R183) -/

/-- `t` is `s` with channel index i holding `c` and its quality looked at again: CODE is the code of R151; its sticky bits,
its fault count and the record of the change follow R183. No other channel, and no group, changed. -/
def ChanNow (i : Nat) (c : Chan) (s t : State) : Prop :=
  chan t i = { c with code := qualCode t i, rangeShown := (chan t i).rangeShown, evt := (chan t i).evt, faults := (chan t i).faults } ∧
  (∀ j, j ≠ i → chan t j = chan s j) ∧ t.fch = { s.fch with ch := t.fch.ch, evt := t.fch.evt } ∧ Changes [.fch, .evr] s t

/-- As `ChanNow`, for every member of the paralleled set of channel index i (R161). -/
def SetNow (i : Nat) (f : Chan → Chan) (s t : State) : Prop :=
  (∀ j ∈ setMembers s i, chan t j = { f (chan s j) with code := qualCode t j, rangeShown := (chan t j).rangeShown, evt := (chan t j).evt, faults := (chan t j).faults }) ∧
  (∀ j, j ∉ setMembers s i → chan t j = chan s j) ∧ t.fch = { s.fch with ch := t.fch.ch, evt := t.fch.evt } ∧
  Changes [.fch, .evr] s t

/-- The other trim point (R189). -/
def otherPoint : TrimPoint → TrimPoint
  | .zero => .span
  | .span => .zero

/-! ### The Chop's own events (R372) -/

/-- The events of the Chop itself: its supply, its pulses and step, its optical port, its exports. -/
def ownChop (c : Instr) : Bool :=
  match c with
  | .chopPowerOn .. | .chopSupplyFall | .meterPulseEdge .. | .chopStep .. | .gradeChange .. | .gradeUnknown ..
  | .chopExportSend | .verifierSwitchOpen | .verifierSwitchClose | .verifierOpen .. | .verifierAuth ..
  | .readParameters .. | .stage .. | .discard .. | .readTrail .. => true
  | _ => false

/-! ### What every step keeps -/

/-- What holds of a safe output pair whose switches are closed (R203, R229): its Quill enable, the lanes' enable and the
switching request last released, and no latch. -/
def PairOk (p : Pair) : Prop := p.on = true → p.qen = true ∧ p.len = true ∧ p.req = true ∧ latched p = false

/-- Every pair is in order. -/
def PairsOk (s : State) : Prop := ∀ p ∈ s.saf.pairs, PairOk p.2

/-- The Inkwell's ring (R346, R347, R350): at most 8 192 unflushed records, numbered without a gap, the newest of them one
below the next SEQ. -/
def RingOk (s : State) : Prop :=
  s.evr.ring.length ≤ 8192 ∧
  s.evr.ring.map (·.seq) = (List.range s.evr.ring.length).map (fun i => s.evr.next - BitVec.ofNat 32 (s.evr.ring.length - i))

end Sys2Proof.Machine
end

