-- ==== Sys2Proof/Certificates/Slice0/Obligations.lean ====
section
/-! DEFINITION. The statements for the provers. -/

section

open Sys2Proof Sys2Proof.Machine

/-- With any command c at the front of the queue and any rest q behind it, one step answers exactly what exec answers for c
on the same state with q as its queue. This is the rule by which the statements about commands reach a run; the queue is
the model's own form of the outside world. (R22) -/
def Obligations.StepRunsFrontCommand : Prop :=
  ∀ (c : Instr) (q : List Instr) (s : State), step { s with pending := c :: q } = exec c { s with pending := q }

/-- The model's choice (log 14): on an empty queue a step lets one tick of the timebase pass, so that every command can find
every time. It adds 1 to the count where the module has its supplies, is not held in reset and the timebase runs, and
changes nothing else; otherwise it changes nothing. (R35) -/
def Obligations.EmptyQueueIsOneTick : Prop :=
  ∀ s : State, s.pending = [] →
    (counting s = true → step s = .next { s with tim := { s.tim with ticks := s.tim.ticks + 1 } }) ∧
    (counting s = false → step s = .next s)

/-- For each of the 352 commands the model lists the parts of the state its rules let it change (the lanes, the registers of
one region, the panel, the flash, the Chop, what was sent). Whatever the state, a command that answers a next state
leaves every other part equal. No list holds the queue of commands or the module's fused identity. (R7, R52, R372) -/
def Obligations.CommandKeepsItsFrame : Prop :=
  (∀ (c : Instr) (s t : State), exec c s = .next t → Changes (touches c) s t) ∧
  (∀ c : Instr, (touches c).contains .pending = false ∧ (touches c).contains .id = false)

/-- Resets of every class, starts, image loads, online changes, forces, Hold, Safe, Decaf, Split, the governor and
take-overs are commands of the module: none of them changes the Chop's totals, parameters, audit trail or any other of
its state. The only commands that do are the 15 events of the Chop's own supply, pulses, step, optical port and exports;
the module's reception of an export takes the one frame in transit and leaves the rest. (R372, R377, R383) -/
def Obligations.ChopUnaffected : Prop :=
  ∀ (c : Instr) (s t : State), exec c s = .next t → ownChop c = false →
    { t.chop with frame := s.chop.frame } = s.chop ∧ ((∀ ok, c ≠ .chopExportReceived ok) → t.chop = s.chop)

/-- Whatever the state, a command other than IMAGE_WRITE_BEGIN, IMAGE_WRITE_DATA, IMAGE_WRITE_COMMIT and
RESTART_OTHER_IMAGE_HALF leaves both halves of the configuration flash as they were. (R444, R446, R447) -/
def Obligations.FlashWrittenByItsWriterAlone : Prop :=
  ∀ (c : Instr) (s t : State), exec c s = .next t →
    (∀ r a, c ≠ .imageWriteBegin r a) → (∀ r a b d e, c ≠ .imageWriteData r a b d e) → (∀ r h, c ≠ .imageWriteCommit r h) →
    (∀ r, c ≠ .restartOtherImageHalf r) → t.flash = s.flash

/-- From every state in which each safe output pair whose switches are closed has QEN true, LEN true, a switching request
and no latched fault, every step leads to such a state again: no command, on any path, leaves a pair closed without all
of them. (R203, R205, R229, R271) -/
def Obligations.ClosedPairIsEnabled : Prop :=
  ∀ s t : State, PairsOk s → step s = .next t → PairsOk t

/-- From every state whose ring of unflushed records is at most 8 192 long and numbered consecutively, its newest one below
the next SEQ, every step leads to such a state again, through postings, suppressions, drops, flushes, resets and starts.
(R346, R347, R350) -/
def Obligations.RingNumberedWithoutGap : Prop :=
  ∀ s t : State, RingOk s → step s = .next t → RingOk t

/-- State.reset is the module after a power-on reset before its start sequence: state Start, no pair closed, no record in
the ring, the first SEQ 0, nothing sent, no command waiting; the invariants of the pairs and of the ring hold there.
(R11, R203, R346) -/
def Obligations.ResetInOrder : Prop :=
  PairsOk State.reset ∧ RingOk State.reset ∧ State.reset.sup.mode = .start ∧ State.reset.evr.next = 0 ∧ State.reset.sent = [] ∧
  State.reset.pending = []

/-- The memories, register files and tables of the model are lists of index and value in one canonical form (the model's
own, log 2). Writing an entry makes exactly that index read as the value, every other index as before, and keeps the
form; so do changing an entry, several entries and every entry. (R52, R55) -/
def Obligations.TablesKeepTheirForm : Prop :=
  ∀ (α : Type) [DecidableEq α] (d : α) (t : Tab α) (i j : Nat) (v : α) (f : α → α) (l : List (Nat × α)),
    tget d (tput d t i v) i = v ∧ (j ≠ i → tget d (tput d t i v) j = tget d t j) ∧
    (twf d t = true → twf d (tput d t i v) = true ∧ twf d (tmod d t i f) = true ∧ twf d (tputs d t l) = true ∧
      twf d (tmap d f t) = true)

/-- In every lane state g0 reads as 0x0000_0000. A write to g0 leaves the lane exactly as it was, its register-write
signature included. A write to any other register, g63 among them, makes that register read as the value written, leaves
every other register and everything else of the lane as it was, and folds the register number and the value into the
signature. (R57) -/
def Obligations.RegisterFile : Prop :=
  ∀ (x : LaneSt) (n m : BitVec 6) (v : Word),
    greg x 0 = 0 ∧ gwrite 0 v x = x ∧
    (n ≠ 0 → greg (gwrite n v x) n = v ∧ (m ≠ n → greg (gwrite n v x) m = greg x m) ∧
      (gwrite n v x).sigReg = crc32cWords x.sigReg [n.setWidth 32, v] ∧
      { gwrite n v x with g := x.g, sigReg := x.sigReg } = x)

/-- For ADD, SUB, MUL, MULH, AND, OR, XOR, SHL, SHR, SAR, SLT, SLTU, SEQ and MIN, in every state in which the lane comes to
the operation's word (unused bits of B zero) and a code word follows: exec answers the next state in which g[D] holds
the result of R58 for g[A] and g[B] as they stood before (g0 discards), the pc is one further, one more block operation
is counted, the register signature is folded, and nothing else of the module has changed. The results are given by
integer arithmetic modulo 2^32. (R56, R57, R58, R59) -/
def Obligations.IntegerOperations : Prop :=
  ∀ p ∈ ([
      (.add, 0x10, fun a b => BitVec.ofInt 32 (a.toInt + b.toInt)),
      (.sub, 0x11, fun a b => BitVec.ofInt 32 (a.toInt - b.toInt)),
      (.mul, 0x12, fun a b => BitVec.ofNat 32 (a.toNat * b.toNat)),
      (.mulh, 0x13, fun a b => (a.signExtend 64 * b.signExtend 64).extractLsb' 32 32),
      (.and_, 0x16, fun a b => a &&& b),
      (.or_, 0x17, fun a b => a ||| b),
      (.xor_, 0x18, fun a b => a ^^^ b),
      (.shl, 0x19, fun a b => BitVec.ofNat 32 (a.toNat * 2 ^ (b.toNat % 32))),
      (.shr, 0x1A, fun a b => BitVec.ofNat 32 (a.toNat / 2 ^ (b.toNat % 32))),
      (.sar, 0x1B, fun a b => BitVec.ofInt 32 (a.toInt / 2 ^ (b.toNat % 32))),
      (.slt, 0x1C, fun a b => if a.toInt < b.toInt then 1 else 0),
      (.sltu, 0x1D, fun a b => if a.toNat < b.toNat then 1 else 0),
      (.seq, 0x1E, fun a b => if a = b then 1 else 0),
      (.min, 0x1F, fun a b => if a.toInt < b.toInt then a else b)] : List ((Blk → Instr) × BitVec 8 × (Word → Word → Word))),
    ∀ (o : Blk) (s : State), o.b.extractLsb' 0 6 = 0 → ready s o.l (blkWord p.2.1 o.d o.a o.b) = true →
      exec (p.1 o) s = .next (setLane o.l (fun x => wrote o.d (p.2.2 (greg x o.a) (greg x (regB o))) x) s)

/-- In every state in which the lane comes to a DIV or REM word and a code word follows, exec answers the next state in
which g[D] holds the quotient truncated toward zero, or the remainder with the dividend's sign; for a divisor of 0 it
holds 0, or the dividend, and DIVZ of CYC_EVT is set. DIV of 0x8000_0000 by 0xFFFF_FFFF gives 0x8000_0000 and REM 0. The
pc is one further, the operation counted, nothing else changed: the operation does not trap. (R59) -/
def Obligations.Division : Prop :=
  ∀ (o : Blk) (s : State), o.b.extractLsb' 0 6 = 0 →
    let a := greg (lane s o.l) o.a
    let b := greg (lane s o.l) (regB o)
    let divz := fun t : State => if b = 0 then { t with cyc := { t.cyc with evt := setBit t.cyc.evt 1 } } else t
    (ready s o.l (blkWord 0x14 o.d o.a o.b) = true → ∃ q : Word,
      exec (.div o) s = .next (divz (setLane o.l (wrote o.d q) s)) ∧
      (b = 0 → q = 0) ∧ (a = 0x80000000 → b = 0xFFFFFFFF → q = 0x80000000) ∧
      (b ≠ 0 → q = BitVec.ofInt 32 (a.toInt.tdiv b.toInt))) ∧
    (ready s o.l (blkWord 0x15 o.d o.a o.b) = true → ∃ r : Word,
      exec (.rem o) s = .next (divz (setLane o.l (wrote o.d r) s)) ∧
      (b = 0 → r = a) ∧ (a = 0x80000000 → b = 0xFFFFFFFF → r = 0) ∧
      (b ≠ 0 → r = BitVec.ofInt 32 (a.toInt.tmod b.toInt)))

/-- For ADDI, ANDI, ORI, XORI, SHLI, SHRI, SARI, SLTI, SEQI, LUI and ORIM, with the unused fields zero, in every state in
which the lane comes to the word and a code word follows: g[D] holds the result of R58 for g[A] and the immediate B,
sign-extended for ADDI, SLTI and SEQI, zero-extended for the others, the shift distance B[4:0]; the pc is one further,
the operation counted, nothing else changed. (R56, R57, R58) -/
def Obligations.ImmediateOperations : Prop :=
  ∀ p ∈ ([
      (.addi, 0x20, fun _ => true, fun a b => BitVec.ofInt 32 (a.toInt + b.toInt)),
      (.andi, 0x21, fun _ => true, fun a b => a &&& BitVec.ofNat 32 b.toNat),
      (.ori, 0x22, fun _ => true, fun a b => a ||| BitVec.ofNat 32 b.toNat),
      (.xori, 0x23, fun _ => true, fun a b => a ^^^ BitVec.ofNat 32 b.toNat),
      (.shli, 0x24, fun o => o.b.extractLsb' 5 7 == 0, fun a b => BitVec.ofNat 32 (a.toNat * 2 ^ b.toNat)),
      (.shri, 0x25, fun o => o.b.extractLsb' 5 7 == 0, fun a b => BitVec.ofNat 32 (a.toNat / 2 ^ b.toNat)),
      (.sari, 0x26, fun o => o.b.extractLsb' 5 7 == 0, fun a b => BitVec.ofInt 32 (a.toInt / 2 ^ b.toNat)),
      (.slti, 0x27, fun _ => true, fun a b => if a.toInt < b.toInt then 1 else 0),
      (.seqi, 0x28, fun _ => true, fun a b => if a.toInt = b.toInt then 1 else 0),
      (.lui, 0x29, fun o => o.a == 0, fun _ b => BitVec.ofNat 32 (b.toNat * 2 ^ 20)),
      (.orim, 0x2A, fun _ => true, fun a b => a ||| BitVec.ofNat 32 (b.toNat * 2 ^ 8))] :
        List ((Blk → Instr) × BitVec 8 × (Blk → Bool) × (Word → BitVec 12 → Word))),
    ∀ (o : Blk) (s : State), p.2.2.1 o = true → ready s o.l (blkWord p.2.1 o.d o.a o.b) = true →
      exec (p.1 o) s = .next (setLane o.l (fun x => wrote o.d (p.2.2.2 (greg x o.a) o.b) x) s)

/-- For FADD, FSUB, FMUL, FDIV, FSQRT, FMIN, FMAX, FABS, FNEG, FLT, FLE, FEQ, ITOF, FTOI and FMA, with the unused fields
zero, in every state in which the lane comes to the word and a code word follows: exec answers the next state with the
result in g[D], the pc one further, the operation counted, nothing else changed. The arithmetic results are those of the
model's exact binary32 functions, rounded once. Every result but those of FLT, FLE, FEQ and FTOI that is a NaN is
0x7FC0_0000; FMIN and FMAX return the other operand when one is a NaN and take −0 as less than +0; the comparisons give
0 when an operand is a NaN; FTOI saturates and gives 0 for a NaN. That FABS and FNEG of a NaN give 0x7FC0_0000 is the
model's reading (log 23). (R56, R57, R58, R60) -/
def Obligations.FloatingPoint : Prop :=
  (∀ p ∈ ([
      (.fadd, 0x30, fadd), (.fsub, 0x31, fsub), (.fmul, 0x32, fmul), (.fdiv, 0x33, fdiv), (.fmin, 0x35, fmin),
      (.fmax, 0x36, fmax), (.flt, 0x39, fun a b => if flt a b then 1 else 0), (.fle, 0x3A, fun a b => if fle a b then 1 else 0),
      (.feq, 0x3B, fun a b => if feq a b then 1 else 0)] : List ((Blk → Instr) × BitVec 8 × (Word → Word → Word))),
    ∀ (o : Blk) (s : State), o.b.extractLsb' 0 6 = 0 → ready s o.l (blkWord p.2.1 o.d o.a o.b) = true →
      exec (p.1 o) s = .next (setLane o.l (fun x => wrote o.d (p.2.2 (greg x o.a) (greg x (regB o))) x) s)) ∧
  (∀ p ∈ ([
      (.fsqrt, 0x34, fsqrt), (.fabs, 0x37, fun a => if fnan a then 0x7FC00000 else a &&& 0x7FFFFFFF),
      (.fneg, 0x38, fun a => if fnan a then 0x7FC00000 else a ^^^ 0x80000000), (.itof, 0x3C, itof), (.ftoi, 0x3D, ftoi)] :
        List ((Blk → Instr) × BitVec 8 × (Word → Word))),
    ∀ (o : Blk) (s : State), o.b = 0 → ready s o.l (blkWord p.2.1 o.d o.a o.b) = true →
      exec (p.1 o) s = .next (setLane o.l (fun x => wrote o.d (p.2.2 (greg x o.a)) x) s)) ∧
  (∀ (o : Blk) (s : State), o.b.extractLsb' 0 6 = 0 → ready s o.l (blkWord 0x3E o.d o.a o.b) = true →
      exec (.fma o) s = .next (setLane o.l (fun x => wrote o.d (ffma (greg x o.d) (greg x o.a) (greg x (regB o))) x) s)) ∧
  (∀ f ∈ [fadd, fsub, fmul, fdiv, fmin, fmax], ∀ a b : Word, fnan (f a b) = true → f a b = 0x7FC00000) ∧
  (∀ a b c : Word, (fnan (fsqrt a) = true → fsqrt a = 0x7FC00000) ∧ (fnan (ffma a b c) = true → ffma a b c = 0x7FC00000) ∧
    fnan (itof a) = false) ∧
  (∀ a b : Word, fnan a = true → fmin a b = (if fnan b then 0x7FC00000 else b) ∧ fmax a b = (if fnan b then 0x7FC00000 else b) ∧
    flt a b = false ∧ fle a b = false ∧ feq a b = false ∧ flt b a = false ∧ fle b a = false ∧ feq b a = false ∧ ftoi a = 0) ∧
  fmin 0x80000000 0 = 0x80000000 ∧ fmin 0 0x80000000 = 0x80000000 ∧ fmax 0x80000000 0 = 0 ∧ fmax 0 0x80000000 = 0 ∧
  ftoi 0x7F800000 = 0x7FFFFFFF ∧ ftoi 0xFF800000 = 0x80000000

/-- In every state in which the lane comes to the word (unused fields zero), with the code word it goes on to inside code
memory: NOP goes on at pc + 1; BR at pc + 1 + sext(B); BZ and BNZ there when g[A] is 0, or is not 0, and at pc + 1
otherwise; JMP at g[A] + zext(B); CALL likewise, its target formed from g[A] as it stood, and then pc + 1 written to
g[D]. Each counts one block operation and changes nothing else. A branch not taken is judged at the word it goes on to.
(R56, R57, R58, R61) -/
def Obligations.ControlFlow : Prop :=
  ∀ (o : Blk) (s : State),
    let x := lane s o.l
    let back := BitVec.ofNat 32 (x.pc + 1)
    let rel := (BitVec.ofNat 32 (x.pc + 1) + o.b.signExtend 32).toNat
    let abs := (greg x o.a + o.b.setWidth 32).toNat
    (fetches s o.l 0 = true → x.pc + 1 < 0x40000 →
      exec (.nop o.l 0) s = .next (setLane o.l (stepped (x.pc + 1)) s)) ∧
    (o.d = 0 → o.a = 0 → fetches s o.l (blkWord 0x02 o.d o.a o.b) = true → rel < 0x40000 →
      exec (.br o) s = .next (setLane o.l (stepped rel) s)) ∧
    (o.d = 0 → fetches s o.l (blkWord 0x03 o.d o.a o.b) = true →
      (greg x o.a = 0 → rel < 0x40000 → exec (.bz o) s = .next (setLane o.l (stepped rel) s)) ∧
      (greg x o.a ≠ 0 → x.pc + 1 < 0x40000 → exec (.bz o) s = .next (setLane o.l (stepped (x.pc + 1)) s))) ∧
    (o.d = 0 → fetches s o.l (blkWord 0x04 o.d o.a o.b) = true →
      (greg x o.a ≠ 0 → rel < 0x40000 → exec (.bnz o) s = .next (setLane o.l (stepped rel) s)) ∧
      (greg x o.a = 0 → x.pc + 1 < 0x40000 → exec (.bnz o) s = .next (setLane o.l (stepped (x.pc + 1)) s))) ∧
    (o.d = 0 → fetches s o.l (blkWord 0x05 o.d o.a o.b) = true → abs < 0x40000 →
      exec (.jmp o) s = .next (setLane o.l (stepped abs) s)) ∧
    (fetches s o.l (blkWord 0x06 o.d o.a o.b) = true → abs < 0x40000 →
      exec (.call o) s = .next (setLane o.l (fun y => { wrote o.d back y with pc := abs }) s))

/-- With the address g[A] + zext(B) (LD, ST) or g[A] + g[B] (LDX, STX) modulo 2^32 below 0x2_0000, in every state in which
the lane comes to the word and a code word follows. LD and LDX put into g[D] the lane's own data word, or the force on
that tag. ST and STX to an address outside the constant area make exactly that word of the lane's data memory read as
g[D], every other word as before, and note the address as written; a store to a forced tag is discarded. The pc is one
further, the operation counted, the other lane and the rest of the module unchanged. (R53, R54, R55, R58, R82) -/
def Obligations.LoadStore : Prop :=
  ∀ p ∈ ([(.ld, .st, 0x40, 0x41, fun _ => true, fun o x => greg x o.a + o.b.setWidth 32),
      (.ldx, .stx, 0x42, 0x43, fun o => o.b.extractLsb' 0 6 == 0, fun o x => greg x o.a + greg x (o.b.extractLsb' 6 6))] :
        List ((Blk → Instr) × (Blk → Instr) × BitVec 8 × BitVec 8 × (Blk → Bool) × (Blk → LaneSt → Word))),
    ∀ (o : Blk) (s : State),
    let x := lane s o.l
    let a := (p.2.2.2.2.2 o x).toNat
    p.2.2.2.2.1 o = true → a < 0x20000 →
    (ready s o.l (blkWord p.2.2.1 o.d o.a o.b) = true →
      exec (p.1 o) s = .next (setLane o.l (wrote o.d ((forced s (.tag a)).getD (tget 0 x.data a))) s)) ∧
    (ready s o.l (blkWord p.2.2.2.1 o.d o.a o.b) = true → (s.img.constLo ≤ a ∧ a < s.img.constHi → False) →
      (forced s (.tag a) = none → ∃ y : LaneSt, exec (p.2.1 o) s = .next (setLane o.l (fun _ => y) s) ∧
        tget 0 y.data a = greg x o.d ∧ (∀ b, b ≠ a → tget 0 y.data b = tget 0 x.data b) ∧ y.wrote.contains a = true ∧
        (∀ b, b ≠ a → y.wrote.contains b = x.wrote.contains b) ∧
        { y with data := x.data, wrote := x.wrote } = stepped (x.pc + 1) x) ∧
      (forced s (.tag a) ≠ none → exec (p.2.1 o) s = .next (setLane o.l (stepped (x.pc + 1)) s)))

/-- With the offset g[A] + zext(B) inside the image and the lane at the word, a code word following. IN puts into g[D] the
lane's own input image word or the force on it; where the word is a channel or remote word of quality not good, the
innermost open cell is marked so. OUT folds 0x0001_0000 plus the offset, and the value, into the output signature, and
makes that output word hold g[D] in the lane's next output image; in Split mode a word of the other partition is
discarded and counted. Nothing else changes but the pc and the operation count. (R58, R62, R63, R70, R82, R91, R108) -/
def Obligations.ImageAccess : Prop :=
  ∀ (o : Blk) (s : State),
    let x := lane s o.l
    let a := (greg x o.a + o.b.setWidth 32).toNat
    (ready s o.l (blkWord 0x50 o.d o.a o.b) = true → a < 0x2300 →
      let t := setLane o.l (wrote o.d ((forced s (.inp a)).getD (tget 0 x.inp a))) s
      exec (.in_ o) s = .next (if inputBad x a then setCell (x.opened.headD 0) (fun c => { c with qbad := true }) t else t)) ∧
    (ready s o.l (blkWord 0x51 o.d o.a o.b) = true → a < 0x2480 →
      let sig := crc32cWords x.sigOut [BitVec.ofNat 32 (0x10000 + a), greg x o.d]
      (otherPartition s o.l a = false → ∃ y : LaneSt, exec (.out o) s = .next (setLane o.l (fun _ => y) s) ∧
        tget 0 y.outs a = greg x o.d ∧ (∀ b, b ≠ a → tget 0 y.outs b = tget 0 x.outs b) ∧ y.wrote.contains (0x20000 + a) = true ∧
        (∀ b, b ≠ 0x20000 + a → y.wrote.contains b = x.wrote.contains b) ∧
        { y with outs := x.outs, wrote := x.wrote } = { stepped (x.pc + 1) x with sigOut := sig }) ∧
      (otherPartition s o.l a = true →
        exec (.out o) s = .next { setLane o.l (fun y => { stepped (y.pc + 1) y with sigOut := sig }) s with
          cmp := { s.cmp with xw := inc16 s.cmp.xw, evt := setBit s.cmp.evt 3 } }))

/-- Outside Split mode and with fewer than 64 entries of the lane in its queue: CELLIN n of a cell of the image other than
the root whose parent is the innermost open cell opens n, marks it scanned and takes a checkpoint of kind 1 naming the
parent; CELLOUT of the innermost open cell closes it and takes one of kind 2 naming n; END with no cell open but the
root ends the lane for the cycle and takes one of kind 3 naming the root. The entry holds the operation count, this
operation included, and both signatures. In Split mode the same happens with no entry, and END then lets the OUTPUT
frames go whose words belong to lanes at END. With 64 of its entries in the queue the lane waits, its entry kept, and
CKPT_WAIT is set; CHECKPOINT_APPEND_RESUME appends it once fewer than 64 stand there and lets the lane run on, or be
ended. (R58, R68, R69, R93, R94, R108, R313) -/
def Obligations.CellsAndEnd : Prop :=
  ∀ (o : Blk) (s : State),
    let x := lane s o.l
    let n := o.b.toNat
    let entry := fun (cell : Nat) (kind : Byte) => mkCkpt { x with ops := x.ops + 1 } cell kind
    let opened := fun y : LaneSt => { stepped (y.pc + 1) y with
      opened := n :: y.opened, scanned := if y.scanned.contains n then y.scanned else y.scanned ++ [n] }
    let closed := fun y : LaneSt => { stepped (y.pc + 1) y with opened := y.opened.tail }
    let ended := fun y : LaneSt => { y with ops := y.ops + 1, st := .ended }
    let full := fun (k : LaneSt → LaneSt) (cell : Nat) (kind : Byte) =>
      onCmp (fun m => { m with evt := setBit m.evt 2 })
        (setLane o.l (fun y => { k y with st := .waiting, blocked := some (entry cell kind) }) s)
    (o.d = 0 → o.a = 0 → ready s o.l (blkWord 0x70 0 0 o.b) = true → n ≠ 0 → n < s.img.cells.length →
      (cellCfg s n).parent = x.opened.headD 0 →
      (s.cmp.mode = .split → exec (.cellin o) s = .next (setLane o.l opened s)) ∧
      (s.cmp.mode ≠ .split → (laneQueue s.cmp o.l).length < 64 →
        exec (.cellin o) s = .next (onCmp (pushCkpt o.l (entry (x.opened.headD 0) 1)) (setLane o.l opened s))) ∧
      (s.cmp.mode ≠ .split → 64 ≤ (laneQueue s.cmp o.l).length → exec (.cellin o) s = .next (full opened (x.opened.headD 0) 1))) ∧
    (o.d = 0 → o.a = 0 → ready s o.l (blkWord 0x71 0 0 o.b) = true → n ≠ 0 → n < s.img.cells.length →
      x.opened.headD 0 = n →
      (s.cmp.mode = .split → exec (.cellout o) s = .next (setLane o.l closed s)) ∧
      (s.cmp.mode ≠ .split → (laneQueue s.cmp o.l).length < 64 →
        exec (.cellout o) s = .next (onCmp (pushCkpt o.l (entry n 2)) (setLane o.l closed s))) ∧
      (s.cmp.mode ≠ .split → 64 ≤ (laneQueue s.cmp o.l).length → exec (.cellout o) s = .next (full closed n 2))) ∧
    (o.d = 0 → o.a = 0 → o.b = 0 → fetches s o.l (blkWord 0x01 0 0 0) = true → x.opened = [] →
      (s.cmp.mode = .split → exec (.end_ o) s = .next (splitOutputs (setLane o.l ended s))) ∧
      (s.cmp.mode ≠ .split → (laneQueue s.cmp o.l).length < 64 →
        exec (.end_ o) s = .next (onCmp (pushCkpt o.l (entry 0 3)) (setLane o.l ended s))) ∧
      (s.cmp.mode ≠ .split → 64 ≤ (laneQueue s.cmp o.l).length → exec (.end_ o) s = .next (full ended 0 3))) ∧
    (∀ c : Ckpt, x.blocked = some c → (laneQueue s.cmp o.l).length < 64 → exec (.checkpointAppendResume o.l) s =
      .next (onCmp (pushCkpt o.l c) (setLane o.l (fun y => { y with blocked := none, st := if c.kind = 3 then .ended else .running }) s)))

/-- A word the lane comes to whose operation code or system block number is reserved, or whose unused fields are not 0
(here: the low bits of B in the operations of three registers), is the self-diagnosis fault "illegal operation"; a data
address from 0x2_0000, an image offset past its image, a target past code memory "lane address fault"; a store into the
constant area "store to constant"; a wrong CELLIN, CELLOUT or END "cell order fault". A self-diagnosis fault in Run,
Commissioning or Hold leads to Safe with both lanes stopped and a flush of the Inkwell started, unless it comes within
60 s of a start, which it then fails. (R23, R24, R54, R56, R61, R69, R97) -/
def Obligations.LaneFaults : Prop :=
  (∀ (l : Lane) (w : Word) (s : State), fetches s l w = true → w ≠ 0 → w.extractLsb' 24 8 = 0 ∨ reservedWord w = true →
    exec (.nop l w) s = .next (selfDiag .illegalOperation s)) ∧
  (∀ (o : Blk) (s : State),
    let x := lane s o.l
    let t := setLane o.l (fun y => { y with ops := y.ops + 1 }) s
    let a := (greg x o.a + o.b.setWidth 32).toNat
    let i := (greg x o.a + greg x (o.b.extractLsb' 6 6)).toNat
    let rel := (BitVec.ofNat 32 (x.pc + 1) + o.b.signExtend 32).toNat
    (∀ p ∈ ([(.add, 0x10), (.sub, 0x11), (.mul, 0x12), (.mulh, 0x13), (.and_, 0x16), (.or_, 0x17), (.xor_, 0x18), (.shl, 0x19),
        (.shr, 0x1A), (.sar, 0x1B), (.slt, 0x1C), (.sltu, 0x1D), (.seq, 0x1E), (.min, 0x1F), (.fadd, 0x30), (.fsub, 0x31),
        (.fmul, 0x32), (.fdiv, 0x33), (.fmin, 0x35), (.fmax, 0x36), (.flt, 0x39), (.fle, 0x3A), (.feq, 0x3B), (.fma, 0x3E)] :
          List ((Blk → Instr) × BitVec 8)),
      fetches s o.l (blkWord p.2 o.d o.a o.b) = true → o.b.extractLsb' 0 6 ≠ 0 →
        exec (p.1 o) s = .next (selfDiag .illegalOperation s)) ∧
    (fetches s o.l (blkWord 0x40 o.d o.a o.b) = true → 0x20000 ≤ a → exec (.ld o) s = .next (selfDiag .laneAddress t)) ∧
    (fetches s o.l (blkWord 0x41 o.d o.a o.b) = true → 0x20000 ≤ a → exec (.st o) s = .next (selfDiag .laneAddress t)) ∧
    (o.b.extractLsb' 0 6 = 0 → fetches s o.l (blkWord 0x42 o.d o.a o.b) = true → 0x20000 ≤ i →
      exec (.ldx o) s = .next (selfDiag .laneAddress t)) ∧
    (o.b.extractLsb' 0 6 = 0 → fetches s o.l (blkWord 0x43 o.d o.a o.b) = true → 0x20000 ≤ i →
      exec (.stx o) s = .next (selfDiag .laneAddress t)) ∧
    (o.d = 0 → o.a = 0 → fetches s o.l (blkWord 0x02 o.d o.a o.b) = true → 0x40000 ≤ rel →
      exec (.br o) s = .next (selfDiag .laneAddress t)) ∧
    (fetches s o.l (blkWord 0x06 o.d o.a o.b) = true → 0x40000 ≤ a →
      exec (.call o) s = .next (selfDiag .laneAddress (setLane o.l (gwrite o.d (BitVec.ofNat 32 (x.pc + 1))) t))) ∧
    (fetches s o.l (blkWord 0x41 o.d o.a o.b) = true → a < 0x20000 → s.img.constLo ≤ a → a < s.img.constHi →
      exec (.st o) s = .next (selfDiag .storeToConstant t)) ∧
    (fetches s o.l (blkWord 0x50 o.d o.a o.b) = true → 0x2300 ≤ a → exec (.in_ o) s = .next (selfDiag .laneAddress t)) ∧
    (fetches s o.l (blkWord 0x51 o.d o.a o.b) = true → 0x2480 ≤ a → exec (.out o) s = .next (selfDiag .laneAddress t)) ∧
    (o.d = 0 → fetches s o.l (blkWord 0x05 o.d o.a o.b) = true → 0x40000 ≤ a →
      exec (.jmp o) s = .next (selfDiag .laneAddress t)) ∧
    (o.d = 0 → o.a = 0 → fetches s o.l (blkWord 0x70 o.d o.a o.b) = true →
      o.b = 0 ∨ s.img.cells.length ≤ o.b.toNat ∨ (cellCfg s o.b.toNat).parent ≠ x.opened.headD 0 →
      exec (.cellin o) s = .next (selfDiag .cellOrder t)) ∧
    (o.d = 0 → o.a = 0 → fetches s o.l (blkWord 0x71 o.d o.a o.b) = true →
      o.b = 0 ∨ s.img.cells.length ≤ o.b.toNat ∨ x.opened.headD 0 ≠ o.b.toNat →
      exec (.cellout o) s = .next (selfDiag .cellOrder t)) ∧
    (o.d = 0 → o.a = 0 → o.b = 0 → fetches s o.l (blkWord 0x01 o.d o.a o.b) = true → x.opened ≠ [] →
      exec (.end_ o) s = .next (selfDiag .cellOrder t))) ∧
  (∀ (why : FaultReason) (s : State), inService s = true → faultFailsStart s = false →
    (selfDiag why s).sup.mode = .safe ∧ (selfDiag why s).nibA.st = .stopped ∧ (selfDiag why s).nibB.st = .stopped ∧
    (selfDiag why s).evr.flushing = true)

/-- With the instance record at g[A] inside data memory and, for a block that stores, no word of it in the constant area, in
every state in which the lane comes to the SYS word and a code word follows: exec answers the next state in which the
record's words and g[D] are those of R65, the pc is one further, the operation counted, and nothing else changed. A
timer executed again in the same cycle leaves its record and returns the Q it holds; otherwise it follows the three
programs of R65 with the preset ceil(PT × 1 000 / cycle time in µs). The counters and edge blocks follow theirs; that
CTUD's steps act one after another on the count, and CTD's LOAD excludes its edge, and which bits of CTUD's record hold
the last CU and CD, is the model's reading (logs 72 and 110). (R54, R61, R64, R65) -/
def Obligations.TimersAndCounters : Prop :=
  (∀ p ∈ ([(.ton, 1, tonStep), (.tof, 2, tofStep), (.tp, 3, tpStep)] :
      List ((Lane → BitVec 6 → BitVec 6 → Instr) × BitVec 12 × (Bool → Nat → TimerRec → TimerRec))),
    ∀ (l : Lane) (d a : BitVec 6) (s : State),
    let x := lane s l
    let r := (greg x a).toNat
    let w := fun k => tget 0 x.data (r + k)
    let q := p.2.2 (greg x 1 != 0) (((greg x 2).toNat * 1000 + (cycleUs s - 1)) / cycleUs s) ⟨(w 0).toNat, (w 2).getLsbD 0, (w 2).getLsbD 1⟩
    ready s l (blkWord 0x60 d a p.2.1) = true → r + 3 ≤ 0x20000 → (span r (r + 3)).any (isConst s) = false →
    (w 1 = s.cyc.count.setWidth 32 →
      exec (p.1 l d a) s = .next (setLane l (wrote d (Word.ofBool ((w 2).getLsbD 1))) s)) ∧
    (w 1 ≠ s.cyc.count.setWidth 32 → ∃ y : LaneSt, exec (p.1 l d a) s = .next (setLane l (fun _ => wrote d (Word.ofBool q.q) y) s) ∧
      tget 0 y.data r = BitVec.ofNat 32 q.elapsed ∧ tget 0 y.data (r + 1) = s.cyc.count.setWidth 32 ∧
      tget 0 y.data (r + 2) = (Word.flag q.lastIn 0 ||| Word.flag q.q 1) ∧
      (∀ b, b < r ∨ r + 3 ≤ b → tget 0 y.data b = tget 0 x.data b) ∧ { y with data := x.data, wrote := x.wrote } = x)) ∧
  (∀ (ptc : Nat) (r : TimerRec),
    tonStep false ptc r = ⟨0, false, false⟩ ∧
    tonStep true ptc r = (if r.lastIn then ⟨min (r.elapsed + 1) ptc, true, decide (ptc ≤ min (r.elapsed + 1) ptc)⟩ else ⟨0, true, decide (ptc ≤ 0)⟩) ∧
    tofStep true ptc r = ⟨0, true, true⟩ ∧
    tofStep false ptc r = (if r.q then ⟨min (r.elapsed + 1) ptc, false, !decide (ptc ≤ min (r.elapsed + 1) ptc)⟩ else ⟨r.elapsed, false, false⟩) ∧
    (∀ i, r.q = true → tpStep i ptc r = ⟨r.elapsed + 1, i, !decide (ptc ≤ r.elapsed + 1)⟩) ∧
    (∀ i, r.q = false → tpStep i ptc r = (if i && !r.lastIn && decide (0 < ptc) then ⟨0, true, true⟩ else ⟨r.elapsed, i, false⟩))) ∧
  (∀ p ∈ ([(.ctu, 4, 2, ctuRun), (.ctd, 5, 2, ctdRun), (.ctud, 6, 2, ctudRun), (.rTrig, 7, 1, rTrigRun), (.fTrig, 8, 1, fTrigRun)] :
      List ((Lane → BitVec 6 → BitVec 6 → Instr) × BitVec 12 × Nat × (Nat → LaneSt → LaneSt × Word))),
    ∀ (l : Lane) (d a : BitVec 6) (s : State),
    let x := lane s l
    let r := (greg x a).toNat
    ready s l (blkWord 0x60 d a p.2.1) = true → r + p.2.2.1 ≤ 0x20000 → (span r (r + p.2.2.1)).any (isConst s) = false →
      exec (p.1 l d a) s = .next (setLane l (fun x => wrote d (p.2.2.2 r x).2 (p.2.2.2 r x).1) s)) ∧
  (∀ (r : Nat) (x : LaneSt),
    let g := fun n => greg x n
    let cv := tget 0 x.data r
    let last := tget 0 x.data (r + 1)
    let rose := g 1 != 0 && !last.getLsbD 0
    let two := fun (y : LaneSt) (a b : Word) => tget 0 y.data r = a ∧ tget 0 y.data (r + 1) = b ∧
      (∀ k, k < r ∨ r + 2 ≤ k → tget 0 y.data k = tget 0 x.data k) ∧ { y with data := x.data, wrote := x.wrote } = x
    let one := fun (y : LaneSt) (a : Word) => tget 0 y.data r = a ∧ (∀ k, k ≠ r → tget 0 y.data k = tget 0 x.data k) ∧
      { y with data := x.data, wrote := x.wrote } = x
    let up := fun (e : Bool) (c : Word) => if e && decide (c.toInt < 0x7FFFFFFF) then c + 1 else c
    let down := fun (e : Bool) (c : Word) => if e && decide (-0x80000000 < c.toInt) then c - 1 else c
    let cu := if g 2 != 0 then 0 else up rose cv
    let cd := if g 2 != 0 then g 3 else down rose cv
    let i := g 1
    let base := if i.getLsbD 3 then g 2 else if i.getLsbD 2 then 0 else cv
    let cud := down (i.getLsbD 1 && !last.getLsbD 1) (up (i.getLsbD 0 && !last.getLsbD 0) base)
    (two (ctuRun r x).1 cu (Word.ofBool (g 1 != 0)) ∧ (ctuRun r x).2 = Word.ofBool (decide ((g 3).toInt ≤ cu.toInt))) ∧
    (two (ctdRun r x).1 cd (Word.ofBool (g 1 != 0)) ∧ (ctdRun r x).2 = Word.ofBool (decide (cd.toInt ≤ 0))) ∧
    (two (ctudRun r x).1 cud (i &&& 3) ∧
      (ctudRun r x).2 = (Word.flag (decide ((g 2).toInt ≤ cud.toInt)) 0 ||| Word.flag (decide (cud.toInt ≤ 0)) 1)) ∧
    (one (rTrigRun r x).1 (Word.ofBool (g 1 != 0)) ∧ (rTrigRun r x).2 = Word.ofBool (g 1 != 0 && !cv.getLsbD 0)) ∧
    (one (fTrigRun r x).1 (Word.ofBool (g 1 != 0)) ∧ (fTrigRun r x).2 = Word.ofBool (cv.getLsbD 0 && !(g 1 != 0)))) ∧
  (∀ (l : Lane) (d a : BitVec 6) (s : State), ready s l (blkWord 0x60 d a 9) = true → (greg (lane s l) a).toNat + 1 ≤ 0x20000 →
    exec (.cv l d a) s = .next (setLane l (fun x => wrote d (tget 0 x.data (greg x a).toNat) x) s))

/-- With A zero, in every state in which the lane comes to the SYS word and a code word follows. TIMEL and TIMEH give the
two words of the timebase at T0 in µs. EVPOST folds its words; a code from 0xC000 gives 0 and queues the record for TO
with its cell, another gives 1 and sets OBJ_REFUSED. CELLSTAT sets the application status of the innermost open cell and
gives 0; CELLMODE sets its mode for modes 0 to 3 and gives 0, and gives 1 for 4 to 15; while Rejoining what Nib B says
of cells does not count. OBJRD of the VAR region gives 0 and sets OBJ_REFUSED; a register a lane may read and has not
read gives its value, which is kept for the other lane in Checked mode. OBJWR folds its words; a write the register
accepts gives 0 and is queued, a refused one gives 1 and sets OBJ_REFUSED. Each counts one operation and goes on at pc +
1. (R58, R64, R66, R67, R70, R71, R91, R111) -/
def Obligations.LaneServices : Prop :=
  ∀ (l : Lane) (d : BitVec 6) (s : State),
    let x := lane s l
    let cell := x.opened.headD 0
    let speaks := !(s.cmp.mode == .rejoining && l == .b)
    let refused := fun t : State => { t with cyc := { t.cyc with evt := setBit t.cyc.evt 2 } }
    let folded := fun (ws : List Word) (y : LaneSt) => { y with sigOut := crc32cWords y.sigOut ws }
    let code : BitVec 16 := (greg x 1).setWidth 16
    let post := folded [0x00030000 + code.setWidth 32, greg x 2, greg x 3]
    let mode : BitVec 4 := (greg x 1).setWidth 4
    let addr := greg x 1
    let wr := folded [0x00020000, addr, greg x 2]
    (ready s l (blkWord 0x60 d 0 0x010) = true → exec (.timel l d 0) s = .next (setLane l (wrote d (BitVec.ofNat 32 s.cyc.t0Us)) s)) ∧
    (ready s l (blkWord 0x60 d 0 0x011) = true →
      exec (.timeh l d 0) s = .next (setLane l (wrote d (BitVec.ofNat 32 (s.cyc.t0Us / 0x100000000))) s)) ∧
    (ready s l (blkWord 0x60 d 0 0x030) = true →
      (0xC000 ≤ code.toNat → exec (.evpost l d 0) s = .next (setLane l (fun y => wrote d 0
        { post y with queue := y.queue ++ [.evpost code (greg x 2) (greg x 3) cell] }) s)) ∧
      (code.toNat < 0xC000 → exec (.evpost l d 0) s = .next (refused (setLane l (fun y => wrote d 1 (post y)) s)))) ∧
    (ready s l (blkWord 0x60 d 0 0x040) = true → exec (.cellstat l d 0) s = .next (setLane l (wrote d 0)
      (if speaks then setCell cell (fun c => { c with app := (greg x 1).setWidth 8 }) s else s))) ∧
    (ready s l (blkWord 0x60 d 0 0x041) = true →
      (mode.toNat < 4 → exec (.cellmode l d 0) s = .next (setLane l (wrote d 0)
        (if speaks then setCell cell (fun c => { c with mode := mode }) s else s))) ∧
      (4 ≤ mode.toNat → exec (.cellmode l d 0) s = .next (setLane l (wrote d 1) s))) ∧
    (ready s l (blkWord 0x60 d 0 0x020) = true →
      (s.cmp.mode = .split → 0x10000000 ≤ addr.toNat →
        exec (.objrd l d 0) s = .next (refused (setLane l (fun y => { wrote d 0 y with objCnt := y.objCnt + 1 }) s))) ∧
      (s.cmp.mode ≠ .split → x.objCnt = s.cyc.objVals.length → ∀ (v : Word) (t : State), addr.toNat < 0x10000000 →
        objRead (.lane l) addr.toNat (setLane l (fun y => { y with ops := y.ops + 1, objCnt := y.objCnt + 1 }) s) = some (v, t) →
        t.cyc.objVals = s.cyc.objVals → t.cmp.mode = s.cmp.mode →
        ∃ u : State, exec (.objrd l d 0) s = .next u ∧ greg (lane u l) d = (if d = 0 then 0 else v) ∧ (lane u l).pc = x.pc + 1 ∧
          u.cyc.objVals = s.cyc.objVals ++ [(addr, v)]) ∧
      (∀ v : Word, s.cmp.mode ≠ .split → s.cyc.objVals[x.objCnt]? = some (addr, v) →
        exec (.objrd l d 0) s = .next (setLane l (fun y => { wrote d v y with objCnt := y.objCnt + 1 }) s))) ∧
    (ready s l (blkWord 0x60 d 0 0x021) = true →
      let u := setLane l (fun y => { wr y with ops := y.ops + 1 }) s
      ((objWrite (.lane l) noReq addr.toNat (greg x 2) u).1 = 0 → exec (.objwr l d 0) s =
        .next (setLane l (fun y => wrote d 0 { wr y with queue := y.queue ++ [.objwr addr (greg x 2)] }) s)) ∧
      ((objWrite (.lane l) noReq addr.toNat (greg x 2) u).1 ≠ 0 → ∃ t, exec (.objwr l d 0) s = .next t ∧
        greg (lane t l) d = (if d = 0 then 0 else 1) ∧ (lane t l).pc = x.pc + 1 ∧ t.cyc.evt.getLsbD 2 = true ∧
        (lane t l).queue = x.queue))

/-- The shared rule by which every request of the station protocol is judged. A datagram of a wrong FCS is counted and
dropped, the second copy of one taken dropped, another noted. VER other than 1 is discarded; so is a TYPE other than 0
(the model's choice, log 153). No open session, a wrong TAG or a SEQ not above the last: discarded without reply and
counted. Otherwise its SEQ is taken over and it is counted; above 200 in the second it is answered 0x0008; a TARGET of
another slot is relayed where that module is present with the same image, and answered 0x0006 otherwise (what the relay
carries: log 155); in Decaf a service not offered there is answered 0x0002; a service of no table 0x0004; a body longer
than LEN can say, or a COMMAND without a code, 0x0005; a LEVEL that is not the session's (the model's choice, log 152),
or too low a level, 0x0001, and nothing else changes; what passes is carried out on the state so admitted. (R323, R327,
R328, R330, R331, R332, R333) -/
def Obligations.AdmissionRules : Prop :=
  ∀ (r : Req) (lvl : BitVec 2) (decafOk : Bool) (k : State → State) (s : State),
    let judged := screenReq r lvl decafOk k s
    (r.rx.fcsBad = true → judged = setPnPort r.rx.port.val (fun x => { x with errFcs := inc16 x.errFcs }) s) ∧
    (r.rx.fcsBad = false → duplicateFrame r.rx s = true → judged = s) ∧
    (r.rx.fcsBad = false → duplicateFrame r.rx s = false →
      (r.ver ≠ 1 ∨ r.typ ≠ 0 → judged = noteFrame r.rx s) ∧
      (r.ver = 1 → r.typ = 0 →
        (findSession s r.sess = none → judged = discardMessage (noteFrame r.rx s)) ∧
        (∀ x, findSession s r.sess = some x →
          let fresh := tagRight x.key r = true ∧ x.seq < r.seq
          let few := (countRequest (nowUs s) x).reqCnt ≤ 200
          let here := r.target = 0xFF ∨ r.target.toNat = s.pst.slot.toNat
          let peer := tget {} s.pst.peers r.target.toNat
          let decaf := s.sup.mode = .decaf
          let answered := fun st : BitVec 16 => judged = reply r st [] (admitted r s)
          (¬fresh → judged = discardMessage (noteFrame r.rx s)) ∧
          (fresh → ¬few → answered 0x0008) ∧
          (fresh → few → ¬here → peer.present = true → peer.mism = false → judged = emit (.relay r.target r) (admitted r s)) ∧
          (fresh → few → ¬here → ¬(peer.present = true ∧ peer.mism = false) → answered 0x0006) ∧
          (fresh → few → here → decaf → decafOk = false ∨ unlisted r = true → answered 0x0002) ∧
          (fresh → few → here → ¬decaf → unlisted r = true → answered 0x0004) ∧
          (fresh → few → here → ¬decaf ∨ decafOk = true → unlisted r = false →
            (malformed r = true → answered 0x0005) ∧
            (malformed r = false → x.level.toNat ≠ r.level.toNat ∨ x.level < lvl → answered 0x0001) ∧
            (malformed r = false → x.level.toNat = r.level.toNat → lvl ≤ x.level → judged = k (admitted r s)))))) ∧
    ((discardMessage s).pnw.discarded = inc16 s.pnw.discarded ∧ Changes [.pnw] s (discardMessage s)) ∧
    (∀ t : BitVec 16 × Fin 2, r.rx.trailer = some t →
      duplicateFrame r.rx s = s.pnw.seen.any (fun e => e.1 == r.rx.node && e.2.1 == t.1 && decide (nowUs s < e.2.2 + 400000)) ∧
      (r.rx.node, t.1, nowUs s) ∈ (noteFrame r.rx s).pnw.seen)

/-- An admitted Engineer request. In Run, ENTER_COMMISSIONING moves the module to Commissioning; in Commissioning,
LEAVE_COMMISSIONING moves it to Run, with a warm restart due (cause 0x21) where a force on a safety-related variable
stands. HOLD in Run or Commissioning, by a single module, moves it to Hold at once with both lanes stopped; RESUME in
Hold moves it to Run with two cycles of the hold exit to go; in a pair both wait in line for their T0. WARM_RESTART is
due at the next T0 (cause 0x20). RESTART_CLASS_S enters a reset of class S with cause 0x11. SPLIT_LANES in Checked,
where the image permits it and no safety slot is of Category 4, and "clear retain variables" in Commissioning wait in
line for the T0 of R79. REJOIN_LANES in Split without REJOIN_BLOCK takes its injection test and, passed, waits for the
TO of R111; a failed test blocks it. Each is answered OK; a pair member with its partner present forwards the command
instead and answers after the confirmation. From any other module state each is answered 0x0002 and nothing else
changes. (R23, R24, R76, R79, R85, R105, R107, R110, R111, R333, R418, R425) -/
def Obligations.StateCommands : Prop :=
  ∀ (r : Req) (s : State), admits r lvEngineer s = true → s.sup.mode ≠ .decaf →
    let waits := fun (c : Instr) (f : FwdCmd) (a : T0Act) => Does c s (fun t => AcceptedBoth r f s t ∧
      t.cyc = { s.cyc with sched := s.cyc.sched ++ [⟨nowUs s, a, false⟩] })
    let refused := fun (c : Instr) (st : BitVec 16) => Does c s (fun t => Answered r st [] s t ∧ Changes [.pnw, .sent] s t)
    let inRun := s.sup.mode = .run ∨ s.sup.mode = .commissioning
    (s.sup.mode = .run → Does (.enterCommissioning r) s (fun t => Answered r 0 [] s t ∧
      t.sup = { s.sup with mode := .commissioning } ∧ Changes [.sup, .pnw, .sent] s t)) ∧
    (s.sup.mode ≠ .run → refused (.enterCommissioning r) 0x0002) ∧
    (s.sup.mode = .commissioning → Does (.leaveCommissioning r) s (fun t => Answered r 0 [] s t ∧ t.sup.mode = .run ∧
      t.sup.warmDue = (if s.cyc.forces.any (fun f => safetyTarget s f.1) then some 0x21 else s.sup.warmDue) ∧ t.fch.ses = none)) ∧
    (s.sup.mode ≠ .commissioning → refused (.leaveCommissioning r) 0x0002) ∧
    (inRun → paired s = false → Does (.hold r) s (fun t => Answered r 0 [] s t ∧ t.sup.mode = .hold ∧ t.sup.holdSince = nowUs s ∧
      t.nibA.st = .stopped ∧ t.nibB.st = .stopped ∧ t.lpe.held = true ∧ t.cyc.phase = .idle)) ∧
    (inRun → paired s = true → waits (.hold r) .hold .holdIn) ∧
    (¬inRun → refused (.hold r) 0x0002) ∧
    (s.sup.mode = .hold → paired s = false → Does (.resume r) s (fun t => Answered r 0 [] s t ∧ t.sup = { s.sup with
      mode := .run, holdExit := 2, holdRow := true, holdSec := BitVec.ofNat 32 ((nowUs s - s.sup.holdSince) / 1000000) })) ∧
    (s.sup.mode = .hold → paired s = true → waits (.resume r) .resume .resumeIn) ∧
    (s.sup.mode ≠ .hold → refused (.resume r) 0x0002) ∧
    (inRun → Does (.warmRestart r) s (fun t => Answered r 0 [] s t ∧ t.sup = { s.sup with warmDue := some 0x20 } ∧
      Changes [.sup, .pnw, .sent] s t)) ∧
    (¬inRun → refused (.warmRestart r) 0x0002) ∧
    (s.sup.phase = .up → Does (.restartClassS r) s (fun t => t.sup.mode = .start ∧ t.sup.phase = .entry .s 0x11 ∧
      t.nibA.st = .stopped ∧ t.nibB.st = .stopped ∧ t.evr.running = false ∧ t.evr.flushing = true ∧ t.pnw.sessions = [])) ∧
    (inRun → s.cmp.mode = .checked → s.img.split = true → hasCat4 s = false →
      waits (.splitLanes r) .split .split ∧ Does (.splitLanes r) s (fun t => t.cmp = { s.cmp with pending := true })) ∧
    (inRun → s.cmp.mode = .checked → s.img.split = false ∨ hasCat4 s = true → refused (.splitLanes r) 0x000B) ∧
    (¬(inRun ∧ s.cmp.mode = .checked) → refused (.splitLanes r) 0x0002) ∧
    (∀ t : SelfTest, inRun → s.cmp.mode = .split → s.cmp.rejoinBlock = false →
      (t.dead = 0 → t.unequal = 0 → Does (.rejoinLanes r t) s (fun v => AcceptedBoth r .rejoin s v ∧ v.cmp.testDone = true ∧
        v.cmp.testPass = true ∧ v.cmp.rejoinAt = some (nowUs s) ∧ v.cmp.rejoinTested = true ∧ v.cmp.pending = true ∧ v.cmp.mode = .split)) ∧
      (¬(t.dead = 0 ∧ t.unequal = 0) → Does (.rejoinLanes r t) s (fun v => Answered r 0 [] s v ∧ v.cmp.testDone = true ∧
        v.cmp.testPass = false ∧ v.cmp.rejoinAt = none ∧ v.cmp.rejoinBlock = true ∧ v.cmp.mode = .split))) ∧
    (∀ t : SelfTest, ¬(inRun ∧ s.cmp.mode = .split ∧ s.cmp.rejoinBlock = false) → refused (.rejoinLanes r t) 0x0002) ∧
    (s.sup.mode = .commissioning → waits (.clearRetainVariables r) .clearRetain .clearRetain) ∧
    (s.sup.mode ≠ .commissioning → refused (.clearRetainVariables r) 0x0002)

/-- CYCLE_T0 with the module in service, nothing waiting for the T0, no warm restart due and the last cycle not late: where
the lanes execute, a cycle begins with its number raised by one and its input words latched; the first T0 after the
start sequence enters Run. A warm restart that is due starts in Run and Commissioning; a late cycle, unless it is an
observation cycle with a mismatch, is the fault "consecutive overrun". EXECUTE_WINDOW_OPEN, once every expected remote
frame has arrived, starts both lanes at the entry of the lane mode with their copy of the inputs, fresh signatures and
the entry of the opening in the queue (none in Split mode); INPUT_DEADLINE does so after counting the missing frames.
OUTPUT_RELEASE after a completed compare releases the output image with the forces on it, but not in the first cycle
after Hold, and ends the cycle; without a completed compare it marks an overrun and drops the queued writes.
LATE_COMPARE_COMPLETE ends a late cycle. (R20, R62, R73, R74, R75, R76, R82, R89, R90, R91, R317, R436) -/
def Obligations.ProgramCycle : Prop :=
  (∀ s : State, s.sup.phase = .up → inService s = true → s.sup.warmDue = none → s.cyc.late = false → s.cyc.sched = [] →
    s.cmp.mode ≠ .rejoining → executes s = true →
    Does .cycleT0 s (fun t => t.cyc.count = s.cyc.count + 1 ∧ t.cyc.t0Us = nowUs s ∧ t.cyc.phase = .inputs ∧ t.cyc.objVals = [] ∧
      tget 0 t.cyc.inputs 0xC0 = (s.cyc.count + 1).setWidth 32 ∧ t.cyc.firstDue = false)) ∧
  (∀ s : State, s.sup.phase = .waitT0 → s.sup.mode = .start → s.sup.warmDue = none → s.cyc.late = false → s.cyc.sched = [] →
    s.cmp.mode ≠ .rejoining → Does .cycleT0 s (fun t => t.sup.mode = .run ∧ t.sup.phase = .up ∧ t.boot.runUs = some (nowUs s))) ∧
  (∀ (s : State) (c : Byte), s.sup.phase = .up → inRun s = true → s.sup.warmDue = some c →
    exec .cycleT0 s = .next (enterReset .w c s)) ∧
  (∀ s : State, s.sup.phase = .up → inService s = true → s.sup.warmDue = none ∨ s.sup.mode = .hold → s.cyc.late = true →
    (s.cmp.mode = .rejoining → s.cmp.obsMism = 0) → exec .cycleT0 s = .next (selfDiag .consecutiveOverrun s)) ∧
  (∀ s : State, s.cyc.phase = .inputs → inRun s = true →
    let inp := tput 0 s.cyc.inputs 0xC4 (presentWord s)
    let chk := crc32cWords crcInit ((List.range 0x2300).map (tget 0 inp))
    let fresh := fun (e : Nat) (x : LaneSt) =>
      { x with
        pc := e, st := .running, inp := inp, inCheck := chk, sigOut := chk, sigReg := crcInit, ops := 0, opened := [], scanned := [],
        queue := [], objCnt := 0, blocked := none }
    let opened := fun t : State => t.cyc.phase = .window ∧ t.cyc.openUs = nowUs s ∧ t.cyc.inputs = inp ∧
      t.nibA = fresh (if s.cmp.mode = .split then s.img.entryA else s.img.entry) s.nibA ∧
      t.nibB = fresh (if s.cmp.mode = .split then s.img.entryB else s.img.entry) s.nibB ∧
      t.cmp.queueA = (if s.cmp.mode = .split then [] else [mkCkpt t.nibA 0 0]) ∧
      t.cmp.queueB = (if s.cmp.mode = .split then [] else [mkCkpt t.nibB 0 0]) ∧ t.cmp.endJudged = false ∧ t.cmp.marked = none
    (allArrived s = true → Does .executeWindowOpen s opened) ∧
    (s.img.ring.stations = [] → Does .inputDeadline s opened)) ∧
  (∀ s : State, s.cyc.phase = .inputs → inRun s = true → Does .inputDeadline s (fun t => t.cyc.phase = .window ∧ t.nibA.st = .running ∧
    t.nibB.st = .running ∧ t.cyc.openUs = nowUs s)) ∧
  (∀ (s : State) (n : Nat), expected s (stn s n) = true → (stn s n).arrived = false →
    ((stn s n).st ≠ .oneMiss → (stn (deadlineStn n s) n).st = .oneMiss ∧ (stn (deadlineStn n s) n).missed = inc16 (stn s n).missed) ∧
    ((stn s n).st = .oneMiss → (stn (deadlineStn n s) n).st = .lost ∧ (stn (deadlineStn n s) n).missed = inc16 (stn s n).missed)) ∧
  (∀ s : State, inRun s = true → s.sup.phase = .up → s.cyc.phase = .compared → Does .outputRelease s (fun t =>
    t.cyc.phase = .idle ∧ t.cyc.ovrLast = false ∧
    t.cyc.snapFresh = true ∧ t.sup.holdExit = s.sup.holdExit - 1 ∧
    (s.sup.holdExit < 2 → t.sup.holdRow = false ∧ (s.nibA.queue = [] → s.nibB.queue = [] →
      t.cyc.released = s.cyc.forces.foldl (fun o f => match f.1 with | .outp k => tput 0 o k f.2 | _ => o) s.cyc.outImg)) ∧
    (2 ≤ s.sup.holdExit → t.sup.holdRow = s.sup.holdRow ∧ (s.nibA.queue = [] → s.nibB.queue = [] → t.cyc.released = s.cyc.released)))) ∧
  (∀ s : State, inRun s = true → s.sup.phase = .up → s.cyc.phase = .inputs ∨ s.cyc.phase = .window → s.cyc.late = false →
    s.cyc.ovrLast = false → s.cmp.mode ≠ .split ∨ compareReady s = false → Does .outputRelease s (fun t => t.cyc.late = true ∧ t.cyc.ovrLast = true ∧
      t.cyc.ovrCount = inc16 s.cyc.ovrCount ∧ t.sup.holdExit = s.sup.holdExit - 1 ∧ t.cyc.released = s.cyc.released ∧
      t.nibA.queue = s.nibA.queue.filter (fun q => match q with | .objwr _ _ => false | _ => true))) ∧
  (∀ s : State, s.cyc.late = true → inRun s = true → compareReady s = true → Does .lateCompareComplete s (fun t =>
    t.cyc.late = false ∧ t.cyc.phase = .idle ∧ t.cyc.opsLast = s.nibA.ops))

/-- CHECKPOINT_COMPARE with an entry of each lane at the heads of the queue takes both off. In Checked mode the first
matching row of R95 decides: a wrong check value, the code rail, a differing kind, cell or count, a differing output
signature, at the opening or later, are faults with the reasons 7, 6, 3, 1 and 2 in CMP_FAULT and the cell of the entry;
a first difference of the register signatures alone marks the cell; equal entries change nothing else. In an observation
cycle a finding is counted instead. A stalled compare gives reason 8 and a stalled lane reason 9. A completed compare
commits the output words and keeps the signatures, counts and times. DATA_DIGEST_COMPLETE of a pending divergence:
differing digests give reason 4; equal ones are benign, and Nib B's registers become Nib A's, unless it is the ninth
within an hour, which gives reason 5. (R93, R95, R96, R97, R98, R99, R100, R101, R102, R103, R111, R113) -/
def Obligations.Comparator : Prop :=
  (∀ (s : State) (a b : Ckpt) (qa qb : List Ckpt) (bad : Bool), s.cmp.queueA = a :: qa → s.cmp.queueB = b :: qb →
    let sound := crc16 (ckptBytes a) = a.check ∧ crc16 (ckptBytes b) = b.check
    let same := a.kind = b.kind ∧ a.cell = b.cell ∧ a.ops = b.ops
    let fault := fun n : Byte => Does (.checkpointCompare bad) s (fun t => t.cmp.faultReason = n ∧ t.cmp.faultCell = a.cell.setWidth 12 ∧
      (inService s = true → faultFailsStart s = false → t.sup.mode = .safe))
    let popped : Cmp := { s.cmp with queueA := qa, queueB := qb, judged := s.cmp.judged + 1, endJudged := s.cmp.endJudged || (a.kind == 3 && b.kind == 3) }
    (s.cmp.mode = .checked →
      (¬sound → fault 7) ∧ (sound → bad = true → fault 6) ∧ (sound → bad = false → ¬same → fault 3) ∧
      (sound → bad = false → same → a.sigOut ≠ b.sigOut → a.kind = 0 → fault 1) ∧
      (sound → bad = false → same → a.sigOut ≠ b.sigOut → a.kind ≠ 0 → fault 2) ∧
      (sound → bad = false → same → a.sigOut = b.sigOut → a.kind ≠ 2 → a.kind ≠ 3 →
        exec (.checkpointCompare bad) s = .next { s with cmp :=
          if a.sigReg ≠ b.sigReg ∧ s.cmp.marked = none then { popped with marked := some (a.cell.setWidth 12 : BitVec 12).toNat } else popped })) ∧
    (s.cmp.mode = .rejoining → Does (.checkpointCompare bad) s (fun t => t.cmp.queueA = qa ∧ t.cmp.queueB = qb ∧
      (sound → bad = false → same → a.sigOut = b.sigOut → a.sigReg = b.sigReg → t.cmp.obsMism = s.cmp.obsMism) ∧
      (¬sound ∨ bad = true → t.cmp.obsMism = inc8 s.cmp.obsMism ∧ t.cmp.obsFault = true) ∧
      (sound → bad = false → same → a.sigOut = b.sigOut → a.sigReg ≠ b.sigReg →
        t.cmp.obsMism = if s.cmp.marked = none then inc8 s.cmp.obsMism else s.cmp.obsMism) ∧
      (sound → bad = false → (¬same ∨ a.sigOut ≠ b.sigOut) → t.cmp.obsMism = inc8 s.cmp.obsMism ∧ t.cmp.obsFault = s.cmp.obsFault))) ∧
    (s.cmp.mode ≠ .rejoining → Does .compareStalled s (fun t => t.cmp.faultReason = 8 ∧ t.cmp.faultCell = a.cell.setWidth 12))) ∧
  (∀ (l : Lane) (s : State), (lane s (other l)).st = .ended → (lane s l).st = .running → s.cmp.mode = .checked →
    Does (.laneStalled l) s (fun t => t.cmp.faultReason = 9)) ∧
  (∀ s : State, s.cyc.phase = .window → s.cyc.late = false → compareReady s = true → Does .compareComplete s (fun t =>
    t.cyc.phase = .compared ∧ t.cyc.outImg = commitImage s ∧ t.nibA.outs = commitImage s ∧ t.nibB.outs = commitImage s ∧
    t.cyc.opsLast = s.nibA.ops ∧
    (s.cmp.mode ≠ .split → (t.cmp.sigOutA, t.cmp.sigOutB, t.cmp.sigRegA, t.cmp.sigRegB) =
      (s.nibA.sigOut, s.nibB.sigOut, s.nibA.sigReg, s.nibB.sigReg)) ∧
    (s.cmp.mode = .rejoining → t.cmp.obs = s.cmp.obs + 1))) ∧
  (∀ s : State, s.cmp.divPend = true →
    let c := s.cmp.divCell
    let cfg := cellCfg s c.toNat
    let dig := fun x : LaneSt => crc32cWords crcInit ((span cfg.lo cfg.hi).map (tget 0 x.data))
    (dig s.nibA ≠ dig s.nibB → Does .dataDigestComplete s (fun t => t.cmp.faultReason = 4 ∧ t.cmp.faultCell = c ∧ t.cmp.divVerdict = 3)) ∧
    (dig s.nibA = dig s.nibB → ninth s = true → Does .dataDigestComplete s (fun t => t.cmp.faultReason = 5 ∧ t.cmp.faultCell = c)) ∧
    (dig s.nibA = dig s.nibB → ninth s = false → Does .dataDigestComplete s (fun t => t.nibB = { s.nibB with g := s.nibA.g } ∧
      t.cmp.divVerdict = 2 ∧ t.cmp.benignTotal = inc16 s.cmp.benignTotal ∧ t.cmp.divPend = false ∧ t.sup = s.sup)))

/-- SPEED_GAUGE_UPDATE takes both readings over, keeps the lowest ones, and raises the core by 10 mV while a reading is
below its guard, at most once a millisecond, up to 1.00 V and outside a start, and never otherwise. GAUGE_DISAGREEMENT
with readings more than 10 % of the lower apart sets the flag and is posted. SPEED_FLOOR_LOST with the core at 1.00 V,
the gauges read and a reading below its floor likewise. TIME_REFERENCE_CHECK keeps the count; within the limits of both
references it only clears what the last check found; outside them it is posted, and the second in a row for the same
reference drops every Quill enable and is a self-diagnosis fault. (R27, R28, R29, R33, R34, R35, R36, R37, R109) -/
def Obligations.GaugesAndReferences : Prop :=
  (∀ (a b : BitVec 10) (s : State), Does (.speedGaugeUpdate a b) s (fun t => t.tim.gaugeA = a ∧ t.tim.gaugeB = b ∧
    t.tim.lowA = (if a < s.tim.lowA then a else s.tim.lowA) ∧ t.tim.lowB = (if b < s.tim.lowB then b else s.tim.lowB) ∧
    (t.tim.vcore = s.tim.vcore ∨ t.tim.vcore = s.tim.vcore + 10 ∧ s.tim.vcore < 1000 ∧ t.tim.lastRaise = some (nowUs s)) ∧
    (∀ d : Bool, t.tim.gaugeDis = d → atGuards { s with tim := { s.tim with gaugeA := a, gaugeB := b, gaugeDis := d } } = false →
      s.sup.mode ≠ .start → s.tim.vcore < 1000 → (∀ u, s.tim.lastRaise = some u → u + 1000 ≤ nowUs s) →
      t.tim.vcore = s.tim.vcore + 10) ∧
    (s.sup.mode = .start → t.tim.vcore = s.tim.vcore) ∧
    (atGuards { s with tim := { s.tim with gaugeA := a, gaugeB := b } } = true →
      atGuards { s with tim := { s.tim with gaugeA := a, gaugeB := b, gaugeDis := false } } = true → t.tim.vcore = s.tim.vcore) ∧
    Changes [.tim] s t)) ∧
  (∀ s : State,
    let a := s.tim.gaugeA.toNat
    let b := s.tim.gaugeB.toNat
    (10 * (max a b - min a b) > min a b → exec .gaugeDisagreement s =
      .next (post 0x0701 0 [] { s with tim := { s.tim with gaugeDis := true, agreeSince := none, evt := setBit s.tim.evt 2 } })) ∧
    (s.tim.vcore = 1000 → s.tim.gauged = true → a < (floors s).1 ∨ b < (floors s).2 → exec .speedFloorLost s =
      .next (post 0x0702 0 [] { s with tim := { s.tim with floorLost := true, guardSince := none, evt := setBit s.tim.evt 1 } }))) ∧
  (∀ (ticks marks : Nat) (s : State),
    let qBad := decide (ticks < 95000 ∨ 105000 < ticks)
    let tBad := decide (marks < 95 ∨ 105 < marks)
    let kept : Tim := { s.tim with qtick := BitVec.ofNat 32 ticks, tbSeesQ := qBad, qSeesTb := tBad, tbRun := decide (marks ≠ 0) }
    (qBad = false → tBad = false → exec (.timeReferenceCheck ticks marks) s = .next { s with tim := kept }) ∧
    ((qBad && s.tim.tbSeesQ || tBad && s.tim.qSeesTb) = false → qBad || tBad = true →
      Does (.timeReferenceCheck ticks marks) s (fun t => t.tim = { kept with evt := setBit s.tim.evt 3 } ∧ t.sup = s.sup ∧ t.saf = s.saf)) ∧
    ((qBad && s.tim.tbSeesQ || tBad && s.tim.qSeesTb) = true → Does (.timeReferenceCheck ticks marks) s (fun t =>
      t.tim.tickFault = true ∧ t.saf.tickFault = true ∧ (∀ p ∈ t.saf.pairs, p.2.qen = false ∧ p.2.on = false) ∧
      (inService s = true → faultFailsStart s = false → s.pst.ownDrive = false → t.sup.mode = .safe))))

/-- Outside a start (in one, only the mean is recorded), GOVERNOR_EVALUATION over the effective ceiling with fewer than four
steps taken and 10 ms since the last takes the next step; over it at step 5 it lowers the core by 10 mV while it may; at
or under the ceiling, and not 0.5 W under it for a second, it takes nothing back, but for the floor guard's end of step
5 (R27). Under it for a second with the core below the unshed voltage it raises the core by 10 mV; otherwise it undoes
the latest step, one a second. CEILING_UNATTAINABLE, once step 5 has been held for 1 s with the core as low as it may
go, is posted once; a raised ceiling counts that second anew (the model's choice, log 129). An operator ceiling of 0, or
of 6 000 to 15 000 mW, is taken over rounded down to 100 mW, another refused; the end of the brown-out hold ends the 8 W
ceiling. Above 5 000 mW BARRIER_OVERLOAD is posted; above 5 500 mW the barrier limits, below 5 500 mW it does not. (R38,
R39, R40, R41, R43, R45, R47, R50, R152) -/
def Obligations.DrawGovernor : Prop :=
  (∀ (avg : BitVec 16) (s : State), s.sup.mode = .start → exec (.governorEvaluation avg) s =
    .next { s with tim := { s.tim with drawAvg := avg, drawPeak := if s.tim.drawPeak < avg then avg else s.tim.drawPeak } }) ∧
  (∀ (avg : BitVec 16) (s : State), s.sup.mode ≠ .start →
    let c := effCeiling s
    (avg.toNat > c → s.tim.shed < 4 → (∀ t, s.tim.lastTaken = some t → t + 10000 ≤ nowUs s) → Does (.governorEvaluation avg) s (fun t =>
      t.tim.shed = s.tim.shed + 1 ∧ t.tim.lastTaken = some (nowUs s) ∧ t.tim.drawAvg = avg)) ∧
    (avg.toNat > c → s.tim.shed < 4 → (∃ t, s.tim.lastTaken = some t ∧ nowUs s < t + 10000) → Does (.governorEvaluation avg) s (fun t =>
      t.tim.shed = s.tim.shed)) ∧
    (avg.toNat > c → s.tim.shed = 5 → s.tim.vcore.toNat > s.img.vminMv → aboveGuards s = true → atGuards { s with tim := { s.tim with vcore := s.tim.vcore - 10 } } = true →
      Does (.governorEvaluation avg) s (fun t => t.tim.shed = 5 ∧ t.tim.vcore = s.tim.vcore - 10)) ∧
    (avg.toNat ≤ c → c < avg.toNat + 500 → Does (.governorEvaluation avg) s (fun t => t.tim.underSince = none ∧
      (atGuards s = true ∨ s.tim.shed < 5 → t.tim.shed = s.tim.shed))) ∧
    (∀ u, avg.toNat + 500 ≤ c → s.tim.underSince = some u → u + 1000000 ≤ nowUs s → s.img.vunshedMv ≤ s.tim.vcore.toNat → 0 < s.tim.shed →
      (∀ t, s.tim.lastRestore = some t → t + 1000000 ≤ nowUs s) → Does (.governorEvaluation avg) s (fun t =>
        t.tim.lastRestore = some (nowUs s) ∧ (atGuards s = true ∨ s.tim.shed ≤ 5 → t.tim.shed = s.tim.shed - 1)))) ∧
  (∀ s : State,
    let held := 5 ≤ s.tim.shed ∧ mayLower s = false ∧ s.tim.drawAvg.toNat > effCeiling s ∧ ∃ u, s.tim.heldSince = some u ∧ u + 1000000 ≤ nowUs s
    (s.tim.unattain = true ∨ ¬held → exec .ceilingUnattainable s = .next s) ∧
    (held → s.tim.unattain = false → exec .ceilingUnattainable s =
      .next (post 0x0704 0 [] { s with tim := { s.tim with unattain := true, evt := setBit s.tim.evt 0 } }))) ∧
  (∀ (r : Req) (v : Word) (s : State), admits r lvEngineer s = true → s.sup.mode ≠ .decaf →
    (v = 0 ∨ 6000 ≤ v.toNat ∧ v.toNat ≤ 15000 → Does (.operatorCeilingWrite r v) s (fun t =>
      t.tim.ceilOp = BitVec.ofNat 16 (v.toNat / 100 * 100) ∧ t.sent = s.sent ++ responses r 0 [] s ∧
      (effCeiling s < effCeiling t → t.tim.unattain = false ∧ t.tim.heldSince = none) ∧ effCeiling t = (let k := if v = 0 then s.img.ceilingMw else v.toNat / 100 * 100; if s.tim.boHold then min k 8000 else k))) ∧
    (v ≠ 0 → v.toNat < 6000 ∨ 15000 < v.toNat → exec (.operatorCeilingWrite r v) s = .next (reply r 0x0003 [] (admitted r s)))) ∧
  (∀ s : State, Does .brownoutCeilingHoldEnd s (fun t => t.tim.boHold = false ∧ Changes [.tim] s t ∧
    effCeiling t = (if s.tim.ceilOp ≠ 0 then s.tim.ceilOp.toNat else s.img.ceilingMw))) ∧
  (∀ (avg : BitVec 16) (s : State), exec (.barrierOverload avg) s = .next (if avg.toNat > 5000
    then post 0x0705 0 [] { s with tim := { s.tim with barrierMw := avg, evt := setBit s.tim.evt 4 } }
    else { s with tim := { s.tim with barrierMw := avg } })) ∧
  (∀ (mw : Nat) (s : State), Does (.barrierLimit mw) s (fun t =>
    (5500 < mw → t.tim.barLimit = true) ∧ (mw < 5500 → t.tim.barLimit = false) ∧ (mw = 5500 → t.tim.barLimit = s.tim.barLimit)))

/-- For one sample of a slot whose PV is good, with the gains of the sample, E = sgn(setpoint − PV) in percent of the PV
span, P = Kp(β·setpoint − PV), the integrator stepped by Kp·Ts/Ti·E where Ti is above 0 and left where it is not, and
the filtered derivative. At a hand-over the candidate is the delivered output, the derivative is 0 and the integrator
takes up the difference. Otherwise the candidate is P + I + D + FF + bias held between the effective limits. A result
that is no number leaves P, I, D and the candidate of the previous sample, and a hand-over that it could not make is
still to be made. (R118, R119, R120, R121, R124, R128, R130, R481) -/
def Obligations.LoopLaw : Prop :=
  ∀ (c : LoopCfg) (ff : Word) (x : LoopSt),
    let sgn : Word := if c.direct then 0xBF800000 else 0x3F800000
    let pc := fun v : Word => fdiv (fmul 0x42C80000 (fsub v (lpar x 0))) (fsub (lpar x 1) (lpar x 0))
    let e := fmul sgn (fsub (pc x.sp) (pc x.pv))
    let g := loopGains x (schedVar c x (pc x.pv) (pc x.sp) ff)
    let p := fmul g.kp (fmul sgn (fsub (fmul (lpar x 9) (pc x.sp)) (pc x.pv)))
    let ed := fmul sgn (fsub (fmul (lpar x 10) (pc x.sp)) (pc x.pv))
    let fft := fadd (fmul (lpar x 12) ff) (lpar x 13)
    let ts := fofRatio c.period 10000
    let tf := fdiv g.td (lpar x 11)
    let i := if flt 0 g.ti then fadd x.i (fmul (fdiv (fmul g.kp ts) g.ti) e) else x.i
    let d := fadd (fmul (fdiv tf (fadd tf ts)) x.d) (fmul (fdiv (fmul g.kp g.td) (fadd tf ts)) (fsub ed x.edPrev))
    let total := fadd (fadd (fadd p i) d) fft
    let held := fun y : LoopSt => (y.p, y.i, y.d, y.cand, y.out, y.edPrev) = (x.p, x.i, x.d, x.cand, x.out, x.edPrev) ∧ y.stNan = true
    let i0 := fsub x.out (fadd p fft)
    (fnan total = false → let y := loopLaw c false ff x
      y.p = p ∧ y.i = i ∧ y.d = d ∧ y.edPrev = ed ∧ y.err = e ∧ y.out = x.out ∧ y.begun = true ∧
      y.cand = fmin (fmax total (loopLimits x).1) (loopLimits x).2.1) ∧
    (fnan total = true → held (loopLaw c false ff x)) ∧
    (fnan (fadd (fadd (fadd p i0) 0) fft) = false → let y := loopLaw c true ff x
      y.cand = x.out ∧ y.out = x.out ∧ y.d = 0 ∧ y.p = p ∧ y.i = i0 ∧ y.edPrev = ed ∧ y.begun = true ∧ y.pend = false) ∧
    (fnan (fadd (fadd (fadd p i0) 0) fft) = true → held (loopLaw c true ff x) ∧ (loopLaw c true ff x).pend = true)

/-- Where the engine evaluates, LOOP_TICK changes nothing of a slot that is not due. A single standalone slot that is due,
with no output channel, no request and no rate limits: in Manual, as before, it delivers its manual value held between
its effective limits; in Auto, as before, with a good PV from the program, it delivers the candidate of the loop law. A
mismatch of its two runs, in its states or in the delivered output, keeps its previous states, is counted and posted,
and the second in a row is a self-diagnosis fault. Where the engine does not evaluate, the tick changes nothing.
LOOP_OUTPUT_HANDOFF keeps the time taken; an evaluation that took more than 80 µs is the fault "loop engine late",
otherwise the delivered values are handed to their channels. (R121, R125, R127, R129, R132, R134, R135, R136, R141) -/
def Obligations.LoopEngine : Prop :=
  (∀ (m d : List (Fin 128)) (s : State),
    (lpeRuns s = false → exec (.loopTick m d) s = .next s) ∧
    (lpeRuns s = true → (∀ k ∈ s.img.loops.map (·.1), loopDue s k = false) →
      Does (.loopTick m d) s (fun t => t.lpe.slots = s.lpe.slots ∧ t.lpe.groups = s.lpe.groups ∧ Changes [.lpe] s t))) ∧
  (∀ (s : State) (k : Fin 128) (c : LoopCfg), lpeRuns s = true → s.img.loops = [(k.val, c)] → c.group = none → c.outch = 0 →
    c.spSrc ≠ 2 → loopDue s k.val = true →
    let x := lslot s k.val
    (x.progReq, x.opReq, x.progMan) = (none, none, none) → lpar x 6 = 0 → lpar x 7 = 0 →
    (x.mode = 1 → x.lastMode = 1 → Does (.loopTick [] []) s (fun t => (lslot t k.val).out = fmin (fmax x.man (loopLimits x).1) (loopLimits x).2.1 ∧
      (lslot t k.val).mode = 1 ∧ t.sup = s.sup)) ∧
    (x.mode = 2 → c.pvch = 0 → fnan (x.words.getD 4 0) = false → x.begun = true → x.pend = false → x.lastMode = 2 → x.stPvBad = false → x.stTake = false →
      let y := loopLaw c false (loopFf s k.val) { clearStatus x with pv := x.words.getD 4 0, sp := loopSp s k.val, stPvBad := false }
      Does (.loopTick [] []) s (fun t => (lslot t k.val).out = y.cand ∧ (lslot t k.val).p = y.p ∧ (lslot t k.val).d = y.d)) ∧
    (x.mode = 2 → ∀ p ∈ [([k], []), ([], [k]), ([k], [k])], Does (.loopTick p.1 p.2) s (fun t => (lslot t k.val).out = x.out ∧ (lslot t k.val).i = x.i ∧ (lslot t k.val).stMism = true ∧
      t.lpe.mismTotal = inc16 s.lpe.mismTotal ∧
      (x.stMism = true → inService s = true → faultFailsStart s = false → t.sup.mode = .safe)))) ∧
  (∀ (q : BitVec 16) (s : State), lpeRuns s = true →
    (q.toNat ≤ 800 → Does (.loopOutputHandoff q) s (fun t => t.lpe.tickLast = q ∧ t.lpe.tickMax = (if s.lpe.tickMax < q then q else s.lpe.tickMax) ∧
      t.lpe.slots = s.lpe.slots ∧ t.sup = s.sup)) ∧
    (800 < q.toNat → exec (.loopOutputHandoff q) s =
      .next (selfDiag .loopLate { s with lpe := { s.lpe with tickLast := q, tickMax := max16 s.lpe.tickMax q } })))

/-- An admitted request in Run or Commissioning on a slot of the image from Operate level: OPERATOR_MODE_REQUEST keeps the
request for the slot's next sample; OPERATOR_SETPOINT_WRITE and MANUAL_VALUE_WRITE take the value over, and a NaN is
answered 0x0003. A slot without a loop is answered 0x0003, another module state 0x0002, too low a level 0x0001. From
Engineer level TRACE_ARM arms an idle or done, enabled channel, TRACE_FORCE triggers an armed one, TRACE_STOP ends one
under way; outside those states, and in Hold, they are accepted and do nothing; what is armed under shed step 3 is Shed
(log 121). TRACE_CONFIG_WRITE takes the level always, the other two registers outside a capture, and refuses an
undefined signal, trigger or self-reference with 0x0003, and a channel under way with 0x0002. (R117, R123, R141, R142,
R144, R331, R481) -/
def Obligations.LoopWrites : Prop :=
  (∀ (r : Req) (k : Fin 128) (v : Word) (s : State), s.sup.mode ≠ .decaf →
    let put := fun (t : State) (f : LoopSt → LoopSt) => t.lpe = { s.lpe with slots := tmod {} s.lpe.slots k.val f } ∧ Answered r 0 [] s t
    let no := fun st : BitVec 16 => Host.Outcome.next (reply r st [] (admitted r s))
    (admits r lvOperate s = true → inRun s = true → (iget s.img.loops k.val).isSome = true →
      Does (.operatorModeRequest r k v) s (fun t => put t (fun x => { x with opReq := some (v.setWidth 2) })) ∧
      (fnan v = false → Does (.operatorSetpointWrite r k v) s (fun t => put t (fun x => { x with spop := v })) ∧
        Does (.manualValueWrite r k v) s (fun t => put t (fun x => { x with man := v }))) ∧
      (fnan v = true → exec (.operatorSetpointWrite r k v) s = no 0x0003 ∧ exec (.manualValueWrite r k v) s = no 0x0003)) ∧
    (admits r lvOperate s = true → inRun s = true → iget s.img.loops k.val = none → exec (.operatorModeRequest r k v) s = no 0x0003) ∧
    (admits r lvOperate s = true → inRun s = false → exec (.operatorModeRequest r k v) s = no 0x0002) ∧
    (admits r lvView s = true → admits r lvOperate s = false → exec (.operatorModeRequest r k v) s = no 0x0001)) ∧
  (∀ (r : Req) (j : Fin 16) (s : State), admits r lvEngineer s = true → s.sup.mode ≠ .decaf →
    let c := tget {} s.lpe.traces j.val
    let busy := c.st = .armed ∨ c.st = .capturing ∨ c.st = .shed
    let put := fun (t : State) (y : TraceSt) => t.lpe = { s.lpe with traces := tput {} s.lpe.traces j.val y } ∧ Answered r 0 [] s t
    let nothing := fun t : State => t.lpe = s.lpe ∧ Answered r 0 [] s t
    let no := fun st : BitVec 16 => Host.Outcome.next (reply r st [] (admitted r s))
    (¬busy → c.cfg.getLsbD 31 = true → s.sup.mode ≠ .hold → Does (.traceArm r j) s (fun t => put t
      { c with st := if 3 ≤ s.tim.shed then .shed else .armed, linked := false, count := 0, decim := 0, post := 0, capshed := false, trunc := false, last := 0x7FC00000, fired := false })) ∧
    (busy ∨ c.cfg.getLsbD 31 = false ∨ s.sup.mode = .hold → Does (.traceArm r j) s nothing) ∧
    (c.st = .armed → s.sup.mode ≠ .hold → Does (.traceForce r j) s (fun t => put t { c with
      st := .capturing, fired := true, tlo := BitVec.ofNat 32 (nowUs s), thi := BitVec.ofNat 32 (nowUs s / 0x100000000),
      count := min c.count (c.trig.toNat % 8192), post := 0 })) ∧
    (c.st ≠ .armed ∨ s.sup.mode = .hold → Does (.traceForce r j) s nothing) ∧
    (busy → s.sup.mode ≠ .hold → Does (.traceStop r j) s (fun t => put t { c with st := .idle })) ∧
    (¬busy ∨ s.sup.mode = .hold → Does (.traceStop r j) s nothing) ∧
    (∀ v : Word, Does (.traceConfigWrite r j .level v) s (fun t => put t { c with level := v }) ∧
      (busy → exec (.traceConfigWrite r j .cfg v) s = no 0x0002 ∧ exec (.traceConfigWrite r j .trig v) s = no 0x0002) ∧
      (¬busy → v.toNat / 0x100000 % 16 ≤ 10 → (v.getLsbD 31 = true → (iget s.img.loops (v.toNat / 0x1000000 % 128)).isSome = true) →
        Does (.traceConfigWrite r j .cfg v) s (fun t => put t { c with cfg := v &&& 0xFFF0FFFF })) ∧
      (¬busy → 10 < v.toNat / 0x100000 % 16 → exec (.traceConfigWrite r j .cfg v) s = no 0x0003) ∧
      (¬busy → v.toNat / 0x10000000 < 7 ∨ v.toNat / 0x10000000 = 7 ∧ v.toNat / 0x1000000 % 16 ≠ j.val →
        Does (.traceConfigWrite r j .trig v) s (fun t => put t { c with trig := v &&& 0xFF001FFF })) ∧
      (¬busy → 7 < v.toNat / 0x10000000 ∨ v.toNat / 0x10000000 = 7 ∧ v.toNat / 0x1000000 % 16 = j.val →
        exec (.traceConfigWrite r j .trig v) s = no 0x0003)))

/-- SAFETY_INPUT_FILTER_TICK on a digital input with SAFETY = 1 steps both counter filters, the group controller's and the
Quill's, each by the rule of R155 with N = FILT[31:16]; DEBOUNCE_ACCEPT on one with SAFETY = 0 takes the raw state over,
and as the filtered state where it has held for the debounce time; each counts a change of the filtered state, keeps the
state as the channel's live value and looks at the quality again. On any other channel they change nothing.
SENSOR_SUPPLY_TRIP switches the supply on B off, and a linked channel of no higher code takes code 0x5;
SENSOR_SUPPLY_RETRY ends that where the retry does not limit. No other channel changes. (R149, R151, R154, R155, R156,
R183) -/
def Obligations.DigitalInputs : Prop :=
  ∀ (ch : Fin 96) (raw : Bool) (s : State),
    let i := ch.val
    let c := chan s i
    let n := (chanCfg s i).filt.toNat / 65536
    let count := fun k : Nat => if raw then min (k + 1) n else k - 1
    let state := fun (k : Nat) (st : Bool) => if count k = n then true else if count k = 0 then false else st
    let took := fun (c : Chan) (f : Bool) (t : State) => ∃ h, ChanNow i { c with
      raw := raw, filt := f, changes := (if f ≠ c.filt then c.changes + 1 else c.changes), hasValue := true,
      live := Word.flag f 0 ||| Word.flag raw 1, hist := (nowUs s, Word.flag f 0 ||| Word.flag raw 1) :: h } s t
    let safe := chanMode s i = 1 ∧ (chanCfg s i).safety = true
    let plain := chanMode s i = 1 ∧ (chanCfg s i).safety = false
    (safe → Does (.safetyInputFilterTick ch raw) s
      (took { c with cnt := count c.cnt, qcnt := count c.qcnt, qfilt := state c.qcnt c.qfilt,
                      qAt := if state c.qcnt c.qfilt ≠ c.qfilt then nowUs s else c.qAt } (state c.cnt c.filt))) ∧
    (¬safe → exec (.safetyInputFilterTick ch raw) s = .next s) ∧
    (plain → ∀ held, Does (.debounceAccept ch ⟨raw, held⟩) s (took c (if held then raw else c.filt))) ∧
    (¬plain → ∀ held, exec (.debounceAccept ch ⟨raw, held⟩) s = .next s) ∧
    ((chanCfg s i).supply = true → isInput (chanMode s i) = true → Does (.sensorSupplyTrip ch) s (fun t =>
      ChanNow i { c with qSupply := true, supplyOff := true } s t ∧
      ((grp s (groupOf i)).maint = false → (grp s (groupOf i)).link = true → c.hasValue = true → c.heldE = false →
        s.tim.barLimit = false → c.frozen = false → (chan t i).code = 5))) ∧
    (c.supplyOff = true → Does (.sensorSupplyRetry ch false) s (ChanNow i { c with qSupply := false, supplyOff := false } s)) ∧
    exec (.sensorSupplyRetry ch true) s = .next s ∧ (c.supplyOff = false → exec (.sensorSupplyRetry ch raw) s = .next s)

/-- Outside the standby role. OUTPUT_OVERLOAD_TRIP switches the whole set of a stage that is on off with its condition;
OUTPUT_OVERLOAD_RETRY with the command on counts, and ends the condition where it does not limit; with the command off
it does nothing. With readback diagnostics running, OPEN_LOAD_DETECT and PARALLEL_IMBALANCE begin or end their condition
on the set, and SHORT_TO_SUPPLY_DETECT on an output off, and commanded off, begins it at 11 V or more, ends it at 5 V or
less and otherwise leaves it; on a channel of a pair that is off, beginning sets the SHORT latch. PWM_PERIOD_START takes
the measured on time of a completed period in and puts the new duty in force, 0 in row 1 of R16 or without the group's
link; ten periods in a row that read 11 V or more in the middle of the off time begin code 0x9, ten at 5 V or less end
it. TEST_PULSE_START darkens a source that is on; TEST_PULSE_END ends that and judges the readback.
PARTNER_OUTPUT_MISMATCH in a standby begins or ends code 0xD on the set as the terminal disagrees with the partner's
command, by more than 0.2 mA on a current-loop output: its drive target is the state copy's where a copy has brought
one, else its own command with the partner's trims. (R150, R158, R159, R160, R161, R162, R163, R172, R229) -/
def Obligations.OutputDiagnostics : Prop :=
  ∀ (ch : Fin 96) (s : State),
    let i := ch.val
    let c := chan s i
    let m := chanMode s i
    let cfg := chanCfg s i
    let acts := roleShown s ≠ .standby
    let g := grp s (groupOf i)
    (isSwitch m = true → acts → c.stage = true →
      Does (.outputOverloadTrip ch) s (SetNow i (fun x => { x with tripped := true, stage := false }) s)) ∧
    (c.stage = false → exec (.outputOverloadTrip ch) s = .next s) ∧
    (c.tripped = true → cmdOn s i = true → acts →
      Does (.outputOverloadRetry ch true) s (fun t => chan t i = { c with retries := inc16 c.retries } ∧ Changes [.fch] s t) ∧
      (m = 2 → cfg.par = 0 → g.outWait = false → Does (.outputOverloadRetry ch false) s (fun t =>
        (chan t i).tripped = false ∧ (chan t i).retries = inc16 c.retries ∧ (chan t i).stage = ((driven s i).getLsbD 0 && g.link)))) ∧
    (∀ lim, cmdOn s i = false → exec (.outputOverloadRetry ch lim) s = .next s) ∧
    (∀ ma : BitVec 16, m = 2 → cfg.safety = false → cfg.sub.getLsbD 0 = true → c.stage = true → acts → g.suppr = false →
      Does (.openLoadDetect ch ma) s (SetNow i (fun x => { x with qOpen := decide (ma.toNat < 5) }) (setChan i (fun x => { x with rbCur := ma }) s))) ∧
    (∀ v : Int, m = 2 ∨ m = 3 ∨ m = 0xB → c.stage = false → acts → g.suppr = false →
      let u := setChan i (fun x => { x with rbVolt := BitVec.ofInt 16 v }) s
      (1100 ≤ v → cmdOn s i = false → isPairChan s i = false → Does (.shortToSupplyDetect ch v) s (SetNow i (fun x => { x with qCross := true }) u)) ∧
      (1100 ≤ v → cmdOn s i = false → isPairChan s i = true → (tget {} s.saf.pairs (pairOf s i)).on = false →
        Does (.shortToSupplyDetect ch v) s (fun t => (tget {} t.saf.pairs (pairOf s i)).short = true ∧ (chan t i).qCross = true)) ∧
      (v ≤ 500 → Does (.shortToSupplyDetect ch v) s (SetNow i (fun x => { x with qCross := false }) u)) ∧
      (500 < v → v < 1100 ∨ cmdOn s i = true → exec (.shortToSupplyDetect ch v) s = .next u)) ∧
    (∀ b, cfg.par ≠ 0 → acts → g.suppr = false → Does (.parallelImbalance ch b) s (SetNow i (fun x => { x with qImbal := b }) s)) ∧
    (∀ (on : Nat) (mid : Option Int), m = 3 → Does (.pwmPeriodStart ch ⟨on, mid⟩) s (fun t =>
      let d := if row1 s = true ∨ g.link = false then 0 else pwmDuty cfg c.cmd
      (chan t i).duty = d ∧ (chan t i).stage = ((!row1 s && g.link) && !c.tripped && flt 0 d) ∧
      (chan t i).duties = (if c.raw then (c.duties ++ [on]).drop (c.duties.length - 9) else c.duties) ∧
      (∀ v, mid = some v → acts → g.suppr = false →
        (chan t i).qCross = if 1100 ≤ v ∧ 9 ≤ c.offRun then true else if v ≤ 500 ∧ c.offRun ≤ -9 then false else c.qCross) ∧
      (∀ j, j ≠ i → chan t j = chan s j) ∧ Changes [.fch, .evr] s t)) ∧
    (∀ w : Word, fnan w = true → 500 ≤ cfg.filt.toNat % 0x1000000 → pwmDuty cfg w = 0) ∧
    (m = 0xA → acts → c.stage = true → exec (.testPulseStart ch) s = .next (setChan i (fun x => { x with dark := true }) s)) ∧
    (∀ p : PulseSeen, c.dark = true → acts → g.suppr = false →
      Does (.testPulseEnd ch p) s (ChanNow i { c with dark := false, qCross := p == .stayedHigh, qShort := p == .stayedLow } s)) ∧
    (∀ (v : Int) (lost : Bool), roleShown s = .standby →
      let u := setChan i (fun x => { x with rbVolt := BitVec.ofInt 16 v }) s
      let off := fun w : Word => (fval w).scaledGt 1000 (c.lmean + 200) || (fval w).scaledLt 1000 (c.lmean - 200)
      (m = 9 → lost = false → copyFed s = false ∨ iget s.pst.targets i = none → flt 0 (clampCmd cfg (partnerCmd s i)) = true →
        Does (.partnerOutputMismatch ch ⟨v, lost⟩) s (SetNow i (fun x => let t := tget {} s.fch.partnerTrims i
          { x with qPartner := off (driveTarget (clampCmd cfg (partnerCmd s i)) t.z t.s) }) s)) ∧
      (m = 9 → lost = false → copyFed s = true → ∀ w, iget s.pst.targets i = some (w, false) →
        Does (.partnerOutputMismatch ch ⟨v, lost⟩) s (SetNow i (fun x => { x with qPartner := off w }) s)) ∧
      (m = 9 → lost = true → exec (.partnerOutputMismatch ch ⟨v, lost⟩) s = .next s) ∧
      (m = 2 → isPairChan s i = false → g.suppr = false → Does (.partnerOutputMismatch ch ⟨v, lost⟩) s (SetNow i (fun x =>
        { x with qPartner := decide (1100 ≤ v) != (partnerCmd s i).getLsbD 0 }) u)) ∧
      (isSwitch m = true → g.suppr = true → exec (.partnerOutputMismatch ch ⟨v, lost⟩) s = .next u)) ∧
    (∀ v lost, acts → exec (.partnerOutputMismatch ch ⟨v, lost⟩) s = .next s)

/-- CONVERSION_COMPLETE on a 4–20 mA input gives the engineering value linear between FCH_LO at 4 mA and FCH_HI at 20 mA in
every band, and the conditions of the bands of R166; on a 0–10 V input the value linear between 0 V and 10 V, RANGE and
the over-range condition of R167; on an RTD a break or a short holds the value. A conversion that the mode does not
measure leaves every value. THERMOCOUPLE_BREAK_TEST above 100 mV is a break. FREQUENCY_GATE gives periods over their
time divided by the pulses per unit, over range above the limit of the threshold set; FREQUENCY_TIMEOUT gives 0.0;
PULSE_EDGE adds one modulo 2^32. SHARED_INPUT_TAKEOVER_CHECK holds a disagreeing input for at most 10 ms. A frozen
input, or one under a barrier that limits, keeps its shown value. (R149, R152, R165, R166, R167, R168, R169, R171, R173,
R183) -/
def Obligations.MeasuredInputs : Prop :=
  ∀ (ch : Fin 96) (s : State),
    let i := ch.val
    let c := chan s i
    let m := chanMode s i
    let cfg := chanCfg s i
    let shown := fun w : Word => if c.frozen = true ∨ c.heldE = true ∨ s.tim.barLimit = true then c.value else w
    let conv := fun (e : Chan) (w : Word) (t : State) => ∃ h, ChanNow i { e with
      rawCode := (freeVal s).setWidth 24, live := w, value := shown w, hasValue := true, hist := (nowUs s, w) :: h }
      { s with free := s.free + 1 } t
    let cleared := { c with qShort := false, qOpen := false, qNeLow := false, qNeHigh := false, qOver := false, range := false, qCold := false }
    (m = 4 → cfg.sub.getLsbD 0 = true → ∀ (ua : Int) (lim : Bool),
      let w := linear cfg.lo cfg.hi ua 4000 16000
      let on := fun e : Chan => Does (.conversionComplete ch (.current ua lim)) s (conv e w)
      (lim = true ∨ 23000 ≤ ua → on { cleared with qShort := true }) ∧
      (lim = false → ua < 500 → on { cleared with qOpen := true }) ∧
      (lim = false → 500 ≤ ua → ua < 3600 → on { cleared with qNeLow := true }) ∧
      (lim = false → 3600 ≤ ua → ua < 3800 → on { cleared with range := true }) ∧
      (lim = false → 3800 ≤ ua → ua ≤ 20500 → on cleared) ∧
      (lim = false → 20500 < ua → ua ≤ 21000 → on { cleared with range := true }) ∧
      (lim = false → 21000 < ua → ua < 23000 → on { cleared with qNeHigh := true })) ∧
    (m = 5 → ∀ uv : Int, Does (.conversionComplete ch (.voltage uv)) s (conv { cleared with
      rbVolt := BitVec.ofInt 16 (uv / 10000), range := decide (uv < -200000) || decide (10500000 < uv), qOver := decide (uv ≤ -500000) || decide (11000000 ≤ uv) }
      (linear cfg.lo cfg.hi uv 0 10000000))) ∧
    (m = 6 → ∀ r lead : Nat,
      let k := if cfg.sub.getLsbD 2 then 10 else 1
      let held := fun e : Chan => Does (.conversionComplete ch (.rtd r lead)) s
        (ChanNow i { e with rawCode := (freeVal s).setWidth 24, hasValue := true } { s with free := s.free + 1 })
      (4000000 * k < r → held { cleared with qOpen := true }) ∧ (r < 10000 * k → held { cleared with qShort := true })) ∧
    (m ≠ 4 → m ≠ 5 → m ≠ 6 → m ≠ 7 → ∀ x, Does (.conversionComplete ch x) s
      (ChanNow i { c with rawCode := (freeVal s).setWidth 24 } { s with free := s.free + 1 })) ∧
    (m = 7 → ∀ uv : Int, Does (.thermocoupleBreakTest ch uv) s (ChanNow i { c with qOpen := decide (100000 < uv) } s)) ∧
    (m = 8 → cfg.sub.getLsbD 0 = false →
      let took := fun (w : Word) (past : Bool) (t : State) => ∃ h,
        ChanNow i { c with qOver := past, live := w, value := shown w, hasValue := true, hist := (nowUs s, w) :: h } s t
      (∀ periods ticks : Nat, ticks ≠ 0 → Does (.frequencyGate ch periods ticks) s
        (took (freqWord cfg.aux periods ticks) (decide ((if cfg.sub.getLsbD 1 then 50000 else 20000) * ticks < periods * 25000000)))) ∧
      Does (.frequencyTimeout ch) s (took 0 false) ∧ exec (.pulseEdge ch) s = .next s) ∧
    (m = 8 → cfg.sub.getLsbD 0 = true → Does (.pulseEdge ch) s (fun t => ∃ h, ChanNow i
      { c with live := c.live + 1, value := shown (c.live + 1), hasValue := true, hist := (nowUs s, c.live + 1) :: h } s t)) ∧
    (m = 4 ∨ m = 6 → s.pst.member = true →
      Does (.sharedInputTakeoverCheck ch false false) s (ChanNow i { c with heldE := true } s) ∧
      (∀ a b, a = true ∨ b = true → Does (.sharedInputTakeoverCheck ch a b) s
        (ChanNow i { c with heldE := false, value := if s.tim.barLimit then c.value else if c.frozen then c.fz else c.live } s)))

/-- GROUP_SUPPLY_LEVEL_CHANGE moves the level by R174, keeps the measured voltage and current, and posts 0x0601; on entering
low fault outside maintenance, unfrozen inputs freeze and SUPPR is set, and a freezing input shows what it held 2 ms
before. SAG_LATCH_TIMER in low fault sets the SAG latch of every pair of the group and opens it.
READBACK_DIAGNOSTICS_RESUME after low fault ends SUPPR. COUPLER_FRAME moves the stream's expected sequence on by the
empty slots and its own, and counts them all where its frame fails the check for that sequence. GROUP_LINK_LOST marks
the link lost and turns every stage of the group off. GROUP_LINK_RESTORE ends the loss of the Quill stream and brings a
lost link back, outputs waiting for TO. QUILL_STREAM_LOST opens the group's pairs and marks the loss, a cause of demand.
ENTER_ and LEAVE_MAINTENANCE, admitted at Engineer in service with none waiting for the group, wait for the T0 of R79;
otherwise they are answered 0x0002. (R16, R174, R175, R176, R177, R178, R179, R180, R183, R205, R277) -/
def Obligations.GroupSupplies : Prop :=
  ∀ (g : Fin 6) (s : State),
    let x := grp s g.val
    let low := x.level = .fault ∨ x.level = .missing
    (∀ (e : SupplyEvent) (v a : BitVec 16), Does (.groupSupplyLevelChange g e v a) s (fun t =>
      let y := grp t g.val
      y.volt = v ∧ y.current = a ∧ y.voltMin = (if v < x.voltMin ∨ x.voltMin = 0 then v else x.voltMin) ∧
      (e = .warnOn → y.warnOn = true ∧ y.level = (if x.level = .normal then .warning else x.level)) ∧
      (e = .warnOff → y.warnOn = false ∧ y.level = (if x.level = .warning then .normal else x.level)) ∧
      (e = .faultOn → y.level = if x.level = .missing then .missing else .fault) ∧
      (e = .faultOff → y.level = if x.level = .fault then (if x.warnOn then .warning else .normal) else x.level) ∧
      (e = .missingOn → y.level = .missing) ∧ (e = .missingOff → y.level = if x.level = .missing then .fault else x.level) ∧
      (e = .highOn → y.high = true ∧ y.level = x.level) ∧ (e = .highOff → y.high = false ∧ y.level = x.level) ∧
      (e = .faultOn → x.maint = false → ¬low → y.suppr = true ∧ y.sagArmed = true ∧ y.cntFault = inc16 x.cntFault ∧
        ∀ j ∈ groupChans g.val, freezes s j = true → (chan t j).frozen = true ∧ (chan t j).fz = valueBefore (nowUs s) (chan s j) ∧
          (s.tim.barLimit = false → (chan s j).heldE = false → (chan t j).value = (chan t j).fz)) ∧
      Changes [.fch, .evr] s t)) ∧
    (low → x.sagArmed = true → x.maint = false → s.sup.mode ≠ .decaf → Does (.sagLatchTimer g) s (fun t =>
      (grp t g.val).sagArmed = false ∧ (∀ p ∈ pairsIn s g.val, (tget {} t.saf.pairs p).sag = true ∧ (tget {} t.saf.pairs p).on = false) ∧
      ∀ p, p ∉ pairsIn s g.val → tget {} t.saf.pairs p = tget {} s.saf.pairs p)) ∧
    (x.sagArmed = false → exec (.sagLatchTimer g) s = .next s) ∧
    (x.suppr = true → ¬low → Does (.readbackDiagnosticsResume g) s (fun t => grp t g.val = { x with suppr := false } ∧ Changes [.fch, .evr] s t)) ∧
    (low → exec (.readbackDiagnosticsResume g) s = .next s) ∧
    (∀ (n : Nat) (b : List Byte),
      let ql := x.seqLane + BitVec.ofNat 16 (n + 1)
      let qq := x.seqQuill + BitVec.ofNat 8 (n + 1)
      Does (.couplerFrame g .lane n b) s (fun t => grp t g.val = { x with
          seqLane := ql, missLane := if (laneFrame g.val ql b).isSome then 0 else x.missLane + n + 1 } ∧
        (∀ k, k ≠ g.val → grp t k = grp s k) ∧ t.fch.ch = s.fch.ch ∧ Changes [.fch] s t) ∧
      Does (.couplerFrame g .quill n b) s (fun t => grp t g.val = { x with
          seqQuill := qq, missQuill := if (quillFrame qq b).isSome then 0 else x.missQuill + n + 1 } ∧
        (∀ k, k ≠ g.val → grp t k = grp s k) ∧ t.fch.ch = s.fch.ch ∧ Changes [.fch] s t)) ∧
    Does (.groupLinkLost g) s (fun t => (grp t g.val).link = false ∧
      (∀ p ∈ pairsIn s g.val, (tget {} t.saf.pairs p).on = false)) ∧
    (x.link = false → Does (.groupLinkRestore g) s (fun t =>
      grp t g.val = { x with link := true, quillLost := false, outWait := true } ∧ Changes [.fch, .evr] s t)) ∧
    (x.link = true → Does (.groupLinkRestore g) s (fun t => grp t g.val = { x with quillLost := false } ∧ Changes [.fch] s t)) ∧
    Does (.quillStreamLost g) s (fun t => (grp t g.val).quillLost = true ∧ (∀ p ∈ pairsIn s g.val, (tget {} t.saf.pairs p).on = false)) ∧
    (∀ r : Req, admits r lvEngineer s = true → inService s = true →
      let waits := fun (b : Bool) (t : State) => t.cyc.sched = s.cyc.sched ++ [⟨nowUs s, .maint g b, false⟩] ∧
        grp t g.val = { x with maintPend := true } ∧ AcceptedBoth r (.maint g b) s t
      (x.maintPend = false → Does (.enterMaintenance r g) s (waits true) ∧ Does (.leaveMaintenance r g) s (waits false)) ∧
      (x.maintPend = true → Does (.enterMaintenance r g) s (Answered r 0x0002 [] s) ∧
        Does (.leaveMaintenance r g) s (Answered r 0x0002 [] s)))

/-- QUILL_EVALUATION never turns a pair on and leaves every pair's QEN at the AND of R208. Where the Quill evaluates, a slot
of type 0x0 to 0x3 that no test holds: Fault stays Fault; Released or Awaiting reset with a cause of demand goes to
Demanded, counted, its off delay started from Released where it has one, and without a cause stays; Demanded stays while
a cause, an off delay or a pending start-up test stands, and otherwise goes to Awaiting reset, or to Released with
automatic reset, which an emergency stop never has. A two-hand slot in Demanded rearms only with all four channels at
rest and is released only from rearmed, by both buttons. Where it does not evaluate, every slot stays and every QEN is
0. (R205, R206, R207, R208, R211, R212, R213, R214, R217, R220, R221, R237) -/
def Obligations.QuillEvaluation : Prop :=
  ∀ s : State, Does .quillEvaluation s (fun t =>
    (∀ p, (tget {} t.saf.pairs p).on = true → (tget {} s.saf.pairs p).on = true) ∧
    (∀ p, p < 24 → (tget {} t.saf.pairs p).qen = qenOf t p) ∧
    (quillActive s = false → t.saf.slots = s.saf.slots ∧ ∀ p, p < 24 → (tget {} t.saf.pairs p).qen = false) ∧
    (quillActive s = true → (s.img.slotsCfg.map (·.1)).Nodup → ∀ n c, (n, c) ∈ s.img.slotsCfg → c.typ.toNat < 4 →
      let x := tget {} s.saf.slots n
      let y := tget {} t.saf.slots n
      let cause := otherExt s n || !allRun s c
      x.testing = false →
      (x.st = .fault → y.st = .fault) ∧
      (x.st = .released ∨ x.st = .awaiting → cause = true → y.st = .demanded ∧ y.cntDemand = inc16 x.cntDemand ∧
        y.delaying = (x.delaying || (x.st == .released && c.typ != 2 && c.offDelay != 0))) ∧
      (x.st = .released ∨ x.st = .awaiting → cause = false → y.st = x.st) ∧
      (x.st = .demanded → c.typ ≠ 2 →
        (cause = true ∨ x.delaying = true ∨ (x.startupPend = true ∧ allDemandState s c = false) → y.st = .demanded) ∧
        (cause = false → x.delaying = false → x.startupPend = false ∨ allDemandState s c = true →
          y.st = if c.auto = true ∧ c.typ ≠ 0 then .released else .awaiting)) ∧
      (x.st = .demanded → c.typ = 2 →
        (atRest s c = true → y.st = .demanded ∧ y.rearmed = true) ∧
        (atRest s c = false → x.rearmed = false → y.st = .demanded ∧ y.rearmed = false) ∧
        (atRest s c = false → x.rearmed = true → button s c true = true → button s c false = true →
          otherExt s n = false → x.delaying = false → y.st = .released))))

/-- On a configured slot while the Quill evaluates. DISCREPANCY_TIMEOUT on a slot whose channels disagree is Fault 0x01;
TEST_PULSE_CHECK on an input that names a source and reads on: its source's second pulse in a row without 20 low samples
in its place is Fault 0x02, 20 low samples in another source's pulse are Fault 0x03; a period of its own source in which
its pulse is not checked ends the run; BRAKE_FEEDBACK_TIMEOUT is Fault 0x05 with a pair on and the feedback applied,
0x04 with none on and the feedback released. A fault ends any off delay and test, a test without a verdict (the model's
choice, log 144). SAFETY_OFF_DELAY_END ends the delay; TWO_HAND_SYNC_MISS keeps the slot Demanded, not rearmed, and
counts. BRAKE_TEST, at Operate, begins a test where the conditions of R232 hold and is answered 0x0002 otherwise, also
while one runs (the model's choice, log 143); BRAKE_TEST_EDGE does so or counts the refusal. BRAKE_TORQUE_TIMEOUT fails
the test; BRAKE_TEST_END passes it where the standstill input is on. A pass sets BRKAGE to 0. BRKAGE_TICK adds one
minute to every brake slot of the loaded image, or of the last one where none is loaded. Without the slot or its
condition nothing changes. (R211, R212, R217, R219, R220, R222, R223, R230, R231, R232, R233, R234) -/
def Obligations.SafetySlotEvents : Prop :=
  (∀ (n : Fin 16) (s : State) (c : SlotCfg), iget s.img.slotsCfg n.val = some c → quillActive s = true →
    let x := tget {} s.saf.slots n.val
    let slot := fun t : State => tget {} t.saf.slots n.val
    let fault := fun (code : Byte) (t : State) => (slot t).st = .fault ∧ (slot t).fault = code ∧ (slot t).delaying = false ∧
      (slot t).testing = false ∧ (slot t).cntFault = inc8 x.cntFault
    let miss := fun (k : Fin 4) (y : Slot) => tget 0 y.missed k.val
    let on := (slotPairs c).any (fun p => (tget {} s.saf.pairs p).on)
    (x.st ≠ .fault →
      (c.typ ≠ 4 → disagrees s c = true → Does (.discrepancyTimeout n) s (fault 1)) ∧
      (c.typ = 4 → c.ch1 ≠ 0 → (on = true → qin s c.ch1 = true → Does (.brakeFeedbackTimeout n) s (fault 5)) ∧
        (on = false → qin s c.ch1 = false → Does (.brakeFeedbackTimeout n) s (fault 4)))) ∧
    (disagrees s c = false → exec (.discrepancyTimeout n) s = .next s) ∧
    (∀ p : PulseSamples,
      let own := p.source.val + 1 = (slotChan c p.input).2
      let seen := pulseSeen p.raw
      let low := lowRunFrom 40 true p.raw
      let checked := pulseChecked s c p.input = true ∧ chanMode s p.source.val = 0xA
      (checked → own → seen = true → Does (.testPulseCheck n p) s (fun t => miss p.input (slot t) = 0 ∧ (slot t).st = x.st)) ∧
      (checked → own → seen = false → miss p.input x = 0 → Does (.testPulseCheck n p) s (fun t => miss p.input (slot t) = 1 ∧ (slot t).st = x.st)) ∧
      (checked → own → seen = false → 1 ≤ miss p.input x → x.st ≠ .fault → Does (.testPulseCheck n p) s (fault 2)) ∧
      (checked → ¬own → low = true → x.st ≠ .fault → Does (.testPulseCheck n p) s (fault 3)) ∧
      (checked → ¬own → low = false → Does (.testPulseCheck n p) s (fun t => (slot t).st = x.st ∧ (slot t).missed = x.missed)) ∧
      (own → pulseChecked s c p.input = false → x.st ≠ .fault → Does (.testPulseCheck n p) s (fun t =>
        miss p.input (slot t) = 0 ∧ (slot t).st = x.st ∧ Changes [.saf] s t)) ∧
      (¬checked → ¬own ∨ pulseChecked s c p.input = true ∨ x.st = .fault → exec (.testPulseCheck n p) s = .next s)) ∧
    (x.st = .demanded → x.delaying = true → Does (.safetyOffDelayEnd n) s (fun t => (slot t).delaying = false)) ∧
    (x.delaying = false → exec (.safetyOffDelayEnd n) s = .next s) ∧
    (c.typ = 2 → x.st = .demanded → x.firstButton = true → Does (.twoHandSyncMiss n) s (fun t =>
      slot t = { x with syncMiss := true, rearmed := false, firstButton := false, syncCnt := x.syncCnt + 1 })) ∧
    (x.firstButton = false → exec (.twoHandSyncMiss n) s = .next s) ∧
    (brakeTestOk s n.val = true → ∀ r : Req, admits r lvOperate s = true →
      Does (.brakeTest r n) s (fun t => (slot t).testing = true ∧ (slot t).torque = (c.ch3 == 0) ∧ (slot t).ext = true ∧ Answered r 0 [] s t)) ∧
    (brakeTestOk s n.val = false → ∀ r : Req, s.sup.mode ≠ .decaf → admits r lvOperate s = true →
      Does (.brakeTest r n) s (fun t => Answered r 0x0002 [] s t ∧ t.saf = s.saf)) ∧
    (c.typ = 4 → c.ch4 ≠ 0 → (brakeTestOk s n.val = true → Does (.brakeTestEdge n) s (fun t => (slot t).testing = true)) ∧
      (brakeTestOk s n.val = false → Does (.brakeTestEdge n) s (fun t => slot t = { x with refused := x.refused + 1 }))) ∧
    (x.testing = true → x.torque = false → Does (.brakeTorqueTimeout n) s (fun t => (slot t).testing = false ∧ (slot t).testFailed = true)) ∧
    (x.testing = true → x.torque = true → Does (.brakeTestEnd n) s (fun t => (slot t).testing = false ∧
      (slot t).testFailed = (!qin s c.ch2) ∧ (qin s c.ch2 = true → brakeAge t n.val = 0) ∧ (qin s c.ch2 = false → brakeAge t n.val = brakeAge s n.val))) ∧
    (x.testing = false → exec (.brakeTorqueTimeout n) s = .next s ∧ exec (.brakeTestEnd n) s = .next s)) ∧
  (∀ s : State, (agedSlots s).Nodup →
    Does .brkageTick s (fun t => ∀ n, brakeAge t n = if n ∈ agedSlots s then min (brakeAge s n + 1) 0xFFFFFFFF else brakeAge s n) ∧
    (s.boot.loaded = true → s.sup.mode ≠ .decaf → ∀ n, n ∈ agedSlots s ↔ ∃ c, (n, c) ∈ s.img.slotsCfg ∧ c.typ = 4))

/-- RESET_DEMAND while the Quill evaluates, on a slot of type 0x0 to 0x3 that names the input and has no stuck reset: a
press of 50 ms to 3 s releases an Awaiting slot of manual reset that has no cause of demand, leaves one that has, moves
Fault to Demanded once all inputs have been in their demand state and the cause has ended, and leaves every other slot;
on the pairs named it clears SAG, MAINT, SHORT and EDM_FAULT where their cause has ended, and never STUCK. A shorter
press does nothing, a longer one is counted. It turns no pair on. RESET_INPUT_HELD_LONG sets RST_STUCK on the slots that
name the input. SWITCH_OFF_TEST on a pair that is on with STEST fails where terminal A stays above 5 V on the P side,
below 11 V on the M side: the second failure of one switch in a row opens the pair with STUCK. EDM_TIMEOUT where the
input has not followed opens it with EDM_FAULT. (R205, R212, R214, R224, R225, R226, R227, R228, R229) -/
def Obligations.PairsAndResetDemand : Prop :=
  (∀ (ch : Fin 96) (ms : Nat) (s : State), quillActive s = true → (s.img.slotsCfg.map (·.1)).Nodup →
    let names := fun c : SlotCfg => c.rst = ch.val + 1
    (ms < 50 → exec (.resetDemand ch ms) s = .next s) ∧
    (3000 < ms → Does (.resetDemand ch ms) s (fun t => t.saf.pairs = s.saf.pairs ∧
      ∀ n c, (n, c) ∈ s.img.slotsCfg → let x := tget {} s.saf.slots n
        tget {} t.saf.slots n = if names c then { x with cntLong := inc8 x.cntLong } else x)) ∧
    (50 ≤ ms → ms ≤ 3000 → Does (.resetDemand ch ms) s (fun t =>
      (∀ p, (tget {} t.saf.pairs p).on = true → (tget {} s.saf.pairs p).on = true) ∧
      (∀ p, (tget {} t.saf.pairs p).stuck = (tget {} s.saf.pairs p).stuck) ∧
      (∀ n c, (n, c) ∈ s.img.slotsCfg → c.typ.toNat < 4 →
        let x := tget {} s.saf.slots n
        let y := tget {} t.saf.slots n
        (names c → x.rstStuck = false →
          (x.st = .awaiting → c.auto = false ∨ c.typ = 0 → causeOf s n = false → y.st = .released) ∧
          (x.st = .awaiting → causeOf s n = true → y = x) ∧
          (x.st = .fault → x.allDemand = true ∨ allDemandState s c = true → faultOver s n = true → y.st = .demanded ∧ y.fault = 0) ∧
          (x.st = .fault → faultOver s n = false → y = x) ∧ (x.st = .demanded ∨ x.st = .released → y = x) ∧
          (∀ p ∈ slotPairs c, let a := tget {} s.saf.pairs p; let b := tget {} t.saf.pairs p
            b.sag = (a.sag && lowFault (grp s (groupOf ((pairCfg s p).pch - 1)))) ∧
            b.maint = (a.maint && (grp s (groupOf ((pairCfg s p).pch - 1))).maint) ∧
            b.short = (a.short && (qualCode s ((pairCfg s p).pch - 1) == 9 || qualCode s ((pairCfg s p).mch - 1) == 9)) ∧
            b.edm = (a.edm && !qin s (pairCfg s p).edmch))) ∧
        (¬names c ∨ x.rstStuck = true → y = x))))) ∧
  (∀ (ch : Fin 96) (s : State), (s.img.slotsCfg.map (·.1)).Nodup → Does (.resetInputHeldLong ch) s (fun t =>
    t.saf.pairs = s.saf.pairs ∧ ∀ n c, (n, c) ∈ s.img.slotsCfg → let x := tget {} s.saf.slots n
      tget {} t.saf.slots n = if c.rst = ch.val + 1 then { x with rstStuck := true, rstOffAt := none } else x)) ∧
  (∀ (p : Fin 24) (s : State),
    let a := tget {} s.saf.pairs p.val
    let c := pairCfg s p.val
    (a.on = true → c.stest = true →
      (∀ v : Int, 500 < v → (1 ≤ a.failP → Does (.switchOffTest p .p v) s (fun t => let b := tget {} t.saf.pairs p.val
          b.stuck = true ∧ b.on = false ∧ (a.stuck = false → b.cntLatch = inc16 a.cntLatch))) ∧
        (a.failP = 0 → a.failM ≤ 1 → Does (.switchOffTest p .p v) s (fun t => tget {} t.saf.pairs p.val = { a with failP := 1 }))) ∧
      (∀ v : Int, v < 1100 → (1 ≤ a.failM → Does (.switchOffTest p .m v) s (fun t => let b := tget {} t.saf.pairs p.val
          b.stuck = true ∧ b.on = false ∧ (a.stuck = false → b.cntLatch = inc16 a.cntLatch))) ∧
        (a.failM = 0 → a.failP ≤ 1 → Does (.switchOffTest p .m v) s (fun t => tget {} t.saf.pairs p.val = { a with failM := 1 }))) ∧
      (∀ v : Int, v ≤ 500 → a.failM ≤ 1 → Does (.switchOffTest p .p v) s (fun t => tget {} t.saf.pairs p.val = { a with failP := 0 })) ∧
      (∀ v : Int, 1100 ≤ v → a.failP ≤ 1 → Does (.switchOffTest p .m v) s (fun t => tget {} t.saf.pairs p.val = { a with failM := 0 }))) ∧
    (a.on = false ∨ c.stest = false → ∀ side v, exec (.switchOffTest p side v) s = .next s) ∧
    (c.edmch ≠ 0 → qin s c.edmch = a.on → Does (.edmTimeout p) s (fun t => (tget {} t.saf.pairs p.val).edm = true ∧
      (tget {} t.saf.pairs p.val).on = false)) ∧
    (c.edmch = 0 ∨ qin s c.edmch ≠ a.on → exec (.edmTimeout p) s = .next s))

/-- With the NE 43 clamp on, the clamped command is 0, 3.5, 3.8, 20.5 or 21.5 mA or the command itself between 3.8 and 20.5
mA. READBACK_CONVERSION keeps the mean and counts each conversion toward at most one of the runs of R196 and R197; code
0xA begins with the 50th low conversion in a row and ends with the 100th near one. TAKEOVER_RAMP_END ends the ramp.
OPEN_TRIM opens a session at the stored value under the conditions of R191, else 0x0002; SET_PENDING_TRIM and the inputs
move the pending value within ±80 µA, where an input that is stuck is ignored and neither acts while both are low;
without a session the inputs change no trim, and those three commands are answered 0x0002 (the model's choice, log 140).
STORE_TRIM and TRIM_SET_PRESS store it, the other point and channels unchanged, and close the session; CLOSE_TRIM and
the timeout close it alone. WRITE_TRIM in Commissioning stores a named value, refuses one beyond ±80 µA with 0x0003, and
needs no session. TRIM_REPEAT repeats the held press; TRIM_INPUT_STUCK marks the input stuck and low and posts 0x0606,
or frees it, high for 100 ms. (R188, R189, R190, R191, R192, R193, R194, R195, R196, R197, R200, R482) -/
def Obligations.CurrentLoopsAndTrims : Prop :=
  (∀ (cfg : ChanCfg) (w : Word), cfg.sub.getLsbD 1 = true → let v := clampCmd cfg w
    v = 0 ∨ v = 0x40600000 ∨ v = 0x40733333 ∨ v = 0x41A40000 ∨ v = 0x41AC0000 ∨
    (v = w ∧ (fval w).scaledLt 10 38 = false ∧ (fval w).scaledGt 10 205 = false)) ∧
  (∀ c z sp, flt 0 c = false → driveTarget c z sp = 0) ∧
  (∀ (ch : Fin 96) (ua : Int) (s : State), chanMode s ch.val = 9 →
    let c := chan s ch.val
    let d := fval c.lclamp
    let low := d.scaledGt 1000 (ua + 200)
    let high := d.scaledLt 1000 (ua - 200)
    let near := d.scaledGt 1000 (ua + 100) = false ∧ d.scaledLt 1000 (ua - 100) = false
    (roleShown s ≠ .standby → Does (.readbackConversion ch ua) s (fun t =>
      let e := chan t ch.val
      e.lmean = ua ∧ e.lpartner = false ∧ e.lrunLow = (if low then c.lrunLow + 1 else 0) ∧ e.lrunHigh = (if high then c.lrunHigh + 1 else 0) ∧
      e.lrunIn = (if near then c.lrunIn + 1 else 0) ∧
      (c.qCompl = false → e.qCompl = decide (50 ≤ e.lrunLow)) ∧ (c.qCompl = true → e.lrunLow < 50 → e.qCompl = decide (e.lrunIn < 100)) ∧
      (c.lover = false → e.lover = decide (50 ≤ e.lrunHigh)) ∧ (c.lover = true → e.lrunHigh < 50 → e.lover = decide (e.lrunIn < 100)) ∧
      e.code = qualCode t ch.val ∧ (∀ j, j ≠ ch.val → chan t j = chan s j) ∧ Changes [.fch, .evr] s t)) ∧
    (roleShown s = .standby → Does (.readbackConversion ch ua) s
      (ChanNow ch.val { c with lmean := ua, hasValue := true, lpartner := true } s))) ∧
  (∀ (ch : Fin 96) (s : State), Does (.takeoverRampEnd ch) s (fun t => chan t ch.val = { chan s ch.val with lramp := false } ∧
    (∀ j, j ≠ ch.val → chan t j = chan s j) ∧ Changes [.fch] s t)) ∧
  (∀ (r : Req) (ch : Fin 96) (p : TrimPoint) (s : State), admits r lvEngineer s = true → s.sup.mode = .commissioning →
    (grp s (groupOf ch.val)).maint = true → roleShown s ≠ .standby → s.fch.ses = none → chanMode s ch.val = 9 →
    Does (.openTrim r ch p) s (fun t => t.fch.ses = some ⟨ch, p, trimAt s ch.val p⟩ ∧ t.fch.trims = s.fch.trims ∧ Answered r 0 [] s t)) ∧
  (∀ (r : Req) (ch : Fin 96) (p : TrimPoint) (s : State), admits r lvEngineer s = true → s.sup.mode ≠ .decaf →
    ¬(s.sup.mode = .commissioning ∧ (grp s (groupOf ch.val)).maint = true ∧ roleShown s ≠ .standby ∧ s.fch.ses = none ∧ chanMode s ch.val = 9) →
    Does (.openTrim r ch p) s (fun t => Answered r 0x0002 [] s t ∧ t.fch = s.fch)) ∧
  (∀ (r : Req) (x : TrimSession) (s : State), admits r lvEngineer s = true → s.sup.mode ≠ .decaf → s.fch.ses = some x →
    (∀ ua : Int, Does (.setPendingTrim r ua) s (fun t => t.fch.ses = some { x with pending := max (-80) (min ua 80) } ∧ t.fch.trims = s.fch.trims ∧
      Answered r 0 [] s t)) ∧
    Does (.storeTrim r) s (fun t => t.fch.ses = none ∧ trimAt t x.ch.val x.point = x.pending ∧
      trimAt t x.ch.val (otherPoint x.point) = trimAt s x.ch.val (otherPoint x.point) ∧
      (∀ j, j ≠ x.ch.val → tget {} t.fch.trims j = tget {} s.fch.trims j) ∧ t.pnw = (admitted r s).pnw) ∧
    Does (.closeTrim r) s (fun t => t.fch.ses = none ∧ t.fch.trims = s.fch.trims ∧ Answered r 0 [] s t)) ∧
  (∀ (r : Req) (s : State), admits r lvEngineer s = true → s.sup.mode ≠ .decaf → s.fch.ses = none →
    ∀ c ∈ [Instr.storeTrim r, .closeTrim r, .setPendingTrim r 0], Does c s (fun t => Answered r 0x0002 [] s t ∧ t.fch = s.fch)) ∧
  (∀ (r : Req) (ch : Fin 96) (p : TrimPoint) (ua : Int) (s : State), admits r lvEngineer s = true → s.sup.mode ≠ .decaf →
    (s.sup.mode = .commissioning → -80 ≤ ua → ua ≤ 80 → Does (.writeTrim r ch p ua) s (fun t => trimAt t ch.val p = ua ∧
      trimAt t ch.val (otherPoint p) = trimAt s ch.val (otherPoint p) ∧ t.fch.ses = s.fch.ses ∧
      (∀ j, j ≠ ch.val → tget {} t.fch.trims j = tget {} s.fch.trims j) ∧ t.pnw = (admitted r s).pnw)) ∧
    (s.sup.mode ≠ .commissioning → Does (.writeTrim r ch p ua) s (fun t => Answered r 0x0002 [] s t ∧ t.fch = s.fch)) ∧
    (s.sup.mode = .commissioning → ua < -80 ∨ 80 < ua → Does (.writeTrim r ch p ua) s (fun t => Answered r 0x0003 [] s t ∧ t.fch = s.fch))) ∧
  (∀ (s : State) (x : TrimSession), s.fch.ses = some x →
    let pend := fun (v : Int) (t : State) => t.fch.ses = some { x with pending := max (-80) (min v 80) } ∧ t.fch.trims = s.fch.trims ∧ Changes [.fch, .evr] s t
    let stay := fun (t : State) => t.fch.ses = s.fch.ses ∧ t.fch.trims = s.fch.trims ∧ Changes [.fch] s t
    let up := s.fch.stuckUp = false
    let dn := s.fch.stuckDn = false
    (∀ other set : Bool, (up → other = false ∨ ¬dn → Does (.trimUpPress ⟨true, other, set⟩) s (pend (x.pending + 1))) ∧
      (dn → other = false ∨ ¬up → Does (.trimDnPress ⟨true, other, set⟩) s (pend (x.pending - 1))) ∧
      (up → other = true → dn → Does (.trimUpPress ⟨true, other, set⟩) s stay) ∧ (dn → other = true → up → Does (.trimDnPress ⟨true, other, set⟩) s stay) ∧
      (¬up → Does (.trimUpPress ⟨true, other, set⟩) s stay) ∧ (¬dn → Does (.trimDnPress ⟨true, other, set⟩) s stay) ∧
      Does (.trimUpPress ⟨false, other, set⟩) s stay ∧ Does (.trimDnPress ⟨false, other, set⟩) s stay) ∧
    (up → Does (.trimRepeat true false) s (pend (x.pending + 1))) ∧ (dn → Does (.trimRepeat false true) s (pend (x.pending - 1))) ∧
    (up → dn → Does (.trimRepeat true true) s stay) ∧ Does (.trimRepeat false false) s stay ∧
    (s.fch.stuckSet = false → Does .trimSetPress s (fun t => t.fch.ses = none ∧ t.fch.pinSet = true ∧ trimAt t x.ch.val x.point = x.pending)) ∧
    (s.fch.stuckSet = true → Does .trimSetPress s stay) ∧
    Does .trimSessionTimeout s (fun t => t.fch.ses = none ∧ t.fch.trims = s.fch.trims)) ∧
  (∀ s : State, s.fch.ses = none → (∀ a b d : Bool, ∀ c ∈ [Instr.trimUpPress ⟨a, b, d⟩, .trimDnPress ⟨a, b, d⟩, .trimRepeat a b, .trimSetPress, .trimSessionTimeout],
      Does c s (fun t => t.fch.ses = none ∧ t.fch.trims = s.fch.trims ∧ t.evr = s.evr)) ∧
    exec .trimSessionTimeout s = .next s) ∧
  (∀ s : State,
    Does (.trimInputStuck ⟨.up, false⟩) s (fun t => t.fch = { s.fch with stuckUp := true, pinUp := true } ∧ Changes [.fch, .evr] s t) ∧
    Does (.trimInputStuck ⟨.dn, false⟩) s (fun t => t.fch = { s.fch with stuckDn := true, pinDn := true } ∧ Changes [.fch, .evr] s t) ∧
    Does (.trimInputStuck ⟨.set, false⟩) s (fun t => t.fch = { s.fch with stuckSet := true, pinSet := true } ∧ Changes [.fch, .evr] s t) ∧
    Does (.trimInputStuck ⟨.up, true⟩) s (fun t => t.fch = { s.fch with stuckUp := false, pinUp := false } ∧ Changes [.fch] s t) ∧
    Does (.trimInputStuck ⟨.dn, true⟩) s (fun t => t.fch = { s.fch with stuckDn := false, pinDn := false } ∧ Changes [.fch] s t) ∧
    Does (.trimInputStuck ⟨.set, true⟩) s (fun t => t.fch = { s.fch with stuckSet := false, pinSet := false } ∧ Changes [.fch] s t))

/-- An admitted request of Operate level. ACKNOWLEDGE_POINT, SHELVE and UNSHELVE of a point in use, ACKNOWLEDGE_GROUP of a
cell of the image, ACKNOWLEDGE_ALL, SILENCE, ACCEPT_CALL and ASSIGN_DUTY of any call group, and DEAD_MAN_ON, RESET and
OFF with a configured timer are put in line as ALM_CMD words for the next evaluation and change no alarm state before
it; a pair member forwards them (an acknowledgement with the points it sees unacknowledged, the model's log 150) and
puts them in line at the confirmation. A point or cell that is not defined, or a shelf above 1 440 min, is answered
0x0003; a point that cannot be shelved 0x000C; a dead-man command without a timer 0x0002; a session below Operate
0x0001; each refusal sets CMD_REF. (R247, R249, R255, R257, R258, R259, R260, R262, R265) -/
def Obligations.AlarmCommands : Prop :=
  ∀ (r : Req) (s : State), admits r lvView s = true → s.sup.mode ≠ .decaf →
    let operates := admits r lvOperate s = true
    let ok := fun (w : Word) (t : State) => AcceptedBoth r (.alarm w (.session r.sess) (almSeen w s)) s t ∧
      t.alm = if paired s then s.alm else { s.alm with cmds := s.alm.cmds ++ [{ path := .session r.sess, word := w }] }
    let no := fun (st : BitVec 16) (t : State) => t.alm = { s.alm with evt := s.alm.evt ||| 0x10 } ∧ Answered r st [] s t ∧ t.pst = s.pst
    let word := fun op arg target : Nat => BitVec.ofNat 32 (op * 0x10000000 + arg * 0x1000 + target)
    (operates → ∀ p : BitVec 12, let cfg := iget (points s) p.toNat
      (cfg.isSome = true → Does (.acknowledgePoint r p) s (ok (word 1 0 p.toNat)) ∧ Does (.unshelve r p) s (ok (word 4 0 p.toNat))) ∧
      (cfg = none → Does (.acknowledgePoint r p) s (no 0x0003) ∧ Does (.unshelve r p) s (no 0x0003) ∧ ∀ m, Does (.shelve r p m) s (no 0x0003)) ∧
      (∀ m : BitVec 16, cfg.isSome = true →
        (1440 < m.toNat → Does (.shelve r p m) s (no 0x0003)) ∧
        (m.toNat ≤ 1440 → shelvable s p.toNat = true → Does (.shelve r p m) s (ok (word 3 m.toNat p.toNat))) ∧
        (m.toNat ≤ 1440 → shelvable s p.toNat = false → Does (.shelve r p m) s (no 0x000C)))) ∧
    (operates → ∀ c : BitVec 12, (c.toNat < s.img.cells.length → Does (.acknowledgeGroup r c) s (ok (word 2 0 c.toNat))) ∧
      (s.img.cells.length ≤ c.toNat → Does (.acknowledgeGroup r c) s (no 0x0003))) ∧
    (operates → Does (.acknowledgeAll r) s (ok (word 11 0 0)) ∧ Does (.silence r) s (ok (word 5 0 0))) ∧
    (operates → ∀ g e b : Fin 8, Does (.acceptCall r g e) s (ok (word 6 (g.val + 8 * e.val) 0)) ∧
      Does (.assignDuty r g e b) s (ok (word 7 (g.val + 8 * e.val + 64 * b.val) 0))) ∧
    (operates → s.img.dead.isSome = true → (∀ e : Fin 8, Does (.deadManOn r e) s (ok (word 8 (8 * e.val) 0))) ∧
      Does (.deadManReset r) s (ok (word 9 0 0)) ∧ Does (.deadManOff r) s (ok (word 10 0 0))) ∧
    (operates → s.img.dead = none → (∀ e : Fin 8, Does (.deadManOn r e) s (no 0x0002)) ∧ Does (.deadManReset r) s (no 0x0002) ∧
      Does (.deadManOff r) s (no 0x0002)) ∧
    (¬operates → (∀ (p : BitVec 12) (m : BitVec 16) (g e b : Fin 8) (c : Instr),
      c ∈ [.acknowledgePoint r p, .acknowledgeGroup r p, .acknowledgeAll r, .shelve r p m, .unshelve r p, .silence r, .acceptCall r g e,
        .assignDuty r g e b, .deadManOn r e, .deadManReset r, .deadManOff r] → Does c s (no 0x0001)))

/-- Where the engine does not run, ALARM_EVALUATION changes nothing. Where it runs it takes every command in line, keeps its
time, and within 10 ms leaves ALM_N at the rule of R252; a longer one is the fault "alarm engine late". With no command
in line, an application point without blocking and without a rate condition, on a good reading that the engine's own
work does not change: its condition is evaluated, its on-delay counts and, served, takes Normal or Returned to Active,
unacknowledged; its off-delay, served, takes Active, unacknowledged to Returned (Normal with ACKRET 0) and Active,
acknowledged to Normal; otherwise the state stays. On code 0x1, 0x2, 0x3 or 0xE the point is suppressed and keeps state,
condition and delays. A high point is true above L, a low point below L. An acknowledgement in line acts on the state
that stood before. A point that MRAM held as Returned, unacknowledged is so again where its condition is not active.
(R242, R243, R244, R246, R247, R248, R252) -/
def Obligations.AlarmEvaluation : Prop :=
  (∀ us s, almRuns s = false → exec (.alarmEvaluation us) s = .next s) ∧
  (∀ (us : BitVec 16) (s : State), almRuns s = true → Does (.alarmEvaluation us) s (fun t =>
    t.alm.cmds = [] ∧ (us.toNat ≤ 10000 → t.alm.evalLast = us ∧ t.alm.evalMax = (if s.alm.evalMax < us then us else s.alm.evalMax) ∧ t.alm.almN = wantsAlmN t) ∧
    (10000 < us.toNat → inService s = true → faultFailsStart s = false → t.sup.mode = .safe) ∧
    (((points s).map (·.1)).Nodup → ∀ n c, (n, c) ∈ points s → n < 4064 →
      let x := pnt s n
      let y := pnt t n
      let r := readSrc s c.src
      let cond := (evalCond s c r x.window x.cond).getD x.cond
      let d := delays s n
      (∀ u, Changes [.alm, .evr, .dsp, .sent] s u → readSrc u c.src = r ∧ refValue u c r = refValue s c r) →
      (s.alm.cmds = [] → r.code = 0 → c.cond.toNat < 3 ∨ c.cond.toNat = 5 ∨ c.cond.toNat = 6 → c.block = none →
        (r.tag && holdsTags s) = false → x.suppr = false → x.st ≠ .shelved → x.st ≠ .blocked → x.restore = false →
        y.cond = cond ∧ y.value = r.word ∧
        (cond = true → x.onServed = false → x.onCnt < d.1 → y.st = x.st ∧ y.onCnt = x.onCnt + 1 ∧ y.onServed = false) ∧
        (cond = true → x.onServed = false → d.1 ≤ x.onCnt → y.onServed = true ∧
          y.st = if x.st = .normal ∨ x.st = .returnedUnack then .activeUnack else x.st) ∧
        (cond = false → x.onServed = true → x.offCnt < d.2 → y.st = x.st ∧ y.offCnt = x.offCnt + 1 ∧ y.onServed = true) ∧
        (cond = false → x.onServed = true → d.2 ≤ x.offCnt → y.onServed = false ∧
          y.st = (if x.st = .activeUnack then (if ackretOf c then .returnedUnack else .normal) else if x.st = .activeAck then .normal else x.st)) ∧
        (cond = x.onServed → y.st = x.st)) ∧
      (s.alm.cmds = [] → r.code = 1 ∨ r.code = 2 ∨ r.code = 3 ∨ r.code = 0xE →
        y.suppr = true ∧ y.st = x.st ∧ y.cond = x.cond ∧ y.onCnt = x.onCnt ∧ y.offCnt = x.offCnt ∧ y.onServed = x.onServed) ∧
      (s.alm.cmds = [] → r.code = 0 → c.cond.toNat < 3 ∨ c.cond.toNat = 5 ∨ c.cond.toNat = 6 → c.block = none →
        (r.tag && holdsTags s) = false → x.suppr = false → x.st = .normal → x.restore = true → x.onServed = false →
        (cond = false → y.st = .returnedUnack) ∧ (cond = true → x.onCnt < d.1 → y.st = .normal)) ∧
      (∀ p seen, s.alm.cmds = [{ path := p, word := BitVec.ofNat 32 (0x10000000 + n), seen := seen }] → (∀ l, seen = some l → n ∈ l) → x.suppr = false → r.code = 1 ∨ r.code = 2 ∨ r.code = 3 ∨ r.code = 0xE →
        y.st = if x.st = .activeUnack then .activeAck else if x.st = .returnedUnack then .normal else x.st)))) ∧
  (∀ (s : State) (c : PointCfg) (r : Reading) (win : List Word) (prev : Bool), r.flt = true → c.bindL = none → c.bindH = none → fnan c.hys = false →
    (c.cond = 0 → flt c.lim r.word = true → evalCond s c r win prev = some true) ∧
    (c.cond = 1 → flt r.word c.lim = true → evalCond s c r win prev = some true))

/-- While the engine runs with no command in line, of a defined point that is not suppressed: POINT_ON_DELAY_END serves a
running on-delay, POINT_OFF_DELAY_END a running off-delay, BLOCK_RELEASE_DELAY_END frees a blocked point whose source is
no longer true, SHELF_TIME_END ends a shelf, each with the state R248 gives; without its condition each changes nothing.
CALL_STAGE_1 takes a calling call from stage 0 to 1, CALL_STAGE_2 from 1 to 2 with an escalation counted.
DEAD_MAN_INTERVAL_END takes Running to Pre-warning; DEAD_MAN_PREWARNING_END takes Pre-warning to Alarm and calls at
stage 2. An announcing module sends ALC_SEND's and HBT_SEND's sentence, another sends none. An ACN on an alert of the
module puts its command in line where the image enables it and is otherwise noted as ignored; a repeat is put in line as
well, and sends the ALF of the point or group again as it stands there. (R244, R245, R247, R248, R249, R259, R260, R263,
R264) -/
def Obligations.AlarmTimersAndSentences : Prop :=
  (∀ (p : BitVec 12) (s : State), almRuns s = true → s.alm.cmds = [] → (iget (points s) p.toNat).isSome = true →
    (pnt s p.toNat).suppr = false →
    let x := pnt s p.toNat
    let c := pointCfg s p.toNat
    let is := fun (st : PointState) (t : State) => (pnt t p.toNat).st = st ∧ ∀ n, n ≠ p.toNat → pnt t n = pnt s n
    (x.cond = true → x.onCnt ≠ 0 → Does (.pointOnDelayEnd p) s (fun t => (pnt t p.toNat).onServed = true ∧ (pnt t p.toNat).onCnt = 0 ∧
      is (if x.st = .normal ∨ x.st = .returnedUnack then .activeUnack else x.st) t)) ∧
    (x.cond = false ∨ x.onCnt = 0 → exec (.pointOnDelayEnd p) s = .next s) ∧
    (x.cond = false → x.offCnt ≠ 0 → Does (.pointOffDelayEnd p) s (fun t => (pnt t p.toNat).onServed = false ∧ (pnt t p.toNat).offCnt = 0 ∧
      is (if x.st = .activeUnack then (if ackretOf c then .returnedUnack else .normal) else if x.st = .activeAck then .normal else x.st) t)) ∧
    (x.cond = true ∨ x.offCnt = 0 → exec (.pointOffDelayEnd p) s = .next s) ∧
    (∀ b, c.block = some b → x.st = .blocked → blockTrue b x.blockSrc s = false →
      Does (.blockReleaseDelayEnd p) s (fun t => (pnt t p.toNat).blocking = false ∧ is .normal t)) ∧
    (x.st ≠ .blocked → exec (.blockReleaseDelayEnd p) s = .next s) ∧
    (x.st = .shelved → Does (.shelfTimeEnd p) s (is (if x.onServed = true ∧ x.cond = true then .activeUnack else .normal))) ∧
    (x.st ≠ .shelved → exec (.shelfTimeEnd p) s = .next s)) ∧
  (∀ (g : Fin 8) (s : State), almRuns s = true → s.alm.cmds = [] → (call s g.val).st = .calling →
    ((call s g.val).stage = 0 → Does (.callStage1 g) s (fun t => call t g.val = { call s g.val with stage := 1, stageUs := nowUs s })) ∧
    ((call s g.val).stage = 1 → Does (.callStage2 g) s (fun t => (call t g.val).stage = 2 ∧ (call t g.val).st = .calling ∧
      (call t g.val).escalations = inc16 (call s g.val).escalations)) ∧
    ((call s g.val).stage ≠ 0 → exec (.callStage1 g) s = .next s) ∧ ((call s g.val).stage ≠ 1 → exec (.callStage2 g) s = .next s)) ∧
  (∀ s : State, s.alm.cmds = [] →
    let datagram := fun e : Emit => Emit.lan (lanSeq s) (.datagram { source := s.img.net.udpSource, line := s.alm.line % 999 + 1, talker := s.img.net.udpTalker, group := s.img.net.udpGroup, port := s.img.net.udpPort } e)
    (s.alm.dead = .running → Does .deadManIntervalEnd s (fun t => t.alm.dead = .prewarn ∧ t.alm.deadSince = nowUs s ∧ t.alm.deadEngineer = s.alm.deadEngineer)) ∧
    (s.alm.dead ≠ .running → exec .deadManIntervalEnd s = .next s) ∧
    (s.alm.dead = .prewarn → Does .deadManPrewarningEnd s (fun t => t.alm.dead = .alarm ∧
      ((pnt s 4076).suppr = false → (pnt s 4076).st = .normal → (pnt t 4076).st = .activeUnack) ∧
      (∀ d, s.img.dead = some d → (call s d.group.val).st = .none_ → (call t d.group.val).st = .calling ∧ (call t d.group.val).stage = 2))) ∧
    (s.alm.dead ≠ .prewarn → exec .deadManPrewarningEnd s = .next s) ∧
    (announces s = true → Does .alcSend s (fun t => t.sent = s.sent ++ [datagram (.alc (standingAlerts s))] ∧ t.alm = { s.alm with line := s.alm.line % 999 + 1 }) ∧
      Does .hbtSend s (fun t => t.sent = s.sent ++ [datagram (.hbt s.alm.hbtSeq)] ∧
        t.alm = { s.alm with line := s.alm.line % 999 + 1, hbtSeq := (s.alm.hbtSeq + 1) % 10 })) ∧
    (announces s = false → exec .alcSend s = .next s ∧ exec .hbtSend s = .next s)) ∧
  (∀ (alert : Nat) (s : State),
    let ignored := fun t : State => t.alm = { s.alm with evt := s.alm.evt ||| 0x20 } ∧ Changes [.alm] s t
    let line := fun (w : Word) (t : State) =>
      if paired s then t.alm = s.alm ∧ t.sent = (forwardNow (.alarm w .acn (almSeen w s)) s).sent ∧
        t.pst.unconfirmed = s.pst.unconfirmed ++ [(.alarm w .acn (almSeen w s), .acn, nowUs s)]
      else t.alm = { s.alm with cmds := s.alm.cmds ++ [{ path := .acn, word := w }] } ∧ t.sent = s.sent
    Does .acnIgnored s ignored ∧
    (s.img.net.acnEn = false ∨ almRuns s = false → Does (.acnAcknowledge alert) s ignored ∧ Does (.acnSilence alert) s ignored ∧
      Does (.acnRequestRepeat alert) s ignored) ∧
    (s.img.net.acnEn = true → almRuns s = true → announces s = true →
      (∀ n, alertPoint s alert = some n → n < 4096 → Does (.acnAcknowledge alert) s (line (BitVec.ofNat 32 (0x10000000 + n))) ∧
        Does (.acnSilence alert) s (line 0x50000000) ∧
        Does (.acnRequestRepeat alert) s (fun t => t.alm.cmds = s.alm.cmds ++ [{ path := .acn, word := BitVec.ofNat 32 (0xC0000000 + n) }] ∧
          t.sent = s.sent)) ∧
      (∀ c, alertPoint s alert = none → alertGroup s alert = some c → c < 4096 →
        Does (.acnAcknowledge alert) s (line (BitVec.ofNat 32 (0x20000000 + c))) ∧ Does (.acnSilence alert) s (line 0x50000000) ∧
        Does (.acnRequestRepeat alert) s (fun t => t.alm.cmds = s.alm.cmds ++ [{ path := .acn, word := BitVec.ofNat 32 (0xD0000000 + c) }] ∧
          t.sent = s.sent)) ∧
      (alertPoint s alert = none → alertGroup s alert = none → exec (.acnAcknowledge alert) s = .next s))) ∧
  (∀ (s0 : State) (n : Nat) (p : AlmPath) (s : State), n < 4096 → (pointCfg s n).bam = true → announces s = true → (pnt s n).suppr = false →
    (almApply s0 { path := p, word := BitVec.ofNat 32 (0xC0000000 + n) } s).sent = s.sent ++ [.lan (lanSeq s) (.datagram
      { source := s.img.net.udpSource, line := s.alm.line % 999 + 1, talker := s.img.net.udpTalker, group := s.img.net.udpGroup, port := s.img.net.udpPort }
      (.alf (pointAlf n (pointCfg s n) (pnt s n))))])

/-- For every command in every state: if the module did not assert its interlock net before and asserts it after, it is a
member of a pair, in service, its peer net reads high, its own net reads low, and it holds the active role. No command
makes a module take the role beside a partner that still owns the terminals. (R270, R271, R272, R275, R276, R277) -/
def Obligations.RoleTakenBesideHighNet : Prop :=
  ∀ (c : Instr) (s t : State), exec c s = .next t → s.pst.ownDrive = false → t.pst.ownDrive = true →
    t.pst.member = true ∧ inService t = true ∧ t.pst.peerLow = false ∧ t.pst.ownLow = true ∧ t.pst.role = .active ∧ gate t = true

/-- INTERLOCK_PEER_NET_CHANGE takes both readings over; after it a member whose gate is open has no pair closed; a collision
takes the net from the module outside the preferred slot; a peer net going high with a release seen within 10 µs makes a
standby that may take the role active, without one the take-over waits for UNANNOUNCED_TAKEOVER. RELEASE_RECEIVED before
the net goes high keeps the reason and the mean readbacks; one that comes later announces nothing. INTERLOCK_STUCK and
its end set and clear the fault, and neither drives meanwhile; ROLE_WAIT_END decides. ROLE_TRANSFER, due and applied,
and FIELD_RING_SILENCE of the active module give the role up where the partner may take it. TAKE_BACK makes the transfer
due under R282, which the boundary judges again. SWAP, RESYNC, INHIBIT_ and ALLOW_TAKE_BACK are taken by a member, a
swap only with a ready standby, else 0x0007. ROLE_SWAP_DUE is noted once. (R270, R272, R273, R274, R275, R276, R277,
R278, R280, R282, R283, R284) -/
def Obligations.RoleChanges : Prop :=
  (∀ (own peer : Bool) (s : State),
    (s.pst.member = false → Does (.interlockPeerNetChange own peer) s (fun t => t.pst = { s.pst with ownLow := own, peerLow := peer })) ∧
    (s.pst.member = true → Does (.interlockPeerNetChange own peer) s (fun t =>
      t.pst.peerLow = peer ∧ (drives t = false → ∀ p, (tget {} t.saf.pairs p).on = false ∧ (tget {} t.saf.pairs p).qen = false) ∧
      (own = true → peer = true → s.pst.ownDrive = true → if prefSlot s = s.pst.slot then t.pst.ownDrive = true ∧ t.pst.ownLow = true
        else t.pst.ownDrive = false ∧ t.pst.ownLow = false ∧ t.pst.role = .standby) ∧
      (s.pst.peerLow = true → peer = false → mayTake s = true → releaseFresh s = true → t.pst.ownDrive = true ∧ t.pst.role = .active) ∧
      (s.pst.peerLow = true → peer = false → mayTake s = true → releaseFresh s = false → t.pst.ownDrive = false ∧ t.pst.takeoverDue = true)))) ∧
  (∀ (x : SlRx Byte) (s : State), takenIn 0 x.hdr s = true →
    (s.pst.member = true → s.pst.ownDrive = false → s.pst.peerLow = true → Does (.releaseReceived x) s (fun t =>
      t.pst = { (taken 0 x.hdr s).pst with releaseSeen := some (nowUs s), xferDue := some x.body, heard := t.pst.heard } ∧
      ∀ i < 96, chanMode s i = 9 → iget t.pst.heard i = some ((chan s i).lmean, qualGood s i))) ∧
    (s.pst.member = false ∨ s.pst.ownDrive = true ∨ s.pst.peerLow = false → exec (.releaseReceived x) s = .next (taken 0 x.hdr s))) ∧
  (∀ s : State,
    let stuck := s.pst.member = true ∧ s.pst.ownLow = true ∧ (s.pst.ownDrive = false ∨ s.pst.peerLow = true)
    let released := fun t : State => t.pst.ownDrive = false ∧ t.pst.role = .standby ∧ (∀ p, (tget {} t.saf.pairs p).on = false) ∧
      (passes s 0 = true → ∃ q, Emit.link 0 s.pst.slot q .slRelease ∈ t.sent)
    let bothSee := s.pst.member = true ∧ s.pst.mixed = false ∧ s.pst.tbInhibit = false ∧ safetyQuiet s = true ∧
      partnerSays s (fun h => h.imgDigest == s.img.digest) = true
    let activeSees := bothSee ∧ inRun s = true ∧ prefSlot s ≠ s.pst.slot ∧ partnerMayTake s = true
    Does .unannouncedTakeover s (fun t => t.pst.takeoverDue = false ∧
      (s.pst.takeoverDue = true → s.pst.peerLow = false → mayTake s = true → t.pst.ownDrive = true ∧ t.pst.xferReason = 3)) ∧
    (stuck → s.pst.ilkFault = false → Does .interlockStuck s (fun t => t.pst.ilkFault = true ∧ drives t = false ∧
      ∀ p, (tget {} t.saf.pairs p).on = false)) ∧
    (¬stuck → exec .interlockStuck s = .next s) ∧
    (¬stuck → s.pst.ilkFault = true → Does .interlockStuckEnd s (fun t => t.pst = { s.pst with ilkFault := false })) ∧
    (s.sup.phase = .roleWait → Does .roleWaitEnd s (fun t => t.sup.phase = .waitT0 ∧
      t.pst.decided = some (if s.pst.peerLow = true ∨ s.pst.decided = some .standby then .standby else .active))) ∧
    (s.sup.phase ≠ .roleWait → exec .roleWaitEnd s = .next s) ∧
    (∀ why, s.pst.xferDue = some why → s.pst.ownDrive = true → gate s = true → inService s = true → partnerMayTake s = true → (why = 5 → activeSees) →
      s.pst.mixed = true ∨ (if s.img.plan.mode = .twin then s.pst.instep = true else s.pst.ackCycle = some s.cyc.count) →
      Does .roleTransfer s (fun t => released t ∧ t.pst.xferReason = why)) ∧
    (s.pst.xferDue = some 5 → s.pst.ownDrive = true → ¬activeSees → exec .roleTransfer s = .next { s with pst := { s.pst with xferDue := none } }) ∧
    (s.pst.xferDue = none ∨ s.pst.xferDue ≠ some 5 ∧ partnerMayTake s = false → exec .roleTransfer s = .next s) ∧
    (roleShown s = .active → s.pst.ownDrive = true → inService s = true → partnerMayTake s = true → partnerSays s (fun h => h.ringOk) = true →
      (ringPort s 0).up = false → (ringPort s 1).up = false → Does .fieldRingSilence s (fun t => released t ∧ t.pst.xferReason = 7)) ∧
    (roleShown s ≠ .active ∨ (ringPort s 0).up = true ∨ (ringPort s 1).up = true → exec .fieldRingSilence s = .next s) ∧
    (bothSee → s.pst.ownDrive = false → s.pst.ready = true → prefSlot s = s.pst.slot → 1000 ≤ s.pst.qualCycles → s.pst.qualSince + 60000000 ≤ nowUs s →
      partnerSays s (fun h => h.state == 1 || h.state == 2) = true → Does .takeBack s (fun t => t.pst = { s.pst with xferDue := some 5 })) ∧
    (activeSees → s.pst.ownDrive = true → Does .takeBack s (fun t => t.pst = { s.pst with xferDue := some 5 })) ∧
    (s.pst.tbInhibit = true ∨ s.pst.mixed = true → exec .takeBack s = .next s) ∧
    (roleShown s = .standby → inService s = true → s.img.plan.exerciseH ≠ 0 →
      (s.pst.swapDue = false → Does .roleSwapDue s (fun t => t.pst = { s.pst with swapDue := true })) ∧
      (s.pst.swapDue = true → exec .roleSwapDue s = .next s))) ∧
  (∀ (r : Req) (s : State), admits r lvEngineer s = true → s.sup.mode ≠ .decaf →
    let no := fun c : Instr => Does c s (fun t => Answered r 0x0007 [] s t ∧ t.pst = s.pst)
    (s.pst.member = false → no (.swap r) ∧ no (.resync r) ∧ no (.inhibitTakeBack r) ∧ no (.allowTakeBack r)) ∧
    (s.pst.member = true → standbyReady s = false → no (.swap r)) ∧
    (s.pst.member = true → paired s = true → Does (.resync r) s (AcceptedBoth r .resync s) ∧ Does (.inhibitTakeBack r) s (AcceptedBoth r .inhibit s) ∧
      Does (.allowTakeBack r) s (AcceptedBoth r .allow s) ∧ (standbyReady s = true → Does (.swap r) s (AcceptedBoth r .swap s))) ∧
    (s.pst.member = true → paired s = false → Does (.inhibitTakeBack r) s (fun t => Answered r 0 [] s t ∧
        t.pst = { s.pst with tbInhibit := true, xferDue := if s.pst.xferDue = some 5 then none else s.pst.xferDue }) ∧
      Does (.allowTakeBack r) s (fun t => t.pst = { s.pst with tbInhibit := false } ∧ Answered r 0 [] s t) ∧
      Does (.resync r) s (fun t => Answered r 0 [] s t ∧ if s.pst.ownDrive then t.pst = { s.pst with requested := true } else
        t.pst.joined = false ∧ t.pst.wantJoin = true ∧ t.pst.ready = false)))

/-- A standby in service stages a right frame beside what has arrived of its delta; a whole delta whose header's check
fails, or a frame that fails its own, is asked for once more. DELTA_APPLY applies a whole delta in one piece, takes its
cycle number, and acknowledges. DELTA_LOST makes a Copy standby unready and asks for a join copy; JOIN_COPY_COMPLETE,
once every block has come, makes it ready. A request, or no acknowledgement, repeats the last frame; an acknowledgement
ends that. TWIN_STEP_DIGEST keeps a module in step on equal digests; on others a standby stops its lanes and joins
again. FORWARDED_COMMAND is confirmed by a member in service and carried out, for a T0 held in line from the instant of
acceptance until the confirmed command is known; a rejoin whose test fails there is not confirmed (the model's log 107).
PARTNER_CONFIRMATION answers the oldest unconfirmed command 0x0000, PARTNER_CONFIRM_TIMEOUT 0x0009 and drops what waits.
SCRUB_STEP, BIST_TEST_SEQUENCE and BIST_INJECTION_TEST run in a standby; an uncorrectable word, a fault verdict or a
miss is a self-diagnosis fault. A frame sent is stated where the port passes frames on. What a frame says stands beside
its bytes (log 146). (R79, R89, R105, R280, R281, R285, R287, R289, R290, R292, R300, R333) -/
def Obligations.CarafeAndSelfTest : Prop :=
  (∀ s : State, s.pst.member = true → s.pst.ownDrive = false → inService s = true →
    let p := s.pst
    (∀ x : SlRx CarafeRx, takenIn 0 x.hdr s = true →
      let u := taken 0 x.hdr s
      let g := stage x.hdr.seq x.body p.staging
      let f := x.body.frame
      let fresh := (∀ o, p.staging = some o → o.frame.cycle ≠ f.cycle) ∧ p.applied ≠ some f.cycle
      let asked := u.pst.requested = true ∧ ¬fresh
      (stagedWhole g = false ∨ stagedGood g = true → Does (.carafeFrameReceived x) s (fun t => t.pst.staging = some g ∧ t.sent = u.sent ∧
        t.pst.copying = (p.copying || f.join) ∧ (t.pst.requested = true ↔ asked) ∧ Changes [.pst] u t)) ∧
      (stagedWhole g = true → stagedGood g = false → Does (.carafeFrameReceived x) s (fun t => t.pst.staging = none ∧ t.pst.requested = true ∧
        (passes u 0 = true → (asked → t.sent = u.sent) ∧ (¬asked → t.sent = u.sent ++ [onLink 0 u (.slAck true)])))) ∧
      (p.staging = none → f.final = true → f.base = x.hdr.seq → stagedWhole g = true ∧ g.frame = f ∧
        (stagedGood g = true ↔ x.body.crc = crc32c crcInit x.body.after))) ∧
    (∀ x : SlRx CarafeRx, x.hdr.check ≠ slCheck s 0 x.hdr → Does (.carafeFrameReceived x) s (fun t => t.pst.staging = p.staging ∧
      (slPort t 0).errCheck = inc16 (slPort s 0).errCheck ∧ t.pst.requested = true ∧
      (passes s 0 = true → t.sent = (if p.requested then s.sent else s.sent ++ [onLink 0 s (.slAck true)])))) ∧
    (∀ g : Staging, p.staging = some g → stagedWhole g = true → stagedGood g = true → g.frame.joinRec = none → g.frame.carry = [] →
      (g.frame.data.map (·.1)).Nodup → (g.frame.outw.map (·.1)).Nodup → p.shadow = false →
      let f := g.frame
      Does .deltaApply s (fun t => t.pst.applied = some f.cycle ∧ t.pst.staging = none ∧ t.cyc.count = f.cycle ∧ t.pst.targets = f.targets ∧
        (passes s 0 = true → t.sent = s.sent ++ [onLink 0 s (.slAck false)]) ∧
        (∀ a v, (a, v) ∈ f.data → dataAt t.nibA a = v ∧ dataAt t.nibB a = v) ∧ (∀ a, a ∉ f.data.map (·.1) → dataAt t.nibA a = dataAt s.nibA a) ∧
        (∀ o v, (o, v) ∈ f.outw → tget 0 t.cyc.outImg o = v) ∧ (∀ o, o ∉ f.outw.map (·.1) → tget 0 t.cyc.outImg o = tget 0 s.cyc.outImg o))) ∧
    (p.staging = none → exec .deltaApply s = .next s) ∧
    (∀ g : Staging, p.staging = some g → stagedWhole g = false ∨ stagedGood g = false → exec .deltaApply s = .next s) ∧
    (copyFed s = true → Does .deltaLost s (fun t => t.pst.ready = false ∧ t.pst.joined = false ∧ t.pst.wantJoin = true ∧ t.pst.staging = none ∧
      t.pst.qualCycles = 0)) ∧
    (p.wantJoin = true → p.joinNeed = some [] → p.staging = none → Does .joinCopyComplete s (fun t => t.pst.joined = true ∧
      t.pst.wantJoin = false ∧ t.pst.ready = (slPort s 0).up ∧ t.pst.qualCycles = 0 ∧ t.pst.qualSince = nowUs s)) ∧
    (p.wantJoin = false ∨ p.joinNeed ≠ some [] → exec .joinCopyComplete s = .next s) ∧
    (roleShown s = .standby → powered s = true →
      exec (.scrubStep .clean) s = .next s ∧ Does (.scrubStep .passDone) s (fun t => t.pst = { p with bistPasses := inc16 p.bistPasses }) ∧
      Does (.scrubStep .corrected) s (fun t => t.pst.bistCorr = inc8 p.bistCorr ∧ t.pst.qualCycles = 0) ∧
      (faultFailsStart s = false → Does (.scrubStep .uncorrectable) s (fun t => t.sup.mode = .safe)) ∧
      (s.img.plan.mode = .copy →
        (∀ v : Verdict, (v = .equal ∨ v = .diverged → Does (.bistTestSequence v) s (fun t => (∀ n, greg t.nibA n = greg t.nibB n) ∧ t.sup = s.sup)) ∧
          (v ≠ .equal → v ≠ .diverged → faultFailsStart s = false → Does (.bistTestSequence v) s (fun t => t.sup.mode = .safe))) ∧
        (∀ x : SelfTest, (x.dead = 0 → x.unequal = 0 → Does (.bistInjectionTest x) s (fun t => t.cmp.testDone = true ∧ t.cmp.testPass = true ∧ t.sup = s.sup)) ∧
          (¬(x.dead = 0 ∧ x.unequal = 0) → faultFailsStart s = false → Does (.bistInjectionTest x) s (fun t => t.sup.mode = .safe)))))) ∧
  (∀ (x : SlRx Bool) (s : State), takenIn 0 x.hdr s = true →
    let u := taken 0 x.hdr s
    (x.body = false → Does (.carafeAckReceived x) s (fun t => t.pst.ackDue = false ∧ t.pst.ackCycle = s.pst.lastSent.map (·.cycle) ∧
      (s.pst.ackDue = true → t.pst.copyTLast = BitVec.ofNat 16 (min (nowUs s - s.pst.sentUs) 0xFFFF)) ∧ t.sent = u.sent)) ∧
    (∀ f, x.body = true → s.pst.lastSent = some f → s.pst.ackDue = true → passes u 0 = true →
      Does (.carafeAckReceived x) s (fun t => t.sent = u.sent ++ [onLink 0 u (.carafe { f with base := (slPort u 0).txSeq })]))) ∧
  (∀ s : State,
    (∀ f, s.pst.lastSent = some f → s.pst.ackDue = true → passes s 0 = true →
      Does .senderRepeat s (fun t => t.sent = s.sent ++ [onLink 0 s (.carafe { f with base := (slPort s 0).txSeq })])) ∧
    (s.pst.ackDue = false → exec .senderRepeat s = .next s)) ∧
  (∀ (x : SlRx Word) (s : State), takenIn 0 x.hdr s = true → s.img.plan.mode = .twin → paired s = true → inRun s = true → s.pst.mixed = false →
    (twinDigest s = x.body → Does (.twinStepDigest x) s (fun t => t.pst.instep = true ∧ t.nibA = s.nibA ∧
      (passes (taken 0 x.hdr s) 0 = true → t.sent = (taken 0 x.hdr s).sent ++ [onLink 0 (taken 0 x.hdr s) (.twinDigest x.body)]))) ∧
    (twinDigest s ≠ x.body → Does (.twinStepDigest x) s (fun t => t.pst.instep = false ∧
      (s.pst.ownDrive = false → t.pst.joined = false ∧ t.pst.ready = false ∧ t.nibA.st = .stopped ∧ t.nibB.st = .stopped) ∧
      (s.pst.ownDrive = true → t.nibA = s.nibA)))) ∧
  (∀ (x : SlRx Forwarded) (y : SelfTest) (s : State), takenIn 0 x.hdr s = true →
    let u := taken 0 x.hdr s
    let c := x.body.cmd
    let at_ := fromStation x.body.stationUs s
    let confirms := fun t : State => passes u 0 = true → t.sent = u.sent ++ [onLink 0 u (.confirm c)]
    let e := Instr.forwardedCommand x y
    (∀ sh ts, c = .trims sh ts → Does e s (fun t => t.fch.partnerShunt = sh ∧ t.sent = u.sent)) ∧
    (∀ ts, c = .carry ts → Does e s (fun t => t.pst.carryTags = ts ∧ t.sent = u.sent)) ∧
    (s.pst.member = true → inService s = true →
      (∀ w p l, c = .alarm w p l → Does e s (fun t => t.alm.cmds = s.alm.cmds ++ [{ path := p, word := w, seen := l }] ∧ confirms t)) ∧
      (∀ a, fwdAct c = some a → c ≠ .rejoin → Does e s (fun t => t.cyc.sched = s.cyc.sched ++ [⟨at_, a, true⟩] ∧ confirms t)) ∧
      (c = .rejoin → y.dead = 0 → y.unequal = 0 → Does e s (fun t => t.cmp.rejoinAt = some at_ ∧ t.cmp.rejoinTested = true ∧
        t.cmp.rejoinHeld = true ∧ confirms t)) ∧
      (c = .rejoin → ¬(y.dead = 0 ∧ y.unequal = 0) → Does e s (fun t => t.cmp.rejoinAt = none ∧ t.cmp.rejoinBlock = true ∧ t.sent = u.sent)) ∧
      (∀ d a k, c = .go d → fwdAct d = some a → d ≠ .rejoin → s.cyc.sched = [⟨k, a, true⟩] →
        Does e s (fun t => t.cyc.sched = [⟨k, a, false⟩] ∧ t.sent = u.sent))) ∧
    (s.pst.member = false ∨ inService s = false → isMessage c = false → exec e s = .next u)) ∧
  (∀ s : State,
    let go := fun c : FwdCmd => if (fwdAct c).isSome then [onLink 0 s (.forward (stationNs s / 1000) (.go c))] else []
    (s.pst.unconfirmed = [] → exec .partnerConfirmation s = .next (slTook 0 s) ∧ exec .partnerConfirmTimeout s = .next s) ∧
    (∀ c r body at_ l, s.pst.unconfirmed = (c, .sess r body, at_) :: l → r.sess ≠ 0 →
      Does .partnerConfirmation s (fun t => t.pst.unconfirmed = l ∧
        (∀ w p n, c = .alarm w p n → t.alm.cmds = s.alm.cmds ++ [{ path := p, word := w, seen := n }]) ∧
        (passes s 0 = true → t.sent = s.sent ++ go c ++ responses r 0 body s)) ∧
      Does .partnerConfirmTimeout s (fun t => t.pst.unconfirmed = l ∧ t.sent = s.sent ++ responses r 0x0009 [] s ∧ t.alm.cmds = s.alm.cmds ∧
        (∀ a w, s.cyc.sched = [⟨at_, a, w⟩] → fwdAct c = some a → t.cyc.sched = []))) ∧
    (∀ c o at_ l, o = .program ∨ o = .acn → s.pst.unconfirmed = (c, o, at_) :: l →
      Does .partnerConfirmation s (fun t => t.pst.unconfirmed = l ∧ (passes s 0 = true → t.sent = s.sent ++ go c)) ∧
      Does .partnerConfirmTimeout s (fun t => t.pst.unconfirmed = l ∧ t.sent = s.sent)))

/-- A frame whose check value is not that of its bytes is counted and discarded, a repeat or one behind the window
discarded. HELLO_SEND by a powered module goes out on all three ports (stated where they pass frames on); HELLO_RECEIVED
is the sender's latest hello. STATION_LINK_DOWN and _UP change the port, the peer's presence and readiness, and at pair
join send the shunt and trims. SPEAKER_ELECTION keeps a speaker that is a candidate and no standby, else chooses the
candidate of least rank. TIME_MARK_SEND goes out from the speaker alone; TIME_MARK_RECEIVED by another moves the offset
by the error, by at most 0.5 µs after Start. STATION_EXPORT_RECEIVED is kept for the next T0 where complete and from a
slot of its position. An injector is written at Engineer level in Commissioning with TESTP_N low alone, and TESTP_N high
disarms every injector. What a frame says stands beside its bytes (the model's log 146). (R268, R295, R296, R297, R298,
R300, R301, R321) -/
def Obligations.StationLinks : Prop :=
  (∀ s : State,
    (∀ (p : Fin 3) x, Lost p.val x.hdr (.helloReceived p x) s) ∧ (∀ (p : Fin 3) ns x, Lost p.val x.hdr (.timeMarkReceived p ns x) s) ∧
    (∀ pos x b, Lost x.port.val x.hdr (.stationExportReceived pos x b) s) ∧ (∀ x, Lost 0 x.hdr (.releaseReceived x) s) ∧
    (∀ x, Lost 0 x.hdr (.carafeAckReceived x) s) ∧ (∀ x, Lost 0 x.hdr (.twinStepDigest x) s) ∧ (∀ x y, Lost 0 x.hdr (.forwardedCommand x y) s) ∧
    (∀ x, x.hdr.check = slCheck s 0 x.hdr → slWindow x.hdr.seq (slPort s 0) = none → exec (.carafeFrameReceived x) s = .next s)) ∧
  (∀ s : State, (∀ p < 3, passes s p = true) →
    (powered s = true → Does .helloSend s (fun t => t.sent = s.sent ++ [onLink 0 s (.hello 0 (ownHello s)),
      onLink 1 s (.hello 1 (ownHello s)), onLink 2 s (.hello 2 (ownHello s))])) ∧
    (powered s = false → exec .helloSend s = .next s) ∧
    (isSpeaker s = true → ∃ m, m.sync = s.pnw.utcSync ∧ m.valid = utcValid s ∧ Does .timeMarkSend s (fun t => t.sent = s.sent ++
      [onLink 0 s (.timeMark 0 (stationNs s) m), onLink 1 s (.timeMark 1 (stationNs s) m), onLink 2 s (.timeMark 2 (stationNs s) m)])) ∧
    (isSpeaker s = false → exec .timeMarkSend s = .next s)) ∧
  (∀ (p : Fin 3) (s : State),
    (∀ x : SlRx Hello, takenIn p.val x.hdr s = true → Does (.helloReceived p x) s (fun t =>
      tget {} t.pst.peers x.body.slot.val = { present := true, hello := some x.body, mism := x.body.stnId != s.img.stnId || x.body.planDigest != s.img.plan.digest } ∧
      (slPort t p.val).frames = (slPort s p.val).frames + 1)) ∧
    Does (.stationLinkDown p) s (fun t => (slPort t p.val).up = false ∧ (tget {} t.pst.peers (portPeer s p.val)).present = false ∧
      (p = 0 → t.pst.ready = false)) ∧
    (∀ d,
      let off0 := 4 ≤ s.tim.shed ∧ 2 * p.val ∈ s.img.slUnused
      let off1 := 4 ≤ s.tim.shed ∧ (2 * p.val + 1 ∈ s.img.slUnused ∨ p.val ∈ s.img.slOneLane)
      (p ≠ 0 ∨ s.pst.member = false → Does (.stationLinkUp p d) s (fun t =>
        slPort t p.val = { slPort s p.val with up := true, lane0 := decide ¬off0, lane1 := decide ¬off1, shed := decide off1, delay := d } ∧
        t.sent = s.sent)) ∧
      (p = 0 → s.pst.member = true → Does (.stationLinkUp p d) s (fun t =>
        (slPort t 0).up = true ∧ (slPort t 0).lane0 = true ∧ (slPort t 0).lane1 = true ∧ (slPort t 0).delay = d ∧
        (passes s 0 = true → t.sent = s.sent ++ [onLink 0 s (.forward (stationNs s / 1000) (.trims s.fch.shunt (s.fch.trims.map (fun x => (x.1, (x.2.z, x.2.s))))))])))) ∧
    (∀ ns (x : SlRx TimeMark), takenIn p.val x.hdr s = true → isSpeaker s = false →
      let err := ns + (slPort s p.val).delay.toNat - stationNs s
      Does (.timeMarkReceived p ns x) s (fun t => t.pst.terrLast = err ∧ t.pnw.utcSync = x.body.sync ∧ t.pnw.utcMark = x.body.valid ∧
        t.pst.offsetNs = s.pst.offsetNs + (if s.sup.mode = .start then err else max (-500) (min err 500)))) ∧
    (∀ ns x, takenIn p.val x.hdr s = true → isSpeaker s = true → exec (.timeMarkReceived p ns x) s = .next (taken p.val x.hdr s))) ∧
  (∀ s : State,
    let stays := ∃ w r, s.pst.speaker = some w ∧ (r, w.toNat) ∈ candidates s ∧ r < 4
    (stays → exec .speakerElection s = .next s) ∧
    (¬stays → Does .speakerElection s (fun t => (candidates s = [] → t.pst.speaker = none) ∧
      (candidates s ≠ [] → ∃ c ∈ candidates s, t.pst.speaker = some (BitVec.ofNat 2 c.2) ∧ ∀ d ∈ candidates s, c.1 ≤ d.1)))) ∧
  (∀ (pos : Fin 4) (x : ExportRx) (s : State), takenIn x.port.val x.hdr s = true →
    let u := taken x.port.val x.hdr s
    let from_ := portPeer s x.port.val ∈ posSlots s pos.val
    (inService s = true → from_ → ¬(roleShown s = .standby ∧ copyFed s = true) →
      Does (.stationExportReceived pos x true) s (fun t => tget [] t.pst.imports pos.val = x.words ∧ Changes [.pst] u t ∧ t.sent = u.sent)) ∧
    (inService s = false ∨ ¬from_ ∨ (roleShown s = .standby ∧ copyFed s = true) → exec (.stationExportReceived pos x true) s = .next u) ∧
    exec (.stationExportReceived pos x false) s = .next u) ∧
  (∀ (r : Req) (v : Word) (s : State), admits r lvView s = true → s.sup.mode ≠ .decaf →
    let m := v.toNat % 65536
    let good := 2 ≤ m ∧ (v.extractLsb' 16 3).toNat ∈ [0, 1, 2, 4]
    let kept := v &&& 0x8007FFFF
    let no := fun (c : Instr) (st : BitVec 16) => Does c s (fun t => Answered r st [] s t ∧ t.pst = s.pst ∧ t.frg = s.frg)
    (admits r lvEngineer s = true → injOk s = true →
      (good → (∀ p : Fin 3, Does (.slkInjectorWrite r p v) s (fun t => slPort t p.val = { slPort s p.val with inj := kept, injSent := 0, injCnt := 0 } ∧
          Answered r 0 [] s t)) ∧
        (∀ p : Fin 2, Does (.frgInjectorWrite r p v) s (fun t => ringPort t p.val = { ringPort s p.val with inj := kept, injSent := 0, injCnt := 0 } ∧
          Answered r 0 [] s t))) ∧
      (¬good → (∀ p, no (.slkInjectorWrite r p v) 0x0003) ∧ ∀ p, no (.frgInjectorWrite r p v) 0x0003)) ∧
    (admits r lvEngineer s = false ∨ injOk s = false → (∀ p, no (.slkInjectorWrite r p v) 0x0001) ∧ ∀ p, no (.frgInjectorWrite r p v) 0x0001)) ∧
  (∀ s : State, Does (.testpInputChange true) s (fun t => t.pst = { s.pst with testp := true } ∧ t.frg = s.frg) ∧
    Does (.testpInputChange false) s (fun t => t.pst.testp = false ∧ (∀ p, (slPort t p).inj = 0) ∧ ∀ p, (ringPort t p).inj = 0))

/-- The full sequence is the value nearest the expected one with the received SEQ_LO, and CHECK is CRC-32C over the virtual
header and the frame. A tagged frame is not accepted, and one with another EtherType, for another node, of another VER,
RING or kind is passed on and otherwise ignored (an HSR supervision frame shows its port: the model's log 132). One of
wrong CHECK or DST is counted on its port and in context 0 and changes no station. A right SYNC of the speaker gives C,
T0 and the station time of its arrival and is forwarded with a residence time (a free value, model's log 7) and the
link's delay added to CORR; one whose CORR exceeds 100 µs is forwarded only. A right INPUT of this cycle gives the
station's words, status and acknowledgement, and a second copy only shows the other path. A right JOIN of a station that
this sender answers is kept for TO (log 25 for one outside the plan). A right LINK_REQ is answered on its port with the
two times; a right LINK_RSP gives half of the round trip less the turnaround. (R307, R308, R310, R311, R316, R317, R319) -/
def Obligations.RingFrames : Prop :=
  (∀ (want q : Word) (lo : BitVec 16), (nearestSeq want lo).setWidth 16 = lo ∧
    (q.setWidth 16 = lo → (nearestSeq want lo - want).toInt.natAbs ≤ (q - want).toInt.natAbs)) ∧
  (∀ (f : RingFrame) (q : Word), ringCheck f q = crc32c crcInit (le16 f.ring ++ [f.src, f.dst] ++ Word.bytes q ++
    ([f.kind, f.ver] ++ le16 f.ring ++ [f.src, f.dst] ++ le16 f.seqLo ++ le16 (BitVec.ofNat 16 f.data.length) ++ le16 f.flags ++ f.data))) ∧
  (∀ (p : Fin 2) (f : RingFrame) (trip : Nat) (s : State),
    let n := f.src.toNat
    let x := stn s n
    let link := (ringPort s p.val).linkRx
    let others : List (Instr × Byte) := [(.remoteInputReceived p f, 2), (.remoteJoinReceived p f, 5), (.linkReqReceived p f, 7), (.linkRspReceived p f trip, 8)]
    let stays := f.dest = .linkLocal ∨ f.dest = .unicast (ownNode s) ∨ f.src = ownNode s
    let pass := if stays then s else emit (.ring (some (1 - p)) f) s
    let passSync := fun t : State => ∃ r : Nat, t = if stays then takeFree s else
      emit (.ring (some (1 - p)) { f with corrNs := f.corrNs + r + (ringPort s p.val).delay.toNat }) (takeFree s)
    let comes := powered s = true ∧ f.tagged = false
    let mine := f.etherType = etherTypeOf s ∧ f.etherType ≠ 0x88FB ∧ ringFor s f = true ∧ f.ver = 1 ∧ f.ring = s.img.stnId
    let right := fun q : Word => dstOk s f.dst = true ∧ f.check = ringCheck f q
    let sees := fun t : State => ringPort t p.val = { ringPort s p.val with up := true, link := true, frames := (ringPort s p.val).frames + 1 }
    let bad := fun t : State => (ringPort t p.val).errCheck = inc16 (ringPort s p.val).errCheck ∧ (ctx t 0).count = inc16 (ctx s 0).count ∧
      t.cvu.evt = setBit s.cvu.evt 0 ∧ t.frg.stns = s.frg.stns ∧ t.frg.syncC = s.frg.syncC ∧ Changes [.frg, .cvu, .sent, .free] s t
    (∀ e ∈ others ++ [(.syncReceived p f, 1)],
      (¬comes → exec e.1 s = .next s) ∧
      (comes → f.etherType = 0x88FB → Does e.1 s (fun t => ringPort t p.val = { ringPort s p.val with up := true, link := true, supv := true } ∧
        t.frg.stns = s.frg.stns))) ∧
    (comes → f.etherType ≠ 0x88FB →
      (∀ e ∈ others, ¬mine ∨ f.kind ≠ e.2 → exec e.1 s = .next pass) ∧ (¬mine ∨ f.kind ≠ 1 → Does (.syncReceived p f) s passSync)) ∧
    (comes → mine → f.kind = 1 →
      let q := nearestSeq s.frg.syncC f.seqLo
      (¬right q ∨ fromSpeaker s f = false → Does (.syncReceived p f) s bad) ∧
      (right q → fromSpeaker s f = true → Does (.syncReceived p f) s (fun t => sees t ∧
        (let t0 := (dataWord f.data 4 ++ dataWord f.data 0).toInt
         f.corrNs ≤ 100000 → t.frg.syncOk = true ∧ t.frg.syncC = q ∧ t.frg.syncT0 = some t0 ∧
           t.frg.syncAt = some (t0 + f.corrNs + ((ringPort s p.val).delay.toNat : Int))) ∧
        (100000 < f.corrNs → t.frg.syncOk = s.frg.syncOk ∧ t.frg.syncC = s.frg.syncC ∧ t.frg.syncT0 = s.frg.syncT0) ∧
        ∃ u, passSync u ∧ t.sent = u.sent))) ∧
    (∀ cfg d, stnCfg s n = some cfg → sinceGrant s x = some d → granted x = true → comes → mine → f.kind = 2 →
      let q := x.inBase + d
      let k := nearestSeq q f.seqLo
      (¬right k → Does (.remoteInputReceived p f) s (fun t => bad t ∧ t.cyc = s.cyc ∧ t.sent = pass.sent)) ∧
      (right k → k ≠ q ∨ f.data.length ≠ 4 + cfg.inLen → Does (.remoteInputReceived p f) s (fun t => sees t ∧ t.frg.stns = s.frg.stns ∧ t.cyc = s.cyc)) ∧
      (right k → k = q → f.data.length = 4 + cfg.inLen → Does (.remoteInputReceived p f) s (fun t => sees t ∧ (∀ m, m ≠ n → stn t m = stn s m) ∧
        (x.arrived = true → t.cyc = s.cyc ∧ stn t n = { x with ports := x.ports ||| (1#2 <<< p.val) }) ∧
        (x.arrived = false → s.frg.deadlineOver = true → t.cyc = s.cyc ∧ stn t n = x) ∧
        (x.arrived = false → s.frg.deadlineOver = false →
          (∀ k, k < (cfg.inLen + 3) / 4 → tget 0 t.cyc.inputs (stnIn n + k) = dataWord (f.data.drop 4) (4 * k)) ∧
          (∀ o, o < stnIn n ∨ stnIn n + (cfg.inLen + 3) / 4 ≤ o → tget 0 t.cyc.inputs o = tget 0 s.cyc.inputs o) ∧
          (let y := stn t n
           let acked := x.sentSeq == some ((dataWord f.data 0).setWidth 16)
           y.arrived = true ∧ y.seen = true ∧ y.status = (dataWord f.data 2).setWidth 16 ∧ y.subst = f.flags.getLsbD 1 ∧ y.ports = 1#2 <<< p.val ∧
           y.st = (if x.freshAcked || acked then .present else .granted) ∧ y.missed = x.missed ∧
           y.unack = (if x.sentSeq.isSome && !acked then inc16 x.unack else x.unack)))))) ∧
    (stnCfg s n = none ∨ sinceGrant s x = none ∨ granted x = false → comes → f.etherType ≠ 0x88FB → exec (.remoteInputReceived p f) s = .next pass) ∧
    (1 ≤ n → n ≤ 32 → comes → mine → f.kind = 5 →
      let q := f.seqLo.setWidth 32
      (¬right q → Does (.remoteJoinReceived p f) s (fun t => bad t ∧ t.sent = pass.sent)) ∧
      (right q →
        (ringSender s = true → (stnCfg s n).isSome = true ∨ onlyPosition s = true → Does (.remoteJoinReceived p f) s (fun t => sees t ∧
          stn t n = { x with joinPend := some f.data, typ := dataWord f.data 0 } ∧ (∀ m, m ≠ n → stn t m = stn s m) ∧ t.sent = pass.sent)) ∧
        (ringSender s = false → Does (.remoteJoinReceived p f) s (fun t => sees t ∧ t.frg.stns = s.frg.stns ∧ t.sent = pass.sent)))) ∧
    (comes → mine → f.kind = 7 → ¬right (nearestSeq link f.seqLo) → Does (.linkReqReceived p f) s bad) ∧
    (comes → mine → f.kind = 8 → ¬right (nearestSeq link f.seqLo) → Does (.linkRspReceived p f trip) s bad) ∧
    (comes → mine → f.kind = 7 → right (nearestSeq link f.seqLo) → ringArmed s p.val = false → Does (.linkReqReceived p f) s (fun t =>
      let own := (ringPort s p.val).linkSeq + 1
      (ringPort t p.val).linkSeq = own ∧ (ringPort t p.val).linkRx = nearestSeq link f.seqLo ∧ t.frg.stns = s.frg.stns ∧
      ∃ g : RingFrame, t.sent = pass.sent ++ [.ring (some p) g] ∧ g.kind = 8 ∧ g.dest = .linkLocal ∧ g.dst = f.src ∧ g.ver = 1 ∧ g.ring = s.img.stnId ∧
        g.check = ringCheck g own ∧ g.data = wordsBytes [BitVec.ofNat 32 (s.tim.ticks * 40), BitVec.ofNat 32 (s.tim.ticks * 40)])) ∧
    (comes → mine → f.kind = 8 → right (nearestSeq link f.seqLo) → Does (.linkRspReceived p f trip) s (fun t =>
      (ringPort t p.val).delay = sat16 ((trip - (dataWord f.data 4 - dataWord f.data 0).toNat) / 2) ∧ t.frg.stns = s.frg.stns ∧ t.sent = pass.sent)))

/-- COMMIT leaves, in a sender whose compare is complete and in no overrun cycle, once, for the stations whose OUTPUT left,
under OUT_BASE of the lowest of them plus C − C_GRANT, with C and the mask; in any other case COMMIT_SEND changes
nothing. LINK_DELAY_MEASURE sends LINK_REQ with the port's next number. HSR and PRP supervision frames go out.
RING_PATH_LOST, and RING_PORT_DOWN of a port that was up, declare a path lost and set PATH; PLANT_PATH_LOST and
PLANT_PATH_RESTORED do so for the plant network. Every station keeps its grant and its words. Frames are stated with the
injectors disarmed. (R304, R306, R310, R311, R313, R314, R316, R320, R323, R324) -/
def Obligations.RingSends : Prop :=
  (∀ s : State, ringArmed s 0 = false → ringArmed s 1 = false →
    let l := (s.img.ring.stations.map (·.1)).filter (fun n => (stn s n).outSent)
    let go := s.cyc.phase = .compared ∧ s.cyc.late = false ∧ s.frg.outDone = false ∧ ringSender s = true
    (go → l ≠ [] → (∀ n ∈ l, n ≤ 32) → Does .commitSend s (fun t => t.frg = { s.frg with outDone := true } ∧ Changes [.frg, .sent] s t ∧
      ∃ (g : RingFrame) (n : Nat), t.sent = s.sent ++ [.ring none g] ∧ n ∈ l ∧ (∀ m ∈ l, n ≤ m) ∧
        g.kind = 4 ∧ g.dest = .group s.img.ring.mcast ∧ g.dst = 0xFF ∧ g.src = 0x40 + s.pst.slot.setWidth 8 ∧ g.ring = s.img.stnId ∧ g.ver = 1 ∧
        g.check = ringCheck g ((stn s n).outBase + (s.frg.syncC - (stn s n).cGrant)) ∧
        ∃ mask : Word, g.data = wordsBytes [s.frg.syncC, mask] ∧ ∀ k, k < 32 → mask.getLsbD k = (stn s (k + 1)).outSent)) ∧
    (¬go → exec .commitSend s = .next s) ∧ (l = [] → exec .commitSend s = .next s)) ∧
  (∀ (p : Fin 2) (s : State), powered s = true → ringArmed s p.val = false → Does (.linkDelayMeasure p) s (fun t =>
    (ringPort t p.val) = { ringPort s p.val with linkSeq := (ringPort s p.val).linkSeq + 1 } ∧ t.frg.stns = s.frg.stns ∧
    ∃ g : RingFrame, t.sent = s.sent ++ [.ring (some p) g] ∧ g.kind = 7 ∧ g.dest = .linkLocal ∧ g.data = [0, 0, 0, 0] ∧ g.ver = 1 ∧
      g.check = ringCheck g ((ringPort s p.val).linkSeq + 1))) ∧
  (∀ s : State, (powered s = true → ringArmed s 0 = false → ringArmed s 1 = false → Does .hsrSupervisionSend s (fun t => t = emit (.supervision false) s)) ∧
    (powered s = false → exec .hsrSupervisionSend s = .next s) ∧
    (netUp s = true → Does .prpSupervisionSend s (fun t => t = emit (.lan (lanSeq s) (.supervision true)) s)) ∧
    (netUp s = false → exec .prpSupervisionSend s = .next s)) ∧
  (∀ (p : Fin 2) (s : State),
    (powered s = true →
      Does (.ringPathLost p) s (fun t => t.frg.pathLost = true ∧ t.frg.evt = setBit s.frg.evt 0 ∧
        ringPort t p.val = { ringPort s p.val with supv := false } ∧ ringPort t (1 - p).val = { ringPort s (1 - p).val with supv := true } ∧
        t.frg.stns = s.frg.stns ∧ Changes [.frg] s t) ∧
      ∀ l : Bool, Does (.ringPortDown { port := p, linkLost := l }) s (fun t =>
        ringPort t p.val = { ringPort s p.val with up := false, link := (ringPort s p.val).link && !l } ∧ t.frg.stns = s.frg.stns ∧ Changes [.frg] s t ∧
        ((ringPort s p.val).up = true → t.frg.pathLost = true ∧ t.frg.evt = setBit s.frg.evt 0) ∧
        ((ringPort s p.val).up = false → t.frg.pathLost = s.frg.pathLost ∧ t.frg.evt = s.frg.evt))) ∧
    (powered s = false → exec (.ringPathLost p) s = .next s ∧ ∀ l, exec (.ringPortDown { port := p, linkLost := l }) s = .next s) ∧
    (∀ down, Does (.plantPathLost p down) s (fun t => t.pnw.pathLost = true ∧ t.pnw.evt = setBit s.pnw.evt 0 ∧
      (tget {} t.pnw.ports p.val).path = false ∧ (tget {} t.pnw.ports p.val).link = ((tget {} s.pnw.ports p.val).link && !down) ∧
      t.pnw.sessions = s.pnw.sessions ∧ Changes [.pnw] s t)) ∧
    Does .plantPathRestored s (fun t => t.pnw.pathLost = false ∧ (∀ q : Fin 2, (tget {} t.pnw.ports q.val).path = true ∧ (tget {} t.pnw.ports q.val).link = true) ∧
      t.pnw.evt = s.pnw.evt ∧ t.pnw.sessions = s.pnw.sessions ∧ Changes [.pnw] s t))

/-- IDENTIFY answers the six identity words, STN_ID, the slot and both addresses. OPEN from a blocked address, or on the
station address elsewhere than at the speaker, is ignored; a bad length, level or a ninth session is refused; otherwise
a session of a fresh non-zero identifier waits for its AUTH (identifier and nonce are free values, model's log 7). AUTH
with the proof HMAC(level key, VZOPEN ‖ nonces ‖ identifier) opens it under the session key; any other AUTH of 32 bytes
is refused and counted, and the fifth from one address in 60 s blocks it. The level key is the image's, or the key
store's, or the label's for Engineer alone. Each answer repeats SEQ, LEVEL and SERVICE with SESSION 0 (the header's
other fields: log 153). CLOSE and SESSION_TIMEOUT end the session with its claims and its hold on the image commands;
AUTHENTICATION_BLOCK_END frees an address. ADDRESS_CONFLICT takes another link-local address (a free value) and sets
ADDR. Stated for a message that arrives whole, is no second copy, and is for this module. (R325, R326, R328, R329, R330,
R332, R341, R342, R347, R354, R367) -/
def Obligations.Sessions : Prop :=
  (∀ (u : Unsess) (s : State),
    let m := u.msg
    let heard := netUp s = true ∧ m.rx.fcsBad = false ∧ duplicateFrame m.rx s = false ∧ m.ver = 1 ∧ m.typ = 0 ∧ elsewhere m s = false
    let answer := fun (st : BitVec 16) (body : List Byte) =>
      Emit.lan (lanSeq s) (.message { sess := 0, seq := m.seq, typ := 1, level := m.level, service := m.service, body := le16 st ++ body })
    (heard → ∃ st, Does (.identify u) s (fun t => t = emit (answer 0 (wordsBytes [0x00000A41,
      (if s.id.chopFitted then 0x00964D00 else 0x00964E00) ||| s.id.hwRev.setWidth 32, s.id.serial, s.id.fw, st, Word.flag s.id.chopFitted 0] ++
      le16 s.img.stnId ++ [s.pst.slot.setWidth 8] ++ Word.bytes s.pnw.ip ++ Word.bytes s.pnw.stnIp)) (noteFrame m.rx s))) ∧
    (netUp s = false → m.rx.fcsBad = false → duplicateFrame m.rx s = false → exec (.identify u) s = .next (noteFrame m.rx s)) ∧
    (∀ (onStn : Bool) (level : BitVec 8) (nonce : List Byte),
      let c := Instr.open_ u onStn level nonce
      let goes := heard ∧ u.ip ∉ s.pnw.blockedIp ∧ (onStn = true → s.pst.speaker = some s.pst.slot)
      let no := fun st : BitVec 16 => exec c s = .next (emit (answer st []) (noteFrame m.rx s))
      (heard → ¬goes → exec c s = .next (noteFrame m.rx s)) ∧
      (goes → nonce.length ≠ 16 → no 0x0005) ∧
      (goes → nonce.length = 16 → 3 < level.toNat → no 0x0003) ∧
      (goes → nonce.length = 16 → level.toNat ≤ 3 → 8 ≤ s.pnw.sessions.length → no 0x0008) ∧
      (goes → nonce.length = 16 → level.toNat ≤ 3 → s.pnw.sessions.length < 8 → Does c s (fun t => ∃ x : Session,
        t.pnw.sessions = s.pnw.sessions ++ [x] ∧ x.id ≠ 0 ∧ (∀ y ∈ s.pnw.sessions, y.id ≠ x.id) ∧ x.opened = false ∧ x.level = level.setWidth 2 ∧
        x.ip = u.ip ∧ x.clientNonce = nonce ∧ x.moduleNonce.length = 16 ∧ x.stnAddr = onStn ∧
        t.sent = s.sent ++ [answer 0 (Word.bytes x.id ++ x.moduleNonce)])))) ∧
  (∀ (s : State) (n : Nat),
    (s.boot.loaded = true → s.sup.mode ≠ .decaf → levelKey s n = s.img.net.keys.getD n []) ∧
    (s.boot.loaded = false → s.pnw.levelKeys ≠ [] → levelKey s n = s.pnw.levelKeys.getD n []) ∧
    (s.boot.loaded = false → s.pnw.levelKeys = [] → levelKey s n = if n = 2 then Config.labelKey s.id.serial else [])) ∧
  (∀ (u : Unsess) (sess : Word) (proof : List Byte) (s : State),
    let m := u.msg
    let heard := netUp s = true ∧ m.rx.fcsBad = false ∧ duplicateFrame m.rx s = false ∧ m.ver = 1 ∧ m.typ = 0 ∧ elsewhere m s = false
    let answer := fun (st : BitVec 16) (body : List Byte) =>
      Emit.lan (lanSeq s) (.message { sess := 0, seq := m.seq, typ := 1, level := m.level, service := m.service, body := le16 st ++ body })
    let c := Instr.auth u sess proof
    let x := s.pnw.sessions.find? (fun x => x.id == sess && !x.opened)
    let key := levelKey s ((x.getD {}).level.toNat)
    let nonces := (x.getD {}).clientNonce ++ (x.getD {}).moduleNonce
    let right := x.isSome = true ∧ key ≠ [] ∧ proof = hmac key ([0x56, 0x5A, 0x4F, 0x50, 0x45, 0x4E] ++ nonces ++ Word.bytes (x.getD {}).id)
    let fails := s.pnw.failedAt.filter (fun f => f.1 == u.ip && decide (nowUs s < f.2 + 60000000))
    (heard → proof.length ≠ 32 → exec c s = .next (emit (answer 0x0005 []) (noteFrame m.rx s))) ∧
    (heard → proof.length = 32 → right → Does c s (fun t => t.sent = s.sent ++ [answer 0 []] ∧ t.pnw.authFail = s.pnw.authFail ∧
      t.pnw.sessions = s.pnw.sessions.map (fun y => if y.id == sess then { y with
        opened := true
        key := hmac key ([0x56, 0x5A, 0x53, 0x45, 0x53, 0x53] ++ (x.getD {}).clientNonce ++ (x.getD {}).moduleNonce)
        cursor := { cur := s.evr.next } } else y))) ∧
    (heard → proof.length = 32 → ¬right → Does c s (fun t => t.sent = s.sent ++ [answer 0x0001 []] ∧ t.pnw.authFail = inc16 s.pnw.authFail ∧
      t.pnw.sessions = s.pnw.sessions ∧
      (fails.length < 4 ∨ u.ip ∈ s.pnw.blockedIp → t.pnw.blockedIp = s.pnw.blockedIp) ∧
      (4 ≤ fails.length → u.ip ∉ s.pnw.blockedIp → t.pnw.blockedIp = s.pnw.blockedIp ++ [u.ip] ∧ t.pnw.evt = setBit s.pnw.evt 2 ∧
        t.evr = (post 0x0C01 0 [] s).evr)))) ∧
  (∀ (sess : Word) (s : State),
    let ended := fun t : State => (∀ x ∈ t.pnw.sessions, x.id ≠ sess) ∧
      (∀ x ∈ s.pnw.sessions, x.id ≠ sess → x ∈ t.pnw.sessions) ∧ t.cvu.claim6 ≠ some sess ∧ t.cvu.claim7 ≠ some sess ∧
      (∀ h, s.cvu.claim6 = some h → h ≠ sess → t.cvu.claim6 = some h) ∧ (∀ w, s.boot.writer = some w → w.sess = sess → t.boot.writer = none) ∧
      (∀ w, s.boot.writer = some w → w.sess ≠ sess → t.boot = s.boot)
    Does (.sessionTimeout sess) s (fun t => ended t ∧ t.sent = s.sent) ∧
    (∀ r : Req, r.sess = sess → admits r lvView s = true → Does (.close r) s (fun t => ended t ∧ t.sent = s.sent ++ responses r 0 [] s))) ∧
  (∀ (ip : Word) (s : State), Does (.authenticationBlockEnd ip) s (fun t => ip ∉ t.pnw.blockedIp ∧
    (∀ a ∈ s.pnw.blockedIp, a ≠ ip → a ∈ t.pnw.blockedIp) ∧ t.pnw.sessions = s.pnw.sessions)) ∧
  (∀ s : State, (s.pnw.linkLocal = true → Does .addressConflict s (fun t => t.pnw.ip ≠ s.pnw.ip ∧ 0xA9FE0100 ≤ t.pnw.ip ∧ t.pnw.ip ≤ 0xA9FEFEFF ∧
      t.pnw.linkLocal = true ∧ t.pnw.evt = setBit s.pnw.evt 1)) ∧
    (s.pnw.linkLocal = false → exec .addressConflict s = .next s))

/-- READ and READVAR of 1 to 256 words answer the words in order as one step, or 0x0001 where any address is refused, and a
wrong count 0x0005. An unaligned address, one outside every region, and a tag outside the variable and constant areas
are refused. ID_VENDOR, ID_SERIAL, CYC_COUNT_LO and a tag read as the spec says, an unassigned word of the ID region
reads 0, and CYC_EXEC's MAX is cleared by its read. EVENTS of 1 to 44 records answers count, the SEQ after the last, the
gap, and the records with their CHECK, from the given SEQ, the oldest, the cursor, or the newest of the count, and moves
the session's cursor behind them; any other count is 0x0003. READ_CHANGED_CONSTANTS answers tags and values of the list.
(R9, R10, R80, R328, R333, R340, R341, R344, R354, R355, R356) -/
def Obligations.Reads : Prop :=
  (∀ (w : Who) (s : State),
    (∀ a, a % 4 ≠ 0 → objRead w a s = none) ∧ objRead w 0x4000 s = none ∧ objRead w 0x72000 s = none ∧ objRead w 0xE0000 s = none ∧
    (∀ n, n < 0x20000 → isTag s n = false → objRead w (0x10000000 + 4 * n) s = none) ∧ (∀ a, 0x10080000 ≤ a → objRead w a s = none) ∧
    (∀ n, n < 0x20000 → isTag s n = true → objRead w (0x10000000 + 4 * n) s = some (tagValue s n, s)) ∧
    objRead w 0 s = some (0x00000A41, s) ∧ objRead w 8 s = some (s.id.serial, s) ∧ objRead w 0x40 s = some (0, s) ∧
    objRead w 0x1000C s = some (s.cyc.count.setWidth 32, s) ∧
    objRead w 0x10018 s = some (s.cyc.execMax.setWidth 32, { s with cyc := { s.cyc with execMax := 0 } })) ∧
  (∀ (r : Req) (s : State), admits r lvView s = true →
    let s' := admitted r s
    let who := Who.sess r.sess (levelOf s' r.sess)
    (∀ (addr : Word) (count : BitVec 16),
      let n := count.toNat
      let both := fun (c : Instr) (a : Nat) =>
        (n = 0 ∨ 256 < n → Does c s (Answered r 0x0005 [] s)) ∧
        (∀ f : Nat → Word, 1 ≤ n → n ≤ 256 → (∀ k, k < n → objRead who (a + 4 * k) s' = some (f k, s')) →
          Does c s (Answered r 0 (wordsBytes ((List.range n).map f)) s)) ∧
        (∀ v t, n = 1 → objRead who a s' = some (v, t) → Does c s (fun u => u = { t with sent := t.sent ++ responses r 0 (Word.bytes v) t })) ∧
        (∀ (f : Nat → Word) (k : Nat), k < n → n ≤ 256 → (∀ j, j < k → objRead who (a + 4 * j) s' = some (f j, s')) →
          objRead who (a + 4 * k) s' = none → Does c s (Answered r 0x0001 [] s))
      both (.read r addr count) addr.toNat ∧ (s.sup.mode ≠ .decaf → both (.readvar r addr count) (0x10000000 + 4 * addr.toNat))) ∧
    (∀ count : BitVec 16,
      let n := count.toNat
      let all := s.evr.store ++ s.evr.ring
      let cur := ((findSession s r.sess).map (·.cursor.cur)).getD 0
      let from_ := fun (c : Instr) (q : Word) =>
        (n = 0 ∨ 44 < n → Does c s (Answered r 0x0003 [] s)) ∧
        (1 ≤ n → n ≤ 44 → ∀ l, (all.filter (fun x => decide ((q - x.seq).toInt ≤ 0))).take n = l →
          (l = [] → Does c s (Answered r 0 ([0, 0] ++ Word.bytes cur ++ [0, 0, 0, 0]) s)) ∧
          (∀ x y, l.head? = some x → l.getLast? = some y → Does c s (fun t => t.sent = s.sent ++ responses r 0
              (le16 (BitVec.ofNat 16 l.length) ++ Word.bytes (y.seq + 1) ++ Word.bytes (x.seq - q) ++ l.flatMap (recBytes s.id.serial)) s ∧
            (findSession t r.sess).map (·.cursor.cur) = some (y.seq + 1) ∧ t.evr = s.evr)))
      (∀ q, from_ (.eventsFromSeq r count q) q) ∧ from_ (.eventsFromOldest r count) ((all.head?.map (·.seq)).getD s.evr.next) ∧
      from_ (.eventsFromCursor r count) cur ∧
      from_ (.eventsNewest r count) (((all.drop (all.length - n)).head?.map (·.seq)).getD s.evr.next)) ∧
    (s.sup.mode ≠ .decaf → Does (.readChangedConstants r) s
      (Answered r 0 (s.cyc.consts.flatMap (fun p => Word.bytes (BitVec.ofNat 32 p.1) ++ Word.bytes p.2)) s))) ∧
  (∀ (serial : Word) (x : Rec), (recBytes serial x).length = 32 ∧ (recBytes serial x).take 4 = Word.bytes x.seq ∧
    (recBytes serial x).drop 28 = Word.bytes (crc32c crcInit (Word.bytes serial ++ (recBytes serial x).take 28)))

/-- WRITE of no word or of more than 64 is 0x0005. A word at an unaligned address, in the ID, SAF, MTR or TRC regions, or
outside every region is refused 0x0001. A W1C event register of each region is cleared by its written ones at Operate
level and refused below. A refused word leaves the words of the same WRITE unwritten (model's log 27). A WRITE of the
VAR region at Engineer level is a value write for the next T0. CHANGE is accepted whole for the next T0 with index
0xFFFF, or refused with the index of its first refused entry. FORCE sets, releases, or releases within a cell for the
next T0, or is refused 0x0002 outside Run, Commissioning and Hold and 0x0003 where the word may not be forced or 256 are
set (model's log 40). In a pair each is forwarded and answered after the confirmation. (R9, R78, R79, R80, R81, R83,
R328, R331, R333, R340, R342) -/
def Obligations.WritesAndForces : Prop :=
  ∀ (r : Req) (s : State), s.sup.mode ≠ .decaf →
    let w1c : List (Word × Word × (State → Word)) := [(0x1018, 0x7F, fun t => t.sup.evt), (0x2038, 0x1F, fun t => t.tim.evt), (0x3040, 0x1F, fun t => t.boot.evt),
      (0x10028, 0x3F, fun t => t.cyc.evt), (0x20030, 0x3F, fun t => t.cmp.evt), (0x30010, 0x1F, fun t => t.lpe.evt), (0x40008, 0x3F3F3F, fun t => t.fch.evt),
      (0x60010, 0x3F, fun t => t.alm.evt), (0x70024, 0x7FF, fun t => t.pst.evt), (0x80010, 0x1F, fun t => t.frg.evt), (0x90024, 0x1F, fun t => t.pnw.evt),
      (0xA001C, 7, fun t => t.evr.evt), (0xB0004, 7, fun t => t.cvu.evt), (0xD001C, 0x3F, fun t => t.dsp.evt)]
    let line := fun (t : State) (l : List T0Act) => t.cyc = { s.cyc with sched := s.cyc.sched ++ l.map (fun a => ⟨nowUs s, a, false⟩) }
    (admits r lvView s = true →
      (∀ a ws, ws = [] ∨ 64 < ws.length → Does (.write r a ws) s (Answered r 0x0005 [] s)) ∧
      (∀ (a v : Word), a.toNat % 4 ≠ 0 ∨ a.toNat < 0x1000 ∨ (0x50000 ≤ a.toNat ∧ a.toNat < 0x60000) ∨ (0xC0000 ≤ a.toNat ∧ a.toNat < 0xD0000) ∨
        (0xE0000 ≤ a.toNat ∧ a.toNat < 0x10000000) ∨ 0x10080000 ≤ a.toNat → Does (.write r a [v]) s (Answered r 0x0001 [] s)) ∧
      (∀ e ∈ w1c, ∀ v, (admits r lvOperate s = true → Does (.write r e.1 [v]) s (fun t => Answered r 0 [] s { t with pnw := (admitted r s).pnw } ∧
          e.2.2 t = e.2.2 s &&& ~~~(v &&& e.2.1))) ∧
        (admits r lvOperate s = false → Does (.write r e.1 [v]) s (Answered r 0x0001 [] s)))) ∧
    (admits r lvOperate s = true → ∀ v w, Does (.write r 0x10028 [v, w]) s (fun t => Answered r 0x0001 [] s t ∧ t.cyc = s.cyc)) ∧
    (admits r lvEngineer s = true →
      (∀ (n : Nat) (ws : List Word), n + ws.length ≤ 0x20000 →
        let b := ws.zipIdx.map (fun p => ({ tag := n + p.2, value := p.1, const := false } : OlcEntry))
        1 ≤ ws.length → ws.length ≤ 64 → inRun s = true → (constTags s []).length ≤ 1024 →
        (∀ e ∈ b, s.img.varLo ≤ e.tag ∧ e.tag < s.img.varHi ∧ (safetyTarget s (.tag e.tag) = true → s.sup.mode = .commissioning)) →
        Does (.write r (BitVec.ofNat 32 (0x10000000 + 4 * n)) ws) s (fun t => AcceptedBoth r (.change b) s t ∧ line t [.change b])) ∧
      (∀ b : List OlcEntry,
        let ok := fun e : OlcEntry => (if e.const then isConst s e.tag = true else s.img.varLo ≤ e.tag ∧ e.tag < s.img.varHi) ∧
          (safetyTarget s (.tag e.tag) = true → s.sup.mode = .commissioning)
        (b = [] ∨ 64 < b.length → Does (.change r b) s (fun t => Answered r 0x0005 [0, 0] s t ∧ t.cyc = { s.cyc with evt := setBit s.cyc.evt 3 })) ∧
        (1 ≤ b.length → b.length ≤ 64 → inRun s = false → Does (.change r b) s (fun t => Answered r 0x0002 [0, 0] s t ∧ t.cyc = { s.cyc with evt := setBit s.cyc.evt 3 })) ∧
        (1 ≤ b.length → b.length ≤ 64 → inRun s = true → (∀ e ∈ b, ok e) → (constTags s b).length ≤ 1024 →
          Does (.change r b) s (fun t => AcceptedWith r [0xFF, 0xFF] (.change b) s t ∧ line t [.change b])) ∧
        (∀ i e, b.length ≤ 64 → inRun s = true → b[i]? = some e → ¬ok e → (∀ j f, j < i → b[j]? = some f → ok f) →
          Does (.change r b) s (fun t => (∃ st, (st = 0x0003 ∨ st = 0x0002) ∧ Answered r st (le16 (BitVec.ofNat 16 i)) s t) ∧
            t.cyc = { s.cyc with evt := setBit s.cyc.evt 3 })) ∧
        (∀ i, i < b.length → b.length ≤ 64 → inRun s = true → (∀ e ∈ b, ok e) → (constTags s (b.take i)).length ≤ 1024 →
          1024 < (constTags s (b.take (i + 1))).length → Does (.change r b) s (fun t => Answered r 0x000A (le16 (BitVec.ofNat 16 i)) s t ∧
            t.cyc = { s.cyc with evt := setBit s.cyc.evt 3 }))) ∧
      (∀ (g : ForceTarget) (v : Word),
        let bad := fun (c : Instr) (st : BitVec 16) => Does c s (fun t => Answered r st [] s t ∧ t.cyc = { s.cyc with evt := setBit s.cyc.evt 4 })
        let safetyOk := safetyTarget s g = true → s.sup.mode = .commissioning
        let room := g ∈ forcesAfter s ∨ (forcesAfter s).length < 256
        (inService s = true → forceable s g = true → safetyOk → room → Does (.forceSet r g v) s (fun t => AcceptedBoth r (.force g (some v)) s t ∧ line t [.force g (some v)])) ∧
        (inService s = true → forceable s g = true → Does (.forceRelease r g) s (fun t => AcceptedBoth r (.force g none) s t ∧ line t [.force g none])) ∧
        (inService s = false → bad (.forceSet r g v) 0x0002 ∧ bad (.forceRelease r g) 0x0002) ∧
        (inService s = true → forceable s g = false → bad (.forceSet r g v) 0x0003 ∧ bad (.forceRelease r g) 0x0003) ∧
        (inService s = true → forceable s g = true → ¬safetyOk → bad (.forceSet r g v) 0x0002) ∧
        (inService s = true → forceable s g = true → safetyOk → ¬room → bad (.forceSet r g v) 0x0003)) ∧
      (∀ c : BitVec 12,
        let bad := fun st => Does (.forceReleaseInCell r c) s (fun t => Answered r st [] s t ∧ t.cyc = { s.cyc with evt := setBit s.cyc.evt 4 })
        (s.img.cells.length ≤ c.toNat → bad 0x0003) ∧
        (c.toNat < s.img.cells.length → inService s = false → bad 0x0002) ∧
        (c.toNat < s.img.cells.length → inService s = true → Does (.forceReleaseInCell r c) s (fun t =>
          AcceptedBoth r (.releaseCell c) s t ∧ line t [.releaseCell c.toNat]))))

/-- SUBSCRIBE sets the session's mask and forgets unanswered notifications outside it. CALL_NOTIFICATION_SEND notifies every
subscriber of a group with a call, from the module that announces. A retry repeats the oldest unanswered notification
under its own SEQ, at most five times, then gives it up, sets NOTIFY_FAIL and posts; an acknowledgement (TYPE 3) with a
right TAG ends the repeats of its SEQ, one with another TAG or session is discarded and counted (another TYPE: the
model's log 153). NTP_POLL asks in the speaker alone. The first valid offset is applied in one step; a later one below
128 ms by an amount between 0 and itself (a free value, model's log 7); a larger one waits, and UTC_STEPPED applies it,
sets UTC_STEP and posts its size. RTC_SET sets the RTC from UTC while SYNC is 1. (R297, R327, R328, R334, R338, R339,
R414) -/
def Obligations.NotificationsAndTime : Prop :=
  (∀ (r : Req) (mask : BitVec 8) (s : State), admits r lvView s = true → s.sup.mode ≠ .decaf → Does (.subscribe r mask) s (fun t =>
    t.sent = s.sent ++ responses r 0 [] s ∧ ∃ x y, findSession s r.sess = some x ∧ findSession t r.sess = some y ∧ y.sub = mask ∧
      y.level = x.level ∧ y.nseq = x.nseq ∧ ∀ u, u ∈ y.unacked ↔ u ∈ x.unacked ∧ mask.getLsbD u.2.1 = true)) ∧
  (∀ (g : Fin 8) (s : State),
    ((call s g.val).st = .none_ ∨ announces s = false → exec (.callNotificationSend g) s = .next s) ∧
    ((call s g.val).st ≠ .none_ → announces s = true → Does (.callNotificationSend g) s (fun t =>
      (∀ x ∈ s.pnw.sessions, x.opened = true → x.sub.getLsbD g.val = true → ∃ n q y, y.id = x.id ∧
        .lan n (.message (messageTo y 2 0x0060 q (callBody s g.val))) ∈ t.sent) ∧
      (∀ x, s.pnw.sessions = [x] → x.opened = true → x.sub.getLsbD g.val = true →
        t.sent = s.sent ++ [.lan (lanSeq s) (.message (messageTo x 2 0x0060 (x.nseq + 1) (callBody s g.val)))] ∧ t.pnw.sessions = [{ x with
          nseq := x.nseq + 1
          unacked := x.unacked.filter (fun u => u.2.1 != g.val) ++ [(x.nseq + 1, g.val, 0)] }]) ∧
      ((∀ x ∈ s.pnw.sessions, x.opened = false ∨ x.sub.getLsbD g.val = false) → t = s)))) ∧
  (∀ (sess : Word) (s : State),
    (findSession s sess = none → exec (.callNotificationRetry sess) s = .next s) ∧
    (∀ x, findSession s sess = some x →
      (x.unacked = [] → exec (.callNotificationRetry sess) s = .next s) ∧
      (∀ sq g n l, x.unacked = (sq, g, n) :: l →
        (n < 5 → Does (.callNotificationRetry sess) s (fun t => t.sent = s.sent ++ [.lan (lanSeq s) (.message (messageTo x 2 0x0060 sq (callBody s g)))] ∧
          (findSession t sess).map (·.unacked) = some (l ++ [(sq, g, n + 1)]) ∧ t.evr = s.evr)) ∧
        (5 ≤ n → Does (.callNotificationRetry sess) s (fun t => t.sent = s.sent ∧ (findSession t sess).map (·.unacked) = some l ∧
          t.pnw.evt = setBit s.pnw.evt 4 ∧ t.evr = (post 0x0C03 g [] s).evr))))) ∧
  (∀ (r : Req) (s : State), r.rx.fcsBad = false → duplicateFrame r.rx s = false →
    let from_ := noteFrame r.rx s
    (r.ver ≠ 1 ∨ r.typ ≠ 3 → exec (.notificationAcknowledgement r) s = .next from_) ∧
    (r.ver = 1 → r.typ = 3 →
      (findSession s r.sess = none → exec (.notificationAcknowledgement r) s = .next (discardMessage from_)) ∧
      (∀ x, findSession s r.sess = some x →
        (tagRight x.key r = false → exec (.notificationAcknowledgement r) s = .next (discardMessage from_)) ∧
        (tagRight x.key r = true → Does (.notificationAcknowledgement r) s (fun t =>
          (findSession t r.sess).map (·.unacked) = some (x.unacked.filter (fun u => u.1 != r.seq)) ∧ t.pnw.discarded = s.pnw.discarded))))) ∧
  (∀ s : State,
    let runs := netUp s = true ∧ s.sup.mode ≠ .decaf ∧ s.pst.speaker = some s.pst.slot ∧ s.img.net.ntpServers ≠ 0
    (runs → Does .ntpPoll s (fun t => t.sent = s.sent ++ [.lan (lanSeq s) .ntpRequest] ∧ t.pnw = { s.pnw with polls := s.pnw.polls + 1 })) ∧
    (¬runs → exec .ntpPoll s = .next s) ∧
    (∀ (sv : Fin 4) (off : Int),
      let took := fun t : State => t.pnw.utcSync = true ∧ t.pnw.utcFirst = false ∧ t.pnw.utcServer = BitVec.ofNat 2 sv.val ∧ t.pnw.utcLastUs = some (nowUs s)
      (¬runs ∨ s.img.net.ntpServers ≤ sv.val → exec (.ntpResponse sv off) s = .next s) ∧
      (runs → sv.val < s.img.net.ntpServers → Does (.ntpResponse sv off) s (fun t => took t ∧
        (s.pnw.utcFirst = true → t.pnw.utcOffset = s.pnw.utcOffset + off ∧ t.pnw.utcBig = none) ∧
        (s.pnw.utcFirst = false → off.natAbs < 128000 → t.pnw.utcBig = none ∧
          ∃ d : Int, t.pnw.utcOffset = s.pnw.utcOffset + d ∧ d.natAbs ≤ off.natAbs ∧ (0 < off → 0 ≤ d) ∧ (off < 0 → d ≤ 0) ∧
            (∀ u, s.pnw.utcLastUs = some u → 2000 * d.natAbs ≤ nowUs s - u)) ∧
        (s.pnw.utcFirst = false → 128000 ≤ off.natAbs → t.pnw.utcBig = some off ∧ t.pnw.utcOffset = s.pnw.utcOffset)))) ∧
    (s.pnw.utcBig = none → exec .utcStepped s = .next s) ∧
    (∀ o, s.pnw.utcBig = some o → Does .utcStepped s (fun t => t.pnw.utcOffset = s.pnw.utcOffset + o ∧ t.pnw.utcBig = none ∧ t.pnw.evt = setBit s.pnw.evt 3 ∧
      (s.evr.running = true → s.evr.ring.length < 8192 → ∃ x : Rec, t.evr.ring = s.evr.ring ++ [x] ∧ x.code = 0x0C02 ∧ x.a = BitVec.ofInt 32 o ∧ x.seq = s.evr.next))) ∧
    (s.pnw.utcSync = true → Does .rtcSet s (fun t => t.sup.rtc = BitVec.ofNat 32 ((utcUs s).toNat / 1000000) ∧ t.sup.rtcAt = nowUs s ∧ t.sup.rtcSet = true ∧
      t.sup.rtcValidShown = true ∧ Changes [.sup] s t)) ∧
    (s.pnw.utcSync = false → exec .rtcSet s = .next s))

/-- A fifth connection and one in Decaf are not taken; a timeout closes a connection, and a request without one changes
nothing. A read of 0 registers (model's choice) or more than 125 is exception 03; a tag or register of 16 bits gives the
low half of its word (model's choice), one of 32 bits two registers, high word first; an unmapped register and half of a
32-bit entry are exception 02; the input registers 0x000A to 0x000F read zero and 0x0008 with 0x0009 CYC_COUNT_LO. A
write of an unmapped register or of half an entry is 02, of a wrong quantity or byte count 03, and with MB_WR 0, to an
entry not marked writable or to a safety-related variable 04; a writable tag is a value write for the next T0, which a
pair member answers after the confirmation. Any other function code is 01. Every exception is counted. (R78, R332, R333,
R335, R336, R441) -/
def Obligations.Modbus : Prop :=
  ∀ (h : MbHdr) (s : State),
    let conn := h.conn
    let serves := netUp s = true ∧ s.sup.mode ≠ .decaf
    let has := conn ∈ s.pnw.mbConns
    let exc := fun (c : Instr) (fc code : Byte) => Does c s (fun t => t.sent = s.sent ++ [.lan (lanSeq s) (.modbus h [fc ||| 0x80, code])] ∧ t.pnw.mbExc = inc16 s.pnw.mbExc ∧
      t.cyc.sched = s.cyc.sched)
    (serves → ¬has → s.pnw.mbConns.length < 4 → Does (.modbusConnectionOpen conn) s (fun t => t.pnw = { s.pnw with mbConns := s.pnw.mbConns ++ [conn] })) ∧
    (¬serves ∨ has ∨ 4 ≤ s.pnw.mbConns.length → exec (.modbusConnectionOpen conn) s = .next s) ∧
    Does (.modbusConnectionTimeout conn) s (fun t => conn ∉ t.pnw.mbConns ∧ (∀ c ∈ s.pnw.mbConns, c ≠ conn → c ∈ t.pnw.mbConns) ∧ t.pnw.sessions = s.pnw.sessions) ∧
    (¬(serves ∧ has) → ∀ a b : BitVec 16, exec (.modbusReadHolding h a b) s = .next s ∧ exec (.modbusReadInput h a b) s = .next s ∧
      exec (.modbusWriteSingle h a b) s = .next s ∧ (∀ n vs, exec (.modbusWriteMultiple h a b n vs) s = .next s) ∧
      ∀ fc, exec (.modbusOtherFunction h fc) s = .next s) ∧
    (serves → has →
      (∀ fc, exc (.modbusOtherFunction h fc) fc 1) ∧
      (∀ a q : BitVec 16, q = 0 ∨ 125 < q.toNat → exc (.modbusReadHolding h a q) 3 3 ∧ exc (.modbusReadInput h a q) 4 3) ∧
      (∀ (a : BitVec 16) (e : MbEntry),
        let tables := [(Instr.modbusReadHolding h a, (3 : Byte), iget s.img.net.holding a.toNat),
          (Instr.modbusReadInput h a, (4 : Byte), if a.toNat < 16 then none else iget s.img.net.inputs a.toNat)]
        ∀ x ∈ tables, x.2.2 = some e → e.isTag = true → isTag s e.addr = true →
          let v := tagValue s e.addr
          (e.wide = false → Does (x.1 1) s (fun t => t = emit (.lan (lanSeq s) (.modbus h [x.2.1, 2, v.extractLsb' 8 8, v.extractLsb' 0 8])) s)) ∧
          (e.wide = true → Does (x.1 2) s (fun t => t = emit (.lan (lanSeq s) (.modbus h [x.2.1, 4, v.extractLsb' 24 8, v.extractLsb' 16 8, v.extractLsb' 8 8, v.extractLsb' 0 8])) s) ∧
            exc (x.1 1) x.2.1 2)) ∧
      (∀ a : BitVec 16, (iget s.img.net.holding a.toNat = none → ∀ q : BitVec 16, 1 ≤ q.toNat → q.toNat ≤ 125 → exc (.modbusReadHolding h a q) 3 2) ∧
        (16 ≤ a.toNat → iget s.img.net.inputs a.toNat = none → ∀ q : BitVec 16, 1 ≤ q.toNat → q.toNat ≤ 125 → exc (.modbusReadInput h a q) 4 2) ∧
        (a.toNat < 10 → a.toNat % 2 = 1 → exc (.modbusReadInput h a 1) 4 2) ∧
        (a.toNat < 10 → a.toNat % 2 = 0 → exc (.modbusReadInput h a 1) 4 2) ∧
        (10 ≤ a.toNat → a.toNat < 16 → Does (.modbusReadInput h a 1) s (fun t => t = emit (.lan (lanSeq s) (.modbus h [4, 2, 0, 0])) s))) ∧
      (let v := s.cyc.count
       Does (.modbusReadInput h 8 2) s (fun t => t = emit (.lan (lanSeq s) (.modbus h [4, 4, v.extractLsb' 24 8, v.extractLsb' 16 8, v.extractLsb' 8 8, v.extractLsb' 0 8])) s)) ∧
      (∀ (a v : BitVec 16),
        (iget s.img.net.holding a.toNat = none → exc (.modbusWriteSingle h a v) 6 2) ∧
        (∀ e, iget s.img.net.holding a.toNat = some e →
          let allowed := s.img.net.mbWr = true ∧ e.writable = true
          let tag := e.isTag = true ∧ s.img.varLo ≤ e.addr ∧ e.addr < s.img.varHi ∧ safetyTarget s (.tag e.addr) = false ∧ inRun s = true ∧ (constTags s []).length ≤ 1024
          let wrote := fun (c : Instr) (w : Word) (b : List Byte) =>
            let f := FwdCmd.change [{ tag := e.addr, value := w, const := false }]
            Does c s (fun t => t.cyc.sched = s.cyc.sched ++ [⟨nowUs s, .change [{ tag := e.addr, value := w, const := false }], false⟩] ∧
              (paired s = false → t.sent = s.sent ++ [.lan (lanSeq s) (.modbus h b)]) ∧
              (paired s = true → t.sent = (forwardNow f s).sent ∧ t.pst.unconfirmed = s.pst.unconfirmed ++ [(f, .modbus h b, nowUs s)]))
          (e.wide = true → exc (.modbusWriteSingle h a v) 6 2) ∧
          (e.wide = false → ¬allowed → exc (.modbusWriteSingle h a v) 6 4) ∧
          (e.wide = false → e.isTag = true → safetyTarget s (.tag e.addr) = true → exc (.modbusWriteSingle h a v) 6 4) ∧
          (e.wide = false → allowed → tag → wrote (.modbusWriteSingle h a v) (v.setWidth 32)
            [6, a.extractLsb' 8 8, a.extractLsb' 0 8, v.extractLsb' 8 8, v.extractLsb' 0 8]) ∧
          (∀ w : BitVec 16, e.wide = true → allowed → tag → wrote (.modbusWriteMultiple h a 2 4 [v, w]) (v ++ w) [16, a.extractLsb' 8 8, a.extractLsb' 0 8, 0, 2]))) ∧
      (∀ (a q : BitVec 16) (n : Nat) (vs : List (BitVec 16)), q = 0 ∨ 123 < q.toNat ∨ n ≠ 2 * q.toNat ∨ vs.length ≠ q.toNat →
        exc (.modbusWriteMultiple h a q n vs) 16 3))

/-- A posted event is numbered next and placed in the ring, one record for each two values; a full ring drops and counts it;
an event of a limited code beyond its window's limit is counted and not recorded; the 64th unflushed record starts a
flush. FLUSH_AGE_TIMEOUT starts one where a record waits. FLUSH_COMPLETE moves the ring to the store, of 131072 records,
and posts "records lost" with the number dropped; the time noted is that since the start of the flush, in units of 10
µs. FLOOD_WINDOW_END begins a new window and posts one summary for each suppressed code; RECORDS_LOST_POINT_END ends the
point. A cursor, the lanes' or the session's, is written, moved to the next, the previous, the oldest or the newest
record, and shows its state; no record changes. A running lane's command is an OBJWR: folded, queued, and carried out at
TO (the model's log 159). (R343, R345, R346, R348, R350, R352, R353, R354, R355, R357, R358) -/
def Obligations.Inkwell : Prop :=
  (∀ (code inst : Nat) (a b : Word) (s : State), s.evr.running = true →
    let e := s.evr
    let free_ := codeLimit s code = none ∨ ∃ lim, codeLimit s code = some lim ∧ (windowOf e (BitVec.ofNat 16 code)).1 < lim
    (free_ → e.ring.length < 8192 → ∃ x : Rec, (post code inst [a, b] s).evr.ring = e.ring ++ [x] ∧ x.seq = e.next ∧ x.time = utcUs s ∧
      x.code = BitVec.ofNat 16 code ∧ x.source = sourceOf code inst ∧ x.cell = 0xFFFF ∧ x.a = a ∧ x.b = b ∧
      x.flags.getLsbD 2 = s.pnw.utcSync ∧ x.flags.getLsbD 3 = utcValid s ∧ x.flags.getLsbD 4 = false ∧
      (post code inst [a, b] s).evr.next = e.next + 1 ∧ (63 ≤ e.ring.length → (post code inst [a, b] s).evr.flushing = true) ∧
      Changes [.evr] s (post code inst [a, b] s)) ∧
    (free_ → e.ring.length < 8191 → ∃ x y : Rec, (post code inst [a, b, a] s).evr.ring = e.ring ++ [x, y] ∧ y.seq = e.next + 1 ∧ y.flags.getLsbD 4 = true ∧
      y.a = a ∧ y.b = 0) ∧
    (free_ → 8192 ≤ e.ring.length → let f := (post code inst [a, b] s).evr
      f.ring = e.ring ∧ f.next = e.next ∧ f.dropped = inc32 e.dropped ∧ f.dropRun = e.dropRun + 1 ∧ f.evt = setBit e.evt 1) ∧
    (¬free_ → let f := (post code inst [a, b] s).evr
      f.ring = e.ring ∧ f.next = e.next ∧ f.suppr = inc32 e.suppr ∧ f.evt = setBit e.evt 2 ∧
      windowOf f (BitVec.ofNat 16 code) = ((windowOf e (BitVec.ofNat 16 code)).1, (windowOf e (BitVec.ofNat 16 code)).2 + 1))) ∧
  (∀ (code inst : Nat) (vals : List Word) (s : State), s.evr.running = false → post code inst vals s = s) ∧
  (∀ s : State,
    let e := s.evr
    (e.ring ≠ [] → Does .flushAgeTimeout s (fun t => t.evr = { e with flushing := true, flushUs := if e.flushing then e.flushUs else nowUs s } ∧ Changes [.evr] s t)) ∧
    (e.ring = [] → exec .flushAgeTimeout s = .next s) ∧
    (e.flushing = false → exec .flushComplete s = .next s) ∧
    (e.flushing = true → (∀ c d, s.sup.phase ≠ .entry c d) → Does .flushComplete s (fun t =>
      t.evr.store = (e.store ++ e.ring).drop ((e.store ++ e.ring).length - 131072) ∧ t.evr.flushing = false ∧ t.evr.flushLast = sat16 ((nowUs s - e.flushUs) / 10) ∧
      t.evr.flushMax = max16 e.flushMax t.evr.flushLast ∧
      (e.dropRun = 0 ∨ e.running = false → t.evr.ring = [] ∧ t.evr.next = e.next) ∧
      (0 < e.dropRun → e.running = true → t.evr.lossPoint = true ∧ t.evr.dropRun = 0 ∧ t.evr.next = e.next + 1 ∧
        ∃ x : Rec, t.evr.ring = [x] ∧ x.code = 0x0001 ∧ x.seq = e.next ∧ x.a = BitVec.ofNat 32 e.dropRun))) ∧
    (e.window = [] → Does .floodWindowEnd s (fun t => t.evr.window = [] ∧ t.evr.ring = e.ring)) ∧
    (∀ c n k, e.window = [(c, n, k)] → 0 < k → e.running = true → e.ring.length < 8192 → Does .floodWindowEnd s (fun t => t.evr.window = [] ∧
      ∃ x : Rec, t.evr.ring = e.ring ++ [x] ∧ x.seq = e.next ∧ x.a = c.setWidth 32 ∧ x.b = BitVec.ofNat 32 k)) ∧
    (∀ c n, e.window = [(c, n, 0)] → Does .floodWindowEnd s (fun t => t.evr.window = [] ∧ t.evr.ring = e.ring)) ∧
    Does .recordsLostPointEnd s (fun t => t.evr = { e with lossPoint := false } ∧ Changes [.evr] s t)) ∧
  (∀ s : State,
    let e := s.evr
    let all := e.store ++ e.ring
    let oldest := (all.head?.map (·.seq)).getD e.next
    let newest := (all.getLast?.map (·.seq)).getD (e.next - 1)
    let stands := fun (q : Word) (c : Cursor) => c.cur = q ∧
      (∀ x, all.find? (fun x => x.seq == q) = some x → c.state = 0 ∧ c.skip = 0 ∧ c.checkOk = true ∧ c.snap = recBytes s.id.serial x ∧
        c.fromRing = e.ring.any (fun x => x.seq == q)) ∧
      ((∀ x ∈ all, x.seq ≠ q) → c.state = if 0 < (q - newest).toInt then 2 else 1)
    let to_ := fun (write : Word → (State → Prop) → Prop) (next prev first last : (State → Prop) → Prop) (old : Cursor) (at_ : State → Cursor → Prop) =>
      (∀ q, write q (fun t => ∃ c, at_ t c ∧ stands q c)) ∧
      first (fun t => ∃ c, at_ t c ∧ stands oldest c) ∧ last (fun t => ∃ c, at_ t c ∧ stands newest c) ∧
      prev (fun t => ∃ c, at_ t c ∧ stands (old.cur - 1) c) ∧
      (old.state = 0 → next (fun t => ∃ c, at_ t c ∧ stands (old.cur + 1) c)) ∧
      (old.state = 2 ∨ old.state = 3 → next (fun t => ∃ c, at_ t c ∧ stands old.cur c)) ∧
      (∀ x, old.state = 1 → all.find? (fun y => decide (0 < (y.seq - old.cur).toInt)) = some x →
        next (fun t => ∃ c, at_ t c ∧ c.cur = x.seq ∧ c.skip = x.seq - old.cur ∧ c.state = 0)) ∧
      (old.state = 1 → (∀ y ∈ all, ¬0 < (y.seq - old.cur).toInt) → next (fun t => ∃ c, at_ t c ∧ c.cur = oldest ∧ c.skip = oldest - old.cur))
    (∀ l : Lane,
      (∀ q, ∀ k ∈ ([(.evrCursorWrite (.lane l) q, 0xA0020, q), (.evrNext (.lane l), 0xA0024, 1), (.evrPrev (.lane l), 0xA0024, 2),
          (.evrOldest (.lane l), 0xA0024, 4), (.evrNewest (.lane l), 0xA0024, 8)] : List (Instr × Word × Word)),
        ((lane s l).st = .running → exec k.1 s = .next (setLane l (fun x => { foldOut [0x00020000, k.2.1, k.2.2] x with queue := x.queue ++ [.objwr k.2.1 k.2.2] }) s)) ∧
        ((lane s l).st ≠ .running → exec k.1 s = .next s)) ∧
      to_ (fun q P => P (runObjwr l 0xA0020 q s)) (fun P => P (runObjwr l 0xA0024 1 s)) (fun P => P (runObjwr l 0xA0024 2 s))
        (fun P => P (runObjwr l 0xA0024 4 s)) (fun P => P (runObjwr l 0xA0024 8 s)) e.lanes (fun t c => t.evr = { e with lanes := c } ∧ Changes [.evr] s t)) ∧
    (∀ (r : Req) (x : Session), s.sup.mode ≠ .decaf → admits r lvView s = true → findSession s r.sess = some x →
      to_ (fun q => Does (.evrCursorWrite (.sess r) q) s) (Does (.evrNext (.sess r)) s) (Does (.evrPrev (.sess r)) s)
        (Does (.evrOldest (.sess r)) s) (Does (.evrNewest (.sess r)) s) x.cursor (fun t c => t.evr = e ∧
          (findSession t r.sess).map (·.cursor) = some c ∧ t.sent = s.sent ++ responses r 0 [] s)))

/-- A writer with the right to a context starts it (the initial value, then the header of HDRLEN bytes folded), clears it,
writes its running value held to the algorithm's width, feeds a byte or the words of the data window, each least
significant byte first, counting saturated, compares (MATCH, COMPARED, and MISMATCH where unequal), and configures it, a
header above 8 bytes being 0x0003. A lane has contexts 4 and 5, in Split one of them; a session at Operate level has 6
or 7 where it has claimed it. Any other write of a context is 0x0001, sets REFUSED and changes no context. A claim of a
context that another session holds is 0x0008; one below Operate 0x0001; else the named contexts are the session's and
those it does not name are released where it held them. A data feed of a session has 1 to 64 words, and one refused at a
word feeds none (model's log 27). A running lane's command is an OBJWR for each word: judged, queued, and carried out at
TO (log 159). (R359, R360, R361, R365, R366, R367, R368, R370) -/
def Obligations.CheckValueUnits : Prop :=
  (∀ (alg : BitVec 2) (v : Word), algInit alg = (if alg = 2 then 0xFFFF else if alg = 3 then 0 else 0xFFFFFFFF) ∧
    algResult alg v = (if alg = 1 then ~~~v else v) ∧ algMask alg v = (if alg = 2 then v &&& 0xFFFF else if alg = 3 then v &&& 0xFF else v)) ∧
  (∀ (c : Fin 8) (v : Word) (i : Fin 256) (ws : List Word) (s : State),
    let x := ctx s c.val
    let fed := fun bs : List Byte => { x with value := bs.foldl (algByte x.alg) x.value, count := sat16 (x.count.toNat + bs.length) }
    let hdr := (Word.bytes x.hdr0 ++ Word.bytes x.hdr1).take (x.cfg.toNat / 16 % 16)
    let alg : BitVec 2 := x.cfg.setWidth 2
    let eq := algResult x.alg x.value = v
    let at_ := fun off : Nat => BitVec.ofNat 32 (0xB0100 + 0x40 * c.val + off)
    let data := fun n : Nat => BitVec.ofNat 32 (0xB1000 + 0x400 * c.val + 4 * (i.val + n))
    let config : (Path → Instr) × Word × Word := (fun p => .cvuConfigWrite p c v, at_ 0, v)
    let rows : List (((Path → Instr) × Word × Word) × Ctx × Word) := [
      ((fun p => .cvuStart p c, at_ 0xC, 1), { x with alg := alg, value := hdr.foldl (algByte alg) (algInit alg), count := 0, compared := false }, s.cvu.evt),
      ((fun p => .cvuClear p c, at_ 0xC, 2), { x with count := 0, matched := false, compared := false }, s.cvu.evt),
      ((fun p => .cvuValueWrite p c v, at_ 0x10, v), { x with value := algMask x.alg v }, s.cvu.evt),
      ((fun p => .cvuByteFeed p c v, at_ 0x20, v), fed [v.setWidth 8], s.cvu.evt),
      ((fun p => .cvuExpectWrite p c v, at_ 0x18, v), { x with compared := true, matched := decide eq }, if eq then s.cvu.evt else setBit s.cvu.evt 1),
      ((fun p => .cvuDataFeed p c i [v], data 0, v), fed (Word.bytes v), s.cvu.evt)]
    let now := fun (y : Ctx) (e : Word) (t : State) => ctx t c.val = y ∧ (∀ d, d ≠ c.val → ctx t d = ctx s d) ∧ t.cvu.evt = e
    let refused := fun t : State => t.cvu = { s.cvu with evt := setBit s.cvu.evt 2 }
    let good := v.toNat / 16 % 16 ≤ 8
    (∀ l : Lane,
      let mine := (c.val = 4 ∧ (s.cmp.mode = .split → l = .a)) ∨ (c.val = 5 ∧ (s.cmp.mode = .split → l = .b))
      let run := (lane s l).st = .running
      let queued := fun k : (Path → Instr) × Word × Word => exec (k.1 (.lane l)) s =
        .next (setLane l (fun y => { foldOut [0x00020000, k.2.1, k.2.2] y with queue := y.queue ++ [.objwr k.2.1 k.2.2] }) s)
      let kept := fun t : State => (lane t l).queue = (lane s l).queue ∧ t.cyc.evt = setBit s.cyc.evt 2
      (mine → run → ∀ k ∈ rows, queued k.1) ∧
      (mine → ∀ k ∈ rows, now k.2.1 k.2.2 (runObjwr l k.1.2.1 k.1.2.2 s)) ∧
      (mine → run → good → queued config) ∧
      (mine → good → now { x with cfg := v &&& 0xF3 } s.cvu.evt (runObjwr l config.2.1 config.2.2 s)) ∧
      (mine → run → ¬good → Does (.cvuConfigWrite (.lane l) c v) s (fun t => kept t ∧ t.cvu = s.cvu)) ∧
      (mine → run → i.val + ws.length ≤ 256 → Does (.cvuDataFeed (.lane l) c i ws) s (fun t => t.cvu = s.cvu ∧
        (lane t l).queue = (lane s l).queue ++ ws.zipIdx.map (fun q => Queued.objwr (data q.2) q.1))) ∧
      (¬mine → run → ∀ k ∈ config :: (rows.take 5).map (·.1), Does (k.1 (.lane l)) s (fun t => kept t ∧ refused t)) ∧
      (¬mine → run → ws ≠ [] → 4 ≤ c.val → i.val + ws.length ≤ 256 → Does (.cvuDataFeed (.lane l) c i ws) s (fun t => kept t ∧ refused t)) ∧
      (¬run → ∀ k ∈ config :: rows.map (·.1), exec (k.1 (.lane l)) s = .next s)) ∧
    (∀ (r : Req) (y : Session), s.sup.mode ≠ .decaf → admits r lvView s = true → findSession s r.sess = some y →
      let mine := lvOperate ≤ y.level ∧ ((c.val = 6 ∧ s.cvu.claim6 = some r.sess) ∨ (c.val = 7 ∧ s.cvu.claim7 = some r.sess))
      (mine → ∀ k ∈ rows, Does (k.1.1 (.sess r)) s (fun t => Answered r 0 [] s t ∧ now k.2.1 k.2.2 t)) ∧
      (mine → good → Does (.cvuConfigWrite (.sess r) c v) s (fun t => Answered r 0 [] s t ∧ now { x with cfg := v &&& 0xF3 } s.cvu.evt t)) ∧
      (mine → ¬good → Does (.cvuConfigWrite (.sess r) c v) s (fun t => Answered r 0x0003 [] s t ∧ t.cvu = s.cvu)) ∧
      (¬mine → (∀ k ∈ config :: (rows.take 5).map (·.1), Does (k.1 (.sess r)) s (fun t => Answered r 0x0001 [] s t ∧ refused t))) ∧
      (¬mine → ws ≠ [] → ws.length ≤ 64 → Does (.cvuDataFeed (.sess r) c i ws) s (fun t => Answered r 0x0001 [] s t ∧ t.cvu.ctx = s.cvu.ctx)) ∧
      (ws = [] ∨ 64 < ws.length → Does (.cvuDataFeed (.sess r) c i ws) s (fun t => Answered r 0x0005 [] s t ∧ t.cvu = s.cvu)) ∧
      (mine → i.val + ws.length ≤ 256 → ws ≠ [] → ws.length ≤ 64 → Does (.cvuDataFeed (.sess r) c i ws) s (fun t => Answered r 0 [] s t ∧
        now (fed (ws.flatMap Word.bytes)) s.cvu.evt t)) ∧
      (mine → c.val = 6 → s.cvu.claim7 ≠ some r.sess → ws ≠ [] → ws.length < 64 → Does (.cvuDataFeed (.sess r) 6 255 ([v] ++ ws)) s (fun t =>
        Answered r 0x0001 [] s t ∧ t.cvu.ctx = s.cvu.ctx ∧ t.cvu.evt = setBit s.cvu.evt 2)))) ∧
  (∀ (r : Req) (y : Session) (v : Word) (s : State), s.sup.mode ≠ .decaf → admits r lvView s = true → findSession s r.sess = some y →
    let others := (v.getLsbD 0 = true ∧ s.cvu.claim6 ≠ none ∧ s.cvu.claim6 ≠ some r.sess) ∨ (v.getLsbD 1 = true ∧ s.cvu.claim7 ≠ none ∧ s.cvu.claim7 ≠ some r.sess)
    let after := fun (want : Bool) (h : Option Word) => if want then some r.sess else if h = some r.sess then none else h
    (y.level < lvOperate → Does (.cvuClaimWrite r v) s (fun t => Answered r 0x0001 [] s t ∧ t.cvu = s.cvu)) ∧
    (lvOperate ≤ y.level → others → Does (.cvuClaimWrite r v) s (fun t => Answered r 0x0008 [] s t ∧ t.cvu = s.cvu)) ∧
    (lvOperate ≤ y.level → ¬others → Does (.cvuClaimWrite r v) s (fun t => Answered r 0 [] s t ∧
      t.cvu.claim6 = after (v.getLsbD 0) s.cvu.claim6 ∧ t.cvu.claim7 = after (v.getLsbD 1) s.cvu.claim7 ∧ t.cvu.ctx = s.cvu.ctx)))

/-- An edge turns the position by a quarter, forward where A leads; four quarters forward are a pulse of the step, or reduce
the backflow balance, four back raise it; an edge repeated without the other channel is an error pulse (one for each
pulse too many: log 160); 16 pulses on one channel are a fault; in fault only channel A's rising edges count, to the
fault total. A step adds the quantity of its pulses to the total of the grade in force at its start, or to the
unassigned total, and that of the fault pulses to the fault total, carrying fractions. Power-on keeps totals, counters
and balance; a supply fall closes the step first. With no fault of ROM or parameters alone does it total. Grades follow
the bands. A closed switch applies each staged value to both copies with its record at the step's end, or none where the
trail cannot hold them all. A bad copy is repaired from a good one. With no grade ALPHA is a free value (model's log 7).
(R372, R374, R375, R376, R377, R378, R381, R382, R383) -/
def Obligations.ChopCounting : Prop :=
  let rows3 := fun (s : State) => s.id.chopFitted = true ∧ s.chop.on = true
  let counts := fun (s : State) => rows3 s ∧ s.chop.romFault = false ∧ s.chop.paramFault = false
  let totals := fun (env : List ChopPortEnv) (s t : State) => ∀ m, m < 4 →
    let p := portPar s m
    let x := meter s m
    let y := meter t m
    let temp := stepTemp p env[m]? x
    let k := x.stepGrade.toNat - 1
    (p.mode = 0 → y.ftot = x.ftot ∧ y.utot = x.utot ∧ y.gtot = x.gtot) ∧
    (p.mode ≠ 0 → ∃ alpha : Word, (x.stepGrade ≠ 0 → alpha = (s.chop.grades.getD k {}).alpha) ∧
      let q := quantity p alpha temp x.stepPulses
      let qf := quantity p alpha (if x.causes.getLsbD 3 then x.lastTemp else temp) x.stepFault
      (y.ftot, y.ffrac) = addTotal x.ftot x.ffrac qf ∧
      (x.stepGrade ≠ 0 → y.utot = x.utot ∧ y.gtot = x.gtot.set k (addTotal (x.gtot.getD k 0) (x.gfrac.getD k 0) q).1 ∧
        y.gfrac = x.gfrac.set k (addTotal (x.gtot.getD k 0) (x.gfrac.getD k 0) q).2) ∧
      (x.stepGrade = 0 → y.gtot = x.gtot ∧ (y.utot, y.ufrac) = addTotal x.utot x.ufrac q)) ∧
    (x.stepGrade = 0 → y.gtot = x.gtot ∧ y.gfrac = x.gfrac) ∧
    y.stepPulses = 0 ∧ y.stepGrade = x.grade ∧ y.grade = x.grade ∧ y.back = x.back ∧ y.errors = x.errors
  (∀ (p : ChopPortPar) (alpha : Word) (t n : Nat), quantity p alpha t n = f64.mul
    (let q := f64.div (natF64 n) (toF64 p.kfactor)
     if p.mode = 2 then f64.mul q (f64.sub (natF64 1) (f64.mul (toF64 alpha) (f64.sub t (natF64 15)))) else q) (natF64 1000)) ∧
  (∀ (m : Fin 4) (chan : MeterChan) (rising : Bool) (s : State),
    let c := Instr.meterPulseEdge m chan rising
    let x := meter s m.val
    let forward := match chan with
      | .a => rising != x.highB
      | .b => rising == x.highA
    let pos := if forward then x.phase + 1 else x.phase - 1
    let run := (if x.lastChan = some chan then x.runChan else 0) + (if rising then 1 else 0)
    let repeated := x.lastChan = some chan ∧ (if rising then x.upSeen else x.downSeen) = true
    let ends := pos = 4 ∨ pos = -4
    (counts s → (portPar s m.val).mode ≠ 0 → Does c s (fun t =>
      let y := meter t m.val
      (∀ n, n ≠ m.val → meter t n = meter s n) ∧ y.ftot = x.ftot ∧ y.utot = x.utot ∧ y.gtot = x.gtot ∧ y.lastChan = some chan ∧ y.runChan = run ∧
      (chan = .a → y.highA = rising ∧ y.highB = x.highB) ∧ (chan = .b → y.highB = rising ∧ y.highA = x.highA) ∧
      y.phase = (if ends then 0 else pos) ∧
      (¬ends → y.cycles = x.cycles ∧ y.back = x.back ∧ y.stepPulses = x.stepPulses) ∧
      (pos = 4 → y.cycles = x.cycles + 1 ∧ (x.back ≠ 0 → y.back = x.back - 1 ∧ y.stepPulses = x.stepPulses) ∧
        (x.back = 0 → y.back = 0 ∧ y.stepPulses = if x.causes = 0 then x.stepPulses + 1 else x.stepPulses)) ∧
      (pos = -4 → y.back = x.back + 1 ∧ y.stepPulses = x.stepPulses ∧ y.cycles = x.cycles) ∧
      (repeated → y.errors = inc16 x.errors) ∧ (¬repeated → y.errors = x.errors) ∧
      (16 ≤ run → y.causes.getLsbD 0 = true) ∧
      (run < 16 → ¬repeated → x.causes = 0 → y.causes = 0 ∧ y.faults = x.faults ∧ y.stepFault = x.stepFault) ∧
      (x.causes ≠ 0 → x.valid + 1 < 1000 → x.overCycles + 1 < 1000 → y.stepFault = x.stepFault + (if rising = true ∧ chan = .a then 1 else 0)))) ∧
    (¬counts s ∨ (portPar s m.val).mode = 0 → exec c s = .next s)) ∧
  (∀ (env : List ChopPortEnv) (s : State),
    (rows3 s → s.chop.closing = false → Does (.chopStep env) s (fun t => t.chop.opsecSteps = s.chop.opsecSteps + 1 ∧ t.chop.ports = s.chop.ports ∧
      t.chop.audit = s.chop.audit ∧ t.chop.staged = s.chop.staged ∧ (counts s → totals env s t) ∧ (¬counts s → t.chop.meters = s.chop.meters) ∧
      (counts s → ∀ m e, m < 4 → env[m]? = some e → (portPar s m).mode ≠ 0 →
        (e.over10k = true → 9 ≤ (meter s m).fastRun → (meter t m).causes.getLsbD 2 = true) ∧
        ((portPar s m).mode = 2 → (∀ v, e.tempCentiC = some v → v < -2000 ∨ 18000 < v) → (meter t m).causes.getLsbD 3 = true)))) ∧
    (¬rows3 s → exec (.chopStep env) s = .next s ∧ exec .chopSupplyFall s = .next s) ∧
    (rows3 s → s.chop.closing = false → Does .chopSupplyFall s (fun t => t.chop.on = false ∧ t.chop.session = none ∧ t.chop.ports = s.chop.ports ∧
      t.chop.trail = s.chop.trail ∧ (counts s → totals [] s t) ∧ (¬counts s → t.chop.meters = s.chop.meters))) ∧
    (rows3 s → s.chop.closing = true → ∀ x, s.chop.staged = [x] →
      let i := x.index.toNat - 1
      let v := Word.ofBytes x.value
      let old := portPar s i
      (s.chop.trail.length < 1024 → s.chop.trailFull = false → Does (.chopStep env) s (fun t => t.chop.staged = [] ∧ t.chop.closing = false ∧ t.chop.session = none ∧ t.chop.audit = s.chop.audit + 1 ∧
        (∃ r : Audit, t.chop.trail = s.chop.trail ++ [r] ∧ r.audit = s.chop.audit + 1 ∧ r.pon = s.chop.pon.setWidth 16 ∧ r.param = x.param ∧ r.index = x.index ∧
          r.opsec = BitVec.ofNat 32 ((s.chop.opsecSteps + 1) / 100) ∧ r.verifier = s.chop.verifier ∧
          r.kind = (if x.param = 8 then 2 else if x.param = 9 then 3 else 1) ∧ r.new = (if x.param = 8 ∨ x.param = 9 then 0 else v) ∧
          (x.param = 2 → r.old = old.kfactor)) ∧
        (x.param = 1 → t.chop.ports = s.chop.ports.set i { old with mode := v.setWidth 2 }) ∧
        (x.param = 2 → t.chop.ports = s.chop.ports.set i { old with kfactor := v }) ∧
        (x.param = 3 → t.chop.ports = s.chop.ports.set i { old with errlim := v.toNat }) ∧
        (x.param = 4 → t.chop.ports = s.chop.ports.set i { old with grades := v.setWidth 4 }) ∧
        (x.param = 5 → t.chop.ports = s.chop.ports.set i { old with toffset := v }) ∧
        (x.param = 6 → t.chop.grades = s.chop.grades.set i { s.chop.grades.getD i {} with alpha := v }) ∧
        (x.param = 7 → t.chop.grades = s.chop.grades.set i { s.chop.grades.getD i {} with name := v }) ∧
        (x.param = 9 → t.chop.key = x.value) ∧
        t.chop.second = { ports := t.chop.ports, grades := t.chop.grades, key := t.chop.key })) ∧
      (1024 ≤ s.chop.trail.length ∨ s.chop.trailFull = true → Does (.chopStep env) s (fun t => t.chop.staged = [] ∧ t.chop.trailFull = true ∧ t.chop.audit = s.chop.audit ∧
        t.chop.trail = s.chop.trail ∧ t.chop.ports = s.chop.ports ∧ t.chop.grades = s.chop.grades ∧ t.chop.key = s.chop.key)))) ∧
  (∀ (rom : Word) (a b : Bool) (s : State),
    (s.id.chopFitted = true → s.chop.on = false → Does (.chopPowerOn rom a b) s (fun t => t.chop.on = true ∧ t.chop.romFault = (rom != s.id.chopRom) ∧
      t.chop.fwchk = rom ∧ t.chop.paramFault = (!a && !b) ∧ t.chop.pon = s.chop.pon + 1 ∧ t.chop.staged = [] ∧ t.chop.trail = s.chop.trail ∧
      t.chop.audit = s.chop.audit ∧
      (a = true ∨ b = false → t.chop.ports = s.chop.ports ∧ t.chop.grades = s.chop.grades ∧ t.chop.key = s.chop.key) ∧
      (a = true → b = false → t.chop.second = { ports := s.chop.ports, grades := s.chop.grades, key := s.chop.key }) ∧
      (a = false → b = true → t.chop.ports = s.chop.second.ports ∧ t.chop.grades = s.chop.second.grades ∧ t.chop.key = s.chop.second.key) ∧
      (a = b ∨ b = true → t.chop.second = s.chop.second) ∧ ∀ m, m < 4 → let x := meter s m; let y := meter t m
        y.ftot = x.ftot ∧ y.utot = x.utot ∧ y.gtot = x.gtot ∧ y.ffrac = x.ffrac ∧ y.ufrac = x.ufrac ∧ y.gfrac = x.gfrac ∧ y.back = x.back ∧
        y.errors = x.errors ∧ y.faults = x.faults ∧ y.stepPulses = 0)) ∧
    (s.id.chopFitted = false ∨ s.chop.on = true → exec (.chopPowerOn rom a b) s = .next s)) ∧
  (∀ (m : Fin 4) (ua : Int) (s : State),
    let band : BitVec 4 → Prop := fun g => (g = 1 ∧ 4500 ≤ ua ∧ ua ≤ 7500) ∨ (g = 2 ∧ 8500 ≤ ua ∧ ua ≤ 11500) ∨ (g = 3 ∧ 12500 ≤ ua ∧ ua ≤ 15500) ∨
      (g = 4 ∧ 16500 ≤ ua ∧ ua ≤ 19500)
    (∀ g, rows3 s → band g → (portPar s m.val).grades.getLsbD (g.toNat - 1) = true → Does (.gradeChange m ua) s (fun t =>
      meter t m.val = { meter s m.val with grade := g, gradeUnk := false, cur := maOf ua } ∧ ∀ n, n ≠ m.val → meter t n = meter s n)) ∧
    (¬rows3 s ∨ (∀ g, band g → (portPar s m.val).grades.getLsbD (g.toNat - 1) = false) → exec (.gradeChange m ua) s = .next s) ∧
    (rows3 s → Does (.gradeUnknown m) s (fun t => meter t m.val = { meter s m.val with grade := 0, gradeUnk := true } ∧ ∀ n, n ≠ m.val → meter t n = meter s n)) ∧
    (¬rows3 s → exec (.gradeUnknown m) s = .next s))

/-- A running Chop sends its registers and up to eight audit records, newest first in rotation. The module in power takes a
valid frame over in one step and counts a bad one; 1 s without a valid one is STALE. Only with the switch open does the
optical port receive; opening and closing set SWITCH_OPEN, and closing ends the session and lets the staged values take
effect at the step's end. OPEN and AUTH follow R329 under the verifier key (identifier and nonce are free values,
model's log 7). A request of the open session with a right TAG and a new SEQ is served: READ_PARAMETERS (body layout:
model's log 47), STAGE of a value in its range, replacing one staged before, DISCARD, READ_TRAIL of 1 to 32 records; any
other message is discarded without reply, also one of another VER, TYPE, TARGET or LEVEL (log 152). The statuses of a
refused value are 0x0003 and 0x0005 (model's choice, log 91). (R329, R330, R379, R380, R381, R382, R384, R385) -/
def Obligations.ChopExportAndVerifier : Prop :=
  (∀ s : State,
    let runs := s.id.chopFitted = true ∧ s.chop.on = true
    (runs → Does .chopExportSend s (fun t => ∃ v : ChopView, t.chop.frame = some v ∧ t.sent = s.sent ++ [.chopExport v] ∧ v.audit = s.chop.audit ∧
      v.pon = s.chop.pon ∧ v.serial = s.chop.serial ∧ v.fwid = s.chop.fwid ∧ v.fwchk = s.chop.fwchk ∧ v.opsec = BitVec.ofNat 32 (s.chop.opsecSteps / 100) ∧
      v.meters = s.chop.meters ∧ v.grades = s.chop.grades ∧ v.kfs = s.chop.ports.map (·.kfactor) ∧ v.modes = s.chop.ports.map (·.mode) ∧
      v.trail = (s.chop.trail.reverse.drop s.chop.rotate).take 8 ∧
      t.chop.rotate = (if s.chop.trail.length ≤ s.chop.rotate + 8 then 0 else s.chop.rotate + 8))) ∧
    (¬runs → exec .chopExportSend s = .next s) ∧
    (s.chop.frame = none → ∀ ok, exec (.chopExportReceived ok) s = .next s) ∧
    (∀ v, s.chop.frame = some v →
      (powered s = false → ∀ ok, Does (.chopExportReceived ok) s (fun t => t.mtr = s.mtr)) ∧
      (powered s = true → Does (.chopExportReceived false) s (fun t => t.mtr = { s.mtr with failures := inc16 s.mtr.failures }) ∧
        Does (.chopExportReceived true) s (fun t => t.mtr.view = { v with trail := [] } ∧ t.mtr.valid = true ∧ t.mtr.stale = false ∧
          t.mtr.frames = s.mtr.frames + 1 ∧ t.mtr.lastUs = nowUs s ∧ t.mtr.failures = s.mtr.failures ∧
          (v.trail = [] → t.mtr.trail = s.mtr.trail) ∧
          (∀ a, v.trail = [a] → t.mtr.trail = tins (a.audit.toNat - 1) a s.mtr.trail)))) ∧
    (s.id.chopFitted = true → powered s = true → Does .chopExportStale s (fun t => t.mtr = { s.mtr with stale := true })) ∧
    (s.id.chopFitted = false ∨ powered s = false → exec .chopExportStale s = .next s) ∧
    (s.id.chopFitted = true → Does .verifierSwitchOpen s (fun t => t.chop = { s.chop with switchOpen := true }) ∧
      Does .verifierSwitchClose s (fun t => t.chop = { s.chop with switchOpen := false, closing := s.chop.on && s.chop.switchOpen, session := none })) ∧
    (s.id.chopFitted = false → exec .verifierSwitchOpen s = .next s ∧ exec .verifierSwitchClose s = .next s)) ∧
  (∀ s : State,
    let takes := fun m : Req => s.id.chopFitted = true ∧ s.chop.on = true ∧ s.chop.switchOpen = true ∧ m.ver = 1 ∧ m.typ = 0 ∧ m.target = 0xFF ∧ m.level = 3
    (∀ m : Verif,
      let answer := fun (st : BitVec 16) (body : List Byte) =>
        Emit.verifier { sess := 0, seq := m.msg.seq, typ := 1, level := 3, service := m.msg.service, body := le16 st ++ body }
      let tells := fun (c : Instr) (st : BitVec 16) => exec c s = .next (emit (answer st []) s)
      let heard := takes m.msg
      (¬heard → exec (.verifierOpen m) s = .next s ∧ exec (.verifierAuth m) s = .next s) ∧
      (heard → m.data.length ≠ 16 → tells (.verifierOpen m) 0x0005) ∧
      (heard → m.data.length = 16 → Does (.verifierOpen m) s (fun t => ∃ x : Session, t.chop.session = some x ∧ x.id ≠ 0 ∧ x.opened = false ∧
        x.clientNonce = m.data ∧ x.moduleNonce.length = 16 ∧ t.chop.verifier = 0 ∧ t.sent = s.sent ++ [answer 0 (Word.bytes x.id ++ x.moduleNonce)])) ∧
      (heard → s.chop.session = none → tells (.verifierAuth m) 0x0001) ∧
      (∀ x, heard → s.chop.session = some x →
        let right := x.opened = false ∧ m.data = hmac s.chop.key ([0x56, 0x5A, 0x4F, 0x50, 0x45, 0x4E] ++ x.clientNonce ++ x.moduleNonce ++ Word.bytes x.id)
        (m.data.length ≠ 32 → tells (.verifierAuth m) 0x0005) ∧ (m.data.length = 32 → ¬right → tells (.verifierAuth m) 0x0001) ∧
        (m.data.length = 32 → right → Does (.verifierAuth m) s (fun t => t.sent = s.sent ++ [answer 0 []] ∧ t.chop.session = some { x with
          opened := true
          key := hmac s.chop.key ([0x56, 0x5A, 0x53, 0x45, 0x53, 0x53] ++ x.clientNonce ++ x.moduleNonce) })))) ∧
    (∀ (r : Req) (param : BitVec 16) (index : Byte) (value : List Byte) (first : Word) (count : BitVec 16),
      let ok := fun x : Session => takes r ∧ s.chop.session = some x ∧ x.opened = true ∧ x.id = r.sess ∧ tagRight x.key r = true ∧ x.seq < r.seq
      let cmds := [Instr.readParameters r, .stage r param index value, .discard r, .readTrail r first count]
      ((∀ x, ¬ok x) → ∀ c ∈ cmds, exec c s = .next s) ∧
      (∀ x, ok x →
        let answer := fun (st : BitVec 16) (body : List Byte) => Emit.verifier (messageTo x 1 r.service r.seq (le16 st ++ body))
        let gives := fun (c : Instr) (st : BitVec 16) (P : State → Prop) => Does c s (fun t => t.sent = s.sent ++ [answer st []] ∧
          (t.chop.session).map (·.seq) = some r.seq ∧ P t)
        let kept := fun t : State => t.chop.staged = s.chop.staged
        let named := 1 ≤ param.toNat ∧ param.toNat ≤ 9 ∧ (8 ≤ param.toNat ∨ (1 ≤ index.toNat ∧ index.toNat ≤ 4))
        let long := value.length = (if param = 9 then 32 else 4)
        (∃ body, Does (.readParameters r) s (fun t => t.sent = s.sent ++ [answer 0 body] ∧ t.chop.staged = s.chop.staged ∧
          (s.chop.staged = [] → s.chop.ports.length = 4 → s.chop.grades.length = 4 → body.length = 112))) ∧
        (¬named → gives (.stage r param index value) 0x0003 kept) ∧ (named → ¬long → gives (.stage r param index value) 0x0005 kept) ∧
        (named → long → parInRange param value = false → gives (.stage r param index value) 0x0003 kept) ∧
        (named → long → parInRange param value = true → gives (.stage r param index value) 0 (fun t =>
          let at_ : Byte := if 8 ≤ param.toNat then 0 else index
          ((∀ y ∈ s.chop.staged, ¬(y.param = param ∧ y.index = at_)) → t.chop.staged = s.chop.staged ++ [{ param := param, index := at_, value := value }]) ∧
          (∀ y, s.chop.staged = [y] → y.param = param → y.index = at_ → t.chop.staged = [{ param := param, index := at_, value := value }]) ∧
          t.chop.verifier = (if param = 8 then Word.ofBytes value else s.chop.verifier) ∧ t.chop.ports = s.chop.ports ∧ t.chop.audit = s.chop.audit)) ∧
        gives (.discard r) 0 (fun t => t.chop.staged = []) ∧
        (count = 0 ∨ 32 < count.toNat → gives (.readTrail r first count) 0x0003 kept) ∧
        (1 ≤ count.toNat → count.toNat ≤ 32 → Does (.readTrail r first count) s (fun t => t.sent = s.sent ++ [answer 0
          (((s.chop.trail.filter (fun a => decide (first ≤ a.audit))).take count.toNat).flatMap (fun a => wordsBytes (auditWords s.chop.serial a)))]))))) ∧
  (∀ (serial : Word) (a : Audit), ∃ w : List Word, auditWords serial a = w ++ [crc32c crcInit (wordsBytes (serial :: w))] ∧
    w = [a.audit, a.opsec, (a.param ++ a.pon : BitVec 32), (0 : BitVec 16) ++ a.kind ++ a.index, a.old, a.new, a.verifier]) ∧
  (∀ (v : List Byte),
    let w := Word.ofBytes v
    (parInRange 1 v = true ↔ w.toNat ≤ 2) ∧ (parInRange 3 v = true ↔ 1 ≤ w.toNat ∧ w.toNat ≤ 100) ∧ (parInRange 4 v = true ↔ w.toNat ≤ 15) ∧
    (parInRange 2 v = (fle 0x3DCCCCCD w && fle w 0x47C35000)) ∧ (parInRange 5 v = (fle 0xBF800000 w && fle w 0x3F800000)) ∧
    (parInRange 6 v = (fle 0 w && fle w 0x3B03126F)) ∧ (parInRange 7 v = true ↔ ∀ b ∈ v, b.toNat < 128))

/-- A waiting request merges with one it overlaps, and the queue never exceeds 32. A drawing writes the pixels the content
defines and leaves the others. A request that may start switches the rails on at once, or when they are off; each rail
is good a millisecond after the one before it. A frame start with all rails good advances every rectangle in flight by a
frame and starts a lone waiting request that may start, in the image's mode and the latched band, the band of 25 °C
while the NTC is bad. A finished rectangle ends, and its compensation is followed by the normal update. Rails go off
only when nothing runs or waits; a rail fault aborts everything with a dirty entry each, and the third in 60 s disables;
the retry reissues. A panel start puts compensations (where the sets match) and Clears first. REDRAW, CLEAR, the page
and the front light come from a running lane as a queued OBJWR carried out at TO, or at Operate; REINIT at Engineer; a
wrong page or front light is 0x0003, from a lane OBJ_REFUSED. Model's choices: the area of a page's change (log 17),
fitting a full queue and CLEAR's redraw (127), the lane path (159), the rails' times (162). (R387, R388, R391, R392,
R393, R394, R395, R397, R398, R400, R402, R403) -/
def Obligations.Panel : Prop :=
  (∀ (r p : PReq) (q : List PReq),
    enqueue r [] = [r] ∧ (q.length ≤ 32 → (enqueue r q).length ≤ 32) ∧
    (mergeable p r = true → overlaps p.area r.area = true → enqueue r [p] = [{ area := bbox p.area r.area, cls := higher p.cls r.cls, full := p.full || r.full, ahead := p.ahead || r.ahead, atUs := min p.atUs r.atUs }]) ∧
    (¬(mergeable p r = true ∧ overlaps p.area r.area = true) → enqueue r [p] = if p.atUs ≤ r.atUs then [p, r] else [r, p])) ∧
  (∀ (s : State) (c : PClass) (a : Rect) (i : Nat),
    let content := if c = .chop then PanelContent.chop (chopFaceOf s.chop) else panelContent s
    tget 0 (drawArea c a s).dsp.draft i = (if i ∈ ownPixels s c a then (drawnLevel s.dsp content i).getD (tget 0 s.dsp.draft i) else tget 0 s.dsp.draft i) ∧
    (if c = .chop then (drawArea c a s).dsp.chopFace else (drawArea c a s).dsp.content) = content) ∧
  (∀ (s : State) (k : Nat), (railGood s k = true ↔
      (∃ t, s.dsp.railsAt = some t ∧ t + 1000 * (k + 1) ≤ nowUs s) ∨ (s.dsp.railsAt = none ∧ ∃ t, s.dsp.railsOff = some t ∧ nowUs s < t + 600 * (5 - k))) ∧
    (railsGood s = true ↔ ∃ t, s.dsp.railsAt = some t ∧ t + 5000 ≤ nowUs s)) ∧
  (∀ s : State,
    let d := s.dsp
    let whole : Rect := { x := 0, y := 0, w := d.cols, h := d.rows }
    let up := fun (e : Dsp) => if mayDrive s = true ∧ e.railsAt = none ∧ e.railRetry = false ∧ (∃ r ∈ e.queue, eligible { s with dsp := e } r = true) then
      { e with railsAt := some (max (nowUs s) ((e.railsOff.map (· + 3000)).getD 0)) } else e
    let ask := fun (d : Dsp) (area : Rect) (c : PClass) => if d.identOk then up { d with queue := enqueue { area := area, cls := c, atUs := nowUs s } d.queue } else d
    let clears := if d.identOk = true ∧ (∀ p ∈ d.queue, p.solo = false) then up { d with
      queue := fitQueue (insertReq { area := whole, solo := true, atUs := nowUs s } (insertReq { area := whole, clear := true, atUs := nowUs s }
        (d.queue.filter (fun p => !(merges p && p.cls == .other && !p.ahead))))) } else d
    let flight := fun i => (tget {} d.slots i).active = true
    let by_ := fun (c : Path → Instr) (a v : Word) (after : Dsp) =>
      (∀ l : Lane, (lane s l).st = .running →
        exec (c (.lane l)) s = .next (setLane l (fun x => { foldOut [0x00020000, a, v] x with queue := x.queue ++ [.objwr a v] }) s)) ∧
      (∀ l : Lane, (lane s l).st ≠ .running → exec (c (.lane l)) s = .next s) ∧
      (∀ l : Lane, (runObjwr l a v s).dsp = after ∧ Changes [.dsp] s (runObjwr l a v s)) ∧
      (∀ r : Req, s.sup.mode ≠ .decaf → admits r lvOperate s = true → Does (c (.sess r)) s (fun t => t.dsp = after ∧ Answered r 0 [] s t))
    let refused := fun (c : Path → Instr) (a v : Word) =>
      (∀ l : Lane, (lane s l).st = .running →
        exec (c (.lane l)) s = .next { setLane l (foldOut [0x00020000, a, v]) s with cyc := { s.cyc with evt := setBit s.cyc.evt 2 } }) ∧
      (∀ l : Lane, (lane s l).st ≠ .running → exec (c (.lane l)) s = .next s) ∧
      (∀ r : Req, s.sup.mode ≠ .decaf → admits r lvOperate s = true → Does (c (.sess r)) s (fun t => t.dsp = d ∧ Answered r 0x0003 [] s t))
    by_ .redraw 0xD0014 1 (ask d whole .other) ∧ by_ .dspClear 0xD0014 2 clears ∧
    (∀ v : Word, v.toNat < 64 ∧ s.img.panel.pages.getLsbD v.toNat = true →
      let sp := { s with dsp := { d with page := v.setWidth 6 } }
      by_ (fun p => .dspPageWrite p v) 0xD0010 v
        (if standbyPage s then sp.dsp else
          let c := if s.img.panel.alarmPages.getLsbD v.toNat then PClass.alarm else PClass.other
          ask { sp.dsp with draft := (drawArea c whole sp).dsp.draft, draws := d.draws + 1, content := panelContent sp } whole c)) ∧
    (∀ v : Word, ¬(v.toNat < 64 ∧ s.img.panel.pages.getLsbD v.toNat = true) → refused (fun p => .dspPageWrite p v) 0xD0010 v) ∧
    (∀ v : Word, v.toNat ≤ 100 → by_ (fun p => .dspFlWrite p v) 0xD0018 v { d with fl := v.setWidth 7 }) ∧
    (∀ v : Word, 100 < v.toNat → refused (fun p => .dspFlWrite p v) 0xD0018 v) ∧
    (s.id.chopFitted = true ∧ s.chop.on = true → Does .chopRectangleRenew s (fun t =>
      let a : Rect := { x := d.cols - 400, y := d.rows - 160, w := min 400 d.cols, h := min 160 d.rows }
      let drawn : Dsp := { d with draft := (drawArea .chop a s).dsp.draft, draws := d.draws + 1, chopFace := .chop (chopFaceOf s.chop) }
      t.dsp = if d.queue.any (fun r => r.cls == .chop && !r.clear && r.comp.isNone) then drawn else ask drawn a .chop)) ∧
    (¬(s.id.chopFitted = true ∧ s.chop.on = true) → exec .chopRectangleRenew s = .next s) ∧
    (d.run = false ∨ d.disabled = true ∨ s.sup.vinWarn = true ∨ s.sup.phase = .off → exec .panelFrameStart s = .next s) ∧
    (mayDrive s = true →
      (d.railsAt = none → Does .panelFrameStart s (fun t => t.dsp.slots = d.slots ∧ t.dsp.queue = d.queue ∧
        t.dsp.railsAt = if d.railRetry = false ∧ (∃ r ∈ d.queue, eligible s r = true) then some (max (nowUs s) ((d.railsOff.map (· + 3000)).getD 0)) else none)) ∧
      (∀ u, d.railsAt = some u → nowUs s < u + 5000 → Does .panelFrameStart s (fun t => t.dsp.slots = d.slots ∧ t.dsp.queue = d.queue ∧ t.dsp.railsAt = some u)) ∧
      (railsGood s = true →
        Does .panelFrameStart s (fun t => ∀ i, flight i → let x := tget {} d.slots i
          tget {} t.dsp.slots i = { x with done := if x.done < x.total then x.done + 1 else x.done }) ∧
        (∀ r, d.queue = [r] → (∀ i, i < 8 → ¬flight i) → eligible s r = true → Does .panelFrameStart s (fun t => t.dsp.queue = [] ∧
          let y := tget {} t.dsp.slots 0
          y.active = true ∧ y.area = r.area ∧ y.cls = r.cls ∧ y.done = 1 ∧ y.total ≤ max 96 (r.comp.getD 0) ∧ y.atUs = r.atUs ∧
          (r.comp = none → y.mode = requestMode s r ∧ y.band = (if d.ntcBad then 6 else d.band) ∧
            ((d.outside = true ∨ d.ntcBad = true) → y.iqna = true ∧ t.dsp.iqna = true ∧ t.dsp.evt.getLsbD 2 = true)) ∧
          (∀ n, r.comp = some n → y.comp = true ∧ y.mode = r.compMode ∧ y.band = r.compBand ∧ y.total = n ∧ y.row = r.compRow))) ∧
        (∀ r, d.queue = [r] → eligible s r = false ∨ blockedBy d r = true → Does .panelFrameStart s (fun t => t.dsp.queue = [r])))) ∧
    (∀ i : Fin 8,
      let x := tget {} d.slots i.val
      let past := x.active = true ∧ x.total ≤ x.done
      (¬past → exec (.rectangleUpdateEnd i) s = .next s) ∧
      (past → d.recovery = false → Does (.rectangleUpdateEnd i) s (fun t => tget {} t.dsp.slots i.val = { x with active := false } ∧ t.dsp.lastEndUs = nowUs s ∧
        (x.comp = false → t.dsp.cntDone = inc16 d.cntDone ∧ t.dsp.updLast = sat16 ((nowUs s - x.atUs) / 1000) ∧ t.dsp.queue = d.queue ∧
          ∀ j, tget 0 t.dsp.glass j = if j ∈ ownPixels s x.cls x.area then tget 0 d.target j else tget 0 d.glass j) ∧
        (x.comp = true → t.dsp.cntDone = d.cntDone ∧ (∀ e ∈ t.dsp.dirty, e.area ≠ x.area) ∧
          (x.ahead = false → t.dsp.queue = d.queue) ∧
          (x.ahead = true → t.dsp.queue = fitQueue (enqueue { area := x.area, cls := x.cls, clear := x.mode == 2, ahead := true, start := x.start, atUs := x.atUs } d.queue))))) ∧
      (past → d.recovery = true → d.queue = [] → x.comp = false ∨ x.ahead = false → (∀ j, j < 8 → j ≠ i.val → ¬flight j) →
        Does (.rectangleUpdateEnd i) s (fun t => t.dsp.recovery = false ∧ t.dsp.flOn = decide (s.tim.shed < 1) ∧ t.dsp.dirty = [] ∧
          (s.id.chopFitted = false ∨ s.chop.on = false → t.dsp.queue = [{ area := whole, cls := .alarm, full := true, atUs := nowUs s }])))) ∧
    ((∀ i, i < 8 → ¬flight i) → (∀ r ∈ d.queue, eligible s r = false) → Does .railsIdleOff s (fun t =>
      t.dsp = if d.railsAt = none then d else { d with railsAt := none, railsOff := some (nowUs s) })) ∧
    ((∃ i, i < 8 ∧ flight i) ∨ (∃ r ∈ d.queue, eligible s r = true) → exec .railsIdleOff s = .next s) ∧
    (d.railsAt = none → exec .railFault s = .next s) ∧
    (d.railsAt ≠ none → Does .railFault s (fun t => t.dsp.railsAt = none ∧ t.dsp.railsOff = some (nowUs s) ∧ (∀ i, (tget {} t.dsp.slots i).active = false) ∧ t.dsp.evt.getLsbD 0 = true ∧
      (∀ i, i < 8 → flight i → let x := tget {} d.slots i
        (∃ e ∈ t.dsp.dirty, e.area = x.area ∧ e.cls = x.cls ∧ e.mode = x.mode ∧ e.band = x.band ∧ e.row = lastRow s) ∧
        ∃ q ∈ t.dsp.aborted, q.area = x.area ∧ q.cls = x.cls ∧ q.comp.isSome = true) ∧
      (let recent := (d.railFaults.filter (fun u => decide (nowUs s < u + 60000000))).length
       t.dsp.disabled = decide (2 ≤ recent) ∧ t.dsp.run = (d.run && decide (recent < 2)) ∧ t.dsp.railRetry = decide (recent < 2)))) ∧
    (let may := mayDrive s = true ∧ d.railRetry = true
     (may → Does .railRetry s (fun t => t.dsp = up { d with railRetry := false, aborted := [], queue := fitQueue (d.aborted.foldl (fun q r => insertReq r q) d.queue) })) ∧
     (¬may → exec .railRetry s = .next s)) ∧
    (∀ c : Int, Does (.panelTemperatureMeasure (.temp c)) s (fun t => t.dsp.temp = c ∧ t.dsp.ntcBad = false ∧ t.dsp.outside = (decide (c < 0) || decide (550 < c)) ∧
      t.dsp.band = nextBand d.band c ∧ t.dsp.queue = d.queue ∧ t.dsp.present = (decide (-400 ≤ c) && decide (c ≤ 1000)))) ∧
    (∀ n, n = .open_ ∨ n = .shorted → Does (.panelTemperatureMeasure n) s (fun t => t.dsp.ntcBad = true ∧ t.dsp.evt = setBit d.evt 3 ∧ t.dsp.band = d.band ∧ t.dsp.present = false)) ∧
    (∀ g : PanelIdent,
      let p := if s.boot.loaded then s.img.panel else {}
      let few := d.dirty.length + d.queue.length ≤ 20
      let known := g.answers = true ∨ (p.cols.isSome = true ∧ p.rows.isSome = true)
      let starts := fun (t : State) => t.dsp.identOk = true ∧ t.dsp.run = true ∧ t.dsp.recovery = true ∧ t.dsp.disabled = false ∧ t.dsp.flOn = false ∧
        t.dsp.cols = p.cols.getD (if g.answers then g.cols else 0) ∧ t.dsp.rows = p.rows.getD (if g.answers then g.rows else 0) ∧
        (few → compensating d = false → mayDrive { s with dsp := { d with run := true, disabled := false } } = true → t.dsp.railsAt.isSome = true) ∧
        (few → (∃ c ∈ t.dsp.queue, c.clear = true ∧ c.cls = .other ∧ c.area = { x := 0, y := 0, w := t.dsp.cols, h := t.dsp.rows }) ∧
        (s.id.chopFitted = true → ∃ c ∈ t.dsp.queue, c.clear = true ∧ c.cls = .chop))
      (powered s = true → known → Does (.panelStartSequence g) s (fun t => starts t ∧
        t.dsp.dirtySkipped = d.dirty.any (fun e => e.setId != waveSet s) ∧
        (few → (∀ e ∈ d.dirty, e.setId = waveSet s) → ∀ e ∈ d.dirty, ∃ c ∈ t.dsp.queue, c.area = e.area ∧ c.cls = e.cls ∧ c.comp = some e.frames ∧ c.compBand = e.band ∧ c.compMode = e.mode))) ∧
      (powered s = true → ¬known → Does (.panelStartSequence g) s (fun t => t.dsp.identOk = false ∧ t.dsp.run = false ∧ t.dsp.queue = d.queue)) ∧
      (powered s = false → exec (.panelStartSequence g) s = .next s) ∧
      (∀ r : Req, s.sup.mode ≠ .decaf → admits r lvEngineer s = true →
        (known → Does (.reinit r g) s (fun t => starts t ∧ t.dsp.reinit = true ∧ (∀ i, (tget {} t.dsp.slots i).active = false) ∧ Answered r 0 [] s t)) ∧
        (¬known → Does (.reinit r g) s (fun t => t.dsp.run = false ∧ t.dsp.reinit = true ∧ Answered r 0 [] s t)))))

/-- A warning sets VIN_WARN, starts the flush, aborts the panel and changes nothing else. An episode's end counts it, holds
the 8.0 W ceiling and reissues the panel's updates; the fourth in 60 s raises "supply unstable". VIN below the reset
threshold enters class B, RST_N low class X, from a module that runs; during another entry the first class in the order
P, B, X, S, W is recorded. When the entry's flush completes, the module starts, or is held while VIN is low or the pin
reads low: its settings are gone at every class but W, while registers g, data memory, SEQ, flash and the Chop stay.
Supplies that stop leave what MRAM and retention keep, and how many of the ring's records reached the store is free
(model's log 7). A pin stuck low is ignored until it has been high for 100 ms. (R15, R372, R402, R406, R408, R409, R410,
R411, R413, R417, R418, R419) -/
def Obligations.Supplies : Prop :=
  ∀ s : State,
    let u := s.sup
    let off := u.phase = .off
    let order : ResetClass → Nat := fun c => match c with | .p => 0 | .b => 1 | .x => 2 | .s => 3 | .w => 4
    let running := u.phase = .starting ∨ u.phase = .roleWait ∨ u.phase = .waitT0 ∨ u.phase = .up
    let enters := fun (c : Instr) (k : ResetClass) (cause : Byte) =>
      (running → Does c s (fun t => t.sup.mode = .start ∧ t.sup.phase = .entry k cause ∧ t.nibA.st = .stopped ∧ t.nibB.st = .stopped ∧ t.evr.running = false ∧
        t.evr.flushing = true ∧ t.pnw.sessions = [] ∧ t.dsp.railsAt = none ∧ (∀ p ∈ t.saf.pairs, p.2.on = false) ∧ t.pst.ownDrive = false ∧ t.cyc.sched = [])) ∧
      (∀ d e, u.phase = .entry d e → Does c s (fun t => t.sup.phase = (if order k < order d then .entry k cause else .entry d e) ∧ t.evr = s.evr)) ∧
      (∀ d e, u.phase = .reset d e → Does c s (fun t => t.sup.phase = (if order k < order d then .reset k cause else .reset d e) ∧ t.evr = s.evr))
    let held := fun t : State => t.sup.vinLow = true ∨ (t.sup.rstPin = true ∧ t.sup.rstStuck = false)
    let begun := fun (c : ResetClass) (cause : Byte) (t : State) => t.sup.phase = .starting ∧ t.sup.lastClass = c ∧ t.sup.lastCause = cause
    let vinMin := fun v : BitVec 16 => if u.vinMin = 0 ∨ v < u.vinMin then v else u.vinMin
    (∀ v, (off ∨ u.vinWarn = true → exec (.vinWarning v) s = .next s) ∧
      (¬off → u.vinWarn = false → Does (.vinWarning v) s (fun t => t.sup = { u with
        vinNow := v
        vinMin := vinMin v
        vinWarn := true
        warnReset := false
        evt := setBit u.evt 0 } ∧ (powered s = true → t.evr = { s.evr with flushing := true, flushUs := if s.evr.flushing then s.evr.flushUs else nowUs s } ∧ t.dsp.railsAt = none) ∧ Changes [.sup, .evr, .dsp] s t))) ∧
    (∀ low us,
      let old := (u.episodeAt.filter (fun t => decide (nowUs s < t + 60000000))).length
      (u.vinWarn = false ∨ u.warnReset = true ∨ off → exec (.brownoutEpisodeEnd low us) s = .next s) ∧
      (u.vinWarn = true → u.warnReset = false → ¬off → Does (.brownoutEpisodeEnd low us) s (fun t => t.sup.vinWarn = false ∧
        t.sup.episodes = inc16 u.episodes ∧ t.tim.boHold = true ∧ t.sup.evt.getLsbD 1 = true ∧ t.sup.mode = u.mode ∧ t.dsp.aborted = [] ∧
        t.dsp.queue = fitQueue (s.dsp.aborted.foldl (fun q r => insertReq r q) s.dsp.queue) ∧ t.sup.unstable = (u.unstable || decide (3 ≤ old)) ∧
        (s.evr.running = true → codeLimit s 0x0D02 = some 20 → (windowOf s.evr 0x0D02).1 < 19 → s.evr.ring.length < 8000 →
          ∃ x ∈ t.evr.ring, x.code = 0x0D02 ∧ x.a = 0 ∧ x.b = low.setWidth 32)))) ∧
    (episodes60 s = 0 → Does .supplyUnstableEnd s (fun t => t.sup = { u with unstable := false } ∧ Changes [.sup] s t)) ∧
    (episodes60 s ≠ 0 → exec .supplyUnstableEnd s = .next s) ∧
    (∀ v, (off → exec (.vinResetThreshold v) s = .next s) ∧ enters (.vinResetThreshold v) .b 0x08 ∧
      (¬off → Does (.vinResetThreshold v) s (fun t => t.sup.vinLow = true ∧ t.sup.warnReset = true ∧ t.sup.vinNow = v))) ∧
    (∀ c cause, u.phase = .entry c cause → s.evr.flushing = true → Does .flushComplete s (fun t =>
      (held s → t.sup.phase = .reset c cause) ∧ (¬held s → begun c cause t) ∧
      t.nibA.g = s.nibA.g ∧ t.nibA.data = s.nibA.data ∧ t.nibB.g = s.nibB.g ∧ t.nibB.data = s.nibB.data ∧
      t.chop = s.chop ∧ t.flash = s.flash ∧ t.cyc.retain = s.cyc.retain ∧ t.fch.trims = s.fch.trims ∧
      (s.evr.dropRun = 0 → t.evr.next = s.evr.next ∧ t.evr.store = keepStore (s.evr.store ++ s.evr.ring)) ∧
      (c = .w → t.img = s.img ∧ t.tim.ticks = s.tim.ticks ∧ t.alm.points = s.alm.points ∧ t.cyc.consts = s.cyc.consts) ∧
      (c ≠ .w → t.img = Image.blank ∧ t.tim.ticks = 0 ∧ t.pnw.sessions = [] ∧ t.cyc.consts = []) ∧
      t.cyc.forces = [] ∧ t.evr.running = false)) ∧
    (off → exec .internalSuppliesStop s = .next s) ∧
    (¬off → Does .internalSuppliesStop s (fun t => t.sup.phase = .off ∧ t.sup.noWarn = (match u.phase with | .reset _ _ => false | _ => true) ∧ t.img = Image.blank ∧
      t.flash = s.flash ∧ t.chop = s.chop ∧ t.boot.starts = s.boot.starts ∧ t.sup.rtcSet = u.rtcSet ∧ t.sup.mirrorStarts = u.mirrorStarts ∧ t.cyc.retain = s.cyc.retain ∧
      t.fch.trims = s.fch.trims ∧ t.evr.next = s.evr.next ∧
      ((∀ c e, u.phase ≠ .reset c e) → t.evr.ring = [] ∧ ∃ n, n ≤ s.evr.ring.length ∧ (s.evr.flushing = false → n = 0) ∧ t.evr.store = keepStore (s.evr.store ++ s.evr.ring.take n)))) ∧
    (let pin := u.rstPin = true ∧ u.rstStuck = false
     (off → ¬pin → Does .vinRestart s (fun t => begun .p (if u.retentionLost then 0x02 else 0x01) t ∧ t.sup.rcntP = inc8 u.rcntP ∧ t.sup.vinLow = false)) ∧
     (off → pin → Does .vinRestart s (fun t => t.sup.phase = .reset .p (if u.retentionLost then 0x02 else 0x01))) ∧
     (∀ c e, u.phase = .reset c e → (¬pin → Does .vinRestart s (begun c e)) ∧ (pin → Does .vinRestart s (fun t => t.sup = { u with vinLow := false }))) ∧
     (¬off → (∀ c e, u.phase ≠ .reset c e) → Does .vinRestart s (fun t => t.sup = { u with vinLow := false } ∧ Changes [.sup] s t))) ∧
    (∀ high v, (off → exec (.vinHigh high v) s = .next s) ∧ (¬off → Does (.vinHigh high v) s (fun t => t.sup = { u with
      vinNow := v
      vinMin := vinMin v
      vinHigh := high
      evt := if high then setBit u.evt 6 else u.evt } ∧ Changes [.sup] s t))) ∧
    (∀ mv, (off → exec (.vbakLow mv) s = .next s) ∧ (¬off → Does (.vbakLow mv) s (fun t => t.sup = { u with
      vbak := mv
      vbakLow := decide (mv < 2200)
      evt := if mv < 2200 then setBit u.evt 4 else u.evt }))) ∧
    (off → Does .retentionDomainLost s (fun t => t.sup.retentionLost = true ∧ t.sup.rtcSet = false ∧ t.sup.rtc = 0 ∧ t.boot = s.boot)) ∧
    (¬off → exec .retentionDomainLost s = .next s) ∧
    (u.rstPin = true → exec .resetPinAssert s = .next s) ∧
    (u.rstPin = false → rstIgnored s = false → enters .resetPinAssert .x 0x09 ∧ Does .resetPinAssert s (fun t => t.sup.rstPin = true)) ∧
    (u.rstPin = false → rstIgnored s = true → Does .resetPinAssert s (fun t => t.sup = { u with
      rstPin := true
      rstHighAt := none
      rstStuck := true } ∧ Changes [.sup] s t)) ∧
    (rstIgnored s = true ↔ u.rstStuck = true ∧ ∀ h, u.rstHighAt = some h → nowUs s < h + 100000) ∧
    (∀ c e, u.phase = .reset c e → (u.vinLow = false → Does .resetPinRelease s (fun t => begun c e t ∧ t.sup.rstPin = false)) ∧
      (u.vinLow = true → Does .resetPinRelease s (fun t => t.sup.phase = .reset c e ∧ t.sup.rstPin = false)) ∧
      (u.rstPin = true → u.rstStuck = false → Does .resetInputStuck s (fun t => t.sup.rstStuck = true ∧ t.sup.evt.getLsbD 3 = true ∧ t.sup.stuckDue = true ∧
        (u.vinLow = false → begun c e t)))) ∧
    ((∀ c e, u.phase ≠ .reset c e) → Does .resetPinRelease s (fun t => t.sup.rstPin = false ∧ t.sup.phase = u.phase ∧ Changes [.sup] s t) ∧ exec .resetInputStuck s = .next s) ∧
    (∀ c : Int, (powered s = true → c ≤ 1150 → Does (.junctionOvertemperature c) s (fun t => t.tim = { s.tim with tj := c } ∧ Changes [.tim] s t)) ∧
      (powered s = true → 1150 < c → inService s = true → faultFailsStart s = false → Does (.junctionOvertemperature c) s (fun t => t.sup.mode = .safe ∧ t.nibA.st = .stopped)) ∧
      (powered s = false → exec (.junctionOvertemperature c) s = .next s))

/-- A start counts itself from the higher of master and mirror. No flash is Decaf, blank, reason 0x01; no usable half, 0x02.
With the first usable half of R435 selected: a digest that failed three times goes to Decaf at once; a configuration,
speed floor or self-test refusal is a failed start, which raises the count (from 0 for another digest) and ends in a
reset of class S, cause 0x12, or at 3 in Decaf under its reason; else the image is loaded, every slot is Demanded and
the module waits for its role (a pair member whose peer net is high) or for T0. A warm start does so on the loaded
image; what fails in it is a reset of class S, cause 0x10. 30 s without Run is a failed start 0x30; 600 s in service
clear the count. The survey classifies after 3 like measurements, reclassifies after 10 (log 45), and a loop above 23.0
mA at once. (R272, R415, R434, R435, R436, R437, R438, R439, R440, R443, R444, R445) -/
def Obligations.StartsAndSurvey : Prop :=
  (∀ (env : StartEnv) (s : State),
    let c := Instr.startSequence env
    let s' : State := { s with pst := { s.pst with slot := env.strap } }
    let mirror := s.sup.retentionLost = false
    let starts := if mirror ∧ s.boot.starts < s.sup.mirrorStarts then s.sup.mirrorStarts else s.boot.starts
    let fails := if mirror ∧ s.boot.fails < s.sup.mirrorFails then s.sup.mirrorFails else s.boot.fails
    let counted := fun t : State => t.boot.starts = starts + 1 ∧ t.sup.mirrorStarts = starts + 1 ∧ t.boot.startUs = nowUs s ∧ t.pst.slot = env.strap
    let decaf := fun (blank : Bool) (reason : Byte) (t : State) => t.sup.mode = .decaf ∧ t.sup.phase = .up ∧ t.sup.blank = blank ∧ t.boot.decaf = reason ∧ counted t
    let failed := fun (n : BitVec 2) (dig : BitVec 256) (reason : Byte) (t : State) => let m := if n = 3 then 3 else n + 1
      t.boot.fails = m ∧ t.boot.failDig = dig ∧ t.boot.failReason = reason ∧ counted t ∧
      (m = 3 → t.sup.mode = .decaf ∧ t.sup.blank = false ∧ t.boot.decaf = reason) ∧ (m ≠ 3 → t.sup.mode = .start ∧ t.sup.phase = .entry .s 0x12)
    let starting := s.sup.phase = .starting ∧ s.sup.lastClass ≠ .w
    let m := env.flashMbit
    let testOk := env.cmpTest.dead = 0 ∧ env.cmpTest.unequal = 0
    let sized := env.flashAnswers = true ∧ 64 ≤ m ∧ m ≤ 512
    (¬starting → exec c s = .next s) ∧
    (starting → s.flash = none ∨ ¬sized → Does c s (fun t => decaf true 0x01 t ∧ t.boot.fails = fails)) ∧
    (∀ f, starting → s.flash = some f → sized →
      let ctrl := readCtrl f m
      let usable := fun (h : Nat) (img : Image) => env.flashReadOk = true ∧ (ctrl h).valid = true ∧ readImage s' f m h (some (ctrl h)) = .ok img
      let before := fun h : Nat => (ctrl (1 - h)).valid = true ∧ (if h = 0 then (ctrl 0).gen < (ctrl 1).gen else (ctrl 1).gen ≤ (ctrl 0).gen)
      ((∀ h img, h < 2 → ¬usable h img) → Does c s (fun t => decaf true 0x02 t ∧ t.boot.fails = fails)) ∧
      (∀ h img, h < 2 → usable h img → (before h → ∀ i, ¬usable (1 - h) i) →
        let n := if img.digest = s.boot.failDig then fails else 0
        let floor := let tc := if env.gaugeRecordOk then s.id.gaugeTc else 50
          belowFloor tc env.gaugeA img.floorA env.tjDeciC = true ∨ belowFloor tc env.gaugeB img.floorB env.tjDeciC = true
        let config := configReason s' env.partnerOccupied env.partnerMode img
        let stuck := n = 3 ∧ img.digest = s.boot.failDig
        (stuck → Does c s (decaf false s.boot.failReason)) ∧
        (¬stuck → ∀ e, config = some e → Does c s (failed n img.digest e)) ∧
        (¬stuck → config = none → floor → Does c s (failed n img.digest 0x26)) ∧
        (¬stuck → config = none → ¬floor → ¬testOk → Does c s (failed n img.digest 0x27)) ∧
        (¬stuck → config = none → ¬floor → testOk → env.loopMisses ≠ 0 → Does c s (failed n img.digest 0x28)) ∧
        (¬stuck → config = none → ¬floor → testOk → env.loopMisses = 0 → Does c s (fun t => counted t ∧ t.img = img ∧ t.boot.loaded = true ∧
          t.boot.half = h ∧ t.boot.fails = n ∧ t.sup.mode = s.sup.mode ∧ t.sup.phase = (if img.plan.mode ≠ .single ∧ env.peerLow = false then .roleWait else .waitT0) ∧
          t.cmp.testDone = true ∧ t.cmp.testPass = true ∧ t.lpe.testDone = true ∧ t.lpe.testPass = true ∧ t.cyc.code = tputs 0 [] img.code ∧ t.evr.running = true ∧
          (∀ p ∈ img.slotsCfg, (tget {} t.saf.slots p.1).st = .demanded) ∧ (s.pnw.imageKeys = [] → img.pubkey ∈ t.pnw.imageKeys)))))) ∧
  (∀ (env : StartEnv) (s : State),
    let starting := s.sup.phase = .starting ∧ s.sup.lastClass = .w
    let passes := env.flashReadOk = true ∧ (env.cmpTest.dead = 0 ∧ env.cmpTest.unequal = 0) ∧ env.loopMisses = 0
    (¬starting → exec (.warmStartSequence env) s = .next s) ∧
    (starting → ¬passes → Does (.warmStartSequence env) s (fun t => t.sup.mode = .start ∧ t.sup.phase = .entry .s 0x10 ∧ t.boot.fails = s.boot.fails)) ∧
    (starting → passes → Does (.warmStartSequence env) s (fun t => t.sup.phase = (if s.pst.member = true ∧ env.peerLow = false then .roleWait else .waitT0) ∧
      t.img = s.img ∧ t.tim = { s.tim with tj := env.tjDeciC, vcore := BitVec.ofNat 10 s.img.vunshedMv } ∧ t.boot.starts = s.boot.starts ∧ t.boot.fails = s.boot.fails ∧ t.cmp.testPass = true ∧ t.evr.running = true))) ∧
  (∀ s : State,
    let waits := (s.sup.phase = .starting ∨ s.sup.phase = .roleWait ∨ s.sup.phase = .waitT0) ∧ s.sup.lastClass ≠ .w
    let m := if s.boot.fails = 3 then 3 else s.boot.fails + 1
    (waits → Does .runNotReached s (fun t => t.boot.fails = m ∧ t.sup.mirrorFails = m ∧ t.boot.failDig = s.img.digest ∧
      (m = 3 → t.sup.mode = .decaf ∧ t.boot.decaf = 0x30) ∧ (m ≠ 3 → t.sup.mode = .start ∧ t.sup.phase = .entry .s 0x12))) ∧
    (¬waits → exec .runNotReached s = .next s) ∧
    (inService s = true → Does .failCountClear s (fun t => t.boot.fails = 0 ∧ t.boot.failDig = 0 ∧ t.sup.mirrorFails = 0 ∧ t.sup.mode = s.sup.mode)) ∧
    (inService s = false → exec .failCountClear s = .next s) ∧
    (∀ r : Req, admits r lvEngineer s = true →
      (s.sup.mode = .decaf → (s.sup.phase = .up) → Does (.leaveDecaf r) s (fun t => t.boot.fails = 2 ∧ t.sup.phase = .entry .s 0x13 ∧ t.sup.mode = .start ∧
        responses r 0 [] s ≠ [] ∧ ∀ e ∈ responses r 0 [] s, e ∈ t.sent)) ∧
      (s.sup.mode ≠ .decaf → Does (.leaveDecaf r) s (Answered r 0x0002 [] s)))) ∧
  (∀ m : SurveyMeas,
    let volt := 10000 ≤ m.aMilliVolt ∧ m.aMilliVolt ≤ 32000
    let k := surveyClass false m
    (volt → m.fallMilliVolt < 500 → k = 2) ∧ (volt → 2000 < m.fallMilliVolt → 3000 ≤ m.loopMicroAmp → m.loopMicroAmp ≤ 23000 → k = 3) ∧
    (¬volt → m.alternates = true → k = 1) ∧ (¬volt → m.milliOhm < 10000 → m.abMicroVolt.natAbs < 200 → k = 1) ∧
    (¬volt → m.alternates = false → m.milliOhm < 60000 → m.steady = true → 200 ≤ m.abMicroVolt.natAbs → -10000 ≤ m.abMicroVolt → m.abMicroVolt ≤ 80000 → k = 6) ∧
    (¬volt → m.alternates = false → 60000 ≤ m.milliOhm → m.milliOhm ≤ 250000 → k = 4) ∧
    (¬volt → m.alternates = false → 600000 ≤ m.milliOhm → m.milliOhm ≤ 2500000 → k = 5) ∧
    (m.alternates = false → m.aMilliVolt.natAbs ≤ 500 → 1000000000 < m.milliOhm → k = 0) ∧
    surveyClass true m = (if k = 1 ∨ k = 4 ∨ k = 5 ∨ k = 6 then 7 else k)) ∧
  (∀ (ch : Fin 96) (m : SurveyMeas) (on : Bool) (s : State),
    let i := ch.val
    let x := surveyOf s i
    let k := surveyClass s.pst.peerLow m
    let may := s.sup.mode = .decaf ∧ (chan s i).frozen = false
    let past := x.cls = 3 ∧ 23000 < m.loopMicroAmp
    let runs := (if k = x.cand then x.agree + 1 else 1)
    let need := if x.cls = 0xF then 3 else 10
    (¬may → exec (.surveyMeasurement ch m) s = .next s ∧ exec (.surveyFastSample ch on) s = .next s) ∧
    (may → Does (.surveyMeasurement ch m) s (fun t => let y := surveyOf t i
      (∀ j, j ≠ i → surveyOf t j = surveyOf s j) ∧
      (past → y.cls = 7 ∧ y.value = surveyValue 7 m) ∧
      (¬past → k = x.cls → y.cls = x.cls ∧ y.value = surveyValue k m ∧ y.agree = 0) ∧
      (¬past → k ≠ x.cls → runs < need → y.cls = x.cls ∧ y.value = x.value ∧ y.cand = k ∧ y.agree = runs) ∧
      (¬past → k ≠ x.cls → need ≤ runs → y.cls = k ∧ y.value = surveyValue k m ∧ y.almValue = false ∧ y.agree = 0))) ∧
    (may → ¬(x.cls = 1 ∨ x.cls = 2) → exec (.surveyFastSample ch on) s = .next s) ∧
    (may → x.cls = 1 ∨ x.cls = 2 → Does (.surveyFastSample ch on) s (fun t => let y := surveyOf t i
      (∀ j, j ≠ i → surveyOf t j = surveyOf s j) ∧ y.state = some on ∧ y.cls = x.cls ∧
      (x.state = some (!on) → y.changedUs = some (nowUs s) ∧ y.almState = true) ∧ (x.state ≠ some (!on) → y.changedUs = x.changedUs) ∧
      y.value = (if x.cls = 1 then (if on then 0x3F800000 else 0) else x.value))))

/-- An Engineer request in Run, Commissioning, Hold or Decaf, naming a half that is not loaded, with the writer free or its
own, is served; otherwise it is 0x0002 (also where the flash does not answer), 0x0003 or 0x0008 (model's choice, log
87). Begin erases the half's control block and takes the writer. Data is taken in ascending order within the limit, its
new sectors erased first, answered with its offset; while the last segment is programmed it is busy. Commit reads the
half back: a refused image is 0x000D with its reason and gets no control block; a right one gets a control block with a
GEN above the loaded half's and ends the writer. Abort ends it, the half invalid. COMMIT_RESTART resets after a commit
in Decaf; the other half is made the higher GEN, then a reset of class S. (R328, R333, R428, R430, R435, R442, R447,
R448, R449) -/
def Obligations.ImageWriter : Prop :=
  (∀ (r : Req) (h : Fin 2) (off : Word) (bs : List Byte) (prog : Bool) (s : State), admits r lvEngineer s = true →
    let b := s.boot
    let mbit := b.flashMbit
    let cmds := [Instr.imageWriteBegin r h, .imageWriteData r h off bs prog, .imageWriteCommit r h, .imageWriteAbort r h]
    let serves := (inService s = true ∨ s.sup.mode = .decaf) ∧ b.flashOk = true
    let half := if h.val = 0 then b.h0 else b.h1
    let mine := ∀ w, b.writer = some w → w.sess = r.sess
    let tells := fun (c : Instr) (st : BitVec 16) (body : List Byte) => Does c s (fun t => Answered r st body s t ∧ t.flash = s.flash ∧ t.boot = s.boot)
    (¬serves → ∀ c ∈ cmds, tells c 0x0002 []) ∧
    (serves → half.loaded = true → ∀ c ∈ cmds, tells c 0x0003 []) ∧
    (serves → half.loaded = false → ¬mine → ∀ c ∈ cmds, tells c 0x0008 []) ∧
    (serves → half.loaded = false → mine →
      (∀ f, s.flash = some f → Does (.imageWriteBegin r h) s (fun t => Answered r 0 [] s t ∧ t.boot.writer = some { sess := r.sess, half := h.val } ∧
        (halfOf t.boot h.val).valid = false ∧ (halfOf t.boot (1 - h.val)) = halfOf b (1 - h.val) ∧
        ∃ g, t.flash = some g ∧ (∀ a, ctrlAt mbit h.val ≤ a → a < ctrlAt mbit h.val + 4096 → flashByte g a = 0xFF) ∧
          ∀ a, a < ctrlAt mbit h.val ∨ ctrlAt mbit h.val + 4096 ≤ a → flashByte g a = flashByte f a)) ∧
      (b.writer = none → tells (.imageWriteData r h off bs prog) 0x0002 [] ∧ tells (.imageWriteCommit r h) 0x0002 [] ∧ tells (.imageWriteAbort r h) 0x0002 []) ∧
      (∀ w, b.writer = some w →
        (w.half ≠ h.val → tells (.imageWriteData r h off bs prog) 0x0002 [] ∧ (s.flash.isSome = true → tells (.imageWriteCommit r h) 0x0002 []) ∧ tells (.imageWriteAbort r h) 0x0002 []) ∧
        (w.half = h.val →
          let fits := bs.length ≤ 1024 ∧ w.next ≤ off.toNat ∧ off.toNat + bs.length ≤ halfLimit mbit
          let base := h.val * halfSize mbit
          (prog = true → tells (.imageWriteData r h off bs prog) 0x0008 []) ∧
          (prog = false → ¬fits → tells (.imageWriteData r h off bs prog) 0x0005 []) ∧
          (prog = false → fits → bs = [] → tells (.imageWriteData r h off bs prog) 0 (Word.bytes off)) ∧
          (∀ f, s.flash = some f → prog = false → fits → bs ≠ [] → Does (.imageWriteData r h off bs prog) s (fun t => Answered r 0 (Word.bytes off) s t ∧
            (∃ v, t.boot.writer = some v ∧ v.sess = w.sess ∧ v.half = w.half ∧ v.next = off.toNat + bs.length ∧ w.erased ≤ v.erased) ∧
            ∃ g, t.flash = some g ∧ (∀ k, k < bs.length → flashByte g (base + off.toNat + k) = bs.getD k 0) ∧
              (∀ a, a < base + 4096 * (max w.erased (off.toNat / 4096)) → a < base + off.toNat → flashByte g a = flashByte f a) ∧
              (∀ a, base + 4096 * ((off.toNat + bs.length - 1) / 4096 + 1) ≤ a → flashByte g a = flashByte f a))) ∧
          (∀ f, s.flash = some f →
            (∀ e, readImage s f mbit h.val none = .error e → tells (.imageWriteCommit r h) 0x000D [e]) ∧
            (∀ img, readImage s f mbit h.val none = .ok img →
              let gen := if b.loaded then (halfOf b b.half).gen.toNat + 1 else 1
              Does (.imageWriteCommit r h) s (fun t => Answered r 0 [] s t ∧ t.boot.writer = none ∧ t.boot.evt = setBit b.evt 3 ∧
                t.boot.commitDue = (b.commitDue || s.sup.mode == .decaf) ∧ (halfOf t.boot h.val).valid = true ∧ (halfOf t.boot h.val).gen = BitVec.ofNat 32 gen ∧
                ∃ g dig, t.flash = some g ∧ dig.length = 32 ∧ flashBytes g (ctrlAt mbit h.val) 52 = ctrlBytes gen img.len dig ∧
                  ∀ a, a < ctrlAt mbit h.val ∨ ctrlAt mbit h.val + 4096 ≤ a → flashByte g a = flashByte f a))) ∧
          Does (.imageWriteAbort r h) s (fun t => Answered r 0 [] s t ∧ t.boot.writer = none ∧ t.boot.evt = setBit b.evt 4 ∧ t.flash = s.flash))))) ∧
  (∀ s : State,
    let due := s.boot.commitDue = true ∧ s.sup.mode = .decaf
    (due → s.sup.phase = .up → Does .commitRestart s (fun t => t.sup.phase = .entry .s 0x13 ∧ t.sup.mode = .start)) ∧
    (¬due → exec .commitRestart s = .next s) ∧
    (∀ r : Req, admits r lvEngineer s = true →
      let h := 1 - s.boot.half
      let can := fun f => s.flash = some f ∧ s.boot.flashOk = true ∧ s.boot.loaded = true ∧ (readCtrl f s.boot.flashMbit h).valid = true
      ((∀ f, ¬can f) → Does (.restartOtherImageHalf r) s (fun t => Answered r 0x0002 [] s t ∧ t.flash = s.flash)) ∧
      (∀ f, can f → s.sup.phase = .up → Does (.restartOtherImageHalf r) s (fun t => responses r 0 [] s ≠ [] ∧ (∀ e ∈ responses r 0 [] s, e ∈ t.sent) ∧ t.sup.mode = .start ∧
        t.sup.phase = .entry .s (if s.sup.mode = .decaf then 0x13 else 0x11) ∧
        ∃ g, t.flash = some g ∧ flashBytes g (ctrlAt s.boot.flashMbit h) 52 = ctrlBytes ((halfOf s.boot s.boot.half).gen.toNat + 1)
          (readCtrl f s.boot.flashMbit h).len (readCtrl f s.boot.flashMbit h).digest))))

end
end

