-- ==== Sys2Proof/Laws/Changes.lean ====
section
/-! SUPPORT. How `Changes` composes: along a chain of operations, through conditions and lists. -/

namespace Sys2Proof.Machine

theorem Changes.refl {T : List Part} {s : State} : Changes T s s := by
  intro p _; cases p <;> rfl

theorem Part.same.trans {p : Part} {s t u : State} (h : p.same s t) (k : p.same t u) : p.same s u := by
  cases p <;> exact Eq.trans k h

theorem not_contains_of_sub {A T : List Part} (h : subParts A T = true) {p : Part} (hp : T.contains p = false) :
    A.contains p = false := by
  cases hA : A.contains p with
  | false => rfl
  | true =>
    simp only [subParts, List.all_eq_true] at h
    have := h p (by simpa using hA)
    simp_all

/-- A step that changes only parts of `A ⊆ T`, after one that changes only parts of `T`. -/
theorem Changes.comp {A T : List Part} {s t u : State} (h : Changes A t u) (hs : subParts A T = true) (h0 : Changes T s t) :
    Changes T s u := fun p hp => (h0 p hp).trans (h p (not_contains_of_sub hs hp))

theorem Changes.mono {A T : List Part} {s t : State} (h : Changes A s t) (hs : subParts A T = true) : Changes T s t :=
  fun p hp => h p (not_contains_of_sub hs hp)

/-- A step that keeps to `T` after one that keeps to `T`. -/
theorem Changes.app {T : List Part} {s t u : State} (h : Changes T t u) (h0 : Changes T s t) : Changes T s u :=
  fun p hp => (h0 p hp).trans (h p hp)

theorem subParts_trans {A B T : List Part} (h : subParts A B = true) (k : subParts B T = true) : subParts A T = true := by
  simp only [subParts, List.all_eq_true] at *
  intro p hp
  exact k p (by simpa using h p hp)

/-- The same of a result that carries the state beside an answer. -/
def ChangesW {α : Type} (T : List Part) (s : State) (w : α × State) : Prop := Changes T s w.2

theorem ChangesW.snd {α : Type} {T : List Part} {s : State} {w : α × State} (h : ChangesW T s w) : Changes T s w.2 := h

theorem ChangesW.comp {α : Type} {A T : List Part} {s t : State} {w : α × State} (h : ChangesW A t w)
    (hs : subParts A T = true) (h0 : Changes T s t) : ChangesW T s w := Changes.comp h hs h0

theorem ChangesW.app {α : Type} {T : List Part} {s t : State} {w : α × State} (h : ChangesW T t w) (h0 : Changes T s t) :
    ChangesW T s w := Changes.app h h0

theorem ChangesW.ite {α : Type} {T : List Part} {s : State} {a b : α × State} {c : Prop} [Decidable c]
    (ha : c → ChangesW T s a) (hb : ¬c → ChangesW T s b) : ChangesW T s (if c then a else b) := by
  split
  · exact ha ‹_›
  · exact hb ‹_›

theorem ChangesW.dite {α : Type} {T : List Part} {s : State} {c : Prop} [Decidable c] {a : c → α × State}
    {b : ¬c → α × State} (ha : ∀ h, ChangesW T s (a h)) (hb : ∀ h, ChangesW T s (b h)) :
    ChangesW T s (if h : c then a h else b h) := by
  split
  · exact ha _
  · exact hb _

theorem ChangesW.pair {α : Type} {T : List Part} {s t : State} {st : α} (h : Changes T s t) : ChangesW T s (st, t) := h

theorem ChangesW.done {T : List Part} {s t : State} (h : Changes T s t) : ChangesW T s (Machine.done t) := h

theorem ChangesW.refuse {T : List Part} {s t : State} {st : BitVec 16} (h : Changes T s t) :
    ChangesW T s (Machine.refuse st t) := h

theorem Changes.ite {T : List Part} {s a b : State} {c : Prop} [Decidable c] (ha : c → Changes T s a)
    (hb : ¬c → Changes T s b) : Changes T s (if c then a else b) := by
  split
  · exact ha ‹_›
  · exact hb ‹_›

theorem Changes.dite {T : List Part} {s : State} {c : Prop} [Decidable c] {a : c → State} {b : ¬c → State}
    (ha : ∀ h, Changes T s (a h)) (hb : ∀ h, Changes T s (b h)) : Changes T s (if h : c then a h else b h) := by
  split
  · exact ha _
  · exact hb _

theorem Changes.each {α : Type} {T : List Part} {s t : State} {f : α → State → State} {l : List α}
    (hf : ∀ a u, Changes T u (f a u)) (h0 : Changes T s t) : Changes T s (forEach l f t) := by
  unfold forEach
  induction l generalizing t with
  | nil => exact h0
  | cons a l ih =>
    refine ih (fun p hp => (h0 p hp).trans (hf a t p hp))

/-- A record update of a state reached by changes of `T` changes at most the parts updated. -/
theorem Changes.upd {T : List Part} {s0 x : State} {id' : Ident} {img' : Image} {flash' : Option Flash} {sup' : Sup} {tim' : Tim} {nibA' : LaneSt} {nibB' : LaneSt} {cyc' : Cyc} {cmp' : Cmp} {lpe' : Lpe} {fch' : Fch} {saf' : Saf} {alm' : Alm} {pst' : Pst} {frg' : Frg} {pnw' : Pnw} {evr' : Evr} {cvu' : Cvu} {chop' : Chop} {mtr' : Mtr} {mtrLanes' : Mtr} {dsp' : Dsp} {boot' : Boot} {sent' : List Emit} {free' : Nat}
    (h0 : Changes T s0 x)
    (h_id : T.contains .id = true ∨ id' = x.id)
    (h_img : T.contains .img = true ∨ img' = x.img)
    (h_flash : T.contains .flash = true ∨ flash' = x.flash)
    (h_sup : T.contains .sup = true ∨ sup' = x.sup)
    (h_tim : T.contains .tim = true ∨ tim' = x.tim)
    (h_nibA : T.contains .nibA = true ∨ nibA' = x.nibA)
    (h_nibB : T.contains .nibB = true ∨ nibB' = x.nibB)
    (h_cyc : T.contains .cyc = true ∨ cyc' = x.cyc)
    (h_cmp : T.contains .cmp = true ∨ cmp' = x.cmp)
    (h_lpe : T.contains .lpe = true ∨ lpe' = x.lpe)
    (h_fch : T.contains .fch = true ∨ fch' = x.fch)
    (h_saf : T.contains .saf = true ∨ saf' = x.saf)
    (h_alm : T.contains .alm = true ∨ alm' = x.alm)
    (h_pst : T.contains .pst = true ∨ pst' = x.pst)
    (h_frg : T.contains .frg = true ∨ frg' = x.frg)
    (h_pnw : T.contains .pnw = true ∨ pnw' = x.pnw)
    (h_evr : T.contains .evr = true ∨ evr' = x.evr)
    (h_cvu : T.contains .cvu = true ∨ cvu' = x.cvu)
    (h_chop : T.contains .chop = true ∨ chop' = x.chop)
    (h_mtr : T.contains .mtr = true ∨ mtr' = x.mtr)
    (h_mtrLanes : T.contains .mtrLanes = true ∨ mtrLanes' = x.mtrLanes)
    (h_dsp : T.contains .dsp = true ∨ dsp' = x.dsp)
    (h_boot : T.contains .boot = true ∨ boot' = x.boot)
    (h_sent : T.contains .sent = true ∨ sent' = x.sent)
    (h_free : T.contains .free = true ∨ free' = x.free) :
    Changes T s0 (State.mk x.pending id' img' flash' sup' tim' nibA' nibB' cyc' cmp' lpe' fch' saf' alm' pst' frg' pnw' evr' cvu' chop' mtr' mtrLanes' dsp' boot' sent' free') := by
  intro p hp
  cases p
  · exact h0 .pending hp
  · exact h_id.elim (fun h => absurd (h.symm.trans hp) (by decide)) (fun h => Eq.trans h (h0 .id hp))
  · exact h_img.elim (fun h => absurd (h.symm.trans hp) (by decide)) (fun h => Eq.trans h (h0 .img hp))
  · exact h_flash.elim (fun h => absurd (h.symm.trans hp) (by decide)) (fun h => Eq.trans h (h0 .flash hp))
  · exact h_sup.elim (fun h => absurd (h.symm.trans hp) (by decide)) (fun h => Eq.trans h (h0 .sup hp))
  · exact h_tim.elim (fun h => absurd (h.symm.trans hp) (by decide)) (fun h => Eq.trans h (h0 .tim hp))
  · exact h_nibA.elim (fun h => absurd (h.symm.trans hp) (by decide)) (fun h => Eq.trans h (h0 .nibA hp))
  · exact h_nibB.elim (fun h => absurd (h.symm.trans hp) (by decide)) (fun h => Eq.trans h (h0 .nibB hp))
  · exact h_cyc.elim (fun h => absurd (h.symm.trans hp) (by decide)) (fun h => Eq.trans h (h0 .cyc hp))
  · exact h_cmp.elim (fun h => absurd (h.symm.trans hp) (by decide)) (fun h => Eq.trans h (h0 .cmp hp))
  · exact h_lpe.elim (fun h => absurd (h.symm.trans hp) (by decide)) (fun h => Eq.trans h (h0 .lpe hp))
  · exact h_fch.elim (fun h => absurd (h.symm.trans hp) (by decide)) (fun h => Eq.trans h (h0 .fch hp))
  · exact h_saf.elim (fun h => absurd (h.symm.trans hp) (by decide)) (fun h => Eq.trans h (h0 .saf hp))
  · exact h_alm.elim (fun h => absurd (h.symm.trans hp) (by decide)) (fun h => Eq.trans h (h0 .alm hp))
  · exact h_pst.elim (fun h => absurd (h.symm.trans hp) (by decide)) (fun h => Eq.trans h (h0 .pst hp))
  · exact h_frg.elim (fun h => absurd (h.symm.trans hp) (by decide)) (fun h => Eq.trans h (h0 .frg hp))
  · exact h_pnw.elim (fun h => absurd (h.symm.trans hp) (by decide)) (fun h => Eq.trans h (h0 .pnw hp))
  · exact h_evr.elim (fun h => absurd (h.symm.trans hp) (by decide)) (fun h => Eq.trans h (h0 .evr hp))
  · exact h_cvu.elim (fun h => absurd (h.symm.trans hp) (by decide)) (fun h => Eq.trans h (h0 .cvu hp))
  · exact h_chop.elim (fun h => absurd (h.symm.trans hp) (by decide)) (fun h => Eq.trans h (h0 .chop hp))
  · exact h_mtr.elim (fun h => absurd (h.symm.trans hp) (by decide)) (fun h => Eq.trans h (h0 .mtr hp))
  · exact h_mtrLanes.elim (fun h => absurd (h.symm.trans hp) (by decide)) (fun h => Eq.trans h (h0 .mtrLanes hp))
  · exact h_dsp.elim (fun h => absurd (h.symm.trans hp) (by decide)) (fun h => Eq.trans h (h0 .dsp hp))
  · exact h_boot.elim (fun h => absurd (h.symm.trans hp) (by decide)) (fun h => Eq.trans h (h0 .boot hp))
  · exact h_sent.elim (fun h => absurd (h.symm.trans hp) (by decide)) (fun h => Eq.trans h (h0 .sent hp))
  · exact h_free.elim (fun h => absurd (h.symm.trans hp) (by decide)) (fun h => Eq.trans h (h0 .free hp))

end Sys2Proof.Machine
end

