-- ==== Sys2Proof/Laws/Frames.lean ====
section
/-! SUPPORT. Which parts of the state each operation may change. -/

namespace Sys2Proof.Machine

theorem onSup_changes (f : Sup → Sup) (s : State) : Changes [.sup] s (onSup f s) := by
  unfold onSup
  exact .upd (.refl) (.inr rfl) (.inr rfl) (.inr rfl) (.inl rfl) (.inr rfl) (.inr rfl) (.inr rfl) (.inr rfl) (.inr rfl) (.inr rfl) (.inr rfl) (.inr rfl) (.inr rfl) (.inr rfl) (.inr rfl) (.inr rfl) (.inr rfl) (.inr rfl) (.inr rfl) (.inr rfl) (.inr rfl) (.inr rfl) (.inr rfl) (.inr rfl) (.inr rfl)

theorem onTim_changes (f : Tim → Tim) (s : State) : Changes [.tim] s (onTim f s) := by
  unfold onTim
  exact .upd (.refl) (.inr rfl) (.inr rfl) (.inr rfl) (.inr rfl) (.inl rfl) (.inr rfl) (.inr rfl) (.inr rfl) (.inr rfl) (.inr rfl) (.inr rfl) (.inr rfl) (.inr rfl) (.inr rfl) (.inr rfl) (.inr rfl) (.inr rfl) (.inr rfl) (.inr rfl) (.inr rfl) (.inr rfl) (.inr rfl) (.inr rfl) (.inr rfl) (.inr rfl)

theorem onCyc_changes (f : Cyc → Cyc) (s : State) : Changes [.cyc] s (onCyc f s) := by
  unfold onCyc
  exact .upd (.refl) (.inr rfl) (.inr rfl) (.inr rfl) (.inr rfl) (.inr rfl) (.inr rfl) (.inr rfl) (.inl rfl) (.inr rfl) (.inr rfl) (.inr rfl) (.inr rfl) (.inr rfl) (.inr rfl) (.inr rfl) (.inr rfl) (.inr rfl) (.inr rfl) (.inr rfl) (.inr rfl) (.inr rfl) (.inr rfl) (.inr rfl) (.inr rfl) (.inr rfl)

theorem onCmp_changes (f : Cmp → Cmp) (s : State) : Changes [.cmp] s (onCmp f s) := by
  unfold onCmp
  exact .upd (.refl) (.inr rfl) (.inr rfl) (.inr rfl) (.inr rfl) (.inr rfl) (.inr rfl) (.inr rfl) (.inr rfl) (.inl rfl) (.inr rfl) (.inr rfl) (.inr rfl) (.inr rfl) (.inr rfl) (.inr rfl) (.inr rfl) (.inr rfl) (.inr rfl) (.inr rfl) (.inr rfl) (.inr rfl) (.inr rfl) (.inr rfl) (.inr rfl) (.inr rfl)

theorem onLpe_changes (f : Lpe → Lpe) (s : State) : Changes [.lpe] s (onLpe f s) := by
  unfold onLpe
  exact .upd (.refl) (.inr rfl) (.inr rfl) (.inr rfl) (.inr rfl) (.inr rfl) (.inr rfl) (.inr rfl) (.inr rfl) (.inr rfl) (.inl rfl) (.inr rfl) (.inr rfl) (.inr rfl) (.inr rfl) (.inr rfl) (.inr rfl) (.inr rfl) (.inr rfl) (.inr rfl) (.inr rfl) (.inr rfl) (.inr rfl) (.inr rfl) (.inr rfl) (.inr rfl)

theorem onFch_changes (f : Fch → Fch) (s : State) : Changes [.fch] s (onFch f s) := by
  unfold onFch
  exact .upd (.refl) (.inr rfl) (.inr rfl) (.inr rfl) (.inr rfl) (.inr rfl) (.inr rfl) (.inr rfl) (.inr rfl) (.inr rfl) (.inr rfl) (.inl rfl) (.inr rfl) (.inr rfl) (.inr rfl) (.inr rfl) (.inr rfl) (.inr rfl) (.inr rfl) (.inr rfl) (.inr rfl) (.inr rfl) (.inr rfl) (.inr rfl) (.inr rfl) (.inr rfl)

theorem onSaf_changes (f : Saf → Saf) (s : State) : Changes [.saf] s (onSaf f s) := by
  unfold onSaf
  exact .upd (.refl) (.inr rfl) (.inr rfl) (.inr rfl) (.inr rfl) (.inr rfl) (.inr rfl) (.inr rfl) (.inr rfl) (.inr rfl) (.inr rfl) (.inr rfl) (.inl rfl) (.inr rfl) (.inr rfl) (.inr rfl) (.inr rfl) (.inr rfl) (.inr rfl) (.inr rfl) (.inr rfl) (.inr rfl) (.inr rfl) (.inr rfl) (.inr rfl) (.inr rfl)

theorem onAlm_changes (f : Alm → Alm) (s : State) : Changes [.alm] s (onAlm f s) := by
  unfold onAlm
  exact .upd (.refl) (.inr rfl) (.inr rfl) (.inr rfl) (.inr rfl) (.inr rfl) (.inr rfl) (.inr rfl) (.inr rfl) (.inr rfl) (.inr rfl) (.inr rfl) (.inr rfl) (.inl rfl) (.inr rfl) (.inr rfl) (.inr rfl) (.inr rfl) (.inr rfl) (.inr rfl) (.inr rfl) (.inr rfl) (.inr rfl) (.inr rfl) (.inr rfl) (.inr rfl)

theorem onPst_changes (f : Pst → Pst) (s : State) : Changes [.pst] s (onPst f s) := by
  unfold onPst
  exact .upd (.refl) (.inr rfl) (.inr rfl) (.inr rfl) (.inr rfl) (.inr rfl) (.inr rfl) (.inr rfl) (.inr rfl) (.inr rfl) (.inr rfl) (.inr rfl) (.inr rfl) (.inr rfl) (.inl rfl) (.inr rfl) (.inr rfl) (.inr rfl) (.inr rfl) (.inr rfl) (.inr rfl) (.inr rfl) (.inr rfl) (.inr rfl) (.inr rfl) (.inr rfl)

theorem onFrg_changes (f : Frg → Frg) (s : State) : Changes [.frg] s (onFrg f s) := by
  unfold onFrg
  exact .upd (.refl) (.inr rfl) (.inr rfl) (.inr rfl) (.inr rfl) (.inr rfl) (.inr rfl) (.inr rfl) (.inr rfl) (.inr rfl) (.inr rfl) (.inr rfl) (.inr rfl) (.inr rfl) (.inr rfl) (.inl rfl) (.inr rfl) (.inr rfl) (.inr rfl) (.inr rfl) (.inr rfl) (.inr rfl) (.inr rfl) (.inr rfl) (.inr rfl) (.inr rfl)

theorem onPnw_changes (f : Pnw → Pnw) (s : State) : Changes [.pnw] s (onPnw f s) := by
  unfold onPnw
  exact .upd (.refl) (.inr rfl) (.inr rfl) (.inr rfl) (.inr rfl) (.inr rfl) (.inr rfl) (.inr rfl) (.inr rfl) (.inr rfl) (.inr rfl) (.inr rfl) (.inr rfl) (.inr rfl) (.inr rfl) (.inr rfl) (.inl rfl) (.inr rfl) (.inr rfl) (.inr rfl) (.inr rfl) (.inr rfl) (.inr rfl) (.inr rfl) (.inr rfl) (.inr rfl)

theorem onEvr_changes (f : Evr → Evr) (s : State) : Changes [.evr] s (onEvr f s) := by
  unfold onEvr
  exact .upd (.refl) (.inr rfl) (.inr rfl) (.inr rfl) (.inr rfl) (.inr rfl) (.inr rfl) (.inr rfl) (.inr rfl) (.inr rfl) (.inr rfl) (.inr rfl) (.inr rfl) (.inr rfl) (.inr rfl) (.inr rfl) (.inr rfl) (.inl rfl) (.inr rfl) (.inr rfl) (.inr rfl) (.inr rfl) (.inr rfl) (.inr rfl) (.inr rfl) (.inr rfl)

theorem onCvu_changes (f : Cvu → Cvu) (s : State) : Changes [.cvu] s (onCvu f s) := by
  unfold onCvu
  exact .upd (.refl) (.inr rfl) (.inr rfl) (.inr rfl) (.inr rfl) (.inr rfl) (.inr rfl) (.inr rfl) (.inr rfl) (.inr rfl) (.inr rfl) (.inr rfl) (.inr rfl) (.inr rfl) (.inr rfl) (.inr rfl) (.inr rfl) (.inr rfl) (.inl rfl) (.inr rfl) (.inr rfl) (.inr rfl) (.inr rfl) (.inr rfl) (.inr rfl) (.inr rfl)

theorem onChop_changes (f : Chop → Chop) (s : State) : Changes [.chop] s (onChop f s) := by
  unfold onChop
  exact .upd (.refl) (.inr rfl) (.inr rfl) (.inr rfl) (.inr rfl) (.inr rfl) (.inr rfl) (.inr rfl) (.inr rfl) (.inr rfl) (.inr rfl) (.inr rfl) (.inr rfl) (.inr rfl) (.inr rfl) (.inr rfl) (.inr rfl) (.inr rfl) (.inr rfl) (.inl rfl) (.inr rfl) (.inr rfl) (.inr rfl) (.inr rfl) (.inr rfl) (.inr rfl)

theorem onMtr_changes (f : Mtr → Mtr) (s : State) : Changes [.mtr] s (onMtr f s) := by
  unfold onMtr
  exact .upd (.refl) (.inr rfl) (.inr rfl) (.inr rfl) (.inr rfl) (.inr rfl) (.inr rfl) (.inr rfl) (.inr rfl) (.inr rfl) (.inr rfl) (.inr rfl) (.inr rfl) (.inr rfl) (.inr rfl) (.inr rfl) (.inr rfl) (.inr rfl) (.inr rfl) (.inr rfl) (.inl rfl) (.inr rfl) (.inr rfl) (.inr rfl) (.inr rfl) (.inr rfl)

theorem onBoot_changes (f : Boot → Boot) (s : State) : Changes [.boot] s (onBoot f s) := by
  unfold onBoot
  exact .upd (.refl) (.inr rfl) (.inr rfl) (.inr rfl) (.inr rfl) (.inr rfl) (.inr rfl) (.inr rfl) (.inr rfl) (.inr rfl) (.inr rfl) (.inr rfl) (.inr rfl) (.inr rfl) (.inr rfl) (.inr rfl) (.inr rfl) (.inr rfl) (.inr rfl) (.inr rfl) (.inr rfl) (.inr rfl) (.inr rfl) (.inl rfl) (.inr rfl) (.inr rfl)

theorem setChan_changes (i : ℕ) (f : Chan → Chan) (s : State) : Changes [.fch] s (setChan i f s) := by
  unfold setChan
  exact .upd (.refl) (.inr rfl) (.inr rfl) (.inr rfl) (.inr rfl) (.inr rfl) (.inr rfl) (.inr rfl) (.inr rfl) (.inr rfl) (.inr rfl) (.inl rfl) (.inr rfl) (.inr rfl) (.inr rfl) (.inr rfl) (.inr rfl) (.inr rfl) (.inr rfl) (.inr rfl) (.inr rfl) (.inr rfl) (.inr rfl) (.inr rfl) (.inr rfl) (.inr rfl)

theorem setGrp_changes (g : ℕ) (f : Group → Group) (s : State) : Changes [.fch] s (setGrp g f s) := by
  unfold setGrp
  exact .upd (.refl) (.inr rfl) (.inr rfl) (.inr rfl) (.inr rfl) (.inr rfl) (.inr rfl) (.inr rfl) (.inr rfl) (.inr rfl) (.inr rfl) (.inl rfl) (.inr rfl) (.inr rfl) (.inr rfl) (.inr rfl) (.inr rfl) (.inr rfl) (.inr rfl) (.inr rfl) (.inr rfl) (.inr rfl) (.inr rfl) (.inr rfl) (.inr rfl) (.inr rfl)

theorem emit_changes (e : Emit) (s : State) : Changes [.sent] s (emit e s) := by
  unfold emit
  exact .upd (.refl) (.inr rfl) (.inr rfl) (.inr rfl) (.inr rfl) (.inr rfl) (.inr rfl) (.inr rfl) (.inr rfl) (.inr rfl) (.inr rfl) (.inr rfl) (.inr rfl) (.inr rfl) (.inr rfl) (.inr rfl) (.inr rfl) (.inr rfl) (.inr rfl) (.inr rfl) (.inr rfl) (.inr rfl) (.inr rfl) (.inr rfl) (.inl rfl) (.inr rfl)

theorem takeFree_changes (s : State) : Changes [.free] s (takeFree s) := by
  unfold takeFree
  exact .upd (.refl) (.inr rfl) (.inr rfl) (.inr rfl) (.inr rfl) (.inr rfl) (.inr rfl) (.inr rfl) (.inr rfl) (.inr rfl) (.inr rfl) (.inr rfl) (.inr rfl) (.inr rfl) (.inr rfl) (.inr rfl) (.inr rfl) (.inr rfl) (.inr rfl) (.inr rfl) (.inr rfl) (.inr rfl) (.inr rfl) (.inr rfl) (.inr rfl) (.inl rfl)

theorem startFlush_changes (s : State) : Changes [.evr] s (startFlush s) := by
  unfold startFlush
  exact .upd (.refl) (.inr rfl) (.inr rfl) (.inr rfl) (.inr rfl) (.inr rfl) (.inr rfl) (.inr rfl) (.inr rfl) (.inr rfl) (.inr rfl) (.inr rfl) (.inr rfl) (.inr rfl) (.inr rfl) (.inr rfl) (.inr rfl) (.inl rfl) (.inr rfl) (.inr rfl) (.inr rfl) (.inr rfl) (.inr rfl) (.inr rfl) (.inr rfl) (.inr rfl)

theorem pushRec_changes (mk : Word → Rec) (s : State) : Changes [.evr] s (pushRec mk s) := by
  unfold pushRec
  exact .ite (fun _ => .upd (.refl) (.inr rfl) (.inr rfl) (.inr rfl) (.inr rfl) (.inr rfl) (.inr rfl) (.inr rfl) (.inr rfl) (.inr rfl) (.inr rfl) (.inr rfl) (.inr rfl) (.inr rfl) (.inr rfl) (.inr rfl) (.inr rfl) (.inl rfl) (.inr rfl) (.inr rfl) (.inr rfl) (.inr rfl) (.inr rfl) (.inr rfl) (.inr rfl) (.inr rfl)) (fun _ => .app (.ite (fun _ => .comp (startFlush_changes _) rfl (.refl)) (fun _ => .refl)) (.upd (.refl) (.inr rfl) (.inr rfl) (.inr rfl) (.inr rfl) (.inr rfl) (.inr rfl) (.inr rfl) (.inr rfl) (.inr rfl) (.inr rfl) (.inr rfl) (.inr rfl) (.inr rfl) (.inr rfl) (.inr rfl) (.inr rfl) (.inl rfl) (.inr rfl) (.inr rfl) (.inr rfl) (.inr rfl) (.inr rfl) (.inr rfl) (.inr rfl) (.inr rfl)))

theorem pushAll_changes (h : PostHead) (vals : List Word) (s : State) : Changes [.evr] s (pushAll h vals s) := by
  unfold pushAll
  exact .each (fun _ _ => .comp (pushRec_changes _ _) rfl (.refl)) (.refl)

theorem postHead_changes (h : PostHead) (vals : List Word) (s : State) : Changes [.evr] s (postHead h vals s) := by
  unfold postHead
  refine .ite (fun _ => .refl) (fun _ => ?_)
  split
  · exact .comp (pushAll_changes _ _ _) rfl .refl
  · exact .ite (fun _ => .comp (pushAll_changes _ _ _) rfl (.upd .refl (.inr rfl) (.inr rfl) (.inr rfl) (.inr rfl) (.inr rfl) (.inr rfl) (.inr rfl) (.inr rfl) (.inr rfl) (.inr rfl) (.inr rfl) (.inr rfl) (.inr rfl) (.inr rfl) (.inr rfl) (.inr rfl) (.inl rfl) (.inr rfl) (.inr rfl) (.inr rfl) (.inr rfl) (.inr rfl) (.inr rfl) (.inr rfl) (.inr rfl))) (fun _ => .upd .refl (.inr rfl) (.inr rfl) (.inr rfl) (.inr rfl) (.inr rfl) (.inr rfl) (.inr rfl) (.inr rfl) (.inr rfl) (.inr rfl) (.inr rfl) (.inr rfl) (.inr rfl) (.inr rfl) (.inr rfl) (.inr rfl) (.inl rfl) (.inr rfl) (.inr rfl) (.inr rfl) (.inr rfl) (.inr rfl) (.inr rfl) (.inr rfl) (.inr rfl))

theorem post_changes (code : ℕ) (inst : ℕ) (vals : List Word) (s : State) : Changes [.evr] s (post code inst vals s) := by
  unfold post
  exact .comp (postHead_changes _ _ _) rfl (.refl)

theorem postCell_changes (code : ℕ) (inst : ℕ) (cell : ℕ) (vals : List Word) (s : State) : Changes [.evr] s (postCell code inst cell vals s) := by
  unfold postCell
  exact .comp (postHead_changes _ _ _) rfl (.refl)

theorem emitLan_changes (e : Emit) (s : State) : Changes [.sent] s (emitLan e s) := by
  unfold emitLan
  exact .comp (emit_changes _ _) rfl (.refl)

theorem reply_changes (r : Req) (st : BitVec 16) (body : List Byte) (s : State) : Changes [.sent] s (reply r st body s) := by
  unfold reply
  exact .ite (fun _ => .refl) (fun _ => (by
   try dsimp only
   split
   · exact .refl
   · exact .comp (emitLan_changes _ _) rfl (.refl)
))

theorem setSession_changes (id : Word) (f : Session → Session) (s : State) : Changes [.pnw] s (setSession id f s) := by
  unfold setSession
  exact .upd (.refl) (.inr rfl) (.inr rfl) (.inr rfl) (.inr rfl) (.inr rfl) (.inr rfl) (.inr rfl) (.inr rfl) (.inr rfl) (.inr rfl) (.inr rfl) (.inr rfl) (.inr rfl) (.inr rfl) (.inr rfl) (.inl rfl) (.inr rfl) (.inr rfl) (.inr rfl) (.inr rfl) (.inr rfl) (.inr rfl) (.inr rfl) (.inr rfl) (.inr rfl)

theorem discardMessage_changes (s : State) : Changes [.pnw] s (discardMessage s) := by
  unfold discardMessage
  exact .upd (.refl) (.inr rfl) (.inr rfl) (.inr rfl) (.inr rfl) (.inr rfl) (.inr rfl) (.inr rfl) (.inr rfl) (.inr rfl) (.inr rfl) (.inr rfl) (.inr rfl) (.inr rfl) (.inr rfl) (.inr rfl) (.inl rfl) (.inr rfl) (.inr rfl) (.inr rfl) (.inr rfl) (.inr rfl) (.inr rfl) (.inr rfl) (.inr rfl) (.inr rfl)

theorem setPnPort_changes (p : ℕ) (f : PnPort → PnPort) (s : State) : Changes [.pnw] s (setPnPort p f s) := by
  unfold setPnPort
  exact .comp (onPnw_changes _ _) rfl (.refl)

theorem noteFrame_changes (f : PrpRx) (s : State) : Changes [.pnw] s (noteFrame f s) := by
  unfold noteFrame
  exact (by
   try dsimp only
   split
   · exact .refl
   · exact .app (.ite (fun _ => .refl) (fun _ => .comp (setPnPort_changes _ _ _) rfl (.refl))) (.comp (onPnw_changes _ _) rfl (.refl))
)

theorem arriving_changes {T : List Part} {f : PrpRx} {k : State → State} {s : State} (hT : subParts [.pnw] T = true) (h_k : ∀ u, Changes T u (k u)) :
    Changes T s (arriving f k s) := by
  unfold arriving
  exact .ite (fun _ => .comp (setPnPort_changes _ _ _) (subParts_trans rfl hT) (.refl)) (fun _ => .ite (fun _ => .refl) (fun _ => .app (h_k _) (.comp (noteFrame_changes _ _) (subParts_trans rfl hT) (.refl))))

theorem relayed_changes {T : List Part} {r : Req} {k : State → State} {s : State} (hT : subParts [.sent] T = true) (h_k : ∀ u, Changes T u (k u)) :
    Changes T s (relayed r k s) := by
  unfold relayed
  exact .ite (fun _ => .comp (emit_changes _ _) (subParts_trans rfl hT) (.refl)) (fun _ => .app (h_k _) (.refl))

theorem screenReq_changes {T : List Part} {r : Req} {lvl : BitVec 2} {decafOk : Bool} {k : State → State} {s : State} (hT : subParts [.pnw, .sent] T = true) (h_k : ∀ u, Changes T u (k u)) :
    Changes T s (screenReq r lvl decafOk k s) := by
  unfold screenReq
  exact .app (arriving_changes (subParts_trans rfl hT) (fun _ => .ite (fun _ => .refl) (fun _ => (by
   try dsimp only
   split
   · exact .comp (discardMessage_changes _) (subParts_trans rfl hT) (.refl)
   · exact .ite (fun _ => .comp (discardMessage_changes _) (subParts_trans rfl hT) (.refl)) (fun _ => .app (.ite (fun _ => .comp (reply_changes _ _ _ _) (subParts_trans rfl hT) (.refl)) (fun _ => .ite (fun _ => .app (relayed_changes (subParts_trans rfl hT) (fun _ => .comp (reply_changes _ _ _ _) (subParts_trans rfl hT) (.refl))) (.refl)) (fun _ => .ite (fun _ => .comp (reply_changes _ _ _ _) (subParts_trans rfl hT) (.refl)) (fun _ => .ite (fun _ => .comp (reply_changes _ _ _ _) (subParts_trans rfl hT) (.refl)) (fun _ => .ite (fun _ => .comp (reply_changes _ _ _ _) (subParts_trans rfl hT) (.refl)) (fun _ => .ite (fun _ => .comp (reply_changes _ _ _ _) (subParts_trans rfl hT) (.refl)) (fun _ => .app (h_k _) (.refl)))))))) (.comp (setSession_changes _ _ _) (subParts_trans rfl hT) (.refl)))
)))) (.refl)

theorem schedule_changes (a : T0Act) (s : State) : Changes [.cyc] s (schedule a s) := by
  unfold schedule
  exact .upd (.refl) (.inr rfl) (.inr rfl) (.inr rfl) (.inr rfl) (.inr rfl) (.inr rfl) (.inr rfl) (.inl rfl) (.inr rfl) (.inr rfl) (.inr rfl) (.inr rfl) (.inr rfl) (.inr rfl) (.inr rfl) (.inr rfl) (.inr rfl) (.inr rfl) (.inr rfl) (.inr rfl) (.inr rfl) (.inr rfl) (.inr rfl) (.inr rfl) (.inr rfl)

theorem setCtx_changes (c : ℕ) (f : Ctx → Ctx) (s : State) : Changes [.cvu] s (setCtx c f s) := by
  unfold setCtx
  exact .comp (onCvu_changes _ _) rfl (.refl)

theorem checkFailed_changes (c : ℕ) (s : State) : Changes [.cvu] s (checkFailed c s) := by
  unfold checkFailed
  exact .comp (onCvu_changes _ _) rfl (.comp (setCtx_changes _ _ _) rfl (.refl))

theorem setSlPort_changes (p : ℕ) (f : SlPort → SlPort) (s : State) : Changes [.pst] s (setSlPort p f s) := by
  unfold setSlPort
  exact .comp (onPst_changes _ _) rfl (.refl)

theorem emits_changes (l : List Emit) (s : State) : Changes [.sent] s (emits l s) := by
  unfold emits
  exact .upd (.refl) (.inr rfl) (.inr rfl) (.inr rfl) (.inr rfl) (.inr rfl) (.inr rfl) (.inr rfl) (.inr rfl) (.inr rfl) (.inr rfl) (.inr rfl) (.inr rfl) (.inr rfl) (.inr rfl) (.inr rfl) (.inr rfl) (.inr rfl) (.inr rfl) (.inr rfl) (.inr rfl) (.inr rfl) (.inr rfl) (.inr rfl) (.inl rfl) (.inr rfl)

theorem slFrame_changes (p : ℕ) (e : Emit) (s : State) : Changes [.pst, .sent] s (slFrame p e s) := by
  unfold slFrame
  exact .comp (emits_changes _ _) rfl (.comp (setSlPort_changes _ _ _) rfl (.refl))

theorem slSend_changes (p : ℕ) (e : Emit) (s : State) : Changes [.pst, .sent] s (slSend p e s) := by
  unfold slSend
  exact .ite (fun _ => .refl) (fun _ => .comp (slFrame_changes _ _ _) rfl (.refl))

theorem noticeGap_changes (old : SlPort) (p : ℕ) (s : State) : Changes [.pst, .sent] s (noticeGap old p s) := by
  unfold noticeGap
  exact .ite (fun _ => .comp (slSend_changes _ _ _) rfl (.comp (onPst_changes _ _) rfl (.refl))) (fun _ => .refl)

theorem slReceive_changes {T : List Part} {p : ℕ} {h : SlHdr} {k : State → State} {bad : State → State} {s : State} (hT : subParts [.pst, .cvu, .sent] T = true) (h_k : ∀ u, Changes T u (k u)) (h_bad : ∀ u, Changes T u (bad u)) :
    Changes T s (slReceive p h k bad s) := by
  unfold slReceive
  exact .ite (fun _ => .app (h_bad _) (.comp (setSlPort_changes _ _ _) (subParts_trans rfl hT) (.comp (checkFailed_changes _ _) (subParts_trans rfl hT) (.refl)))) (fun _ => (by
   try dsimp only
   split
   · exact .refl
   · exact .app (h_k _) (.comp (noticeGap_changes _ _ _) (subParts_trans rfl hT) (.comp (setSlPort_changes _ _ _) (subParts_trans rfl hT) (.refl)))
))

theorem slTook_changes (p : ℕ) (s : State) : Changes [.pst] s (slTook p s) := by
  unfold slTook
  exact (by
   try dsimp only
   split
   · exact .refl
   · exact .comp (setSlPort_changes _ _ _) rfl (.refl)
)

theorem forwardNow_changes (c : FwdCmd) (s : State) : Changes [.pst, .sent] s (forwardNow c s) := by
  unfold forwardNow
  exact .comp (slSend_changes _ _ _) rfl (.refl)

theorem forwardBoth_changes {T : List Part} {o : Origin} {c : FwdCmd} {apply : State → State} {s : State} (hT : subParts [.pst, .sent] T = true) (h_apply : ∀ u, Changes T u (apply u)) :
    Changes T s (forwardBoth o c apply s) := by
  unfold forwardBoth
  exact .app (.comp (A := [.pst]) (.upd .refl (.inr rfl) (.inr rfl) (.inr rfl) (.inr rfl) (.inr rfl) (.inr rfl) (.inr rfl) (.inr rfl) (.inr rfl) (.inr rfl) (.inr rfl) (.inr rfl) (.inr rfl) (.inl rfl) (.inr rfl) (.inr rfl) (.inr rfl) (.inr rfl) (.inr rfl) (.inr rfl) (.inr rfl) (.inr rfl) (.inr rfl) (.inr rfl) (.inr rfl)) (subParts_trans rfl hT) (.refl)) (.comp (forwardNow_changes _ _) (subParts_trans rfl hT) (.ite (fun _ => .app (h_apply _) (.refl)) (fun _ => .refl)))

theorem acceptWith_changes {T : List Part} {r : Req} {body : List Byte} {c : FwdCmd} {apply : State → State} {s : State} (hT : subParts [.pst, .sent] T = true) (h_apply : ∀ u, Changes T u (apply u)) :
    Changes T s (acceptWith r body c apply s) := by
  unfold acceptWith
  exact .ite (fun _ => .app (forwardBoth_changes (subParts_trans rfl hT) (fun _ => .app (h_apply _) (.refl))) (.refl)) (fun _ => .comp (reply_changes _ _ _ _) (subParts_trans rfl hT) (.app (h_apply _) (.refl)))

theorem acceptBoth_changes {T : List Part} {r : Req} {c : FwdCmd} {apply : State → State} {s : State} (hT : subParts [.pst, .sent] T = true) (h_apply : ∀ u, Changes T u (apply u)) :
    Changes T s (acceptBoth r c apply s) := by
  unfold acceptBoth
  exact .app (acceptWith_changes (subParts_trans rfl hT) (fun _ => .app (h_apply _) (.refl))) (.refl)

theorem acceptIf_changes {T : List Part} {r : Req} {ok : Bool} {st : BitVec 16} {k : State → State} {s : State} (hT : subParts [.sent] T = true) (h_k : ∀ u, Changes T u (k u)) :
    Changes T s (acceptIf r ok st k s) := by
  unfold acceptIf
  exact .ite (fun _ => .app (h_k _) (.refl)) (fun _ => .comp (reply_changes _ _ _ _) (subParts_trans rfl hT) (.refl))

theorem doneBoth_changes {T : List Part} {r : Req} {c : FwdCmd} {apply : State → State} {s : State} (hT : subParts [.pst, .sent] T = true) (h_apply : ∀ u, Changes T u (apply u)) :
    ChangesW T s (doneBoth r c apply s) := by
  unfold doneBoth
  exact (.done (.ite (fun _ => .app (forwardBoth_changes (subParts_trans rfl hT) (fun _ => .app (h_apply _) (.refl))) (.refl)) (fun _ => .app (h_apply _) (.refl))))

theorem answer_changes {T : List Part} {r : Req} {f : State → Written} {s : State} (hT : subParts [.sent] T = true) (h_f : ∀ u, ChangesW T u (f u)) :
    Changes T s (answer r f s) := by
  unfold answer
  exact .ite (fun _ => ChangesW.snd (.app (h_f _) (.refl))) (fun _ => .comp (reply_changes _ _ _ _) (subParts_trans rfl hT) (ChangesW.snd (.app (h_f _) (.refl))))

theorem byLevel_changes {T : List Part} {w : Who} {l : BitVec 2} {k : State → Written} {s : State} (hT : subParts [] T = true) (h_k : ∀ u, ChangesW T u (k u)) :
    ChangesW T s (byLevel w l k s) := by
  unfold byLevel
  exact (.ite (fun _ => (.app (h_k _) (.refl))) (fun _ => (.refuse (.refl))))

theorem byLaneOr_changes {T : List Part} {w : Who} {l : BitVec 2} {k : State → Written} {s : State} (hT : subParts [] T = true) (h_k : ∀ u, ChangesW T u (k u)) :
    ChangesW T s (byLaneOr w l k s) := by
  unfold byLaneOr
  exact ((by
   try dsimp only
   split
   · exact (.app (h_k _) (.refl))
   · exact (.app (byLevel_changes (subParts_trans rfl hT) (fun _ => (.app (h_k _) (.refl)))) (.refl))
))

theorem setLane_changes (l : Lane) (f : LaneSt → LaneSt) (s : State) : Changes [.nibA, .nibB] s (setLane l f s) := by
  unfold setLane
  exact (by
   try dsimp only
   split
   · exact .upd (.refl) (.inr rfl) (.inr rfl) (.inr rfl) (.inr rfl) (.inr rfl) (.inl rfl) (.inr rfl) (.inr rfl) (.inr rfl) (.inr rfl) (.inr rfl) (.inr rfl) (.inr rfl) (.inr rfl) (.inr rfl) (.inr rfl) (.inr rfl) (.inr rfl) (.inr rfl) (.inr rfl) (.inr rfl) (.inr rfl) (.inr rfl) (.inr rfl) (.inr rfl)
   · exact .upd (.refl) (.inr rfl) (.inr rfl) (.inr rfl) (.inr rfl) (.inr rfl) (.inr rfl) (.inl rfl) (.inr rfl) (.inr rfl) (.inr rfl) (.inr rfl) (.inr rfl) (.inr rfl) (.inr rfl) (.inr rfl) (.inr rfl) (.inr rfl) (.inr rfl) (.inr rfl) (.inr rfl) (.inr rfl) (.inr rfl) (.inr rfl) (.inr rfl) (.inr rfl)
)

theorem objRefused_changes (s : State) : Changes [.cyc] s (objRefused s) := by
  unfold objRefused
  exact .comp (onCyc_changes _ _) rfl (.refl)

theorem queueForTo_changes (l : Lane) (q : Queued) (s : State) : Changes [.nibA, .nibB] s (queueForTo l q s) := by
  unfold queueForTo
  exact .comp (setLane_changes _ _ _) rfl (.refl)

theorem laneWrites_changes {T : List Part} {l : Lane} {judge : Word → State → Written} {s : State} {p : Word × Word} (hT : subParts [.nibA, .nibB, .cyc] T = true) (h_judge : ∀ a0 u, ChangesW T u (judge a0 u)) :
    Changes T s (laneWrites l judge s p) := by
  unfold laneWrites
  exact .ite (fun _ => .app (.ite (fun _ => .comp (queueForTo_changes _ _ _) (subParts_trans rfl hT) (.refl)) (fun _ => .comp (objRefused_changes _) (subParts_trans rfl hT) (ChangesW.snd (.app (h_judge _ _) (.refl))))) (.comp (setLane_changes _ _ _) (subParts_trans rfl hT) (.refl))) (fun _ => .refl)

theorem sessionWrites_changes {T : List Part} {r : Req} {f : Who → State → Written} {s : State} (hT : subParts [.pnw, .sent] T = true) (h_f : ∀ a0 u, ChangesW T u (f a0 u)) :
    Changes T s (sessionWrites r f s) := by
  unfold sessionWrites
  exact .app (screenReq_changes (subParts_trans rfl hT) (fun _ => .comp (reply_changes _ _ _ _) (subParts_trans rfl hT) (ChangesW.snd (.app (h_f _ _) (.refl))))) (.refl)

theorem regCommand_changes {T : List Part} {p : Path} {a : Word} {v : Word} {f : Who → Word → State → Written} {s : State} (hT : subParts [.nibA, .nibB, .cyc, .pnw, .sent] T = true) (h_f : ∀ a0 a1 u, ChangesW T u (f a0 a1 u)) :
    Changes T s (regCommand p a v f s) := by
  unfold regCommand
  exact (by
   try dsimp only
   split
   · exact .app (laneWrites_changes (subParts_trans rfl hT) (fun _ _ => (.app (h_f _ _ _) (.refl)))) (.refl)
   · exact .app (sessionWrites_changes (subParts_trans rfl hT) (fun _ _ => (.app (h_f _ _ _) (.refl)))) (.refl)
)

theorem requal_changes (i : ℕ) (s : State) : Changes [.fch, .evr] s (requal i s) := by
  unfold requal
  exact .app (.ite (fun _ => .refl) (fun _ => .app (.app (.ite (fun _ => .refl) (fun _ => .comp (post_changes _ _ _ _) rfl (.refl))) (.ite (fun _ => .upd (.refl) (.inr rfl) (.inr rfl) (.inr rfl) (.inr rfl) (.inr rfl) (.inr rfl) (.inr rfl) (.inr rfl) (.inr rfl) (.inr rfl) (.inl rfl) (.inr rfl) (.inr rfl) (.inr rfl) (.inr rfl) (.inr rfl) (.inr rfl) (.inr rfl) (.inr rfl) (.inr rfl) (.inr rfl) (.inr rfl) (.inr rfl) (.inr rfl) (.inr rfl)) (fun _ => .refl))) (.comp (setChan_changes _ _ _) rfl (.refl)))) (.ite (fun _ => .refl) (fun _ => .comp (setChan_changes _ _ _) rfl (.refl)))

theorem requalAll_changes (l : List ℕ) (s : State) : Changes [.fch, .evr] s (requalAll l s) := by
  unfold requalAll
  exact .each (fun _ _ => .comp (requal_changes _ _) rfl (.refl)) (.refl)

theorem setLive_changes (i : ℕ) (w : Word) (s : State) : Changes [.fch] s (setLive i w s) := by
  unfold setLive
  exact .comp (setChan_changes _ _ _) rfl (.refl)

theorem rtdConvert_changes (cfg : ChanCfg) (mOhm : ℕ) (lead : ℕ) (i : ℕ) (s : State) : Changes [.fch] s (rtdConvert cfg mOhm lead i s) := by
  unfold rtdConvert
  exact .ite (fun _ => .comp (setChan_changes _ _ _) rfl (.refl)) (fun _ => .ite (fun _ => .comp (setChan_changes _ _ _) rfl (.refl)) (fun _ => .comp (setLive_changes _ _ _) rfl (.comp (setChan_changes _ _ _) rfl (.refl))))

theorem tcConvert_changes (cfg : ChanCfg) (uV : ℤ) (cj : ℤ) (i : ℕ) (s : State) : Changes [.fch] s (tcConvert cfg uV cj i s) := by
  unfold tcConvert
  exact .app (.app (.ite (fun _ => .comp (setChan_changes _ _ _) rfl (.refl)) (fun _ => .comp (setLive_changes _ _ _) rfl (.refl))) (.comp (setChan_changes _ _ _) rfl (.refl))) (.comp (setGrp_changes _ _ _) rfl (.refl))

theorem convert_changes (i : ℕ) (m : Meas) (s : State) : Changes [.fch, .free] s (convert i m s) := by
  unfold convert
  exact (by
   try dsimp only
   split
   · exact .comp (setLive_changes _ _ _) rfl (.comp (setChan_changes _ _ _) rfl (.comp (takeFree_changes _) rfl (.comp (setChan_changes _ _ _) rfl (.refl))))
   · exact .comp (setLive_changes _ _ _) rfl (.comp (setChan_changes _ _ _) rfl (.comp (takeFree_changes _) rfl (.comp (setChan_changes _ _ _) rfl (.refl))))
   · exact .comp (rtdConvert_changes _ _ _ _ _) rfl (.comp (takeFree_changes _) rfl (.comp (setChan_changes _ _ _) rfl (.refl)))
   · exact .comp (tcConvert_changes _ _ _ _ _) rfl (.comp (takeFree_changes _) rfl (.comp (setChan_changes _ _ _) rfl (.refl)))
   · exact .comp (takeFree_changes _) rfl (.comp (setChan_changes _ _ _) rfl (.refl))
)

theorem applyOutput_changes (i : ℕ) (s : State) : Changes [.fch, .evr] s (applyOutput i s) := by
  unfold applyOutput
  exact .ite (fun _ => .refl) (fun _ => .ite (fun _ => .comp (setChan_changes _ _ _) rfl (.refl)) (fun _ => .ite (fun _ => .comp (setChan_changes _ _ _) rfl (.refl)) (fun _ => .ite (fun _ => .app (.ite (fun _ => .comp (requal_changes _ _) rfl (.refl)) (fun _ => .refl)) (.comp (setChan_changes _ _ _) rfl (.refl))) (fun _ => .ite (fun _ => .comp (setChan_changes _ _ _) rfl (.refl)) (fun _ => .refl)))))

theorem applyOutputs_changes (s : State) : Changes [.fch, .evr] s (applyOutputs s) := by
  unfold applyOutputs
  exact .each (fun _ _ => .comp (applyOutput_changes _ _) rfl (.refl)) (.refl)

theorem setDsp_changes (f : Dsp → Dsp) (s : State) : Changes [.dsp] s (setDsp f s) := by
  unfold setDsp
  exact .upd (.refl) (.inr rfl) (.inr rfl) (.inr rfl) (.inr rfl) (.inr rfl) (.inr rfl) (.inr rfl) (.inr rfl) (.inr rfl) (.inr rfl) (.inr rfl) (.inr rfl) (.inr rfl) (.inr rfl) (.inr rfl) (.inr rfl) (.inr rfl) (.inr rfl) (.inr rfl) (.inr rfl) (.inr rfl) (.inl rfl) (.inr rfl) (.inr rfl) (.inr rfl)

theorem drawArea_changes (cls : PClass) (r : Rect) (s : State) : Changes [.dsp] s (drawArea cls r s) := by
  unfold drawArea
  exact .comp (setDsp_changes _ _) rfl (.refl)

theorem railsUp_changes (s : State) : Changes [.dsp] s (railsUp s) := by
  unfold railsUp
  exact .ite (fun _ => .comp (setDsp_changes _ _) rfl (.refl)) (fun _ => .refl)

theorem railsDown_changes (s : State) : Changes [.dsp] s (railsDown s) := by
  unfold railsDown
  exact .ite (fun _ => .comp (setDsp_changes _ _) rfl (.refl)) (fun _ => .refl)

theorem panelRequest_changes (area : Rect) (cls : PClass) (s : State) : Changes [.dsp] s (panelRequest area cls s) := by
  unfold panelRequest
  exact .ite (fun _ => .comp (railsUp_changes _) rfl (.comp (setDsp_changes _ _) rfl (.refl))) (fun _ => .refl)

theorem panelDraw_changes (area : Rect) (cls : PClass) (s : State) : Changes [.dsp] s (panelDraw area cls s) := by
  unfold panelDraw
  exact .comp (panelRequest_changes _ _ _) rfl (.comp (drawArea_changes _ _ _) rfl (.refl))

theorem pageDraw_changes (s : State) : Changes [.dsp] s (pageDraw s) := by
  unfold pageDraw
  exact .ite (fun _ => .refl) (fun _ => .comp (panelDraw_changes _ _ _) rfl (.refl))

theorem panelRefresh_changes (cls : PClass) (s : State) : Changes [.dsp] s (panelRefresh cls s) := by
  unfold panelRefresh
  exact .ite (fun _ => .refl) (fun _ => .comp (panelDraw_changes _ _ _) rfl (.refl))

theorem standbyDraw_changes (s : State) : Changes [.dsp] s (standbyDraw s) := by
  unfold standbyDraw
  exact .ite (fun _ => .comp (panelRefresh_changes _ _) rfl (.refl)) (fun _ => .refl)

theorem alarmRedraw_changes (s : State) : Changes [.dsp] s (alarmRedraw s) := by
  unfold alarmRedraw
  exact .comp (panelDraw_changes _ _ _) rfl (.refl)

theorem startReq_changes (r : PReq) (s : State) : Changes [.evr, .dsp] s (startReq r s) := by
  unfold startReq
  exact .ite (fun _ => .refl) (fun _ => (by
   try dsimp only
   split
   · exact .refl
   · exact .app (.ite (fun _ => .comp (post_changes _ _ _ _) rfl (.refl)) (fun _ => .refl)) (.comp (setDsp_changes _ _) rfl (.refl))
))

theorem noteDeferred_changes (s : State) : Changes [.dsp] s (noteDeferred s) := by
  unfold noteDeferred
  exact .comp (setDsp_changes _ _) rfl (.refl)

theorem panelFrame_changes (s : State) : Changes [.evr, .dsp] s (panelFrame s) := by
  unfold panelFrame
  exact .ite (fun _ => .refl) (fun _ => .app (.ite (fun _ => .refl) (fun _ => .app (.each (fun _ _ => .comp (startReq_changes _ _) rfl (.refl)) (.refl)) (.comp (setDsp_changes _ _) rfl (.refl)))) (.comp (railsUp_changes _) rfl (.comp (noteDeferred_changes _) rfl (.refl))))

theorem chopDraw_changes (s : State) : Changes [.dsp] s (chopDraw s) := by
  unfold chopDraw
  exact .ite (fun _ => .app (.ite (fun _ => .refl) (fun _ => .comp (panelRequest_changes _ _ _) rfl (.refl))) (.comp (drawArea_changes _ _ _) rfl (.refl))) (fun _ => .refl)

theorem recoveryEnd_changes (s : State) : Changes [.dsp] s (recoveryEnd s) := by
  unfold recoveryEnd
  exact .ite (fun _ => .app (.app (.comp (chopDraw_changes _) rfl (.comp (setDsp_changes _ _) rfl (.refl))) (.comp (drawArea_changes _ _ _) rfl (.refl))) (.comp (setDsp_changes _ _) rfl (.refl))) (fun _ => .refl)

theorem rectangleEnd_changes (i : ℕ) (s : State) : Changes [.dsp] s (rectangleEnd i s) := by
  unfold rectangleEnd
  exact .ite (fun _ => .comp (recoveryEnd_changes _) rfl (.comp (setDsp_changes _ _) rfl (.refl))) (fun _ => .refl)

theorem panelAbort_changes (s : State) : Changes [.dsp] s (panelAbort s) := by
  unfold panelAbort
  exact .comp (setDsp_changes _ _) rfl (.comp (railsDown_changes _) rfl (.refl))

theorem panelReissue_changes (s : State) : Changes [.dsp] s (panelReissue s) := by
  unfold panelReissue
  exact .comp (setDsp_changes _ _) rfl (.refl)

theorem panelStart_changes (g : PanelIdent) (s : State) : Changes [.dsp] s (panelStart g s) := by
  unfold panelStart
  exact .app (.ite (fun _ => .refl) (fun _ => .comp (railsUp_changes _) rfl (.comp (setDsp_changes _ _) rfl (.refl)))) (.comp (setDsp_changes _ _) rfl (.refl))

theorem byPath_changes {T : List Part} {p : Path} {a v : Word} {lvl : BitVec 2} {bad : State → Option (BitVec 16)}
    {k : State → State} {s : State} (hT : subParts [.nibA, .nibB, .cyc, .pnw, .sent] T = true) (h_k : ∀ u, Changes T u (k u)) :
    Changes T s (byPath p a v lvl bad k s) := by
  unfold byPath
  split
  · refine laneWrites_changes (subParts_trans rfl hT) (fun _ u => ?_)
    split
    · exact .done .refl
    · exact .refuse .refl
  · refine screenReq_changes (subParts_trans rfl hT) (fun u => ?_)
    split
    · exact .comp (reply_changes _ _ _ _) (subParts_trans rfl hT) (h_k _)
    · exact .comp (reply_changes _ _ _ _) (subParts_trans rfl hT) .refl

theorem panelRedraw_changes (s : State) : Changes [.dsp] s (panelRedraw s) := by
  unfold panelRedraw
  exact .comp (panelRequest_changes _ _ _) rfl (.refl)

theorem panelClear_changes (s : State) : Changes [.dsp] s (panelClear s) := by
  unfold panelClear
  exact .ite (fun _ => .refl) (fun _ => .comp (railsUp_changes _) rfl (.comp (setDsp_changes _ _) rfl (.refl)))

theorem panelReinit_changes (g : PanelIdent) (s : State) : Changes [.dsp] s (panelReinit g s) := by
  unfold panelReinit
  exact .comp (panelStart_changes _ _) rfl (.comp (setDsp_changes _ _) rfl (.comp (panelAbort_changes _) rfl (.refl)))

theorem pageWrite_changes (v : Word) (s : State) : Changes [.dsp] s (pageWrite v s) := by
  unfold pageWrite
  exact .comp (pageDraw_changes _) rfl (.comp (setDsp_changes _ _) rfl (.refl))

theorem flWrite_changes (v : Word) (s : State) : Changes [.dsp] s (flWrite v s) := by
  unfold flWrite
  exact .comp (setDsp_changes _ _) rfl (.refl)

theorem endWriter_changes (s : State) : Changes [.boot] s (endWriter s) := by
  unfold endWriter
  exact .ite (fun _ => .comp (onBoot_changes _ _) rfl (.refl)) (fun _ => .refl)

theorem releaseHeld_changes (id : Word) (s : State) : Changes [.cvu, .boot] s (releaseHeld id s) := by
  unfold releaseHeld
  exact (by
   try dsimp only
   split
   · exact .ite (fun _ => .comp (endWriter_changes _) rfl (.comp (onCvu_changes _ _) rfl (.refl))) (fun _ => .comp (onCvu_changes _ _) rfl (.refl))
   · exact .comp (onCvu_changes _ _) rfl (.refl)
)

theorem endSession_changes (id : Word) (s : State) : Changes [.pnw, .cvu, .boot] s (endSession id s) := by
  unfold endSession
  exact .comp (onPnw_changes _ _) rfl (.comp (releaseHeld_changes _ _) rfl (.refl))

theorem endSessions_changes (s : State) : Changes [.pnw, .cvu, .boot] s (endSessions s) := by
  unfold endSessions
  exact .app (.upd (.refl) (.inr rfl) (.inr rfl) (.inr rfl) (.inr rfl) (.inr rfl) (.inr rfl) (.inr rfl) (.inr rfl) (.inr rfl) (.inr rfl) (.inr rfl) (.inr rfl) (.inr rfl) (.inr rfl) (.inr rfl) (.inl rfl) (.inr rfl) (.inl rfl) (.inr rfl) (.inr rfl) (.inr rfl) (.inr rfl) (.inr rfl) (.inr rfl) (.inr rfl)) (.comp (endWriter_changes _) rfl (.refl))

theorem discardTrim_changes (s : State) : Changes [.fch, .evr] s (discardTrim s) := by
  unfold discardTrim
  exact (by
   try dsimp only
   split
   · exact .refl
   · exact .comp (applyOutput_changes _ _) rfl (.comp (post_changes _ _ _ _) rfl (.comp (onFch_changes _ _) rfl (.refl)))
)

theorem clearInjectors_changes (s : State) : Changes [.pst, .frg] s (clearInjectors s) := by
  unfold clearInjectors
  exact .app (.comp (onFrg_changes _ _) rfl (.refl)) (.comp (onPst_changes _ _) rfl (.refl))

theorem endCommissioning_changes (s : State) : Changes [.fch, .pst, .frg, .evr] s (endCommissioning s) := by
  unfold endCommissioning
  exact .ite (fun _ => .comp (clearInjectors_changes _) rfl (.comp (discardTrim_changes _) rfl (.refl))) (fun _ => .refl)

theorem openPairs_changes (s : State) : Changes [.saf] s (openPairs s) := by
  unfold openPairs
  exact .comp (onSaf_changes _ _) rfl (.refl)

theorem setSlot_changes (n : ℕ) (f : Slot → Slot) (s : State) : Changes [.saf] s (setSlot n f s) := by
  unfold setSlot
  exact .comp (onSaf_changes _ _) rfl (.refl)

theorem slotTo_changes (n : ℕ) (t : SlotState) (f : Slot → Slot) (s : State) : Changes [.saf, .evr] s (slotTo n t f s) := by
  unfold slotTo
  exact .app (.ite (fun _ => .refl) (fun _ => .comp (post_changes _ _ _ _) rfl (.refl))) (.comp (setSlot_changes _ _ _) rfl (.refl))

theorem demandSlot_changes (n : ℕ) (delay : Bool) (s : State) : Changes [.saf, .evr] s (demandSlot n delay s) := by
  unfold demandSlot
  exact .comp (slotTo_changes _ _ _ _) rfl (.refl)

theorem demandReleased_changes (s : State) : Changes [.saf, .evr] s (demandReleased s) := by
  unfold demandReleased
  exact .each (fun _ _ => .comp (demandSlot_changes _ _ _) rfl (.refl)) (.refl)

theorem dropQen_changes (s : State) : Changes [.saf] s (dropQen s) := by
  unfold dropQen
  exact .comp (openPairs_changes _) rfl (.comp (onSaf_changes _ _) rfl (.refl))

theorem requalify_changes (s : State) : Changes [.pst] s (requalify s) := by
  unfold requalify
  exact .comp (onPst_changes _ _) rfl (.refl)

theorem diagEvent_changes (s : State) : Changes [.pst] s (diagEvent s) := by
  unfold diagEvent
  exact .ite (fun _ => .comp (requalify_changes _) rfl (.refl)) (fun _ => .refl)

theorem standbyOutputs_changes (s : State) : Changes [.fch, .evr] s (standbyOutputs s) := by
  unfold standbyOutputs
  exact .comp (requalAll_changes _ _) rfl (.each (fun _ _ => .comp (setChan_changes _ _ _) rfl (.refl)) (.refl))

theorem releaseRole_changes (reason : Byte) (s : State) : Changes [.fch, .saf, .alm, .pst, .evr, .dsp, .sent] s (releaseRole reason s) := by
  unfold releaseRole
  exact .ite (fun _ => .app (.app (.app (.comp (standbyDraw_changes _) rfl (.comp (standbyOutputs_changes _) rfl (.comp (applyOutputs_changes _) rfl (.comp (dropQen_changes _) rfl (.comp (demandReleased_changes _) rfl (.comp (discardTrim_changes _) rfl (.refl))))))) (.comp (onAlm_changes _ _) rfl (.comp (post_changes _ _ _ _) rfl (.refl)))) (.comp (onPst_changes _ _) rfl (.refl))) (.comp (slSend_changes _ _ _) rfl (.refl))) (fun _ => .refl)

theorem haltLanes_changes (s : State) : Changes [.nibA, .nibB, .cyc, .cmp] s (haltLanes s) := by
  unfold haltLanes
  exact .upd (.refl) (.inr rfl) (.inr rfl) (.inr rfl) (.inr rfl) (.inr rfl) (.inl rfl) (.inl rfl) (.inl rfl) (.inl rfl) (.inr rfl) (.inr rfl) (.inr rfl) (.inr rfl) (.inr rfl) (.inr rfl) (.inr rfl) (.inr rfl) (.inr rfl) (.inr rfl) (.inr rfl) (.inr rfl) (.inr rfl) (.inr rfl) (.inr rfl) (.inr rfl)

theorem stopLanes_changes (s : State) : Changes [.nibA, .nibB, .cyc, .cmp] s (stopLanes s) := by
  unfold stopLanes
  exact .comp (onCmp_changes _ _) rfl (.comp (haltLanes_changes _) rfl (.refl))

theorem pauseLanes_changes (s : State) : Changes [.nibA, .nibB, .cyc, .cmp] s (pauseLanes s) := by
  unfold pauseLanes
  exact .comp (haltLanes_changes _) rfl (.comp (onCmp_changes _ _) rfl (.refl))

theorem floodSummaries_changes (s : State) : Changes [.evr] s (floodSummaries s) := by
  unfold floodSummaries
  exact .each (fun _ _ => .comp (post_changes _ _ _ _) rfl (.refl)) (.comp (onEvr_changes _ _) rfl (.refl))

theorem abandonMaint_changes (s : State) : Changes [.cyc, .fch] s (abandonMaint s) := by
  unfold abandonMaint
  exact .app (.each (fun _ _ => .comp (setGrp_changes _ _ _) rfl (.refl)) (.refl)) (.comp (onCyc_changes _ _) rfl (.refl))

theorem resetSteps_changes (c : ResetClass) (cause : Byte) (s : State) : Changes [.sup, .nibA, .nibB, .cyc, .cmp, .fch, .saf, .alm, .pst, .pnw, .evr, .cvu, .dsp, .boot, .sent] s (resetSteps c cause s) := by
  unfold resetSteps
  exact .app (.app (.app (.app (.app (.app (.app (.ite (fun _ => .refl) (fun _ => .comp (panelAbort_changes _) rfl (.refl))) (.comp (onAlm_changes _ _) rfl (.comp (onEvr_changes _ _) rfl (.comp (startFlush_changes _) rfl (.refl))))) (.comp (endSessions_changes _) rfl (.comp (floodSummaries_changes _) rfl (.refl)))) (.comp (applyOutputs_changes _) rfl (.comp (dropQen_changes _) rfl (.refl)))) (.comp (onSup_changes _ _) rfl (.refl))) (.comp (onCyc_changes _ _) rfl (.comp (abandonMaint_changes _) rfl (.comp (stopLanes_changes _) rfl (.refl))))) (.comp (discardTrim_changes _) rfl (.refl))) (.comp (releaseRole_changes _ _) rfl (.refl))

theorem enterReset_changes (c : ResetClass) (cause : Byte) (s : State) : Changes [.sup, .nibA, .nibB, .cyc, .cmp, .fch, .saf, .alm, .pst, .pnw, .evr, .cvu, .dsp, .boot, .sent] s (enterReset c cause s) := by
  unfold enterReset
  exact (by
   try dsimp only
   split
   · exact .refl
   · exact .ite (fun _ => .comp (onSup_changes _ _) rfl (.refl)) (fun _ => .refl)
   · exact .ite (fun _ => .comp (onSup_changes _ _) rfl (.refl)) (fun _ => .refl)
   · exact .comp (resetSteps_changes _ _ _) rfl (.refl)
)

theorem setFails_changes (n : BitVec 2) (s : State) : Changes [.sup, .boot] s (setFails n s) := by
  unfold setFails
  exact .upd (.refl) (.inr rfl) (.inr rfl) (.inr rfl) (.inl rfl) (.inr rfl) (.inr rfl) (.inr rfl) (.inr rfl) (.inr rfl) (.inr rfl) (.inr rfl) (.inr rfl) (.inr rfl) (.inr rfl) (.inr rfl) (.inr rfl) (.inr rfl) (.inr rfl) (.inr rfl) (.inr rfl) (.inr rfl) (.inr rfl) (.inl rfl) (.inr rfl) (.inr rfl)

theorem countFailure_changes (reason : Byte) (vals : List Word) (s : State) : Changes [.sup, .evr, .boot] s (countFailure reason vals s) := by
  unfold countFailure
  exact .app (.app (.comp (post_changes _ _ _ _) rfl (.refl)) (.comp (onBoot_changes _ _) rfl (.refl))) (.comp (setFails_changes _ _) rfl (.refl))

theorem enterSafe_changes (s : State) : Changes [.sup, .nibA, .nibB, .cyc, .cmp, .fch, .saf, .alm, .pst, .frg, .evr, .dsp, .boot, .sent] s (enterSafe s) := by
  unfold enterSafe
  exact .app (.app (.app (.app (.comp (startFlush_changes _) rfl (.comp (standbyDraw_changes _) rfl (.comp (applyOutputs_changes _) rfl (.comp (openPairs_changes _) rfl (.refl))))) (.comp (onBoot_changes _ _) rfl (.refl))) (.comp (onSup_changes _ _) rfl (.refl))) (.comp (abandonMaint_changes _) rfl (.comp (stopLanes_changes _) rfl (.comp (discardTrim_changes _) rfl (.refl))))) (.comp (onPst_changes _ _) rfl (.comp (releaseRole_changes _ _) rfl (.comp (endCommissioning_changes _) rfl (.refl))))

theorem selfDiag_changes (why : FaultReason) (s : State) : Changes [.sup, .nibA, .nibB, .cyc, .cmp, .fch, .saf, .alm, .pst, .frg, .pnw, .evr, .cvu, .dsp, .boot, .sent] s (selfDiag why s) := by
  unfold selfDiag
  exact .app (.ite (fun _ => .app (.ite (fun _ => .app (.ite (fun _ => .comp (enterReset_changes _ _ _) rfl (.refl)) (fun _ => .refl)) (.comp (countFailure_changes _ _ _) rfl (.refl))) (fun _ => .refl)) (.comp (enterSafe_changes _) rfl (.refl))) (fun _ => .ite (fun _ => .comp (enterReset_changes _ _ _) rfl (.refl)) (fun _ => .refl))) (.comp (diagEvent_changes _) rfl (.comp (post_changes _ _ _ _) rfl (.refl)))

theorem floorGuard_changes (s : State) : Changes [.tim] s (floorGuard s) := by
  unfold floorGuard
  exact .ite (fun _ => .comp (onTim_changes _ _) rfl (.refl)) (fun _ => .refl)

theorem gaugeUpdate_changes (a : BitVec 10) (b : BitVec 10) (s : State) : Changes [.tim] s (gaugeUpdate a b s) := by
  unfold gaugeUpdate
  exact .app (.comp (floorGuard_changes _) rfl (.comp (onTim_changes _ _) rfl (.refl))) (.comp (onTim_changes _ _) rfl (.refl))

theorem timeCheck_changes (ticks : ℕ) (marks : ℕ) (s : State) : Changes [.sup, .tim, .nibA, .nibB, .cyc, .cmp, .fch, .saf, .alm, .pst, .frg, .pnw, .evr, .cvu, .dsp, .boot, .sent] s (timeCheck ticks marks s) := by
  unfold timeCheck
  exact .app (.app (.ite (fun _ => .comp (selfDiag_changes _ _) rfl (.comp (applyOutputs_changes _) rfl (.comp (dropQen_changes _) rfl (.comp (onSaf_changes _ _) rfl (.refl))))) (fun _ => .refl)) (.ite (fun _ => .comp (diagEvent_changes _) rfl (.comp (post_changes _ _ _ _) rfl (.refl))) (fun _ => .refl))) (.comp (onTim_changes _ _) rfl (.refl))

theorem mapTraces_changes (f : TraceSt → TraceSt) (s : State) : Changes [.lpe] s (mapTraces f s) := by
  unfold mapTraces
  exact .comp (onLpe_changes _ _) rfl (.refl)

theorem shedEffect_changes (step : ℕ) (down : Bool) (s : State) : Changes [.lpe, .pst, .dsp] s (shedEffect step down s) := by
  unfold shedEffect
  exact (by
   try dsimp only
   split
   · exact .comp (setDsp_changes _ _) rfl (.refl)
   · exact .ite (fun _ => .refl) (fun _ => .comp (mapTraces_changes _ _) rfl (.refl))
   · exact .comp (onPst_changes _ _) rfl (.refl)
   · exact .refl
)

theorem takeStep_changes (s : State) : Changes [.tim, .lpe, .pst, .dsp] s (takeStep s) := by
  unfold takeStep
  exact .comp (shedEffect_changes _ _ _) rfl (.comp (onTim_changes _ _) rfl (.refl))

theorem undoStep_changes (s : State) : Changes [.tim, .lpe, .pst, .dsp] s (undoStep s) := by
  unfold undoStep
  exact .comp (shedEffect_changes _ _ _) rfl (.comp (onTim_changes _ _) rfl (.refl))

theorem unshedAll_changes (s : State) : Changes [.lpe, .pst, .dsp] s (unshedAll s) := by
  unfold unshedAll
  exact .each (fun _ _ => .comp (shedEffect_changes _ _ _) rfl (.refl)) (.refl)

theorem lowerCore_changes (s : State) : Changes [.tim] s (lowerCore s) := by
  unfold lowerCore
  exact .ite (fun _ => .comp (onTim_changes _ _) rfl (.refl)) (fun _ => .refl)

theorem raiseUnattain_changes (s : State) : Changes [.tim, .evr] s (raiseUnattain s) := by
  unfold raiseUnattain
  exact .ite (fun _ => .refl) (fun _ => .comp (post_changes _ _ _ _) rfl (.comp (onTim_changes _ _) rfl (.refl)))

theorem governOver_changes (s : State) : Changes [.tim, .lpe, .pst, .evr, .dsp] s (governOver s) := by
  unfold governOver
  exact .ite (fun _ => .ite (fun _ => .comp (lowerCore_changes _) rfl (.refl)) (fun _ => .app (.ite (fun _ => .comp (raiseUnattain_changes _) rfl (.refl)) (fun _ => .refl)) (.comp (onTim_changes _ _) rfl (.refl)))) (fun _ => .ite (fun _ => .ite (fun _ => .comp (takeStep_changes _) rfl (.refl)) (fun _ => .refl)) (fun _ => .ite (fun _ => .comp (lowerCore_changes _) rfl (.comp (takeStep_changes _) rfl (.refl))) (fun _ => .refl)))

theorem governUnder_changes (s : State) : Changes [.tim, .lpe, .pst, .dsp] s (governUnder s) := by
  unfold governUnder
  exact .ite (fun _ => .comp (onTim_changes _ _) rfl (.refl)) (fun _ => .ite (fun _ => .comp (undoStep_changes _) rfl (.refl)) (fun _ => .refl))

theorem governOn_changes (avg : BitVec 16) (s : State) : Changes [.tim, .lpe, .pst, .evr, .dsp] s (governOn avg s) := by
  unfold governOn
  exact .app (.app (.app (.comp (floorGuard_changes _) rfl (.refl)) (.ite (fun _ => .comp (governOver_changes _) rfl (.refl)) (fun _ => .ite (fun _ => .comp (governUnder_changes _) rfl (.refl)) (fun _ => .refl)))) (.comp (onTim_changes _ _) rfl (.refl))) (.comp (onTim_changes _ _) rfl (.refl))

theorem govern_changes (avg : BitVec 16) (s : State) : Changes [.tim, .lpe, .pst, .evr, .dsp] s (govern avg s) := by
  unfold govern
  exact .app (.ite (fun _ => .refl) (fun _ => .comp (governOn_changes _ _) rfl (.refl))) (.comp (onTim_changes _ _) rfl (.refl))

theorem newCeiling_changes (f : Tim → Tim) (s : State) : Changes [.tim] s (newCeiling f s) := by
  unfold newCeiling
  exact .app (.ite (fun _ => .comp (onTim_changes _ _) rfl (.refl)) (fun _ => .refl)) (.comp (onTim_changes _ _) rfl (.refl))

theorem ceilingWrite_changes (v : Word) (s : State) : ChangesW [.tim] s (ceilingWrite v s) := by
  unfold ceilingWrite
  exact (.ite (fun _ => (.done (.comp (newCeiling_changes _ _) rfl (.refl)))) (fun _ => (.refuse (.refl))))

theorem barrierLimit_changes (mw : ℕ) (s : State) : Changes [.tim, .fch, .evr] s (barrierLimit mw s) := by
  unfold barrierLimit
  exact .app (.app (.app (.comp (requalAll_changes _ _) rfl (.refl)) (.ite (fun _ => .each (fun _ _ => .comp (setChan_changes _ _ _) rfl (.refl)) (.refl)) (fun _ => .refl))) (.comp (onTim_changes _ _) rfl (.refl))) (.ite (fun _ => .each (fun _ _ => .comp (setGrp_changes _ _ _) rfl (.refl)) (.each (fun _ _ => .comp (setChan_changes _ _ _) rfl (.refl)) (.refl))) (fun _ => .refl))

theorem onSet_changes (i : ℕ) (f : Chan → Chan) (s : State) : Changes [.fch, .evr] s (onSet i f s) := by
  unfold onSet
  exact .comp (requalAll_changes _ _) rfl (.each (fun _ _ => .comp (setChan_changes _ _ _) rfl (.refl)) (.refl))

theorem inputState_changes (i : ℕ) (raw : Bool) (filt : Bool) (s : State) : Changes [.fch, .evr] s (inputState i raw filt s) := by
  unfold inputState
  exact .comp (requal_changes _ _) rfl (.comp (setChan_changes _ _ _) rfl (.refl))

theorem filterTick_changes (i : ℕ) (raw : Bool) (s : State) : Changes [.fch, .evr] s (filterTick i raw s) := by
  unfold filterTick
  exact .ite (fun _ => .comp (inputState_changes _ _ _ _) rfl (.comp (setChan_changes _ _ _) rfl (.refl))) (fun _ => .refl)

theorem overloadTrip_changes (i : ℕ) (s : State) : Changes [.fch, .evr] s (overloadTrip i s) := by
  unfold overloadTrip
  exact .ite (fun _ => .comp (onSet_changes _ _ _) rfl (.refl)) (fun _ => .refl)

theorem overloadRetry_changes (i : ℕ) (limited : Bool) (s : State) : Changes [.fch, .evr] s (overloadRetry i limited s) := by
  unfold overloadRetry
  exact .ite (fun _ => .app (.ite (fun _ => .refl) (fun _ => .each (fun _ _ => .comp (applyOutput_changes _ _) rfl (.refl)) (.comp (onSet_changes _ _ _) rfl (.refl)))) (.comp (setChan_changes _ _ _) rfl (.refl))) (fun _ => .refl)

theorem openLoad_changes (i : ℕ) (ma : BitVec 16) (s : State) : Changes [.fch, .evr] s (openLoad i ma s) := by
  unfold openLoad
  exact .ite (fun _ => .comp (onSet_changes _ _ _) rfl (.comp (setChan_changes _ _ _) rfl (.refl))) (fun _ => .refl)

theorem shortLatch_changes (i : ℕ) (s : State) : Changes [.saf] s (shortLatch i s) := by
  unfold shortLatch
  exact .ite (fun _ => .comp (onSaf_changes _ _) rfl (.refl)) (fun _ => .refl)

theorem shortToSupply_changes (i : ℕ) (v : ℤ) (s : State) : Changes [.fch, .saf, .evr] s (shortToSupply i v s) := by
  unfold shortToSupply
  exact .ite (fun _ => .app (.ite (fun _ => .comp (shortLatch_changes _ _) rfl (.comp (onSet_changes _ _ _) rfl (.refl))) (fun _ => .ite (fun _ => .comp (onSet_changes _ _ _) rfl (.refl)) (fun _ => .refl))) (.comp (setChan_changes _ _ _) rfl (.refl))) (fun _ => .refl)

theorem midOff_changes (i : ℕ) (v : Option ℤ) (s : State) : Changes [.fch, .evr] s (midOff i v s) := by
  unfold midOff
  exact (by
   try dsimp only
   split
   · exact .refl
   · exact .ite (fun _ => .comp (requal_changes _ _) rfl (.comp (setChan_changes _ _ _) rfl (.refl))) (fun _ => .refl)
)

theorem pwmStart_changes (i : ℕ) (on : ℕ) (mid : Option ℤ) (s : State) : Changes [.fch, .evr] s (pwmStart i on mid s) := by
  unfold pwmStart
  exact .ite (fun _ => .app (.comp (setChan_changes _ _ _) rfl (.refl)) (.comp (midOff_changes _ _ _) rfl (.refl))) (fun _ => .refl)

theorem testPulseEnd_changes (i : ℕ) (p : PulseSeen) (s : State) : Changes [.fch, .evr] s (testPulseEnd i p s) := by
  unfold testPulseEnd
  exact .ite (fun _ => .app (.ite (fun _ => .comp (requal_changes _ _) rfl (.comp (setChan_changes _ _ _) rfl (.refl))) (fun _ => .refl)) (.comp (setChan_changes _ _ _) rfl (.refl))) (fun _ => .refl)

theorem freqGate_changes (i : ℕ) (periods : ℕ) (ticks : ℕ) (s : State) : Changes [.fch, .evr] s (freqGate i periods ticks s) := by
  unfold freqGate
  exact .ite (fun _ => .comp (requal_changes _ _) rfl (.comp (setLive_changes _ _ _) rfl (.comp (setChan_changes _ _ _) rfl (.refl)))) (fun _ => .refl)

theorem freezeGroup_changes (g : ℕ) (s : State) : Changes [.fch, .evr] s (freezeGroup g s) := by
  unfold freezeGroup
  exact .app (.comp (requalAll_changes _ _) rfl (.comp (setGrp_changes _ _ _) rfl (.refl))) (.each (fun _ _ => .comp (setChan_changes _ _ _) rfl (.refl)) (.refl))

theorem unfreezeGroup_changes (g : ℕ) (s : State) : Changes [.fch, .evr] s (unfreezeGroup g s) := by
  unfold unfreezeGroup
  exact .app (.comp (requalAll_changes _ _) rfl (.comp (setGrp_changes _ _ _) rfl (.refl))) (.each (fun _ _ => .comp (setChan_changes _ _ _) rfl (.refl)) (.refl))

theorem supplyChange_changes (g : ℕ) (e : SupplyEvent) (v : BitVec 16) (a : BitVec 16) (s : State) : Changes [.fch, .evr] s (supplyChange g e v a s) := by
  unfold supplyChange
  exact .app (.app (.app (.ite (fun _ => .refl) (fun _ => .ite (fun _ => .comp (freezeGroup_changes _ _) rfl (.refl)) (fun _ => .ite (fun _ => .comp (unfreezeGroup_changes _ _) rfl (.refl)) (fun _ => .refl)))) (.ite (fun _ => .comp (onFch_changes _ _) rfl (.refl)) (fun _ => .refl))) (.comp (post_changes _ _ _ _) rfl (.refl))) (.comp (setGrp_changes _ _ _) rfl (.refl))

theorem latchPairs_changes (l : List ℕ) (f : Pair → Pair) (s : State) : Changes [.fch, .saf, .evr] s (latchPairs l f s) := by
  unfold latchPairs
  exact .comp (applyOutputs_changes _) rfl (.each (fun _ _ => .comp (onSaf_changes _ _) rfl (.refl)) (.refl))

theorem sagLatch_changes (g : ℕ) (s : State) : Changes [.fch, .saf, .evr] s (sagLatch g s) := by
  unfold sagLatch
  exact .ite (fun _ => .app (.comp (latchPairs_changes _ _ _) rfl (.refl)) (.comp (setGrp_changes _ _ _) rfl (.refl))) (fun _ => .refl)

theorem linkLost_changes (g : ℕ) (s : State) : Changes [.fch, .saf, .alm, .pst, .evr, .dsp, .sent] s (linkLost g s) := by
  unfold linkLost
  exact .app (.app (.app (.app (.app (.ite (fun _ => .comp (releaseRole_changes _ _) rfl (.refl)) (fun _ => .refl)) (.each (fun _ _ => .comp (applyOutput_changes _ _) rfl (.refl)) (.comp (requalAll_changes _ _) rfl (.refl)))) (.each (fun _ _ => .comp (onSaf_changes _ _) rfl (.refl)) (.refl))) (.comp (diagEvent_changes _) rfl (.comp (post_changes _ _ _ _) rfl (.refl)))) (.comp (onFch_changes _ _) rfl (.refl))) (.comp (setGrp_changes _ _ _) rfl (.refl))

theorem maintWrite_changes (r : Req) (g : Fin 6) (enter : Bool) (s : State) : ChangesW [.cyc, .fch, .pst, .sent] s (maintWrite r g enter s) := by
  unfold maintWrite
  exact (.ite (fun _ => (.app (doneBoth_changes rfl (fun _ => .comp (schedule_changes _ _) rfl (.comp (setGrp_changes _ _ _) rfl (.refl)))) (.refl))) (fun _ => (.refuse (.refl))))

theorem maintCommand_changes (r : Req) (g : Fin 6) (enter : Bool) (s : State) : Changes [.cyc, .fch, .pst, .pnw, .sent] s (maintCommand r g enter s) := by
  unfold maintCommand
  exact .app (screenReq_changes rfl (fun _ => .app (answer_changes rfl (fun _ => (.comp (maintWrite_changes _ _ _ _) rfl (.refl)))) (.refl))) (.refl)

theorem maintEnter_changes (g : ℕ) (s : State) : Changes [.fch, .saf, .evr] s (maintEnter g s) := by
  unfold maintEnter
  exact .app (.app (.app (.comp (latchPairs_changes _ _ _) rfl (.comp (requalAll_changes _ _) rfl (.refl))) (.comp (post_changes _ _ _ _) rfl (.refl))) (.comp (setGrp_changes _ _ _) rfl (.refl))) (.each (fun _ _ => .comp (setChan_changes _ _ _) rfl (.refl)) (.refl))

theorem maintLeave_changes (g : ℕ) (s : State) : Changes [.fch, .evr] s (maintLeave g s) := by
  unfold maintLeave
  exact .app (.app (.app (.app (.ite (fun _ => .comp (freezeGroup_changes _ _) rfl (.refl)) (fun _ => .refl)) (.comp (requalAll_changes _ _) rfl (.refl))) (.comp (post_changes _ _ _ _) rfl (.refl))) (.comp (setGrp_changes _ _ _) rfl (.refl))) ((by
   try dsimp only
   split
   · exact .ite (fun _ => .comp (discardTrim_changes _) rfl (.refl)) (fun _ => .refl)
   · exact .refl
))

theorem applyMaint_changes (g : ℕ) (enter : Bool) (s : State) : Changes [.fch, .saf, .evr] s (applyMaint g enter s) := by
  unfold applyMaint
  exact .ite (fun _ => .comp (setGrp_changes _ _ _) rfl (.refl)) (fun _ => .ite (fun _ => .comp (maintEnter_changes _ _) rfl (.refl)) (fun _ => .comp (maintLeave_changes _ _) rfl (.refl)))

theorem saveTrim_changes (i : ℕ) (p : TrimPoint) (ua : ℤ) (s : State) : Changes [.fch, .pst, .evr, .sent] s (saveTrim i p ua s) := by
  unfold saveTrim
  exact .app (.app (.app (.ite (fun _ => .comp (forwardNow_changes _ _) rfl (.refl)) (fun _ => .refl)) (.comp (post_changes _ _ _ _) rfl (.refl))) (.ite (fun _ => .comp (setChan_changes _ _ _) rfl (.refl)) (fun _ => .refl))) (.comp (onFch_changes _ _) rfl (.refl))

theorem storeSession_changes (s : State) : Changes [.fch, .pst, .evr, .sent] s (storeSession s) := by
  unfold storeSession
  exact (by
   try dsimp only
   split
   · exact .refl
   · exact .comp (applyOutput_changes _ _) rfl (.comp (saveTrim_changes _ _ _ _) rfl (.comp (onFch_changes _ _) rfl (.refl)))
)

theorem setPending_changes (f : ℤ → ℤ) (s : State) : Changes [.fch, .evr] s (setPending f s) := by
  unfold setPending
  exact (by
   try dsimp only
   split
   · exact .refl
   · exact .comp (applyOutput_changes _ _) rfl (.comp (onFch_changes _ _) rfl (.refl))
)

theorem trimCommand_changes {T : List Part} {r : Req} {k : State → State} {s : State} (hT : subParts [.pnw, .sent] T = true) (h_k : ∀ u, Changes T u (k u)) :
    Changes T s (trimCommand r k s) := by
  unfold trimCommand
  exact .app (screenReq_changes (subParts_trans rfl hT) (fun _ => .app (acceptIf_changes (subParts_trans rfl hT) (fun _ => .comp (reply_changes _ _ _ _) (subParts_trans rfl hT) (.app (h_k _) (.refl)))) (.refl))) (.refl)

theorem openTrim_changes (r : Req) (ch : Fin 96) (p : TrimPoint) (s : State) : Changes [.fch, .pnw, .evr, .sent] s (openTrim r ch p s) := by
  unfold openTrim
  exact .app (screenReq_changes rfl (fun _ => .app (acceptIf_changes rfl (fun _ => .comp (reply_changes _ _ _ _) rfl (.comp (applyOutput_changes _ _) rfl (.comp (onFch_changes _ _) rfl (.refl))))) (.refl))) (.refl)

theorem writeTrim_changes (r : Req) (ch : Fin 96) (p : TrimPoint) (ua : ℤ) (s : State) : Changes [.fch, .pst, .pnw, .evr, .sent] s (writeTrim r ch p ua s) := by
  unfold writeTrim
  exact .app (screenReq_changes rfl (fun _ => .app (acceptIf_changes rfl (fun _ => .app (acceptIf_changes rfl (fun _ => .comp (reply_changes _ _ _ _) rfl (.comp (saveTrim_changes _ _ _ _) rfl (.refl)))) (.refl))) (.refl))) (.refl)

theorem trimMove_changes (s : State) : Changes [.fch, .evr] s (trimMove s) := by
  unfold trimMove
  exact .ite (fun _ => .comp (setPending_changes _ _) rfl (.refl)) (fun _ => .ite (fun _ => .comp (setPending_changes _ _) rfl (.refl)) (fun _ => .refl))

theorem trimPins_changes (up : Bool) (dn : Bool) (s : State) : Changes [.fch] s (trimPins up dn s) := by
  unfold trimPins
  exact .comp (onFch_changes _ _) rfl (.refl)

theorem trimLevels_changes (up : Bool) (dn : Bool) (set : Bool) (s : State) : Changes [.fch] s (trimLevels up dn set s) := by
  unfold trimLevels
  exact .comp (onFch_changes _ _) rfl (.comp (trimPins_changes _ _ _) rfl (.refl))

theorem trimSet_changes (s : State) : Changes [.fch, .pst, .evr, .sent] s (trimSet s) := by
  unfold trimSet
  exact .app (.ite (fun _ => .refl) (fun _ => .comp (storeSession_changes _) rfl (.refl))) (.comp (onFch_changes _ _) rfl (.refl))

theorem readback_changes (i : ℕ) (ua : ℤ) (s : State) : Changes [.fch, .evr] s (readback i ua s) := by
  unfold readback
  exact .ite (fun _ => .ite (fun _ => .comp (requal_changes _ _) rfl (.comp (setChan_changes _ _ _) rfl (.refl))) (fun _ => .comp (requal_changes _ _) rfl (.comp (setChan_changes _ _ _) rfl (.refl)))) (fun _ => .refl)

theorem hearMeans_changes (s : State) : Changes [.pst] s (hearMeans s) := by
  unfold hearMeans
  exact .comp (onPst_changes _ _) rfl (.refl)

theorem startRamp_changes (i : ℕ) (s : State) : Changes [.fch] s (startRamp i s) := by
  unfold startRamp
  exact .ite (fun _ => .comp (setChan_changes _ _ _) rfl (.refl)) (fun _ => .refl)

theorem twoHand_changes (n : ℕ) (blocked : Bool) (s : State) : Changes [.saf, .evr] s (twoHand n blocked s) := by
  unfold twoHand
  exact .ite (fun _ => .comp (setSlot_changes _ _ _) rfl (.refl)) (fun _ => .ite (fun _ => .refl) (fun _ => .ite (fun _ => .ite (fun _ => .comp (setSlot_changes _ _ _) rfl (.refl)) (fun _ => .comp (slotTo_changes _ _ _ _) rfl (.refl))) (fun _ => .ite (fun _ => .comp (setSlot_changes _ _ _) rfl (.refl)) (fun _ => .refl))))

theorem noteResponse_changes (c : SlotCfg) (s : State) : Changes [.saf] s (noteResponse c s) := by
  unfold noteResponse
  exact .comp (onSaf_changes _ _) rfl (.refl)

theorem evalSlot_changes (n : ℕ) (s : State) : Changes [.saf, .evr] s (evalSlot n s) := by
  unfold evalSlot
  exact (by
   try dsimp only
   split
   · exact .comp (setSlot_changes _ _ _) rfl (.comp (setSlot_changes _ _ _) rfl (.refl))
   · exact .ite (fun _ => .comp (twoHand_changes _ _ _) rfl (.comp (setSlot_changes _ _ _) rfl (.refl))) (fun _ => .ite (fun _ => .comp (setSlot_changes _ _ _) rfl (.refl)) (fun _ => .comp (slotTo_changes _ _ _ _) rfl (.comp (setSlot_changes _ _ _) rfl (.refl))))
   · exact .ite (fun _ => .app (.comp (demandSlot_changes _ _ _) rfl (.refl)) (.ite (fun _ => .comp (setSlot_changes _ _ _) rfl (.refl)) (fun _ => .comp (noteResponse_changes _ _) rfl (.comp (setSlot_changes _ _ _) rfl (.refl))))) (fun _ => .comp (setSlot_changes _ _ _) rfl (.refl))
)

theorem slotFault_changes (n : ℕ) (code : Byte) (s : State) : Changes [.saf, .evr] s (slotFault n code s) := by
  unfold slotFault
  exact .ite (fun _ => .refl) (fun _ => .comp (slotTo_changes _ _ _ _) rfl (.refl))

theorem refreshQen_changes (s : State) : Changes [.fch, .saf, .evr] s (refreshQen s) := by
  unfold refreshQen
  exact .app (.comp (applyOutputs_changes _) rfl (.comp (openPairs_changes _) rfl (.refl))) (.each (fun _ _ => .comp (onSaf_changes _ _) rfl (.refl)) (.refl))

theorem stuckStep_changes (n : ℕ) (s : State) : Changes [.saf] s (stuckStep n s) := by
  unfold stuckStep
  exact .ite (fun _ => .refl) (fun _ => .ite (fun _ => .comp (setSlot_changes _ _ _) rfl (.refl)) (fun _ => (by
   try dsimp only
   split
   · exact .comp (setSlot_changes _ _ _) rfl (.refl)
   · exact .ite (fun _ => .comp (setSlot_changes _ _ _) rfl (.refl)) (fun _ => .refl)
)))

theorem brakeTestStart_changes (n : ℕ) (s : State) : Changes [.fch, .saf, .evr] s (brakeTestStart n s) := by
  unfold brakeTestStart
  exact .comp (refreshQen_changes _) rfl (.comp (evalSlot_changes _ _) rfl (.comp (setSlot_changes _ _ _) rfl (.refl)))

theorem brakeTestDone_changes (n : ℕ) (pass : Bool) (s : State) : Changes [.saf, .evr] s (brakeTestDone n pass s) := by
  unfold brakeTestDone
  exact .app (.app (.comp (post_changes _ _ _ _) rfl (.refl)) (.ite (fun _ => .comp (onSaf_changes _ _) rfl (.refl)) (fun _ => .refl))) (.comp (setSlot_changes _ _ _) rfl (.refl))

theorem brakeTestStep_changes (n : ℕ) (s : State) : Changes [.saf, .evr] s (brakeTestStep n s) := by
  unfold brakeTestStep
  exact .ite (fun _ => .refl) (fun _ => .app (.ite (fun _ => .comp (brakeTestDone_changes _ _ _) rfl (.refl)) (fun _ => .refl)) (.comp (setSlot_changes _ _ _) rfl (.refl)))

theorem quillEvaluation_changes (s : State) : Changes [.fch, .saf, .evr] s (quillEvaluation s) := by
  unfold quillEvaluation
  exact .ite (fun _ => .comp (refreshQen_changes _) rfl (.each (fun _ _ => .comp (evalSlot_changes _ _) rfl (.comp (brakeTestStep_changes _ _) rfl (.comp (stuckStep_changes _ _) rfl (.refl)))) (.refl))) (fun _ => .comp (refreshQen_changes _) rfl (.refl))

theorem slotEvent_changes {T : List Part} {n : ℕ} {ok : SlotCfg → Slot → Bool} {f : State → State} {s : State} (hT : subParts [.fch, .saf, .evr] T = true) (h_f : ∀ u, Changes T u (f u)) :
    Changes T s (slotEvent n ok f s) := by
  unfold slotEvent
  exact (by
   try dsimp only
   split
   · exact .refl
   · exact .ite (fun _ => .comp (refreshQen_changes _) (subParts_trans rfl hT) (.app (h_f _) (.refl))) (fun _ => .refl)
)

theorem ownPulse_changes (n : ℕ) (k : ℕ) (ok : Bool) (s : State) : Changes [.saf, .evr] s (ownPulse n k ok s) := by
  unfold ownPulse
  exact .app (.ite (fun _ => .comp (slotFault_changes _ _ _) rfl (.refl)) (fun _ => .refl)) (.comp (setSlot_changes _ _ _) rfl (.refl))

theorem otherPulse_changes (n : ℕ) (k : ℕ) (low : Bool) (s : State) : Changes [.saf, .evr] s (otherPulse n k low s) := by
  unfold otherPulse
  exact .app (.ite (fun _ => .comp (slotFault_changes _ _ _) rfl (.refl)) (fun _ => .refl)) (.comp (setSlot_changes _ _ _) rfl (.refl))

theorem periodUnchecked_changes (n : ℕ) (p : PulseSamples) (s : State) : Changes [.saf] s (periodUnchecked n p s) := by
  unfold periodUnchecked
  exact .ite (fun _ => .comp (setSlot_changes _ _ _) rfl (.refl)) (fun _ => .refl)

theorem testPulseCheck_changes (n : ℕ) (p : PulseSamples) (s : State) : Changes [.fch, .saf, .evr] s (testPulseCheck n p s) := by
  unfold testPulseCheck
  exact .app (slotEvent_changes rfl (fun _ => .ite (fun _ => .comp (ownPulse_changes _ _ _ _) rfl (.refl)) (fun _ => .comp (otherPulse_changes _ _ _ _) rfl (.refl)))) (.comp (periodUnchecked_changes _ _ _) rfl (.refl))

theorem resetSlot_changes (n : ℕ) (s : State) : Changes [.saf, .evr] s (resetSlot n s) := by
  unfold resetSlot
  exact (by
   try dsimp only
   split
   · exact .ite (fun _ => .refl) (fun _ => .comp (slotTo_changes _ _ _ _) rfl (.refl))
   · exact .ite (fun _ => .comp (slotTo_changes _ _ _ _) rfl (.refl)) (fun _ => .refl)
   · exact .refl
)

theorem clearLatches_changes (p : ℕ) (s : State) : Changes [.saf] s (clearLatches p s) := by
  unfold clearLatches
  exact .comp (onSaf_changes _ _) rfl (.refl)

theorem resetDemand_changes (i : ℕ) (ms : ℕ) (s : State) : Changes [.fch, .saf, .evr] s (resetDemand i ms s) := by
  unfold resetDemand
  exact .ite (fun _ => .refl) (fun _ => .ite (fun _ => .each (fun _ _ => .comp (setSlot_changes _ _ _) rfl (.refl)) (.refl)) (fun _ => .app (.comp (refreshQen_changes _) rfl (.each (fun _ _ => .comp (resetSlot_changes _ _) rfl (.refl)) (.refl))) (.each (fun _ _ => .comp (clearLatches_changes _ _) rfl (.refl)) (.refl))))

theorem setPair_changes (p : ℕ) (f : Pair → Pair) (s : State) : Changes [.saf] s (setPair p f s) := by
  unfold setPair
  exact .comp (onSaf_changes _ _) rfl (.refl)

theorem switchOffTest_changes (p : ℕ) (side : Side) (v : ℤ) (s : State) : Changes [.fch, .saf, .evr] s (switchOffTest p side v s) := by
  unfold switchOffTest
  exact .ite (fun _ => .app (.ite (fun _ => .comp (refreshQen_changes _) rfl (.comp (latchPairs_changes _ _ _) rfl (.comp (post_changes _ _ _ _) rfl (.refl)))) (fun _ => .refl)) (.comp (setPair_changes _ _ _) rfl (.refl))) (fun _ => .refl)

theorem edmFault_changes (p : ℕ) (s : State) : Changes [.fch, .saf, .evr] s (edmFault p s) := by
  unfold edmFault
  exact .comp (latchPairs_changes _ _ _) rfl (.comp (post_changes _ _ _ _) rfl (.refl))

theorem edmTimeout_changes (p : ℕ) (s : State) : Changes [.fch, .saf, .evr] s (edmTimeout p s) := by
  unfold edmTimeout
  exact .ite (fun _ => .comp (refreshQen_changes _) rfl (.comp (edmFault_changes _ _) rfl (.refl))) (fun _ => .refl)

theorem pairAtTo_changes (p : ℕ) (s : State) : Changes [.fch, .saf, .evr] s (pairAtTo p s) := by
  unfold pairAtTo
  exact .app (.ite (fun _ => .comp (edmFault_changes _ _) rfl (.refl)) (fun _ => .refl)) (.comp (setPair_changes _ _ _) rfl (.refl))

theorem pairsAtTo_changes (s : State) : Changes [.fch, .saf, .evr] s (pairsAtTo s) := by
  unfold pairsAtTo
  exact .each (fun _ _ => .comp (pairAtTo_changes _ _) rfl (.refl)) (.refl)

theorem brakeFeedback_changes (n : ℕ) (s : State) : Changes [.fch, .saf, .evr] s (brakeFeedback n s) := by
  unfold brakeFeedback
  exact .app (slotEvent_changes rfl (fun _ => .ite (fun _ => .comp (slotFault_changes _ _ _) rfl (.refl)) (fun _ => .ite (fun _ => .comp (slotFault_changes _ _ _) rfl (.refl)) (fun _ => .refl)))) (.refl)

theorem ageSlot_changes (n : ℕ) (s : State) : Changes [.saf, .evr] s (ageSlot n s) := by
  unfold ageSlot
  exact .app (.ite (fun _ => .comp (post_changes _ _ _ _) rfl (.refl)) (fun _ => .refl)) (.comp (onSaf_changes _ _) rfl (.refl))

theorem quillStreamLost_changes (g : ℕ) (s : State) : Changes [.fch, .saf, .evr] s (quillStreamLost g s) := by
  unfold quillStreamLost
  exact .app (.app (.comp (quillEvaluation_changes _) rfl (.refl)) (.each (fun _ _ => .comp (setPair_changes _ _ _) rfl (.refl)) (.refl))) (.comp (setGrp_changes _ _ _) rfl (.refl))

theorem ctxWrite_changes {T : List Part} {w : Who} {c : ℕ} {k : State → Written} {s : State} (hT : subParts [.cvu] T = true) (h_k : ∀ u, ChangesW T u (k u)) :
    ChangesW T s (ctxWrite w c k s) := by
  unfold ctxWrite
  exact (.ite (fun _ => (.app (h_k _) (.refl))) (fun _ => (.refuse (.comp (onCvu_changes _ _) (subParts_trans rfl hT) (.refl)))))

theorem cfgWrite_changes (c : ℕ) (v : Word) (s : State) : ChangesW [.cvu] s (cfgWrite c v s) := by
  unfold cfgWrite
  exact (.ite (fun _ => (.refuse (.refl))) (fun _ => (.done (.comp (setCtx_changes _ _ _) rfl (.refl)))))

theorem expectWrite_changes (c : ℕ) (v : Word) (s : State) : ChangesW [.cvu] s (expectWrite c v s) := by
  unfold expectWrite
  exact (.app ((.done (.ite (fun _ => .refl) (fun _ => .comp (onCvu_changes _ _) rfl (.refl))))) (.comp (setCtx_changes _ _ _) rfl (.refl)))

theorem cmdWrite_changes (c : ℕ) (v : Word) (s : State) : ChangesW [.cvu] s (cmdWrite c v s) := by
  unfold cmdWrite
  exact (.app ((.done (.ite (fun _ => .comp (setCtx_changes _ _ _) rfl (.refl)) (fun _ => .refl)))) (.ite (fun _ => .comp (setCtx_changes _ _ _) rfl (.refl)) (fun _ => .refl)))

theorem claimWrite_changes (w : Who) (v : Word) (s : State) : ChangesW [.cvu] s (claimWrite w v s) := by
  unfold claimWrite
  exact ((by
   try dsimp only
   split
   · exact (.refuse (.refl))
   · exact (.ite (fun _ => (.refuse (.refl))) (fun _ => (.ite (fun _ => (.refuse (.refl))) (fun _ => (.done (.comp (onCvu_changes _ _) rfl (.refl)))))))
))

theorem cvuWrite_changes (w : Who) (off : ℕ) (v : Word) (s : State) : ChangesW [.cvu] s (cvuWrite w off v s) := by
  unfold cvuWrite
  exact (.ite (fun _ => (.comp (claimWrite_changes _ _ _) rfl (.refl))) (fun _ => (.ite (fun _ => (.app (byLaneOr_changes rfl (fun _ => (.done (.comp (onCvu_changes _ _) rfl (.refl))))) (.refl))) (fun _ => (.ite (fun _ => (.app (ctxWrite_changes rfl (fun _ => (.done (.comp (setCtx_changes _ _ _) rfl (.refl))))) (.refl))) (fun _ => (.ite (fun _ => ((by
   try dsimp only
   split
   · exact (.app (ctxWrite_changes rfl (fun _ => (.comp (cfgWrite_changes _ _ _) rfl (.refl)))) (.refl))
   · exact (.app (ctxWrite_changes rfl (fun _ => (.done (.comp (setCtx_changes _ _ _) rfl (.refl))))) (.refl))
   · exact (.app (ctxWrite_changes rfl (fun _ => (.done (.comp (setCtx_changes _ _ _) rfl (.refl))))) (.refl))
   · exact (.app (ctxWrite_changes rfl (fun _ => (.comp (cmdWrite_changes _ _ _) rfl (.refl)))) (.refl))
   · exact (.app (ctxWrite_changes rfl (fun _ => (.done (.comp (setCtx_changes _ _ _) rfl (.refl))))) (.refl))
   · exact (.app (ctxWrite_changes rfl (fun _ => (.comp (expectWrite_changes _ _ _) rfl (.refl)))) (.refl))
   · exact (.app (ctxWrite_changes rfl (fun _ => (.done (.comp (setCtx_changes _ _ _) rfl (.refl))))) (.refl))
   · exact (.refuse (.refl))
))) (fun _ => (.refuse (.refl))))))))))

theorem ctxCommand_changes (p : Path) (c : ℕ) (r : ℕ) (v : Word) (s : State) : Changes [.nibA, .nibB, .cyc, .pnw, .cvu, .sent] s (ctxCommand p c r v s) := by
  unfold ctxCommand
  exact .app (regCommand_changes rfl (fun _ _ _ => (.comp (cvuWrite_changes _ _ _ _) rfl (.refl)))) (.refl)

theorem writeRun_changes {T : List Part} {f : Nat → Word → State → Written} {off : Nat} {ws : List Word} {s : State}
    (_hT : subParts [] T = true) (h_f : ∀ a0 a1 u, ChangesW T u (f a0 a1 u)) : ChangesW T s (writeRun f off ws s) := by
  induction ws generalizing off s with
  | nil => exact .done .refl
  | cons v vs ih =>
    unfold writeRun
    exact .ite (fun _ => .app ih (ChangesW.snd (h_f _ _ _))) (fun _ => h_f _ _ _)

theorem keepRefusals_changes (t : State) (s : State) : Changes [.cyc, .alm, .cvu] s (keepRefusals t s) := by
  unfold keepRefusals
  exact .comp (onCyc_changes _ _) rfl (.comp (onAlm_changes _ _) rfl (.comp (onCvu_changes _ _) rfl (.refl)))

theorem writeWords_changes {T : List Part} {f : ℕ → Word → State → Written} {off : ℕ} {ws : List Word} {s : State} (hT : subParts [.cyc, .alm, .cvu] T = true) (h_f : ∀ a0 a1 u, ChangesW T u (f a0 a1 u)) :
    ChangesW T s (writeWords f off ws s) := by
  unfold writeWords
  exact (.ite (fun _ => (.app (writeRun_changes (subParts_trans rfl hT) (fun _ _ _ => (.app (h_f _ _ _) (.refl)))) (.refl))) (fun _ => (.pair (.comp (keepRefusals_changes _ _) (subParts_trans rfl hT) (.refl)))))

theorem couplerFrame_changes (g : ℕ) (st : Stream) (empty : ℕ) (bs : List Byte) (s : State) : Changes [.fch] s (couplerFrame g st empty bs s) := by
  unfold couplerFrame
  exact .comp (setGrp_changes _ _ _) rfl (.refl)

theorem flushDone_changes (s : State) : Changes [.evr] s (flushDone s) := by
  unfold flushDone
  exact .app (.ite (fun _ => .refl) (fun _ => .comp (onEvr_changes _ _) rfl (.comp (post_changes _ _ _ _) rfl (.comp (onEvr_changes _ _) rfl (.refl))))) (.comp (onEvr_changes _ _) rfl (.refl))

theorem setCursor_changes (w : Who) (f : Cursor → Cursor) (s : State) : Changes [.pnw, .evr] s (setCursor w f s) := by
  unfold setCursor
  exact (by
   try dsimp only
   split
   · exact .comp (onEvr_changes _ _) rfl (.refl)
   · exact .comp (setSession_changes _ _ _) rfl (.refl)
)

theorem evrWrite_changes (w : Who) (off : ℕ) (v : Word) (s : State) : ChangesW [.pnw, .evr] s (evrWrite w off v s) := by
  unfold evrWrite
  exact ((by
   try dsimp only
   split
   · exact (.app (byLevel_changes rfl (fun _ => (.done (.comp (onEvr_changes _ _) rfl (.refl))))) (.refl))
   · exact (.done (.comp (setCursor_changes _ _ _) rfl (.refl)))
   · exact ((by
     try dsimp only
     split
     · exact (.done (.comp (setCursor_changes _ _ _) rfl (.refl)))
     · exact (.done (.comp (setCursor_changes _ _ _) rfl (.refl)))
     · exact (.done (.comp (setCursor_changes _ _ _) rfl (.refl)))
     · exact (.done (.comp (setCursor_changes _ _ _) rfl (.refl)))
     · exact (.refuse (.refl))
))
   · exact (.refuse (.refl))
))

theorem eventsFrom_changes (r : Req) (count : ℕ) (start : Word) (s : State) : Changes [.pnw, .sent] s (eventsFrom r count start s) := by
  unfold eventsFrom
  exact (by
   try dsimp only
   split
   · exact .app (.comp (reply_changes _ _ _ _) rfl (.refl)) (.comp (setSession_changes _ _ _) rfl (.refl))
   · exact .comp (reply_changes _ _ _ _) rfl (.refl)
)

theorem events_changes (r : Req) (count : BitVec 16) (start : State → Word) (s : State) : Changes [.pnw, .sent] s (events r count start s) := by
  unfold events
  exact .app (screenReq_changes rfl (fun _ => .app (acceptIf_changes rfl (fun _ => .comp (eventsFrom_changes _ _ _ _) rfl (.refl))) (.refl))) (.refl)

theorem setLoop_changes (k : ℕ) (f : LoopSt → LoopSt) (s : State) : Changes [.lpe] s (setLoop k f s) := by
  unfold setLoop
  exact .comp (onLpe_changes _ _) rfl (.refl)

theorem setLGroup_changes (g : ℕ) (f : LoopGroupSt → LoopGroupSt) (s : State) : Changes [.lpe] s (setLGroup g f s) := by
  unfold setLGroup
  exact .comp (onLpe_changes _ _) rfl (.refl)

theorem modeRefused_changes (k : ℕ) (s : State) : Changes [.lpe] s (modeRefused k s) := by
  unfold modeRefused
  exact .comp (onLpe_changes _ _) rfl (.comp (setLoop_changes _ _ _) rfl (.refl))

theorem transferSlot_changes (first : Bool) (k : ℕ) (s : State) : Changes [.lpe] s (transferSlot first k s) := by
  unfold transferSlot
  exact .app (.app (.app (.comp (setLoop_changes _ _ _) rfl (.refl)) (.each (fun _ _ => .comp (setLoop_changes _ _ _) rfl (.refl)) (.refl))) (.ite (fun _ => .comp (modeRefused_changes _ _) rfl (.refl)) (fun _ => .refl))) (.comp (setLoop_changes _ _ _) rfl (.refl))

theorem loopTransfer_changes (s : State) : Changes [.lpe] s (loopTransfer s) := by
  unfold loopTransfer
  exact .app (.comp (onLpe_changes _ _) rfl (.refl)) (.each (fun _ _ => .comp (transferSlot_changes _ _ _) rfl (.refl)) (.refl))

theorem handOff_changes (s : State) : Changes [.lpe, .fch, .evr] s (handOff s) := by
  unfold handOff
  exact .each (fun _ _ => .ite (fun _ => .refl) (fun _ => .comp (applyOutput_changes _ _) rfl (.comp (onLpe_changes _ _) rfl (.refl)))) (.refl)

theorem loopInitSlot_changes (k : ℕ) (s : State) : Changes [.lpe] s (loopInitSlot k s) := by
  unfold loopInitSlot
  exact .comp (setLoop_changes _ _ _) rfl (.refl)

theorem loopInit_changes (s : State) : Changes [.lpe, .fch, .evr] s (loopInit s) := by
  unfold loopInit
  exact .app (.app (.comp (handOff_changes _) rfl (.comp (onLpe_changes _ _) rfl (.refl))) (.each (fun _ _ => .comp (setLGroup_changes _ _ _) rfl (.refl)) (.refl))) (.each (fun _ _ => .comp (loopInitSlot_changes _ _) rfl (.refl)) (.refl))

theorem loopRequests_changes (k : ℕ) (s : State) : Changes [.lpe, .evr] s (loopRequests k s) := by
  unfold loopRequests
  exact (by
   try dsimp only
   split
   · exact .comp (setLoop_changes _ _ _) rfl (.ite (fun _ => .comp (post_changes _ _ _ _) rfl (.refl)) (fun _ => .refl))
   · exact .ite (fun _ => .comp (modeRefused_changes _ _) rfl (.comp (setLoop_changes _ _ _) rfl (.ite (fun _ => .comp (post_changes _ _ _ _) rfl (.refl)) (fun _ => .refl)))) (fun _ => .ite (fun _ => .comp (setLoop_changes _ _ _) rfl (.ite (fun _ => .comp (post_changes _ _ _ _) rfl (.refl)) (fun _ => .refl))) (fun _ => .comp (setLoop_changes _ _ _) rfl (.comp (setLoop_changes _ _ _) rfl (.ite (fun _ => .comp (post_changes _ _ _ _) rfl (.refl)) (fun _ => .refl)))))
)

theorem evalLoop_changes (k : Nat) (s : State) : Changes [.lpe] s (evalLoop k s) := by
  unfold evalLoop
  dsimp only
  exact setLoop_changes _ _ _

theorem loopMismatch_changes (k : ℕ) (s : State) : Changes [.sup, .nibA, .nibB, .cyc, .cmp, .lpe, .fch, .saf, .alm, .pst, .frg, .pnw, .evr, .cvu, .dsp, .boot, .sent] s (loopMismatch k s) := by
  unfold loopMismatch
  exact .app (.app (.app (.ite (fun _ => .comp (selfDiag_changes _ _) rfl (.refl)) (fun _ => .refl)) (.comp (diagEvent_changes _) rfl (.comp (post_changes _ _ _ _) rfl (.refl)))) (.comp (onLpe_changes _ _) rfl (.refl))) (.comp (setLoop_changes _ _ _) rfl (.refl))

theorem alignLoop_changes (v : Word) (win : ℕ) (k : ℕ) (s : State) : Changes [.lpe] s (alignLoop v win k s) := by
  unfold alignLoop
  exact .comp (setLoop_changes _ _ _) rfl (.refl)

theorem noteWinner_changes (g : ℕ) (win : ℕ) (s : State) : Changes [.lpe, .evr] s (noteWinner g win s) := by
  unfold noteWinner
  exact .ite (fun _ => .comp (setLGroup_changes _ _ _) rfl (.refl)) (fun _ => .app (.app (.ite (fun _ => .comp (post_changes _ _ _ _) rfl (.comp (onLpe_changes _ _) rfl (.refl))) (fun _ => .refl)) (.comp (setLGroup_changes _ _ _) rfl (.refl))) (.comp (setLoop_changes _ _ _) rfl (.refl)))

theorem deliver_changes (h : ℕ) (s : State) : Changes [.lpe, .evr] s (deliver h s) := by
  unfold deliver
  exact (by
   try dsimp only
   split
   · exact .comp (noteWinner_changes _ _ _) rfl (.comp (setLGroup_changes _ _ _) rfl (.each (fun _ _ => .comp (alignLoop_changes _ _ _ _) rfl (.refl)) (.ite (fun _ => .comp (onLpe_changes _ _) rfl (.each (fun _ _ => .comp (setLoop_changes _ _ _) rfl (.refl)) (.refl))) (fun _ => .each (fun _ _ => .comp (setLoop_changes _ _ _) rfl (.refl)) (.refl)))))
   · exact .each (fun _ _ => .comp (alignLoop_changes _ _ _ _) rfl (.refl)) (.ite (fun _ => .comp (onLpe_changes _ _) rfl (.each (fun _ _ => .comp (setLoop_changes _ _ _) rfl (.refl)) (.refl))) (fun _ => .each (fun _ _ => .comp (setLoop_changes _ _ _) rfl (.refl)) (.refl)))
)

theorem sampleUnit_changes (mism : List ℕ) (dlv : List ℕ) (h : ℕ) (s : State) : Changes [.sup, .nibA, .nibB, .cyc, .cmp, .lpe, .fch, .saf, .alm, .pst, .frg, .pnw, .evr, .cvu, .dsp, .boot, .sent] s (sampleUnit mism dlv h s) := by
  unfold sampleUnit
  exact .app (.ite (fun _ => .each (fun _ _ => .comp (setLoop_changes _ _ _) rfl (.refl)) (.refl)) (fun _ => .ite (fun _ => .app (.comp (setLoop_changes _ _ _) rfl (.comp (loopMismatch_changes _ _) rfl (.refl))) (.each (fun _ _ => .ite (fun _ => .comp (loopMismatch_changes _ _) rfl (.refl)) (fun _ => .comp (setLoop_changes _ _ _) rfl (.refl))) (.refl))) (fun _ => .app (.app (.ite (fun _ => .refl) (fun _ => .comp (deliver_changes _ _) rfl (.refl))) (.comp (setLoop_changes _ _ _) rfl (.refl))) (.each (fun _ _ => .ite (fun _ => .comp (loopMismatch_changes _ _) rfl (.refl)) (fun _ => .comp (evalLoop_changes _ _) rfl (.refl))) (.refl))))) (.each (fun _ _ => .comp (loopRequests_changes _ _) rfl (.refl)) (.refl))

theorem traceSample_changes (hits : List ℕ) (j : ℕ) (s : State) : Changes [.lpe, .evr] s (traceSample hits j s) := by
  unfold traceSample
  exact (by
   try dsimp only
   split
   · exact .comp (onLpe_changes _ _) rfl (.refl)
   · exact .comp (onLpe_changes _ _) rfl (.refl)
   · exact .ite (fun _ => .comp (post_changes _ _ _ _) rfl (.comp (onLpe_changes _ _) rfl (.comp (onLpe_changes _ _) rfl (.refl)))) (fun _ => .comp (onLpe_changes _ _) rfl (.refl))
   · exact .refl
)

theorem traceTick_changes (sampled : List ℕ) (s : State) : Changes [.lpe, .evr] s (traceTick sampled s) := by
  unfold traceTick
  exact .app (.app (.app (.each (fun _ _ => .comp (setLoop_changes _ _ _) rfl (.refl)) (.refl)) (.comp (onLpe_changes _ _) rfl (.refl))) (.each (fun _ _ => .comp (traceSample_changes _ _ _) rfl (.refl)) (.refl))) (.each (fun _ _ => .comp (onLpe_changes _ _) rfl (.refl)) (.refl))

theorem loopTick_changes (mism : List ℕ) (dlv : List ℕ) (s : State) : Changes [.sup, .nibA, .nibB, .cyc, .cmp, .lpe, .fch, .saf, .alm, .pst, .frg, .pnw, .evr, .cvu, .dsp, .boot, .sent] s (loopTick mism dlv s) := by
  unfold loopTick
  exact .ite (fun _ => .app (.comp (traceTick_changes _ _) rfl (.refl)) (.each (fun _ _ => .comp (sampleUnit_changes _ _ _ _) rfl (.refl)) (.refl))) (fun _ => .refl)

theorem loopHandoff_changes (t : BitVec 16) (s : State) : Changes [.sup, .nibA, .nibB, .cyc, .cmp, .lpe, .fch, .saf, .alm, .pst, .frg, .pnw, .evr, .cvu, .dsp, .boot, .sent] s (loopHandoff t s) := by
  unfold loopHandoff
  exact .ite (fun _ => .app (.ite (fun _ => .comp (selfDiag_changes _ _) rfl (.refl)) (fun _ => .comp (handOff_changes _) rfl (.refl))) (.comp (onLpe_changes _ _) rfl (.refl))) (fun _ => .refl)

theorem loopSlotWrite_changes (k : ℕ) (r : ℕ) (v : Word) (s : State) : ChangesW [.lpe] s (loopSlotWrite k r v s) := by
  unfold loopSlotWrite
  exact (.ite (fun _ => (.refuse (.refl))) (fun _ => (.ite (fun _ => (.refuse (.refl))) (fun _ => (.ite (fun _ => (.refuse (.refl))) (fun _ => (.done (.comp (setLoop_changes _ _ _) rfl (.refl)))))))))

theorem traceCfgWrite_changes (j : ℕ) (r : ℕ) (v : Word) (s : State) : ChangesW [.lpe] s (traceCfgWrite j r v s) := by
  unfold traceCfgWrite
  exact (.ite (fun _ => (.done (.comp (onLpe_changes _ _) rfl (.refl)))) (fun _ => (.ite (fun _ => (.refuse (.refl))) (fun _ => (.ite (fun _ => (.ite (fun _ => (.refuse (.refl))) (fun _ => (.done (.comp (onLpe_changes _ _) rfl (.refl)))))) (fun _ => (.ite (fun _ => (.refuse (.refl))) (fun _ => (.done (.comp (onLpe_changes _ _) rfl (.refl)))))))))))

theorem traceCmdWrite_changes (j : ℕ) (v : Word) (s : State) : ChangesW [.lpe] s (traceCmdWrite j v s) := by
  unfold traceCmdWrite
  exact ((by
   try dsimp only
   split
   · exact (.done (.refl))
   · exact (.ite (fun _ => (.done (.refl))) (fun _ => (.done (.comp (onLpe_changes _ _) rfl (.refl)))))
   · exact (.ite (fun _ => (.done (.comp (onLpe_changes _ _) rfl (.refl)))) (fun _ => (.done (.refl))))
   · exact (.ite (fun _ => (.done (.comp (onLpe_changes _ _) rfl (.refl)))) (fun _ => (.done (.refl))))
   · exact (.refuse (.refl))
))

theorem lpeWrite_changes (w : Who) (off : ℕ) (v : Word) (s : State) : ChangesW [.lpe] s (lpeWrite w off v s) := by
  unfold lpeWrite
  exact (.ite (fun _ => (.app (byLevel_changes rfl (fun _ => (.done (.comp (onLpe_changes _ _) rfl (.refl))))) (.refl))) (fun _ => (.ite (fun _ => (.ite (fun _ => (.app (byLevel_changes rfl (fun _ => (.comp (traceCfgWrite_changes _ _ _ _) rfl (.refl)))) (.refl))) (fun _ => (.ite (fun _ => (.app (byLevel_changes rfl (fun _ => (.comp (traceCmdWrite_changes _ _ _) rfl (.refl)))) (.refl))) (fun _ => (.refuse (.refl))))))) (fun _ => (.ite (fun _ => (.ite (fun _ => (.app (byLevel_changes rfl (fun _ => (.comp (loopSlotWrite_changes _ _ _ _) rfl (.refl)))) (.refl))) (fun _ => (.ite (fun _ => (.app (byLevel_changes rfl (fun _ => (.done (.comp (setLoop_changes _ _ _) rfl (.refl))))) (.refl))) (fun _ => (.refuse (.refl))))))) (fun _ => (.refuse (.refl))))))))

theorem goto_changes (l : Lane) (target : Word) (s : State) : Changes [.sup, .nibA, .nibB, .cyc, .cmp, .fch, .saf, .alm, .pst, .frg, .pnw, .evr, .cvu, .dsp, .boot, .sent] s (goto l target s) := by
  unfold goto
  exact .ite (fun _ => .comp (setLane_changes _ _ _) rfl (.refl)) (fun _ => .comp (selfDiag_changes _ _) rfl (.refl))

theorem next_changes (l : Lane) (s : State) : Changes [.sup, .nibA, .nibB, .cyc, .cmp, .fch, .saf, .alm, .pst, .frg, .pnw, .evr, .cvu, .dsp, .boot, .sent] s (next l s) := by
  unfold next
  exact .comp (goto_changes _ _ _) rfl (.refl)

theorem blockOp_changes {T : List Part} {l : Lane} {w : Word} {legal : Bool} {k : State → State} {s : State} (hT : subParts [.sup, .nibA, .nibB, .cyc, .cmp, .fch, .saf, .alm, .pst, .frg, .pnw, .evr, .cvu, .dsp, .boot, .sent] T = true) (h_k : ∀ u, Changes T u (k u)) :
    Changes T s (blockOp l w legal k s) := by
  unfold blockOp
  exact .ite (fun _ => .refl) (fun _ => .ite (fun _ => .comp (selfDiag_changes _ _) (subParts_trans rfl hT) (.refl)) (fun _ => .app (h_k _) (.comp (setLane_changes _ _ _) (subParts_trans rfl hT) (.refl))))

theorem writesD_changes (op : BitVec 8) (o : Blk) (legal : Bool) (f : LaneSt → Word) (s : State) : Changes [.sup, .nibA, .nibB, .cyc, .cmp, .fch, .saf, .alm, .pst, .frg, .pnw, .evr, .cvu, .dsp, .boot, .sent] s (writesD op o legal f s) := by
  unfold writesD
  exact .app (blockOp_changes rfl (fun _ => .comp (next_changes _ _) rfl (.comp (setLane_changes _ _ _) rfl (.refl)))) (.refl)

theorem regReg_changes (op : BitVec 8) (o : Blk) (f : Word → Word → Word) (s : State) : Changes [.sup, .nibA, .nibB, .cyc, .cmp, .fch, .saf, .alm, .pst, .frg, .pnw, .evr, .cvu, .dsp, .boot, .sent] s (regReg op o f s) := by
  unfold regReg
  exact .comp (writesD_changes _ _ _ _ _) rfl (.refl)

theorem regImm_changes (op : BitVec 8) (o : Blk) (f : Word → Word) (s : State) : Changes [.sup, .nibA, .nibB, .cyc, .cmp, .fch, .saf, .alm, .pst, .frg, .pnw, .evr, .cvu, .dsp, .boot, .sent] s (regImm op o f s) := by
  unfold regImm
  exact .comp (writesD_changes _ _ _ _ _) rfl (.refl)

theorem regOnly_changes (op : BitVec 8) (o : Blk) (f : Word → Word) (s : State) : Changes [.sup, .nibA, .nibB, .cyc, .cmp, .fch, .saf, .alm, .pst, .frg, .pnw, .evr, .cvu, .dsp, .boot, .sent] s (regOnly op o f s) := by
  unfold regOnly
  exact .comp (writesD_changes _ _ _ _ _) rfl (.refl)

theorem checkpoint_changes (l : Lane) (cell : ℕ) (kind : Byte) (s : State) : Changes [.nibA, .nibB, .cmp] s (checkpoint l cell kind s) := by
  unfold checkpoint
  exact .ite (fun _ => .refl) (fun _ => .ite (fun _ => .comp (onCmp_changes _ _) rfl (.refl)) (fun _ => .comp (onCmp_changes _ _) rfl (.comp (setLane_changes _ _ _) rfl (.refl))))

theorem appendResume_changes (l : Lane) (s : State) : Changes [.nibA, .nibB, .cmp] s (appendResume l s) := by
  unfold appendResume
  exact (by
   try dsimp only
   split
   · exact .refl
   · exact .ite (fun _ => .comp (onCmp_changes _ _) rfl (.comp (setLane_changes _ _ _) rfl (.refl))) (fun _ => .refl)
)

theorem nopWord_changes (l : Lane) (w : Word) (s : State) : Changes [.sup, .nibA, .nibB, .cyc, .cmp, .fch, .saf, .alm, .pst, .frg, .pnw, .evr, .cvu, .dsp, .boot, .sent] s (nopWord l w s) := by
  unfold nopWord
  exact .ite (fun _ => .app (blockOp_changes rfl (fun _ => .comp (next_changes _ _) rfl (.refl))) (.refl)) (fun _ => .ite (fun _ => .app (blockOp_changes rfl (fun _ => .refl)) (.refl)) (fun _ => .refl))

theorem branch_changes (op : BitVec 8) (o : Blk) (legal : Bool) (c : Word → Bool) (s : State) : Changes [.sup, .nibA, .nibB, .cyc, .cmp, .fch, .saf, .alm, .pst, .frg, .pnw, .evr, .cvu, .dsp, .boot, .sent] s (branch op o legal c s) := by
  unfold branch
  exact .app (blockOp_changes rfl (fun _ => .ite (fun _ => .comp (goto_changes _ _ _) rfl (.refl)) (fun _ => .comp (next_changes _ _) rfl (.refl)))) (.refl)

theorem jmpOp_changes (o : Blk) (s : State) : Changes [.sup, .nibA, .nibB, .cyc, .cmp, .fch, .saf, .alm, .pst, .frg, .pnw, .evr, .cvu, .dsp, .boot, .sent] s (jmpOp o s) := by
  unfold jmpOp
  exact .app (blockOp_changes rfl (fun _ => .comp (goto_changes _ _ _) rfl (.refl))) (.refl)

theorem callOp_changes (o : Blk) (s : State) : Changes [.sup, .nibA, .nibB, .cyc, .cmp, .fch, .saf, .alm, .pst, .frg, .pnw, .evr, .cvu, .dsp, .boot, .sent] s (callOp o s) := by
  unfold callOp
  exact .app (blockOp_changes rfl (fun _ => .comp (goto_changes _ _ _) rfl (.comp (setLane_changes _ _ _) rfl (.refl)))) (.refl)

theorem noteDivz_changes (op : BitVec 8) (o : Blk) (s : State) (t : State) : Changes [.cyc] t (noteDivz op o s t) := by
  unfold noteDivz
  exact .ite (fun _ => .comp (onCyc_changes _ _) rfl (.refl)) (fun _ => .refl)

theorem shiftImm_changes (op : BitVec 8) (o : Blk) (f : Word → ℕ → Word) (s : State) : Changes [.sup, .nibA, .nibB, .cyc, .cmp, .fch, .saf, .alm, .pst, .frg, .pnw, .evr, .cvu, .dsp, .boot, .sent] s (shiftImm op o f s) := by
  unfold shiftImm
  exact .comp (writesD_changes _ _ _ _ _) rfl (.refl)

theorem loadOp_changes (op : BitVec 8) (o : Blk) (legal : Bool) (ea : LaneSt → Word) (s : State) : Changes [.sup, .nibA, .nibB, .cyc, .cmp, .fch, .saf, .alm, .pst, .frg, .pnw, .evr, .cvu, .dsp, .boot, .sent] s (loadOp op o legal ea s) := by
  unfold loadOp
  exact .app (blockOp_changes rfl (fun _ => .ite (fun _ => .comp (next_changes _ _) rfl (.comp (setLane_changes _ _ _) rfl (.refl))) (fun _ => .comp (selfDiag_changes _ _) rfl (.refl)))) (.refl)

theorem storeOp_changes (op : BitVec 8) (o : Blk) (legal : Bool) (ea : LaneSt → Word) (s : State) : Changes [.sup, .nibA, .nibB, .cyc, .cmp, .fch, .saf, .alm, .pst, .frg, .pnw, .evr, .cvu, .dsp, .boot, .sent] s (storeOp op o legal ea s) := by
  unfold storeOp
  exact .app (blockOp_changes rfl (fun _ => .ite (fun _ => .ite (fun _ => .comp (selfDiag_changes _ _) rfl (.refl)) (fun _ => .comp (next_changes _ _) rfl (.ite (fun _ => .refl) (fun _ => .comp (setLane_changes _ _ _) rfl (.refl))))) (fun _ => .comp (selfDiag_changes _ _) rfl (.refl)))) (.refl)

theorem setCell_changes (n : ℕ) (f : CellSt → CellSt) (s : State) : Changes [.cyc] s (setCell n f s) := by
  unfold setCell
  exact .comp (onCyc_changes _ _) rfl (.refl)

theorem inOp_changes (o : Blk) (s : State) : Changes [.sup, .nibA, .nibB, .cyc, .cmp, .fch, .saf, .alm, .pst, .frg, .pnw, .evr, .cvu, .dsp, .boot, .sent] s (inOp o s) := by
  unfold inOp
  exact .app (blockOp_changes rfl (fun _ => .ite (fun _ => .app (.comp (next_changes _ _) rfl (.comp (setLane_changes _ _ _) rfl (.refl))) (.ite (fun _ => .comp (setCell_changes _ _ _) rfl (.refl)) (fun _ => .refl))) (fun _ => .comp (selfDiag_changes _ _) rfl (.refl)))) (.refl)

theorem outOp_changes (o : Blk) (s : State) : Changes [.sup, .nibA, .nibB, .cyc, .cmp, .fch, .saf, .alm, .pst, .frg, .pnw, .evr, .cvu, .dsp, .boot, .sent] s (outOp o s) := by
  unfold outOp
  exact .app (blockOp_changes rfl (fun _ => .ite (fun _ => .app (.comp (next_changes _ _) rfl (.ite (fun _ => .comp (onCmp_changes _ _) rfl (.refl)) (fun _ => .comp (setLane_changes _ _ _) rfl (.refl)))) (.comp (setLane_changes _ _ _) rfl (.refl))) (fun _ => .comp (selfDiag_changes _ _) rfl (.refl)))) (.refl)

theorem cellIn_changes (o : Blk) (s : State) : Changes [.sup, .nibA, .nibB, .cyc, .cmp, .fch, .saf, .alm, .pst, .frg, .pnw, .evr, .cvu, .dsp, .boot, .sent] s (cellIn o s) := by
  unfold cellIn
  exact .app (blockOp_changes rfl (fun _ => .ite (fun _ => .comp (next_changes _ _) rfl (.comp (checkpoint_changes _ _ _ _) rfl (.comp (setLane_changes _ _ _) rfl (.refl)))) (fun _ => .comp (selfDiag_changes _ _) rfl (.refl)))) (.refl)

theorem cellOut_changes (o : Blk) (s : State) : Changes [.sup, .nibA, .nibB, .cyc, .cmp, .fch, .saf, .alm, .pst, .frg, .pnw, .evr, .cvu, .dsp, .boot, .sent] s (cellOut o s) := by
  unfold cellOut
  exact .app (blockOp_changes rfl (fun _ => .ite (fun _ => .comp (next_changes _ _) rfl (.comp (checkpoint_changes _ _ _ _) rfl (.comp (setLane_changes _ _ _) rfl (.refl)))) (fun _ => .comp (selfDiag_changes _ _) rfl (.refl)))) (.refl)

theorem sysOp_changes {T : List Part} {n : BitVec 12} {l : Lane} {d : BitVec 6} {a : BitVec 6} {legal : Bool} {k : State → State} {s : State} (hT : subParts [.sup, .nibA, .nibB, .cyc, .cmp, .fch, .saf, .alm, .pst, .frg, .pnw, .evr, .cvu, .dsp, .boot, .sent] T = true) (h_k : ∀ u, Changes T u (k u)) :
    Changes T s (sysOp n l d a legal k s) := by
  unfold sysOp
  exact .app (blockOp_changes (subParts_trans rfl hT) (fun _ => .comp (next_changes _ _) (subParts_trans rfl hT) (.app (h_k _) (.refl)))) (.refl)

theorem result_changes (l : Lane) (d : BitVec 6) (v : Word) (s : State) : Changes [.nibA, .nibB] s (result l d v s) := by
  unfold result
  exact .comp (setLane_changes _ _ _) rfl (.refl)

theorem recBlock_changes (num : BitVec 12) (n : ℕ) (l : Lane) (d : BitVec 6) (a : BitVec 6) (stores : Bool) (k : ℕ → LaneSt → LaneSt × Word) (s : State) : Changes [.sup, .nibA, .nibB, .cyc, .cmp, .fch, .saf, .alm, .pst, .frg, .pnw, .evr, .cvu, .dsp, .boot, .sent] s (recBlock num n l d a stores k s) := by
  unfold recBlock
  exact .app (blockOp_changes rfl (fun _ => .ite (fun _ => .comp (selfDiag_changes _ _) rfl (.refl)) (fun _ => .ite (fun _ => .comp (selfDiag_changes _ _) rfl (.refl)) (fun _ => .comp (next_changes _ _) rfl (.comp (setLane_changes _ _ _) rfl (.refl)))))) (.refl)

theorem timerBlock_changes (num : BitVec 12) (step : Bool → ℕ → TimerRec → TimerRec) (l : Lane) (d : BitVec 6) (a : BitVec 6) (s : State) : Changes [.sup, .nibA, .nibB, .cyc, .cmp, .fch, .saf, .alm, .pst, .frg, .pnw, .evr, .cvu, .dsp, .boot, .sent] s (timerBlock num step l d a s) := by
  unfold timerBlock
  exact .comp (recBlock_changes _ _ _ _ _ _ _ _) rfl (.refl)

theorem evpostOp_changes (l : Lane) (d : BitVec 6) (s : State) : Changes [.nibA, .nibB, .cyc] s (evpostOp l d s) := by
  unfold evpostOp
  exact .app (.ite (fun _ => .comp (result_changes _ _ _ _) rfl (.comp (objRefused_changes _) rfl (.refl))) (fun _ => .comp (result_changes _ _ _ _) rfl (.comp (queueForTo_changes _ _ _) rfl (.refl)))) (.comp (setLane_changes _ _ _) rfl (.refl))

theorem cellstatOp_changes (l : Lane) (d : BitVec 6) (s : State) : Changes [.nibA, .nibB, .cyc] s (cellstatOp l d s) := by
  unfold cellstatOp
  exact .app (.comp (result_changes _ _ _ _) rfl (.refl)) (.ite (fun _ => .comp (setCell_changes _ _ _) rfl (.refl)) (fun _ => .refl))

theorem cellmodeOp_changes (l : Lane) (d : BitVec 6) (s : State) : Changes [.nibA, .nibB, .cyc] s (cellmodeOp l d s) := by
  unfold cellmodeOp
  exact .ite (fun _ => .comp (result_changes _ _ _ _) rfl (.refl)) (fun _ => .comp (result_changes _ _ _ _) rfl (.ite (fun _ => .comp (setCell_changes _ _ _) rfl (.refl)) (fun _ => .refl)))

theorem setRingPort_changes (p : ℕ) (f : RingPort → RingPort) (s : State) : Changes [.frg] s (setRingPort p f s) := by
  unfold setRingPort
  exact .comp (onFrg_changes _ _) rfl (.refl)

theorem setStn_changes (n : ℕ) (f : Stn → Stn) (s : State) : Changes [.frg] s (setStn n f s) := by
  unfold setStn
  exact .comp (onFrg_changes _ _) rfl (.refl)

theorem ringOn_changes (p : Fin 2) (bits : ℕ) (e : Emit) (s : State) : Changes [.frg, .sent] s (ringOn p bits e s) := by
  unfold ringOn
  exact .comp (emits_changes _ _) rfl (.comp (setRingPort_changes _ _ _) rfl (.refl))

theorem ringBoth_changes (bits : ℕ) (both : Emit) (one : Fin 2 → Emit) (s : State) : Changes [.frg, .sent] s (ringBoth bits both one s) := by
  unfold ringBoth
  exact .ite (fun _ => .comp (ringOn_changes _ _ _ _) rfl (.comp (ringOn_changes _ _ _ _) rfl (.refl))) (fun _ => .comp (emit_changes _ _) rfl (.refl))

theorem ringSend_changes (f : RingFrame) (s : State) : Changes [.frg, .sent] s (ringSend f s) := by
  unfold ringSend
  exact .comp (ringBoth_changes _ _ _ _) rfl (.refl)

theorem ringForward_changes (p : Fin 2) (f : RingFrame) (s : State) : Changes [.sent] s (ringForward p f s) := by
  unfold ringForward
  exact .ite (fun _ => .refl) (fun _ => .comp (emit_changes _ _) rfl (.refl))

theorem pathWhole_changes (s : State) : Changes [.frg] s (pathWhole s) := by
  unfold pathWhole
  exact .comp (onFrg_changes _ _) rfl (.refl)

theorem ringValid_changes (p : ℕ) (s : State) : Changes [.frg] s (ringValid p s) := by
  unfold ringValid
  exact .comp (pathWhole_changes _) rfl (.comp (setRingPort_changes _ _ _) rfl (.refl))

theorem ringSupervised_changes (p : ℕ) (s : State) : Changes [.frg] s (ringSupervised p s) := by
  unfold ringSupervised
  exact .comp (pathWhole_changes _) rfl (.comp (setRingPort_changes _ _ _) rfl (.refl))

theorem ringInvalid_changes (p : ℕ) (s : State) : Changes [.frg, .cvu] s (ringInvalid p s) := by
  unfold ringInvalid
  exact .comp (checkFailed_changes _ _) rfl (.comp (setRingPort_changes _ _ _) rfl (.refl))

theorem ringArrive_changes {T : List Part} {p : Fin 2} {f : RingFrame} {pass : State → State} {k : State → State} {s : State} (hT : subParts [.frg] T = true) (h_pass : ∀ u, Changes T u (pass u)) (h_k : ∀ u, Changes T u (k u)) :
    Changes T s (ringArrive p f pass k s) := by
  unfold ringArrive
  exact .ite (fun _ => .refl) (fun _ => .ite (fun _ => .comp (ringSupervised_changes _ _) (subParts_trans rfl hT) (.app (h_pass _) (.refl))) (fun _ => .app (.ite (fun _ => .refl) (fun _ => .app (h_k _) (.refl))) (.app (h_pass _) (.refl))))

theorem ringTake_changes {T : List Part} {p : Fin 2} {f : RingFrame} {want : Word} {k : Word → State → State} {s : State} (hT : subParts [.frg, .cvu] T = true) (h_k : ∀ a0 u, Changes T u (k a0 u)) :
    Changes T s (ringTake p f want k s) := by
  unfold ringTake
  exact .ite (fun _ => .app (h_k _ _) (.comp (ringValid_changes _ _) (subParts_trans rfl hT) (.refl))) (fun _ => .comp (ringInvalid_changes _ _) (subParts_trans rfl hT) (.refl))

theorem ringAccept_changes {T : List Part} {p : Fin 2} {kind : Byte} {f : RingFrame} {want : Word} {k : Word → State → State} {s : State} (hT : subParts [.frg, .cvu, .sent] T = true) (h_k : ∀ a0 u, Changes T u (k a0 u)) :
    Changes T s (ringAccept p kind f want k s) := by
  unfold ringAccept
  exact .app (ringArrive_changes (subParts_trans rfl hT) (fun _ => .comp (ringForward_changes _ _ _) (subParts_trans rfl hT) (.refl)) (fun _ => .ite (fun _ => .refl) (fun _ => .app (ringTake_changes (subParts_trans rfl hT) (fun _ _ => .app (h_k _ _) (.refl))) (.refl)))) (.refl)

theorem syncSend_changes (s : State) : Changes [.frg, .sent, .free] s (syncSend s) := by
  unfold syncSend
  exact .ite (fun _ => .app (.comp (ringSend_changes _ _) rfl (.comp (takeFree_changes _) rfl (.refl))) (.comp (onFrg_changes _ _) rfl (.refl))) (fun _ => .refl)

theorem syncForward_changes (p : Fin 2) (f : RingFrame) (s : State) : Changes [.sent, .free] s (syncForward p f s) := by
  unfold syncForward
  exact .comp (ringForward_changes _ _ _) rfl (.comp (takeFree_changes _) rfl (.refl))

theorem takeSync_changes (p : Fin 2) (f : RingFrame) (sq : Word) (s : State) : Changes [.frg] s (takeSync p f sq s) := by
  unfold takeSync
  exact .ite (fun _ => .refl) (fun _ => .comp (onFrg_changes _ _) rfl (.refl))

theorem syncReceived_changes (p : Fin 2) (f : RingFrame) (s : State) : Changes [.frg, .cvu, .sent, .free] s (syncReceived p f s) := by
  unfold syncReceived
  exact .app (ringArrive_changes rfl (fun _ => .comp (syncForward_changes _ _ _) rfl (.refl)) (fun _ => .ite (fun _ => .refl) (fun _ => .ite (fun _ => .comp (ringInvalid_changes _ _) rfl (.refl)) (fun _ => .app (ringTake_changes rfl (fun _ _ => .comp (takeSync_changes _ _ _ _) rfl (.refl))) (.refl))))) (.refl)

theorem countC_changes (s : State) : Changes [.frg] s (countC s) := by
  unfold countC
  exact (by
   try dsimp only
   split
   · exact .ite (fun _ => .comp (onFrg_changes _ _) rfl (.refl)) (fun _ => .refl)
   · exact .refl
)

theorem takeInput_changes (p : ℕ) (n : ℕ) (cfg : StationCfg) (f : RingFrame) (s : State) : Changes [.cyc, .frg] s (takeInput p n cfg f s) := by
  unfold takeInput
  exact .app (.app (.comp (setStn_changes _ _ _) rfl (.refl)) (.comp (onCyc_changes _ _) rfl (.refl))) (.comp (onFrg_changes _ _) rfl (.refl))

theorem inputValid_changes (p : Fin 2) (n : ℕ) (cfg : StationCfg) (f : RingFrame) (want : Word) (sq : Word) (s : State) : Changes [.cyc, .frg] s (inputValid p n cfg f want sq s) := by
  unfold inputValid
  exact .ite (fun _ => .refl) (fun _ => .ite (fun _ => .comp (setStn_changes _ _ _) rfl (.refl)) (fun _ => .ite (fun _ => .refl) (fun _ => .comp (takeInput_changes _ _ _ _ _) rfl (.refl))))

theorem inputReceived_changes (p : Fin 2) (f : RingFrame) (s : State) : Changes [.cyc, .frg, .cvu, .sent] s (inputReceived p f s) := by
  unfold inputReceived
  exact .app (ringArrive_changes rfl (fun _ => .comp (ringForward_changes _ _ _) rfl (.refl)) (fun _ => (by
   try dsimp only
   split
   · exact .ite (fun _ => .refl) (fun _ => .app (ringTake_changes rfl (fun _ _ => .comp (inputValid_changes _ _ _ _ _ _ _) rfl (.refl))) (.refl))
   · exact .refl
))) (.refl)

theorem deadlineStn_changes (n : ℕ) (s : State) : Changes [.cyc, .frg, .evr] s (deadlineStn n s) := by
  unfold deadlineStn
  exact .ite (fun _ => .refl) (fun _ => .app (.ite (fun _ => .app (.app (.comp (post_changes _ _ _ _) rfl (.comp (onFrg_changes _ _) rfl (.refl))) (.comp (onCyc_changes _ _) rfl (.refl))) (.comp (setStn_changes _ _ _) rfl (.refl))) (fun _ => .comp (setStn_changes _ _ _) rfl (.refl))) (.comp (onFrg_changes _ _) rfl (.refl)))

theorem joinReceived_changes (p : Fin 2) (f : RingFrame) (s : State) : Changes [.frg, .cvu, .sent] s (joinReceived p f s) := by
  unfold joinReceived
  exact .app (ringAccept_changes rfl (fun _ _ => .ite (fun _ => .comp (setStn_changes _ _ _) rfl (.refl)) (fun _ => .refl))) (.refl)

theorem grantStn_changes (n : ℕ) (s : State) : Changes [.frg, .evr, .sent, .free] s (grantStn n s) := by
  unfold grantStn
  exact (by
   try dsimp only
   split
   · exact .refl
   · exact .app (.ite (fun _ => .comp (ringSend_changes _ _) rfl (.comp (onFrg_changes _ _) rfl (.refl))) (fun _ => .app (.app (.app (.app (.comp (ringSend_changes _ _) rfl (.comp (post_changes _ _ _ _) rfl (.refl))) (.comp (onFrg_changes _ _) rfl (.refl))) (.comp (setStn_changes _ _ _) rfl (.refl))) (.comp (takeFree_changes _) rfl (.refl))) (.comp (takeFree_changes _) rfl (.refl)))) (.comp (setStn_changes _ _ _) rfl (.refl))
)

theorem grantAll_changes (s : State) : Changes [.frg, .evr, .sent, .free] s (grantAll s) := by
  unfold grantAll
  exact .ite (fun _ => .each (fun _ _ => .comp (grantStn_changes _ _) rfl (.refl)) (.refl)) (fun _ => .refl)

theorem sendOutput_changes (n : ℕ) (s : State) : Changes [.frg, .sent] s (sendOutput n s) := by
  unfold sendOutput
  exact (by
   try dsimp only
   split
   · exact .ite (fun _ => .comp (ringSend_changes _ _) rfl (.comp (setStn_changes _ _ _) rfl (.refl))) (fun _ => .refl)
   · exact .refl
)

theorem sendClosed_changes (cell : ℕ) (s : State) : Changes [.frg, .sent] s (sendClosed cell s) := by
  unfold sendClosed
  exact .each (fun _ _ => .comp (sendOutput_changes _ _) rfl (.refl)) (.refl)

theorem sendCommit_changes (s : State) : Changes [.frg, .sent] s (sendCommit s) := by
  unfold sendCommit
  exact (by
   try dsimp only
   split
   · exact .refl
   · exact .comp (ringSend_changes _ _) rfl (.comp (onFrg_changes _ _) rfl (.refl))
)

theorem ringT0_changes (s : State) : Changes [.frg] s (ringT0 s) := by
  unfold ringT0
  exact .comp (countC_changes _) rfl (.comp (onFrg_changes _ _) rfl (.refl))

theorem holdOutputs_changes (s : State) : Changes [.frg, .sent] s (holdOutputs s) := by
  unfold holdOutputs
  exact .ite (fun _ => .comp (sendCommit_changes _) rfl (.each (fun _ _ => .comp (sendOutput_changes _ _) rfl (.refl)) (.refl))) (fun _ => .refl)

theorem linkSend_changes (p : Fin 2) (kind : Byte) (dst : Byte) (data : List Byte) (s : State) : Changes [.frg, .sent] s (linkSend p kind dst data s) := by
  unfold linkSend
  exact .comp (ringOn_changes _ _ _ _) rfl (.comp (setRingPort_changes _ _ _) rfl (.refl))

theorem linkAccept_changes {T : List Part} {p : Fin 2} {kind : Byte} {f : RingFrame} {k : State → State} {s : State} (hT : subParts [.frg, .cvu, .sent] T = true) (h_k : ∀ u, Changes T u (k u)) :
    Changes T s (linkAccept p kind f k s) := by
  unfold linkAccept
  exact .app (ringAccept_changes (subParts_trans rfl hT) (fun _ _ => .app (h_k _) (.comp (setRingPort_changes _ _ _) (subParts_trans rfl hT) (.refl)))) (.refl)

theorem linkReq_changes (p : Fin 2) (f : RingFrame) (s : State) : Changes [.frg, .cvu, .sent] s (linkReq p f s) := by
  unfold linkReq
  exact .app (linkAccept_changes rfl (fun _ => .comp (linkSend_changes _ _ _ _ _) rfl (.refl))) (.refl)

theorem linkRsp_changes (p : Fin 2) (f : RingFrame) (trip : ℕ) (s : State) : Changes [.frg, .cvu, .sent] s (linkRsp p f trip s) := by
  unfold linkRsp
  exact .app (linkAccept_changes rfl (fun _ => .comp (setRingPort_changes _ _ _) rfl (.refl))) (.refl)

theorem pathLoss_changes (s : State) : Changes [.frg] s (pathLoss s) := by
  unfold pathLoss
  exact .comp (onFrg_changes _ _) rfl (.refl)

theorem portDown_changes (d : RingDown) (s : State) : Changes [.frg] s (portDown d s) := by
  unfold portDown
  exact .app (.ite (fun _ => .comp (pathLoss_changes _) rfl (.refl)) (fun _ => .refl)) (.comp (setRingPort_changes _ _ _) rfl (.refl))

theorem cmpFault_changes (reason : Byte) (cell : BitVec 12) (why : FaultReason) (s : State) : Changes [.sup, .nibA, .nibB, .cyc, .cmp, .fch, .saf, .alm, .pst, .frg, .pnw, .evr, .cvu, .dsp, .boot, .sent] s (cmpFault reason cell why s) := by
  unfold cmpFault
  exact .comp (selfDiag_changes _ _) rfl (.comp (onCmp_changes _ _) rfl (.refl))

theorem checkedVerdict_changes (v : Verdict) (cell : BitVec 12) (s : State) : Changes [.sup, .nibA, .nibB, .cyc, .cmp, .fch, .saf, .alm, .pst, .frg, .pnw, .evr, .cvu, .dsp, .boot, .sent] s (checkedVerdict v cell s) := by
  unfold checkedVerdict
  exact (by
   try dsimp only
   split
   · exact .comp (cmpFault_changes _ _ _ _) rfl (.refl)
   · exact .comp (cmpFault_changes _ _ _ _) rfl (.refl)
   · exact .comp (cmpFault_changes _ _ _ _) rfl (.refl)
   · exact .comp (cmpFault_changes _ _ _ _) rfl (.refl)
   · exact .comp (cmpFault_changes _ _ _ _) rfl (.refl)
   · exact .comp (onCmp_changes _ _) rfl (.refl)
   · exact .refl
)

theorem observed_changes (block : Bool) (s : State) : Changes [.cmp] s (observed block s) := by
  unfold observed
  exact .comp (onCmp_changes _ _) rfl (.refl)

theorem observedVerdict_changes (v : Verdict) (s : State) : Changes [.cmp] s (observedVerdict v s) := by
  unfold observedVerdict
  exact (by
   try dsimp only
   split
   · exact .refl
   · exact .comp (observed_changes _ _) rfl (.refl)
   · exact .comp (observed_changes _ _) rfl (.refl)
   · exact .comp (observed_changes _ _) rfl (.refl)
)

theorem compareEntries_changes (badRail : Bool) (s : State) : Changes [.sup, .nibA, .nibB, .cyc, .cmp, .fch, .saf, .alm, .pst, .frg, .pnw, .evr, .cvu, .dsp, .boot, .sent] s (compareEntries badRail s) := by
  unfold compareEntries
  exact (by
   try dsimp only
   split
   · exact .app (.app (.ite (fun _ => .refl) (fun _ => .ite (fun _ => .comp (sendClosed_changes _ _) rfl (.refl)) (fun _ => .refl))) (.ite (fun _ => .comp (observedVerdict_changes _ _) rfl (.refl)) (fun _ => .comp (checkedVerdict_changes _ _ _) rfl (.refl)))) (.comp (onCmp_changes _ _) rfl (.refl))
   · exact .refl
)

theorem compareStalled_changes (s : State) : Changes [.sup, .nibA, .nibB, .cyc, .cmp, .fch, .saf, .alm, .pst, .frg, .pnw, .evr, .cvu, .dsp, .boot, .sent] s (compareStalled s) := by
  unfold compareStalled
  exact (by
   try dsimp only
   split
   · exact .ite (fun _ => .comp (observed_changes _ _) rfl (.refl)) (fun _ => .comp (cmpFault_changes _ _ _ _) rfl (.refl))
   · exact .refl
)

theorem laneStalled_changes (l : Lane) (s : State) : Changes [.sup, .nibA, .nibB, .cyc, .cmp, .fch, .saf, .alm, .pst, .frg, .pnw, .evr, .cvu, .dsp, .boot, .sent, .free] s (laneStalled l s) := by
  unfold laneStalled
  exact .ite (fun _ => .ite (fun _ => .comp (observed_changes _ _) rfl (.refl)) (fun _ => .comp (cmpFault_changes _ _ _ _) rfl (.comp (takeFree_changes _) rfl (.refl)))) (fun _ => .refl)

theorem cellStatus_changes (s : State) : Changes [.cyc] s (cellStatus s) := by
  unfold cellStatus
  exact .each (fun _ _ => .comp (setCell_changes _ _ _) rfl (.refl)) (.refl)

theorem splitOutputs_changes (s : State) : Changes [.frg, .sent] s (splitOutputs s) := by
  unfold splitOutputs
  exact .ite (fun _ => .each (fun _ _ => .comp (sendOutput_changes _ _) rfl (.refl)) (.refl)) (fun _ => .refl)

theorem endOp_changes (o : Blk) (s : State) : Changes [.sup, .nibA, .nibB, .cyc, .cmp, .fch, .saf, .alm, .pst, .frg, .pnw, .evr, .cvu, .dsp, .boot, .sent] s (endOp o s) := by
  unfold endOp
  exact .app (blockOp_changes rfl (fun _ => .ite (fun _ => .comp (splitOutputs_changes _) rfl (.comp (checkpoint_changes _ _ _ _) rfl (.comp (setLane_changes _ _ _) rfl (.refl)))) (fun _ => .comp (selfDiag_changes _ _) rfl (.refl)))) (.refl)

theorem finishCompare_changes (s : State) : Changes [.nibA, .nibB, .cyc, .cmp] s (finishCompare s) := by
  unfold finishCompare
  exact .app (.app (.comp (cellStatus_changes _) rfl (.refl)) (.ite (fun _ => .comp (onCmp_changes _ _) rfl (.refl)) (fun _ => .refl))) ((by
   try dsimp only
   split
   · exact .comp (setCell_changes _ _ _) rfl (.comp (onCmp_changes _ _) rfl (.ite (fun _ => .comp (onCyc_changes _ _) rfl (.upd (.refl) (.inr rfl) (.inr rfl) (.inr rfl) (.inr rfl) (.inr rfl) (.inl rfl) (.inl rfl) (.inr rfl) (.inr rfl) (.inr rfl) (.inr rfl) (.inr rfl) (.inr rfl) (.inr rfl) (.inr rfl) (.inr rfl) (.inr rfl) (.inr rfl) (.inr rfl) (.inr rfl) (.inr rfl) (.inr rfl) (.inr rfl) (.inr rfl) (.inr rfl))) (fun _ => .comp (onCmp_changes _ _) rfl (.comp (onCyc_changes _ _) rfl (.upd (.refl) (.inr rfl) (.inr rfl) (.inr rfl) (.inr rfl) (.inr rfl) (.inl rfl) (.inl rfl) (.inr rfl) (.inr rfl) (.inr rfl) (.inr rfl) (.inr rfl) (.inr rfl) (.inr rfl) (.inr rfl) (.inr rfl) (.inr rfl) (.inr rfl) (.inr rfl) (.inr rfl) (.inr rfl) (.inr rfl) (.inr rfl) (.inr rfl) (.inr rfl))))))
   · exact .ite (fun _ => .comp (onCyc_changes _ _) rfl (.upd (.refl) (.inr rfl) (.inr rfl) (.inr rfl) (.inr rfl) (.inr rfl) (.inl rfl) (.inl rfl) (.inr rfl) (.inr rfl) (.inr rfl) (.inr rfl) (.inr rfl) (.inr rfl) (.inr rfl) (.inr rfl) (.inr rfl) (.inr rfl) (.inr rfl) (.inr rfl) (.inr rfl) (.inr rfl) (.inr rfl) (.inr rfl) (.inr rfl) (.inr rfl))) (fun _ => .comp (onCmp_changes _ _) rfl (.comp (onCyc_changes _ _) rfl (.upd (.refl) (.inr rfl) (.inr rfl) (.inr rfl) (.inr rfl) (.inr rfl) (.inl rfl) (.inl rfl) (.inr rfl) (.inr rfl) (.inr rfl) (.inr rfl) (.inr rfl) (.inr rfl) (.inr rfl) (.inr rfl) (.inr rfl) (.inr rfl) (.inr rfl) (.inr rfl) (.inr rfl) (.inr rfl) (.inr rfl) (.inr rfl) (.inr rfl) (.inr rfl))))
))

theorem compareComplete_changes (s : State) : Changes [.nibA, .nibB, .cyc, .cmp] s (compareComplete s) := by
  unfold compareComplete
  exact .ite (fun _ => .comp (onCyc_changes _ _) rfl (.comp (finishCompare_changes _) rfl (.refl))) (fun _ => .refl)

theorem startDigest_changes (s : State) : Changes [.cmp] s (startDigest s) := by
  unfold startDigest
  exact (by
   try dsimp only
   split
   · exact .comp (onCmp_changes _ _) rfl (.refl)
   · exact .refl
)

theorem benign_changes (c : ℕ) (s : State) : Changes [.nibB, .cmp, .evr] s (benign c s) := by
  unfold benign
  exact .app (.app (.upd (.refl) (.inr rfl) (.inr rfl) (.inr rfl) (.inr rfl) (.inr rfl) (.inr rfl) (.inl rfl) (.inr rfl) (.inr rfl) (.inr rfl) (.inr rfl) (.inr rfl) (.inr rfl) (.inr rfl) (.inr rfl) (.inr rfl) (.inr rfl) (.inr rfl) (.inr rfl) (.inr rfl) (.inr rfl) (.inr rfl) (.inr rfl) (.inr rfl) (.inr rfl)) (.comp (onCmp_changes _ _) rfl (.refl))) (.comp (postCell_changes _ _ _ _ _) rfl (.refl))

theorem digestComplete_changes (s : State) : Changes [.sup, .nibA, .nibB, .cyc, .cmp, .fch, .saf, .alm, .pst, .frg, .pnw, .evr, .cvu, .dsp, .boot, .sent] s (digestComplete s) := by
  unfold digestComplete
  exact .ite (fun _ => .refl) (fun _ => .ite (fun _ => .comp (cmpFault_changes _ _ _ _) rfl (.comp (onCmp_changes _ _) rfl (.refl))) (fun _ => .ite (fun _ => .comp (cmpFault_changes _ _ _ _) rfl (.comp (onCmp_changes _ _) rfl (.refl))) (fun _ => .comp (benign_changes _ _) rfl (.refl))))

theorem recordTest_changes (t : SelfTest) (s : State) : Changes [.cmp] s (recordTest t s) := by
  unfold recordTest
  exact .comp (onCmp_changes _ _) rfl (.refl)

theorem dueDigest_changes (s : State) : Changes [.cmp] s (dueDigest s) := by
  unfold dueDigest
  exact .comp (onCmp_changes _ _) rfl (.comp (startDigest_changes _) rfl (.refl))

theorem rejoinFailed_changes (block : Bool) (s : State) : Changes [.cmp, .evr] s (rejoinFailed block s) := by
  unfold rejoinFailed
  exact .comp (post_changes _ _ _ _) rfl (.comp (onCmp_changes _ _) rfl (.refl))

theorem laneModeT0_changes (s : State) : Changes [.cmp, .evr] s (laneModeT0 s) := by
  unfold laneModeT0
  exact .ite (fun _ => .ite (fun _ => .comp (rejoinFailed_changes _ _) rfl (.refl)) (fun _ => .ite (fun _ => .comp (onCmp_changes _ _) rfl (.refl)) (fun _ => .refl))) (fun _ => .refl)

theorem applySplit_changes (s : State) : Changes [.cmp] s (applySplit s) := by
  unfold applySplit
  exact .comp (onCmp_changes _ _) rfl (.refl)

theorem rejoinCopy_changes (s : State) : Changes [.nibA, .nibB] s (rejoinCopy s) := by
  unfold rejoinCopy
  exact .upd (.refl) (.inr rfl) (.inr rfl) (.inr rfl) (.inr rfl) (.inr rfl) (.inl rfl) (.inl rfl) (.inr rfl) (.inr rfl) (.inr rfl) (.inr rfl) (.inr rfl) (.inr rfl) (.inr rfl) (.inr rfl) (.inr rfl) (.inr rfl) (.inr rfl) (.inr rfl) (.inr rfl) (.inr rfl) (.inr rfl) (.inr rfl) (.inr rfl) (.inr rfl)

theorem beginObservation_changes (s : State) : Changes [.nibA, .nibB, .cmp] s (beginObservation s) := by
  unfold beginObservation
  exact .comp (onCmp_changes _ _) rfl (.comp (rejoinCopy_changes _) rfl (.refl))

theorem rejoinT0_changes (s : State) : Changes [.nibA, .nibB, .cmp] s (rejoinT0 s) := by
  unfold rejoinT0
  exact .ite (fun _ => .comp (beginObservation_changes _) rfl (.refl)) (fun _ => .refl)

theorem rejoinOverrun_changes (s : State) : Changes [.cmp] s (rejoinOverrun s) := by
  unfold rejoinOverrun
  exact .ite (fun _ => .comp (onCmp_changes _ _) rfl (.refl)) (fun _ => .refl)

theorem rejoinLate_changes (s : State) : Changes [.nibA, .nibB, .cmp] s (rejoinLate s) := by
  unfold rejoinLate
  exact .ite (fun _ => .comp (beginObservation_changes _) rfl (.refl)) (fun _ => .refl)

theorem utcFromRtc_changes (s : State) : Changes [.pnw] s (utcFromRtc s) := by
  unfold utcFromRtc
  exact .comp (onPnw_changes _ _) rfl (.refl)

theorem readEffect_changes (a : ℕ) (s : State) : Changes [.sup, .tim, .cyc, .cmp, .lpe, .fch, .alm, .pst, .frg, .evr, .dsp] s (readEffect a s) := by
  unfold readEffect
  exact (by
   try dsimp only
   split
   · exact .comp (onSup_changes _ _) rfl (.refl)
   · exact .comp (onTim_changes _ _) rfl (.refl)
   · exact .comp (onTim_changes _ _) rfl (.refl)
   · exact .comp (onTim_changes _ _) rfl (.refl)
   · exact .comp (onCyc_changes _ _) rfl (.refl)
   · exact .comp (onCmp_changes _ _) rfl (.refl)
   · exact .comp (onLpe_changes _ _) rfl (.refl)
   · exact .comp (onAlm_changes _ _) rfl (.refl)
   · exact .comp (onPst_changes _ _) rfl (.refl)
   · exact .comp (onPst_changes _ _) rfl (.refl)
   · exact .comp (onPst_changes _ _) rfl (.refl)
   · exact .comp (onFrg_changes _ _) rfl (.refl)
   · exact .comp (onEvr_changes _ _) rfl (.refl)
   · exact .comp (setDsp_changes _ _) rfl (.refl)
   · exact .ite (fun _ => .comp (setGrp_changes _ _ _) rfl (.refl)) (fun _ => .refl)
)

theorem setPnt_changes (n : ℕ) (f : Point → Point) (s : State) : Changes [.alm] s (setPnt n f s) := by
  unfold setPnt
  exact .comp (onAlm_changes _ _) rfl (.refl)

theorem sentence_changes (e : Emit) (s : State) : Changes [.alm, .sent] s (sentence e s) := by
  unfold sentence
  exact .app (.comp (emitLan_changes _ _) rfl (.refl)) (.comp (onAlm_changes _ _) rfl (.refl))

theorem sendPointAlf_changes (n : ℕ) (s : State) : Changes [.alm, .sent] s (sendPointAlf n s) := by
  unfold sendPointAlf
  exact .ite (fun _ => .comp (sentence_changes _ _) rfl (.refl)) (fun _ => .refl)

theorem sendGroupAlf_changes (n : ℕ) (s : State) : Changes [.alm, .sent] s (sendGroupAlf n s) := by
  unfold sendGroupAlf
  exact (by
   try dsimp only
   split
   · exact .ite (fun _ => .comp (sentence_changes _ _) rfl (.refl)) (fun _ => .refl)
   · exact .refl
)

theorem showAlarms_changes (s : State) : Changes [.dsp] s (showAlarms s) := by
  unfold showAlarms
  exact .ite (fun _ => .comp (alarmRedraw_changes _) rfl (.refl)) (fun _ => .refl)

theorem pointTo_changes (n : ℕ) (st : PointState) (s : State) : Changes [.alm, .evr, .dsp, .sent] s (pointTo n st s) := by
  unfold pointTo
  exact .ite (fun _ => .refl) (fun _ => .app (.app (.comp (showAlarms_changes _) rfl (.comp (sendPointAlf_changes _ _) rfl (.comp (postCell_changes _ _ _ _ _) rfl (.refl)))) (.ite (fun _ => .comp (onAlm_changes _ _) rfl (.refl)) (fun _ => .refl))) (.comp (setPnt_changes _ _ _) rfl (.refl)))

theorem unshelve_changes (n : ℕ) (s : State) : Changes [.alm, .evr, .dsp, .sent] s (unshelve n s) := by
  unfold unshelve
  exact .ite (fun _ => .refl) (fun _ => .ite (fun _ => .comp (pointTo_changes _ _ _) rfl (.refl)) (fun _ => .comp (pointTo_changes _ _ _) rfl (.comp (setPnt_changes _ _ _) rfl (.refl))))

theorem ackPoint_changes (s0 : State) (n : ℕ) (s : State) : Changes [.alm, .evr, .dsp, .sent] s (ackPoint s0 n s) := by
  unfold ackPoint
  exact .ite (fun _ => (by
   try dsimp only
   split
   · exact .comp (pointTo_changes _ _ _) rfl (.refl)
   · exact .comp (pointTo_changes _ _ _) rfl (.refl)
   · exact .refl
)) (fun _ => .refl)

theorem goesActive_changes (n : ℕ) (s : State) : Changes [.alm, .evr, .dsp, .sent] s (goesActive n s) := by
  unfold goesActive
  exact (by
   try dsimp only
   split
   · exact .comp (pointTo_changes _ _ _) rfl (.comp (setPnt_changes _ _ _) rfl (.refl))
   · exact .comp (pointTo_changes _ _ _) rfl (.comp (setPnt_changes _ _ _) rfl (.refl))
   · exact .comp (postCell_changes _ _ _ _ _) rfl (.comp (setPnt_changes _ _ _) rfl (.refl))
   · exact .comp (setPnt_changes _ _ _) rfl (.refl)
)

theorem returns_changes (n : ℕ) (s : State) : Changes [.alm, .evr, .dsp, .sent] s (returns n s) := by
  unfold returns
  exact (by
   try dsimp only
   split
   · exact .comp (pointTo_changes _ _ _) rfl (.comp (setPnt_changes _ _ _) rfl (.refl))
   · exact .comp (pointTo_changes _ _ _) rfl (.comp (setPnt_changes _ _ _) rfl (.refl))
   · exact .comp (setPnt_changes _ _ _) rfl (.refl)
)

theorem stepDelays_changes (n : ℕ) (s : State) : Changes [.alm, .evr, .dsp, .sent] s (stepDelays n s) := by
  unfold stepDelays
  exact .ite (fun _ => .app (.ite (fun _ => .refl) (fun _ => .ite (fun _ => .comp (goesActive_changes _ _) rfl (.refl)) (fun _ => .comp (setPnt_changes _ _ _) rfl (.refl)))) (.comp (setPnt_changes _ _ _) rfl (.refl))) (fun _ => .app (.ite (fun _ => .refl) (fun _ => .ite (fun _ => .comp (returns_changes _ _) rfl (.refl)) (fun _ => .comp (setPnt_changes _ _ _) rfl (.refl)))) (.comp (setPnt_changes _ _ _) rfl (.refl)))

theorem block_changes (n : ℕ) (rel : ℕ) (s : State) : Changes [.alm, .evr, .dsp, .sent] s (block n rel s) := by
  unfold block
  exact .app (.ite (fun _ => .refl) (fun _ => .app (.ite (fun _ => .comp (postCell_changes _ _ _ _ _) rfl (.refl)) (fun _ => .refl)) (.comp (pointTo_changes _ _ _) rfl (.refl)))) (.comp (setPnt_changes _ _ _) rfl (.refl))

theorem blockStep_changes (n : Nat) (s : State) : ChangesW [.alm, .evr, .dsp, .sent] s (blockStep n s) := by
  unfold blockStep
  split
  · exact .pair .refl
  · dsimp only
    refine .ite (fun _ => .pair (.comp (block_changes _ _ _) rfl (.comp (setPnt_changes _ _ _) rfl .refl)))
      (fun _ => .ite (fun _ => .pair (.comp (block_changes _ _ _) rfl (.comp (setPnt_changes _ _ _) rfl .refl))) (fun _ => .pair ?_))
    split
    · exact .comp (pointTo_changes _ _ _) rfl (.comp (setPnt_changes _ _ _) rfl (.comp (setPnt_changes _ _ _) rfl .refl))
    · exact .comp (setPnt_changes _ _ _) rfl (.comp (setPnt_changes _ _ _) rfl .refl)

theorem shelfStep_changes (n : ℕ) (s : State) : Changes [.alm, .evr, .dsp, .sent] s (shelfStep n s) := by
  unfold shelfStep
  exact .ite (fun _ => .comp (setPnt_changes _ _ _) rfl (.refl)) (fun _ => .ite (fun _ => .app (.ite (fun _ => .comp (unshelve_changes _ _) rfl (.refl)) (fun _ => .refl)) (.comp (setPnt_changes _ _ _) rfl (.refl))) (fun _ => .refl))

theorem restoreStep_changes (n : ℕ) (s : State) : Changes [.alm] s (restoreStep n s) := by
  unfold restoreStep
  exact .ite (fun _ => .comp (setPnt_changes _ _ _) rfl (.refl)) (fun _ => .refl)

theorem takeValue_changes (n : ℕ) (c : PointCfg) (r : Reading) (s : State) : Changes [.alm] s (takeValue n c r s) := by
  unfold takeValue
  exact .comp (setPnt_changes _ _ _) rfl (.refl)

theorem condStep_changes (n : ℕ) (c : PointCfg) (r : Reading) (s : State) : Changes [.alm] s (condStep n c r s) := by
  unfold condStep
  exact .ite (fun _ => .comp (setPnt_changes _ _ _) rfl (.refl)) (fun _ => .comp (setPnt_changes _ _ _) rfl (.refl))

theorem evalPoint_changes (n : ℕ) (s : State) : Changes [.alm, .evr, .dsp, .sent] s (evalPoint n s) := by
  unfold evalPoint
  exact .app (.ite (fun _ => .comp (setPnt_changes _ _ _) rfl (.refl)) (fun _ => .app (.ite (fun _ => ChangesW.snd (.comp (blockStep_changes _ _) rfl (.refl))) (fun _ => .comp (shelfStep_changes _ _) rfl (.comp (stepDelays_changes _ _) rfl (.comp (restoreStep_changes _ _) rfl (ChangesW.snd (.comp (blockStep_changes _ _) rfl (.refl))))))) (.comp (condStep_changes _ _ _ _) rfl (.comp (setPnt_changes _ _ _) rfl (.refl))))) (.comp (takeValue_changes _ _ _ _) rfl (.refl))

theorem cellStep_changes (became : List ℕ) (c : ℕ) (s : State) : Changes [.alm, .dsp, .sent] s (cellStep became c s) := by
  unfold cellStep
  exact .ite (fun _ => .comp (onAlm_changes _ _) rfl (.refl)) (fun _ => .app (.ite (fun _ => .comp (showAlarms_changes _) rfl (.comp (sendGroupAlf_changes _ _) rfl (.comp (onAlm_changes _ _) rfl (.refl)))) (fun _ => .comp (onAlm_changes _ _) rfl (.refl))) (.ite (fun _ => .comp (onAlm_changes _ _) rfl (.refl)) (fun _ => .refl)))

theorem setCall_changes (g : ℕ) (f : Call → Call) (s : State) : Changes [.alm] s (setCall g f s) := by
  unfold setCall
  exact .comp (onAlm_changes _ _) rfl (.refl)

theorem notifyCall_changes (g : ℕ) (s : State) : Changes [.pnw, .sent] s (notifyCall g s) := by
  unfold notifyCall
  exact .ite (fun _ => .each (fun _ _ => (by
   try dsimp only
   split
   · exact .refl
   · exact .comp (emitLan_changes _ _) rfl (.comp (setSession_changes _ _ _) rfl (.refl))
)) (.refl)) (fun _ => .refl)

theorem escalate_changes (g : ℕ) (s : State) : Changes [.alm, .sent] s (escalate g s) := by
  unfold escalate
  exact .app (.app (.each (fun _ _ => .comp (sendGroupAlf_changes _ _) rfl (.comp (onAlm_changes _ _) rfl (.refl))) (.refl)) (.each (fun _ _ => .comp (sendPointAlf_changes _ _) rfl (.comp (setPnt_changes _ _ _) rfl (.refl))) (.refl))) (.comp (setCall_changes _ _ _) rfl (.comp (onAlm_changes _ _) rfl (.refl)))

theorem callStage_changes (g : ℕ) (st : BitVec 2) (s : State) : Changes [.alm, .pnw, .evr, .sent] s (callStage g st s) := by
  unfold callStage
  exact .app (.app (.comp (notifyCall_changes _ _) rfl (.comp (post_changes _ _ _ _) rfl (.refl))) (.ite (fun _ => .comp (escalate_changes _ _) rfl (.refl)) (fun _ => .refl))) (.comp (setCall_changes _ _ _) rfl (.refl))

theorem startCall_changes (g : ℕ) (st : BitVec 2) (alert : ℕ) (s : State) : Changes [.alm, .pnw, .evr, .sent] s (startCall g st alert s) := by
  unfold startCall
  exact .comp (callStage_changes _ _ _) rfl (.comp (setCall_changes _ _ _) rfl (.refl))

theorem endCall_changes (g : ℕ) (s : State) : Changes [.alm, .pnw, .evr, .sent] s (endCall g s) := by
  unfold endCall
  exact .comp (notifyCall_changes _ _) rfl (.comp (post_changes _ _ _ _) rfl (.comp (setCall_changes _ _ _) rfl (.refl)))

theorem callStep_changes (became : List ℕ) (fresh : List ℕ) (g : ℕ) (s : State) : Changes [.alm, .pnw, .evr, .sent] s (callStep became fresh g s) := by
  unfold callStep
  exact .ite (fun _ => .ite (fun _ => .comp (endCall_changes _ _) rfl (.comp (setCall_changes _ _ _) rfl (.refl))) (fun _ => .comp (setCall_changes _ _ _) rfl (.refl))) (fun _ => (by
   try dsimp only
   split
   · exact .comp (setCall_changes _ _ _) rfl (.refl)
   · exact .comp (startCall_changes _ _ _ _) rfl (.comp (setCall_changes _ _ _) rfl (.refl))
))

theorem deadTo_changes (d : DeadState) (e : BitVec 3) (s : State) : Changes [.alm, .evr] s (deadTo d e s) := by
  unfold deadTo
  exact .app (.ite (fun _ => .refl) (fun _ => .comp (post_changes _ _ _ _) rfl (.refl))) (.comp (onAlm_changes _ _) rfl (.refl))

theorem deadAlarm_changes (s : State) : Changes [.alm, .pnw, .evr, .dsp, .sent] s (deadAlarm s) := by
  unfold deadAlarm
  exact (by
   try dsimp only
   split
   · exact .comp (goesActive_changes _ _) rfl (.comp (setPnt_changes _ _ _) rfl (.comp (deadTo_changes _ _ _) rfl (.refl)))
   · exact (by
     try dsimp only
     split
     · exact .comp (startCall_changes _ _ _ _) rfl (.comp (goesActive_changes _ _) rfl (.comp (setPnt_changes _ _ _) rfl (.comp (deadTo_changes _ _ _) rfl (.refl))))
     · exact .ite (fun _ => .comp (callStage_changes _ _ _) rfl (.comp (goesActive_changes _ _) rfl (.comp (setPnt_changes _ _ _) rfl (.comp (deadTo_changes _ _ _) rfl (.refl))))) (fun _ => .comp (goesActive_changes _ _) rfl (.comp (setPnt_changes _ _ _) rfl (.comp (deadTo_changes _ _ _) rfl (.refl))))
     · exact .comp (goesActive_changes _ _) rfl (.comp (setPnt_changes _ _ _) rfl (.comp (deadTo_changes _ _ _) rfl (.refl)))
)
)

theorem almRefused_changes (s : State) : Changes [.alm] s (almRefused s) := by
  unfold almRefused
  exact .comp (onAlm_changes _ _) rfl (.refl)

theorem almQueue_changes (c : AlmCmd) (s : State) : Changes [.alm] s (almQueue c s) := by
  unfold almQueue
  exact .comp (onAlm_changes _ _) rfl (.refl)

theorem almBoth_changes (o : Origin) (p : AlmPath) (w : Word) (s : State) : Changes [.alm, .pst, .sent] s (almBoth o p w s) := by
  unfold almBoth
  exact .ite (fun _ => .app (forwardBoth_changes rfl (fun _ => .refl)) (.refl)) (fun _ => .comp (almQueue_changes _ _) rfl (.refl))

theorem almFromLane_changes (w : Word) (s : State) : ChangesW [.alm, .pst, .sent] s (almFromLane w s) := by
  unfold almFromLane
  exact (.ite (fun _ => (.pair (.comp (almRefused_changes _) rfl (.refl)))) (fun _ => (.done (.comp (almBoth_changes _ _ _ _) rfl (.refl)))))

theorem almWrite_changes (r : Req) (w : Word) (s : State) : ChangesW [.alm, .pst, .sent] s (almWrite r w s) := by
  unfold almWrite
  exact (.ite (fun _ => (.pair (.comp (almRefused_changes _) rfl (.refl)))) (fun _ => (.done (.comp (almBoth_changes _ _ _ _) rfl (.refl)))))

theorem almFromSession_changes (r : Req) (w : Word) (s : State) : Changes [.alm, .pst, .pnw, .sent] s (almFromSession r w s) := by
  unfold almFromSession
  exact .app (screenReq_changes rfl (fun _ => .ite (fun _ => .comp (reply_changes _ _ _ _) rfl (.comp (almRefused_changes _) rfl (.refl))) (fun _ => .app (answer_changes rfl (fun _ => (.comp (almWrite_changes _ _ _) rfl (.refl)))) (.refl)))) (.refl)

theorem silenceAll_changes (s0 : State) (s : State) : Changes [.alm, .dsp, .sent] s (silenceAll s0 s) := by
  unfold silenceAll
  exact .app (.comp (showAlarms_changes _) rfl (.each (fun _ _ => .ite (fun _ => .comp (sendGroupAlf_changes _ _) rfl (.comp (onAlm_changes _ _) rfl (.refl))) (fun _ => .comp (onAlm_changes _ _) rfl (.refl))) (.refl))) (.each (fun _ _ => .ite (fun _ => .comp (sendPointAlf_changes _ _) rfl (.comp (setPnt_changes _ _ _) rfl (.refl))) (fun _ => .comp (setPnt_changes _ _ _) rfl (.refl))) (.refl))

theorem acceptCall_changes (s0 : State) (g : ℕ) (e : ℕ) (s : State) : Changes [.alm, .pnw, .evr, .sent] s (acceptCall s0 g e s) := by
  unfold acceptCall
  exact .ite (fun _ => .comp (notifyCall_changes _ _) rfl (.comp (post_changes _ _ _ _) rfl (.comp (setCall_changes _ _ _) rfl (.refl)))) (fun _ => .refl)

theorem shelve_changes (n : ℕ) (mins : ℕ) (s : State) : Changes [.alm, .evr, .dsp, .sent] s (shelve n mins s) := by
  unfold shelve
  exact .comp (pointTo_changes _ _ _) rfl (.comp (setPnt_changes _ _ _) rfl (.refl))

theorem almApply_changes (s0 : State) (c : AlmCmd) (s : State) : Changes [.alm, .pnw, .evr, .dsp, .sent] s (almApply s0 c s) := by
  unfold almApply
  exact (by
   try dsimp only
   split
   · exact .ite (fun _ => .comp (ackPoint_changes _ _ _) rfl (.refl)) (fun _ => .refl)
   · exact .each (fun _ _ => .ite (fun _ => .comp (ackPoint_changes _ _ _) rfl (.refl)) (fun _ => .refl)) (.refl)
   · exact .ite (fun _ => .comp (shelve_changes _ _ _) rfl (.refl)) (fun _ => .refl)
   · exact .ite (fun _ => .comp (unshelve_changes _ _) rfl (.refl)) (fun _ => .refl)
   · exact .comp (silenceAll_changes _ _) rfl (.refl)
   · exact .comp (acceptCall_changes _ _ _ _) rfl (.refl)
   · exact .comp (onAlm_changes _ _) rfl (.refl)
   · exact .ite (fun _ => .comp (deadTo_changes _ _ _) rfl (.refl)) (fun _ => .refl)
   · exact .ite (fun _ => .comp (deadTo_changes _ _ _) rfl (.refl)) (fun _ => .refl)
   · exact .ite (fun _ => .comp (deadTo_changes _ _ _) rfl (.refl)) (fun _ => .refl)
   · exact .each (fun _ _ => .ite (fun _ => .comp (ackPoint_changes _ _ _) rfl (.refl)) (fun _ => .refl)) (.refl)
   · exact .comp (sendPointAlf_changes _ _) rfl (.refl)
   · exact .comp (sendGroupAlf_changes _ _) rfl (.refl)
   · exact .refl
)

theorem almCommand_changes (s0 : State) (c : AlmCmd) (s : State) : Changes [.alm, .pnw, .evr, .dsp, .sent] s (almCommand s0 c s) := by
  unfold almCommand
  exact .comp (almApply_changes _ _ _) rfl (.comp (post_changes _ _ _ _) rfl (.refl))

theorem almCommands_changes (s : State) : Changes [.alm, .pnw, .evr, .dsp, .sent] s (almCommands s) := by
  unfold almCommands
  exact .each (fun _ _ => .comp (almCommand_changes _ _ _) rfl (.refl)) (.comp (onAlm_changes _ _) rfl (.refl))

theorem keepPoints_changes (s : State) : Changes [.alm] s (keepPoints s) := by
  unfold keepPoints
  exact .comp (onAlm_changes _ _) rfl (.refl)

theorem alarmRefresh_changes (s : State) : Changes [.dsp] s (alarmRefresh s) := by
  unfold alarmRefresh
  exact .ite (fun _ => .comp (alarmRedraw_changes _) rfl (.refl)) (fun _ => .refl)

theorem alarmEvaluation_changes (us : BitVec 16) (s : State) : Changes [.sup, .nibA, .nibB, .cyc, .cmp, .fch, .saf, .alm, .pst, .frg, .pnw, .evr, .cvu, .dsp, .boot, .sent] s (alarmEvaluation us s) := by
  unfold alarmEvaluation
  exact .ite (fun _ => .refl) (fun _ => .app (.app (.app (.app (.app (.app (.ite (fun _ => .comp (selfDiag_changes _ _) rfl (.refl)) (fun _ => .refl)) (.comp (alarmRefresh_changes _) rfl (.refl))) (.comp (keepPoints_changes _) rfl (.comp (onAlm_changes _ _) rfl (.refl)))) (.each (fun _ _ => .comp (callStep_changes _ _ _ _) rfl (.refl)) (.refl))) (.each (fun _ _ => .comp (cellStep_changes _ _ _) rfl (.refl)) (.refl))) (.comp (onAlm_changes _ _) rfl (.refl))) (.each (fun _ _ => .comp (evalPoint_changes _ _) rfl (.refl)) (.comp (almCommands_changes _) rfl (.refl))))

theorem atInstant_changes {T : List Part} {k : State → State} {s : State} (hT : subParts [.alm, .pnw, .evr, .dsp, .sent] T = true) (h_k : ∀ u, Changes T u (k u)) :
    Changes T s (atInstant k s) := by
  unfold atInstant
  exact .ite (fun _ => .app (h_k _) (.comp (almCommands_changes _) (subParts_trans rfl hT) (.refl))) (fun _ => .refl)

theorem pointEvent_changes {T : List Part} {n : ℕ} {ok : Point → Bool} {k : State → State} {s : State} (hT : subParts [.alm, .pnw, .evr, .dsp, .sent] T = true) (h_k : ∀ u, Changes T u (k u)) :
    Changes T s (pointEvent n ok k s) := by
  unfold pointEvent
  exact .ite (fun _ => .app (atInstant_changes (subParts_trans rfl hT) (fun _ => .ite (fun _ => .comp (keepPoints_changes _) (subParts_trans rfl hT) (.app (h_k _) (.refl))) (fun _ => .refl))) (.refl)) (fun _ => .refl)

theorem deadTimeEnd_changes {T : List Part} {d : DeadState} {k : State → State} {s : State} (hT : subParts [.alm, .pnw, .evr, .dsp, .sent] T = true) (h_k : ∀ u, Changes T u (k u)) :
    Changes T s (deadTimeEnd d k s) := by
  unfold deadTimeEnd
  exact .ite (fun _ => .app (.ite (fun _ => .app (h_k _) (.refl)) (fun _ => .refl)) (.app (atInstant_changes (subParts_trans rfl hT) (fun _ => .refl)) (.refl))) (fun _ => .refl)

theorem acnIgnored_changes (s : State) : Changes [.alm] s (acnIgnored s) := by
  unfold acnIgnored
  exact .comp (onAlm_changes _ _) rfl (.refl)

theorem acn_changes {T : List Part} {alert : ℕ} {point : ℕ → State → State} {group : ℕ → State → State} {s : State} (hT : subParts [.alm] T = true) (h_point : ∀ a0 u, Changes T u (point a0 u)) (h_group : ∀ a0 u, Changes T u (group a0 u)) :
    Changes T s (acn alert point group s) := by
  unfold acn
  exact .ite (fun _ => .comp (acnIgnored_changes _) (subParts_trans rfl hT) (.refl)) (fun _ => .ite (fun _ => .refl) (fun _ => (by
   try dsimp only
   split
   · exact .app (h_point _ _) (.refl)
   · exact .app (h_group _ _) (.refl)
   · exact .refl
)))

theorem acnQueue_changes (w : Word) (s : State) : Changes [.alm, .pst, .sent] s (acnQueue w s) := by
  unfold acnQueue
  exact .comp (almBoth_changes _ _ _ _) rfl (.refl)

theorem pointsAtStart_changes (s : State) : Changes [.alm] s (pointsAtStart s) := by
  unfold pointsAtStart
  exact .comp (onAlm_changes _ _) rfl (.refl)

theorem deadAtStart_changes (s : State) : Changes [.alm, .evr] s (deadAtStart s) := by
  unfold deadAtStart
  exact (by
   try dsimp only
   split
   · exact .comp (deadTo_changes _ _ _) rfl (.refl)
   · exact .comp (onAlm_changes _ _) rfl (.refl)
   · exact .refl
)

theorem announceAll_changes (s : State) : Changes [.alm, .pnw, .dsp, .sent] s (announceAll s) := by
  unfold announceAll
  exact .app (.app (.comp (showAlarms_changes _) rfl (.each (fun _ _ => .comp (notifyCall_changes _ _) rfl (.refl)) (.refl))) (.each (fun _ _ => .ite (fun _ => .comp (sendGroupAlf_changes _ _) rfl (.refl)) (fun _ => .refl)) (.refl))) (.each (fun _ _ => .comp (sendPointAlf_changes _ _) rfl (.refl)) (.refl))

theorem olcRefused_changes (s : State) : Changes [.cyc] s (olcRefused s) := by
  unfold olcRefused
  exact .comp (onCyc_changes _ _) rfl (.refl)

theorem noteUnsaved_changes (s : State) : Changes [.cyc, .dsp] s (noteUnsaved s) := by
  unfold noteUnsaved
  exact .ite (fun _ => .refl) (fun _ => .comp (pageDraw_changes _) rfl (.comp (onCyc_changes _ _) rfl (.refl)))

theorem putBoth_changes (a : ℕ) (v : Word) (s : State) : Changes [.nibA, .nibB] s (putBoth a v s) := by
  unfold putBoth
  exact .upd (.refl) (.inr rfl) (.inr rfl) (.inr rfl) (.inr rfl) (.inr rfl) (.inl rfl) (.inl rfl) (.inr rfl) (.inr rfl) (.inr rfl) (.inr rfl) (.inr rfl) (.inr rfl) (.inr rfl) (.inr rfl) (.inr rfl) (.inr rfl) (.inr rfl) (.inr rfl) (.inr rfl) (.inr rfl) (.inr rfl) (.inr rfl) (.inr rfl) (.inr rfl)

theorem applyEntry_changes (e : OlcEntry) (s : State) : Changes [.nibA, .nibB, .cyc, .evr, .dsp] s (applyEntry e s) := by
  unfold applyEntry
  exact .app (.ite (fun _ => .comp (noteUnsaved_changes _) rfl (.comp (putBoth_changes _ _ _) rfl (.comp (onCyc_changes _ _) rfl (.refl)))) (fun _ => .ite (fun _ => .refl) (fun _ => .comp (putBoth_changes _ _ _) rfl (.refl)))) (.comp (post_changes _ _ _ _) rfl (.refl))

theorem applyBatch_changes (b : List OlcEntry) (s : State) : Changes [.nibA, .nibB, .cyc, .evr, .dsp] s (applyBatch b s) := by
  unfold applyBatch
  exact .each (fun _ _ => .comp (applyEntry_changes _ _) rfl (.refl)) (.refl)

theorem changeRequest_changes (r : Req) (b : List OlcEntry) (s : State) : Changes [.cyc, .pst, .sent] s (changeRequest r b s) := by
  unfold changeRequest
  exact (by
   try dsimp only
   split
   · exact .comp (reply_changes _ _ _ _) rfl (.comp (olcRefused_changes _) rfl (.refl))
   · exact .app (acceptWith_changes rfl (fun _ => .comp (schedule_changes _ _) rfl (.refl))) (.refl)
)

theorem varWrite_changes (r : Req) (b : List OlcEntry) (s : State) : ChangesW [.cyc, .pst, .sent] s (varWrite r b s) := by
  unfold varWrite
  exact (.ite (fun _ => (.refuse (.refl))) (fun _ => ((by
   try dsimp only
   split
   · exact (.pair (.comp (olcRefused_changes _) rfl (.refl)))
   · exact (.app (doneBoth_changes rfl (fun _ => .comp (schedule_changes _ _) rfl (.refl))) (.refl))
))))

theorem frcRefused_changes (s : State) : Changes [.cyc] s (frcRefused s) := by
  unfold frcRefused
  exact .comp (onCyc_changes _ _) rfl (.refl)

theorem forceRequest_changes (r : Req) (t : ForceTarget) (v : Option Word) (s : State) : Changes [.cyc, .pst, .sent] s (forceRequest r t v s) := by
  unfold forceRequest
  exact (by
   try dsimp only
   split
   · exact .comp (reply_changes _ _ _ _) rfl (.comp (frcRefused_changes _) rfl (.refl))
   · exact .app (acceptBoth_changes rfl (fun _ => .comp (schedule_changes _ _) rfl (.refl))) (.refl)
)

theorem releaseInCell_changes (r : Req) (c : BitVec 12) (s : State) : Changes [.cyc, .pst, .sent] s (releaseInCell r c s) := by
  unfold releaseInCell
  exact .ite (fun _ => .comp (reply_changes _ _ _ _) rfl (.comp (frcRefused_changes _) rfl (.refl))) (fun _ => .ite (fun _ => .comp (reply_changes _ _ _ _) rfl (.comp (frcRefused_changes _) rfl (.refl))) (fun _ => .app (acceptBoth_changes rfl (fun _ => .comp (schedule_changes _ _) rfl (.refl))) (.refl)))

theorem applyForce_changes (t : ForceTarget) (v : Option Word) (s : State) : Changes [.nibA, .nibB, .cyc, .evr] s (applyForce t v s) := by
  unfold applyForce
  exact (by
   try dsimp only
   split
   · exact .comp (post_changes _ _ _ _) rfl (.comp (onCyc_changes _ _) rfl (.refl))
   · exact (by
     try dsimp only
     split
     · exact .refl
     · exact (by
       try dsimp only
       split
       · exact .comp (putBoth_changes _ _ _) rfl (.comp (post_changes _ _ _ _) rfl (.comp (onCyc_changes _ _) rfl (.refl)))
       · exact .comp (post_changes _ _ _ _) rfl (.comp (onCyc_changes _ _) rfl (.refl))
       · exact .upd (.comp (post_changes _ _ _ _) rfl (.comp (onCyc_changes _ _) rfl (.refl))) (.inr rfl) (.inr rfl) (.inr rfl) (.inr rfl) (.inr rfl) (.inl rfl) (.inl rfl) (.inl rfl) (.inr rfl) (.inr rfl) (.inr rfl) (.inr rfl) (.inr rfl) (.inr rfl) (.inr rfl) (.inr rfl) (.inr rfl) (.inr rfl) (.inr rfl) (.inr rfl) (.inr rfl) (.inr rfl) (.inr rfl) (.inr rfl) (.inr rfl)
)
)
)

theorem applyRelease_changes (c : ℕ) (s : State) : Changes [.nibA, .nibB, .cyc, .evr] s (applyRelease c s) := by
  unfold applyRelease
  exact .each (fun _ _ => .comp (applyForce_changes _ _ _) rfl (.refl)) (.refl)

theorem enterHold_changes (s : State) : Changes [.sup, .nibA, .nibB, .cyc, .cmp, .lpe, .fch, .saf, .pst, .frg, .evr] s (enterHold s) := by
  unfold enterHold
  exact .ite (fun _ => .refl) (fun _ => .app (.app (.app (.app (.comp (applyOutputs_changes _) rfl (.comp (openPairs_changes _) rfl (.refl))) (.comp (demandReleased_changes _) rfl (.comp (onLpe_changes _ _) rfl (.refl)))) (.comp (onCyc_changes _ _) rfl (.refl))) (.comp (onSup_changes _ _) rfl (.refl))) (.comp (pauseLanes_changes _) rfl (.comp (endCommissioning_changes _) rfl (.refl))))

theorem leaveHold_changes (s : State) : Changes [.sup, .lpe] s (leaveHold s) := by
  unfold leaveHold
  exact .ite (fun _ => .refl) (fun _ => .app (.comp (mapTraces_changes _ _) rfl (.refl)) (.comp (onSup_changes _ _) rfl (.refl)))

theorem applyJournal_changes (s : State) : Changes [.cyc] s (applyJournal s) := by
  unfold applyJournal
  exact (by
   try dsimp only
   split
   · exact .refl
   · exact .comp (onCyc_changes _ _) rfl (.refl)
)

theorem retainCopy_changes (s : State) : Changes [.cyc] s (retainCopy s) := by
  unfold retainCopy
  exact .app (.comp (onCyc_changes _ _) rfl (.refl)) (.comp (applyJournal_changes _) rfl (.refl))

theorem initialModes_changes (s : State) : Changes [.cyc, .lpe] s (initialModes s) := by
  unfold initialModes
  exact .app (.each (fun _ _ => .comp (setLoop_changes _ _ _) rfl (.refl)) (.refl)) (.each (fun _ _ => .comp (setCell_changes _ _ _) rfl (.refl)) (.refl))

theorem clearRetain_changes (s : State) : Changes [.nibA, .nibB, .cyc, .lpe] s (clearRetain s) := by
  unfold clearRetain
  exact .app (.comp (onCyc_changes _ _) rfl (.refl)) (.comp (initialModes_changes _) rfl (.upd (.refl) (.inr rfl) (.inr rfl) (.inr rfl) (.inr rfl) (.inr rfl) (.inl rfl) (.inl rfl) (.inr rfl) (.inr rfl) (.inr rfl) (.inr rfl) (.inr rfl) (.inr rfl) (.inr rfl) (.inr rfl) (.inr rfl) (.inr rfl) (.inr rfl) (.inr rfl) (.inr rfl) (.inr rfl) (.inr rfl) (.inr rfl) (.inr rfl) (.inr rfl)))

theorem applyAct_changes (a : T0Act) (s : State) : Changes [.sup, .nibA, .nibB, .cyc, .cmp, .lpe, .fch, .saf, .pst, .frg, .evr, .dsp] s (applyAct a s) := by
  unfold applyAct
  exact (by
   try dsimp only
   split
   · exact .comp (applyMaint_changes _ _ _) rfl (.refl)
   · exact .comp (applyBatch_changes _ _) rfl (.refl)
   · exact .comp (applyForce_changes _ _ _) rfl (.refl)
   · exact .comp (applyRelease_changes _ _) rfl (.refl)
   · exact .comp (applySplit_changes _) rfl (.refl)
   · exact .refl
   · exact .comp (clearRetain_changes _) rfl (.refl)
   · exact .comp (enterHold_changes _) rfl (.refl)
   · exact .comp (leaveHold_changes _) rfl (.refl)
)

theorem applyDue_changes (ahead : ℕ) (p : T0Act → Bool) (s : State) : Changes [.sup, .nibA, .nibB, .cyc, .cmp, .lpe, .fch, .saf, .pst, .frg, .evr, .dsp] s (applyDue ahead p s) := by
  unfold applyDue
  exact .each (fun _ _ => .comp (applyAct_changes _ _) rfl (.refl)) (.comp (onCyc_changes _ _) rfl (.refl))

theorem followRejoin_changes (ahead : ℕ) (s : State) : Changes [.cmp] s (followRejoin ahead s) := by
  unfold followRejoin
  exact (by
   try dsimp only
   split
   · exact .ite (fun _ => .comp (onCmp_changes _ _) rfl (.refl)) (fun _ => .refl)
   · exact .refl
)

theorem injWrite_changes (w : Who) (onRing : Bool) (p : ℕ) (v : Word) (s : State) : ChangesW [.pst, .frg] s (injWrite w onRing p v s) := by
  unfold injWrite
  exact (.app (byLevel_changes rfl (fun _ => (.ite (fun _ => (.refuse (.refl))) (fun _ => (.ite (fun _ => (.refuse (.refl))) (fun _ => (.ite (fun _ => (.done (.comp (setRingPort_changes _ _ _) rfl (.refl)))) (fun _ => (.done (.comp (setSlPort_changes _ _ _) rfl (.refl))))))))))) (.refl))

theorem injBitWrite_changes (w : Who) (onRing : Bool) (p : ℕ) (v : Word) (s : State) : ChangesW [.pst, .frg] s (injBitWrite w onRing p v s) := by
  unfold injBitWrite
  exact (.app (byLevel_changes rfl (fun _ => (.ite (fun _ => (.refuse (.refl))) (fun _ => (.ite (fun _ => (.done (.comp (setRingPort_changes _ _ _) rfl (.refl)))) (fun _ => (.done (.comp (setSlPort_changes _ _ _) rfl (.refl))))))))) (.refl))

theorem partnerCheck_changes (i : ℕ) (v : ℤ) (lost : Bool) (s : State) : Changes [.fch, .evr] s (partnerCheck i v lost s) := by
  unfold partnerCheck
  exact .ite (fun _ => (by
   try dsimp only
   split
   · exact .comp (onSet_changes _ _ _) rfl (.ite (fun _ => .refl) (fun _ => .comp (setChan_changes _ _ _) rfl (.refl)))
   · exact .ite (fun _ => .refl) (fun _ => .comp (setChan_changes _ _ _) rfl (.refl))
)) (fun _ => .refl)

theorem pairsTakeover_changes (s : State) : Changes [.saf, .evr] s (pairsTakeover s) := by
  unfold pairsTakeover
  exact .each (fun _ _ => .app (.ite (fun _ => .each (fun _ _ => .comp (post_changes _ _ _ _) rfl (.refl)) (.refl)) (fun _ => .refl)) (.comp (setPair_changes _ _ _) rfl (.refl))) (.refl)

theorem alignCopy_changes (v : Word) (win : ℕ) (k : ℕ) (s : State) : Changes [.lpe] s (alignCopy v win k s) := by
  unfold alignCopy
  exact .comp (setLoop_changes _ _ _) rfl (.refl)

theorem loopsTakeover_changes (copy : Bool) (s : State) : Changes [.lpe] s (loopsTakeover copy s) := by
  unfold loopsTakeover
  exact .each (fun _ _ => .ite (fun _ => .refl) (fun _ => .app (.app (.ite (fun _ => .each (fun _ _ => .comp (alignCopy_changes _ _ _ _) rfl (.refl)) (.refl)) (fun _ => .each (fun _ _ => .comp (alignLoop_changes _ _ _ _) rfl (.refl)) (.refl))) (.each (fun _ _ => .comp (setLoop_changes _ _ _) rfl (.refl)) (.refl))) ((by
   try dsimp only
   split
   · exact .comp (setLGroup_changes _ _ _) rfl (.refl)
   · exact .refl
)))) (.refl)

theorem takeRole_changes (reason : Byte) (s : State) : Changes [.sup, .nibA, .nibB, .cyc, .cmp, .lpe, .fch, .saf, .alm, .pst, .frg, .pnw, .evr, .dsp, .sent] s (takeRole reason s) := by
  unfold takeRole
  exact .app (.app (.app (.app (.app (.app (.app (.app (.app (.app (.comp (announceAll_changes _) rfl (.comp (alarmRedraw_changes _) rfl (.comp (onPst_changes _ _) rfl (.refl)))) (.comp (requalAll_changes _ _) rfl (.comp (applyOutputs_changes _) rfl (.comp (handOff_changes _) rfl (.refl))))) (.comp (pairsTakeover_changes _) rfl (.refl))) (.comp (loopsTakeover_changes _ _) rfl (.each (fun _ _ => .comp (setChan_changes _ _ _) rfl (.refl)) (.refl)))) (.each (fun _ _ => .comp (startRamp_changes _ _) rfl (.refl)) (.refl))) (.ite (fun _ => .comp (onPst_changes _ _) rfl (.comp (post_changes _ _ _ _) rfl (.refl))) (fun _ => .refl))) (.ite (fun _ => .comp (post_changes _ _ _ _) rfl (.refl)) (fun _ => .refl))) (.comp (post_changes _ _ _ _) rfl (.refl))) (.ite (fun _ => .comp (loopTransfer_changes _) rfl (.comp (onCyc_changes _ _) rfl (.refl))) (fun _ => .refl))) (.comp (onPst_changes _ _) rfl (.refl))) (.ite (fun _ => .comp (followRejoin_changes _ _) rfl (.comp (applyDue_changes _ _ _) rfl (.refl))) (fun _ => .refl))

theorem netChange_changes (own : Bool) (peer : Bool) (s : State) : Changes [.sup, .nibA, .nibB, .cyc, .cmp, .lpe, .fch, .saf, .alm, .pst, .frg, .pnw, .evr, .dsp, .sent] s (netChange own peer s) := by
  unfold netChange
  exact .app (.ite (fun _ => .refl) (fun _ => .app (.app (.app (.comp (applyOutputs_changes _) rfl (.ite (fun _ => .comp (openPairs_changes _) rfl (.refl)) (fun _ => .comp (dropQen_changes _) rfl (.refl)))) (.ite (fun _ => .ite (fun _ => .comp (takeRole_changes _ _) rfl (.refl)) (fun _ => .comp (hearMeans_changes _) rfl (.comp (onPst_changes _ _) rfl (.refl)))) (fun _ => .refl))) (.ite (fun _ => .comp (standbyDraw_changes _) rfl (.comp (standbyOutputs_changes _) rfl (.comp (post_changes _ _ _ _) rfl (.comp (onPst_changes _ _) rfl (.comp (dropQen_changes _) rfl (.refl)))))) (fun _ => .refl))) (.ite (fun _ => .comp (onPst_changes _ _) rfl (.refl)) (fun _ => .refl)))) (.comp (onPst_changes _ _) rfl (.refl))

theorem roleAtRun_changes (s : State) : Changes [.pst, .dsp] s (roleAtRun s) := by
  unfold roleAtRun
  exact .ite (fun _ => .refl) (fun _ => .ite (fun _ => .comp (onPst_changes _ _) rfl (.refl)) (fun _ => .comp (standbyDraw_changes _) rfl (.comp (onPst_changes _ _) rfl (.refl))))

theorem notReady_changes (s : State) : Changes [.pst, .dsp] s (notReady s) := by
  unfold notReady
  exact .comp (standbyDraw_changes _) rfl (.comp (requalify_changes _) rfl (.comp (onPst_changes _ _) rfl (.refl)))

theorem regain_changes (s : State) : Changes [.pst, .dsp] s (regain s) := by
  unfold regain
  exact .ite (fun _ => .comp (standbyDraw_changes _) rfl (.comp (requalify_changes _) rfl (.comp (onPst_changes _ _) rfl (.refl)))) (fun _ => .refl)

theorem takeBack_changes (s : State) : Changes [.pst] s (takeBack s) := by
  unfold takeBack
  exact .ite (fun _ => .comp (onPst_changes _ _) rfl (.refl)) (fun _ => .refl)

theorem resyncNow_changes (s : State) : Changes [.pst, .dsp] s (resyncNow s) := by
  unfold resyncNow
  exact .ite (fun _ => .comp (onPst_changes _ _) rfl (.refl)) (fun _ => .comp (notReady_changes _) rfl (.comp (onPst_changes _ _) rfl (.refl)))

theorem pairEffect_changes (c : FwdCmd) (s : State) : Changes [.pst, .dsp] s (pairEffect c s) := by
  unfold pairEffect
  exact (by
   try dsimp only
   split
   · exact .ite (fun _ => .comp (onPst_changes _ _) rfl (.refl)) (fun _ => .refl)
   · exact .comp (resyncNow_changes _) rfl (.refl)
   · exact .comp (onPst_changes _ _) rfl (.refl)
   · exact .comp (onPst_changes _ _) rfl (.refl)
   · exact .refl
)

theorem pairWrite_changes (r : Req) (c : FwdCmd) (s : State) : ChangesW [.pst, .dsp, .sent] s (pairWrite r c s) := by
  unfold pairWrite
  exact (.ite (fun _ => (.app (doneBoth_changes rfl (fun _ => .comp (pairEffect_changes _ _) rfl (.refl))) (.refl))) (fun _ => (.refuse (.refl))))

theorem pairCommand_changes (r : Req) (c : FwdCmd) (s : State) : Changes [.pst, .pnw, .dsp, .sent] s (pairCommand r c s) := by
  unfold pairCommand
  exact .app (screenReq_changes rfl (fun _ => .app (answer_changes rfl (fun _ => (.comp (pairWrite_changes _ _ _) rfl (.refl)))) (.refl))) (.refl)

theorem memoryFound_changes (f : ScrubFound) (s : State) : Changes [.sup, .nibA, .nibB, .cyc, .cmp, .fch, .saf, .alm, .pst, .frg, .pnw, .evr, .cvu, .dsp, .boot, .sent] s (memoryFound f s) := by
  unfold memoryFound
  exact (by
   try dsimp only
   split
   · exact .comp (onCyc_changes _ _) rfl (.refl)
   · exact .comp (selfDiag_changes _ _) rfl (.refl)
   · exact .refl
)

theorem scrubStep_changes (f : ScrubFound) (s : State) : Changes [.sup, .nibA, .nibB, .cyc, .cmp, .fch, .saf, .alm, .pst, .frg, .pnw, .evr, .cvu, .dsp, .boot, .sent] s (scrubStep f s) := by
  unfold scrubStep
  exact .ite (fun _ => .refl) (fun _ => .ite (fun _ => .comp (memoryFound_changes _ _) rfl (.refl)) (fun _ => (by
   try dsimp only
   split
   · exact .comp (onPst_changes _ _) rfl (.refl)
   · exact .comp (requalify_changes _) rfl (.comp (memoryFound_changes _ _) rfl (.comp (onPst_changes _ _) rfl (.refl)))
   · exact .comp (memoryFound_changes _ _) rfl (.refl)
)))

theorem bistSequence_changes (v : Verdict) (s : State) : Changes [.sup, .nibA, .nibB, .cyc, .cmp, .fch, .saf, .alm, .pst, .frg, .pnw, .evr, .cvu, .dsp, .boot, .sent, .free] s (bistSequence v s) := by
  unfold bistSequence
  exact .ite (fun _ => .refl) (fun _ => .app (.ite (fun _ => .refl) (fun _ => .comp (checkedVerdict_changes _ _ _) rfl (.comp (takeFree_changes _) rfl (.refl)))) (.upd (.refl) (.inr rfl) (.inr rfl) (.inr rfl) (.inr rfl) (.inr rfl) (.inl rfl) (.inl rfl) (.inr rfl) (.inr rfl) (.inr rfl) (.inr rfl) (.inr rfl) (.inr rfl) (.inr rfl) (.inr rfl) (.inr rfl) (.inr rfl) (.inr rfl) (.inr rfl) (.inr rfl) (.inr rfl) (.inr rfl) (.inr rfl) (.inr rfl) (.inl rfl)))

theorem noteSize_changes (bytes : ℕ) (s : State) : Changes [.pst] s (noteSize bytes s) := by
  unfold noteSize
  exact .comp (onPst_changes _ _) rfl (.refl)

theorem noteTime_changes (us : ℕ) (s : State) : Changes [.pst] s (noteTime us s) := by
  unfold noteTime
  exact .comp (onPst_changes _ _) rfl (.refl)

theorem sendCarafe_changes (f : CarafeFrame) (s : State) : Changes [.pst, .sent] s (sendCarafe f s) := by
  unfold sendCarafe
  exact .app (.comp (slSend_changes _ _ _) rfl (.refl)) (.comp (onPst_changes _ _) rfl (.refl))

theorem sendDelta_changes (s : State) : Changes [.pst, .sent] s (sendDelta s) := by
  unfold sendDelta
  exact .ite (fun _ => .refl) (fun _ => .ite (fun _ => .refl) (fun _ => .app (.comp (sendCarafe_changes _ _) rfl (.comp (noteSize_changes _ _) rfl (.refl))) (.comp (onPst_changes _ _) rfl (.refl))))

theorem askAgain_changes (s : State) : Changes [.pst, .sent] s (askAgain s) := by
  unfold askAgain
  exact .ite (fun _ => .comp (slSend_changes _ _ _) rfl (.comp (onPst_changes _ _) rfl (.refl))) (fun _ => .refl)

theorem stageFrame_changes (seq : Word) (x : CarafeRx) (s : State) : Changes [.pst, .sent] s (stageFrame seq x s) := by
  unfold stageFrame
  exact .ite (fun _ => .refl) (fun _ => .app (.ite (fun _ => .refl) (fun _ => .ite (fun _ => .comp (noteTime_changes _ _) rfl (.refl)) (fun _ => .comp (askAgain_changes _) rfl (.comp (onPst_changes _ _) rfl (.refl))))) (.comp (onPst_changes _ _) rfl (.refl)))

theorem carafeReceived_changes (x : SlRx CarafeRx) (s : State) : Changes [.pst, .cvu, .sent] s (carafeReceived x s) := by
  unfold carafeReceived
  exact .app (slReceive_changes rfl (fun _ => .comp (stageFrame_changes _ _ _) rfl (.refl)) (fun _ => .comp (askAgain_changes _) rfl (.refl))) (.refl)

theorem adoptLoop_changes (p : ℕ × LoopCopy) (s : State) : Changes [.lpe] s (adoptLoop p s) := by
  unfold adoptLoop
  exact (by
   try dsimp only
   split
   · exact .comp (setLGroup_changes _ _ _) rfl (.comp (setLoop_changes _ _ _) rfl (.comp (setLoop_changes _ _ _) rfl (.refl)))
   · exact .comp (setLoop_changes _ _ _) rfl (.comp (setLoop_changes _ _ _) rfl (.refl))
)

theorem adoptPoint_changes (j : JoinRec) (a : ℕ × BitVec 4) (s : State) : Changes [.alm] s (adoptPoint j a s) := by
  unfold adoptPoint
  exact .comp (setPnt_changes _ _ _) rfl (.refl)

theorem ownConstsBack_changes (l : List (ℕ × Word)) (s : State) : Changes [.nibA, .nibB] s (ownConstsBack l s) := by
  unfold ownConstsBack
  exact .each (fun _ _ => .comp (putBoth_changes _ _ _) rfl (.refl)) (.refl)

theorem adoptJoin_changes (j : JoinRec) (s : State) : Changes [.nibA, .nibB, .cyc, .cmp, .fch, .saf, .alm, .pst, .evr] s (adoptJoin j s) := by
  unfold adoptJoin
  exact .app (.app (.app (.app (.app (.app (.app (.comp (onSaf_changes _ _) rfl (.refl)) (.comp (onPst_changes _ _) rfl (.refl))) (.comp (onCmp_changes _ _) rfl (.refl))) (.each (fun _ _ => .ite (fun _ => .refl) (fun _ => .comp (applyMaint_changes _ _ _) rfl (.refl))) (.refl))) (.comp (onCyc_changes _ _) rfl (.refl))) (.each (fun _ _ => .comp (putBoth_changes _ _ _) rfl (.refl)) (.comp (ownConstsBack_changes _ _) rfl (.refl)))) (.comp (onAlm_changes _ _) rfl (.refl))) (.each (fun _ _ => .comp (adoptPoint_changes _ _ _) rfl (.refl)) (.refl))

theorem adoptCarry_changes (l : List (ℕ × Word)) (s : State) : Changes [.nibA, .nibB, .cyc] s (adoptCarry l s) := by
  unfold adoptCarry
  exact .each (fun _ _ => .app (.ite (fun _ => .comp (onCyc_changes _ _) rfl (.refl)) (fun _ => .refl)) (.comp (putBoth_changes _ _ _) rfl (.refl))) (.refl)

theorem adoptStn_changes (b : ℕ × StnCopy) (s : State) : Changes [.frg] s (adoptStn b s) := by
  unfold adoptStn
  exact .comp (setStn_changes _ _ _) rfl (.refl)

theorem adoptDelta_changes (f : CarafeFrame) (s : State) : Changes [.nibA, .nibB, .cyc, .lpe, .pst, .frg] s (adoptDelta f s) := by
  unfold adoptDelta
  exact .ite (fun _ => .refl) (fun _ => .app (.app (.comp (onPst_changes _ _) rfl (.each (fun _ _ => .comp (adoptStn_changes _ _) rfl (.refl)) (.each (fun _ _ => .comp (adoptLoop_changes _ _) rfl (.refl)) (.refl)))) (.comp (onCyc_changes _ _) rfl (.refl))) (.upd (.refl) (.inr rfl) (.inr rfl) (.inr rfl) (.inr rfl) (.inr rfl) (.inl rfl) (.inl rfl) (.inr rfl) (.inr rfl) (.inr rfl) (.inr rfl) (.inr rfl) (.inr rfl) (.inr rfl) (.inr rfl) (.inr rfl) (.inr rfl) (.inr rfl) (.inr rfl) (.inr rfl) (.inr rfl) (.inr rfl) (.inr rfl) (.inr rfl) (.inr rfl)))

theorem deltaApply_changes (s : State) : Changes [.nibA, .nibB, .cyc, .cmp, .lpe, .fch, .saf, .alm, .pst, .frg, .evr, .dsp, .sent] s (deltaApply s) := by
  unfold deltaApply
  exact (by
   try dsimp only
   split
   · exact .refl
   · exact .ite (fun _ => .refl) (fun _ => .app (.app (.app (.comp (slSend_changes _ _ _) rfl (.comp (regain_changes _) rfl (.refl))) (.comp (onPst_changes _ _) rfl (.comp (noteSize_changes _ _) rfl (.refl)))) (.comp (adoptCarry_changes _ _) rfl (.refl))) ((by
     try dsimp only
     split
     · exact .comp (adoptJoin_changes _ _) rfl (.comp (adoptDelta_changes _ _) rfl (.refl))
     · exact .comp (adoptDelta_changes _ _) rfl (.refl)
)))
)

theorem repeatCarafe_changes (s : State) : Changes [.pst, .sent] s (repeatCarafe s) := by
  unfold repeatCarafe
  exact (by
   try dsimp only
   split
   · exact .ite (fun _ => .comp (slSend_changes _ _ _) rfl (.refl)) (fun _ => .refl)
   · exact .refl
)

theorem carafeAcked_changes (again : Bool) (s : State) : Changes [.pst, .sent] s (carafeAcked again s) := by
  unfold carafeAcked
  exact .ite (fun _ => .comp (repeatCarafe_changes _) rfl (.refl)) (fun _ => .comp (onPst_changes _ _) rfl (.ite (fun _ => .comp (noteTime_changes _ _) rfl (.refl)) (fun _ => .refl)))

theorem twinStep_changes (peer : Word) (s : State) : Changes [.nibA, .nibB, .cyc, .cmp, .pst, .evr, .dsp, .sent] s (twinStep peer s) := by
  unfold twinStep
  exact .ite (fun _ => .refl) (fun _ => .app (.ite (fun _ => .comp (onPst_changes _ _) rfl (.refl)) (fun _ => .app (.ite (fun _ => .refl) (fun _ => .comp (notReady_changes _) rfl (.comp (post_changes _ _ _ _) rfl (.comp (onPst_changes _ _) rfl (.comp (pauseLanes_changes _) rfl (.refl)))))) (.comp (onPst_changes _ _) rfl (.refl)))) (.comp (slSend_changes _ _ _) rfl (.refl)))

theorem beginRejoin_changes (at_ : ℕ) (t : SelfTest) (s : State) : Changes [.cmp, .evr] s (beginRejoin at_ t s) := by
  unfold beginRejoin
  exact .app (.ite (fun _ => .comp (onCmp_changes _ _) rfl (.refl)) (fun _ => .comp (rejoinFailed_changes _ _) rfl (.refl))) (.comp (recordTest_changes _ _) rfl (.comp (onCmp_changes _ _) rfl (.refl)))

theorem forwardEffect_changes (c : FwdCmd) (s : State) : Changes [.fch, .alm, .pst, .dsp] s (forwardEffect c s) := by
  unfold forwardEffect
  exact (by
   try dsimp only
   split
   · exact .comp (almQueue_changes _ _) rfl (.refl)
   · exact .comp (onFch_changes _ _) rfl (.refl)
   · exact .comp (onPst_changes _ _) rfl (.refl)
   · exact .comp (pairEffect_changes _ _) rfl (.refl)
)

theorem holdAct_changes (c : FwdCmd) (a : T0Act) (at_ : ℕ) (s : State) : Changes [.cyc, .cmp, .fch] s (holdAct c a at_ s) := by
  unfold holdAct
  exact (by
   try dsimp only
   split
   · exact .comp (setGrp_changes _ _ _) rfl (.comp (onCyc_changes _ _) rfl (.refl))
   · exact .comp (onCmp_changes _ _) rfl (.comp (onCyc_changes _ _) rfl (.refl))
   · exact .comp (onCyc_changes _ _) rfl (.refl)
)

theorem freeAct_changes (c : FwdCmd) (s : State) : Changes [.cyc, .cmp] s (freeAct c s) := by
  unfold freeAct
  exact (by
   try dsimp only
   split
   · exact .comp (onCmp_changes _ _) rfl (.refl)
   · exact .comp (onCyc_changes _ _) rfl (.refl)
   · exact .refl
)

theorem forwardedCommand_changes (c : FwdCmd) (us : ℤ) (t : SelfTest) (s : State) : Changes [.cyc, .cmp, .fch, .alm, .pst, .evr, .dsp, .sent] s (forwardedCommand c us t s) := by
  unfold forwardedCommand
  exact .ite (fun _ => .comp (forwardEffect_changes _ _) rfl (.refl)) (fun _ => .ite (fun _ => .refl) (fun _ => (by
   try dsimp only
   split
   · exact .comp (freeAct_changes _ _) rfl (.refl)
   · exact .app (.ite (fun _ => .comp (slSend_changes _ _ _) rfl (.comp (onCmp_changes _ _) rfl (.refl))) (fun _ => .refl)) (.comp (beginRejoin_changes _ _ _) rfl (.refl))
   · exact .comp (slSend_changes _ _ _) rfl ((by
     try dsimp only
     split
     · exact .comp (holdAct_changes _ _ _ _) rfl (.refl)
     · exact .comp (forwardEffect_changes _ _) rfl (.refl)
))
)))

theorem withdraw_changes (a : T0Act) (s : State) : Changes [.cmp, .fch] s (withdraw a s) := by
  unfold withdraw
  exact (by
   try dsimp only
   split
   · exact .comp (setGrp_changes _ _ _) rfl (.refl)
   · exact .comp (onCmp_changes _ _) rfl (.refl)
   · exact .comp (onCmp_changes _ _) rfl (.refl)
   · exact .refl
)

theorem mbException_changes (h : MbHdr) (fc : Byte) (code : Byte) (s : State) : Changes [.pnw, .sent] s (mbException h fc code s) := by
  unfold mbException
  exact .comp (emitLan_changes _ _) rfl (.comp (onPnw_changes _ _) rfl (.refl))

theorem answerOrigin_changes (o : Origin) (st : BitVec 16) (s : State) : Changes [.pnw, .sent] s (answerOrigin o st s) := by
  unfold answerOrigin
  exact (by
   try dsimp only
   split
   · exact .comp (reply_changes _ _ _ _) rfl (.refl)
   · exact .ite (fun _ => .comp (emitLan_changes _ _) rfl (.refl)) (fun _ => .comp (mbException_changes _ _ _ _) rfl (.refl))
   · exact .refl
   · exact .refl
)

theorem partnerConfirmed_changes (s : State) : Changes [.fch, .alm, .pst, .pnw, .dsp, .sent] s (partnerConfirmed s) := by
  unfold partnerConfirmed
  exact (by
   try dsimp only
   split
   · exact .comp (slTook_changes _ _) rfl (.refl)
   · exact .app (.comp (answerOrigin_changes _ _ _) rfl (.ite (fun _ => .comp (forwardNow_changes _ _) rfl (.refl)) (fun _ => .comp (forwardEffect_changes _ _) rfl (.refl)))) (.comp (onPst_changes _ _) rfl (.comp (slTook_changes _ _) rfl (.refl)))
)

theorem dropAct_changes (c : FwdCmd) (s : State) : Changes [.cyc, .cmp, .fch] s (dropAct c s) := by
  unfold dropAct
  exact (by
   try dsimp only
   split
   · exact .comp (withdraw_changes _ _) rfl (.comp (onCyc_changes _ _) rfl (.refl))
   · exact .refl
)

theorem refusedEvent_changes (c : FwdCmd) (s : State) : Changes [.cyc, .alm] s (refusedEvent c s) := by
  unfold refusedEvent
  exact (by
   try dsimp only
   split
   · exact .comp (olcRefused_changes _) rfl (.refl)
   · exact .comp (frcRefused_changes _) rfl (.refl)
   · exact .comp (frcRefused_changes _) rfl (.refl)
   · exact .comp (almRefused_changes _) rfl (.refl)
   · exact .refl
)

theorem confirmTimeout_changes (s : State) : Changes [.cyc, .cmp, .fch, .alm, .pst, .pnw, .sent] s (confirmTimeout s) := by
  unfold confirmTimeout
  exact (by
   try dsimp only
   split
   · exact .refl
   · exact .comp (answerOrigin_changes _ _ _) rfl (.comp (refusedEvent_changes _ _) rfl (.comp (dropAct_changes _ _) rfl (.comp (onPst_changes _ _) rfl (.refl))))
)

theorem setSpeaker_changes (w : Option (BitVec 2)) (s : State) : Changes [.pst, .pnw, .evr, .cvu, .boot, .sent] s (setSpeaker w s) := by
  unfold setSpeaker
  exact .ite (fun _ => .refl) (fun _ => .app (.app (.app (.ite (fun _ => .comp (emitLan_changes _ _) rfl (.ite (fun _ => .comp (utcFromRtc_changes _) rfl (.comp (onPnw_changes _ _) rfl (.refl))) (fun _ => .refl))) (fun _ => .refl)) (.ite (fun _ => .each (fun _ _ => .comp (endSession_changes _ _) rfl (.refl)) (.refl)) (fun _ => .refl))) (.comp (onPst_changes _ _) rfl (.refl))) (.ite (fun _ => .comp (post_changes _ _ _ _) rfl (.comp (onPst_changes _ _) rfl (.refl))) (fun _ => .refl)))

theorem takePartner_changes (was : Bool) (h : Hello) (s : State) : Changes [.pst, .sent] s (takePartner was h s) := by
  unfold takePartner
  exact .app (.app (.app (.ite (fun _ => .comp (onPst_changes _ _) rfl (.refl)) (fun _ => .refl)) (.ite (fun _ => .comp (forwardNow_changes _ _) rfl (.refl)) (fun _ => .refl))) (.ite (fun _ => .refl) (fun _ => .comp (forwardNow_changes _ _) rfl (.refl)))) (.comp (onPst_changes _ _) rfl (.refl))

theorem takeClaim_changes (n : ℕ) (before : Bool) (s : State) : Changes [.pst, .pnw, .evr, .cvu, .boot, .sent] s (takeClaim n before s) := by
  unfold takeClaim
  exact (by
   try dsimp only
   split
   · exact .comp (setSpeaker_changes _ _) rfl (.refl)
   · exact .ite (fun _ => .refl) (fun _ => .ite (fun _ => .comp (setSpeaker_changes _ _) rfl (.refl)) (fun _ => .ite (fun _ => .comp (post_changes _ _ _ _) rfl (.comp (onPst_changes _ _) rfl (.refl))) (fun _ => .refl)))
)

theorem takeHello_changes (h : Hello) (s : State) : Changes [.pst, .pnw, .evr, .cvu, .boot, .sent] s (takeHello h s) := by
  unfold takeHello
  exact .app (.app (.ite (fun _ => .refl) (fun _ => .app (.ite (fun _ => .comp (takeClaim_changes _ _ _) rfl (.refl)) (fun _ => .refl)) (.ite (fun _ => .comp (takePartner_changes _ _ _) rfl (.refl)) (fun _ => .refl)))) (.ite (fun _ => .comp (post_changes _ _ _ _) rfl (.comp (onPst_changes _ _) rfl (.refl))) (fun _ => .refl))) (.comp (onPst_changes _ _) rfl (.refl))

theorem helloReceived_changes (p : Fin 3) (x : SlRx Hello) (s : State) : Changes [.pst, .pnw, .evr, .cvu, .boot, .sent] s (helloReceived p x s) := by
  unfold helloReceived
  exact .app (slReceive_changes rfl (fun _ => .comp (takeHello_changes _ _) rfl (.refl)) (fun _ => .refl)) (.refl)

theorem speakerElection_changes (s : State) : Changes [.pst, .pnw, .evr, .cvu, .boot, .sent] s (speakerElection s) := by
  unfold speakerElection
  exact .ite (fun _ => .refl) (fun _ => .comp (setSpeaker_changes _ _) rfl (.refl))

theorem timeMark_changes (p : ℕ) (ns : ℤ) (m : TimeMark) (s : State) : Changes [.pst, .pnw, .evr] s (timeMark p ns m s) := by
  unfold timeMark
  exact .ite (fun _ => .refl) (fun _ => .app (.app (.comp (onPnw_changes _ _) rfl (.refl)) (.ite (fun _ => .comp (post_changes _ _ _ _) rfl (.comp (onPst_changes _ _) rfl (.refl))) (fun _ => .refl))) (.comp (onPst_changes _ _) rfl (.refl)))

theorem takeExports_changes (pos : ℕ) (x : ExportRx) (complete : Bool) (s : State) : Changes [.pst] s (takeExports pos x complete s) := by
  unfold takeExports
  exact .ite (fun _ => .comp (onPst_changes _ _) rfl (.refl)) (fun _ => .refl)

theorem sendExports_changes (s : State) : Changes [.pst, .sent] s (sendExports s) := by
  unfold sendExports
  exact .ite (fun _ => .refl) (fun _ => .each (fun _ _ => .each (fun _ _ => .comp (slSend_changes _ _ _) rfl (.refl)) (.refl)) (.refl))

theorem importAtT0_changes (e : ℕ × List (ℕ × Option Word)) (s : State) : Changes [.nibA, .nibB, .pst, .evr] s (importAtT0 e s) := by
  unfold importAtT0
  exact (by
   try dsimp only
   split
   · exact .app (.each (fun _ _ => .comp (putBoth_changes _ _ _) rfl (.refl)) (.refl)) (.comp (onPst_changes _ _) rfl (.refl))
   · exact .ite (fun _ => .each (fun _ _ => (by
     try dsimp only
     split
     · exact .comp (putBoth_changes _ _ _) rfl (.refl)
     · exact .refl
)) (.ite (fun _ => .comp (post_changes _ _ _ _) rfl (.comp (onPst_changes _ _) rfl (.comp (onPst_changes _ _) rfl (.refl)))) (fun _ => .comp (onPst_changes _ _) rfl (.refl)))) (fun _ => .ite (fun _ => .comp (post_changes _ _ _ _) rfl (.comp (onPst_changes _ _) rfl (.comp (onPst_changes _ _) rfl (.refl)))) (fun _ => .comp (onPst_changes _ _) rfl (.refl)))
)

theorem importsT0_changes (s : State) : Changes [.nibA, .nibB, .pst, .evr] s (importsT0 s) := by
  unfold importsT0
  exact .ite (fun _ => .refl) (fun _ => .comp (onPst_changes _ _) rfl (.each (fun _ _ => .comp (importAtT0_changes _ _) rfl (.refl)) (.refl)))

theorem supWrite_changes (w : Who) (off : ℕ) (v : Word) (s : State) : ChangesW [.sup] s (supWrite w off v s) := by
  unfold supWrite
  exact (.ite (fun _ => (.app (byLevel_changes rfl (fun _ => (.done (.comp (onSup_changes _ _) rfl (.refl))))) (.refl))) (fun _ => (.refuse (.refl))))

theorem timWrite_changes (w : Who) (off : ℕ) (v : Word) (s : State) : ChangesW [.tim] s (timWrite w off v s) := by
  unfold timWrite
  exact (.ite (fun _ => (.app (byLevel_changes rfl (fun _ => (.comp (ceilingWrite_changes _ _) rfl (.refl)))) (.refl))) (fun _ => (.ite (fun _ => (.app (byLevel_changes rfl (fun _ => (.done (.comp (onTim_changes _ _) rfl (.refl))))) (.refl))) (fun _ => (.refuse (.refl))))))

theorem bootWrite_changes (w : Who) (off : ℕ) (v : Word) (s : State) : ChangesW [.boot] s (bootWrite w off v s) := by
  unfold bootWrite
  exact (.ite (fun _ => (.app (byLevel_changes rfl (fun _ => (.done (.comp (onBoot_changes _ _) rfl (.refl))))) (.refl))) (fun _ => (.refuse (.refl))))

theorem cycWrite_changes (w : Who) (off : ℕ) (v : Word) (s : State) : ChangesW [.cyc] s (cycWrite w off v s) := by
  unfold cycWrite
  exact (.ite (fun _ => (.app (byLevel_changes rfl (fun _ => (.done (.comp (onCyc_changes _ _) rfl (.refl))))) (.refl))) (fun _ => (.refuse (.refl))))

theorem cmpWrite_changes (w : Who) (off : ℕ) (v : Word) (s : State) : ChangesW [.cmp] s (cmpWrite w off v s) := by
  unfold cmpWrite
  exact (.ite (fun _ => (.app (byLevel_changes rfl (fun _ => (.done (.comp (onCmp_changes _ _) rfl (.refl))))) (.refl))) (fun _ => (.refuse (.refl))))

theorem fchWrite_changes (w : Who) (r : Req) (off : ℕ) (v : Word) (s : State) : ChangesW [.cyc, .fch, .pst, .sent] s (fchWrite w r off v s) := by
  unfold fchWrite
  exact (.ite (fun _ => (.app (byLevel_changes rfl (fun _ => (.done (.comp (onFch_changes _ _) rfl (.refl))))) (.refl))) (fun _ => (.dite (fun _ => ((by
   try dsimp only
   split
   · exact (.app (byLevel_changes rfl (fun _ => (.comp (maintWrite_changes _ _ _ _) rfl (.refl)))) (.refl))
   · exact (.app (byLevel_changes rfl (fun _ => (.done (.comp (setGrp_changes _ _ _) rfl (.refl))))) (.refl))
   · exact (.refuse (.refl))
))) (fun _ => (.ite (fun _ => (.app (byLevel_changes rfl (fun _ => (.done (.comp (setChan_changes _ _ _) rfl (.refl))))) (.refl))) (fun _ => (.ite (fun _ => (.app (byLevel_changes rfl (fun _ => (.done (.comp (setChan_changes _ _ _) rfl (.refl))))) (.refl))) (fun _ => (.refuse (.refl))))))))))

theorem almRegWrite_changes (w : Who) (r : Req) (off : ℕ) (v : Word) (s : State) : ChangesW [.alm, .pst, .sent] s (almRegWrite w r off v s) := by
  unfold almRegWrite
  exact (.ite (fun _ => ((by
   try dsimp only
   split
   · exact (.comp (almFromLane_changes _ _) rfl (.refl))
   · exact (.ite (fun _ => (.refuse (.comp (almRefused_changes _) rfl (.refl)))) (fun _ => (.comp (almWrite_changes _ _ _) rfl (.refl))))
))) (fun _ => (.ite (fun _ => (.app (byLaneOr_changes rfl (fun _ => (.done (.comp (onAlm_changes _ _) rfl (.refl))))) (.refl))) (fun _ => (.refuse (.refl))))))

theorem pstWrite_changes (w : Who) (r : Req) (off : ℕ) (v : Word) (s : State) : ChangesW [.pst, .dsp, .sent] s (pstWrite w r off v s) := by
  unfold pstWrite
  exact (.ite (fun _ => (.app (byLevel_changes rfl (fun _ => ((by
   try dsimp only
   split
   · exact (.comp (pairWrite_changes _ _ _) rfl (.refl))
   · exact (.refuse (.refl))
)))) (.refl))) (fun _ => (.ite (fun _ => (.app (byLevel_changes rfl (fun _ => (.done (.comp (onPst_changes _ _) rfl (.refl))))) (.refl))) (fun _ => (.refuse (.refl))))))

theorem slkWrite_changes (w : Who) (off : ℕ) (v : Word) (s : State) : ChangesW [.pst, .frg] s (slkWrite w off v s) := by
  unfold slkWrite
  exact (.ite (fun _ => (.comp (injWrite_changes _ _ _ _ _) rfl (.refl))) (fun _ => (.ite (fun _ => (.comp (injBitWrite_changes _ _ _ _ _) rfl (.refl))) (fun _ => (.refuse (.refl))))))

theorem frgWrite_changes (w : Who) (off : ℕ) (v : Word) (s : State) : ChangesW [.pst, .frg] s (frgWrite w off v s) := by
  unfold frgWrite
  exact (.ite (fun _ => (.app (byLevel_changes rfl (fun _ => (.done (.comp (onFrg_changes _ _) rfl (.refl))))) (.refl))) (fun _ => (.ite (fun _ => (.comp (injWrite_changes _ _ _ _ _) rfl (.refl))) (fun _ => (.ite (fun _ => (.comp (injBitWrite_changes _ _ _ _ _) rfl (.refl))) (fun _ => (.refuse (.refl))))))))

theorem pnwWrite_changes (w : Who) (off : ℕ) (v : Word) (s : State) : ChangesW [.pnw] s (pnwWrite w off v s) := by
  unfold pnwWrite
  exact (.ite (fun _ => (.app (byLevel_changes rfl (fun _ => (.done (.comp (onPnw_changes _ _) rfl (.refl))))) (.refl))) (fun _ => (.refuse (.refl))))

theorem dspWrite_changes (w : Who) (off : ℕ) (v : Word) (s : State) : ChangesW [.dsp] s (dspWrite w off v s) := by
  unfold dspWrite
  exact ((by
   try dsimp only
   split
   · exact (.app (byLaneOr_changes rfl (fun _ => ((by
     try dsimp only
     split
     · exact (.refuse (.refl))
     · exact (.done (.comp (pageWrite_changes _ _) rfl (.refl)))
)))) (.refl))
   · exact ((by
     try dsimp only
     split
     · exact (.app (byLaneOr_changes rfl (fun _ => (.done (.refl)))) (.refl))
     · exact (.app (byLaneOr_changes rfl (fun _ => (.done (.comp (panelRedraw_changes _) rfl (.refl))))) (.refl))
     · exact (.app (byLaneOr_changes rfl (fun _ => (.done (.comp (panelClear_changes _) rfl (.refl))))) (.refl))
     · exact (.app (byLevel_changes rfl (fun _ => (.done (.comp (panelReinit_changes _ _) rfl (.refl))))) (.refl))
     · exact (.app (byLaneOr_changes rfl (fun _ => (.refuse (.refl)))) (.refl))
))
   · exact (.app (byLaneOr_changes rfl (fun _ => ((by
     try dsimp only
     split
     · exact (.refuse (.refl))
     · exact (.done (.comp (flWrite_changes _ _) rfl (.refl)))
)))) (.refl))
   · exact (.app (byLaneOr_changes rfl (fun _ => (.done (.comp (setDsp_changes _ _) rfl (.refl))))) (.refl))
   · exact (.refuse (.refl))
))

theorem objWrite_changes (w : Who) (r : Req) (a : ℕ) (v : Word) (s : State) : ChangesW [.sup, .tim, .cyc, .cmp, .lpe, .fch, .alm, .pst, .frg, .pnw, .evr, .cvu, .dsp, .boot, .sent] s (objWrite w r a v s) := by
  unfold objWrite
  exact (.ite (fun _ => (.refuse (.refl))) (fun _ => (.ite (fun _ => (.refuse (.refl))) (fun _ => (.ite (fun _ => (.comp (supWrite_changes _ _ _ _) rfl (.refl))) (fun _ => (.ite (fun _ => (.comp (timWrite_changes _ _ _ _) rfl (.refl))) (fun _ => (.ite (fun _ => (.comp (bootWrite_changes _ _ _ _) rfl (.refl))) (fun _ => (.ite (fun _ => (.refuse (.refl))) (fun _ => (.ite (fun _ => (.comp (cycWrite_changes _ _ _ _) rfl (.refl))) (fun _ => (.ite (fun _ => (.comp (cmpWrite_changes _ _ _ _) rfl (.refl))) (fun _ => (.ite (fun _ => (.comp (lpeWrite_changes _ _ _ _) rfl (.refl))) (fun _ => (.ite (fun _ => (.comp (fchWrite_changes _ _ _ _ _) rfl (.refl))) (fun _ => (.ite (fun _ => (.refuse (.refl))) (fun _ => (.ite (fun _ => (.comp (almRegWrite_changes _ _ _ _ _) rfl (.refl))) (fun _ => (.ite (fun _ => (.comp (pstWrite_changes _ _ _ _ _) rfl (.refl))) (fun _ => (.ite (fun _ => (.comp (slkWrite_changes _ _ _ _) rfl (.refl))) (fun _ => (.ite (fun _ => (.refuse (.refl))) (fun _ => (.ite (fun _ => (.comp (frgWrite_changes _ _ _ _) rfl (.refl))) (fun _ => (.ite (fun _ => (.comp (pnwWrite_changes _ _ _ _) rfl (.refl))) (fun _ => (.ite (fun _ => (.comp (evrWrite_changes _ _ _ _) rfl (.refl))) (fun _ => (.ite (fun _ => (.comp (cvuWrite_changes _ _ _ _) rfl (.refl))) (fun _ => (.ite (fun _ => (.refuse (.refl))) (fun _ => (.ite (fun _ => (.comp (dspWrite_changes _ _ _ _) rfl (.refl))) (fun _ => (.refuse (.refl))))))))))))))))))))))))))))))))))))))))))))

theorem eventsKept_changes (w : Who) (r : Req) (a : ℕ) (ws : List Word) (s : State) : ChangesW [.sup, .tim, .cyc, .cmp, .lpe, .fch, .alm, .pst, .frg, .pnw, .evr, .cvu, .dsp, .boot, .sent] s (eventsKept w r a ws s) := by
  unfold eventsKept
  exact (.ite (fun _ => (.app (writeWords_changes rfl (fun _ _ _ => (.comp (objWrite_changes _ _ _ _ _) rfl (.refl)))) (ChangesW.snd (.comp (objWrite_changes _ _ _ _ _) rfl (.refl))))) (fun _ => (.app (writeWords_changes rfl (fun _ _ _ => (.comp (objWrite_changes _ _ _ _ _) rfl (.refl)))) (.refl))))

theorem writeSpace_changes (w : Who) (r : Req) (a : ℕ) (ws : List Word) (s : State) : ChangesW [.sup, .tim, .cyc, .cmp, .lpe, .fch, .alm, .pst, .frg, .pnw, .evr, .cvu, .dsp, .boot, .sent] s (writeSpace w r a ws s) := by
  unfold writeSpace
  exact ((by
   try dsimp only
   split
   · exact (.app (byLevel_changes rfl (fun _ => (.comp (varWrite_changes _ _ _) rfl (.refl)))) (.refl))
   · exact (.comp (eventsKept_changes _ _ _ _ _) rfl (.refl))
))

theorem keepRead_changes (n : ℕ) (a : Word) (v : Word) (s : State) : Changes [.cyc] s (keepRead n a v s) := by
  unfold keepRead
  exact .ite (fun _ => .comp (onCyc_changes _ _) rfl (.refl)) (fun _ => .refl)

theorem objRead_changes {w : Who} {a : Nat} {s : State} {p : Word × State} (h : objRead w a s = some p) :
    Changes [.sup, .tim, .cyc, .cmp, .lpe, .fch, .alm, .pst, .frg, .evr, .dsp, .free] s p.2 := by
  unfold objRead at h
  split at h
  · cases h
  · split at h
    · cases h
      exact readEffect_changes _ _ |>.mono rfl
    · cases h
      exact .comp (takeFree_changes _) rfl (.comp (readEffect_changes _ _) rfl .refl)

theorem objrdOp_changes (l : Lane) (d : BitVec 6) (s : State) :
    Changes [.sup, .tim, .nibA, .nibB, .cyc, .cmp, .lpe, .fch, .alm, .pst, .frg, .evr, .dsp, .free] s (objrdOp l d s) := by
  unfold objrdOp
  dsimp only
  split
  · exact .comp (result_changes _ _ _ _) rfl (.comp (setLane_changes _ _ _) rfl .refl)
  · split
    · exact .comp (result_changes _ _ _ _) rfl (.comp (keepRead_changes _ _ _ _) rfl (.comp (objRefused_changes _) rfl
        (.comp (setLane_changes _ _ _) rfl .refl)))
    · rename_i h
      refine .comp (result_changes _ _ _ _) rfl (.comp (keepRead_changes _ _ _ _) rfl ?_)
      split at h
      · cases h
      · exact .comp (objRead_changes h) rfl (.comp (setLane_changes _ _ _) rfl .refl)

theorem objwrOp_changes (l : Lane) (d : BitVec 6) (s : State) : Changes [.sup, .tim, .nibA, .nibB, .cyc, .cmp, .lpe, .fch, .alm, .pst, .frg, .pnw, .evr, .cvu, .dsp, .boot, .sent] s (objwrOp l d s) := by
  unfold objwrOp
  exact .app (.ite (fun _ => .comp (result_changes _ _ _ _) rfl (.comp (queueForTo_changes _ _ _) rfl (.refl))) (fun _ => .comp (result_changes _ _ _ _) rfl (.comp (objRefused_changes _) rfl (ChangesW.snd (.comp (objWrite_changes _ _ _ _ _) rfl (.refl)))))) (.comp (setLane_changes _ _ _) rfl (.refl))

theorem runObjwr_changes (l : Lane) (a : Word) (v : Word) (s : State) : Changes [.sup, .tim, .cyc, .cmp, .lpe, .fch, .alm, .pst, .frg, .pnw, .evr, .cvu, .dsp, .boot, .sent] s (runObjwr l a v s) := by
  unfold runObjwr
  exact ChangesW.snd (.comp (objWrite_changes _ _ _ _ _) rfl (.refl))

theorem takeLinkLocal_changes (s : State) : Changes [.pnw, .free] s (takeLinkLocal s) := by
  unfold takeLinkLocal
  exact .comp (takeFree_changes _) rfl (.comp (onPnw_changes _ _) rfl (.refl))

theorem replyOpen_changes (m : Req) (st : BitVec 16) (body : List Byte) (s : State) : Changes [.sent] s (replyOpen m st body s) := by
  unfold replyOpen
  exact .comp (emitLan_changes _ _) rfl (.refl)

theorem openReq_changes {T : List Part} {m : Req} {k : State → State} {s : State} (hT : subParts [.pnw, .sent] T = true) (h_k : ∀ u, Changes T u (k u)) :
    Changes T s (openReq m k s) := by
  unfold openReq
  exact .app (arriving_changes (subParts_trans rfl hT) (fun _ => .ite (fun _ => .refl) (fun _ => .ite (fun _ => .app (relayed_changes (subParts_trans rfl hT) (fun _ => .comp (replyOpen_changes _ _ _ _) (subParts_trans rfl hT) (.refl))) (.refl)) (fun _ => .app (h_k _) (.refl))))) (.refl)

theorem openSession_changes (m : Unsess) (onStn : Bool) (level : BitVec 8) (nonce : List Byte) (s : State) : Changes [.pnw, .sent, .free] s (openSession m onStn level nonce s) := by
  unfold openSession
  exact .ite (fun _ => .refl) (fun _ => .ite (fun _ => .comp (replyOpen_changes _ _ _ _) rfl (.refl)) (fun _ => .ite (fun _ => .comp (replyOpen_changes _ _ _ _) rfl (.refl)) (fun _ => .ite (fun _ => .comp (replyOpen_changes _ _ _ _) rfl (.refl)) (fun _ => .comp (replyOpen_changes _ _ _ _) rfl (.upd (.refl) (.inr rfl) (.inr rfl) (.inr rfl) (.inr rfl) (.inr rfl) (.inr rfl) (.inr rfl) (.inr rfl) (.inr rfl) (.inr rfl) (.inr rfl) (.inr rfl) (.inr rfl) (.inr rfl) (.inr rfl) (.inl rfl) (.inr rfl) (.inr rfl) (.inr rfl) (.inr rfl) (.inr rfl) (.inr rfl) (.inr rfl) (.inr rfl) (.inl rfl))))))

theorem authFailed_changes (ip : Word) (s : State) : Changes [.pnw, .evr] s (authFailed ip s) := by
  unfold authFailed
  exact .app (.ite (fun _ => .comp (post_changes _ _ _ _) rfl (.comp (onPnw_changes _ _) rfl (.refl))) (fun _ => .refl)) (.comp (onPnw_changes _ _) rfl (.refl))

theorem auth_changes (m : Unsess) (sess : Word) (proof : List Byte) (s : State) : Changes [.pnw, .evr, .sent] s (auth m sess proof s) := by
  unfold auth
  exact .ite (fun _ => .comp (replyOpen_changes _ _ _ _) rfl (.refl)) (fun _ => (by
   try dsimp only
   split
   · exact .comp (replyOpen_changes _ _ _ _) rfl (.comp (authFailed_changes _ _) rfl (.refl))
   · exact .ite (fun _ => .comp (replyOpen_changes _ _ _ _) rfl (.comp (setSession_changes _ _ _) rfl (.refl))) (fun _ => .comp (replyOpen_changes _ _ _ _) rfl (.comp (authFailed_changes _ _) rfl (.refl)))
))

theorem readWords_changes {w : Who} {a n : Nat} {s : State} {p : List Word × State} (h : readWords w a n s = some p) :
    Changes [.sup, .tim, .cyc, .cmp, .lpe, .fch, .alm, .pst, .frg, .evr, .dsp, .free] s p.2 := by
  induction n generalizing a s p with
  | zero => unfold readWords at h; cases h; exact .refl
  | succ n ih =>
    unfold readWords at h
    split at h
    · cases h
    · rename_i e
      obtain ⟨q, hq, rfl⟩ := Option.map_eq_some_iff.mp h
      have k := ih hq
      exact .app k (objRead_changes e)

theorem readSpace_changes (r : Req) (a : Nat) (n : Nat) (s : State) :
    Changes [.sup, .tim, .cyc, .cmp, .lpe, .fch, .alm, .pst, .frg, .evr, .dsp, .sent, .free] s (readSpace r a n s) := by
  unfold readSpace
  refine .ite (fun _ => .comp (reply_changes _ _ _ _) rfl .refl) (fun _ => ?_)
  split
  · exact .comp (reply_changes _ _ _ _) rfl .refl
  · rename_i e
    exact .comp (reply_changes _ _ _ _) rfl (.comp (readWords_changes e) rfl .refl)

theorem mbValue_changes {e : MbEntry} {s : State} {p : Word × State} (h : mbValue e s = some p) : Changes [.sup, .tim, .cyc, .cmp, .lpe, .fch, .alm, .pst, .frg, .evr, .dsp, .free] s p.2 := by
  unfold mbValue at h
  split at h
  · split at h
    · cases h; exact .refl
    · cases h
  · exact objRead_changes h

theorem mbRead_changes {inputs : Bool} {tbl : List (Nat × MbEntry)} {q n : Nat} {s : State} {p : List (BitVec 16) × State}
    (h : mbRead inputs tbl q n s = some p) : Changes [.sup, .tim, .cyc, .cmp, .lpe, .fch, .alm, .pst, .frg, .evr, .dsp, .free] s p.2 := by
  induction q using Nat.strongRecOn generalizing n s p with
  | ind q ih =>
    cases q with
    | zero => unfold mbRead at h; cases h; exact .refl
    | succ q =>
      unfold mbRead at h
      dsimp only at h
      split at h
      · split at h
        · obtain ⟨r, hr, rfl⟩ := Option.map_eq_some_iff.mp h
          have k := ih q (Nat.lt_succ_self q) hr
          exact k
        · split at h
          · split at h
            · rename_i e
              obtain ⟨r, hr, rfl⟩ := Option.map_eq_some_iff.mp h
              have k := ih _ (by omega) hr
              exact .app k (objRead_changes e)
            · cases h
          · cases h
      · split at h
        · cases h
        · split at h
          · cases h
          · rename_i e
            split at h
            · split at h
              · obtain ⟨r, hr, rfl⟩ := Option.map_eq_some_iff.mp h
                have k := ih _ (by omega) hr
                exact .app k (mbValue_changes e)
              · cases h
            · obtain ⟨r, hr, rfl⟩ := Option.map_eq_some_iff.mp h
              have k := ih _ (by omega) hr
              exact .app k (mbValue_changes e)

theorem mbReadReq_changes (conn : MbHdr) (fc : Byte) (inputs : Bool) (start : BitVec 16) (qty : BitVec 16) (s : State) :
    Changes [.sup, .tim, .cyc, .cmp, .lpe, .fch, .alm, .pst, .frg, .pnw, .evr, .dsp, .sent, .free] s
      (mbReadReq conn fc inputs start qty s) := by
  unfold mbReadReq
  refine .ite (fun _ => .refl) (fun _ => .ite (fun _ => .comp (mbException_changes _ _ _ _) rfl .refl) (fun _ => ?_))
  split
  · exact .comp (mbException_changes _ _ _ _) rfl .refl
  · rename_i e
    exact .comp (emitLan_changes _ _) rfl (.comp (mbRead_changes e) rfl .refl)

theorem mbWriteRegs_changes (l : List (MbEntry × Word)) (s : State) :
    ChangesW [.sup, .tim, .cyc, .cmp, .lpe, .fch, .alm, .pst, .frg, .pnw, .evr, .cvu, .dsp, .boot, .sent] s (mbWriteRegs l s) := by
  induction l generalizing s with
  | nil => exact .done .refl
  | cons e l ih =>
    unfold mbWriteRegs
    exact .ite (fun _ => .app (ih _) (ChangesW.snd (.comp (objWrite_changes _ _ _ _ _) rfl .refl)))
      (fun _ => .comp (objWrite_changes _ _ _ _ _) rfl .refl)

theorem mbWriteAll_changes (l : List (MbEntry × Word)) (s : State) : ChangesW [.sup, .tim, .cyc, .cmp, .lpe, .fch, .alm, .pst, .frg, .pnw, .evr, .cvu, .dsp, .boot, .sent] s (mbWriteAll l s) := by
  unfold mbWriteAll
  exact (.ite (fun _ => (.refuse (.refl))) (fun _ => (.ite (fun _ => (.pair (.comp (keepRefusals_changes _ _) rfl (.refl)))) (fun _ => (.ite (fun _ => (.comp (mbWriteRegs_changes _ _) rfl (.refl))) (fun _ => (.ite (fun _ => (.comp (varWrite_changes _ _ _) rfl (ChangesW.snd (.comp (mbWriteRegs_changes _ _) rfl (.refl))))) (fun _ => (.pair (.comp (keepRefusals_changes _ _) rfl (.refl)))))))))))

theorem mbWriteReq_changes (h : MbHdr) (fc : Byte) (start : BitVec 16) (vals : List (BitVec 16)) (ok : List Byte) (s : State) : Changes [.sup, .tim, .cyc, .cmp, .lpe, .fch, .alm, .pst, .frg, .pnw, .evr, .cvu, .dsp, .boot, .sent] s (mbWriteReq h fc start vals ok s) := by
  unfold mbWriteReq
  exact (by
   try dsimp only
   split
   · exact .comp (mbException_changes _ _ _ _) rfl (.refl)
   · exact .ite (fun _ => .comp (mbException_changes _ _ _ _) rfl (ChangesW.snd (.comp (mbWriteAll_changes _ _) rfl (.refl)))) (fun _ => .ite (fun _ => .comp (onPst_changes _ _) rfl (ChangesW.snd (.comp (mbWriteAll_changes _ _) rfl (.refl)))) (fun _ => .comp (emitLan_changes _ _) rfl (ChangesW.snd (.comp (mbWriteAll_changes _ _) rfl (.refl)))))
)

theorem stateCommand_changes {T : List Part} {r : Req} {ok : State → Bool} {c : FwdCmd} {a : T0Act} {apply : State → State} {s : State} (hT : subParts [.cyc, .pst, .pnw, .sent] T = true) (h_apply : ∀ u, Changes T u (apply u)) :
    Changes T s (stateCommand r ok c a apply s) := by
  unfold stateCommand
  exact .app (screenReq_changes (subParts_trans rfl hT) (fun _ => .app (acceptIf_changes (subParts_trans rfl hT) (fun _ => .app (acceptBoth_changes (subParts_trans rfl hT) (fun _ => .ite (fun _ => .comp (schedule_changes _ _) (subParts_trans rfl hT) (.refl)) (fun _ => .app (h_apply _) (.refl)))) (.refl))) (.refl))) (.refl)

theorem leaveCommissioning_changes (s : State) : Changes [.sup, .fch, .pst, .frg, .evr] s (leaveCommissioning s) := by
  unfold leaveCommissioning
  exact .app (.comp (onSup_changes _ _) rfl (.refl)) (.comp (endCommissioning_changes _) rfl (.refl))

theorem dropHeld_changes (s : State) : Changes [.cyc, .cmp, .fch] s (dropHeld s) := by
  unfold dropHeld
  exact .app (.ite (fun _ => .comp (withdraw_changes _ _) rfl (.refl)) (fun _ => .refl)) (.each (fun _ _ => .comp (withdraw_changes _ _) rfl (.refl)) (.comp (onCyc_changes _ _) rfl (.refl)))

theorem adoptKeys_changes (s : State) : Changes [.pnw] s (adoptKeys s) := by
  unfold adoptKeys
  exact (by
   try dsimp only
   split
   · exact .comp (onPnw_changes _ _) rfl (.refl)
   · exact .refl
)

theorem enterRun_changes (s : State) : Changes [.sup, .cyc, .lpe, .fch, .pst, .pnw, .evr, .dsp, .boot] s (enterRun s) := by
  unfold enterRun
  exact .app (.app (.app (.comp (requalAll_changes _ _) rfl (.comp (applyOutputs_changes _) rfl (.comp (loopInit_changes _) rfl (.refl)))) (.comp (onCyc_changes _ _) rfl (.refl))) (.comp (onBoot_changes _ _) rfl (.refl))) (.comp (adoptKeys_changes _) rfl (.comp (onSup_changes _ _) rfl (.comp (roleAtRun_changes _) rfl (.refl))))

theorem latchInputs_changes (s : State) : Changes [.cyc, .fch] s (latchInputs s) := by
  unfold latchInputs
  exact .app (.each (fun _ _ => .comp (setChan_changes _ _ _) rfl (.refl)) (.refl)) (.comp (onCyc_changes _ _) rfl (.refl))

theorem beginCycle_changes (s : State) : Changes [.nibA, .nibB, .cyc, .lpe, .fch, .pst, .frg, .evr, .sent, .free] s (beginCycle s) := by
  unfold beginCycle
  exact .app (.comp (latchInputs_changes _) rfl (.comp (syncSend_changes _) rfl (.comp (ringT0_changes _) rfl (.comp (importsT0_changes _) rfl (.comp (onLpe_changes _ _) rfl (.refl)))))) (.comp (onCyc_changes _ _) rfl (.refl))

theorem idleT0_changes (s : State) : Changes [.nibA, .nibB, .cyc, .cmp, .lpe, .pst, .frg, .evr, .sent, .free] s (idleT0 s) := by
  unfold idleT0
  exact .app (.app (.comp (syncSend_changes _) rfl (.comp (ringT0_changes _) rfl (.comp (importsT0_changes _) rfl (.comp (followRejoin_changes _ _) rfl (.refl))))) (.ite (fun _ => .refl) (fun _ => .comp (onLpe_changes _ _) rfl (.comp (onPst_changes _ _) rfl (.refl))))) (.comp (onCyc_changes _ _) rfl (.refl))

theorem countQual_changes (s : State) : Changes [.pst] s (countQual s) := by
  unfold countQual
  exact .ite (fun _ => .comp (onPst_changes _ _) rfl (.refl)) (fun _ => .refl)

theorem cycleT0_changes (s : State) : Changes [.sup, .nibA, .nibB, .cyc, .cmp, .lpe, .fch, .saf, .alm, .pst, .frg, .pnw, .evr, .cvu, .dsp, .boot, .sent, .free] s (cycleT0 s) := by
  unfold cycleT0
  exact .ite (fun _ => .ite (fun _ => .comp (enterRun_changes _) rfl (.refl)) (fun _ => .refl)) (fun _ => (by
   try dsimp only
   split
   · exact .comp (enterReset_changes _ _ _) rfl (.ite (fun _ => .comp (enterRun_changes _) rfl (.refl)) (fun _ => .refl))
   · exact .ite (fun _ => .comp (selfDiag_changes _ _) rfl (.ite (fun _ => .comp (enterRun_changes _) rfl (.refl)) (fun _ => .refl))) (fun _ => .app (.app (.app (.app (.ite (fun _ => .comp (beginCycle_changes _) rfl (.refl)) (fun _ => .comp (idleT0_changes _) rfl (.refl))) (.comp (countQual_changes _) rfl (.comp (laneModeT0_changes _) rfl (.comp (applyDue_changes _ _ _) rfl (.refl))))) (.upd (.refl) (.inr rfl) (.inr rfl) (.inr rfl) (.inr rfl) (.inr rfl) (.inl rfl) (.inl rfl) (.inr rfl) (.inr rfl) (.inr rfl) (.inr rfl) (.inr rfl) (.inr rfl) (.inr rfl) (.inr rfl) (.inr rfl) (.inr rfl) (.inr rfl) (.inr rfl) (.inr rfl) (.inr rfl) (.inr rfl) (.inr rfl) (.inr rfl) (.inr rfl))) (.comp (dropHeld_changes _) rfl (.comp (applyJournal_changes _) rfl (.refl)))) (.comp (onCyc_changes _ _) rfl (.ite (fun _ => .comp (enterRun_changes _) rfl (.refl)) (fun _ => .refl))))
))

theorem openWindow_changes (s : State) : Changes [.nibA, .nibB, .cyc, .cmp, .mtrLanes] s (openWindow s) := by
  unfold openWindow
  exact .app (.app (.app (.comp (checkpoint_changes _ _ _ _) rfl (.comp (checkpoint_changes _ _ _ _) rfl (.refl))) (.comp (onCyc_changes _ _) rfl (.refl))) (.comp (onCmp_changes _ _) rfl (.refl))) (.upd (.refl) (.inr rfl) (.inr rfl) (.inr rfl) (.inr rfl) (.inr rfl) (.inl rfl) (.inl rfl) (.inr rfl) (.inr rfl) (.inr rfl) (.inr rfl) (.inr rfl) (.inr rfl) (.inr rfl) (.inr rfl) (.inr rfl) (.inr rfl) (.inr rfl) (.inr rfl) (.inr rfl) (.inl rfl) (.inr rfl) (.inr rfl) (.inr rfl) (.inr rfl))

theorem runQueue_changes (l : Lane) (late : Bool) (s : State) : Changes [.sup, .tim, .nibA, .nibB, .cyc, .cmp, .lpe, .fch, .alm, .pst, .frg, .pnw, .evr, .cvu, .dsp, .boot, .sent] s (runQueue l late s) := by
  unfold runQueue
  exact .each (fun _ _ => (by
   try dsimp only
   split
   · exact .ite (fun _ => .refl) (fun _ => .comp (runObjwr_changes _ _ _ _) rfl (.refl))
   · exact .comp (postHead_changes _ _ _) rfl (.refl)
)) (.comp (setLane_changes _ _ _) rfl (.refl))

theorem runQueues_changes (late : Bool) (s : State) : Changes [.sup, .tim, .nibA, .nibB, .cyc, .cmp, .lpe, .fch, .alm, .pst, .frg, .pnw, .evr, .cvu, .dsp, .boot, .sent] s (runQueues late s) := by
  unfold runQueues
  exact .app (.ite (fun _ => .comp (runQueue_changes _ _ _) rfl (.refl)) (fun _ => .comp (setLane_changes _ _ _) rfl (.refl))) (.comp (runQueue_changes _ _ _) rfl (.refl))

theorem takeSnapshot_changes (s : State) : Changes [.cyc] s (takeSnapshot s) := by
  unfold takeSnapshot
  exact .comp (onCyc_changes _ _) rfl (.refl)

theorem endOutWait_changes (s : State) : Changes [.fch] s (endOutWait s) := by
  unfold endOutWait
  exact .each (fun _ _ => .comp (setGrp_changes _ _ _) rfl (.refl)) (.refl)

theorem exitStep_changes (s : State) : Changes [.sup] s (exitStep s) := by
  unfold exitStep
  exact .comp (onSup_changes _ _) rfl (.refl)

theorem releaseImage_changes (s : State) : Changes [.sup, .cyc, .lpe] s (releaseImage s) := by
  unfold releaseImage
  exact .ite (fun _ => .comp (exitStep_changes _) rfl (.refl)) (fun _ => .app (.comp (loopTransfer_changes _) rfl (.comp (onCyc_changes _ _) rfl (.refl))) (.comp (onSup_changes _ _) rfl (.comp (exitStep_changes _) rfl (.refl))))

theorem releaseCycle_changes (s : State) : Changes [.sup, .tim, .nibA, .nibB, .cyc, .cmp, .lpe, .fch, .saf, .alm, .pst, .frg, .pnw, .evr, .cvu, .dsp, .boot, .sent, .free] s (releaseCycle s) := by
  unfold releaseCycle
  exact .app (.app (.app (.app (.app (.app (.comp (panelRefresh_changes _ _) rfl (.comp (rejoinT0_changes _) rfl (.refl))) (.comp (grantAll_changes _) rfl (.comp (sendExports_changes _) rfl (.comp (sendDelta_changes _) rfl (.refl))))) (.comp (applyOutputs_changes _) rfl (.comp (pairsAtTo_changes _) rfl (.comp (endOutWait_changes _) rfl (.refl))))) (.comp (dueDigest_changes _) rfl (.comp (onCyc_changes _ _) rfl (.refl)))) (.comp (takeSnapshot_changes _) rfl (.comp (retainCopy_changes _) rfl (.refl)))) (.comp (runQueues_changes _ _) rfl (.refl))) (.comp (releaseImage_changes _) rfl (.refl))

theorem markOverrun_changes (s : State) : Changes [.cyc] s (markOverrun s) := by
  unfold markOverrun
  exact .each (fun _ _ => .comp (setCell_changes _ _ _) rfl (.refl)) (.refl)

theorem overrun_changes (s : State) : Changes [.sup, .nibA, .nibB, .cyc, .cmp, .lpe, .fch, .saf, .alm, .pst, .frg, .pnw, .evr, .cvu, .dsp, .boot, .sent, .free] s (overrun s) := by
  unfold overrun
  exact .app (.app (.app (.app (.app (.ite (fun _ => .comp (selfDiag_changes _ _) rfl (.refl)) (fun _ => .refl)) (.comp (rejoinOverrun_changes _) rfl (.comp (grantAll_changes _) rfl (.comp (applyOutputs_changes _) rfl (.comp (pairsAtTo_changes _) rfl (.comp (endOutWait_changes _) rfl (.comp (exitStep_changes _) rfl (.refl)))))))) (.comp (post_changes _ _ _ _) rfl (.comp (onAlm_changes _ _) rfl (.refl)))) (.comp (onCyc_changes _ _) rfl (.comp (markOverrun_changes _) rfl (.refl)))) (.comp (onLpe_changes _ _) rfl (.refl))) (.upd (.refl) (.inr rfl) (.inr rfl) (.inr rfl) (.inr rfl) (.inr rfl) (.inl rfl) (.inl rfl) (.inr rfl) (.inr rfl) (.inr rfl) (.inr rfl) (.inr rfl) (.inr rfl) (.inr rfl) (.inr rfl) (.inr rfl) (.inr rfl) (.inr rfl) (.inr rfl) (.inr rfl) (.inr rfl) (.inr rfl) (.inr rfl) (.inr rfl) (.inr rfl))

theorem holdRelease_changes (s : State) : Changes [.cmp, .fch, .saf, .frg, .evr, .sent, .free] s (holdRelease s) := by
  unfold holdRelease
  exact .app (.comp (grantAll_changes _) rfl (.comp (applyOutputs_changes _) rfl (.comp (pairsAtTo_changes _) rfl (.comp (endOutWait_changes _) rfl (.comp (holdOutputs_changes _) rfl (.refl)))))) (.comp (dueDigest_changes _) rfl (.refl))

theorem standbyRelease_changes (s : State) : Changes [.sup, .cyc, .fch, .pst, .evr] s (standbyRelease s) := by
  unfold standbyRelease
  exact .app (.comp (applyOutputs_changes _) rfl (.comp (exitStep_changes _) rfl (.ite (fun _ => .refl) (fun _ => .comp (onSup_changes _ _) rfl (.refl))))) (.comp (endOutWait_changes _) rfl (.comp (takeSnapshot_changes _) rfl (.comp (onPst_changes _ _) rfl (.refl))))

theorem outputRelease_changes (s : State) : Changes [.sup, .tim, .nibA, .nibB, .cyc, .cmp, .lpe, .fch, .saf, .alm, .pst, .frg, .pnw, .evr, .cvu, .dsp, .boot, .sent, .free] s (outputRelease s) := by
  unfold outputRelease
  exact .ite (fun _ => .refl) (fun _ => .ite (fun _ => .comp (holdRelease_changes _) rfl (.refl)) (fun _ => (by
   try dsimp only
   split
   · exact .comp (releaseCycle_changes _) rfl (.ite (fun _ => .comp (compareComplete_changes _) rfl (.refl)) (fun _ => .refl))
   · exact .ite (fun _ => .comp (dueDigest_changes _) rfl (.ite (fun _ => .comp (compareComplete_changes _) rfl (.refl)) (fun _ => .refl))) (fun _ => .comp (standbyRelease_changes _) rfl (.comp (dueDigest_changes _) rfl (.ite (fun _ => .comp (compareComplete_changes _) rfl (.refl)) (fun _ => .refl))))
   · exact .ite (fun _ => .ite (fun _ => .comp (compareComplete_changes _) rfl (.refl)) (fun _ => .refl)) (fun _ => .comp (overrun_changes _) rfl (.ite (fun _ => .comp (compareComplete_changes _) rfl (.refl)) (fun _ => .refl)))
)))

theorem lateComplete_changes (s : State) : Changes [.sup, .tim, .nibA, .nibB, .cyc, .cmp, .lpe, .fch, .alm, .pst, .frg, .pnw, .evr, .cvu, .dsp, .boot, .sent] s (lateComplete s) := by
  unfold lateComplete
  exact .ite (fun _ => .app (.app (.app (.comp (rejoinLate_changes _) rfl (.comp (sendExports_changes _) rfl (.comp (sendDelta_changes _) rfl (.refl)))) (.comp (dueDigest_changes _) rfl (.comp (onCyc_changes _ _) rfl (.refl)))) (.comp (retainCopy_changes _) rfl (.comp (runQueues_changes _ _) rfl (.refl)))) (.comp (finishCompare_changes _) rfl (.refl))) (fun _ => .refl)

theorem roleTransfer_changes (s : State) : Changes [.sup, .nibA, .nibB, .cyc, .cmp, .lpe, .fch, .saf, .alm, .pst, .frg, .evr, .dsp, .sent] s (roleTransfer s) := by
  unfold roleTransfer
  exact (by
   try dsimp only
   split
   · exact .refl
   · exact .ite (fun _ => .comp (onPst_changes _ _) rfl (.refl)) (fun _ => .ite (fun _ => .app (.app (.comp (releaseRole_changes _ _) rfl (.refl)) (.ite (fun _ => .comp (sendCarafe_changes _ _) rfl (.refl)) (fun _ => .refl))) (.comp (laneModeT0_changes _) rfl (.comp (applyDue_changes _ _ _) rfl (.refl)))) (fun _ => .refl))
)

theorem seeVin_changes (v : BitVec 16) (s : State) : Changes [.sup] s (seeVin v s) := by
  unfold seeVin
  exact .comp (onSup_changes _ _) rfl (.refl)

theorem portsWarm_changes (s : State) : Changes [.pst, .frg] s (portsWarm s) := by
  unfold portsWarm
  exact .comp (onFrg_changes _ _) rfl (.comp (onPst_changes _ _) rfl (.refl))

theorem resetCold_changes (c : ResetClass) (s : State) : Changes [.img, .sup, .tim, .nibA, .nibB, .cyc, .cmp, .lpe, .fch, .saf, .alm, .pst, .frg, .pnw, .evr, .cvu, .mtr, .mtrLanes, .dsp, .boot] s (resetCold c s) := by
  unfold resetCold
  exact .upd (.refl) (.inr rfl) (.inl rfl) (.inr rfl) (.inl rfl) (.inl rfl) (.inl rfl) (.inl rfl) (.inl rfl) (.inl rfl) (.inl rfl) (.inl rfl) (.inl rfl) (.inl rfl) (.inl rfl) (.inl rfl) (.inl rfl) (.inl rfl) (.inl rfl) (.inr rfl) (.inl rfl) (.inl rfl) (.inl rfl) (.inl rfl) (.inr rfl) (.inr rfl)

theorem resetWarm_changes (s : State) : Changes [.sup, .tim, .nibA, .nibB, .cyc, .cmp, .lpe, .fch, .saf, .alm, .pst, .frg, .pnw, .evr, .cvu, .mtr, .mtrLanes, .dsp, .boot] s (resetWarm s) := by
  unfold resetWarm
  exact .app (.upd (.refl) (.inr rfl) (.inr rfl) (.inr rfl) (.inl rfl) (.inl rfl) (.inl rfl) (.inl rfl) (.inl rfl) (.inl rfl) (.inl rfl) (.inl rfl) (.inl rfl) (.inl rfl) (.inl rfl) (.inr rfl) (.inl rfl) (.inl rfl) (.inl rfl) (.inr rfl) (.inl rfl) (.inl rfl) (.inl rfl) (.inl rfl) (.inr rfl) (.inr rfl)) (.comp (portsWarm_changes _) rfl (.comp (clearInjectors_changes _) rfl (.comp (unshedAll_changes _) rfl (.refl))))

theorem resetState_changes (c : ResetClass) (s : State) : Changes [.img, .sup, .tim, .nibA, .nibB, .cyc, .cmp, .lpe, .fch, .saf, .alm, .pst, .frg, .pnw, .evr, .cvu, .mtr, .mtrLanes, .dsp, .boot] s (resetState c s) := by
  unfold resetState
  exact .ite (fun _ => .comp (resetWarm_changes _) rfl (.refl)) (fun _ => .comp (resetCold_changes _ _) rfl (.refl))

theorem rtcAtStart_changes (s : State) : Changes [.sup, .free] s (rtcAtStart s) := by
  unfold rtcAtStart
  exact .ite (fun _ => .comp (onSup_changes _ _) rfl (.refl)) (fun _ => .comp (takeFree_changes _) rfl (.comp (onSup_changes _ _) rfl (.refl)))

theorem beginStart_changes (c : ResetClass) (cause : Byte) (s : State) : Changes [.sup, .free] s (beginStart c cause s) := by
  unfold beginStart
  exact .app (.comp (onSup_changes _ _) rfl (.refl)) (.ite (fun _ => .refl) (fun _ => .comp (rtcAtStart_changes _) rfl (.refl)))

theorem holdReset_changes (c : ResetClass) (cause : Byte) (s : State) : Changes [.sup, .free] s (holdReset c cause s) := by
  unfold holdReset
  exact .ite (fun _ => .comp (onSup_changes _ _) rfl (.refl)) (fun _ => .comp (beginStart_changes _ _ _) rfl (.refl))

theorem releaseReset_changes (s : State) : Changes [.sup, .free] s (releaseReset s) := by
  unfold releaseReset
  exact (by
   try dsimp only
   split
   · exact .ite (fun _ => .refl) (fun _ => .comp (beginStart_changes _ _ _) rfl (.refl))
   · exact .refl
)

theorem flushComplete_changes (s : State) : Changes [.img, .sup, .tim, .nibA, .nibB, .cyc, .cmp, .lpe, .fch, .saf, .alm, .pst, .frg, .pnw, .evr, .cvu, .mtr, .mtrLanes, .dsp, .boot, .free] s (flushComplete s) := by
  unfold flushComplete
  exact .ite (fun _ => .refl) (fun _ => (by
   try dsimp only
   split
   · exact .comp (holdReset_changes _ _ _) rfl (.comp (resetState_changes _ _) rfl (.comp (flushDone_changes _) rfl (.refl)))
   · exact .comp (flushDone_changes _) rfl (.refl)
))

theorem vinWarning_changes (v : BitVec 16) (s : State) : Changes [.sup, .evr, .dsp] s (vinWarning v s) := by
  unfold vinWarning
  exact .ite (fun _ => .refl) (fun _ => .app (.ite (fun _ => .comp (panelAbort_changes _) rfl (.comp (startFlush_changes _) rfl (.refl))) (fun _ => .refl)) (.comp (onSup_changes _ _) rfl (.comp (seeVin_changes _ _) rfl (.refl))))

theorem raiseUnstable_changes (s : State) : Changes [.sup, .evr] s (raiseUnstable s) := by
  unfold raiseUnstable
  exact .ite (fun _ => .comp (post_changes _ _ _ _) rfl (.comp (onSup_changes _ _) rfl (.refl))) (fun _ => .refl)

theorem episodeEnd_changes (lowest : BitVec 16) (us : Word) (s : State) : Changes [.sup, .tim, .evr, .dsp, .free] s (episodeEnd lowest us s) := by
  unfold episodeEnd
  exact .ite (fun _ => .refl) (fun _ => .app (.app (.app (.comp (raiseUnstable_changes _) rfl (.comp (railsUp_changes _) rfl (.comp (panelReissue_changes _) rfl (.refl)))) (.comp (post_changes _ _ _ _) rfl (.comp (newCeiling_changes _ _) rfl (.refl)))) (.comp (onSup_changes _ _) rfl (.refl))) (.comp (takeFree_changes _) rfl (.comp (onSup_changes _ _) rfl (.refl))))

theorem vinReset_changes (v : BitVec 16) (s : State) : Changes [.sup, .nibA, .nibB, .cyc, .cmp, .fch, .saf, .alm, .pst, .pnw, .evr, .cvu, .dsp, .boot, .sent] s (vinReset v s) := by
  unfold vinReset
  exact .ite (fun _ => .refl) (fun _ => .comp (enterReset_changes _ _ _) rfl (.comp (onSup_changes _ _) rfl (.comp (seeVin_changes _ _) rfl (.refl))))

theorem cutFlush_changes (s : State) : Changes [.evr, .free] s (cutFlush s) := by
  unfold cutFlush
  exact .comp (takeFree_changes _) rfl (.comp (onEvr_changes _ _) rfl (.refl))

theorem suppliesStop_changes (s : State) : Changes [.img, .sup, .tim, .nibA, .nibB, .cyc, .cmp, .lpe, .fch, .saf, .alm, .pst, .frg, .pnw, .evr, .cvu, .mtr, .mtrLanes, .dsp, .boot, .free] s (suppliesStop s) := by
  unfold suppliesStop
  exact (by
   try dsimp only
   split
   · exact .refl
   · exact .comp (onSup_changes _ _) rfl (.comp (resetCold_changes _ _) rfl (.refl))
   · exact .app (.app (.comp (applyOutputs_changes _) rfl (.refl)) (.comp (onSup_changes _ _) rfl (.comp (resetCold_changes _ _) rfl (.refl)))) (.comp (cutFlush_changes _) rfl (.comp (endSessions_changes _) rfl (.comp (panelAbort_changes _) rfl (.refl))))
)

theorem vinRestart_changes (s : State) : Changes [.sup, .free] s (vinRestart s) := by
  unfold vinRestart
  exact .app (.ite (fun _ => .comp (holdReset_changes _ _ _) rfl (.refl)) (fun _ => .comp (releaseReset_changes _) rfl (.refl))) (.comp (onSup_changes _ _) rfl (.refl))

theorem pinLow_changes (s : State) : Changes [.sup, .nibA, .nibB, .cyc, .cmp, .fch, .saf, .alm, .pst, .pnw, .evr, .cvu, .dsp, .boot, .sent] s (pinLow s) := by
  unfold pinLow
  exact .ite (fun _ => .refl) (fun _ => .app (.ite (fun _ => .refl) (fun _ => .comp (enterReset_changes _ _ _) rfl (.refl))) (.comp (onSup_changes _ _) rfl (.refl)))

theorem pinHigh_changes (s : State) : Changes [.sup, .free] s (pinHigh s) := by
  unfold pinHigh
  exact .comp (releaseReset_changes _) rfl (.comp (onSup_changes _ _) rfl (.refl))

theorem pinStuck_changes (s : State) : Changes [.sup, .free] s (pinStuck s) := by
  unfold pinStuck
  exact (by
   try dsimp only
   split
   · exact .ite (fun _ => .comp (releaseReset_changes _) rfl (.comp (onSup_changes _ _) rfl (.refl))) (fun _ => .refl)
   · exact .refl
)

theorem onFlash_changes (f : Flash → Flash) (s : State) : Changes [.flash] s (onFlash f s) := by
  unfold onFlash
  exact .upd (.refl) (.inr rfl) (.inr rfl) (.inl rfl) (.inr rfl) (.inr rfl) (.inr rfl) (.inr rfl) (.inr rfl) (.inr rfl) (.inr rfl) (.inr rfl) (.inr rfl) (.inr rfl) (.inr rfl) (.inr rfl) (.inr rfl) (.inr rfl) (.inr rfl) (.inr rfl) (.inr rfl) (.inr rfl) (.inr rfl) (.inr rfl) (.inr rfl) (.inr rfl)

theorem imageWrite_changes {T : List Part} {r : Req} {h : Fin 2} {k : State → State} {s : State} (hT : subParts [.pnw, .sent] T = true) (h_k : ∀ u, Changes T u (k u)) :
    Changes T s (imageWrite r h k s) := by
  unfold imageWrite
  exact .app (screenReq_changes (subParts_trans rfl hT) (fun _ => .ite (fun _ => .comp (reply_changes _ _ _ _) (subParts_trans rfl hT) (.refl)) (fun _ => .ite (fun _ => .comp (reply_changes _ _ _ _) (subParts_trans rfl hT) (.refl)) (fun _ => .ite (fun _ => .comp (reply_changes _ _ _ _) (subParts_trans rfl hT) (.refl)) (fun _ => .app (h_k _) (.refl)))))) (.refl)

theorem writeBegin_changes (r : Req) (h : ℕ) (s : State) : Changes [.flash, .boot, .sent] s (writeBegin r h s) := by
  unfold writeBegin
  exact .app (.comp (reply_changes _ _ _ _) rfl (.comp (onBoot_changes _ _) rfl (.refl))) (.comp (onFlash_changes _ _) rfl (.refl))

theorem writeData_changes (r : Req) (h : ℕ) (off : ℕ) (bs : List Byte) (programming : Bool) (s : State) : Changes [.flash, .boot, .sent] s (writeData r h off bs programming s) := by
  unfold writeData
  exact (by
   try dsimp only
   split
   · exact .comp (reply_changes _ _ _ _) rfl (.refl)
   · exact .ite (fun _ => .comp (reply_changes _ _ _ _) rfl (.refl)) (fun _ => .ite (fun _ => .comp (reply_changes _ _ _ _) rfl (.refl)) (fun _ => .ite (fun _ => .comp (reply_changes _ _ _ _) rfl (.refl)) (fun _ => .ite (fun _ => .comp (reply_changes _ _ _ _) rfl (.refl)) (fun _ => .app (.comp (reply_changes _ _ _ _) rfl (.comp (onBoot_changes _ _) rfl (.refl))) (.comp (onFlash_changes _ _) rfl (.refl))))))
)

theorem writeCtrl_changes (h : ℕ) (len : ℕ) (digest : List Byte) (s : State) : Changes [.flash, .boot] s (writeCtrl h len digest s) := by
  unfold writeCtrl
  exact .app (.comp (onBoot_changes _ _) rfl (.refl)) (.comp (onFlash_changes _ _) rfl (.refl))

theorem writeCommit_changes (r : Req) (h : ℕ) (s : State) : Changes [.flash, .boot, .sent] s (writeCommit r h s) := by
  unfold writeCommit
  exact (by
   try dsimp only
   split
   · exact .ite (fun _ => .comp (reply_changes _ _ _ _) rfl (.refl)) (fun _ => (by
     try dsimp only
     split
     · exact .comp (reply_changes _ _ _ _) rfl (.refl)
     · exact .app (.comp (reply_changes _ _ _ _) rfl (.comp (onBoot_changes _ _) rfl (.refl))) (.comp (writeCtrl_changes _ _ _ _) rfl (.refl))
))
   · exact .comp (reply_changes _ _ _ _) rfl (.refl)
)

theorem writeAbort_changes (r : Req) (h : ℕ) (s : State) : Changes [.boot, .sent] s (writeAbort r h s) := by
  unfold writeAbort
  exact .ite (fun _ => .comp (reply_changes _ _ _ _) rfl (.comp (endWriter_changes _) rfl (.refl))) (fun _ => .comp (reply_changes _ _ _ _) rfl (.refl))

theorem restartOther_changes (r : Req) (s : State) : Changes [.flash, .sup, .nibA, .nibB, .cyc, .cmp, .fch, .saf, .alm, .pst, .pnw, .evr, .cvu, .dsp, .boot, .sent] s (restartOther r s) := by
  unfold restartOther
  exact (by
   try dsimp only
   split
   · exact .ite (fun _ => .comp (enterReset_changes _ _ _) rfl (.comp (reply_changes _ _ _ _) rfl (.comp (writeCtrl_changes _ _ _ _) rfl (.refl)))) (fun _ => .comp (reply_changes _ _ _ _) rfl (.refl))
   · exact .comp (reply_changes _ _ _ _) rfl (.refl)
)

theorem countStart_changes (s : State) : Changes [.sup, .boot] s (countStart s) := by
  unfold countStart
  exact .upd (.refl) (.inr rfl) (.inr rfl) (.inr rfl) (.inl rfl) (.inr rfl) (.inr rfl) (.inr rfl) (.inr rfl) (.inr rfl) (.inr rfl) (.inr rfl) (.inr rfl) (.inr rfl) (.inr rfl) (.inr rfl) (.inr rfl) (.inr rfl) (.inr rfl) (.inr rfl) (.inr rfl) (.inr rfl) (.inr rfl) (.inl rfl) (.inr rfl) (.inr rfl)

theorem resumeInkwell_changes (s : State) : Changes [.evr] s (resumeInkwell s) := by
  unfold resumeInkwell
  exact .app (.app (.app (.comp (onEvr_changes _ _) rfl (.refl)) (.ite (fun _ => .refl) (fun _ => .comp (post_changes _ _ _ _) rfl (.comp (onEvr_changes _ _) rfl (.refl))))) (.ite (fun _ => .refl) (fun _ => .comp (post_changes _ _ _ _) rfl (.comp (onEvr_changes _ _) rfl (.refl))))) (.comp (onEvr_changes _ _) rfl (.refl))

theorem postRestart_changes (s : State) : Changes [.sup, .evr] s (postRestart s) := by
  unfold postRestart
  exact .app (.app (.ite (fun _ => .comp (post_changes _ _ _ _) rfl (.comp (onSup_changes _ _) rfl (.refl))) (fun _ => .refl)) (.each (fun _ _ => .comp (post_changes _ _ _ _) rfl (.refl)) (.refl))) (.comp (post_changes _ _ _ _) rfl (.refl))

theorem startStep1_changes (s : State) : Changes [.sup, .pnw, .evr, .boot] s (startStep1 s) := by
  unfold startStep1
  exact .app (.app (.comp (postRestart_changes _) rfl (.comp (resumeInkwell_changes _) rfl (.comp (utcFromRtc_changes _) rfl (.comp (countStart_changes _) rfl (.refl))))) (.comp (onBoot_changes _ _) rfl (.refl))) (.comp (onSup_changes _ _) rfl (.refl))

theorem badTrim_changes (i : ℕ) (s : State) : Changes [.fch, .evr] s (badTrim i s) := by
  unfold badTrim
  exact .comp (post_changes _ _ _ _) rfl (.comp (setChan_changes _ _ _) rfl (.comp (onFch_changes _ _) rfl (.refl)))

theorem storedAddress_changes (s : State) : Changes [.pnw, .free] s (storedAddress s) := by
  unfold storedAddress
  exact .ite (fun _ => .comp (takeLinkLocal_changes _) rfl (.refl)) (fun _ => .comp (onPnw_changes _ _) rfl (.refl))

theorem portsUp_changes (l : List (Option (BitVec 2))) (s : State) : Changes [.pnw] s (portsUp l s) := by
  unfold portsUp
  exact .each (fun _ _ => .comp (setPnPort_changes _ _ _) rfl (.refl)) (.refl)

theorem startStep2_changes (env : StartEnv) (s : State) : Changes [.sup, .cyc, .fch, .pst, .pnw, .evr, .free] s (startStep2 env s) := by
  unfold startStep2
  exact .app (.app (.app (.comp (onSup_changes _ _) rfl (.comp (applyJournal_changes _) rfl (.refl))) (.comp (portsUp_changes _ _) rfl (.comp (storedAddress_changes _) rfl (.refl)))) (.each (fun _ _ => .comp (badTrim_changes _ _) rfl (.refl)) (.refl))) (.comp (onPst_changes _ _) rfl (.refl))

theorem groupsUp_changes (levels : List (Fin 6 × SupplyEvent)) (s : State) : Changes [.fch, .evr] s (groupsUp levels s) := by
  unfold groupsUp
  exact .each (fun _ _ => .comp (supplyChange_changes _ _ _ _ _) rfl (.refl)) (.refl)

theorem enterDecaf_changes (blank : Bool) (reason : Byte) (env : StartEnv) (s : State) : Changes [.img, .sup, .fch, .pnw, .evr, .dsp, .boot, .free] s (enterDecaf blank reason env s) := by
  unfold enterDecaf
  exact .app (.app (.app (.app (.app (.comp (panelDraw_changes _ _ _) rfl (.comp (requalAll_changes _ _) rfl (.comp (applyOutputs_changes _) rfl (.refl)))) (.ite (fun _ => .comp (takeLinkLocal_changes _) rfl (.refl)) (fun _ => .refl))) (.comp (groupsUp_changes _ _) rfl (.comp (post_changes _ _ _ _) rfl (.refl)))) (.comp (onBoot_changes _ _) rfl (.refl))) (.comp (onSup_changes _ _) rfl (.refl))) (.upd (.refl) (.inr rfl) (.inl rfl) (.inr rfl) (.inr rfl) (.inr rfl) (.inr rfl) (.inr rfl) (.inr rfl) (.inr rfl) (.inr rfl) (.inr rfl) (.inr rfl) (.inr rfl) (.inr rfl) (.inr rfl) (.inr rfl) (.inr rfl) (.inr rfl) (.inr rfl) (.inr rfl) (.inr rfl) (.inr rfl) (.inr rfl) (.inr rfl) (.inr rfl))

theorem failStart_changes (reason : Byte) (env : StartEnv) (s : State) : Changes [.img, .sup, .nibA, .nibB, .cyc, .cmp, .fch, .saf, .alm, .pst, .pnw, .evr, .cvu, .dsp, .boot, .sent, .free] s (failStart reason env s) := by
  unfold failStart
  exact .app (.ite (fun _ => .comp (enterDecaf_changes _ _ _ _) rfl (.refl)) (fun _ => .comp (enterReset_changes _ _ _) rfl (.refl))) (.comp (countFailure_changes _ _ _) rfl (.refl))

theorem refuseHalf_changes (h : ℕ) (e : Byte) (s : State) : Changes [.evr, .boot] s (refuseHalf h e s) := by
  unfold refuseHalf
  exact .app (.comp (post_changes _ _ _ _) rfl (.refl)) (.comp (onBoot_changes _ _) rfl (.refl))

theorem selectHalf_changes (readOk : Bool) (f : Flash) (mbit : Nat) (l : List (Nat × Ctrl)) (s : State) :
    ChangesW [.evr, .boot] s (selectHalf readOk f mbit l s) := by
  induction l generalizing s with
  | nil => exact .pair .refl
  | cons e l ih =>
    unfold selectHalf
    split
    · exact .pair .refl
    · exact .app (ih _) (refuseHalf_changes _ _ _)

theorem loadImage_changes (img : Image) (fallback : Bool) (s : State) : Changes [.img, .sup, .pst, .pnw, .boot] s (loadImage img fallback s) := by
  unfold loadImage
  exact .app (.app (.app (.app (.ite (fun _ => .refl) (fun _ => .comp (setFails_changes _ _) rfl (.refl))) (.comp (onPst_changes _ _) rfl (.refl))) (.ite (fun _ => .comp (onPnw_changes _ _) rfl (.refl)) (fun _ => .refl))) (.comp (onBoot_changes _ _) rfl (.refl))) (.upd (.refl) (.inr rfl) (.inl rfl) (.inr rfl) (.inr rfl) (.inr rfl) (.inr rfl) (.inr rfl) (.inr rfl) (.inr rfl) (.inr rfl) (.inr rfl) (.inr rfl) (.inr rfl) (.inr rfl) (.inr rfl) (.inr rfl) (.inr rfl) (.inr rfl) (.inr rfl) (.inr rfl) (.inr rfl) (.inr rfl) (.inr rfl) (.inr rfl) (.inr rfl))

theorem speedStep_changes (env : StartEnv) (s : State) : Changes [.tim, .evr] s (speedStep env s) := by
  unfold speedStep
  exact .app (.comp (onTim_changes _ _) rfl (.refl)) (.ite (fun _ => .refl) (fun _ => .comp (post_changes _ _ _ _) rfl (.refl)))

theorem raiseCore_changes (s : State) : Changes [.tim] s (raiseCore s) := by
  unfold raiseCore
  exact .comp (onTim_changes _ _) rfl (.refl)

theorem selfTests_changes (env : StartEnv) (s : State) : Changes [.cmp, .lpe] s (selfTests env s) := by
  unfold selfTests
  exact .comp (onLpe_changes _ _) rfl (.comp (recordTest_changes _ _) rfl (.refl))

theorem reloadLanes_changes (consts : Bool) (s : State) : Changes [.nibA, .nibB, .cyc] s (reloadLanes consts s) := by
  unfold reloadLanes
  exact .app (.comp (onCyc_changes _ _) rfl (.refl)) (.upd (.refl) (.inr rfl) (.inr rfl) (.inr rfl) (.inr rfl) (.inr rfl) (.inl rfl) (.inl rfl) (.inr rfl) (.inr rfl) (.inr rfl) (.inr rfl) (.inr rfl) (.inr rfl) (.inr rfl) (.inr rfl) (.inr rfl) (.inr rfl) (.inr rfl) (.inr rfl) (.inr rfl) (.inr rfl) (.inr rfl) (.inr rfl) (.inr rfl) (.inr rfl))

theorem retainWords_changes (s : State) : Changes [.nibA, .nibB] s (retainWords s) := by
  unfold retainWords
  exact .upd (.refl) (.inr rfl) (.inr rfl) (.inr rfl) (.inr rfl) (.inr rfl) (.inl rfl) (.inl rfl) (.inr rfl) (.inr rfl) (.inr rfl) (.inr rfl) (.inr rfl) (.inr rfl) (.inr rfl) (.inr rfl) (.inr rfl) (.inr rfl) (.inr rfl) (.inr rfl) (.inr rfl) (.inr rfl) (.inr rfl) (.inr rfl) (.inr rfl) (.inr rfl)

theorem loopInitial_changes (p : ℕ × LoopCfg) (s : State) : Changes [.lpe] s (loopInitial p s) := by
  unfold loopInitial
  exact .comp (setLoop_changes _ _ _) rfl (.refl)

theorem loopsAtStart_changes (s : State) : Changes [.cyc, .lpe] s (loopsAtStart s) := by
  unfold loopsAtStart
  exact .app (.comp (onCyc_changes _ _) rfl (.refl)) (.ite (fun _ => .each (fun _ _ => (by
   try dsimp only
   split
   · exact .comp (setLoop_changes _ _ _) rfl (.refl)
   · exact .comp (loopInitial_changes _ _) rfl (.refl)
)) (.refl)) (fun _ => .each (fun _ _ => .comp (loopInitial_changes _ _) rfl (.refl)) (.refl)))

theorem retainAtStart_changes (storeOk : Bool) (s : State) : Changes [.sup, .nibA, .nibB, .cyc, .lpe] s (retainAtStart storeOk s) := by
  unfold retainAtStart
  exact .ite (fun _ => .comp (loopsAtStart_changes _) rfl (.each (fun _ _ => .comp (setCell_changes _ _ _) rfl (.refl)) (.comp (retainWords_changes _) rfl (.refl)))) (fun _ => .app (.comp (onCyc_changes _ _) rfl (.refl)) (.comp (onSup_changes _ _) rfl (.comp (clearRetain_changes _) rfl (.refl))))

theorem firstValues_changes (env : StartEnv) (s : State) : Changes [.fch, .evr, .free] s (firstValues env s) := by
  unfold firstValues
  exact .app (.app (.comp (requalAll_changes _ _) rfl (.refl)) (.each (fun _ _ => .comp (requal_changes _ _) rfl (.comp (convert_changes _ _ _) rfl (.refl))) (.refl))) (.each (fun _ _ => .ite (fun _ => .comp (inputState_changes _ _ _ _) rfl (.comp (setChan_changes _ _ _) rfl (.refl))) (fun _ => .ite (fun _ => .comp (setChan_changes _ _ _) rfl (.refl)) (fun _ => .refl))) (.refl))

theorem tracesAtStart_changes (s : State) : Changes [.lpe] s (tracesAtStart s) := by
  unfold tracesAtStart
  exact .comp (onLpe_changes _ _) rfl (.refl)

theorem maintLatches_changes (s : State) : Changes [.fch, .saf, .evr] s (maintLatches s) := by
  unfold maintLatches
  exact .each (fun _ _ => .comp (latchPairs_changes _ _ _) rfl (.refl)) (.refl)

theorem slotsAtStart_changes (s : State) : Changes [.fch, .saf, .evr] s (slotsAtStart s) := by
  unfold slotsAtStart
  exact .comp (maintLatches_changes _) rfl (.each (fun _ _ => .comp (setSlot_changes _ _ _) rfl (.refl)) (.refl))

theorem brakesAtStart_changes (s : State) : Changes [.saf] s (brakesAtStart s) := by
  unfold brakesAtStart
  exact .comp (onSaf_changes _ _) rfl (.refl)

theorem imageAddresses_changes (s : State) : Changes [.pnw] s (imageAddresses s) := by
  unfold imageAddresses
  exact .app (.ite (fun _ => .refl) (fun _ => .comp (onPnw_changes _ _) rfl (.refl))) (.comp (onPnw_changes _ _) rfl (.refl))

theorem prepare_changes (env : StartEnv) (s : State) : Changes [.sup, .nibA, .nibB, .cyc, .lpe, .fch, .saf, .alm, .pst, .pnw, .evr, .dsp, .free] s (prepare env s) := by
  unfold prepare
  exact .app (.app (.app (.app (.app (.comp (onPst_changes _ _) rfl (.refl)) (.comp (deadAtStart_changes _) rfl (.comp (pointsAtStart_changes _) rfl (.refl)))) (.comp (firstValues_changes _ _) rfl (.comp (groupsUp_changes _ _) rfl (.refl)))) (.comp (setDsp_changes _ _) rfl (.comp (imageAddresses_changes _) rfl (.refl)))) (.comp (tracesAtStart_changes _) rfl (.comp (brakesAtStart_changes _) rfl (.comp (slotsAtStart_changes _) rfl (.comp (retainAtStart_changes _ _) rfl (.refl)))))) (.comp (reloadLanes_changes _ _) rfl (.comp (onCyc_changes _ _) rfl (.refl)))

theorem roleStep_changes (s : State) : Changes [.sup, .pst] s (roleStep s) := by
  unfold roleStep
  exact .ite (fun _ => .comp (onSup_changes _ _) rfl (.refl)) (fun _ => .comp (onSup_changes _ _) rfl (.comp (onPst_changes _ _) rfl (.refl)))

theorem startWith_changes (env : StartEnv) (s : State) : Changes [.img, .sup, .tim, .nibA, .nibB, .cyc, .cmp, .lpe, .fch, .saf, .alm, .pst, .pnw, .evr, .cvu, .dsp, .boot, .sent, .free] s (startWith env s) := by
  unfold startWith
  exact .ite (fun _ => .comp (enterDecaf_changes _ _ _ _) rfl (.refl)) (fun _ => (by
   try dsimp only
   split
   · exact .comp (failStart_changes _ _ _) rfl (.refl)
   · exact .app (.ite (fun _ => .comp (failStart_changes _ _ _) rfl (.refl)) (fun _ => .app (.ite (fun _ => .comp (failStart_changes _ _ _) rfl (.refl)) (fun _ => .ite (fun _ => .comp (failStart_changes _ _ _) rfl (.refl)) (fun _ => .comp (roleStep_changes _) rfl (.comp (prepare_changes _ _) rfl (.refl))))) (.comp (selfTests_changes _ _) rfl (.comp (raiseCore_changes _) rfl (.refl))))) (.comp (speedStep_changes _ _) rfl (.refl))
))

theorem goBlank_changes (reason : Byte) (env : StartEnv) (s : State) : Changes [.img, .sup, .fch, .pnw, .evr, .dsp, .boot, .free] s (goBlank reason env s) := by
  unfold goBlank
  exact .comp (enterDecaf_changes _ _ _ _) rfl (.refl)

theorem startSequence_changes (env : StartEnv) (s : State) :
    Changes [.img, .sup, .tim, .nibA, .nibB, .cyc, .cmp, .lpe, .fch, .saf, .alm, .pst, .pnw, .evr, .cvu, .dsp, .boot, .sent,
      .free] s (startSequence env s) := by
  unfold startSequence
  refine .ite (fun _ => .refl) (fun _ => ?_)
  dsimp only
  split
  · exact .comp (goBlank_changes _ _ _) rfl (.comp (startStep2_changes _ _) rfl (.comp (startStep1_changes _) rfl .refl))
  · refine .ite (fun _ => .comp (goBlank_changes _ _ _) rfl (.comp (startStep2_changes _ _) rfl
      (.comp (startStep1_changes _) rfl .refl))) (fun _ => ?_)
    split
    · rename_i e
      have k := congrArg Prod.snd e
      dsimp only at k
      refine .comp (goBlank_changes _ _ _) rfl ?_
      rw [← k]
      exact .comp (ChangesW.snd (selectHalf_changes _ _ _ _ _)) rfl (.comp (onBoot_changes _ _) rfl
        (.comp (startStep2_changes _ _) rfl (.comp (startStep1_changes _) rfl .refl)))
    · rename_i e
      have k := congrArg Prod.snd e
      dsimp only at k
      refine .comp (startWith_changes _ _) rfl (.comp (loadImage_changes _ _ _) rfl ?_)
      rw [← k]
      exact .comp (ChangesW.snd (selectHalf_changes _ _ _ _ _)) rfl (.comp (onBoot_changes _ _) rfl
        (.comp (startStep2_changes _ _) rfl (.comp (startStep1_changes _) rfl .refl)))

theorem warmStart_changes (env : StartEnv) (s : State) : Changes [.sup, .tim, .nibA, .nibB, .cyc, .cmp, .lpe, .fch, .saf, .alm, .pst, .pnw, .evr, .cvu, .dsp, .boot, .sent, .free] s (warmStart env s) := by
  unfold warmStart
  exact .ite (fun _ => .refl) (fun _ => .app (.ite (fun _ => .comp (enterReset_changes _ _ _) rfl (.refl)) (fun _ => .app (.app (.ite (fun _ => .comp (enterReset_changes _ _ _) rfl (.refl)) (fun _ => .comp (roleStep_changes _) rfl (.comp (firstValues_changes _ _) rfl (.comp (slotsAtStart_changes _) rfl (.comp (portsUp_changes _ _) rfl (.comp (onPst_changes _ _) rfl (.refl))))))) (.comp (selfTests_changes _ _) rfl (.comp (retainWords_changes _) rfl (.comp (reloadLanes_changes _ _) rfl (.comp (applyJournal_changes _) rfl (.refl)))))) (.comp (raiseCore_changes _) rfl (.comp (onTim_changes _ _) rfl (.refl))))) (.comp (postRestart_changes _) rfl (.comp (resumeInkwell_changes _) rfl (.refl))))

theorem setSurvey_changes (i : ℕ) (f : Survey → Survey) (s : State) : Changes [.boot] s (setSurvey i f s) := by
  unfold setSurvey
  exact .comp (onBoot_changes _ _) rfl (.refl)

theorem surveyAlarms_changes (i : ℕ) (before : BitVec 4 × Bool) (s : State) : Changes [.fch, .evr, .dsp, .boot] s (surveyAlarms i before s) := by
  unfold surveyAlarms
  exact .app (.app (.ite (fun _ => .refl) (fun _ => .comp (alarmRedraw_changes _) rfl (.refl))) (.comp (setSurvey_changes _ _ _) rfl (.refl))) (.comp (requal_changes _ _) rfl (.refl))

theorem surveyMeasure_changes (i : ℕ) (m : SurveyMeas) (s : State) : Changes [.fch, .evr, .dsp, .boot] s (surveyMeasure i m s) := by
  unfold surveyMeasure
  exact .ite (fun _ => .refl) (fun _ => .app (.app (.comp (surveyAlarms_changes _ _ _) rfl (.refl)) (.comp (setChan_changes _ _ _) rfl (.comp (setLive_changes _ _ _) rfl (.comp (setChan_changes _ _ _) rfl (.refl))))) (.comp (setSurvey_changes _ _ _) rfl (.refl)))

theorem surveySample_changes (i : ℕ) (on : Bool) (s : State) : Changes [.fch, .evr, .dsp, .boot] s (surveySample i on s) := by
  unfold surveySample
  exact .ite (fun _ => .refl) (fun _ => .app (.comp (surveyAlarms_changes _ _ _) rfl (.refl)) (.comp (setSurvey_changes _ _ _) rfl (.refl)))

theorem setMeter_changes (m : ℕ) (f : Meter → Meter) (s : State) : Changes [.chop] s (setMeter m f s) := by
  unfold setMeter
  exact .comp (onChop_changes _ _) rfl (.refl)

theorem chopPowerOn_changes (rom : Word) (a : Bool) (b : Bool) (s : State) : Changes [.chop] s (chopPowerOn rom a b s) := by
  unfold chopPowerOn
  exact .ite (fun _ => .refl) (fun _ => .comp (onChop_changes _ _) rfl (.refl))

theorem portStep_changes (env : List ChopPortEnv) (m : ℕ) (s : State) : Changes [.chop, .free] s (portStep env m s) := by
  unfold portStep
  exact .app (.comp (setMeter_changes _ _ _) rfl (.refl)) (.ite (fun _ => .comp (takeFree_changes _) rfl (.refl)) (fun _ => .refl))

theorem applyStaged_changes (x : Staged) (s : State) : Changes [.chop] s (applyStaged x s) := by
  unfold applyStaged
  exact .comp (onChop_changes _ _) rfl (.refl)

theorem applyClose_changes (s : State) : Changes [.chop] s (applyClose s) := by
  unfold applyClose
  exact .ite (fun _ => .refl) (fun _ => .comp (onChop_changes _ _) rfl (.ite (fun _ => .comp (onChop_changes _ _) rfl (.refl)) (fun _ => .each (fun _ _ => .comp (applyStaged_changes _ _) rfl (.refl)) (.refl))))

theorem chopStep_changes (env : List ChopPortEnv) (s : State) : Changes [.chop, .free] s (chopStep env s) := by
  unfold chopStep
  exact .ite (fun _ => .refl) (fun _ => .app (.comp (applyClose_changes _) rfl (.comp (onChop_changes _ _) rfl (.refl))) (.ite (fun _ => .each (fun _ _ => .comp (portStep_changes _ _ _) rfl (.refl)) (.refl)) (fun _ => .refl)))

theorem gradeChange_changes (m : ℕ) (ua : ℤ) (s : State) : Changes [.chop] s (gradeChange m ua s) := by
  unfold gradeChange
  exact .ite (fun _ => .refl) (fun _ => .comp (setMeter_changes _ _ _) rfl (.refl))

theorem exportReceived_changes (ok : Bool) (s : State) : Changes [.chop, .mtr] s (exportReceived ok s) := by
  unfold exportReceived
  exact (by
   try dsimp only
   split
   · exact .refl
   · exact .app (.ite (fun _ => .refl) (fun _ => .ite (fun _ => .comp (onMtr_changes _ _) rfl (.refl)) (fun _ => .comp (onMtr_changes _ _) rfl (.refl)))) (.comp (onChop_changes _ _) rfl (.refl))
)

theorem verifierReplyOpen_changes (m : Req) (st : BitVec 16) (body : List Byte) (s : State) : Changes [.sent] s (verifierReplyOpen m st body s) := by
  unfold verifierReplyOpen
  exact .comp (emit_changes _ _) rfl (.refl)

theorem verifierOpen_changes (m : Verif) (s : State) : Changes [.chop, .sent, .free] s (verifierOpen m s) := by
  unfold verifierOpen
  exact .ite (fun _ => .refl) (fun _ => .ite (fun _ => .comp (verifierReplyOpen_changes _ _ _ _) rfl (.refl)) (fun _ => .comp (verifierReplyOpen_changes _ _ _ _) rfl (.upd (.refl) (.inr rfl) (.inr rfl) (.inr rfl) (.inr rfl) (.inr rfl) (.inr rfl) (.inr rfl) (.inr rfl) (.inr rfl) (.inr rfl) (.inr rfl) (.inr rfl) (.inr rfl) (.inr rfl) (.inr rfl) (.inr rfl) (.inr rfl) (.inr rfl) (.inl rfl) (.inr rfl) (.inr rfl) (.inr rfl) (.inr rfl) (.inr rfl) (.inl rfl))))

theorem verifierAuth_changes (m : Verif) (s : State) : Changes [.chop, .sent] s (verifierAuth m s) := by
  unfold verifierAuth
  exact .ite (fun _ => .refl) (fun _ => (by
   try dsimp only
   split
   · exact .comp (verifierReplyOpen_changes _ _ _ _) rfl (.refl)
   · exact .ite (fun _ => .comp (verifierReplyOpen_changes _ _ _ _) rfl (.refl)) (fun _ => .ite (fun _ => .comp (verifierReplyOpen_changes _ _ _ _) rfl (.comp (onChop_changes _ _) rfl (.refl))) (fun _ => .comp (verifierReplyOpen_changes _ _ _ _) rfl (.refl)))
))

theorem verifierRequest_changes {T : List Part} {r : Req} {k : State → State} {s : State} (hT : subParts [.chop] T = true) (h_k : ∀ u, Changes T u (k u)) :
    Changes T s (verifierRequest r k s) := by
  unfold verifierRequest
  exact (by
   try dsimp only
   split
   · exact .refl
   · exact .ite (fun _ => .app (h_k _) (.comp (onChop_changes _ _) (subParts_trans rfl hT) (.refl))) (fun _ => .refl)
)

theorem verifierReply_changes (r : Req) (st : BitVec 16) (body : List Byte) (s : State) : Changes [.sent] s (verifierReply r st body s) := by
  unfold verifierReply
  exact (by
   try dsimp only
   split
   · exact .refl
   · exact .comp (emit_changes _ _) rfl (.refl)
)

theorem stageRequest_changes (r : Req) (x : Staged) (s : State) : Changes [.chop, .sent] s (stageRequest r x s) := by
  unfold stageRequest
  exact .app (verifierRequest_changes rfl (fun _ => .ite (fun _ => .comp (verifierReply_changes _ _ _ _) rfl (.refl)) (fun _ => .ite (fun _ => .comp (verifierReply_changes _ _ _ _) rfl (.refl)) (fun _ => .ite (fun _ => .comp (verifierReply_changes _ _ _ _) rfl (.refl)) (fun _ => .comp (verifierReply_changes _ _ _ _) rfl (.comp (onChop_changes _ _) rfl (.refl))))))) (.refl)

end Sys2Proof.Machine
end

