-- ==== Sys2Proof/Laws/State.lean ====
section
/-! SUPPORT. What each named update of the state leaves in each of its fields. -/

namespace Sys2Proof.Machine

variable (s : State)

/-! ### `onSup` -/

@[simp] theorem onSup_pending (f : Sup → Sup) : (onSup f s).pending = s.pending := rfl
@[simp] theorem onSup_id (f : Sup → Sup) : (onSup f s).id = s.id := rfl
@[simp] theorem onSup_img (f : Sup → Sup) : (onSup f s).img = s.img := rfl
@[simp] theorem onSup_flash (f : Sup → Sup) : (onSup f s).flash = s.flash := rfl
@[simp] theorem onSup_sup (f : Sup → Sup) : (onSup f s).sup = f s.sup := rfl
@[simp] theorem onSup_tim (f : Sup → Sup) : (onSup f s).tim = s.tim := rfl
@[simp] theorem onSup_nibA (f : Sup → Sup) : (onSup f s).nibA = s.nibA := rfl
@[simp] theorem onSup_nibB (f : Sup → Sup) : (onSup f s).nibB = s.nibB := rfl
@[simp] theorem onSup_cyc (f : Sup → Sup) : (onSup f s).cyc = s.cyc := rfl
@[simp] theorem onSup_cmp (f : Sup → Sup) : (onSup f s).cmp = s.cmp := rfl
@[simp] theorem onSup_lpe (f : Sup → Sup) : (onSup f s).lpe = s.lpe := rfl
@[simp] theorem onSup_fch (f : Sup → Sup) : (onSup f s).fch = s.fch := rfl
@[simp] theorem onSup_saf (f : Sup → Sup) : (onSup f s).saf = s.saf := rfl
@[simp] theorem onSup_alm (f : Sup → Sup) : (onSup f s).alm = s.alm := rfl
@[simp] theorem onSup_pst (f : Sup → Sup) : (onSup f s).pst = s.pst := rfl
@[simp] theorem onSup_frg (f : Sup → Sup) : (onSup f s).frg = s.frg := rfl
@[simp] theorem onSup_pnw (f : Sup → Sup) : (onSup f s).pnw = s.pnw := rfl
@[simp] theorem onSup_evr (f : Sup → Sup) : (onSup f s).evr = s.evr := rfl
@[simp] theorem onSup_cvu (f : Sup → Sup) : (onSup f s).cvu = s.cvu := rfl
@[simp] theorem onSup_chop (f : Sup → Sup) : (onSup f s).chop = s.chop := rfl
@[simp] theorem onSup_mtr (f : Sup → Sup) : (onSup f s).mtr = s.mtr := rfl
@[simp] theorem onSup_mtrLanes (f : Sup → Sup) : (onSup f s).mtrLanes = s.mtrLanes := rfl
@[simp] theorem onSup_dsp (f : Sup → Sup) : (onSup f s).dsp = s.dsp := rfl
@[simp] theorem onSup_boot (f : Sup → Sup) : (onSup f s).boot = s.boot := rfl
@[simp] theorem onSup_sent (f : Sup → Sup) : (onSup f s).sent = s.sent := rfl
@[simp] theorem onSup_free (f : Sup → Sup) : (onSup f s).free = s.free := rfl

/-! ### `onTim` -/

@[simp] theorem onTim_pending (f : Tim → Tim) : (onTim f s).pending = s.pending := rfl
@[simp] theorem onTim_id (f : Tim → Tim) : (onTim f s).id = s.id := rfl
@[simp] theorem onTim_img (f : Tim → Tim) : (onTim f s).img = s.img := rfl
@[simp] theorem onTim_flash (f : Tim → Tim) : (onTim f s).flash = s.flash := rfl
@[simp] theorem onTim_sup (f : Tim → Tim) : (onTim f s).sup = s.sup := rfl
@[simp] theorem onTim_tim (f : Tim → Tim) : (onTim f s).tim = f s.tim := rfl
@[simp] theorem onTim_nibA (f : Tim → Tim) : (onTim f s).nibA = s.nibA := rfl
@[simp] theorem onTim_nibB (f : Tim → Tim) : (onTim f s).nibB = s.nibB := rfl
@[simp] theorem onTim_cyc (f : Tim → Tim) : (onTim f s).cyc = s.cyc := rfl
@[simp] theorem onTim_cmp (f : Tim → Tim) : (onTim f s).cmp = s.cmp := rfl
@[simp] theorem onTim_lpe (f : Tim → Tim) : (onTim f s).lpe = s.lpe := rfl
@[simp] theorem onTim_fch (f : Tim → Tim) : (onTim f s).fch = s.fch := rfl
@[simp] theorem onTim_saf (f : Tim → Tim) : (onTim f s).saf = s.saf := rfl
@[simp] theorem onTim_alm (f : Tim → Tim) : (onTim f s).alm = s.alm := rfl
@[simp] theorem onTim_pst (f : Tim → Tim) : (onTim f s).pst = s.pst := rfl
@[simp] theorem onTim_frg (f : Tim → Tim) : (onTim f s).frg = s.frg := rfl
@[simp] theorem onTim_pnw (f : Tim → Tim) : (onTim f s).pnw = s.pnw := rfl
@[simp] theorem onTim_evr (f : Tim → Tim) : (onTim f s).evr = s.evr := rfl
@[simp] theorem onTim_cvu (f : Tim → Tim) : (onTim f s).cvu = s.cvu := rfl
@[simp] theorem onTim_chop (f : Tim → Tim) : (onTim f s).chop = s.chop := rfl
@[simp] theorem onTim_mtr (f : Tim → Tim) : (onTim f s).mtr = s.mtr := rfl
@[simp] theorem onTim_mtrLanes (f : Tim → Tim) : (onTim f s).mtrLanes = s.mtrLanes := rfl
@[simp] theorem onTim_dsp (f : Tim → Tim) : (onTim f s).dsp = s.dsp := rfl
@[simp] theorem onTim_boot (f : Tim → Tim) : (onTim f s).boot = s.boot := rfl
@[simp] theorem onTim_sent (f : Tim → Tim) : (onTim f s).sent = s.sent := rfl
@[simp] theorem onTim_free (f : Tim → Tim) : (onTim f s).free = s.free := rfl

/-! ### `onCyc` -/

@[simp] theorem onCyc_pending (f : Cyc → Cyc) : (onCyc f s).pending = s.pending := rfl
@[simp] theorem onCyc_id (f : Cyc → Cyc) : (onCyc f s).id = s.id := rfl
@[simp] theorem onCyc_img (f : Cyc → Cyc) : (onCyc f s).img = s.img := rfl
@[simp] theorem onCyc_flash (f : Cyc → Cyc) : (onCyc f s).flash = s.flash := rfl
@[simp] theorem onCyc_sup (f : Cyc → Cyc) : (onCyc f s).sup = s.sup := rfl
@[simp] theorem onCyc_tim (f : Cyc → Cyc) : (onCyc f s).tim = s.tim := rfl
@[simp] theorem onCyc_nibA (f : Cyc → Cyc) : (onCyc f s).nibA = s.nibA := rfl
@[simp] theorem onCyc_nibB (f : Cyc → Cyc) : (onCyc f s).nibB = s.nibB := rfl
@[simp] theorem onCyc_cyc (f : Cyc → Cyc) : (onCyc f s).cyc = f s.cyc := rfl
@[simp] theorem onCyc_cmp (f : Cyc → Cyc) : (onCyc f s).cmp = s.cmp := rfl
@[simp] theorem onCyc_lpe (f : Cyc → Cyc) : (onCyc f s).lpe = s.lpe := rfl
@[simp] theorem onCyc_fch (f : Cyc → Cyc) : (onCyc f s).fch = s.fch := rfl
@[simp] theorem onCyc_saf (f : Cyc → Cyc) : (onCyc f s).saf = s.saf := rfl
@[simp] theorem onCyc_alm (f : Cyc → Cyc) : (onCyc f s).alm = s.alm := rfl
@[simp] theorem onCyc_pst (f : Cyc → Cyc) : (onCyc f s).pst = s.pst := rfl
@[simp] theorem onCyc_frg (f : Cyc → Cyc) : (onCyc f s).frg = s.frg := rfl
@[simp] theorem onCyc_pnw (f : Cyc → Cyc) : (onCyc f s).pnw = s.pnw := rfl
@[simp] theorem onCyc_evr (f : Cyc → Cyc) : (onCyc f s).evr = s.evr := rfl
@[simp] theorem onCyc_cvu (f : Cyc → Cyc) : (onCyc f s).cvu = s.cvu := rfl
@[simp] theorem onCyc_chop (f : Cyc → Cyc) : (onCyc f s).chop = s.chop := rfl
@[simp] theorem onCyc_mtr (f : Cyc → Cyc) : (onCyc f s).mtr = s.mtr := rfl
@[simp] theorem onCyc_mtrLanes (f : Cyc → Cyc) : (onCyc f s).mtrLanes = s.mtrLanes := rfl
@[simp] theorem onCyc_dsp (f : Cyc → Cyc) : (onCyc f s).dsp = s.dsp := rfl
@[simp] theorem onCyc_boot (f : Cyc → Cyc) : (onCyc f s).boot = s.boot := rfl
@[simp] theorem onCyc_sent (f : Cyc → Cyc) : (onCyc f s).sent = s.sent := rfl
@[simp] theorem onCyc_free (f : Cyc → Cyc) : (onCyc f s).free = s.free := rfl

/-! ### `onCmp` -/

@[simp] theorem onCmp_pending (f : Cmp → Cmp) : (onCmp f s).pending = s.pending := rfl
@[simp] theorem onCmp_id (f : Cmp → Cmp) : (onCmp f s).id = s.id := rfl
@[simp] theorem onCmp_img (f : Cmp → Cmp) : (onCmp f s).img = s.img := rfl
@[simp] theorem onCmp_flash (f : Cmp → Cmp) : (onCmp f s).flash = s.flash := rfl
@[simp] theorem onCmp_sup (f : Cmp → Cmp) : (onCmp f s).sup = s.sup := rfl
@[simp] theorem onCmp_tim (f : Cmp → Cmp) : (onCmp f s).tim = s.tim := rfl
@[simp] theorem onCmp_nibA (f : Cmp → Cmp) : (onCmp f s).nibA = s.nibA := rfl
@[simp] theorem onCmp_nibB (f : Cmp → Cmp) : (onCmp f s).nibB = s.nibB := rfl
@[simp] theorem onCmp_cyc (f : Cmp → Cmp) : (onCmp f s).cyc = s.cyc := rfl
@[simp] theorem onCmp_cmp (f : Cmp → Cmp) : (onCmp f s).cmp = f s.cmp := rfl
@[simp] theorem onCmp_lpe (f : Cmp → Cmp) : (onCmp f s).lpe = s.lpe := rfl
@[simp] theorem onCmp_fch (f : Cmp → Cmp) : (onCmp f s).fch = s.fch := rfl
@[simp] theorem onCmp_saf (f : Cmp → Cmp) : (onCmp f s).saf = s.saf := rfl
@[simp] theorem onCmp_alm (f : Cmp → Cmp) : (onCmp f s).alm = s.alm := rfl
@[simp] theorem onCmp_pst (f : Cmp → Cmp) : (onCmp f s).pst = s.pst := rfl
@[simp] theorem onCmp_frg (f : Cmp → Cmp) : (onCmp f s).frg = s.frg := rfl
@[simp] theorem onCmp_pnw (f : Cmp → Cmp) : (onCmp f s).pnw = s.pnw := rfl
@[simp] theorem onCmp_evr (f : Cmp → Cmp) : (onCmp f s).evr = s.evr := rfl
@[simp] theorem onCmp_cvu (f : Cmp → Cmp) : (onCmp f s).cvu = s.cvu := rfl
@[simp] theorem onCmp_chop (f : Cmp → Cmp) : (onCmp f s).chop = s.chop := rfl
@[simp] theorem onCmp_mtr (f : Cmp → Cmp) : (onCmp f s).mtr = s.mtr := rfl
@[simp] theorem onCmp_mtrLanes (f : Cmp → Cmp) : (onCmp f s).mtrLanes = s.mtrLanes := rfl
@[simp] theorem onCmp_dsp (f : Cmp → Cmp) : (onCmp f s).dsp = s.dsp := rfl
@[simp] theorem onCmp_boot (f : Cmp → Cmp) : (onCmp f s).boot = s.boot := rfl
@[simp] theorem onCmp_sent (f : Cmp → Cmp) : (onCmp f s).sent = s.sent := rfl
@[simp] theorem onCmp_free (f : Cmp → Cmp) : (onCmp f s).free = s.free := rfl

/-! ### `onLpe` -/

@[simp] theorem onLpe_pending (f : Lpe → Lpe) : (onLpe f s).pending = s.pending := rfl
@[simp] theorem onLpe_id (f : Lpe → Lpe) : (onLpe f s).id = s.id := rfl
@[simp] theorem onLpe_img (f : Lpe → Lpe) : (onLpe f s).img = s.img := rfl
@[simp] theorem onLpe_flash (f : Lpe → Lpe) : (onLpe f s).flash = s.flash := rfl
@[simp] theorem onLpe_sup (f : Lpe → Lpe) : (onLpe f s).sup = s.sup := rfl
@[simp] theorem onLpe_tim (f : Lpe → Lpe) : (onLpe f s).tim = s.tim := rfl
@[simp] theorem onLpe_nibA (f : Lpe → Lpe) : (onLpe f s).nibA = s.nibA := rfl
@[simp] theorem onLpe_nibB (f : Lpe → Lpe) : (onLpe f s).nibB = s.nibB := rfl
@[simp] theorem onLpe_cyc (f : Lpe → Lpe) : (onLpe f s).cyc = s.cyc := rfl
@[simp] theorem onLpe_cmp (f : Lpe → Lpe) : (onLpe f s).cmp = s.cmp := rfl
@[simp] theorem onLpe_lpe (f : Lpe → Lpe) : (onLpe f s).lpe = f s.lpe := rfl
@[simp] theorem onLpe_fch (f : Lpe → Lpe) : (onLpe f s).fch = s.fch := rfl
@[simp] theorem onLpe_saf (f : Lpe → Lpe) : (onLpe f s).saf = s.saf := rfl
@[simp] theorem onLpe_alm (f : Lpe → Lpe) : (onLpe f s).alm = s.alm := rfl
@[simp] theorem onLpe_pst (f : Lpe → Lpe) : (onLpe f s).pst = s.pst := rfl
@[simp] theorem onLpe_frg (f : Lpe → Lpe) : (onLpe f s).frg = s.frg := rfl
@[simp] theorem onLpe_pnw (f : Lpe → Lpe) : (onLpe f s).pnw = s.pnw := rfl
@[simp] theorem onLpe_evr (f : Lpe → Lpe) : (onLpe f s).evr = s.evr := rfl
@[simp] theorem onLpe_cvu (f : Lpe → Lpe) : (onLpe f s).cvu = s.cvu := rfl
@[simp] theorem onLpe_chop (f : Lpe → Lpe) : (onLpe f s).chop = s.chop := rfl
@[simp] theorem onLpe_mtr (f : Lpe → Lpe) : (onLpe f s).mtr = s.mtr := rfl
@[simp] theorem onLpe_mtrLanes (f : Lpe → Lpe) : (onLpe f s).mtrLanes = s.mtrLanes := rfl
@[simp] theorem onLpe_dsp (f : Lpe → Lpe) : (onLpe f s).dsp = s.dsp := rfl
@[simp] theorem onLpe_boot (f : Lpe → Lpe) : (onLpe f s).boot = s.boot := rfl
@[simp] theorem onLpe_sent (f : Lpe → Lpe) : (onLpe f s).sent = s.sent := rfl
@[simp] theorem onLpe_free (f : Lpe → Lpe) : (onLpe f s).free = s.free := rfl

/-! ### `onFch` -/

@[simp] theorem onFch_pending (f : Fch → Fch) : (onFch f s).pending = s.pending := rfl
@[simp] theorem onFch_id (f : Fch → Fch) : (onFch f s).id = s.id := rfl
@[simp] theorem onFch_img (f : Fch → Fch) : (onFch f s).img = s.img := rfl
@[simp] theorem onFch_flash (f : Fch → Fch) : (onFch f s).flash = s.flash := rfl
@[simp] theorem onFch_sup (f : Fch → Fch) : (onFch f s).sup = s.sup := rfl
@[simp] theorem onFch_tim (f : Fch → Fch) : (onFch f s).tim = s.tim := rfl
@[simp] theorem onFch_nibA (f : Fch → Fch) : (onFch f s).nibA = s.nibA := rfl
@[simp] theorem onFch_nibB (f : Fch → Fch) : (onFch f s).nibB = s.nibB := rfl
@[simp] theorem onFch_cyc (f : Fch → Fch) : (onFch f s).cyc = s.cyc := rfl
@[simp] theorem onFch_cmp (f : Fch → Fch) : (onFch f s).cmp = s.cmp := rfl
@[simp] theorem onFch_lpe (f : Fch → Fch) : (onFch f s).lpe = s.lpe := rfl
@[simp] theorem onFch_fch (f : Fch → Fch) : (onFch f s).fch = f s.fch := rfl
@[simp] theorem onFch_saf (f : Fch → Fch) : (onFch f s).saf = s.saf := rfl
@[simp] theorem onFch_alm (f : Fch → Fch) : (onFch f s).alm = s.alm := rfl
@[simp] theorem onFch_pst (f : Fch → Fch) : (onFch f s).pst = s.pst := rfl
@[simp] theorem onFch_frg (f : Fch → Fch) : (onFch f s).frg = s.frg := rfl
@[simp] theorem onFch_pnw (f : Fch → Fch) : (onFch f s).pnw = s.pnw := rfl
@[simp] theorem onFch_evr (f : Fch → Fch) : (onFch f s).evr = s.evr := rfl
@[simp] theorem onFch_cvu (f : Fch → Fch) : (onFch f s).cvu = s.cvu := rfl
@[simp] theorem onFch_chop (f : Fch → Fch) : (onFch f s).chop = s.chop := rfl
@[simp] theorem onFch_mtr (f : Fch → Fch) : (onFch f s).mtr = s.mtr := rfl
@[simp] theorem onFch_mtrLanes (f : Fch → Fch) : (onFch f s).mtrLanes = s.mtrLanes := rfl
@[simp] theorem onFch_dsp (f : Fch → Fch) : (onFch f s).dsp = s.dsp := rfl
@[simp] theorem onFch_boot (f : Fch → Fch) : (onFch f s).boot = s.boot := rfl
@[simp] theorem onFch_sent (f : Fch → Fch) : (onFch f s).sent = s.sent := rfl
@[simp] theorem onFch_free (f : Fch → Fch) : (onFch f s).free = s.free := rfl

/-! ### `onSaf` -/

@[simp] theorem onSaf_pending (f : Saf → Saf) : (onSaf f s).pending = s.pending := rfl
@[simp] theorem onSaf_id (f : Saf → Saf) : (onSaf f s).id = s.id := rfl
@[simp] theorem onSaf_img (f : Saf → Saf) : (onSaf f s).img = s.img := rfl
@[simp] theorem onSaf_flash (f : Saf → Saf) : (onSaf f s).flash = s.flash := rfl
@[simp] theorem onSaf_sup (f : Saf → Saf) : (onSaf f s).sup = s.sup := rfl
@[simp] theorem onSaf_tim (f : Saf → Saf) : (onSaf f s).tim = s.tim := rfl
@[simp] theorem onSaf_nibA (f : Saf → Saf) : (onSaf f s).nibA = s.nibA := rfl
@[simp] theorem onSaf_nibB (f : Saf → Saf) : (onSaf f s).nibB = s.nibB := rfl
@[simp] theorem onSaf_cyc (f : Saf → Saf) : (onSaf f s).cyc = s.cyc := rfl
@[simp] theorem onSaf_cmp (f : Saf → Saf) : (onSaf f s).cmp = s.cmp := rfl
@[simp] theorem onSaf_lpe (f : Saf → Saf) : (onSaf f s).lpe = s.lpe := rfl
@[simp] theorem onSaf_fch (f : Saf → Saf) : (onSaf f s).fch = s.fch := rfl
@[simp] theorem onSaf_saf (f : Saf → Saf) : (onSaf f s).saf = f s.saf := rfl
@[simp] theorem onSaf_alm (f : Saf → Saf) : (onSaf f s).alm = s.alm := rfl
@[simp] theorem onSaf_pst (f : Saf → Saf) : (onSaf f s).pst = s.pst := rfl
@[simp] theorem onSaf_frg (f : Saf → Saf) : (onSaf f s).frg = s.frg := rfl
@[simp] theorem onSaf_pnw (f : Saf → Saf) : (onSaf f s).pnw = s.pnw := rfl
@[simp] theorem onSaf_evr (f : Saf → Saf) : (onSaf f s).evr = s.evr := rfl
@[simp] theorem onSaf_cvu (f : Saf → Saf) : (onSaf f s).cvu = s.cvu := rfl
@[simp] theorem onSaf_chop (f : Saf → Saf) : (onSaf f s).chop = s.chop := rfl
@[simp] theorem onSaf_mtr (f : Saf → Saf) : (onSaf f s).mtr = s.mtr := rfl
@[simp] theorem onSaf_mtrLanes (f : Saf → Saf) : (onSaf f s).mtrLanes = s.mtrLanes := rfl
@[simp] theorem onSaf_dsp (f : Saf → Saf) : (onSaf f s).dsp = s.dsp := rfl
@[simp] theorem onSaf_boot (f : Saf → Saf) : (onSaf f s).boot = s.boot := rfl
@[simp] theorem onSaf_sent (f : Saf → Saf) : (onSaf f s).sent = s.sent := rfl
@[simp] theorem onSaf_free (f : Saf → Saf) : (onSaf f s).free = s.free := rfl

/-! ### `onAlm` -/

@[simp] theorem onAlm_pending (f : Alm → Alm) : (onAlm f s).pending = s.pending := rfl
@[simp] theorem onAlm_id (f : Alm → Alm) : (onAlm f s).id = s.id := rfl
@[simp] theorem onAlm_img (f : Alm → Alm) : (onAlm f s).img = s.img := rfl
@[simp] theorem onAlm_flash (f : Alm → Alm) : (onAlm f s).flash = s.flash := rfl
@[simp] theorem onAlm_sup (f : Alm → Alm) : (onAlm f s).sup = s.sup := rfl
@[simp] theorem onAlm_tim (f : Alm → Alm) : (onAlm f s).tim = s.tim := rfl
@[simp] theorem onAlm_nibA (f : Alm → Alm) : (onAlm f s).nibA = s.nibA := rfl
@[simp] theorem onAlm_nibB (f : Alm → Alm) : (onAlm f s).nibB = s.nibB := rfl
@[simp] theorem onAlm_cyc (f : Alm → Alm) : (onAlm f s).cyc = s.cyc := rfl
@[simp] theorem onAlm_cmp (f : Alm → Alm) : (onAlm f s).cmp = s.cmp := rfl
@[simp] theorem onAlm_lpe (f : Alm → Alm) : (onAlm f s).lpe = s.lpe := rfl
@[simp] theorem onAlm_fch (f : Alm → Alm) : (onAlm f s).fch = s.fch := rfl
@[simp] theorem onAlm_saf (f : Alm → Alm) : (onAlm f s).saf = s.saf := rfl
@[simp] theorem onAlm_alm (f : Alm → Alm) : (onAlm f s).alm = f s.alm := rfl
@[simp] theorem onAlm_pst (f : Alm → Alm) : (onAlm f s).pst = s.pst := rfl
@[simp] theorem onAlm_frg (f : Alm → Alm) : (onAlm f s).frg = s.frg := rfl
@[simp] theorem onAlm_pnw (f : Alm → Alm) : (onAlm f s).pnw = s.pnw := rfl
@[simp] theorem onAlm_evr (f : Alm → Alm) : (onAlm f s).evr = s.evr := rfl
@[simp] theorem onAlm_cvu (f : Alm → Alm) : (onAlm f s).cvu = s.cvu := rfl
@[simp] theorem onAlm_chop (f : Alm → Alm) : (onAlm f s).chop = s.chop := rfl
@[simp] theorem onAlm_mtr (f : Alm → Alm) : (onAlm f s).mtr = s.mtr := rfl
@[simp] theorem onAlm_mtrLanes (f : Alm → Alm) : (onAlm f s).mtrLanes = s.mtrLanes := rfl
@[simp] theorem onAlm_dsp (f : Alm → Alm) : (onAlm f s).dsp = s.dsp := rfl
@[simp] theorem onAlm_boot (f : Alm → Alm) : (onAlm f s).boot = s.boot := rfl
@[simp] theorem onAlm_sent (f : Alm → Alm) : (onAlm f s).sent = s.sent := rfl
@[simp] theorem onAlm_free (f : Alm → Alm) : (onAlm f s).free = s.free := rfl

/-! ### `onPst` -/

@[simp] theorem onPst_pending (f : Pst → Pst) : (onPst f s).pending = s.pending := rfl
@[simp] theorem onPst_id (f : Pst → Pst) : (onPst f s).id = s.id := rfl
@[simp] theorem onPst_img (f : Pst → Pst) : (onPst f s).img = s.img := rfl
@[simp] theorem onPst_flash (f : Pst → Pst) : (onPst f s).flash = s.flash := rfl
@[simp] theorem onPst_sup (f : Pst → Pst) : (onPst f s).sup = s.sup := rfl
@[simp] theorem onPst_tim (f : Pst → Pst) : (onPst f s).tim = s.tim := rfl
@[simp] theorem onPst_nibA (f : Pst → Pst) : (onPst f s).nibA = s.nibA := rfl
@[simp] theorem onPst_nibB (f : Pst → Pst) : (onPst f s).nibB = s.nibB := rfl
@[simp] theorem onPst_cyc (f : Pst → Pst) : (onPst f s).cyc = s.cyc := rfl
@[simp] theorem onPst_cmp (f : Pst → Pst) : (onPst f s).cmp = s.cmp := rfl
@[simp] theorem onPst_lpe (f : Pst → Pst) : (onPst f s).lpe = s.lpe := rfl
@[simp] theorem onPst_fch (f : Pst → Pst) : (onPst f s).fch = s.fch := rfl
@[simp] theorem onPst_saf (f : Pst → Pst) : (onPst f s).saf = s.saf := rfl
@[simp] theorem onPst_alm (f : Pst → Pst) : (onPst f s).alm = s.alm := rfl
@[simp] theorem onPst_pst (f : Pst → Pst) : (onPst f s).pst = f s.pst := rfl
@[simp] theorem onPst_frg (f : Pst → Pst) : (onPst f s).frg = s.frg := rfl
@[simp] theorem onPst_pnw (f : Pst → Pst) : (onPst f s).pnw = s.pnw := rfl
@[simp] theorem onPst_evr (f : Pst → Pst) : (onPst f s).evr = s.evr := rfl
@[simp] theorem onPst_cvu (f : Pst → Pst) : (onPst f s).cvu = s.cvu := rfl
@[simp] theorem onPst_chop (f : Pst → Pst) : (onPst f s).chop = s.chop := rfl
@[simp] theorem onPst_mtr (f : Pst → Pst) : (onPst f s).mtr = s.mtr := rfl
@[simp] theorem onPst_mtrLanes (f : Pst → Pst) : (onPst f s).mtrLanes = s.mtrLanes := rfl
@[simp] theorem onPst_dsp (f : Pst → Pst) : (onPst f s).dsp = s.dsp := rfl
@[simp] theorem onPst_boot (f : Pst → Pst) : (onPst f s).boot = s.boot := rfl
@[simp] theorem onPst_sent (f : Pst → Pst) : (onPst f s).sent = s.sent := rfl
@[simp] theorem onPst_free (f : Pst → Pst) : (onPst f s).free = s.free := rfl

/-! ### `onFrg` -/

@[simp] theorem onFrg_pending (f : Frg → Frg) : (onFrg f s).pending = s.pending := rfl
@[simp] theorem onFrg_id (f : Frg → Frg) : (onFrg f s).id = s.id := rfl
@[simp] theorem onFrg_img (f : Frg → Frg) : (onFrg f s).img = s.img := rfl
@[simp] theorem onFrg_flash (f : Frg → Frg) : (onFrg f s).flash = s.flash := rfl
@[simp] theorem onFrg_sup (f : Frg → Frg) : (onFrg f s).sup = s.sup := rfl
@[simp] theorem onFrg_tim (f : Frg → Frg) : (onFrg f s).tim = s.tim := rfl
@[simp] theorem onFrg_nibA (f : Frg → Frg) : (onFrg f s).nibA = s.nibA := rfl
@[simp] theorem onFrg_nibB (f : Frg → Frg) : (onFrg f s).nibB = s.nibB := rfl
@[simp] theorem onFrg_cyc (f : Frg → Frg) : (onFrg f s).cyc = s.cyc := rfl
@[simp] theorem onFrg_cmp (f : Frg → Frg) : (onFrg f s).cmp = s.cmp := rfl
@[simp] theorem onFrg_lpe (f : Frg → Frg) : (onFrg f s).lpe = s.lpe := rfl
@[simp] theorem onFrg_fch (f : Frg → Frg) : (onFrg f s).fch = s.fch := rfl
@[simp] theorem onFrg_saf (f : Frg → Frg) : (onFrg f s).saf = s.saf := rfl
@[simp] theorem onFrg_alm (f : Frg → Frg) : (onFrg f s).alm = s.alm := rfl
@[simp] theorem onFrg_pst (f : Frg → Frg) : (onFrg f s).pst = s.pst := rfl
@[simp] theorem onFrg_frg (f : Frg → Frg) : (onFrg f s).frg = f s.frg := rfl
@[simp] theorem onFrg_pnw (f : Frg → Frg) : (onFrg f s).pnw = s.pnw := rfl
@[simp] theorem onFrg_evr (f : Frg → Frg) : (onFrg f s).evr = s.evr := rfl
@[simp] theorem onFrg_cvu (f : Frg → Frg) : (onFrg f s).cvu = s.cvu := rfl
@[simp] theorem onFrg_chop (f : Frg → Frg) : (onFrg f s).chop = s.chop := rfl
@[simp] theorem onFrg_mtr (f : Frg → Frg) : (onFrg f s).mtr = s.mtr := rfl
@[simp] theorem onFrg_mtrLanes (f : Frg → Frg) : (onFrg f s).mtrLanes = s.mtrLanes := rfl
@[simp] theorem onFrg_dsp (f : Frg → Frg) : (onFrg f s).dsp = s.dsp := rfl
@[simp] theorem onFrg_boot (f : Frg → Frg) : (onFrg f s).boot = s.boot := rfl
@[simp] theorem onFrg_sent (f : Frg → Frg) : (onFrg f s).sent = s.sent := rfl
@[simp] theorem onFrg_free (f : Frg → Frg) : (onFrg f s).free = s.free := rfl

/-! ### `onPnw` -/

@[simp] theorem onPnw_pending (f : Pnw → Pnw) : (onPnw f s).pending = s.pending := rfl
@[simp] theorem onPnw_id (f : Pnw → Pnw) : (onPnw f s).id = s.id := rfl
@[simp] theorem onPnw_img (f : Pnw → Pnw) : (onPnw f s).img = s.img := rfl
@[simp] theorem onPnw_flash (f : Pnw → Pnw) : (onPnw f s).flash = s.flash := rfl
@[simp] theorem onPnw_sup (f : Pnw → Pnw) : (onPnw f s).sup = s.sup := rfl
@[simp] theorem onPnw_tim (f : Pnw → Pnw) : (onPnw f s).tim = s.tim := rfl
@[simp] theorem onPnw_nibA (f : Pnw → Pnw) : (onPnw f s).nibA = s.nibA := rfl
@[simp] theorem onPnw_nibB (f : Pnw → Pnw) : (onPnw f s).nibB = s.nibB := rfl
@[simp] theorem onPnw_cyc (f : Pnw → Pnw) : (onPnw f s).cyc = s.cyc := rfl
@[simp] theorem onPnw_cmp (f : Pnw → Pnw) : (onPnw f s).cmp = s.cmp := rfl
@[simp] theorem onPnw_lpe (f : Pnw → Pnw) : (onPnw f s).lpe = s.lpe := rfl
@[simp] theorem onPnw_fch (f : Pnw → Pnw) : (onPnw f s).fch = s.fch := rfl
@[simp] theorem onPnw_saf (f : Pnw → Pnw) : (onPnw f s).saf = s.saf := rfl
@[simp] theorem onPnw_alm (f : Pnw → Pnw) : (onPnw f s).alm = s.alm := rfl
@[simp] theorem onPnw_pst (f : Pnw → Pnw) : (onPnw f s).pst = s.pst := rfl
@[simp] theorem onPnw_frg (f : Pnw → Pnw) : (onPnw f s).frg = s.frg := rfl
@[simp] theorem onPnw_pnw (f : Pnw → Pnw) : (onPnw f s).pnw = f s.pnw := rfl
@[simp] theorem onPnw_evr (f : Pnw → Pnw) : (onPnw f s).evr = s.evr := rfl
@[simp] theorem onPnw_cvu (f : Pnw → Pnw) : (onPnw f s).cvu = s.cvu := rfl
@[simp] theorem onPnw_chop (f : Pnw → Pnw) : (onPnw f s).chop = s.chop := rfl
@[simp] theorem onPnw_mtr (f : Pnw → Pnw) : (onPnw f s).mtr = s.mtr := rfl
@[simp] theorem onPnw_mtrLanes (f : Pnw → Pnw) : (onPnw f s).mtrLanes = s.mtrLanes := rfl
@[simp] theorem onPnw_dsp (f : Pnw → Pnw) : (onPnw f s).dsp = s.dsp := rfl
@[simp] theorem onPnw_boot (f : Pnw → Pnw) : (onPnw f s).boot = s.boot := rfl
@[simp] theorem onPnw_sent (f : Pnw → Pnw) : (onPnw f s).sent = s.sent := rfl
@[simp] theorem onPnw_free (f : Pnw → Pnw) : (onPnw f s).free = s.free := rfl

/-! ### `onEvr` -/

@[simp] theorem onEvr_pending (f : Evr → Evr) : (onEvr f s).pending = s.pending := rfl
@[simp] theorem onEvr_id (f : Evr → Evr) : (onEvr f s).id = s.id := rfl
@[simp] theorem onEvr_img (f : Evr → Evr) : (onEvr f s).img = s.img := rfl
@[simp] theorem onEvr_flash (f : Evr → Evr) : (onEvr f s).flash = s.flash := rfl
@[simp] theorem onEvr_sup (f : Evr → Evr) : (onEvr f s).sup = s.sup := rfl
@[simp] theorem onEvr_tim (f : Evr → Evr) : (onEvr f s).tim = s.tim := rfl
@[simp] theorem onEvr_nibA (f : Evr → Evr) : (onEvr f s).nibA = s.nibA := rfl
@[simp] theorem onEvr_nibB (f : Evr → Evr) : (onEvr f s).nibB = s.nibB := rfl
@[simp] theorem onEvr_cyc (f : Evr → Evr) : (onEvr f s).cyc = s.cyc := rfl
@[simp] theorem onEvr_cmp (f : Evr → Evr) : (onEvr f s).cmp = s.cmp := rfl
@[simp] theorem onEvr_lpe (f : Evr → Evr) : (onEvr f s).lpe = s.lpe := rfl
@[simp] theorem onEvr_fch (f : Evr → Evr) : (onEvr f s).fch = s.fch := rfl
@[simp] theorem onEvr_saf (f : Evr → Evr) : (onEvr f s).saf = s.saf := rfl
@[simp] theorem onEvr_alm (f : Evr → Evr) : (onEvr f s).alm = s.alm := rfl
@[simp] theorem onEvr_pst (f : Evr → Evr) : (onEvr f s).pst = s.pst := rfl
@[simp] theorem onEvr_frg (f : Evr → Evr) : (onEvr f s).frg = s.frg := rfl
@[simp] theorem onEvr_pnw (f : Evr → Evr) : (onEvr f s).pnw = s.pnw := rfl
@[simp] theorem onEvr_evr (f : Evr → Evr) : (onEvr f s).evr = f s.evr := rfl
@[simp] theorem onEvr_cvu (f : Evr → Evr) : (onEvr f s).cvu = s.cvu := rfl
@[simp] theorem onEvr_chop (f : Evr → Evr) : (onEvr f s).chop = s.chop := rfl
@[simp] theorem onEvr_mtr (f : Evr → Evr) : (onEvr f s).mtr = s.mtr := rfl
@[simp] theorem onEvr_mtrLanes (f : Evr → Evr) : (onEvr f s).mtrLanes = s.mtrLanes := rfl
@[simp] theorem onEvr_dsp (f : Evr → Evr) : (onEvr f s).dsp = s.dsp := rfl
@[simp] theorem onEvr_boot (f : Evr → Evr) : (onEvr f s).boot = s.boot := rfl
@[simp] theorem onEvr_sent (f : Evr → Evr) : (onEvr f s).sent = s.sent := rfl
@[simp] theorem onEvr_free (f : Evr → Evr) : (onEvr f s).free = s.free := rfl

/-! ### `onCvu` -/

@[simp] theorem onCvu_pending (f : Cvu → Cvu) : (onCvu f s).pending = s.pending := rfl
@[simp] theorem onCvu_id (f : Cvu → Cvu) : (onCvu f s).id = s.id := rfl
@[simp] theorem onCvu_img (f : Cvu → Cvu) : (onCvu f s).img = s.img := rfl
@[simp] theorem onCvu_flash (f : Cvu → Cvu) : (onCvu f s).flash = s.flash := rfl
@[simp] theorem onCvu_sup (f : Cvu → Cvu) : (onCvu f s).sup = s.sup := rfl
@[simp] theorem onCvu_tim (f : Cvu → Cvu) : (onCvu f s).tim = s.tim := rfl
@[simp] theorem onCvu_nibA (f : Cvu → Cvu) : (onCvu f s).nibA = s.nibA := rfl
@[simp] theorem onCvu_nibB (f : Cvu → Cvu) : (onCvu f s).nibB = s.nibB := rfl
@[simp] theorem onCvu_cyc (f : Cvu → Cvu) : (onCvu f s).cyc = s.cyc := rfl
@[simp] theorem onCvu_cmp (f : Cvu → Cvu) : (onCvu f s).cmp = s.cmp := rfl
@[simp] theorem onCvu_lpe (f : Cvu → Cvu) : (onCvu f s).lpe = s.lpe := rfl
@[simp] theorem onCvu_fch (f : Cvu → Cvu) : (onCvu f s).fch = s.fch := rfl
@[simp] theorem onCvu_saf (f : Cvu → Cvu) : (onCvu f s).saf = s.saf := rfl
@[simp] theorem onCvu_alm (f : Cvu → Cvu) : (onCvu f s).alm = s.alm := rfl
@[simp] theorem onCvu_pst (f : Cvu → Cvu) : (onCvu f s).pst = s.pst := rfl
@[simp] theorem onCvu_frg (f : Cvu → Cvu) : (onCvu f s).frg = s.frg := rfl
@[simp] theorem onCvu_pnw (f : Cvu → Cvu) : (onCvu f s).pnw = s.pnw := rfl
@[simp] theorem onCvu_evr (f : Cvu → Cvu) : (onCvu f s).evr = s.evr := rfl
@[simp] theorem onCvu_cvu (f : Cvu → Cvu) : (onCvu f s).cvu = f s.cvu := rfl
@[simp] theorem onCvu_chop (f : Cvu → Cvu) : (onCvu f s).chop = s.chop := rfl
@[simp] theorem onCvu_mtr (f : Cvu → Cvu) : (onCvu f s).mtr = s.mtr := rfl
@[simp] theorem onCvu_mtrLanes (f : Cvu → Cvu) : (onCvu f s).mtrLanes = s.mtrLanes := rfl
@[simp] theorem onCvu_dsp (f : Cvu → Cvu) : (onCvu f s).dsp = s.dsp := rfl
@[simp] theorem onCvu_boot (f : Cvu → Cvu) : (onCvu f s).boot = s.boot := rfl
@[simp] theorem onCvu_sent (f : Cvu → Cvu) : (onCvu f s).sent = s.sent := rfl
@[simp] theorem onCvu_free (f : Cvu → Cvu) : (onCvu f s).free = s.free := rfl

/-! ### `onChop` -/

@[simp] theorem onChop_pending (f : Chop → Chop) : (onChop f s).pending = s.pending := rfl
@[simp] theorem onChop_id (f : Chop → Chop) : (onChop f s).id = s.id := rfl
@[simp] theorem onChop_img (f : Chop → Chop) : (onChop f s).img = s.img := rfl
@[simp] theorem onChop_flash (f : Chop → Chop) : (onChop f s).flash = s.flash := rfl
@[simp] theorem onChop_sup (f : Chop → Chop) : (onChop f s).sup = s.sup := rfl
@[simp] theorem onChop_tim (f : Chop → Chop) : (onChop f s).tim = s.tim := rfl
@[simp] theorem onChop_nibA (f : Chop → Chop) : (onChop f s).nibA = s.nibA := rfl
@[simp] theorem onChop_nibB (f : Chop → Chop) : (onChop f s).nibB = s.nibB := rfl
@[simp] theorem onChop_cyc (f : Chop → Chop) : (onChop f s).cyc = s.cyc := rfl
@[simp] theorem onChop_cmp (f : Chop → Chop) : (onChop f s).cmp = s.cmp := rfl
@[simp] theorem onChop_lpe (f : Chop → Chop) : (onChop f s).lpe = s.lpe := rfl
@[simp] theorem onChop_fch (f : Chop → Chop) : (onChop f s).fch = s.fch := rfl
@[simp] theorem onChop_saf (f : Chop → Chop) : (onChop f s).saf = s.saf := rfl
@[simp] theorem onChop_alm (f : Chop → Chop) : (onChop f s).alm = s.alm := rfl
@[simp] theorem onChop_pst (f : Chop → Chop) : (onChop f s).pst = s.pst := rfl
@[simp] theorem onChop_frg (f : Chop → Chop) : (onChop f s).frg = s.frg := rfl
@[simp] theorem onChop_pnw (f : Chop → Chop) : (onChop f s).pnw = s.pnw := rfl
@[simp] theorem onChop_evr (f : Chop → Chop) : (onChop f s).evr = s.evr := rfl
@[simp] theorem onChop_cvu (f : Chop → Chop) : (onChop f s).cvu = s.cvu := rfl
@[simp] theorem onChop_chop (f : Chop → Chop) : (onChop f s).chop = f s.chop := rfl
@[simp] theorem onChop_mtr (f : Chop → Chop) : (onChop f s).mtr = s.mtr := rfl
@[simp] theorem onChop_mtrLanes (f : Chop → Chop) : (onChop f s).mtrLanes = s.mtrLanes := rfl
@[simp] theorem onChop_dsp (f : Chop → Chop) : (onChop f s).dsp = s.dsp := rfl
@[simp] theorem onChop_boot (f : Chop → Chop) : (onChop f s).boot = s.boot := rfl
@[simp] theorem onChop_sent (f : Chop → Chop) : (onChop f s).sent = s.sent := rfl
@[simp] theorem onChop_free (f : Chop → Chop) : (onChop f s).free = s.free := rfl

/-! ### `onMtr` -/

@[simp] theorem onMtr_pending (f : Mtr → Mtr) : (onMtr f s).pending = s.pending := rfl
@[simp] theorem onMtr_id (f : Mtr → Mtr) : (onMtr f s).id = s.id := rfl
@[simp] theorem onMtr_img (f : Mtr → Mtr) : (onMtr f s).img = s.img := rfl
@[simp] theorem onMtr_flash (f : Mtr → Mtr) : (onMtr f s).flash = s.flash := rfl
@[simp] theorem onMtr_sup (f : Mtr → Mtr) : (onMtr f s).sup = s.sup := rfl
@[simp] theorem onMtr_tim (f : Mtr → Mtr) : (onMtr f s).tim = s.tim := rfl
@[simp] theorem onMtr_nibA (f : Mtr → Mtr) : (onMtr f s).nibA = s.nibA := rfl
@[simp] theorem onMtr_nibB (f : Mtr → Mtr) : (onMtr f s).nibB = s.nibB := rfl
@[simp] theorem onMtr_cyc (f : Mtr → Mtr) : (onMtr f s).cyc = s.cyc := rfl
@[simp] theorem onMtr_cmp (f : Mtr → Mtr) : (onMtr f s).cmp = s.cmp := rfl
@[simp] theorem onMtr_lpe (f : Mtr → Mtr) : (onMtr f s).lpe = s.lpe := rfl
@[simp] theorem onMtr_fch (f : Mtr → Mtr) : (onMtr f s).fch = s.fch := rfl
@[simp] theorem onMtr_saf (f : Mtr → Mtr) : (onMtr f s).saf = s.saf := rfl
@[simp] theorem onMtr_alm (f : Mtr → Mtr) : (onMtr f s).alm = s.alm := rfl
@[simp] theorem onMtr_pst (f : Mtr → Mtr) : (onMtr f s).pst = s.pst := rfl
@[simp] theorem onMtr_frg (f : Mtr → Mtr) : (onMtr f s).frg = s.frg := rfl
@[simp] theorem onMtr_pnw (f : Mtr → Mtr) : (onMtr f s).pnw = s.pnw := rfl
@[simp] theorem onMtr_evr (f : Mtr → Mtr) : (onMtr f s).evr = s.evr := rfl
@[simp] theorem onMtr_cvu (f : Mtr → Mtr) : (onMtr f s).cvu = s.cvu := rfl
@[simp] theorem onMtr_chop (f : Mtr → Mtr) : (onMtr f s).chop = s.chop := rfl
@[simp] theorem onMtr_mtr (f : Mtr → Mtr) : (onMtr f s).mtr = f s.mtr := rfl
@[simp] theorem onMtr_mtrLanes (f : Mtr → Mtr) : (onMtr f s).mtrLanes = s.mtrLanes := rfl
@[simp] theorem onMtr_dsp (f : Mtr → Mtr) : (onMtr f s).dsp = s.dsp := rfl
@[simp] theorem onMtr_boot (f : Mtr → Mtr) : (onMtr f s).boot = s.boot := rfl
@[simp] theorem onMtr_sent (f : Mtr → Mtr) : (onMtr f s).sent = s.sent := rfl
@[simp] theorem onMtr_free (f : Mtr → Mtr) : (onMtr f s).free = s.free := rfl

/-! ### `onBoot` -/

@[simp] theorem onBoot_pending (f : Boot → Boot) : (onBoot f s).pending = s.pending := rfl
@[simp] theorem onBoot_id (f : Boot → Boot) : (onBoot f s).id = s.id := rfl
@[simp] theorem onBoot_img (f : Boot → Boot) : (onBoot f s).img = s.img := rfl
@[simp] theorem onBoot_flash (f : Boot → Boot) : (onBoot f s).flash = s.flash := rfl
@[simp] theorem onBoot_sup (f : Boot → Boot) : (onBoot f s).sup = s.sup := rfl
@[simp] theorem onBoot_tim (f : Boot → Boot) : (onBoot f s).tim = s.tim := rfl
@[simp] theorem onBoot_nibA (f : Boot → Boot) : (onBoot f s).nibA = s.nibA := rfl
@[simp] theorem onBoot_nibB (f : Boot → Boot) : (onBoot f s).nibB = s.nibB := rfl
@[simp] theorem onBoot_cyc (f : Boot → Boot) : (onBoot f s).cyc = s.cyc := rfl
@[simp] theorem onBoot_cmp (f : Boot → Boot) : (onBoot f s).cmp = s.cmp := rfl
@[simp] theorem onBoot_lpe (f : Boot → Boot) : (onBoot f s).lpe = s.lpe := rfl
@[simp] theorem onBoot_fch (f : Boot → Boot) : (onBoot f s).fch = s.fch := rfl
@[simp] theorem onBoot_saf (f : Boot → Boot) : (onBoot f s).saf = s.saf := rfl
@[simp] theorem onBoot_alm (f : Boot → Boot) : (onBoot f s).alm = s.alm := rfl
@[simp] theorem onBoot_pst (f : Boot → Boot) : (onBoot f s).pst = s.pst := rfl
@[simp] theorem onBoot_frg (f : Boot → Boot) : (onBoot f s).frg = s.frg := rfl
@[simp] theorem onBoot_pnw (f : Boot → Boot) : (onBoot f s).pnw = s.pnw := rfl
@[simp] theorem onBoot_evr (f : Boot → Boot) : (onBoot f s).evr = s.evr := rfl
@[simp] theorem onBoot_cvu (f : Boot → Boot) : (onBoot f s).cvu = s.cvu := rfl
@[simp] theorem onBoot_chop (f : Boot → Boot) : (onBoot f s).chop = s.chop := rfl
@[simp] theorem onBoot_mtr (f : Boot → Boot) : (onBoot f s).mtr = s.mtr := rfl
@[simp] theorem onBoot_mtrLanes (f : Boot → Boot) : (onBoot f s).mtrLanes = s.mtrLanes := rfl
@[simp] theorem onBoot_dsp (f : Boot → Boot) : (onBoot f s).dsp = s.dsp := rfl
@[simp] theorem onBoot_boot (f : Boot → Boot) : (onBoot f s).boot = f s.boot := rfl
@[simp] theorem onBoot_sent (f : Boot → Boot) : (onBoot f s).sent = s.sent := rfl
@[simp] theorem onBoot_free (f : Boot → Boot) : (onBoot f s).free = s.free := rfl

/-! ### `setDsp` -/

@[simp] theorem setDsp_pending (f : Dsp → Dsp) : (setDsp f s).pending = s.pending := rfl
@[simp] theorem setDsp_id (f : Dsp → Dsp) : (setDsp f s).id = s.id := rfl
@[simp] theorem setDsp_img (f : Dsp → Dsp) : (setDsp f s).img = s.img := rfl
@[simp] theorem setDsp_flash (f : Dsp → Dsp) : (setDsp f s).flash = s.flash := rfl
@[simp] theorem setDsp_sup (f : Dsp → Dsp) : (setDsp f s).sup = s.sup := rfl
@[simp] theorem setDsp_tim (f : Dsp → Dsp) : (setDsp f s).tim = s.tim := rfl
@[simp] theorem setDsp_nibA (f : Dsp → Dsp) : (setDsp f s).nibA = s.nibA := rfl
@[simp] theorem setDsp_nibB (f : Dsp → Dsp) : (setDsp f s).nibB = s.nibB := rfl
@[simp] theorem setDsp_cyc (f : Dsp → Dsp) : (setDsp f s).cyc = s.cyc := rfl
@[simp] theorem setDsp_cmp (f : Dsp → Dsp) : (setDsp f s).cmp = s.cmp := rfl
@[simp] theorem setDsp_lpe (f : Dsp → Dsp) : (setDsp f s).lpe = s.lpe := rfl
@[simp] theorem setDsp_fch (f : Dsp → Dsp) : (setDsp f s).fch = s.fch := rfl
@[simp] theorem setDsp_saf (f : Dsp → Dsp) : (setDsp f s).saf = s.saf := rfl
@[simp] theorem setDsp_alm (f : Dsp → Dsp) : (setDsp f s).alm = s.alm := rfl
@[simp] theorem setDsp_pst (f : Dsp → Dsp) : (setDsp f s).pst = s.pst := rfl
@[simp] theorem setDsp_frg (f : Dsp → Dsp) : (setDsp f s).frg = s.frg := rfl
@[simp] theorem setDsp_pnw (f : Dsp → Dsp) : (setDsp f s).pnw = s.pnw := rfl
@[simp] theorem setDsp_evr (f : Dsp → Dsp) : (setDsp f s).evr = s.evr := rfl
@[simp] theorem setDsp_cvu (f : Dsp → Dsp) : (setDsp f s).cvu = s.cvu := rfl
@[simp] theorem setDsp_chop (f : Dsp → Dsp) : (setDsp f s).chop = s.chop := rfl
@[simp] theorem setDsp_mtr (f : Dsp → Dsp) : (setDsp f s).mtr = s.mtr := rfl
@[simp] theorem setDsp_mtrLanes (f : Dsp → Dsp) : (setDsp f s).mtrLanes = s.mtrLanes := rfl
@[simp] theorem setDsp_dsp (f : Dsp → Dsp) : (setDsp f s).dsp = f s.dsp := rfl
@[simp] theorem setDsp_boot (f : Dsp → Dsp) : (setDsp f s).boot = s.boot := rfl
@[simp] theorem setDsp_sent (f : Dsp → Dsp) : (setDsp f s).sent = s.sent := rfl
@[simp] theorem setDsp_free (f : Dsp → Dsp) : (setDsp f s).free = s.free := rfl

/-! ### `emit`, `takeFree` -/

@[simp] theorem emit_pending (e : Emit) : (emit e s).pending = s.pending := rfl
@[simp] theorem emit_id (e : Emit) : (emit e s).id = s.id := rfl
@[simp] theorem emit_img (e : Emit) : (emit e s).img = s.img := rfl
@[simp] theorem emit_flash (e : Emit) : (emit e s).flash = s.flash := rfl
@[simp] theorem emit_sup (e : Emit) : (emit e s).sup = s.sup := rfl
@[simp] theorem emit_tim (e : Emit) : (emit e s).tim = s.tim := rfl
@[simp] theorem emit_nibA (e : Emit) : (emit e s).nibA = s.nibA := rfl
@[simp] theorem emit_nibB (e : Emit) : (emit e s).nibB = s.nibB := rfl
@[simp] theorem emit_cyc (e : Emit) : (emit e s).cyc = s.cyc := rfl
@[simp] theorem emit_cmp (e : Emit) : (emit e s).cmp = s.cmp := rfl
@[simp] theorem emit_lpe (e : Emit) : (emit e s).lpe = s.lpe := rfl
@[simp] theorem emit_fch (e : Emit) : (emit e s).fch = s.fch := rfl
@[simp] theorem emit_saf (e : Emit) : (emit e s).saf = s.saf := rfl
@[simp] theorem emit_alm (e : Emit) : (emit e s).alm = s.alm := rfl
@[simp] theorem emit_pst (e : Emit) : (emit e s).pst = s.pst := rfl
@[simp] theorem emit_frg (e : Emit) : (emit e s).frg = s.frg := rfl
@[simp] theorem emit_pnw (e : Emit) : (emit e s).pnw = s.pnw := rfl
@[simp] theorem emit_evr (e : Emit) : (emit e s).evr = s.evr := rfl
@[simp] theorem emit_cvu (e : Emit) : (emit e s).cvu = s.cvu := rfl
@[simp] theorem emit_chop (e : Emit) : (emit e s).chop = s.chop := rfl
@[simp] theorem emit_mtr (e : Emit) : (emit e s).mtr = s.mtr := rfl
@[simp] theorem emit_mtrLanes (e : Emit) : (emit e s).mtrLanes = s.mtrLanes := rfl
@[simp] theorem emit_dsp (e : Emit) : (emit e s).dsp = s.dsp := rfl
@[simp] theorem emit_boot (e : Emit) : (emit e s).boot = s.boot := rfl
@[simp] theorem emit_sent (e : Emit) : (emit e s).sent = s.sent ++ [e] := rfl
@[simp] theorem emit_free (e : Emit) : (emit e s).free = s.free := rfl
@[simp] theorem takeFree_pending : (takeFree s).pending = s.pending := rfl
@[simp] theorem takeFree_id : (takeFree s).id = s.id := rfl
@[simp] theorem takeFree_img : (takeFree s).img = s.img := rfl
@[simp] theorem takeFree_flash : (takeFree s).flash = s.flash := rfl
@[simp] theorem takeFree_sup : (takeFree s).sup = s.sup := rfl
@[simp] theorem takeFree_tim : (takeFree s).tim = s.tim := rfl
@[simp] theorem takeFree_nibA : (takeFree s).nibA = s.nibA := rfl
@[simp] theorem takeFree_nibB : (takeFree s).nibB = s.nibB := rfl
@[simp] theorem takeFree_cyc : (takeFree s).cyc = s.cyc := rfl
@[simp] theorem takeFree_cmp : (takeFree s).cmp = s.cmp := rfl
@[simp] theorem takeFree_lpe : (takeFree s).lpe = s.lpe := rfl
@[simp] theorem takeFree_fch : (takeFree s).fch = s.fch := rfl
@[simp] theorem takeFree_saf : (takeFree s).saf = s.saf := rfl
@[simp] theorem takeFree_alm : (takeFree s).alm = s.alm := rfl
@[simp] theorem takeFree_pst : (takeFree s).pst = s.pst := rfl
@[simp] theorem takeFree_frg : (takeFree s).frg = s.frg := rfl
@[simp] theorem takeFree_pnw : (takeFree s).pnw = s.pnw := rfl
@[simp] theorem takeFree_evr : (takeFree s).evr = s.evr := rfl
@[simp] theorem takeFree_cvu : (takeFree s).cvu = s.cvu := rfl
@[simp] theorem takeFree_chop : (takeFree s).chop = s.chop := rfl
@[simp] theorem takeFree_mtr : (takeFree s).mtr = s.mtr := rfl
@[simp] theorem takeFree_mtrLanes : (takeFree s).mtrLanes = s.mtrLanes := rfl
@[simp] theorem takeFree_dsp : (takeFree s).dsp = s.dsp := rfl
@[simp] theorem takeFree_boot : (takeFree s).boot = s.boot := rfl
@[simp] theorem takeFree_sent : (takeFree s).sent = s.sent := rfl
@[simp] theorem takeFree_free : (takeFree s).free = s.free + 1 := rfl

end Sys2Proof.Machine
end

