-- ==== Sys2Proof/Laws/Requests.lean ====
section
/-! SUPPORT. Requests of the station protocol: what admission leaves, when it passes a request on, and what answers it. -/

namespace Sys2Proof.Machine

variable {r : Req} {f : PrpRx} {lvl : BitVec 2} {d : Bool} {k : State → State} {s : State}

/-- Noting a datagram changes the record of the plant network alone. -/
theorem noteFrame_eq (f : PrpRx) (s : State) : ∃ p, noteFrame f s = { s with pnw := p } ∧ p.sessions = s.pnw.sessions := by
  unfold noteFrame
  split
  · exact ⟨_, rfl, rfl⟩
  · dsimp only
    split <;> exact ⟨_, rfl, rfl⟩

/-- So does admission. -/
theorem admitted_eq (r : Req) (s : State) : ∃ p, admitted r s = { s with pnw := p } := by
  unfold admitted
  split
  · exact ⟨_, rfl⟩
  · obtain ⟨p, h, _⟩ := noteFrame_eq r.rx s
    rw [h]
    exact ⟨_, rfl⟩

@[simp] theorem noteFrame_pending : (noteFrame f s).pending = s.pending := by obtain ⟨_, h, _⟩ := noteFrame_eq f s; rw [h]
@[simp] theorem admitted_pending : (admitted r s).pending = s.pending := by obtain ⟨_, h⟩ := admitted_eq r s; rw [h]
@[simp] theorem noteFrame_id : (noteFrame f s).id = s.id := by obtain ⟨_, h, _⟩ := noteFrame_eq f s; rw [h]
@[simp] theorem admitted_id : (admitted r s).id = s.id := by obtain ⟨_, h⟩ := admitted_eq r s; rw [h]
@[simp] theorem noteFrame_img : (noteFrame f s).img = s.img := by obtain ⟨_, h, _⟩ := noteFrame_eq f s; rw [h]
@[simp] theorem admitted_img : (admitted r s).img = s.img := by obtain ⟨_, h⟩ := admitted_eq r s; rw [h]
@[simp] theorem noteFrame_flash : (noteFrame f s).flash = s.flash := by obtain ⟨_, h, _⟩ := noteFrame_eq f s; rw [h]
@[simp] theorem admitted_flash : (admitted r s).flash = s.flash := by obtain ⟨_, h⟩ := admitted_eq r s; rw [h]
@[simp] theorem noteFrame_sup : (noteFrame f s).sup = s.sup := by obtain ⟨_, h, _⟩ := noteFrame_eq f s; rw [h]
@[simp] theorem admitted_sup : (admitted r s).sup = s.sup := by obtain ⟨_, h⟩ := admitted_eq r s; rw [h]
@[simp] theorem noteFrame_tim : (noteFrame f s).tim = s.tim := by obtain ⟨_, h, _⟩ := noteFrame_eq f s; rw [h]
@[simp] theorem admitted_tim : (admitted r s).tim = s.tim := by obtain ⟨_, h⟩ := admitted_eq r s; rw [h]
@[simp] theorem noteFrame_nibA : (noteFrame f s).nibA = s.nibA := by obtain ⟨_, h, _⟩ := noteFrame_eq f s; rw [h]
@[simp] theorem admitted_nibA : (admitted r s).nibA = s.nibA := by obtain ⟨_, h⟩ := admitted_eq r s; rw [h]
@[simp] theorem noteFrame_nibB : (noteFrame f s).nibB = s.nibB := by obtain ⟨_, h, _⟩ := noteFrame_eq f s; rw [h]
@[simp] theorem admitted_nibB : (admitted r s).nibB = s.nibB := by obtain ⟨_, h⟩ := admitted_eq r s; rw [h]
@[simp] theorem noteFrame_cyc : (noteFrame f s).cyc = s.cyc := by obtain ⟨_, h, _⟩ := noteFrame_eq f s; rw [h]
@[simp] theorem admitted_cyc : (admitted r s).cyc = s.cyc := by obtain ⟨_, h⟩ := admitted_eq r s; rw [h]
@[simp] theorem noteFrame_cmp : (noteFrame f s).cmp = s.cmp := by obtain ⟨_, h, _⟩ := noteFrame_eq f s; rw [h]
@[simp] theorem admitted_cmp : (admitted r s).cmp = s.cmp := by obtain ⟨_, h⟩ := admitted_eq r s; rw [h]
@[simp] theorem noteFrame_lpe : (noteFrame f s).lpe = s.lpe := by obtain ⟨_, h, _⟩ := noteFrame_eq f s; rw [h]
@[simp] theorem admitted_lpe : (admitted r s).lpe = s.lpe := by obtain ⟨_, h⟩ := admitted_eq r s; rw [h]
@[simp] theorem noteFrame_fch : (noteFrame f s).fch = s.fch := by obtain ⟨_, h, _⟩ := noteFrame_eq f s; rw [h]
@[simp] theorem admitted_fch : (admitted r s).fch = s.fch := by obtain ⟨_, h⟩ := admitted_eq r s; rw [h]
@[simp] theorem noteFrame_saf : (noteFrame f s).saf = s.saf := by obtain ⟨_, h, _⟩ := noteFrame_eq f s; rw [h]
@[simp] theorem admitted_saf : (admitted r s).saf = s.saf := by obtain ⟨_, h⟩ := admitted_eq r s; rw [h]
@[simp] theorem noteFrame_alm : (noteFrame f s).alm = s.alm := by obtain ⟨_, h, _⟩ := noteFrame_eq f s; rw [h]
@[simp] theorem admitted_alm : (admitted r s).alm = s.alm := by obtain ⟨_, h⟩ := admitted_eq r s; rw [h]
@[simp] theorem noteFrame_pst : (noteFrame f s).pst = s.pst := by obtain ⟨_, h, _⟩ := noteFrame_eq f s; rw [h]
@[simp] theorem admitted_pst : (admitted r s).pst = s.pst := by obtain ⟨_, h⟩ := admitted_eq r s; rw [h]
@[simp] theorem noteFrame_frg : (noteFrame f s).frg = s.frg := by obtain ⟨_, h, _⟩ := noteFrame_eq f s; rw [h]
@[simp] theorem admitted_frg : (admitted r s).frg = s.frg := by obtain ⟨_, h⟩ := admitted_eq r s; rw [h]
@[simp] theorem noteFrame_evr : (noteFrame f s).evr = s.evr := by obtain ⟨_, h, _⟩ := noteFrame_eq f s; rw [h]
@[simp] theorem admitted_evr : (admitted r s).evr = s.evr := by obtain ⟨_, h⟩ := admitted_eq r s; rw [h]
@[simp] theorem noteFrame_cvu : (noteFrame f s).cvu = s.cvu := by obtain ⟨_, h, _⟩ := noteFrame_eq f s; rw [h]
@[simp] theorem admitted_cvu : (admitted r s).cvu = s.cvu := by obtain ⟨_, h⟩ := admitted_eq r s; rw [h]
@[simp] theorem noteFrame_chop : (noteFrame f s).chop = s.chop := by obtain ⟨_, h, _⟩ := noteFrame_eq f s; rw [h]
@[simp] theorem admitted_chop : (admitted r s).chop = s.chop := by obtain ⟨_, h⟩ := admitted_eq r s; rw [h]
@[simp] theorem noteFrame_mtr : (noteFrame f s).mtr = s.mtr := by obtain ⟨_, h, _⟩ := noteFrame_eq f s; rw [h]
@[simp] theorem admitted_mtr : (admitted r s).mtr = s.mtr := by obtain ⟨_, h⟩ := admitted_eq r s; rw [h]
@[simp] theorem noteFrame_mtrLanes : (noteFrame f s).mtrLanes = s.mtrLanes := by obtain ⟨_, h, _⟩ := noteFrame_eq f s; rw [h]
@[simp] theorem admitted_mtrLanes : (admitted r s).mtrLanes = s.mtrLanes := by obtain ⟨_, h⟩ := admitted_eq r s; rw [h]
@[simp] theorem noteFrame_dsp : (noteFrame f s).dsp = s.dsp := by obtain ⟨_, h, _⟩ := noteFrame_eq f s; rw [h]
@[simp] theorem admitted_dsp : (admitted r s).dsp = s.dsp := by obtain ⟨_, h⟩ := admitted_eq r s; rw [h]
@[simp] theorem noteFrame_boot : (noteFrame f s).boot = s.boot := by obtain ⟨_, h, _⟩ := noteFrame_eq f s; rw [h]
@[simp] theorem admitted_boot : (admitted r s).boot = s.boot := by obtain ⟨_, h⟩ := admitted_eq r s; rw [h]
@[simp] theorem noteFrame_sent : (noteFrame f s).sent = s.sent := by obtain ⟨_, h, _⟩ := noteFrame_eq f s; rw [h]
@[simp] theorem admitted_sent : (admitted r s).sent = s.sent := by obtain ⟨_, h⟩ := admitted_eq r s; rw [h]
@[simp] theorem noteFrame_free : (noteFrame f s).free = s.free := by obtain ⟨_, h, _⟩ := noteFrame_eq f s; rw [h]
@[simp] theorem admitted_free : (admitted r s).free = s.free := by obtain ⟨_, h⟩ := admitted_eq r s; rw [h]

@[simp] theorem noteFrame_sessions : (noteFrame f s).pnw.sessions = s.pnw.sessions := by
  obtain ⟨_, h, e⟩ := noteFrame_eq f s; rw [h]; exact e

@[simp] theorem noteFrame_nowUs : nowUs (noteFrame f s) = nowUs s := by simp [nowUs]
@[simp] theorem noteFrame_find (i : Word) : findSession (noteFrame f s) i = findSession s i := by simp [findSession]
@[simp] theorem noteFrame_elsewhere : elsewhere r (noteFrame f s) = elsewhere r s := by simp [elsewhere]
@[simp] theorem admitted_nowUs : nowUs (admitted r s) = nowUs s := by simp [nowUs]
@[simp] theorem admitted_paired : paired (admitted r s) = paired s := by simp [paired, partner, partnerSlot]
@[simp] theorem admitted_inRun : inRun (admitted r s) = inRun s := by simp [inRun]
@[simp] theorem admitted_lanSeq : lanSeq (admitted r s) = lanSeq s := by simp [lanSeq]

/-- Counting a request leaves a session's identity. -/
theorem countRequest_same (n : Nat) (x : Session) : (countRequest n x).id = x.id ∧ (countRequest n x).key = x.key ∧
    (countRequest n x).level = x.level ∧ (countRequest n x).opened = x.opened := by
  unfold countRequest
  dsimp only
  split <;> exact ⟨rfl, rfl, rfl, rfl⟩

/-- A request that passes admission is carried out on the admitted state. -/
theorem screenReq_ok (h : admits r lvl s = true) (hd : s.sup.mode ≠ .decaf ∨ d = true) : screenReq r lvl d k s = k (admitted r s) := by
  unfold admits at h
  unfold screenReq arriving admitted
  split at h
  · cases h
  · rename_i x e
    obtain ⟨-, -, hl, -⟩ := countRequest_same (nowUs s) x
    simp only [rightMessage, Bool.and_eq_true, decide_eq_true_eq, Bool.not_eq_true', beq_iff_eq] at h
    obtain ⟨⟨⟨⟨⟨⟨⟨⟨⟨⟨⟨⟨a1, a2⟩, a3⟩, a4⟩, a5⟩, a6⟩, a7⟩, h1⟩, h2⟩, h3⟩, h4⟩, h6⟩, h5⟩ := h
    have n1 : ¬ (r.seq ≤ x.seq) := BitVec.not_le.mpr h2
    have n5 : ¬ (x.level < lvl) := BitVec.not_lt.mpr h5
    rcases hd with hd | hd <;>
      simp [a1, a2, a3, a4, a5, a6, h1, e, n1, Nat.not_lt.mpr h3, hd, hl, n5, h6, setSession, elsewhere] <;>
      simp_all [elsewhere]

/-- A session changed is the session found, where the change keeps it open and its identifier. -/
theorem findSession_set {i : Word} {x y : Session} (h : findSession s i = some x) (hi : y.id = i) (ho : y.opened = true) :
    findSession (setSession i (fun _ => y) s) i = some y := by
  unfold findSession setSession at *
  dsimp only
  have hx := List.find?_some h
  have hm := List.mem_of_find?_eq_some h
  simp only [Bool.and_eq_true, beq_iff_eq] at hx
  rw [List.find?_map]
  have e : ((fun x : Session => x.id == i && x.opened) ∘ fun x => if (x.id == i) = true then y else x) = fun x => x.id == i := by
    funext z
    by_cases hz : z.id = i <;> simp [hz, hi, ho]
  rw [e]
  cases hf : s.pnw.sessions.find? (fun x => x.id == i) with
  | none =>
    have := List.find?_eq_none.mp hf x hm
    simp [hx.1] at this
  | some z =>
    have hz := List.find?_some hf
    simp only [beq_iff_eq] at hz
    simp [hz]

/-- What an admitted request is answered with, at any state that holds the admitted sessions and has sent nothing more. -/
theorem reply_ok {t : State} (h : admits r lvl s = true) (st : BitVec 16) (body : List Byte) (hp : t.pnw = (admitted r s).pnw)
    (hs : t.sent = s.sent) : reply r st body t = { t with sent := s.sent ++ responses r st body s } := by
  unfold admits at h
  split at h
  · cases h
  · rename_i x e
    simp only [rightMessage, Bool.and_eq_true, bne_iff_ne, ne_eq] at h
    obtain ⟨⟨⟨⟨⟨⟨⟨-, hz⟩, -⟩, -⟩, -⟩, -⟩, -⟩, -⟩ := h
    obtain ⟨ci, ck, cl, co⟩ := countRequest_same (nowUs s) x
    have hx := List.find?_some e
    simp only [Bool.and_eq_true, beq_iff_eq] at hx
    have hf : findSession t r.sess = some { countRequest (nowUs s) x with seq := r.seq } := by
      have : findSession t r.sess = findSession (admitted r s) r.sess := by simp [findSession, hp]
      rw [this]
      unfold admitted
      simp only [e]
      exact findSession_set (by simpa using e) (by simpa [ci] using hx.1) (by simpa [co] using hx.2)
    unfold reply responses
    rw [if_neg hz, hf]
    simp only [e, emitLan, emit, lanSeq, hs, messageTo, ci, ck, cl]

end Sys2Proof.Machine
end

