-- ==== Sys2Proof/Laws/Tables.lean ====
section
/-! SUPPORT. The sparse tables: what a read answers after a write, which entries a write leaves, and that every operation
keeps the canonical form. -/

namespace Sys2Proof.Machine

variable {α : Type}

/-! ### Entries -/

theorem mem_tins {i : Nat} {v : α} {t : Tab α} {p : Nat × α} (h : p ∈ tins i v t) : p = (i, v) ∨ p ∈ t := by
  induction t with
  | nil => simpa [tins] using h
  | cons q t ih =>
    obtain ⟨k, w⟩ := q
    unfold tins at h
    split at h
    · rcases List.mem_cons.mp h with h | h
      · exact .inr (List.mem_cons.mpr (.inl h))
      · exact (ih h).imp id (fun h => List.mem_cons_of_mem _ h)
    · split at h
      · rcases List.mem_cons.mp h with h | h
        · exact .inl h
        · exact .inr (List.mem_cons_of_mem _ h)
      · rcases List.mem_cons.mp h with h | h
        · exact .inl h
        · exact .inr h

theorem mem_of_filter {l : List α} {f : α → Bool} {a : α} (h : a ∈ l.filter f) : a ∈ l := (List.mem_filter.mp h).1

theorem mem_tput [DecidableEq α] {d : α} {i : Nat} {v : α} {t : Tab α} {p : Nat × α} (h : p ∈ tput d t i v) :
    p = (i, v) ∨ p ∈ t := by
  unfold tput at h
  split at h
  · exact .inr (mem_of_filter h)
  · exact mem_tins h

theorem mem_tmod [DecidableEq α] {d : α} {i : Nat} {f : α → α} {t : Tab α} {p : Nat × α} (h : p ∈ tmod d t i f) :
    p = (i, f (tget d t i)) ∨ p ∈ t := mem_tput h

theorem mem_tmap [DecidableEq α] {d : α} {f : α → α} {t : Tab α} {p : Nat × α} (h : p ∈ tmap d f t) :
    ∃ q ∈ t, p = (q.1, f q.2) := by
  obtain ⟨q, hq, rfl⟩ := List.mem_map.mp (mem_of_filter h)
  exact ⟨q, hq, rfl⟩

theorem tget_mem {d : α} {t : Tab α} {i : Nat} : tget d t i = d ∨ (i, tget d t i) ∈ t := by
  induction t with
  | nil => exact .inl rfl
  | cons p t ih =>
    obtain ⟨k, v⟩ := p
    unfold tget
    split
    · subst_vars; exact .inr (List.mem_cons_self)
    · exact ih.imp id (fun h => List.mem_cons_of_mem _ h)

/-! ### Reading after writing -/

theorem tget_tins_same {d : α} {i : Nat} {v : α} {t : Tab α} : tget d (tins i v t) i = v := by
  induction t with
  | nil => simp [tins, tget]
  | cons p t ih =>
    obtain ⟨k, w⟩ := p
    unfold tins
    split
    · unfold tget
      have : k ≠ i := by omega
      simp [this, ih]
    · split <;> simp [tget]

theorem tget_tins_other {d : α} {i j : Nat} {v : α} {t : Tab α} (h : j ≠ i) : tget d (tins i v t) j = tget d t j := by
  induction t with
  | nil => simp [tins, tget, h.symm]
  | cons p t ih =>
    obtain ⟨k, w⟩ := p
    unfold tins
    split
    · simp only [tget, ih]
    · split
      · subst_vars; simp [tget, h.symm]
      · simp [tget, h.symm]

theorem tget_filter_same {d : α} {i : Nat} {t : Tab α} : tget d (t.filter (fun p => p.1 != i)) i = d := by
  induction t with
  | nil => rfl
  | cons p t ih =>
    by_cases e : p.1 = i
    · rw [List.filter_cons_of_neg (by simp [e])]; exact ih
    · rw [List.filter_cons_of_pos (by simp [e])]; simp [tget, e, ih]

theorem tget_filter_other {d : α} {i j : Nat} {t : Tab α} (h : j ≠ i) :
    tget d (t.filter (fun p => p.1 != i)) j = tget d t j := by
  induction t with
  | nil => rfl
  | cons p t ih =>
    by_cases e : p.1 = i
    · have : i ≠ j := Ne.symm h
      rw [List.filter_cons_of_neg (by simp [e])]; simp [tget, e, this, ih]
    · rw [List.filter_cons_of_pos (by simp [e])]; simp only [tget, ih]

/-- An entry just written reads back. -/
theorem tget_tput_same [DecidableEq α] {d : α} {t : Tab α} {i : Nat} {v : α} : tget d (tput d t i v) i = v := by
  unfold tput
  split
  · subst_vars; exact tget_filter_same
  · exact tget_tins_same

/-- A write leaves every other entry alone. -/
theorem tget_tput_other [DecidableEq α] {d : α} {t : Tab α} {i j : Nat} {v : α} (h : j ≠ i) :
    tget d (tput d t i v) j = tget d t j := by
  unfold tput
  split
  · exact tget_filter_other h
  · exact tget_tins_other h

theorem tget_tmod_same [DecidableEq α] {d : α} {t : Tab α} {i : Nat} {f : α → α} :
    tget d (tmod d t i f) i = f (tget d t i) := tget_tput_same

theorem tget_tmod_other [DecidableEq α] {d : α} {t : Tab α} {i j : Nat} {f : α → α} (h : j ≠ i) :
    tget d (tmod d t i f) j = tget d t j := tget_tput_other h

/-! ### The canonical form -/

variable [DecidableEq α]

theorem twf_cons {d : α} {k : Nat} {v : α} {t : Tab α} :
    twf d ((k, v) :: t) = true ↔ v ≠ d ∧ (∀ p ∈ t.head?, k < p.1) ∧ twf d t = true := by
  cases t with
  | nil => simp [twf]
  | cons p t => obtain ⟨k', v'⟩ := p; simp [twf, and_assoc]

theorem twf_lt {d : α} {k : Nat} {v : α} {t : Tab α} (h : twf d ((k, v) :: t) = true) : ∀ p ∈ t, k < p.1 := by
  induction t generalizing k v with
  | nil => simp
  | cons q t ih =>
    obtain ⟨k', v'⟩ := q
    have h1 := twf_cons.mp h
    have hk : k < k' := h1.2.1 (k', v') (by simp)
    intro p hp
    rcases List.mem_cons.mp hp with rfl | hp
    · exact hk
    · exact Nat.lt_trans hk (ih h1.2.2 p hp)

/-- Setting an entry keeps the form. -/
theorem twf_tput {d : α} {t : Tab α} {i : Nat} {v : α} (h : twf d t = true) : twf d (tput d t i v) = true := by
  unfold tput
  split
  · induction t with
    | nil => rfl
    | cons p t ih =>
      obtain ⟨k, w⟩ := p
      have h1 := twf_cons.mp h
      have hl := twf_lt h
      by_cases e : k = i
      · rw [List.filter_cons_of_neg (by simp [e])]; exact ih h1.2.2
      · have : ((k, w).1 != i) = true := by simpa using e
        rw [List.filter_cons_of_pos (p := fun p : Nat × α => p.1 != i) this]
        refine twf_cons.mpr ⟨h1.1, fun p hp => ?_, ih h1.2.2⟩
        exact hl p (mem_of_filter (List.mem_of_mem_head? hp))
  · rename_i hv
    induction t with
    | nil => simp [tins, twf, hv]
    | cons p t ih =>
      obtain ⟨k, w⟩ := p
      have h1 := twf_cons.mp h
      have hl := twf_lt h
      unfold tins
      split
      · refine twf_cons.mpr ⟨h1.1, fun p hp => ?_, ih h1.2.2⟩
        rcases mem_tins (List.mem_of_mem_head? hp) with rfl | hp
        · assumption
        · exact hl p hp
      · split
        · subst_vars
          exact twf_cons.mpr ⟨hv, h1.2.1, h1.2.2⟩
        · refine twf_cons.mpr ⟨hv, fun p hp => ?_, h⟩
          simp only [List.head?_cons, Option.mem_def, Option.some.injEq] at hp
          subst hp
          simp only
          omega

/-- Changing an entry keeps the form. -/
theorem twf_tmod {d : α} {t : Tab α} {i : Nat} {f : α → α} (h : twf d t = true) : twf d (tmod d t i f) = true := twf_tput h

/-- Setting several entries keeps the form. -/
theorem twf_tputs {d : α} {t : Tab α} {l : List (Nat × α)} (h : twf d t = true) : twf d (tputs d t l) = true := by
  unfold tputs
  induction l generalizing t with
  | nil => exact h
  | cons p l ih => exact ih (twf_tput h)

/-- Changing every entry keeps the form. -/
theorem twf_tmap {d : α} {f : α → α} {t : Tab α} (h : twf d t = true) : twf d (tmap d f t) = true := by
  induction t with
  | nil => rfl
  | cons p t ih =>
    obtain ⟨k, w⟩ := p
    have h1 := twf_cons.mp h
    have hl := twf_lt h
    have ih := ih h1.2.2
    unfold tmap at ih ⊢
    rw [List.map_cons]
    by_cases e : f w = d
    · rw [List.filter_cons_of_neg (by simp [e])]; exact ih
    · rw [List.filter_cons_of_pos (by simp [e])]
      refine twf_cons.mpr ⟨e, fun p hp => ?_, ih⟩
      obtain ⟨q, hq, rfl⟩ := List.mem_map.mp (mem_of_filter (List.mem_of_mem_head? hp))
      exact hl q hq

end Sys2Proof.Machine
end

