-- ==== Sys2Proof/Laws/Channels.lean ====
section
/-! SUPPORT. Channels: what setting one and looking at its quality again leave (R151, R161, R183). -/

namespace Sys2Proof.Machine

variable {i j g : Nat} {f : Chan → Chan} {s t : State}

theorem chan_setChan_same : chan (setChan i f s) i = f (chan s i) := by simp [chan, setChan, tget_tmod_same]

theorem chan_setChan_other (h : j ≠ i) : chan (setChan i f s) j = chan s j := by simp [chan, setChan, tget_tmod_other h]

theorem chan_setChan : chan (setChan i f s) j = if j = i then f (chan s j) else chan s j := by
  split
  · rename_i h; subst h; exact chan_setChan_same
  · rename_i h; exact chan_setChan_other h

theorem grp_setChan : grp (setChan i f s) g = grp s g := rfl

theorem chanMode_setChan : chanMode (setChan i f s) j = chanMode s j := rfl

theorem chanCfg_setChan : chanCfg (setChan i f s) j = chanCfg s j := rfl

/-- The quality code depends on the channel, its group, the barrier and the settings alone. -/
theorem qualCode_congr {a b : State} (hc : ∃ k e n r, chan b i = { chan a i with code := k, evt := e, faults := n, rangeShown := r })
    (hb : b.boot = a.boot) (hg : grp b (groupOf i) = grp a (groupOf i))
    (ht : b.tim = a.tim) (hm : chanMode b i = chanMode a i) : qualCode b i = qualCode a i := by
  obtain ⟨k, e, n, r, hc⟩ := hc
  unfold qualCode
  rw [hc, hg, ht, hm, hb]

theorem post_fch {code inst : Nat} {vals : List Word} : (post code inst vals s).fch = s.fch :=
  post_changes code inst vals s .fch rfl

theorem post_chan {code inst : Nat} {vals : List Word} : chan (post code inst vals s) j = chan s j := by
  simp [chan, post_fch]

/-- The state s but for the code, sticky bits and fault count of channel index i and the region's event word. -/
def OnlyCode (i : Nat) (q : BitVec 4) (s t : State) : Prop :=
  (∃ e n r, chan t i = { chan s i with code := q, evt := e, faults := n, rangeShown := r }) ∧
  (∀ j, j ≠ i → chan t j = chan s j) ∧ t.fch = { s.fch with ch := t.fch.ch, evt := t.fch.evt }

theorem OnlyCode.fchEvt {q : BitVec 4} {w : Word} (h : OnlyCode i q s t) : OnlyCode i q s { t with fch := { t.fch with evt := w } } :=
  ⟨h.1, h.2.1, by rw [h.2.2]⟩

theorem OnlyCode.post {q : BitVec 4} {code inst : Nat} {vals : List Word} (h : OnlyCode i q s t) : OnlyCode i q s (post code inst vals t) :=
  ⟨by simp only [post_chan]; exact h.1, fun j hj => by rw [post_chan]; exact h.2.1 j hj, by rw [post_fch]; exact h.2.2⟩

theorem OnlyCode.ite {q : BitVec 4} {c : Prop} [Decidable c] {a b : State} (ha : OnlyCode i q s a) (hb : OnlyCode i q s b) :
    OnlyCode i q s (if c then a else b) := by
  split <;> assumption

theorem requal_onlyCode (i : Nat) (s : State) : OnlyCode i (qualCode s i) s (requal i s) := by
  unfold requal
  dsimp only
  have hs : ∃ u, (if ((chan s i).range && qualCode s i == 0) = (chan s i).rangeShown then s else
      setChan i (fun x => { x with rangeShown := (chan s i).range && qualCode s i == 0,
                                   evt := orBit x.evt 4 ((chan s i).range && qualCode s i == 0) }) s) = u ∧
      OnlyCode i (chan s i).code s u := by
    refine ⟨_, rfl, ?_⟩
    split
    · exact ⟨⟨_, _, _, rfl⟩, fun _ _ => rfl, rfl⟩
    · exact ⟨⟨_, _, _, chan_setChan_same⟩, fun j hj => chan_setChan_other hj, rfl⟩
  obtain ⟨u, hu, h⟩ := hs
  rw [hu]
  split
  · rename_i e
    rw [e]
    exact h
  · have hv : ∀ b : Bool, OnlyCode i (qualCode s i) s (setChan i (fun x => { x with
        code := qualCode s i, evt := if (grp u (groupOf i)).maint then x.evt else codeEvt (qualCode s i) x.evt,
        faults := if b then inc16 x.faults else x.faults }) u) := fun b => by
      obtain ⟨⟨e, n, r, h1⟩, h2, h3⟩ := h
      refine ⟨⟨_, _, _, by rw [chan_setChan_same, h1]⟩, fun j hj => by rw [chan_setChan_other hj, h2 j hj], ?_⟩
      simp only [setChan]
      rw [h3]
    exact .ite (.ite (hv _).fchEvt (hv _)) (.post (.ite (hv _).fchEvt (hv _)))

/-- Looking at a channel's quality again leaves the code R151 gives, and touches nothing but the channel's code, sticky bits and
fault count. -/
theorem requal_law (i : Nat) (s : State) : chan (requal i s) i =
      { chan s i with code := qualCode s i, evt := (chan (requal i s) i).evt, faults := (chan (requal i s) i).faults,
                      rangeShown := (chan (requal i s) i).rangeShown } ∧
    (∀ j, j ≠ i → chan (requal i s) j = chan s j) ∧
    (requal i s).fch = { s.fch with ch := (requal i s).fch.ch, evt := (requal i s).fch.evt } := by
  obtain ⟨⟨e, n, r, h1⟩, h2, h3⟩ := requal_onlyCode i s
  exact ⟨by rw [h1], h2, h3⟩

theorem requal_code : qualCode (requal i s) i = qualCode s i := by
  obtain ⟨h1, _, h3⟩ := requal_law i s
  have hc := requal_changes i s
  refine qualCode_congr ⟨_, _, _, _, h1⟩ (hc .boot rfl) ?_ (hc .tim rfl) ?_
  · simp only [grp]; rw [h3]
  · simp only [chanMode, chanCfg]; rw [show (requal i s).sup = s.sup from hc .sup rfl, show (requal i s).img = s.img from hc .img rfl]

/-- A channel set and its quality looked at again. -/
theorem requal_setChan : ChanNow i (f (chan s i)) s (requal i (setChan i f s)) := by
  obtain ⟨h1, h2, h3⟩ := requal_law i (setChan i f s)
  refine ⟨?_, fun j hj => by rw [h2 j hj, chan_setChan_other hj], ?_, ?_⟩
  · rw [requal_code, show f (chan s i) = chan (setChan i f s) i from chan_setChan_same.symm]; exact h1
  · rw [h3]; rfl
  · exact (requal_changes i _).comp rfl ((setChan_changes i f s).mono rfl)

/-- A setter over a list of channels without repetition. -/
theorem each_setChan {l : List Nat} (h : l.Nodup) : ∀ {s : State},
    chan (forEach l (fun i s => setChan i f s) s) j = if j ∈ l then f (chan s j) else chan s j := by
  induction l with
  | nil => intro s; simp [forEach]
  | cons a l ih =>
    intro s
    have hl := (List.nodup_cons.mp h).2
    have ha := (List.nodup_cons.mp h).1
    show chan (forEach l (fun i s => setChan i f s) (setChan a f s)) j = _
    rw [ih hl]
    by_cases e : j = a
    · subst e; simp [ha, chan_setChan_same]
    · simp [chan_setChan_other e, e]

theorem each_setChan_fch {l : List Nat} : ∀ {s : State},
    (forEach l (fun i s => setChan i f s) s).fch = { s.fch with ch := (forEach l (fun i s => setChan i f s) s).fch.ch } := by
  induction l with
  | nil => intro s; rfl
  | cons a l ih =>
    intro s
    show (forEach l (fun i s => setChan i f s) (setChan a f s)).fch = _
    rw [ih]; rfl

theorem each_setChan_changes {l : List Nat} (s : State) : Changes [.fch] s (forEach l (fun i s => setChan i f s) s) :=
  Changes.each (fun i t => setChan_changes i f t) .refl

/-- The qualities of several channels looked at again. -/
theorem requalAll_law {l : List Nat} : ∀ {s : State},
    (chan (requalAll l s) j = { chan s j with code := (chan (requalAll l s) j).code, evt := (chan (requalAll l s) j).evt,
                                              faults := (chan (requalAll l s) j).faults,
                                              rangeShown := (chan (requalAll l s) j).rangeShown }) ∧
    (j ∉ l → chan (requalAll l s) j = chan s j) ∧
    (requalAll l s).fch = { s.fch with ch := (requalAll l s).fch.ch, evt := (requalAll l s).fch.evt } := by
  induction l with
  | nil => intro s; exact ⟨rfl, fun _ => rfl, rfl⟩
  | cons a l ih =>
    intro s
    obtain ⟨h1, h2, h3⟩ := requal_law a s
    obtain ⟨k1, k2, k3⟩ := ih (s := requal a s)
    refine ⟨?_, ?_, ?_⟩
    · by_cases e : j = a
      · subst e
        have : requalAll (j :: l) s = requalAll l (requal j s) := rfl
        rw [this, k1, h1]
      · have : requalAll (a :: l) s = requalAll l (requal a s) := rfl
        rw [this, k1, h2 j e]
    · intro hj
      simp only [List.mem_cons, not_or] at hj
      show chan (requalAll l (requal a s)) j = _
      rw [k2 hj.2, h2 j hj.1]
    · have : requalAll (a :: l) s = requalAll l (requal a s) := rfl
      rw [this, k3, h3]

theorem requalAll_qual {l : List Nat} {s : State} : qualCode (requalAll l s) j = qualCode s j := by
  obtain ⟨h1, _, h3⟩ := requalAll_law (l := l) (s := s) (j := j)
  have hc := requalAll_changes l s
  refine qualCode_congr ⟨_, _, _, _, h1⟩ (hc .boot rfl) ?_ (hc .tim rfl) ?_
  · simp only [grp]; rw [h3]
  · simp only [chanMode, chanCfg]; rw [show (requalAll l s).sup = s.sup from hc .sup rfl, show (requalAll l s).img = s.img from hc .img rfl]

theorem requalAll_code {l : List Nat} : ∀ {s : State}, j ∈ l → (chan (requalAll l s) j).code = qualCode s j := by
  induction l with
  | nil => intro s h; cases h
  | cons a l ih =>
    intro s h
    show (chan (requalAll l (requal a s)) j).code = _
    have e : qualCode (requal a s) j = qualCode s j := requalAll_qual (l := [a])
    by_cases hl : j ∈ l
    · rw [ih hl, e]
    · have : j = a := by simpa [hl] using h
      subst this
      rw [requalAll_law.2.1 hl, (requal_law j s).1]

theorem groupChans_nodup : (groupChans g).Nodup := by
  unfold groupChans span
  exact List.Pairwise.map _ (fun a b h => by omega) List.nodup_range

theorem setMembers_nodup : (setMembers s i).Nodup := by
  unfold setMembers
  split
  · simp
  · exact groupChans_nodup.filter _

/-- A condition set on a paralleled set. -/
theorem onSet_now : SetNow i f s (onSet i f s) := by
  have hq : ∀ j, qualCode (onSet i f s) j = qualCode (forEach (setMembers s i) (fun j s => setChan j f s) s) j := fun j => requalAll_qual
  refine ⟨fun j hj => ?_, fun j hj => ?_, ?_, onSet_changes i f s⟩
  · rw [hq]
    have h1 := (requalAll_law (l := setMembers s i) (s := forEach (setMembers s i) (fun j s => setChan j f s) s) (j := j)).1
    have h2 := requalAll_code (s := forEach (setMembers s i) (fun j s => setChan j f s) s) hj
    have h3 := each_setChan (f := f) (j := j) (s := s) (setMembers_nodup (s := s) (i := i))
    rw [if_pos hj] at h3
    rw [h3] at h1
    rw [← h2]
    exact h1
  · have h1 := (requalAll_law (l := setMembers s i) (s := forEach (setMembers s i) (fun j s => setChan j f s) s) (j := j)).2.1 hj
    have h3 := each_setChan (f := f) (j := j) (s := s) (setMembers_nodup (s := s) (i := i))
    rw [if_neg hj] at h3
    exact h1.trans h3
  · have h1 := (requalAll_law (l := setMembers s i) (s := forEach (setMembers s i) (fun j s => setChan j f s) s) (j := i)).2.2
    show (requalAll _ _).fch = _
    rw [h1, each_setChan_fch]; rfl

end Sys2Proof.Machine
end

