-- ==== Sys2Proof/Laws/Commands.lean ====
section
/-! SUPPORT. Which parts of the state each command may change. -/

namespace Sys2Proof.Machine

theorem execGroupLinkRestore_frame {g : Fin 6} {s u : State} (h : execGroupLinkRestore g s = .next u) :
    Changes [.fch, .evr] s u := by
  unfold execGroupLinkRestore at h
  obtain rfl := Host.Outcome.next.inj h
  exact .ite (fun _ => .comp (setGrp_changes _ _ _) rfl (.refl)) (fun _ => .comp (requalAll_changes _ _) rfl (.comp (setGrp_changes _ _ _) rfl (.refl)))

theorem execDspPageWrite_frame {p : Path} {v : Word} {s u : State} (h : execDspPageWrite p v s = .next u) :
    Changes [.nibA, .nibB, .cyc, .pnw, .dsp, .sent] s u := by
  unfold execDspPageWrite at h
  obtain rfl := Host.Outcome.next.inj h
  exact .app (byPath_changes rfl (fun _ => .comp (pageWrite_changes _ _) rfl (.refl))) (.refl)

theorem execEnd_frame {o : Blk} {s u : State} (h : execEnd o s = .next u) :
    Changes [.sup, .nibA, .nibB, .cyc, .cmp, .fch, .saf, .alm, .pst, .frg, .pnw, .evr, .cvu, .dsp, .boot, .sent] s u := by
  unfold execEnd at h
  obtain rfl := Host.Outcome.next.inj h
  exact .comp (endOp_changes _ _) rfl (.refl)

theorem execModbusReadHolding_frame {h : MbHdr} {start : BitVec 16} {qty : BitVec 16} {s u : State} (h : execModbusReadHolding h start qty s = .next u) :
    Changes [.sup, .tim, .cyc, .cmp, .lpe, .fch, .alm, .pst, .frg, .pnw, .evr, .dsp, .sent, .free] s u := by
  unfold execModbusReadHolding at h
  obtain rfl := Host.Outcome.next.inj h
  exact .comp (mbReadReq_changes _ _ _ _ _ _) rfl (.refl)

theorem execNotificationAcknowledgement_frame {r : Req} {s u : State} (h : execNotificationAcknowledgement r s = .next u) :
    Changes [.pnw] s u := by
  unfold execNotificationAcknowledgement at h
  obtain rfl := Host.Outcome.next.inj h
  exact .app (arriving_changes rfl (fun _ => .ite (fun _ => .refl) (fun _ => (by
   try dsimp only
   split
   · exact .comp (discardMessage_changes _) rfl (.refl)
   · exact .ite (fun _ => .comp (setSession_changes _ _ _) rfl (.refl)) (fun _ => .comp (discardMessage_changes _) rfl (.refl))
)))) (.refl)

theorem execSt_frame {o : Blk} {s u : State} (h : execSt o s = .next u) :
    Changes [.sup, .nibA, .nibB, .cyc, .cmp, .fch, .saf, .alm, .pst, .frg, .pnw, .evr, .cvu, .dsp, .boot, .sent] s u := by
  unfold execSt at h
  obtain rfl := Host.Outcome.next.inj h
  exact .comp (storeOp_changes _ _ _ _ _) rfl (.refl)

theorem execDiscrepancyTimeout_frame {n : Fin 16} {s u : State} (h : execDiscrepancyTimeout n s = .next u) :
    Changes [.fch, .saf, .evr] s u := by
  unfold execDiscrepancyTimeout at h
  obtain rfl := Host.Outcome.next.inj h
  exact .app (slotEvent_changes rfl (fun _ => .comp (slotFault_changes _ _ _) rfl (.refl))) (.refl)

theorem execBarrierOverload_frame {avg : BitVec 16} {s u : State} (h : execBarrierOverload avg s = .next u) :
    Changes [.tim, .evr] s u := by
  unfold execBarrierOverload at h
  obtain rfl := Host.Outcome.next.inj h
  exact .app (.ite (fun _ => .comp (post_changes _ _ _ _) rfl (.comp (onTim_changes _ _) rfl (.refl))) (fun _ => .refl)) (.comp (onTim_changes _ _) rfl (.refl))

theorem execPointOnDelayEnd_frame {p : BitVec 12} {s u : State} (h : execPointOnDelayEnd p s = .next u) :
    Changes [.alm, .pnw, .evr, .dsp, .sent] s u := by
  unfold execPointOnDelayEnd at h
  obtain rfl := Host.Outcome.next.inj h
  exact .app (pointEvent_changes rfl (fun _ => .comp (goesActive_changes _ _) rfl (.refl))) (.refl)

theorem execVbakLow_frame {mv : BitVec 12} {s u : State} (h : execVbakLow mv s = .next u) :
    Changes [.sup] s u := by
  unfold execVbakLow at h
  obtain rfl := Host.Outcome.next.inj h
  exact .ite (fun _ => .refl) (fun _ => .comp (onSup_changes _ _) rfl (.refl))

theorem execStoreTrim_frame {r : Req} {s u : State} (h : execStoreTrim r s = .next u) :
    Changes [.fch, .pst, .pnw, .evr, .sent] s u := by
  unfold execStoreTrim at h
  obtain rfl := Host.Outcome.next.inj h
  exact .app (trimCommand_changes rfl (fun _ => .comp (storeSession_changes _) rfl (.refl))) (.refl)

theorem execSurveyMeasurement_frame {ch : Fin 96} {m : SurveyMeas} {s u : State} (h : execSurveyMeasurement ch m s = .next u) :
    Changes [.fch, .evr, .dsp, .boot] s u := by
  unfold execSurveyMeasurement at h
  obtain rfl := Host.Outcome.next.inj h
  exact .comp (surveyMeasure_changes _ _ _) rfl (.refl)

theorem execCellin_frame {o : Blk} {s u : State} (h : execCellin o s = .next u) :
    Changes [.sup, .nibA, .nibB, .cyc, .cmp, .fch, .saf, .alm, .pst, .frg, .pnw, .evr, .cvu, .dsp, .boot, .sent] s u := by
  unfold execCellin at h
  obtain rfl := Host.Outcome.next.inj h
  exact .comp (cellIn_changes _ _) rfl (.refl)

theorem execCvuValueWrite_frame {p : Path} {c : Fin 8} {v : Word} {s u : State} (h : execCvuValueWrite p c v s = .next u) :
    Changes [.nibA, .nibB, .cyc, .pnw, .cvu, .sent] s u := by
  unfold execCvuValueWrite at h
  obtain rfl := Host.Outcome.next.inj h
  exact .comp (ctxCommand_changes _ _ _ _ _) rfl (.refl)

theorem execCarafeAckReceived_frame {x : SlRx Bool} {s u : State} (h : execCarafeAckReceived x s = .next u) :
    Changes [.pst, .cvu, .sent] s u := by
  unfold execCarafeAckReceived at h
  obtain rfl := Host.Outcome.next.inj h
  exact .app (slReceive_changes rfl (fun _ => .comp (carafeAcked_changes _ _) rfl (.refl)) (fun _ => .refl)) (.refl)

theorem execDeadManIntervalEnd_frame {s u : State} (h : execDeadManIntervalEnd s = .next u) :
    Changes [.alm, .pnw, .evr, .dsp, .sent] s u := by
  unfold execDeadManIntervalEnd at h
  obtain rfl := Host.Outcome.next.inj h
  exact .app (deadTimeEnd_changes rfl (fun _ => .comp (deadTo_changes _ _ _) rfl (.refl))) (.refl)

theorem execMin_frame {o : Blk} {s u : State} (h : execMin o s = .next u) :
    Changes [.sup, .nibA, .nibB, .cyc, .cmp, .fch, .saf, .alm, .pst, .frg, .pnw, .evr, .cvu, .dsp, .boot, .sent] s u := by
  unfold execMin at h
  obtain rfl := Host.Outcome.next.inj h
  exact .comp (regReg_changes _ _ _ _) rfl (.refl)

theorem execBrakeTest_frame {r : Req} {n : Fin 16} {s u : State} (h : execBrakeTest r n s = .next u) :
    Changes [.fch, .saf, .pnw, .evr, .sent] s u := by
  unfold execBrakeTest at h
  obtain rfl := Host.Outcome.next.inj h
  exact .app (screenReq_changes rfl (fun _ => .app (acceptIf_changes rfl (fun _ => .comp (reply_changes _ _ _ _) rfl (.comp (brakeTestStart_changes _ _) rfl (.refl)))) (.refl))) (.refl)

theorem execAuthenticationBlockEnd_frame {ip : Word} {s u : State} (h : execAuthenticationBlockEnd ip s = .next u) :
    Changes [.pnw] s u := by
  unfold execAuthenticationBlockEnd at h
  obtain rfl := Host.Outcome.next.inj h
  exact .comp (onPnw_changes _ _) rfl (.refl)

theorem execWriteTrim_frame {r : Req} {ch : Fin 96} {p : TrimPoint} {ua : ℤ} {s u : State} (h : execWriteTrim r ch p ua s = .next u) :
    Changes [.fch, .pst, .pnw, .evr, .sent] s u := by
  unfold execWriteTrim at h
  obtain rfl := Host.Outcome.next.inj h
  exact .comp (writeTrim_changes _ _ _ _ _) rfl (.refl)

theorem execSurveyFastSample_frame {ch : Fin 96} {on : Bool} {s u : State} (h : execSurveyFastSample ch on s = .next u) :
    Changes [.fch, .evr, .dsp, .boot] s u := by
  unfold execSurveyFastSample at h
  obtain rfl := Host.Outcome.next.inj h
  exact .comp (surveySample_changes _ _ _) rfl (.refl)

theorem execResetDemand_frame {ch : Fin 96} {ms : ℕ} {s u : State} (h : execResetDemand ch ms s = .next u) :
    Changes [.fch, .saf, .evr] s u := by
  unfold execResetDemand at h
  obtain rfl := Host.Outcome.next.inj h
  exact .comp (resetDemand_changes _ _ _) rfl (.refl)

theorem execOutputRelease_frame {s u : State} (h : execOutputRelease s = .next u) :
    Changes [.sup, .tim, .nibA, .nibB, .cyc, .cmp, .lpe, .fch, .saf, .alm, .pst, .frg, .pnw, .evr, .cvu, .dsp, .boot, .sent, .free] s u := by
  unfold execOutputRelease at h
  obtain rfl := Host.Outcome.next.inj h
  exact .comp (outputRelease_changes _) rfl (.refl)

theorem execSafetyInputFilterTick_frame {ch : Fin 96} {raw : Bool} {s u : State} (h : execSafetyInputFilterTick ch raw s = .next u) :
    Changes [.fch, .evr] s u := by
  unfold execSafetyInputFilterTick at h
  obtain rfl := Host.Outcome.next.inj h
  exact .comp (filterTick_changes _ _ _) rfl (.refl)

theorem execFneg_frame {o : Blk} {s u : State} (h : execFneg o s = .next u) :
    Changes [.sup, .nibA, .nibB, .cyc, .cmp, .fch, .saf, .alm, .pst, .frg, .pnw, .evr, .cvu, .dsp, .boot, .sent] s u := by
  unfold execFneg at h
  obtain rfl := Host.Outcome.next.inj h
  exact .comp (regOnly_changes _ _ _ _) rfl (.refl)

theorem execPlantPathRestored_frame {s u : State} (h : execPlantPathRestored s = .next u) :
    Changes [.pnw] s u := by
  unfold execPlantPathRestored at h
  obtain rfl := Host.Outcome.next.inj h
  exact .comp (onPnw_changes _ _) rfl (.comp (setPnPort_changes _ _ _) rfl (.comp (setPnPort_changes _ _ _) rfl (.refl)))

theorem execObjwr_frame {l : Lane} {d : BitVec 6} {a : BitVec 6} {s u : State} (h : execObjwr l d a s = .next u) :
    Changes [.sup, .tim, .nibA, .nibB, .cyc, .cmp, .lpe, .fch, .saf, .alm, .pst, .frg, .pnw, .evr, .cvu, .dsp, .boot, .sent] s u := by
  unfold execObjwr at h
  obtain rfl := Host.Outcome.next.inj h
  exact .app (sysOp_changes rfl (fun _ => .comp (objwrOp_changes _ _ _) rfl (.refl))) (.refl)

theorem execTrimInputStuck_frame {x : TrimHeld} {s u : State} (h : execTrimInputStuck x s = .next u) :
    Changes [.fch, .evr] s u := by
  unfold execTrimInputStuck at h
  obtain rfl := Host.Outcome.next.inj h
  exact .ite (fun _ => .comp (onFch_changes _ _) rfl (.refl)) (fun _ => .comp (post_changes _ _ _ _) rfl (.comp (onFch_changes _ _) rfl (.refl)))

theorem execAcknowledgeGroup_frame {r : Req} {c : BitVec 12} {s u : State} (h : execAcknowledgeGroup r c s = .next u) :
    Changes [.alm, .pst, .pnw, .sent] s u := by
  unfold execAcknowledgeGroup at h
  obtain rfl := Host.Outcome.next.inj h
  exact .comp (almFromSession_changes _ _ _) rfl (.refl)

theorem execGaugeDisagreement_frame {s u : State} (h : execGaugeDisagreement s = .next u) :
    Changes [.tim, .evr] s u := by
  unfold execGaugeDisagreement at h
  obtain rfl := Host.Outcome.next.inj h
  exact .ite (fun _ => .comp (post_changes _ _ _ _) rfl (.comp (onTim_changes _ _) rfl (.refl))) (fun _ => .refl)

theorem execVinHigh_frame {high : Bool} {v : BitVec 16} {s u : State} (h : execVinHigh high v s = .next u) :
    Changes [.sup] s u := by
  unfold execVinHigh at h
  obtain rfl := Host.Outcome.next.inj h
  exact .ite (fun _ => .refl) (fun _ => .comp (onSup_changes _ _) rfl (.comp (seeVin_changes _ _) rfl (.refl)))

theorem execStx_frame {o : Blk} {s u : State} (h : execStx o s = .next u) :
    Changes [.sup, .nibA, .nibB, .cyc, .cmp, .fch, .saf, .alm, .pst, .frg, .pnw, .evr, .cvu, .dsp, .boot, .sent] s u := by
  unfold execStx at h
  obtain rfl := Host.Outcome.next.inj h
  exact .comp (storeOp_changes _ _ _ _ _) rfl (.refl)

theorem execCommitSend_frame {s u : State} (h : execCommitSend s = .next u) :
    Changes [.frg, .sent] s u := by
  unfold execCommitSend at h
  obtain rfl := Host.Outcome.next.inj h
  exact .ite (fun _ => .comp (sendCommit_changes _) rfl (.refl)) (fun _ => .refl)

theorem execForceReleaseInCell_frame {r : Req} {c : BitVec 12} {s u : State} (h : execForceReleaseInCell r c s = .next u) :
    Changes [.cyc, .pst, .pnw, .sent] s u := by
  unfold execForceReleaseInCell at h
  obtain rfl := Host.Outcome.next.inj h
  exact .app (screenReq_changes rfl (fun _ => .comp (releaseInCell_changes _ _ _) rfl (.refl))) (.refl)

theorem execRemoteInputReceived_frame {p : Fin 2} {f : RingFrame} {s u : State} (h : execRemoteInputReceived p f s = .next u) :
    Changes [.cyc, .frg, .cvu, .sent] s u := by
  unfold execRemoteInputReceived at h
  obtain rfl := Host.Outcome.next.inj h
  exact .comp (inputReceived_changes _ _ _) rfl (.refl)

theorem execCtud_frame {l : Lane} {d : BitVec 6} {a : BitVec 6} {s u : State} (h : execCtud l d a s = .next u) :
    Changes [.sup, .nibA, .nibB, .cyc, .cmp, .fch, .saf, .alm, .pst, .frg, .pnw, .evr, .cvu, .dsp, .boot, .sent] s u := by
  unfold execCtud at h
  obtain rfl := Host.Outcome.next.inj h
  exact .comp (recBlock_changes _ _ _ _ _ _ _ _) rfl (.refl)

theorem execCallNotificationRetry_frame {sess : Word} {s u : State} (h : execCallNotificationRetry sess s = .next u) :
    Changes [.pnw, .evr, .sent] s u := by
  unfold execCallNotificationRetry at h
  obtain rfl := Host.Outcome.next.inj h
  exact (by
   try dsimp only
   split
   · exact .refl
   · exact (by
     try dsimp only
     split
     · exact .refl
     · exact .ite (fun _ => .comp (emitLan_changes _ _) rfl (.comp (setSession_changes _ _ _) rfl (.refl))) (fun _ => .comp (post_changes _ _ _ _) rfl (.comp (onPnw_changes _ _) rfl (.comp (setSession_changes _ _ _) rfl (.refl))))
)
)

theorem execJmp_frame {o : Blk} {s u : State} (h : execJmp o s = .next u) :
    Changes [.sup, .nibA, .nibB, .cyc, .cmp, .fch, .saf, .alm, .pst, .frg, .pnw, .evr, .cvu, .dsp, .boot, .sent] s u := by
  unfold execJmp at h
  obtain rfl := Host.Outcome.next.inj h
  exact .comp (jmpOp_changes _ _) rfl (.refl)

theorem execCallStage2_frame {g : Fin 8} {s u : State} (h : execCallStage2 g s = .next u) :
    Changes [.alm, .pnw, .evr, .dsp, .sent] s u := by
  unfold execCallStage2 at h
  obtain rfl := Host.Outcome.next.inj h
  exact .app (atInstant_changes rfl (fun _ => .ite (fun _ => .comp (callStage_changes _ _ _) rfl (.refl)) (fun _ => .refl))) (.refl)

theorem execStationExportReceived_frame {pos : Fin 4} {x : ExportRx} {complete : Bool} {s u : State} (h : execStationExportReceived pos x complete s = .next u) :
    Changes [.pst, .cvu, .sent] s u := by
  unfold execStationExportReceived at h
  obtain rfl := Host.Outcome.next.inj h
  exact .app (slReceive_changes rfl (fun _ => .comp (takeExports_changes _ _ _ _) rfl (.refl)) (fun _ => .refl)) (.refl)

theorem execOrim_frame {o : Blk} {s u : State} (h : execOrim o s = .next u) :
    Changes [.sup, .nibA, .nibB, .cyc, .cmp, .fch, .saf, .alm, .pst, .frg, .pnw, .evr, .cvu, .dsp, .boot, .sent] s u := by
  unfold execOrim at h
  obtain rfl := Host.Outcome.next.inj h
  exact .comp (regImm_changes _ _ _ _) rfl (.refl)

theorem execChopPowerOn_frame {rom : Word} {a : Bool} {b : Bool} {s u : State} (h : execChopPowerOn rom a b s = .next u) :
    Changes [.chop] s u := by
  unfold execChopPowerOn at h
  obtain rfl := Host.Outcome.next.inj h
  exact .comp (chopPowerOn_changes _ _ _ _) rfl (.refl)

theorem execTrimDnPress_frame {x : TrimPress} {s u : State} (h : execTrimDnPress x s = .next u) :
    Changes [.fch, .evr] s u := by
  unfold execTrimDnPress at h
  obtain rfl := Host.Outcome.next.inj h
  exact .app (.ite (fun _ => .comp (trimMove_changes _) rfl (.refl)) (fun _ => .refl)) (.comp (trimLevels_changes _ _ _ _) rfl (.refl))

theorem execTrimUpPress_frame {x : TrimPress} {s u : State} (h : execTrimUpPress x s = .next u) :
    Changes [.fch, .evr] s u := by
  unfold execTrimUpPress at h
  obtain rfl := Host.Outcome.next.inj h
  exact .app (.ite (fun _ => .comp (trimMove_changes _) rfl (.refl)) (fun _ => .refl)) (.comp (trimLevels_changes _ _ _ _) rfl (.refl))

theorem execFmul_frame {o : Blk} {s u : State} (h : execFmul o s = .next u) :
    Changes [.sup, .nibA, .nibB, .cyc, .cmp, .fch, .saf, .alm, .pst, .frg, .pnw, .evr, .cvu, .dsp, .boot, .sent] s u := by
  unfold execFmul at h
  obtain rfl := Host.Outcome.next.inj h
  exact .comp (regReg_changes _ _ _ _) rfl (.refl)

theorem execStationLinkDown_frame {p : Fin 3} {s u : State} (h : execStationLinkDown p s = .next u) :
    Changes [.pst, .dsp] s u := by
  unfold execStationLinkDown at h
  obtain rfl := Host.Outcome.next.inj h
  exact .app (.app (.ite (fun _ => .comp (notReady_changes _) rfl (.refl)) (fun _ => .refl)) (.comp (onPst_changes _ _) rfl (.refl))) (.comp (setSlPort_changes _ _ _) rfl (.refl))

theorem execModbusConnectionOpen_frame {conn : ℕ} {s u : State} (h : execModbusConnectionOpen conn s = .next u) :
    Changes [.pnw] s u := by
  unfold execModbusConnectionOpen at h
  obtain rfl := Host.Outcome.next.inj h
  exact .ite (fun _ => .comp (onPnw_changes _ _) rfl (.refl)) (fun _ => .refl)

theorem execQuillStreamLost_frame {g : Fin 6} {s u : State} (h : execQuillStreamLost g s = .next u) :
    Changes [.fch, .saf, .evr] s u := by
  unfold execQuillStreamLost at h
  obtain rfl := Host.Outcome.next.inj h
  exact .comp (quillStreamLost_changes _ _) rfl (.refl)

theorem execWarmRestart_frame {r : Req} {s u : State} (h : execWarmRestart r s = .next u) :
    Changes [.sup, .pnw, .sent] s u := by
  unfold execWarmRestart at h
  obtain rfl := Host.Outcome.next.inj h
  exact .app (screenReq_changes rfl (fun _ => .app (acceptIf_changes rfl (fun _ => .comp (reply_changes _ _ _ _) rfl (.comp (onSup_changes _ _) rfl (.refl)))) (.refl))) (.refl)

theorem execResetInputStuck_frame {s u : State} (h : execResetInputStuck s = .next u) :
    Changes [.sup, .free] s u := by
  unfold execResetInputStuck at h
  obtain rfl := Host.Outcome.next.inj h
  exact .comp (pinStuck_changes _) rfl (.refl)

theorem execCvuConfigWrite_frame {p : Path} {c : Fin 8} {v : Word} {s u : State} (h : execCvuConfigWrite p c v s = .next u) :
    Changes [.nibA, .nibB, .cyc, .pnw, .cvu, .sent] s u := by
  unfold execCvuConfigWrite at h
  obtain rfl := Host.Outcome.next.inj h
  exact .comp (ctxCommand_changes _ _ _ _ _) rfl (.refl)

theorem execReadChangedConstants_frame {r : Req} {s u : State} (h : execReadChangedConstants r s = .next u) :
    Changes [.pnw, .sent] s u := by
  unfold execReadChangedConstants at h
  obtain rfl := Host.Outcome.next.inj h
  exact .app (screenReq_changes rfl (fun _ => .comp (reply_changes _ _ _ _) rfl (.refl))) (.refl)

theorem execDeadManReset_frame {r : Req} {s u : State} (h : execDeadManReset r s = .next u) :
    Changes [.alm, .pst, .pnw, .sent] s u := by
  unfold execDeadManReset at h
  obtain rfl := Host.Outcome.next.inj h
  exact .comp (almFromSession_changes _ _ _) rfl (.refl)

theorem execDeltaApply_frame {s u : State} (h : execDeltaApply s = .next u) :
    Changes [.nibA, .nibB, .cyc, .cmp, .lpe, .fch, .saf, .alm, .pst, .frg, .evr, .dsp, .sent] s u := by
  unfold execDeltaApply at h
  obtain rfl := Host.Outcome.next.inj h
  exact .comp (deltaApply_changes _) rfl (.refl)

theorem execGradeChange_frame {m : Fin 4} {ua : ℤ} {s u : State} (h : execGradeChange m ua s = .next u) :
    Changes [.chop] s u := by
  unfold execGradeChange at h
  obtain rfl := Host.Outcome.next.inj h
  exact .comp (gradeChange_changes _ _ _) rfl (.refl)

theorem execBr_frame {o : Blk} {s u : State} (h : execBr o s = .next u) :
    Changes [.sup, .nibA, .nibB, .cyc, .cmp, .fch, .saf, .alm, .pst, .frg, .pnw, .evr, .cvu, .dsp, .boot, .sent] s u := by
  unfold execBr at h
  obtain rfl := Host.Outcome.next.inj h
  exact .comp (branch_changes _ _ _ _ _) rfl (.refl)

theorem execLeaveCommissioning_frame {r : Req} {s u : State} (h : execLeaveCommissioning r s = .next u) :
    Changes [.sup, .fch, .pst, .frg, .pnw, .evr, .sent] s u := by
  unfold execLeaveCommissioning at h
  obtain rfl := Host.Outcome.next.inj h
  exact .app (screenReq_changes rfl (fun _ => .app (acceptIf_changes rfl (fun _ => .comp (reply_changes _ _ _ _) rfl (.comp (leaveCommissioning_changes _) rfl (.refl)))) (.refl))) (.refl)

theorem execFrequencyGate_frame {ch : Fin 96} {periods : ℕ} {ticks : ℕ} {s u : State} (h : execFrequencyGate ch periods ticks s = .next u) :
    Changes [.fch, .evr] s u := by
  unfold execFrequencyGate at h
  obtain rfl := Host.Outcome.next.inj h
  exact .comp (freqGate_changes _ _ _ _) rfl (.refl)

theorem execLdx_frame {o : Blk} {s u : State} (h : execLdx o s = .next u) :
    Changes [.sup, .nibA, .nibB, .cyc, .cmp, .fch, .saf, .alm, .pst, .frg, .pnw, .evr, .cvu, .dsp, .boot, .sent] s u := by
  unfold execLdx at h
  obtain rfl := Host.Outcome.next.inj h
  exact .comp (loadOp_changes _ _ _ _ _) rfl (.refl)

theorem execSilence_frame {r : Req} {s u : State} (h : execSilence r s = .next u) :
    Changes [.alm, .pst, .pnw, .sent] s u := by
  unfold execSilence at h
  obtain rfl := Host.Outcome.next.inj h
  exact .comp (almFromSession_changes _ _ _) rfl (.refl)

theorem execTp_frame {l : Lane} {d : BitVec 6} {a : BitVec 6} {s u : State} (h : execTp l d a s = .next u) :
    Changes [.sup, .nibA, .nibB, .cyc, .cmp, .fch, .saf, .alm, .pst, .frg, .pnw, .evr, .cvu, .dsp, .boot, .sent] s u := by
  unfold execTp at h
  obtain rfl := Host.Outcome.next.inj h
  exact .comp (timerBlock_changes _ _ _ _ _ _) rfl (.refl)

theorem execBlockReleaseDelayEnd_frame {p : BitVec 12} {s u : State} (h : execBlockReleaseDelayEnd p s = .next u) :
    Changes [.alm, .pnw, .evr, .dsp, .sent] s u := by
  unfold execBlockReleaseDelayEnd at h
  obtain rfl := Host.Outcome.next.inj h
  exact .app (pointEvent_changes rfl (fun _ => .comp (pointTo_changes _ _ _) rfl (.comp (setPnt_changes _ _ _) rfl (.refl)))) (.refl)

theorem execChopExportSend_frame {s u : State} (h : execChopExportSend s = .next u) :
    Changes [.chop, .sent] s u := by
  unfold execChopExportSend at h
  obtain rfl := Host.Outcome.next.inj h
  exact .ite (fun _ => .comp (emit_changes _ _) rfl (.comp (onChop_changes _ _) rfl (.refl))) (fun _ => .refl)

theorem execBrakeFeedbackTimeout_frame {n : Fin 16} {s u : State} (h : execBrakeFeedbackTimeout n s = .next u) :
    Changes [.fch, .saf, .evr] s u := by
  unfold execBrakeFeedbackTimeout at h
  obtain rfl := Host.Outcome.next.inj h
  exact .comp (brakeFeedback_changes _ _) rfl (.refl)

theorem execCvuByteFeed_frame {p : Path} {c : Fin 8} {v : Word} {s u : State} (h : execCvuByteFeed p c v s = .next u) :
    Changes [.nibA, .nibB, .cyc, .pnw, .cvu, .sent] s u := by
  unfold execCvuByteFeed at h
  obtain rfl := Host.Outcome.next.inj h
  exact .comp (ctxCommand_changes _ _ _ _ _) rfl (.refl)

theorem execAnd_frame {o : Blk} {s u : State} (h : execAnd o s = .next u) :
    Changes [.sup, .nibA, .nibB, .cyc, .cmp, .fch, .saf, .alm, .pst, .frg, .pnw, .evr, .cvu, .dsp, .boot, .sent] s u := by
  unfold execAnd at h
  obtain rfl := Host.Outcome.next.inj h
  exact .comp (regReg_changes _ _ _ _) rfl (.refl)

theorem execLui_frame {o : Blk} {s u : State} (h : execLui o s = .next u) :
    Changes [.sup, .nibA, .nibB, .cyc, .cmp, .fch, .saf, .alm, .pst, .frg, .pnw, .evr, .cvu, .dsp, .boot, .sent] s u := by
  unfold execLui at h
  obtain rfl := Host.Outcome.next.inj h
  exact .comp (writesD_changes _ _ _ _ _) rfl (.refl)

theorem execResync_frame {r : Req} {s u : State} (h : execResync r s = .next u) :
    Changes [.pst, .pnw, .dsp, .sent] s u := by
  unfold execResync at h
  obtain rfl := Host.Outcome.next.inj h
  exact .comp (pairCommand_changes _ _ _) rfl (.refl)

theorem execReleaseReceived_frame {x : SlRx Byte} {s u : State} (h : execReleaseReceived x s = .next u) :
    Changes [.pst, .cvu, .sent] s u := by
  unfold execReleaseReceived at h
  obtain rfl := Host.Outcome.next.inj h
  exact .app (slReceive_changes rfl (fun _ => .ite (fun _ => .comp (hearMeans_changes _) rfl (.comp (onPst_changes _ _) rfl (.refl))) (fun _ => .refl)) (fun _ => .refl)) (.refl)

theorem execDeadManPrewarningEnd_frame {s u : State} (h : execDeadManPrewarningEnd s = .next u) :
    Changes [.alm, .pnw, .evr, .dsp, .sent] s u := by
  unfold execDeadManPrewarningEnd at h
  obtain rfl := Host.Outcome.next.inj h
  exact .app (deadTimeEnd_changes rfl (fun _ => .comp (deadAlarm_changes _) rfl (.refl))) (.refl)

theorem execCvuStart_frame {p : Path} {c : Fin 8} {s u : State} (h : execCvuStart p c s = .next u) :
    Changes [.nibA, .nibB, .cyc, .pnw, .cvu, .sent] s u := by
  unfold execCvuStart at h
  obtain rfl := Host.Outcome.next.inj h
  exact .comp (ctxCommand_changes _ _ _ _ _) rfl (.refl)

theorem execRailRetry_frame {s u : State} (h : execRailRetry s = .next u) :
    Changes [.dsp] s u := by
  unfold execRailRetry at h
  obtain rfl := Host.Outcome.next.inj h
  exact .ite (fun _ => .comp (railsUp_changes _) rfl (.comp (panelReissue_changes _) rfl (.comp (setDsp_changes _ _) rfl (.refl)))) (fun _ => .refl)

theorem execTestPulseCheck_frame {n : Fin 16} {p : PulseSamples} {s u : State} (h : execTestPulseCheck n p s = .next u) :
    Changes [.fch, .saf, .evr] s u := by
  unfold execTestPulseCheck at h
  obtain rfl := Host.Outcome.next.inj h
  exact .comp (testPulseCheck_changes _ _ _) rfl (.refl)

theorem execChopSupplyFall_frame {s u : State} (h : execChopSupplyFall s = .next u) :
    Changes [.chop, .free] s u := by
  unfold execChopSupplyFall at h
  obtain rfl := Host.Outcome.next.inj h
  exact .ite (fun _ => .app (.comp (onChop_changes _ _) rfl (.comp (applyClose_changes _) rfl (.refl))) (.ite (fun _ => .each (fun _ _ => .comp (portStep_changes _ _ _) rfl (.refl)) (.refl)) (fun _ => .refl))) (fun _ => .refl)

theorem execLeaveMaintenance_frame {r : Req} {g : Fin 6} {s u : State} (h : execLeaveMaintenance r g s = .next u) :
    Changes [.cyc, .fch, .pst, .pnw, .sent] s u := by
  unfold execLeaveMaintenance at h
  obtain rfl := Host.Outcome.next.inj h
  exact .comp (maintCommand_changes _ _ _ _) rfl (.refl)

theorem execVinWarning_frame {v : BitVec 16} {s u : State} (h : execVinWarning v s = .next u) :
    Changes [.sup, .evr, .dsp] s u := by
  unfold execVinWarning at h
  obtain rfl := Host.Outcome.next.inj h
  exact .comp (vinWarning_changes _ _) rfl (.refl)

theorem execStage_frame {r : Req} {param : BitVec 16} {index : Byte} {value : List Byte} {s u : State} (h : execStage r param index value s = .next u) :
    Changes [.chop, .sent] s u := by
  unfold execStage at h
  obtain rfl := Host.Outcome.next.inj h
  exact .comp (stageRequest_changes _ _ _) rfl (.refl)

theorem execTwoHandSyncMiss_frame {n : Fin 16} {s u : State} (h : execTwoHandSyncMiss n s = .next u) :
    Changes [.fch, .saf, .evr] s u := by
  unfold execTwoHandSyncMiss at h
  obtain rfl := Host.Outcome.next.inj h
  exact .app (slotEvent_changes rfl (fun _ => .comp (setSlot_changes _ _ _) rfl (.refl))) (.refl)

theorem execThermocoupleBreakTest_frame {ch : Fin 96} {uv : ℤ} {s u : State} (h : execThermocoupleBreakTest ch uv s = .next u) :
    Changes [.fch, .evr] s u := by
  unfold execThermocoupleBreakTest at h
  obtain rfl := Host.Outcome.next.inj h
  exact .ite (fun _ => .comp (requal_changes _ _) rfl (.comp (setChan_changes _ _ _) rfl (.refl))) (fun _ => .refl)

theorem execAcknowledgePoint_frame {r : Req} {p : BitVec 12} {s u : State} (h : execAcknowledgePoint r p s = .next u) :
    Changes [.alm, .pst, .pnw, .sent] s u := by
  unfold execAcknowledgePoint at h
  obtain rfl := Host.Outcome.next.inj h
  exact .comp (almFromSession_changes _ _ _) rfl (.refl)

theorem execAcknowledgeAll_frame {r : Req} {s u : State} (h : execAcknowledgeAll r s = .next u) :
    Changes [.alm, .pst, .pnw, .sent] s u := by
  unfold execAcknowledgeAll at h
  obtain rfl := Host.Outcome.next.inj h
  exact .comp (almFromSession_changes _ _ _) rfl (.refl)

theorem execShortToSupplyDetect_frame {ch : Fin 96} {v : ℤ} {s u : State} (h : execShortToSupplyDetect ch v s = .next u) :
    Changes [.fch, .saf, .evr] s u := by
  unfold execShortToSupplyDetect at h
  obtain rfl := Host.Outcome.next.inj h
  exact .comp (shortToSupply_changes _ _ _) rfl (.refl)

theorem execRetentionDomainLost_frame {s u : State} (h : execRetentionDomainLost s = .next u) :
    Changes [.sup] s u := by
  unfold execRetentionDomainLost at h
  obtain rfl := Host.Outcome.next.inj h
  exact .ite (fun _ => .comp (onSup_changes _ _) rfl (.refl)) (fun _ => .refl)

theorem execShli_frame {o : Blk} {s u : State} (h : execShli o s = .next u) :
    Changes [.sup, .nibA, .nibB, .cyc, .cmp, .fch, .saf, .alm, .pst, .frg, .pnw, .evr, .cvu, .dsp, .boot, .sent] s u := by
  unfold execShli at h
  obtain rfl := Host.Outcome.next.inj h
  exact .comp (shiftImm_changes _ _ _ _) rfl (.refl)

theorem execRoleWaitEnd_frame {s u : State} (h : execRoleWaitEnd s = .next u) :
    Changes [.sup, .pst] s u := by
  unfold execRoleWaitEnd at h
  obtain rfl := Host.Outcome.next.inj h
  exact .ite (fun _ => .comp (onSup_changes _ _) rfl (.comp (onPst_changes _ _) rfl (.refl))) (fun _ => .refl)

theorem execLinkReqReceived_frame {p : Fin 2} {f : RingFrame} {s u : State} (h : execLinkReqReceived p f s = .next u) :
    Changes [.frg, .cvu, .sent] s u := by
  unfold execLinkReqReceived at h
  obtain rfl := Host.Outcome.next.inj h
  exact .comp (linkReq_changes _ _ _) rfl (.refl)

theorem execClearRetainVariables_frame {r : Req} {s u : State} (h : execClearRetainVariables r s = .next u) :
    Changes [.cyc, .pst, .pnw, .sent] s u := by
  unfold execClearRetainVariables at h
  obtain rfl := Host.Outcome.next.inj h
  exact .app (screenReq_changes rfl (fun _ => .app (acceptIf_changes rfl (fun _ => .app (acceptBoth_changes rfl (fun _ => .comp (schedule_changes _ _) rfl (.refl))) (.refl))) (.refl))) (.refl)

theorem execChange_frame {r : Req} {b : List OlcEntry} {s u : State} (h : execChange r b s = .next u) :
    Changes [.cyc, .pst, .pnw, .sent] s u := by
  unfold execChange at h
  obtain rfl := Host.Outcome.next.inj h
  exact .app (screenReq_changes rfl (fun _ => .comp (changeRequest_changes _ _ _) rfl (.refl))) (.refl)

theorem execCall_frame {o : Blk} {s u : State} (h : execCall o s = .next u) :
    Changes [.sup, .nibA, .nibB, .cyc, .cmp, .fch, .saf, .alm, .pst, .frg, .pnw, .evr, .cvu, .dsp, .boot, .sent] s u := by
  unfold execCall at h
  obtain rfl := Host.Outcome.next.inj h
  exact .comp (callOp_changes _ _) rfl (.refl)

theorem execCellout_frame {o : Blk} {s u : State} (h : execCellout o s = .next u) :
    Changes [.sup, .nibA, .nibB, .cyc, .cmp, .fch, .saf, .alm, .pst, .frg, .pnw, .evr, .cvu, .dsp, .boot, .sent] s u := by
  unfold execCellout at h
  obtain rfl := Host.Outcome.next.inj h
  exact .comp (cellOut_changes _ _) rfl (.refl)

theorem execRoleTransfer_frame {s u : State} (h : execRoleTransfer s = .next u) :
    Changes [.sup, .nibA, .nibB, .cyc, .cmp, .lpe, .fch, .saf, .alm, .pst, .frg, .evr, .dsp, .sent] s u := by
  unfold execRoleTransfer at h
  obtain rfl := Host.Outcome.next.inj h
  exact .comp (roleTransfer_changes _) rfl (.refl)

theorem execFadd_frame {o : Blk} {s u : State} (h : execFadd o s = .next u) :
    Changes [.sup, .nibA, .nibB, .cyc, .cmp, .fch, .saf, .alm, .pst, .frg, .pnw, .evr, .cvu, .dsp, .boot, .sent] s u := by
  unfold execFadd at h
  obtain rfl := Host.Outcome.next.inj h
  exact .comp (regReg_changes _ _ _ _) rfl (.refl)

theorem execHsrSupervisionSend_frame {s u : State} (h : execHsrSupervisionSend s = .next u) :
    Changes [.frg, .sent] s u := by
  unfold execHsrSupervisionSend at h
  obtain rfl := Host.Outcome.next.inj h
  exact .ite (fun _ => .comp (ringBoth_changes _ _ _ _) rfl (.refl)) (fun _ => .refl)

theorem execDeadManOn_frame {r : Req} {e : Fin 8} {s u : State} (h : execDeadManOn r e s = .next u) :
    Changes [.alm, .pst, .pnw, .sent] s u := by
  unfold execDeadManOn at h
  obtain rfl := Host.Outcome.next.inj h
  exact .comp (almFromSession_changes _ _ _) rfl (.refl)

theorem execVerifierSwitchOpen_frame {s u : State} (h : execVerifierSwitchOpen s = .next u) :
    Changes [.chop] s u := by
  unfold execVerifierSwitchOpen at h
  obtain rfl := Host.Outcome.next.inj h
  exact .ite (fun _ => .comp (onChop_changes _ _) rfl (.refl)) (fun _ => .refl)

theorem execMulh_frame {o : Blk} {s u : State} (h : execMulh o s = .next u) :
    Changes [.sup, .nibA, .nibB, .cyc, .cmp, .fch, .saf, .alm, .pst, .frg, .pnw, .evr, .cvu, .dsp, .boot, .sent] s u := by
  unfold execMulh at h
  obtain rfl := Host.Outcome.next.inj h
  exact .comp (regReg_changes _ _ _ _) rfl (.refl)

theorem execSubscribe_frame {r : Req} {mask : BitVec 8} {s u : State} (h : execSubscribe r mask s = .next u) :
    Changes [.pnw, .sent] s u := by
  unfold execSubscribe at h
  obtain rfl := Host.Outcome.next.inj h
  exact .app (screenReq_changes rfl (fun _ => .comp (reply_changes _ _ _ _) rfl (.comp (setSession_changes _ _ _) rfl (.refl)))) (.refl)

theorem execVinRestart_frame {s u : State} (h : execVinRestart s = .next u) :
    Changes [.sup, .free] s u := by
  unfold execVinRestart at h
  obtain rfl := Host.Outcome.next.inj h
  exact .comp (vinRestart_changes _) rfl (.refl)

theorem execSpeedGaugeUpdate_frame {a : BitVec 10} {b : BitVec 10} {s u : State} (h : execSpeedGaugeUpdate a b s = .next u) :
    Changes [.tim] s u := by
  unfold execSpeedGaugeUpdate at h
  obtain rfl := Host.Outcome.next.inj h
  exact .comp (gaugeUpdate_changes _ _ _) rfl (.refl)

theorem execBrakeTorqueTimeout_frame {n : Fin 16} {s u : State} (h : execBrakeTorqueTimeout n s = .next u) :
    Changes [.fch, .saf, .evr] s u := by
  unfold execBrakeTorqueTimeout at h
  obtain rfl := Host.Outcome.next.inj h
  exact .app (slotEvent_changes rfl (fun _ => .comp (brakeTestDone_changes _ _ _) rfl (.refl))) (.refl)

theorem execFlushAgeTimeout_frame {s u : State} (h : execFlushAgeTimeout s = .next u) :
    Changes [.evr] s u := by
  unfold execFlushAgeTimeout at h
  obtain rfl := Host.Outcome.next.inj h
  exact .ite (fun _ => .refl) (fun _ => .comp (startFlush_changes _) rfl (.refl))

theorem execInterlockStuckEnd_frame {s u : State} (h : execInterlockStuckEnd s = .next u) :
    Changes [.fch, .pst, .evr] s u := by
  unfold execInterlockStuckEnd at h
  obtain rfl := Host.Outcome.next.inj h
  exact .ite (fun _ => .comp (applyOutputs_changes _) rfl (.comp (onPst_changes _ _) rfl (.refl))) (fun _ => .refl)

theorem execAllowTakeBack_frame {r : Req} {s u : State} (h : execAllowTakeBack r s = .next u) :
    Changes [.pst, .pnw, .dsp, .sent] s u := by
  unfold execAllowTakeBack at h
  obtain rfl := Host.Outcome.next.inj h
  exact .comp (pairCommand_changes _ _ _) rfl (.refl)

theorem execIdentify_frame {m : Unsess} {s u : State} (h : execIdentify m s = .next u) :
    Changes [.pnw, .sent] s u := by
  unfold execIdentify at h
  obtain rfl := Host.Outcome.next.inj h
  exact .app (openReq_changes rfl (fun _ => .comp (replyOpen_changes _ _ _ _) rfl (.refl))) (.refl)

theorem execResetInputHeldLong_frame {ch : Fin 96} {s u : State} (h : execResetInputHeldLong ch s = .next u) :
    Changes [.saf] s u := by
  unfold execResetInputHeldLong at h
  obtain rfl := Host.Outcome.next.inj h
  exact .each (fun _ _ => .comp (setSlot_changes _ _ _) rfl (.refl)) (.refl)

theorem execCellmode_frame {l : Lane} {d : BitVec 6} {a : BitVec 6} {s u : State} (h : execCellmode l d a s = .next u) :
    Changes [.sup, .nibA, .nibB, .cyc, .cmp, .fch, .saf, .alm, .pst, .frg, .pnw, .evr, .cvu, .dsp, .boot, .sent] s u := by
  unfold execCellmode at h
  obtain rfl := Host.Outcome.next.inj h
  exact .app (sysOp_changes rfl (fun _ => .comp (cellmodeOp_changes _ _ _) rfl (.refl))) (.refl)

theorem execPartnerConfirmTimeout_frame {s u : State} (h : execPartnerConfirmTimeout s = .next u) :
    Changes [.cyc, .cmp, .fch, .alm, .pst, .pnw, .sent] s u := by
  unfold execPartnerConfirmTimeout at h
  obtain rfl := Host.Outcome.next.inj h
  exact .comp (confirmTimeout_changes _) rfl (.refl)

theorem execResetPinAssert_frame {s u : State} (h : execResetPinAssert s = .next u) :
    Changes [.sup, .nibA, .nibB, .cyc, .cmp, .fch, .saf, .alm, .pst, .pnw, .evr, .cvu, .dsp, .boot, .sent] s u := by
  unfold execResetPinAssert at h
  obtain rfl := Host.Outcome.next.inj h
  exact .comp (pinLow_changes _) rfl (.refl)

theorem execDebounceAccept_frame {ch : Fin 96} {x : Debounce} {s u : State} (h : execDebounceAccept ch x s = .next u) :
    Changes [.fch, .evr] s u := by
  unfold execDebounceAccept at h
  obtain rfl := Host.Outcome.next.inj h
  exact .ite (fun _ => .comp (inputState_changes _ _ _ _) rfl (.refl)) (fun _ => .refl)

theorem execSwitchOffTest_frame {p : Fin 24} {side : Side} {v : ℤ} {s u : State} (h : execSwitchOffTest p side v s = .next u) :
    Changes [.fch, .saf, .evr] s u := by
  unfold execSwitchOffTest at h
  obtain rfl := Host.Outcome.next.inj h
  exact .comp (switchOffTest_changes _ _ _ _) rfl (.refl)

theorem execObjrd_frame {l : Lane} {d : BitVec 6} {a : BitVec 6} {s u : State} (h : execObjrd l d a s = .next u) :
    Changes [.sup, .tim, .nibA, .nibB, .cyc, .cmp, .lpe, .fch, .saf, .alm, .pst, .frg, .pnw, .evr, .cvu, .dsp, .boot, .sent, .free] s u := by
  unfold execObjrd at h
  obtain rfl := Host.Outcome.next.inj h
  exact .app (sysOp_changes rfl (fun _ => .comp (objrdOp_changes _ _ _) rfl (.refl))) (.refl)

theorem execVerifierOpen_frame {m : Verif} {s u : State} (h : execVerifierOpen m s = .next u) :
    Changes [.chop, .sent, .free] s u := by
  unfold execVerifierOpen at h
  obtain rfl := Host.Outcome.next.inj h
  exact .comp (verifierOpen_changes _ _) rfl (.refl)

theorem execSari_frame {o : Blk} {s u : State} (h : execSari o s = .next u) :
    Changes [.sup, .nibA, .nibB, .cyc, .cmp, .fch, .saf, .alm, .pst, .frg, .pnw, .evr, .cvu, .dsp, .boot, .sent] s u := by
  unfold execSari at h
  obtain rfl := Host.Outcome.next.inj h
  exact .comp (shiftImm_changes _ _ _ _) rfl (.refl)

theorem execBrkageTick_frame {s u : State} (h : execBrkageTick s = .next u) :
    Changes [.saf, .evr] s u := by
  unfold execBrkageTick at h
  obtain rfl := Host.Outcome.next.inj h
  exact .each (fun _ _ => .comp (ageSlot_changes _ _) rfl (.refl)) (.refl)

theorem execAcceptCall_frame {r : Req} {g : Fin 8} {e : Fin 8} {s u : State} (h : execAcceptCall r g e s = .next u) :
    Changes [.alm, .pst, .pnw, .sent] s u := by
  unfold execAcceptCall at h
  obtain rfl := Host.Outcome.next.inj h
  exact .comp (almFromSession_changes _ _ _) rfl (.refl)

theorem execDataDigestComplete_frame {s u : State} (h : execDataDigestComplete s = .next u) :
    Changes [.sup, .nibA, .nibB, .cyc, .cmp, .fch, .saf, .alm, .pst, .frg, .pnw, .evr, .cvu, .dsp, .boot, .sent] s u := by
  unfold execDataDigestComplete at h
  obtain rfl := Host.Outcome.next.inj h
  exact .comp (digestComplete_changes _) rfl (.refl)

theorem execRingPortDown_frame {d : RingDown} {s u : State} (h : execRingPortDown d s = .next u) :
    Changes [.frg] s u := by
  unfold execRingPortDown at h
  obtain rfl := Host.Outcome.next.inj h
  exact .ite (fun _ => .comp (portDown_changes _ _) rfl (.refl)) (fun _ => .refl)

theorem execReadParameters_frame {r : Req} {s u : State} (h : execReadParameters r s = .next u) :
    Changes [.chop, .sent] s u := by
  unfold execReadParameters at h
  obtain rfl := Host.Outcome.next.inj h
  exact .app (verifierRequest_changes rfl (fun _ => .comp (verifierReply_changes _ _ _ _) rfl (.refl))) (.refl)

theorem execModbusReadInput_frame {h : MbHdr} {start : BitVec 16} {qty : BitVec 16} {s u : State} (h : execModbusReadInput h start qty s = .next u) :
    Changes [.sup, .tim, .cyc, .cmp, .lpe, .fch, .alm, .pst, .frg, .pnw, .evr, .dsp, .sent, .free] s u := by
  unfold execModbusReadInput at h
  obtain rfl := Host.Outcome.next.inj h
  exact .comp (mbReadReq_changes _ _ _ _ _ _) rfl (.refl)

theorem execChopRectangleRenew_frame {s u : State} (h : execChopRectangleRenew s = .next u) :
    Changes [.dsp] s u := by
  unfold execChopRectangleRenew at h
  obtain rfl := Host.Outcome.next.inj h
  exact .comp (chopDraw_changes _) rfl (.refl)

theorem execImageWriteAbort_frame {r : Req} {h : Fin 2} {s u : State} (h : execImageWriteAbort r h s = .next u) :
    Changes [.pnw, .boot, .sent] s u := by
  unfold execImageWriteAbort at h
  obtain rfl := Host.Outcome.next.inj h
  exact .app (imageWrite_changes rfl (fun _ => .comp (writeAbort_changes _ _ _) rfl (.refl))) (.refl)

theorem execNop_frame {l : Lane} {w : Word} {s u : State} (h : execNop l w s = .next u) :
    Changes [.sup, .nibA, .nibB, .cyc, .cmp, .fch, .saf, .alm, .pst, .frg, .pnw, .evr, .cvu, .dsp, .boot, .sent] s u := by
  unfold execNop at h
  obtain rfl := Host.Outcome.next.inj h
  exact .comp (nopWord_changes _ _ _) rfl (.refl)

theorem execBrownoutCeilingHoldEnd_frame {s u : State} (h : execBrownoutCeilingHoldEnd s = .next u) :
    Changes [.tim] s u := by
  unfold execBrownoutCeilingHoldEnd at h
  obtain rfl := Host.Outcome.next.inj h
  exact .comp (newCeiling_changes _ _) rfl (.refl)

theorem execReadTrail_frame {r : Req} {first : Word} {count : BitVec 16} {s u : State} (h : execReadTrail r first count s = .next u) :
    Changes [.chop, .sent] s u := by
  unfold execReadTrail at h
  obtain rfl := Host.Outcome.next.inj h
  exact .app (verifierRequest_changes rfl (fun _ => .ite (fun _ => .comp (verifierReply_changes _ _ _ _) rfl (.refl)) (fun _ => .comp (verifierReply_changes _ _ _ _) rfl (.refl)))) (.refl)

theorem execPwmPeriodStart_frame {ch : Fin 96} {x : PwmPeriod} {s u : State} (h : execPwmPeriodStart ch x s = .next u) :
    Changes [.fch, .evr] s u := by
  unfold execPwmPeriodStart at h
  obtain rfl := Host.Outcome.next.inj h
  exact .comp (pwmStart_changes _ _ _ _) rfl (.refl)

theorem execXor_frame {o : Blk} {s u : State} (h : execXor o s = .next u) :
    Changes [.sup, .nibA, .nibB, .cyc, .cmp, .fch, .saf, .alm, .pst, .frg, .pnw, .evr, .cvu, .dsp, .boot, .sent] s u := by
  unfold execXor at h
  obtain rfl := Host.Outcome.next.inj h
  exact .comp (regReg_changes _ _ _ _) rfl (.refl)

theorem execOri_frame {o : Blk} {s u : State} (h : execOri o s = .next u) :
    Changes [.sup, .nibA, .nibB, .cyc, .cmp, .fch, .saf, .alm, .pst, .frg, .pnw, .evr, .cvu, .dsp, .boot, .sent] s u := by
  unfold execOri at h
  obtain rfl := Host.Outcome.next.inj h
  exact .comp (regImm_changes _ _ _ _) rfl (.refl)

theorem execFieldRingSilence_frame {s u : State} (h : execFieldRingSilence s = .next u) :
    Changes [.fch, .saf, .alm, .pst, .evr, .dsp, .sent] s u := by
  unfold execFieldRingSilence at h
  obtain rfl := Host.Outcome.next.inj h
  exact .ite (fun _ => .comp (releaseRole_changes _ _) rfl (.refl)) (fun _ => .refl)

theorem execPanelTemperatureMeasure_frame {n : Ntc} {s u : State} (h : execPanelTemperatureMeasure n s = .next u) :
    Changes [.dsp] s u := by
  unfold execPanelTemperatureMeasure at h
  obtain rfl := Host.Outcome.next.inj h
  exact .comp (setDsp_changes _ _) rfl (.refl)

theorem execSensorSupplyTrip_frame {ch : Fin 96} {s u : State} (h : execSensorSupplyTrip ch s = .next u) :
    Changes [.fch, .evr] s u := by
  unfold execSensorSupplyTrip at h
  obtain rfl := Host.Outcome.next.inj h
  exact .ite (fun _ => .comp (requal_changes _ _) rfl (.comp (setChan_changes _ _ _) rfl (.refl))) (fun _ => .refl)

theorem execLd_frame {o : Blk} {s u : State} (h : execLd o s = .next u) :
    Changes [.sup, .nibA, .nibB, .cyc, .cmp, .fch, .saf, .alm, .pst, .frg, .pnw, .evr, .cvu, .dsp, .boot, .sent] s u := by
  unfold execLd at h
  obtain rfl := Host.Outcome.next.inj h
  exact .comp (loadOp_changes _ _ _ _ _) rfl (.refl)

theorem execDspFlWrite_frame {p : Path} {v : Word} {s u : State} (h : execDspFlWrite p v s = .next u) :
    Changes [.nibA, .nibB, .cyc, .pnw, .dsp, .sent] s u := by
  unfold execDspFlWrite at h
  obtain rfl := Host.Outcome.next.inj h
  exact .app (byPath_changes rfl (fun _ => .comp (flWrite_changes _ _) rfl (.refl))) (.refl)

theorem execBistInjectionTest_frame {t : SelfTest} {s u : State} (h : execBistInjectionTest t s = .next u) :
    Changes [.sup, .nibA, .nibB, .cyc, .cmp, .fch, .saf, .alm, .pst, .frg, .pnw, .evr, .cvu, .dsp, .boot, .sent] s u := by
  unfold execBistInjectionTest at h
  obtain rfl := Host.Outcome.next.inj h
  exact .ite (fun _ => .app (.ite (fun _ => .refl) (fun _ => .comp (selfDiag_changes _ _) rfl (.refl))) (.comp (recordTest_changes _ _) rfl (.refl))) (fun _ => .refl)

theorem execBrownoutEpisodeEnd_frame {lowest : BitVec 16} {us : Word} {s u : State} (h : execBrownoutEpisodeEnd lowest us s = .next u) :
    Changes [.sup, .tim, .evr, .dsp, .free] s u := by
  unfold execBrownoutEpisodeEnd at h
  obtain rfl := Host.Outcome.next.inj h
  exact .comp (episodeEnd_changes _ _ _) rfl (.refl)

theorem execTraceArm_frame {r : Req} {j : Fin 16} {s u : State} (h : execTraceArm r j s = .next u) :
    Changes [.lpe, .pnw, .sent] s u := by
  unfold execTraceArm at h
  obtain rfl := Host.Outcome.next.inj h
  exact .app (sessionWrites_changes rfl (fun _ _ => (.comp (lpeWrite_changes _ _ _ _) rfl (.refl)))) (.refl)

theorem execMeterPulseEdge_frame {m : Fin 4} {chan : MeterChan} {rising : Bool} {s u : State} (h : execMeterPulseEdge m chan rising s = .next u) :
    Changes [.chop] s u := by
  unfold execMeterPulseEdge at h
  obtain rfl := Host.Outcome.next.inj h
  exact .ite (fun _ => .comp (setMeter_changes _ _ _) rfl (.refl)) (fun _ => .refl)

theorem execSpeakerElection_frame {s u : State} (h : execSpeakerElection s = .next u) :
    Changes [.pst, .pnw, .evr, .cvu, .boot, .sent] s u := by
  unfold execSpeakerElection at h
  obtain rfl := Host.Outcome.next.inj h
  exact .comp (speakerElection_changes _) rfl (.refl)

theorem execFsqrt_frame {o : Blk} {s u : State} (h : execFsqrt o s = .next u) :
    Changes [.sup, .nibA, .nibB, .cyc, .cmp, .fch, .saf, .alm, .pst, .frg, .pnw, .evr, .cvu, .dsp, .boot, .sent] s u := by
  unfold execFsqrt at h
  obtain rfl := Host.Outcome.next.inj h
  exact .comp (regOnly_changes _ _ _ _) rfl (.refl)

theorem execEvrOldest_frame {p : Path} {s u : State} (h : execEvrOldest p s = .next u) :
    Changes [.nibA, .nibB, .cyc, .pnw, .evr, .sent] s u := by
  unfold execEvrOldest at h
  obtain rfl := Host.Outcome.next.inj h
  exact .app (regCommand_changes rfl (fun _ _ _ => (.comp (evrWrite_changes _ _ _ _) rfl (.refl)))) (.refl)

theorem execAssignDuty_frame {r : Req} {g : Fin 8} {duty : Fin 8} {backup : Fin 8} {s u : State} (h : execAssignDuty r g duty backup s = .next u) :
    Changes [.alm, .pst, .pnw, .sent] s u := by
  unfold execAssignDuty at h
  obtain rfl := Host.Outcome.next.inj h
  exact .comp (almFromSession_changes _ _ _) rfl (.refl)

theorem execQuillEvaluation_frame {s u : State} (h : execQuillEvaluation s = .next u) :
    Changes [.fch, .saf, .evr] s u := by
  unfold execQuillEvaluation at h
  obtain rfl := Host.Outcome.next.inj h
  exact .comp (quillEvaluation_changes _) rfl (.refl)

theorem execTestPulseStart_frame {ch : Fin 96} {s u : State} (h : execTestPulseStart ch s = .next u) :
    Changes [.fch] s u := by
  unfold execTestPulseStart at h
  obtain rfl := Host.Outcome.next.inj h
  exact .ite (fun _ => .comp (setChan_changes _ _ _) rfl (.refl)) (fun _ => .refl)

theorem execSafetyOffDelayEnd_frame {n : Fin 16} {s u : State} (h : execSafetyOffDelayEnd n s = .next u) :
    Changes [.fch, .saf, .evr] s u := by
  unfold execSafetyOffDelayEnd at h
  obtain rfl := Host.Outcome.next.inj h
  exact .app (slotEvent_changes rfl (fun _ => .comp (evalSlot_changes _ _) rfl (.comp (refreshQen_changes _) rfl (.comp (setSlot_changes _ _ _) rfl (.refl))))) (.refl)

theorem execEnterMaintenance_frame {r : Req} {g : Fin 6} {s u : State} (h : execEnterMaintenance r g s = .next u) :
    Changes [.cyc, .fch, .pst, .pnw, .sent] s u := by
  unfold execEnterMaintenance at h
  obtain rfl := Host.Outcome.next.inj h
  exact .comp (maintCommand_changes _ _ _ _) rfl (.refl)

theorem execCvuClear_frame {p : Path} {c : Fin 8} {s u : State} (h : execCvuClear p c s = .next u) :
    Changes [.nibA, .nibB, .cyc, .pnw, .cvu, .sent] s u := by
  unfold execCvuClear at h
  obtain rfl := Host.Outcome.next.inj h
  exact .comp (ctxCommand_changes _ _ _ _ _) rfl (.refl)

theorem execEvpost_frame {l : Lane} {d : BitVec 6} {a : BitVec 6} {s u : State} (h : execEvpost l d a s = .next u) :
    Changes [.sup, .nibA, .nibB, .cyc, .cmp, .fch, .saf, .alm, .pst, .frg, .pnw, .evr, .cvu, .dsp, .boot, .sent] s u := by
  unfold execEvpost at h
  obtain rfl := Host.Outcome.next.inj h
  exact .app (sysOp_changes rfl (fun _ => .comp (evpostOp_changes _ _ _) rfl (.refl))) (.refl)

theorem execTon_frame {l : Lane} {d : BitVec 6} {a : BitVec 6} {s u : State} (h : execTon l d a s = .next u) :
    Changes [.sup, .nibA, .nibB, .cyc, .cmp, .fch, .saf, .alm, .pst, .frg, .pnw, .evr, .cvu, .dsp, .boot, .sent] s u := by
  unfold execTon at h
  obtain rfl := Host.Outcome.next.inj h
  exact .comp (timerBlock_changes _ _ _ _ _ _) rfl (.refl)

theorem execCarafeFrameReceived_frame {x : SlRx CarafeRx} {s u : State} (h : execCarafeFrameReceived x s = .next u) :
    Changes [.pst, .cvu, .sent] s u := by
  unfold execCarafeFrameReceived at h
  obtain rfl := Host.Outcome.next.inj h
  exact .comp (carafeReceived_changes _ _) rfl (.refl)

theorem execLeaveDecaf_frame {r : Req} {s u : State} (h : execLeaveDecaf r s = .next u) :
    Changes [.sup, .nibA, .nibB, .cyc, .cmp, .fch, .saf, .alm, .pst, .pnw, .evr, .cvu, .dsp, .boot, .sent] s u := by
  unfold execLeaveDecaf at h
  obtain rfl := Host.Outcome.next.inj h
  exact .app (screenReq_changes rfl (fun _ => .app (acceptIf_changes rfl (fun _ => .comp (enterReset_changes _ _ _) rfl (.comp (reply_changes _ _ _ _) rfl (.comp (setFails_changes _ _) rfl (.refl))))) (.refl))) (.refl)

theorem execCtu_frame {l : Lane} {d : BitVec 6} {a : BitVec 6} {s u : State} (h : execCtu l d a s = .next u) :
    Changes [.sup, .nibA, .nibB, .cyc, .cmp, .fch, .saf, .alm, .pst, .frg, .pnw, .evr, .cvu, .dsp, .boot, .sent] s u := by
  unfold execCtu at h
  obtain rfl := Host.Outcome.next.inj h
  exact .comp (recBlock_changes _ _ _ _ _ _ _ _) rfl (.refl)

theorem execHelloSend_frame {s u : State} (h : execHelloSend s = .next u) :
    Changes [.pst, .sent] s u := by
  unfold execHelloSend at h
  obtain rfl := Host.Outcome.next.inj h
  exact .ite (fun _ => .comp (slFrame_changes _ _ _) rfl (.comp (slFrame_changes _ _ _) rfl (.comp (slFrame_changes _ _ _) rfl (.refl)))) (fun _ => .refl)

theorem execFailCountClear_frame {s u : State} (h : execFailCountClear s = .next u) :
    Changes [.sup, .boot] s u := by
  unfold execFailCountClear at h
  obtain rfl := Host.Outcome.next.inj h
  exact .ite (fun _ => .comp (onBoot_changes _ _) rfl (.comp (setFails_changes _ _) rfl (.refl))) (fun _ => .refl)

theorem execResume_frame {r : Req} {s u : State} (h : execResume r s = .next u) :
    Changes [.sup, .cyc, .lpe, .pst, .pnw, .sent] s u := by
  unfold execResume at h
  obtain rfl := Host.Outcome.next.inj h
  exact .app (stateCommand_changes rfl (fun _ => .comp (leaveHold_changes _) rfl (.refl))) (.refl)

theorem execEventsFromSeq_frame {r : Req} {count : BitVec 16} {q : Word} {s u : State} (h : execEventsFromSeq r count q s = .next u) :
    Changes [.pnw, .sent] s u := by
  unfold execEventsFromSeq at h
  obtain rfl := Host.Outcome.next.inj h
  exact .comp (events_changes _ _ _ _) rfl (.refl)

theorem execEvrNext_frame {p : Path} {s u : State} (h : execEvrNext p s = .next u) :
    Changes [.nibA, .nibB, .cyc, .pnw, .evr, .sent] s u := by
  unfold execEvrNext at h
  obtain rfl := Host.Outcome.next.inj h
  exact .app (regCommand_changes rfl (fun _ _ _ => (.comp (evrWrite_changes _ _ _ _) rfl (.refl)))) (.refl)

theorem execCheckpointAppendResume_frame {l : Lane} {s u : State} (h : execCheckpointAppendResume l s = .next u) :
    Changes [.nibA, .nibB, .cmp] s u := by
  unfold execCheckpointAppendResume at h
  obtain rfl := Host.Outcome.next.inj h
  exact .comp (appendResume_changes _ _) rfl (.refl)

theorem execTimeReferenceCheck_frame {ticks : ℕ} {marks : ℕ} {s u : State} (h : execTimeReferenceCheck ticks marks s = .next u) :
    Changes [.sup, .tim, .nibA, .nibB, .cyc, .cmp, .fch, .saf, .alm, .pst, .frg, .pnw, .evr, .cvu, .dsp, .boot, .sent] s u := by
  unfold execTimeReferenceCheck at h
  obtain rfl := Host.Outcome.next.inj h
  exact .comp (timeCheck_changes _ _ _) rfl (.refl)

theorem execModbusOtherFunction_frame {h : MbHdr} {fc : Byte} {s u : State} (h : execModbusOtherFunction h fc s = .next u) :
    Changes [.pnw, .sent] s u := by
  unfold execModbusOtherFunction at h
  obtain rfl := Host.Outcome.next.inj h
  exact .ite (fun _ => .comp (mbException_changes _ _ _ _) rfl (.refl)) (fun _ => .refl)

theorem execXori_frame {o : Blk} {s u : State} (h : execXori o s = .next u) :
    Changes [.sup, .nibA, .nibB, .cyc, .cmp, .fch, .saf, .alm, .pst, .frg, .pnw, .evr, .cvu, .dsp, .boot, .sent] s u := by
  unfold execXori at h
  obtain rfl := Host.Outcome.next.inj h
  exact .comp (regImm_changes _ _ _ _) rfl (.refl)

theorem execFlushComplete_frame {s u : State} (h : execFlushComplete s = .next u) :
    Changes [.img, .sup, .tim, .nibA, .nibB, .cyc, .cmp, .lpe, .fch, .saf, .alm, .pst, .frg, .pnw, .evr, .cvu, .mtr, .mtrLanes, .dsp, .boot, .free] s u := by
  unfold execFlushComplete at h
  obtain rfl := Host.Outcome.next.inj h
  exact .comp (flushComplete_changes _) rfl (.refl)

theorem execRectangleUpdateEnd_frame {i : Fin 8} {s u : State} (h : execRectangleUpdateEnd i s = .next u) :
    Changes [.dsp] s u := by
  unfold execRectangleUpdateEnd at h
  obtain rfl := Host.Outcome.next.inj h
  exact .comp (rectangleEnd_changes _ _) rfl (.refl)

theorem execCv_frame {l : Lane} {d : BitVec 6} {a : BitVec 6} {s u : State} (h : execCv l d a s = .next u) :
    Changes [.sup, .nibA, .nibB, .cyc, .cmp, .fch, .saf, .alm, .pst, .frg, .pnw, .evr, .cvu, .dsp, .boot, .sent] s u := by
  unfold execCv at h
  obtain rfl := Host.Outcome.next.inj h
  exact .comp (recBlock_changes _ _ _ _ _ _ _ _) rfl (.refl)

theorem execPointOffDelayEnd_frame {p : BitVec 12} {s u : State} (h : execPointOffDelayEnd p s = .next u) :
    Changes [.alm, .pnw, .evr, .dsp, .sent] s u := by
  unfold execPointOffDelayEnd at h
  obtain rfl := Host.Outcome.next.inj h
  exact .app (pointEvent_changes rfl (fun _ => .comp (returns_changes _ _) rfl (.refl))) (.refl)

theorem execSessionTimeout_frame {sess : Word} {s u : State} (h : execSessionTimeout sess s = .next u) :
    Changes [.pnw, .cvu, .boot] s u := by
  unfold execSessionTimeout at h
  obtain rfl := Host.Outcome.next.inj h
  exact .comp (endSession_changes _ _) rfl (.refl)

theorem execFma_frame {o : Blk} {s u : State} (h : execFma o s = .next u) :
    Changes [.sup, .nibA, .nibB, .cyc, .cmp, .fch, .saf, .alm, .pst, .frg, .pnw, .evr, .cvu, .dsp, .boot, .sent] s u := by
  unfold execFma at h
  obtain rfl := Host.Outcome.next.inj h
  exact .comp (writesD_changes _ _ _ _ _) rfl (.refl)

theorem execSar_frame {o : Blk} {s u : State} (h : execSar o s = .next u) :
    Changes [.sup, .nibA, .nibB, .cyc, .cmp, .fch, .saf, .alm, .pst, .frg, .pnw, .evr, .cvu, .dsp, .boot, .sent] s u := by
  unfold execSar at h
  obtain rfl := Host.Outcome.next.inj h
  exact .comp (regReg_changes _ _ _ _) rfl (.refl)

theorem execSensorSupplyRetry_frame {ch : Fin 96} {limited : Bool} {s u : State} (h : execSensorSupplyRetry ch limited s = .next u) :
    Changes [.fch, .evr] s u := by
  unfold execSensorSupplyRetry at h
  obtain rfl := Host.Outcome.next.inj h
  exact .ite (fun _ => .comp (requal_changes _ _) rfl (.comp (setChan_changes _ _ _) rfl (.refl))) (fun _ => .refl)

theorem execOperatorModeRequest_frame {r : Req} {k : Fin 128} {v : Word} {s u : State} (h : execOperatorModeRequest r k v s = .next u) :
    Changes [.lpe, .pnw, .sent] s u := by
  unfold execOperatorModeRequest at h
  obtain rfl := Host.Outcome.next.inj h
  exact .app (sessionWrites_changes rfl (fun _ _ => (.comp (lpeWrite_changes _ _ _ _) rfl (.refl)))) (.refl)

theorem execAndi_frame {o : Blk} {s u : State} (h : execAndi o s = .next u) :
    Changes [.sup, .nibA, .nibB, .cyc, .cmp, .fch, .saf, .alm, .pst, .frg, .pnw, .evr, .cvu, .dsp, .boot, .sent] s u := by
  unfold execAndi at h
  obtain rfl := Host.Outcome.next.inj h
  exact .comp (regImm_changes _ _ _ _) rfl (.refl)

theorem execRestartOtherImageHalf_frame {r : Req} {s u : State} (h : execRestartOtherImageHalf r s = .next u) :
    Changes [.flash, .sup, .nibA, .nibB, .cyc, .cmp, .fch, .saf, .alm, .pst, .pnw, .evr, .cvu, .dsp, .boot, .sent] s u := by
  unfold execRestartOtherImageHalf at h
  obtain rfl := Host.Outcome.next.inj h
  exact .app (screenReq_changes rfl (fun _ => .comp (restartOther_changes _ _) rfl (.refl))) (.refl)

theorem execGradeUnknown_frame {m : Fin 4} {s u : State} (h : execGradeUnknown m s = .next u) :
    Changes [.chop] s u := by
  unfold execGradeUnknown at h
  obtain rfl := Host.Outcome.next.inj h
  exact .ite (fun _ => .comp (setMeter_changes _ _ _) rfl (.refl)) (fun _ => .refl)

theorem execHbtSend_frame {s u : State} (h : execHbtSend s = .next u) :
    Changes [.alm, .sent] s u := by
  unfold execHbtSend at h
  obtain rfl := Host.Outcome.next.inj h
  exact .ite (fun _ => .comp (onAlm_changes _ _) rfl (.comp (sentence_changes _ _) rfl (.refl))) (fun _ => .refl)

theorem execStartSequence_frame {env : StartEnv} {s u : State} (h : execStartSequence env s = .next u) :
    Changes [.img, .sup, .tim, .nibA, .nibB, .cyc, .cmp, .lpe, .fch, .saf, .alm, .pst, .pnw, .evr, .cvu, .dsp, .boot, .sent, .free] s u := by
  unfold execStartSequence at h
  obtain rfl := Host.Outcome.next.inj h
  exact .comp (startSequence_changes _ _) rfl (.refl)

theorem execRTrig_frame {l : Lane} {d : BitVec 6} {a : BitVec 6} {s u : State} (h : execRTrig l d a s = .next u) :
    Changes [.sup, .nibA, .nibB, .cyc, .cmp, .fch, .saf, .alm, .pst, .frg, .pnw, .evr, .cvu, .dsp, .boot, .sent] s u := by
  unfold execRTrig at h
  obtain rfl := Host.Outcome.next.inj h
  exact .comp (recBlock_changes _ _ _ _ _ _ _ _) rfl (.refl)

theorem execFdiv_frame {o : Blk} {s u : State} (h : execFdiv o s = .next u) :
    Changes [.sup, .nibA, .nibB, .cyc, .cmp, .fch, .saf, .alm, .pst, .frg, .pnw, .evr, .cvu, .dsp, .boot, .sent] s u := by
  unfold execFdiv at h
  obtain rfl := Host.Outcome.next.inj h
  exact .comp (regReg_changes _ _ _ _) rfl (.refl)

theorem execCompareStalled_frame {s u : State} (h : execCompareStalled s = .next u) :
    Changes [.sup, .nibA, .nibB, .cyc, .cmp, .fch, .saf, .alm, .pst, .frg, .pnw, .evr, .cvu, .dsp, .boot, .sent] s u := by
  unfold execCompareStalled at h
  obtain rfl := Host.Outcome.next.inj h
  exact .comp (compareStalled_changes _) rfl (.refl)

theorem execFrequencyTimeout_frame {ch : Fin 96} {s u : State} (h : execFrequencyTimeout ch s = .next u) :
    Changes [.fch, .evr] s u := by
  unfold execFrequencyTimeout at h
  obtain rfl := Host.Outcome.next.inj h
  exact .ite (fun _ => .comp (requal_changes _ _) rfl (.comp (setLive_changes _ _ _) rfl (.comp (setChan_changes _ _ _) rfl (.refl)))) (fun _ => .refl)

theorem execLinkDelayMeasure_frame {p : Fin 2} {s u : State} (h : execLinkDelayMeasure p s = .next u) :
    Changes [.frg, .sent] s u := by
  unfold execLinkDelayMeasure at h
  obtain rfl := Host.Outcome.next.inj h
  exact .ite (fun _ => .comp (linkSend_changes _ _ _ _ _) rfl (.refl)) (fun _ => .refl)

theorem execReadbackConversion_frame {ch : Fin 96} {ua : ℤ} {s u : State} (h : execReadbackConversion ch ua s = .next u) :
    Changes [.fch, .evr] s u := by
  unfold execReadbackConversion at h
  obtain rfl := Host.Outcome.next.inj h
  exact .comp (readback_changes _ _ _) rfl (.refl)

theorem execWarmStartSequence_frame {env : StartEnv} {s u : State} (h : execWarmStartSequence env s = .next u) :
    Changes [.sup, .tim, .nibA, .nibB, .cyc, .cmp, .lpe, .fch, .saf, .alm, .pst, .pnw, .evr, .cvu, .dsp, .boot, .sent, .free] s u := by
  unfold execWarmStartSequence at h
  obtain rfl := Host.Outcome.next.inj h
  exact .comp (warmStart_changes _ _) rfl (.refl)

theorem execRunNotReached_frame {s u : State} (h : execRunNotReached s = .next u) :
    Changes [.img, .sup, .nibA, .nibB, .cyc, .cmp, .fch, .saf, .alm, .pst, .pnw, .evr, .cvu, .dsp, .boot, .sent, .free] s u := by
  unfold execRunNotReached at h
  obtain rfl := Host.Outcome.next.inj h
  exact .ite (fun _ => .comp (failStart_changes _ _ _) rfl (.refl)) (fun _ => .refl)

theorem execSub_frame {o : Blk} {s u : State} (h : execSub o s = .next u) :
    Changes [.sup, .nibA, .nibB, .cyc, .cmp, .fch, .saf, .alm, .pst, .frg, .pnw, .evr, .cvu, .dsp, .boot, .sent] s u := by
  unfold execSub at h
  obtain rfl := Host.Outcome.next.inj h
  exact .comp (regReg_changes _ _ _ _) rfl (.refl)

theorem execCommitRestart_frame {s u : State} (h : execCommitRestart s = .next u) :
    Changes [.sup, .nibA, .nibB, .cyc, .cmp, .fch, .saf, .alm, .pst, .pnw, .evr, .cvu, .dsp, .boot, .sent] s u := by
  unfold execCommitRestart at h
  obtain rfl := Host.Outcome.next.inj h
  exact .ite (fun _ => .comp (enterReset_changes _ _ _) rfl (.refl)) (fun _ => .refl)

theorem execBarrierLimit_frame {mw : ℕ} {s u : State} (h : execBarrierLimit mw s = .next u) :
    Changes [.tim, .fch, .evr] s u := by
  unfold execBarrierLimit at h
  obtain rfl := Host.Outcome.next.inj h
  exact .comp (barrierLimit_changes _ _) rfl (.refl)

theorem execChopStep_frame {env : List ChopPortEnv} {s u : State} (h : execChopStep env s = .next u) :
    Changes [.chop, .free] s u := by
  unfold execChopStep at h
  obtain rfl := Host.Outcome.next.inj h
  exact .comp (chopStep_changes _ _) rfl (.refl)

theorem execSpeedFloorLost_frame {s u : State} (h : execSpeedFloorLost s = .next u) :
    Changes [.tim, .evr] s u := by
  unfold execSpeedFloorLost at h
  obtain rfl := Host.Outcome.next.inj h
  exact .ite (fun _ => .comp (post_changes _ _ _ _) rfl (.comp (onTim_changes _ _) rfl (.refl))) (fun _ => .refl)

theorem execEventsFromOldest_frame {r : Req} {count : BitVec 16} {s u : State} (h : execEventsFromOldest r count s = .next u) :
    Changes [.pnw, .sent] s u := by
  unfold execEventsFromOldest at h
  obtain rfl := Host.Outcome.next.inj h
  exact .comp (events_changes _ _ _ _) rfl (.refl)

theorem execReinit_frame {r : Req} {g : PanelIdent} {s u : State} (h : execReinit r g s = .next u) :
    Changes [.pnw, .dsp, .sent] s u := by
  unfold execReinit at h
  obtain rfl := Host.Outcome.next.inj h
  exact .app (screenReq_changes rfl (fun _ => .comp (reply_changes _ _ _ _) rfl (.comp (panelReinit_changes _ _) rfl (.refl)))) (.refl)

theorem execFrgInjectorWrite_frame {r : Req} {p : Fin 2} {v : Word} {s u : State} (h : execFrgInjectorWrite r p v s = .next u) :
    Changes [.pst, .frg, .pnw, .sent] s u := by
  unfold execFrgInjectorWrite at h
  obtain rfl := Host.Outcome.next.inj h
  exact .app (sessionWrites_changes rfl (fun _ _ => (.comp (injWrite_changes _ _ _ _ _) rfl (.refl)))) (.refl)

theorem execShelve_frame {r : Req} {p : BitVec 12} {m : BitVec 16} {s u : State} (h : execShelve r p m s = .next u) :
    Changes [.alm, .pst, .pnw, .sent] s u := by
  unfold execShelve at h
  obtain rfl := Host.Outcome.next.inj h
  exact .comp (almFromSession_changes _ _ _) rfl (.refl)

theorem execItof_frame {o : Blk} {s u : State} (h : execItof o s = .next u) :
    Changes [.sup, .nibA, .nibB, .cyc, .cmp, .fch, .saf, .alm, .pst, .frg, .pnw, .evr, .cvu, .dsp, .boot, .sent] s u := by
  unfold execItof at h
  obtain rfl := Host.Outcome.next.inj h
  exact .comp (regOnly_changes _ _ _ _) rfl (.refl)

theorem execTrimSessionTimeout_frame {s u : State} (h : execTrimSessionTimeout s = .next u) :
    Changes [.fch, .evr] s u := by
  unfold execTrimSessionTimeout at h
  obtain rfl := Host.Outcome.next.inj h
  exact .comp (discardTrim_changes _) rfl (.refl)

theorem execPulseEdge_frame {ch : Fin 96} {s u : State} (h : execPulseEdge ch s = .next u) :
    Changes [.fch, .evr] s u := by
  unfold execPulseEdge at h
  obtain rfl := Host.Outcome.next.inj h
  exact .ite (fun _ => .comp (requal_changes _ _) rfl (.comp (setLive_changes _ _ _) rfl (.refl))) (fun _ => .refl)

theorem execClose_frame {r : Req} {s u : State} (h : execClose r s = .next u) :
    Changes [.pnw, .cvu, .boot, .sent] s u := by
  unfold execClose at h
  obtain rfl := Host.Outcome.next.inj h
  exact .app (screenReq_changes rfl (fun _ => .comp (endSession_changes _ _) rfl (.comp (reply_changes _ _ _ _) rfl (.refl)))) (.refl)

theorem execUtcStepped_frame {s u : State} (h : execUtcStepped s = .next u) :
    Changes [.pnw, .evr] s u := by
  unfold execUtcStepped at h
  obtain rfl := Host.Outcome.next.inj h
  exact (by
   try dsimp only
   split
   · exact .refl
   · exact .comp (post_changes _ _ _ _) rfl (.comp (onPnw_changes _ _) rfl (.refl))
)

theorem execModbusConnectionTimeout_frame {conn : ℕ} {s u : State} (h : execModbusConnectionTimeout conn s = .next u) :
    Changes [.pnw] s u := by
  unfold execModbusConnectionTimeout at h
  obtain rfl := Host.Outcome.next.inj h
  exact .comp (onPnw_changes _ _) rfl (.refl)

theorem execHold_frame {r : Req} {s u : State} (h : execHold r s = .next u) :
    Changes [.sup, .nibA, .nibB, .cyc, .cmp, .lpe, .fch, .saf, .pst, .frg, .pnw, .evr, .sent] s u := by
  unfold execHold at h
  obtain rfl := Host.Outcome.next.inj h
  exact .app (stateCommand_changes rfl (fun _ => .comp (enterHold_changes _) rfl (.refl))) (.refl)

theorem execRedraw_frame {p : Path} {s u : State} (h : execRedraw p s = .next u) :
    Changes [.nibA, .nibB, .cyc, .pnw, .dsp, .sent] s u := by
  unfold execRedraw at h
  obtain rfl := Host.Outcome.next.inj h
  exact .app (byPath_changes rfl (fun _ => .comp (panelRedraw_changes _) rfl (.refl))) (.refl)

theorem execRead_frame {r : Req} {addr : Word} {count : BitVec 16} {s u : State} (h : execRead r addr count s = .next u) :
    Changes [.sup, .tim, .cyc, .cmp, .lpe, .fch, .alm, .pst, .frg, .pnw, .evr, .dsp, .sent, .free] s u := by
  unfold execRead at h
  obtain rfl := Host.Outcome.next.inj h
  exact .app (screenReq_changes rfl (fun _ => .comp (readSpace_changes _ _ _ _) rfl (.refl))) (.refl)

theorem execRailsIdleOff_frame {s u : State} (h : execRailsIdleOff s = .next u) :
    Changes [.dsp] s u := by
  unfold execRailsIdleOff at h
  obtain rfl := Host.Outcome.next.inj h
  exact .ite (fun _ => .comp (railsDown_changes _) rfl (.refl)) (fun _ => .refl)

theorem execSlt_frame {o : Blk} {s u : State} (h : execSlt o s = .next u) :
    Changes [.sup, .nibA, .nibB, .cyc, .cmp, .fch, .saf, .alm, .pst, .frg, .pnw, .evr, .cvu, .dsp, .boot, .sent] s u := by
  unfold execSlt at h
  obtain rfl := Host.Outcome.next.inj h
  exact .comp (regReg_changes _ _ _ _) rfl (.refl)

theorem execConversionComplete_frame {ch : Fin 96} {m : Meas} {s u : State} (h : execConversionComplete ch m s = .next u) :
    Changes [.fch, .evr, .free] s u := by
  unfold execConversionComplete at h
  obtain rfl := Host.Outcome.next.inj h
  exact .comp (requal_changes _ _) rfl (.comp (convert_changes _ _ _) rfl (.refl))

theorem execAdd_frame {o : Blk} {s u : State} (h : execAdd o s = .next u) :
    Changes [.sup, .nibA, .nibB, .cyc, .cmp, .fch, .saf, .alm, .pst, .frg, .pnw, .evr, .cvu, .dsp, .boot, .sent] s u := by
  unfold execAdd at h
  obtain rfl := Host.Outcome.next.inj h
  exact .comp (regReg_changes _ _ _ _) rfl (.refl)

theorem execCompareComplete_frame {s u : State} (h : execCompareComplete s = .next u) :
    Changes [.nibA, .nibB, .cyc, .cmp] s u := by
  unfold execCompareComplete at h
  obtain rfl := Host.Outcome.next.inj h
  exact .comp (compareComplete_changes _) rfl (.refl)

theorem execStationLinkUp_frame {p : Fin 3} {d : BitVec 16} {s u : State} (h : execStationLinkUp p d s = .next u) :
    Changes [.pst, .dsp, .sent] s u := by
  unfold execStationLinkUp at h
  obtain rfl := Host.Outcome.next.inj h
  exact .app (.ite (fun _ => .comp (forwardNow_changes _ _) rfl (.ite (fun _ => .refl) (fun _ => .comp (regain_changes _) rfl (.refl)))) (fun _ => .refl)) (.comp (setSlPort_changes _ _ _) rfl (.refl))

theorem execChopExportReceived_frame {ok : Bool} {s u : State} (h : execChopExportReceived ok s = .next u) :
    Changes [.chop, .mtr] s u := by
  unfold execChopExportReceived at h
  obtain rfl := Host.Outcome.next.inj h
  exact .comp (exportReceived_changes _ _) rfl (.refl)

theorem execLinkRspReceived_frame {p : Fin 2} {f : RingFrame} {trip : ℕ} {s u : State} (h : execLinkRspReceived p f trip s = .next u) :
    Changes [.frg, .cvu, .sent] s u := by
  unfold execLinkRspReceived at h
  obtain rfl := Host.Outcome.next.inj h
  exact .comp (linkRsp_changes _ _ _ _) rfl (.refl)

theorem execJunctionOvertemperature_frame {deciC : ℤ} {s u : State} (h : execJunctionOvertemperature deciC s = .next u) :
    Changes [.sup, .tim, .nibA, .nibB, .cyc, .cmp, .fch, .saf, .alm, .pst, .frg, .pnw, .evr, .cvu, .dsp, .boot, .sent] s u := by
  unfold execJunctionOvertemperature at h
  obtain rfl := Host.Outcome.next.inj h
  exact .ite (fun _ => .app (.ite (fun _ => .comp (selfDiag_changes _ _) rfl (.refl)) (fun _ => .refl)) (.comp (onTim_changes _ _) rfl (.refl))) (fun _ => .refl)

theorem execForceSet_frame {r : Req} {t : ForceTarget} {v : Word} {s u : State} (h : execForceSet r t v s = .next u) :
    Changes [.cyc, .pst, .pnw, .sent] s u := by
  unfold execForceSet at h
  obtain rfl := Host.Outcome.next.inj h
  exact .app (screenReq_changes rfl (fun _ => .comp (forceRequest_changes _ _ _ _) rfl (.refl))) (.refl)

theorem execInternalSuppliesStop_frame {s u : State} (h : execInternalSuppliesStop s = .next u) :
    Changes [.img, .sup, .tim, .nibA, .nibB, .cyc, .cmp, .lpe, .fch, .saf, .alm, .pst, .frg, .pnw, .evr, .cvu, .mtr, .mtrLanes, .dsp, .boot, .free] s u := by
  unfold execInternalSuppliesStop at h
  obtain rfl := Host.Outcome.next.inj h
  exact .comp (suppliesStop_changes _) rfl (.refl)

theorem execFabs_frame {o : Blk} {s u : State} (h : execFabs o s = .next u) :
    Changes [.sup, .nibA, .nibB, .cyc, .cmp, .fch, .saf, .alm, .pst, .frg, .pnw, .evr, .cvu, .dsp, .boot, .sent] s u := by
  unfold execFabs at h
  obtain rfl := Host.Outcome.next.inj h
  exact .comp (regOnly_changes _ _ _ _) rfl (.refl)

theorem execBrakeTestEnd_frame {n : Fin 16} {s u : State} (h : execBrakeTestEnd n s = .next u) :
    Changes [.fch, .saf, .evr] s u := by
  unfold execBrakeTestEnd at h
  obtain rfl := Host.Outcome.next.inj h
  exact .app (slotEvent_changes rfl (fun _ => .comp (brakeTestDone_changes _ _ _) rfl (.refl))) (.refl)

theorem execLoopOutputHandoff_frame {t : BitVec 16} {s u : State} (h : execLoopOutputHandoff t s = .next u) :
    Changes [.sup, .nibA, .nibB, .cyc, .cmp, .lpe, .fch, .saf, .alm, .pst, .frg, .pnw, .evr, .cvu, .dsp, .boot, .sent] s u := by
  unfold execLoopOutputHandoff at h
  obtain rfl := Host.Outcome.next.inj h
  exact .comp (loopHandoff_changes _ _) rfl (.refl)

theorem execTakeoverRampEnd_frame {ch : Fin 96} {s u : State} (h : execTakeoverRampEnd ch s = .next u) :
    Changes [.fch] s u := by
  unfold execTakeoverRampEnd at h
  obtain rfl := Host.Outcome.next.inj h
  exact .comp (setChan_changes _ _ _) rfl (.refl)

theorem execSeqi_frame {o : Blk} {s u : State} (h : execSeqi o s = .next u) :
    Changes [.sup, .nibA, .nibB, .cyc, .cmp, .fch, .saf, .alm, .pst, .frg, .pnw, .evr, .cvu, .dsp, .boot, .sent] s u := by
  unfold execSeqi at h
  obtain rfl := Host.Outcome.next.inj h
  exact .comp (regImm_changes _ _ _ _) rfl (.refl)

theorem execSenderRepeat_frame {s u : State} (h : execSenderRepeat s = .next u) :
    Changes [.pst, .sent] s u := by
  unfold execSenderRepeat at h
  obtain rfl := Host.Outcome.next.inj h
  exact .comp (repeatCarafe_changes _) rfl (.refl)

theorem execReadvar_frame {r : Req} {tag : Word} {count : BitVec 16} {s u : State} (h : execReadvar r tag count s = .next u) :
    Changes [.sup, .tim, .cyc, .cmp, .lpe, .fch, .alm, .pst, .frg, .pnw, .evr, .dsp, .sent, .free] s u := by
  unfold execReadvar at h
  obtain rfl := Host.Outcome.next.inj h
  exact .app (screenReq_changes rfl (fun _ => .comp (readSpace_changes _ _ _ _) rfl (.refl))) (.refl)

theorem execBz_frame {o : Blk} {s u : State} (h : execBz o s = .next u) :
    Changes [.sup, .nibA, .nibB, .cyc, .cmp, .fch, .saf, .alm, .pst, .frg, .pnw, .evr, .cvu, .dsp, .boot, .sent] s u := by
  unfold execBz at h
  obtain rfl := Host.Outcome.next.inj h
  exact .comp (branch_changes _ _ _ _ _) rfl (.refl)

theorem execFmin_frame {o : Blk} {s u : State} (h : execFmin o s = .next u) :
    Changes [.sup, .nibA, .nibB, .cyc, .cmp, .fch, .saf, .alm, .pst, .frg, .pnw, .evr, .cvu, .dsp, .boot, .sent] s u := by
  unfold execFmin at h
  obtain rfl := Host.Outcome.next.inj h
  exact .comp (regReg_changes _ _ _ _) rfl (.refl)

theorem execFeq_frame {o : Blk} {s u : State} (h : execFeq o s = .next u) :
    Changes [.sup, .nibA, .nibB, .cyc, .cmp, .fch, .saf, .alm, .pst, .frg, .pnw, .evr, .cvu, .dsp, .boot, .sent] s u := by
  unfold execFeq at h
  obtain rfl := Host.Outcome.next.inj h
  exact .comp (regReg_changes _ _ _ _) rfl (.refl)

theorem execTakeBack_frame {s u : State} (h : execTakeBack s = .next u) :
    Changes [.pst] s u := by
  unfold execTakeBack at h
  obtain rfl := Host.Outcome.next.inj h
  exact .comp (takeBack_changes _) rfl (.refl)

theorem execRecordsLostPointEnd_frame {s u : State} (h : execRecordsLostPointEnd s = .next u) :
    Changes [.evr] s u := by
  unfold execRecordsLostPointEnd at h
  obtain rfl := Host.Outcome.next.inj h
  exact .comp (onEvr_changes _ _) rfl (.refl)

theorem execAddi_frame {o : Blk} {s u : State} (h : execAddi o s = .next u) :
    Changes [.sup, .nibA, .nibB, .cyc, .cmp, .fch, .saf, .alm, .pst, .frg, .pnw, .evr, .cvu, .dsp, .boot, .sent] s u := by
  unfold execAddi at h
  obtain rfl := Host.Outcome.next.inj h
  exact .comp (regImm_changes _ _ _ _) rfl (.refl)

theorem execExecuteWindowOpen_frame {s u : State} (h : execExecuteWindowOpen s = .next u) :
    Changes [.nibA, .nibB, .cyc, .cmp, .mtrLanes] s u := by
  unfold execExecuteWindowOpen at h
  obtain rfl := Host.Outcome.next.inj h
  exact .ite (fun _ => .comp (openWindow_changes _) rfl (.refl)) (fun _ => .refl)

theorem execGroupSupplyLevelChange_frame {g : Fin 6} {e : SupplyEvent} {v : BitVec 16} {a : BitVec 16} {s u : State} (h : execGroupSupplyLevelChange g e v a s = .next u) :
    Changes [.fch, .evr] s u := by
  unfold execGroupSupplyLevelChange at h
  obtain rfl := Host.Outcome.next.inj h
  exact .comp (supplyChange_changes _ _ _ _ _) rfl (.refl)

theorem execVerifierAuth_frame {m : Verif} {s u : State} (h : execVerifierAuth m s = .next u) :
    Changes [.chop, .sent] s u := by
  unfold execVerifierAuth at h
  obtain rfl := Host.Outcome.next.inj h
  exact .comp (verifierAuth_changes _ _) rfl (.refl)

theorem execSplitLanes_frame {r : Req} {s u : State} (h : execSplitLanes r s = .next u) :
    Changes [.cyc, .cmp, .pst, .pnw, .sent] s u := by
  unfold execSplitLanes at h
  obtain rfl := Host.Outcome.next.inj h
  exact .app (screenReq_changes rfl (fun _ => .ite (fun _ => .comp (reply_changes _ _ _ _) rfl (.refl)) (fun _ => .ite (fun _ => .comp (reply_changes _ _ _ _) rfl (.refl)) (fun _ => .app (acceptBoth_changes rfl (fun _ => .comp (schedule_changes _ _) rfl (.comp (onCmp_changes _ _) rfl (.refl)))) (.refl))))) (.refl)

theorem execOpen_frame {m : Unsess} {onStn : Bool} {level : BitVec 8} {nonce : List Byte} {s u : State} (h : execOpen m onStn level nonce s = .next u) :
    Changes [.pnw, .sent, .free] s u := by
  unfold execOpen at h
  obtain rfl := Host.Outcome.next.inj h
  exact .app (openReq_changes rfl (fun _ => .comp (openSession_changes _ _ _ _ _) rfl (.refl))) (.refl)

theorem execEventsNewest_frame {r : Req} {count : BitVec 16} {s u : State} (h : execEventsNewest r count s = .next u) :
    Changes [.pnw, .sent] s u := by
  unfold execEventsNewest at h
  obtain rfl := Host.Outcome.next.inj h
  exact .comp (events_changes _ _ _ _) rfl (.refl)

theorem execAcnSilence_frame {alert : ℕ} {s u : State} (h : execAcnSilence alert s = .next u) :
    Changes [.alm, .pst, .sent] s u := by
  unfold execAcnSilence at h
  obtain rfl := Host.Outcome.next.inj h
  exact .app (acn_changes rfl (fun _ _ => .comp (acnQueue_changes _ _) rfl (.refl)) (fun _ _ => .comp (acnQueue_changes _ _) rfl (.refl))) (.refl)

theorem execOperatorCeilingWrite_frame {r : Req} {v : Word} {s u : State} (h : execOperatorCeilingWrite r v s = .next u) :
    Changes [.tim, .pnw, .sent] s u := by
  unfold execOperatorCeilingWrite at h
  obtain rfl := Host.Outcome.next.inj h
  exact .app (sessionWrites_changes rfl (fun _ _ => (.app (byLevel_changes rfl (fun _ => (.comp (ceilingWrite_changes _ _) rfl (.refl)))) (.refl)))) (.refl)

theorem execCallNotificationSend_frame {g : Fin 8} {s u : State} (h : execCallNotificationSend g s = .next u) :
    Changes [.pnw, .sent] s u := by
  unfold execCallNotificationSend at h
  obtain rfl := Host.Outcome.next.inj h
  exact .ite (fun _ => .refl) (fun _ => .comp (notifyCall_changes _ _) rfl (.refl))

theorem execForwardedCommand_frame {x : SlRx Forwarded} {t : SelfTest} {s u : State} (h : execForwardedCommand x t s = .next u) :
    Changes [.cyc, .cmp, .fch, .alm, .pst, .evr, .cvu, .dsp, .sent] s u := by
  unfold execForwardedCommand at h
  obtain rfl := Host.Outcome.next.inj h
  exact .app (slReceive_changes rfl (fun _ => .comp (forwardedCommand_changes _ _ _ _) rfl (.refl)) (fun _ => .refl)) (.refl)

theorem execShelfTimeEnd_frame {p : BitVec 12} {s u : State} (h : execShelfTimeEnd p s = .next u) :
    Changes [.alm, .pnw, .evr, .dsp, .sent] s u := by
  unfold execShelfTimeEnd at h
  obtain rfl := Host.Outcome.next.inj h
  exact .app (pointEvent_changes rfl (fun _ => .comp (unshelve_changes _ _) rfl (.refl))) (.refl)

theorem execFTrig_frame {l : Lane} {d : BitVec 6} {a : BitVec 6} {s u : State} (h : execFTrig l d a s = .next u) :
    Changes [.sup, .nibA, .nibB, .cyc, .cmp, .fch, .saf, .alm, .pst, .frg, .pnw, .evr, .cvu, .dsp, .boot, .sent] s u := by
  unfold execFTrig at h
  obtain rfl := Host.Outcome.next.inj h
  exact .comp (recBlock_changes _ _ _ _ _ _ _ _) rfl (.refl)

theorem execRailFault_frame {s u : State} (h : execRailFault s = .next u) :
    Changes [.dsp] s u := by
  unfold execRailFault at h
  obtain rfl := Host.Outcome.next.inj h
  exact .ite (fun _ => .app (.comp (setDsp_changes _ _) rfl (.refl)) (.comp (panelAbort_changes _) rfl (.refl))) (fun _ => .refl)

theorem execRoleSwapDue_frame {s u : State} (h : execRoleSwapDue s = .next u) :
    Changes [.pst, .evr] s u := by
  unfold execRoleSwapDue at h
  obtain rfl := Host.Outcome.next.inj h
  exact .ite (fun _ => .comp (post_changes _ _ _ _) rfl (.comp (onPst_changes _ _) rfl (.refl))) (fun _ => .refl)

theorem execVinResetThreshold_frame {v : BitVec 16} {s u : State} (h : execVinResetThreshold v s = .next u) :
    Changes [.sup, .nibA, .nibB, .cyc, .cmp, .fch, .saf, .alm, .pst, .pnw, .evr, .cvu, .dsp, .boot, .sent] s u := by
  unfold execVinResetThreshold at h
  obtain rfl := Host.Outcome.next.inj h
  exact .comp (vinReset_changes _ _) rfl (.refl)

theorem execManualValueWrite_frame {r : Req} {k : Fin 128} {v : Word} {s u : State} (h : execManualValueWrite r k v s = .next u) :
    Changes [.lpe, .pnw, .sent] s u := by
  unfold execManualValueWrite at h
  obtain rfl := Host.Outcome.next.inj h
  exact .app (sessionWrites_changes rfl (fun _ _ => (.comp (lpeWrite_changes _ _ _ _) rfl (.refl)))) (.refl)

theorem execSupplyUnstableEnd_frame {s u : State} (h : execSupplyUnstableEnd s = .next u) :
    Changes [.sup] s u := by
  unfold execSupplyUnstableEnd at h
  obtain rfl := Host.Outcome.next.inj h
  exact .ite (fun _ => .comp (onSup_changes _ _) rfl (.refl)) (fun _ => .refl)

theorem execSetPendingTrim_frame {r : Req} {ua : ℤ} {s u : State} (h : execSetPendingTrim r ua s = .next u) :
    Changes [.fch, .pnw, .evr, .sent] s u := by
  unfold execSetPendingTrim at h
  obtain rfl := Host.Outcome.next.inj h
  exact .app (trimCommand_changes rfl (fun _ => .comp (setPending_changes _ _) rfl (.refl))) (.refl)

theorem execVerifierSwitchClose_frame {s u : State} (h : execVerifierSwitchClose s = .next u) :
    Changes [.chop] s u := by
  unfold execVerifierSwitchClose at h
  obtain rfl := Host.Outcome.next.inj h
  exact .ite (fun _ => .comp (onChop_changes _ _) rfl (.refl)) (fun _ => .refl)

theorem execDiv_frame {o : Blk} {s u : State} (h : execDiv o s = .next u) :
    Changes [.sup, .nibA, .nibB, .cyc, .cmp, .fch, .saf, .alm, .pst, .frg, .pnw, .evr, .cvu, .dsp, .boot, .sent] s u := by
  unfold execDiv at h
  obtain rfl := Host.Outcome.next.inj h
  exact .comp (noteDivz_changes _ _ _ _) rfl (.comp (regReg_changes _ _ _ _) rfl (.refl))

theorem execRemoteJoinReceived_frame {p : Fin 2} {f : RingFrame} {s u : State} (h : execRemoteJoinReceived p f s = .next u) :
    Changes [.frg, .cvu, .sent] s u := by
  unfold execRemoteJoinReceived at h
  obtain rfl := Host.Outcome.next.inj h
  exact .comp (joinReceived_changes _ _ _) rfl (.refl)

theorem execDeadManOff_frame {r : Req} {s u : State} (h : execDeadManOff r s = .next u) :
    Changes [.alm, .pst, .pnw, .sent] s u := by
  unfold execDeadManOff at h
  obtain rfl := Host.Outcome.next.inj h
  exact .comp (almFromSession_changes _ _ _) rfl (.refl)

theorem execShr_frame {o : Blk} {s u : State} (h : execShr o s = .next u) :
    Changes [.sup, .nibA, .nibB, .cyc, .cmp, .fch, .saf, .alm, .pst, .frg, .pnw, .evr, .cvu, .dsp, .boot, .sent] s u := by
  unfold execShr at h
  obtain rfl := Host.Outcome.next.inj h
  exact .comp (regReg_changes _ _ _ _) rfl (.refl)

theorem execParallelImbalance_frame {ch : Fin 96} {isOff : Bool} {s u : State} (h : execParallelImbalance ch isOff s = .next u) :
    Changes [.fch, .evr] s u := by
  unfold execParallelImbalance at h
  obtain rfl := Host.Outcome.next.inj h
  exact .ite (fun _ => .comp (onSet_changes _ _ _) rfl (.refl)) (fun _ => .refl)

theorem execRtcSet_frame {s u : State} (h : execRtcSet s = .next u) :
    Changes [.sup] s u := by
  unfold execRtcSet at h
  obtain rfl := Host.Outcome.next.inj h
  exact .ite (fun _ => .comp (onSup_changes _ _) rfl (.refl)) (fun _ => .refl)

theorem execLateCompareComplete_frame {s u : State} (h : execLateCompareComplete s = .next u) :
    Changes [.sup, .tim, .nibA, .nibB, .cyc, .cmp, .lpe, .fch, .alm, .pst, .frg, .pnw, .evr, .cvu, .dsp, .boot, .sent] s u := by
  unfold execLateCompareComplete at h
  obtain rfl := Host.Outcome.next.inj h
  exact .comp (lateComplete_changes _) rfl (.refl)

theorem execWrite_frame {r : Req} {addr : Word} {ws : List Word} {s u : State} (h : execWrite r addr ws s = .next u) :
    Changes [.sup, .tim, .cyc, .cmp, .lpe, .fch, .alm, .pst, .frg, .pnw, .evr, .cvu, .dsp, .boot, .sent] s u := by
  unfold execWrite at h
  obtain rfl := Host.Outcome.next.inj h
  exact .app (screenReq_changes rfl (fun _ => .ite (fun _ => .comp (reply_changes _ _ _ _) rfl (.refl)) (fun _ => .app (answer_changes rfl (fun _ => (.comp (writeSpace_changes _ _ _ _ _) rfl (.refl)))) (.refl)))) (.refl)

theorem execFsub_frame {o : Blk} {s u : State} (h : execFsub o s = .next u) :
    Changes [.sup, .nibA, .nibB, .cyc, .cmp, .fch, .saf, .alm, .pst, .frg, .pnw, .evr, .cvu, .dsp, .boot, .sent] s u := by
  unfold execFsub at h
  obtain rfl := Host.Outcome.next.inj h
  exact .comp (regReg_changes _ _ _ _) rfl (.refl)

theorem execNtpResponse_frame {server : Fin 4} {off : ℤ} {s u : State} (h : execNtpResponse server off s = .next u) :
    Changes [.pnw, .free] s u := by
  unfold execNtpResponse at h
  obtain rfl := Host.Outcome.next.inj h
  exact .ite (fun _ => .refl) (fun _ => .ite (fun _ => .comp (onPnw_changes _ _) rfl (.refl)) (fun _ => .ite (fun _ => .comp (takeFree_changes _) rfl (.comp (onPnw_changes _ _) rfl (.refl))) (fun _ => .comp (onPnw_changes _ _) rfl (.refl))))

theorem execMul_frame {o : Blk} {s u : State} (h : execMul o s = .next u) :
    Changes [.sup, .nibA, .nibB, .cyc, .cmp, .fch, .saf, .alm, .pst, .frg, .pnw, .evr, .cvu, .dsp, .boot, .sent] s u := by
  unfold execMul at h
  obtain rfl := Host.Outcome.next.inj h
  exact .comp (regReg_changes _ _ _ _) rfl (.refl)

theorem execFtoi_frame {o : Blk} {s u : State} (h : execFtoi o s = .next u) :
    Changes [.sup, .nibA, .nibB, .cyc, .cmp, .fch, .saf, .alm, .pst, .frg, .pnw, .evr, .cvu, .dsp, .boot, .sent] s u := by
  unfold execFtoi at h
  obtain rfl := Host.Outcome.next.inj h
  exact .comp (regOnly_changes _ _ _ _) rfl (.refl)

theorem execModbusWriteMultiple_frame {h : MbHdr} {start : BitVec 16} {qty : BitVec 16} {byteCount : ℕ} {vals : List (BitVec 16)} {s u : State} (h : execModbusWriteMultiple h start qty byteCount vals s = .next u) :
    Changes [.sup, .tim, .cyc, .cmp, .lpe, .fch, .alm, .pst, .frg, .pnw, .evr, .cvu, .dsp, .boot, .sent] s u := by
  unfold execModbusWriteMultiple at h
  obtain rfl := Host.Outcome.next.inj h
  exact .ite (fun _ => .refl) (fun _ => .ite (fun _ => .comp (mbException_changes _ _ _ _) rfl (.refl)) (fun _ => .comp (mbWriteReq_changes _ _ _ _ _ _) rfl (.refl)))

theorem execLaneStalled_frame {l : Lane} {s u : State} (h : execLaneStalled l s = .next u) :
    Changes [.sup, .nibA, .nibB, .cyc, .cmp, .fch, .saf, .alm, .pst, .frg, .pnw, .evr, .cvu, .dsp, .boot, .sent, .free] s u := by
  unfold execLaneStalled at h
  obtain rfl := Host.Outcome.next.inj h
  exact .comp (laneStalled_changes _ _) rfl (.refl)

theorem execCouplerFrame_frame {g : Fin 6} {st : Stream} {empty : ℕ} {bs : List Byte} {s u : State} (h : execCouplerFrame g st empty bs s = .next u) :
    Changes [.fch] s u := by
  unfold execCouplerFrame at h
  obtain rfl := Host.Outcome.next.inj h
  exact .comp (couplerFrame_changes _ _ _ _ _) rfl (.refl)

theorem execBnz_frame {o : Blk} {s u : State} (h : execBnz o s = .next u) :
    Changes [.sup, .nibA, .nibB, .cyc, .cmp, .fch, .saf, .alm, .pst, .frg, .pnw, .evr, .cvu, .dsp, .boot, .sent] s u := by
  unfold execBnz at h
  obtain rfl := Host.Outcome.next.inj h
  exact .comp (branch_changes _ _ _ _ _) rfl (.refl)

theorem execCycleT0_frame {s u : State} (h : execCycleT0 s = .next u) :
    Changes [.sup, .nibA, .nibB, .cyc, .cmp, .lpe, .fch, .saf, .alm, .pst, .frg, .pnw, .evr, .cvu, .dsp, .boot, .sent, .free] s u := by
  unfold execCycleT0 at h
  obtain rfl := Host.Outcome.next.inj h
  exact .comp (cycleT0_changes _) rfl (.refl)

theorem execCvuExpectWrite_frame {p : Path} {c : Fin 8} {v : Word} {s u : State} (h : execCvuExpectWrite p c v s = .next u) :
    Changes [.nibA, .nibB, .cyc, .pnw, .cvu, .sent] s u := by
  unfold execCvuExpectWrite at h
  obtain rfl := Host.Outcome.next.inj h
  exact .comp (ctxCommand_changes _ _ _ _ _) rfl (.refl)

theorem execRejoinLanes_frame {r : Req} {t : SelfTest} {s u : State} (h : execRejoinLanes r t s = .next u) :
    Changes [.cmp, .pst, .pnw, .evr, .sent] s u := by
  unfold execRejoinLanes at h
  obtain rfl := Host.Outcome.next.inj h
  exact .app (screenReq_changes rfl (fun _ => .app (acceptIf_changes rfl (fun _ => .ite (fun _ => .app (acceptBoth_changes rfl (fun _ => .comp (beginRejoin_changes _ _ _) rfl (.refl))) (.refl)) (fun _ => .comp (reply_changes _ _ _ _) rfl (.comp (beginRejoin_changes _ _ _) rfl (.refl))))) (.refl))) (.refl)

theorem execSeq_frame {o : Blk} {s u : State} (h : execSeq o s = .next u) :
    Changes [.sup, .nibA, .nibB, .cyc, .cmp, .fch, .saf, .alm, .pst, .frg, .pnw, .evr, .cvu, .dsp, .boot, .sent] s u := by
  unfold execSeq at h
  obtain rfl := Host.Outcome.next.inj h
  exact .comp (regReg_changes _ _ _ _) rfl (.refl)

theorem execTimel_frame {l : Lane} {d : BitVec 6} {a : BitVec 6} {s u : State} (h : execTimel l d a s = .next u) :
    Changes [.sup, .nibA, .nibB, .cyc, .cmp, .fch, .saf, .alm, .pst, .frg, .pnw, .evr, .cvu, .dsp, .boot, .sent] s u := by
  unfold execTimel at h
  obtain rfl := Host.Outcome.next.inj h
  exact .app (sysOp_changes rfl (fun _ => .comp (result_changes _ _ _ _) rfl (.refl))) (.refl)

theorem execRingPathLost_frame {p : Fin 2} {s u : State} (h : execRingPathLost p s = .next u) :
    Changes [.frg] s u := by
  unfold execRingPathLost at h
  obtain rfl := Host.Outcome.next.inj h
  exact .ite (fun _ => .comp (pathLoss_changes _) rfl (.comp (setRingPort_changes _ _ _) rfl (.comp (setRingPort_changes _ _ _) rfl (.refl)))) (fun _ => .refl)

theorem execTwinStepDigest_frame {x : SlRx Word} {s u : State} (h : execTwinStepDigest x s = .next u) :
    Changes [.nibA, .nibB, .cyc, .cmp, .pst, .evr, .cvu, .dsp, .sent] s u := by
  unfold execTwinStepDigest at h
  obtain rfl := Host.Outcome.next.inj h
  exact .app (slReceive_changes rfl (fun _ => .comp (twinStep_changes _ _) rfl (.refl)) (fun _ => .refl)) (.refl)

theorem execTrimSetPress_frame {s u : State} (h : execTrimSetPress s = .next u) :
    Changes [.fch, .pst, .evr, .sent] s u := by
  unfold execTrimSetPress at h
  obtain rfl := Host.Outcome.next.inj h
  exact .comp (trimSet_changes _) rfl (.refl)

theorem execAlcSend_frame {s u : State} (h : execAlcSend s = .next u) :
    Changes [.alm, .sent] s u := by
  unfold execAlcSend at h
  obtain rfl := Host.Outcome.next.inj h
  exact .ite (fun _ => .comp (sentence_changes _ _) rfl (.refl)) (fun _ => .refl)

theorem execInputDeadline_frame {s u : State} (h : execInputDeadline s = .next u) :
    Changes [.nibA, .nibB, .cyc, .cmp, .frg, .evr, .mtrLanes] s u := by
  unfold execInputDeadline at h
  obtain rfl := Host.Outcome.next.inj h
  exact .ite (fun _ => .refl) (fun _ => .app (.ite (fun _ => .comp (openWindow_changes _) rfl (.refl)) (fun _ => .refl)) (.comp (onFrg_changes _ _) rfl (.each (fun _ _ => .comp (deadlineStn_changes _ _) rfl (.refl)) (.refl))))

theorem execGroupLinkLost_frame {g : Fin 6} {s u : State} (h : execGroupLinkLost g s = .next u) :
    Changes [.fch, .saf, .alm, .pst, .evr, .dsp, .sent] s u := by
  unfold execGroupLinkLost at h
  obtain rfl := Host.Outcome.next.inj h
  exact .comp (linkLost_changes _ _) rfl (.refl)

theorem execSyncReceived_frame {p : Fin 2} {f : RingFrame} {s u : State} (h : execSyncReceived p f s = .next u) :
    Changes [.frg, .cvu, .sent, .free] s u := by
  unfold execSyncReceived at h
  obtain rfl := Host.Outcome.next.inj h
  exact .comp (syncReceived_changes _ _ _) rfl (.refl)

theorem execResetPinRelease_frame {s u : State} (h : execResetPinRelease s = .next u) :
    Changes [.sup, .free] s u := by
  unfold execResetPinRelease at h
  obtain rfl := Host.Outcome.next.inj h
  exact .comp (pinHigh_changes _) rfl (.refl)

theorem execPartnerOutputMismatch_frame {ch : Fin 96} {x : CrossRead} {s u : State} (h : execPartnerOutputMismatch ch x s = .next u) :
    Changes [.fch, .evr] s u := by
  unfold execPartnerOutputMismatch at h
  obtain rfl := Host.Outcome.next.inj h
  exact .comp (partnerCheck_changes _ _ _ _) rfl (.refl)

theorem execEvrPrev_frame {p : Path} {s u : State} (h : execEvrPrev p s = .next u) :
    Changes [.nibA, .nibB, .cyc, .pnw, .evr, .sent] s u := by
  unfold execEvrPrev at h
  obtain rfl := Host.Outcome.next.inj h
  exact .app (regCommand_changes rfl (fun _ _ _ => (.comp (evrWrite_changes _ _ _ _) rfl (.refl)))) (.refl)

theorem execOpenLoadDetect_frame {ch : Fin 96} {ma : BitVec 16} {s u : State} (h : execOpenLoadDetect ch ma s = .next u) :
    Changes [.fch, .evr] s u := by
  unfold execOpenLoadDetect at h
  obtain rfl := Host.Outcome.next.inj h
  exact .comp (openLoad_changes _ _ _) rfl (.refl)

theorem execReadbackDiagnosticsResume_frame {g : Fin 6} {s u : State} (h : execReadbackDiagnosticsResume g s = .next u) :
    Changes [.fch, .evr] s u := by
  unfold execReadbackDiagnosticsResume at h
  obtain rfl := Host.Outcome.next.inj h
  exact .ite (fun _ => .comp (requalAll_changes _ _) rfl (.comp (setGrp_changes _ _ _) rfl (.refl))) (fun _ => .refl)

theorem execScrubStep_frame {f : ScrubFound} {s u : State} (h : execScrubStep f s = .next u) :
    Changes [.sup, .nibA, .nibB, .cyc, .cmp, .fch, .saf, .alm, .pst, .frg, .pnw, .evr, .cvu, .dsp, .boot, .sent] s u := by
  unfold execScrubStep at h
  obtain rfl := Host.Outcome.next.inj h
  exact .comp (scrubStep_changes _ _) rfl (.refl)

theorem execImageWriteCommit_frame {r : Req} {h : Fin 2} {s u : State} (h : execImageWriteCommit r h s = .next u) :
    Changes [.flash, .pnw, .boot, .sent] s u := by
  unfold execImageWriteCommit at h
  obtain rfl := Host.Outcome.next.inj h
  exact .app (imageWrite_changes rfl (fun _ => .comp (writeCommit_changes _ _ _) rfl (.refl))) (.refl)

theorem execUnshelve_frame {r : Req} {p : BitVec 12} {s u : State} (h : execUnshelve r p s = .next u) :
    Changes [.alm, .pst, .pnw, .sent] s u := by
  unfold execUnshelve at h
  obtain rfl := Host.Outcome.next.inj h
  exact .comp (almFromSession_changes _ _ _) rfl (.refl)

theorem execCvuClaimWrite_frame {r : Req} {v : Word} {s u : State} (h : execCvuClaimWrite r v s = .next u) :
    Changes [.pnw, .cvu, .sent] s u := by
  unfold execCvuClaimWrite at h
  obtain rfl := Host.Outcome.next.inj h
  exact .app (sessionWrites_changes rfl (fun _ _ => (.comp (cvuWrite_changes _ _ _ _) rfl (.refl)))) (.refl)

theorem execSwap_frame {r : Req} {s u : State} (h : execSwap r s = .next u) :
    Changes [.pst, .pnw, .dsp, .sent] s u := by
  unfold execSwap at h
  obtain rfl := Host.Outcome.next.inj h
  exact .comp (pairCommand_changes _ _ _) rfl (.refl)

theorem execBrakeTestEdge_frame {n : Fin 16} {s u : State} (h : execBrakeTestEdge n s = .next u) :
    Changes [.fch, .saf, .evr] s u := by
  unfold execBrakeTestEdge at h
  obtain rfl := Host.Outcome.next.inj h
  exact .app (slotEvent_changes rfl (fun _ => .ite (fun _ => .comp (brakeTestStart_changes _ _) rfl (.refl)) (fun _ => .comp (setSlot_changes _ _ _) rfl (.refl)))) (.refl)

theorem execUnannouncedTakeover_frame {s u : State} (h : execUnannouncedTakeover s = .next u) :
    Changes [.sup, .nibA, .nibB, .cyc, .cmp, .lpe, .fch, .saf, .alm, .pst, .frg, .pnw, .evr, .dsp, .sent] s u := by
  unfold execUnannouncedTakeover at h
  obtain rfl := Host.Outcome.next.inj h
  exact .ite (fun _ => .comp (takeRole_changes _ _) rfl (.refl)) (fun _ => .comp (onPst_changes _ _) rfl (.refl))

theorem execDeltaLost_frame {s u : State} (h : execDeltaLost s = .next u) :
    Changes [.pst, .evr, .dsp] s u := by
  unfold execDeltaLost at h
  obtain rfl := Host.Outcome.next.inj h
  exact .ite (fun _ => .comp (notReady_changes _) rfl (.comp (post_changes _ _ _ _) rfl (.comp (onPst_changes _ _) rfl (.refl)))) (fun _ => .refl)

theorem execSlti_frame {o : Blk} {s u : State} (h : execSlti o s = .next u) :
    Changes [.sup, .nibA, .nibB, .cyc, .cmp, .fch, .saf, .alm, .pst, .frg, .pnw, .evr, .cvu, .dsp, .boot, .sent] s u := by
  unfold execSlti at h
  obtain rfl := Host.Outcome.next.inj h
  exact .comp (regImm_changes _ _ _ _) rfl (.refl)

theorem execPrpSupervisionSend_frame {s u : State} (h : execPrpSupervisionSend s = .next u) :
    Changes [.sent] s u := by
  unfold execPrpSupervisionSend at h
  obtain rfl := Host.Outcome.next.inj h
  exact .ite (fun _ => .comp (emitLan_changes _ _) rfl (.refl)) (fun _ => .refl)

theorem execDiscard_frame {r : Req} {s u : State} (h : execDiscard r s = .next u) :
    Changes [.chop, .sent] s u := by
  unfold execDiscard at h
  obtain rfl := Host.Outcome.next.inj h
  exact .app (verifierRequest_changes rfl (fun _ => .comp (verifierReply_changes _ _ _ _) rfl (.comp (onChop_changes _ _) rfl (.refl)))) (.refl)

theorem execOutputOverloadRetry_frame {ch : Fin 96} {limited : Bool} {s u : State} (h : execOutputOverloadRetry ch limited s = .next u) :
    Changes [.fch, .evr] s u := by
  unfold execOutputOverloadRetry at h
  obtain rfl := Host.Outcome.next.inj h
  exact .comp (overloadRetry_changes _ _ _) rfl (.refl)

theorem execAcnIgnored_frame {s u : State} (h : execAcnIgnored s = .next u) :
    Changes [.alm] s u := by
  unfold execAcnIgnored at h
  obtain rfl := Host.Outcome.next.inj h
  exact .comp (acnIgnored_changes _) rfl (.refl)

theorem execTimeMarkSend_frame {s u : State} (h : execTimeMarkSend s = .next u) :
    Changes [.pst, .sent] s u := by
  unfold execTimeMarkSend at h
  obtain rfl := Host.Outcome.next.inj h
  exact .ite (fun _ => .comp (slSend_changes _ _ _) rfl (.comp (slSend_changes _ _ _) rfl (.comp (slSend_changes _ _ _) rfl (.refl)))) (fun _ => .refl)

theorem execGovernorEvaluation_frame {avg : BitVec 16} {s u : State} (h : execGovernorEvaluation avg s = .next u) :
    Changes [.tim, .lpe, .pst, .evr, .dsp] s u := by
  unfold execGovernorEvaluation at h
  obtain rfl := Host.Outcome.next.inj h
  exact .comp (govern_changes _ _) rfl (.refl)

theorem execHelloReceived_frame {p : Fin 3} {x : SlRx Hello} {s u : State} (h : execHelloReceived p x s = .next u) :
    Changes [.pst, .pnw, .evr, .cvu, .boot, .sent] s u := by
  unfold execHelloReceived at h
  obtain rfl := Host.Outcome.next.inj h
  exact .comp (helloReceived_changes _ _ _) rfl (.refl)

theorem execTraceForce_frame {r : Req} {j : Fin 16} {s u : State} (h : execTraceForce r j s = .next u) :
    Changes [.lpe, .pnw, .sent] s u := by
  unfold execTraceForce at h
  obtain rfl := Host.Outcome.next.inj h
  exact .app (sessionWrites_changes rfl (fun _ _ => (.comp (lpeWrite_changes _ _ _ _) rfl (.refl)))) (.refl)

theorem execRem_frame {o : Blk} {s u : State} (h : execRem o s = .next u) :
    Changes [.sup, .nibA, .nibB, .cyc, .cmp, .fch, .saf, .alm, .pst, .frg, .pnw, .evr, .cvu, .dsp, .boot, .sent] s u := by
  unfold execRem at h
  obtain rfl := Host.Outcome.next.inj h
  exact .comp (noteDivz_changes _ _ _ _) rfl (.comp (regReg_changes _ _ _ _) rfl (.refl))

theorem execAuth_frame {m : Unsess} {sess : Word} {proof : List Byte} {s u : State} (h : execAuth m sess proof s = .next u) :
    Changes [.pnw, .evr, .sent] s u := by
  unfold execAuth at h
  obtain rfl := Host.Outcome.next.inj h
  exact .app (openReq_changes rfl (fun _ => .comp (auth_changes _ _ _ _) rfl (.refl))) (.refl)

theorem execCloseTrim_frame {r : Req} {s u : State} (h : execCloseTrim r s = .next u) :
    Changes [.fch, .pnw, .evr, .sent] s u := by
  unfold execCloseTrim at h
  obtain rfl := Host.Outcome.next.inj h
  exact .app (trimCommand_changes rfl (fun _ => .comp (discardTrim_changes _) rfl (.refl))) (.refl)

theorem execTrimRepeat_frame {upLow : Bool} {dnLow : Bool} {s u : State} (h : execTrimRepeat upLow dnLow s = .next u) :
    Changes [.fch, .evr] s u := by
  unfold execTrimRepeat at h
  obtain rfl := Host.Outcome.next.inj h
  exact .comp (trimMove_changes _) rfl (.comp (trimPins_changes _ _ _) rfl (.refl))

theorem execPanelStartSequence_frame {g : PanelIdent} {s u : State} (h : execPanelStartSequence g s = .next u) :
    Changes [.dsp] s u := by
  unfold execPanelStartSequence at h
  obtain rfl := Host.Outcome.next.inj h
  exact .ite (fun _ => .comp (panelStart_changes _ _) rfl (.refl)) (fun _ => .refl)

theorem execShl_frame {o : Blk} {s u : State} (h : execShl o s = .next u) :
    Changes [.sup, .nibA, .nibB, .cyc, .cmp, .fch, .saf, .alm, .pst, .frg, .pnw, .evr, .cvu, .dsp, .boot, .sent] s u := by
  unfold execShl at h
  obtain rfl := Host.Outcome.next.inj h
  exact .comp (regReg_changes _ _ _ _) rfl (.refl)

theorem execSharedInputTakeoverCheck_frame {ch : Fin 96} {agrees : Bool} {after10ms : Bool} {s u : State} (h : execSharedInputTakeoverCheck ch agrees after10ms s = .next u) :
    Changes [.fch, .evr] s u := by
  unfold execSharedInputTakeoverCheck at h
  obtain rfl := Host.Outcome.next.inj h
  exact .ite (fun _ => .comp (requal_changes _ _) rfl (.comp (setChan_changes _ _ _) rfl (.refl))) (fun _ => .refl)

theorem execAcnAcknowledge_frame {alert : ℕ} {s u : State} (h : execAcnAcknowledge alert s = .next u) :
    Changes [.alm, .pst, .sent] s u := by
  unfold execAcnAcknowledge at h
  obtain rfl := Host.Outcome.next.inj h
  exact .app (acn_changes rfl (fun _ _ => .comp (acnQueue_changes _ _) rfl (.refl)) (fun _ _ => .comp (acnQueue_changes _ _) rfl (.refl))) (.refl)

theorem execOr_frame {o : Blk} {s u : State} (h : execOr o s = .next u) :
    Changes [.sup, .nibA, .nibB, .cyc, .cmp, .fch, .saf, .alm, .pst, .frg, .pnw, .evr, .cvu, .dsp, .boot, .sent] s u := by
  unfold execOr at h
  obtain rfl := Host.Outcome.next.inj h
  exact .comp (regReg_changes _ _ _ _) rfl (.refl)

theorem execCvuDataFeed_frame {p : Path} {c : Fin 8} {i : Fin 256} {ws : List Word} {s u : State} (h : execCvuDataFeed p c i ws s = .next u) :
    Changes [.nibA, .nibB, .cyc, .alm, .pnw, .cvu, .sent] s u := by
  unfold execCvuDataFeed at h
  obtain rfl := Host.Outcome.next.inj h
  exact (by
   try dsimp only
   split
   · exact .each (fun _ _ => .app (laneWrites_changes rfl (fun _ _ => (.comp (cvuWrite_changes _ _ _ _) rfl (.refl)))) (.refl)) (.refl)
   · exact .app (sessionWrites_changes rfl (fun _ _ => (.ite (fun _ => (.refuse (.refl))) (fun _ => (.app (writeWords_changes rfl (fun _ _ _ => (.comp (cvuWrite_changes _ _ _ _) rfl (.refl)))) (.refl)))))) (.refl)
)

theorem execSagLatchTimer_frame {g : Fin 6} {s u : State} (h : execSagLatchTimer g s = .next u) :
    Changes [.fch, .saf, .evr] s u := by
  unfold execSagLatchTimer at h
  obtain rfl := Host.Outcome.next.inj h
  exact .comp (sagLatch_changes _ _) rfl (.refl)

theorem execModbusWriteSingle_frame {h : MbHdr} {reg : BitVec 16} {value : BitVec 16} {s u : State} (h : execModbusWriteSingle h reg value s = .next u) :
    Changes [.sup, .tim, .cyc, .cmp, .lpe, .fch, .alm, .pst, .frg, .pnw, .evr, .cvu, .dsp, .boot, .sent] s u := by
  unfold execModbusWriteSingle at h
  obtain rfl := Host.Outcome.next.inj h
  exact .ite (fun _ => .comp (mbWriteReq_changes _ _ _ _ _ _) rfl (.refl)) (fun _ => .refl)

theorem execOutputOverloadTrip_frame {ch : Fin 96} {s u : State} (h : execOutputOverloadTrip ch s = .next u) :
    Changes [.fch, .evr] s u := by
  unfold execOutputOverloadTrip at h
  obtain rfl := Host.Outcome.next.inj h
  exact .comp (overloadTrip_changes _ _) rfl (.refl)

theorem execAcnRequestRepeat_frame {alert : ℕ} {s u : State} (h : execAcnRequestRepeat alert s = .next u) :
    Changes [.alm] s u := by
  unfold execAcnRequestRepeat at h
  obtain rfl := Host.Outcome.next.inj h
  exact .app (acn_changes rfl (fun _ _ => .comp (almQueue_changes _ _) rfl (.refl)) (fun _ _ => .comp (almQueue_changes _ _) rfl (.refl))) (.refl)

theorem execCtd_frame {l : Lane} {d : BitVec 6} {a : BitVec 6} {s u : State} (h : execCtd l d a s = .next u) :
    Changes [.sup, .nibA, .nibB, .cyc, .cmp, .fch, .saf, .alm, .pst, .frg, .pnw, .evr, .cvu, .dsp, .boot, .sent] s u := by
  unfold execCtd at h
  obtain rfl := Host.Outcome.next.inj h
  exact .comp (recBlock_changes _ _ _ _ _ _ _ _) rfl (.refl)

theorem execImageWriteData_frame {r : Req} {h : Fin 2} {off : Word} {bs : List Byte} {programming : Bool} {s u : State} (h : execImageWriteData r h off bs programming s = .next u) :
    Changes [.flash, .pnw, .boot, .sent] s u := by
  unfold execImageWriteData at h
  obtain rfl := Host.Outcome.next.inj h
  exact .app (imageWrite_changes rfl (fun _ => .comp (writeData_changes _ _ _ _ _ _) rfl (.refl))) (.refl)

theorem execAddressConflict_frame {s u : State} (h : execAddressConflict s = .next u) :
    Changes [.pnw, .free] s u := by
  unfold execAddressConflict at h
  obtain rfl := Host.Outcome.next.inj h
  exact .ite (fun _ => .comp (takeLinkLocal_changes _) rfl (.comp (onPnw_changes _ _) rfl (.refl))) (fun _ => .refl)

theorem execChopExportStale_frame {s u : State} (h : execChopExportStale s = .next u) :
    Changes [.mtr] s u := by
  unfold execChopExportStale at h
  obtain rfl := Host.Outcome.next.inj h
  exact .ite (fun _ => .comp (onMtr_changes _ _) rfl (.refl)) (fun _ => .refl)

theorem execFmax_frame {o : Blk} {s u : State} (h : execFmax o s = .next u) :
    Changes [.sup, .nibA, .nibB, .cyc, .cmp, .fch, .saf, .alm, .pst, .frg, .pnw, .evr, .cvu, .dsp, .boot, .sent] s u := by
  unfold execFmax at h
  obtain rfl := Host.Outcome.next.inj h
  exact .comp (regReg_changes _ _ _ _) rfl (.refl)

theorem execInterlockPeerNetChange_frame {own : Bool} {peer : Bool} {s u : State} (h : execInterlockPeerNetChange own peer s = .next u) :
    Changes [.sup, .nibA, .nibB, .cyc, .cmp, .lpe, .fch, .saf, .alm, .pst, .frg, .pnw, .evr, .dsp, .sent] s u := by
  unfold execInterlockPeerNetChange at h
  obtain rfl := Host.Outcome.next.inj h
  exact .comp (netChange_changes _ _ _) rfl (.refl)

theorem execSlkInjectorWrite_frame {r : Req} {p : Fin 3} {v : Word} {s u : State} (h : execSlkInjectorWrite r p v s = .next u) :
    Changes [.pst, .frg, .pnw, .sent] s u := by
  unfold execSlkInjectorWrite at h
  obtain rfl := Host.Outcome.next.inj h
  exact .app (sessionWrites_changes rfl (fun _ _ => (.comp (injWrite_changes _ _ _ _ _) rfl (.refl)))) (.refl)

theorem execOpenTrim_frame {r : Req} {ch : Fin 96} {p : TrimPoint} {s u : State} (h : execOpenTrim r ch p s = .next u) :
    Changes [.fch, .pnw, .evr, .sent] s u := by
  unfold execOpenTrim at h
  obtain rfl := Host.Outcome.next.inj h
  exact .comp (openTrim_changes _ _ _ _) rfl (.refl)

theorem execOperatorSetpointWrite_frame {r : Req} {k : Fin 128} {v : Word} {s u : State} (h : execOperatorSetpointWrite r k v s = .next u) :
    Changes [.lpe, .pnw, .sent] s u := by
  unfold execOperatorSetpointWrite at h
  obtain rfl := Host.Outcome.next.inj h
  exact .app (sessionWrites_changes rfl (fun _ _ => (.comp (lpeWrite_changes _ _ _ _) rfl (.refl)))) (.refl)

theorem execBistTestSequence_frame {v : Verdict} {s u : State} (h : execBistTestSequence v s = .next u) :
    Changes [.sup, .nibA, .nibB, .cyc, .cmp, .fch, .saf, .alm, .pst, .frg, .pnw, .evr, .cvu, .dsp, .boot, .sent, .free] s u := by
  unfold execBistTestSequence at h
  obtain rfl := Host.Outcome.next.inj h
  exact .comp (bistSequence_changes _ _) rfl (.refl)

theorem execImageWriteBegin_frame {r : Req} {h : Fin 2} {s u : State} (h : execImageWriteBegin r h s = .next u) :
    Changes [.flash, .pnw, .boot, .sent] s u := by
  unfold execImageWriteBegin at h
  obtain rfl := Host.Outcome.next.inj h
  exact .app (imageWrite_changes rfl (fun _ => .comp (writeBegin_changes _ _ _) rfl (.refl))) (.refl)

theorem execInhibitTakeBack_frame {r : Req} {s u : State} (h : execInhibitTakeBack r s = .next u) :
    Changes [.pst, .pnw, .dsp, .sent] s u := by
  unfold execInhibitTakeBack at h
  obtain rfl := Host.Outcome.next.inj h
  exact .comp (pairCommand_changes _ _ _) rfl (.refl)

theorem execForceRelease_frame {r : Req} {t : ForceTarget} {s u : State} (h : execForceRelease r t s = .next u) :
    Changes [.cyc, .pst, .pnw, .sent] s u := by
  unfold execForceRelease at h
  obtain rfl := Host.Outcome.next.inj h
  exact .app (screenReq_changes rfl (fun _ => .comp (forceRequest_changes _ _ _ _) rfl (.refl))) (.refl)

theorem execTimeMarkReceived_frame {p : Fin 3} {ns : ℤ} {x : SlRx TimeMark} {s u : State} (h : execTimeMarkReceived p ns x s = .next u) :
    Changes [.pst, .pnw, .evr, .cvu, .sent] s u := by
  unfold execTimeMarkReceived at h
  obtain rfl := Host.Outcome.next.inj h
  exact .app (slReceive_changes rfl (fun _ => .comp (timeMark_changes _ _ _ _) rfl (.refl)) (fun _ => .refl)) (.refl)

theorem execTestpInputChange_frame {low : Bool} {s u : State} (h : execTestpInputChange low s = .next u) :
    Changes [.pst, .frg] s u := by
  unfold execTestpInputChange at h
  obtain rfl := Host.Outcome.next.inj h
  exact .app (.ite (fun _ => .refl) (fun _ => .comp (clearInjectors_changes _) rfl (.refl))) (.comp (onPst_changes _ _) rfl (.refl))

theorem execAlarmEvaluation_frame {us : BitVec 16} {s u : State} (h : execAlarmEvaluation us s = .next u) :
    Changes [.sup, .nibA, .nibB, .cyc, .cmp, .fch, .saf, .alm, .pst, .frg, .pnw, .evr, .cvu, .dsp, .boot, .sent] s u := by
  unfold execAlarmEvaluation at h
  obtain rfl := Host.Outcome.next.inj h
  exact .comp (alarmEvaluation_changes _ _) rfl (.refl)

theorem execCheckpointCompare_frame {badRail : Bool} {s u : State} (h : execCheckpointCompare badRail s = .next u) :
    Changes [.sup, .nibA, .nibB, .cyc, .cmp, .fch, .saf, .alm, .pst, .frg, .pnw, .evr, .cvu, .dsp, .boot, .sent] s u := by
  unfold execCheckpointCompare at h
  obtain rfl := Host.Outcome.next.inj h
  exact .comp (compareEntries_changes _ _) rfl (.refl)

theorem execTestPulseEnd_frame {ch : Fin 96} {p : PulseSeen} {s u : State} (h : execTestPulseEnd ch p s = .next u) :
    Changes [.fch, .evr] s u := by
  unfold execTestPulseEnd at h
  obtain rfl := Host.Outcome.next.inj h
  exact .comp (testPulseEnd_changes _ _ _) rfl (.refl)

theorem execEnterCommissioning_frame {r : Req} {s u : State} (h : execEnterCommissioning r s = .next u) :
    Changes [.sup, .pnw, .sent] s u := by
  unfold execEnterCommissioning at h
  obtain rfl := Host.Outcome.next.inj h
  exact .app (screenReq_changes rfl (fun _ => .app (acceptIf_changes rfl (fun _ => .comp (reply_changes _ _ _ _) rfl (.comp (onSup_changes _ _) rfl (.refl)))) (.refl))) (.refl)

theorem execTimeh_frame {l : Lane} {d : BitVec 6} {a : BitVec 6} {s u : State} (h : execTimeh l d a s = .next u) :
    Changes [.sup, .nibA, .nibB, .cyc, .cmp, .fch, .saf, .alm, .pst, .frg, .pnw, .evr, .cvu, .dsp, .boot, .sent] s u := by
  unfold execTimeh at h
  obtain rfl := Host.Outcome.next.inj h
  exact .app (sysOp_changes rfl (fun _ => .comp (result_changes _ _ _ _) rfl (.refl))) (.refl)

theorem execNtpPoll_frame {s u : State} (h : execNtpPoll s = .next u) :
    Changes [.pnw, .sent] s u := by
  unfold execNtpPoll at h
  obtain rfl := Host.Outcome.next.inj h
  exact .ite (fun _ => .comp (emitLan_changes _ _) rfl (.comp (onPnw_changes _ _) rfl (.refl))) (fun _ => .refl)

theorem execEvrNewest_frame {p : Path} {s u : State} (h : execEvrNewest p s = .next u) :
    Changes [.nibA, .nibB, .cyc, .pnw, .evr, .sent] s u := by
  unfold execEvrNewest at h
  obtain rfl := Host.Outcome.next.inj h
  exact .app (regCommand_changes rfl (fun _ _ _ => (.comp (evrWrite_changes _ _ _ _) rfl (.refl)))) (.refl)

theorem execTraceStop_frame {r : Req} {j : Fin 16} {s u : State} (h : execTraceStop r j s = .next u) :
    Changes [.lpe, .pnw, .sent] s u := by
  unfold execTraceStop at h
  obtain rfl := Host.Outcome.next.inj h
  exact .app (sessionWrites_changes rfl (fun _ _ => (.comp (lpeWrite_changes _ _ _ _) rfl (.refl)))) (.refl)

theorem execFle_frame {o : Blk} {s u : State} (h : execFle o s = .next u) :
    Changes [.sup, .nibA, .nibB, .cyc, .cmp, .fch, .saf, .alm, .pst, .frg, .pnw, .evr, .cvu, .dsp, .boot, .sent] s u := by
  unfold execFle at h
  obtain rfl := Host.Outcome.next.inj h
  exact .comp (regReg_changes _ _ _ _) rfl (.refl)

theorem execPanelFrameStart_frame {s u : State} (h : execPanelFrameStart s = .next u) :
    Changes [.evr, .dsp] s u := by
  unfold execPanelFrameStart at h
  obtain rfl := Host.Outcome.next.inj h
  exact .comp (panelFrame_changes _) rfl (.refl)

theorem execLoopTick_frame {mism : List (Fin 128)} {dlv : List (Fin 128)} {s u : State} (h : execLoopTick mism dlv s = .next u) :
    Changes [.sup, .nibA, .nibB, .cyc, .cmp, .lpe, .fch, .saf, .alm, .pst, .frg, .pnw, .evr, .cvu, .dsp, .boot, .sent] s u := by
  unfold execLoopTick at h
  obtain rfl := Host.Outcome.next.inj h
  exact .comp (loopTick_changes _ _ _) rfl (.refl)

theorem execTof_frame {l : Lane} {d : BitVec 6} {a : BitVec 6} {s u : State} (h : execTof l d a s = .next u) :
    Changes [.sup, .nibA, .nibB, .cyc, .cmp, .fch, .saf, .alm, .pst, .frg, .pnw, .evr, .cvu, .dsp, .boot, .sent] s u := by
  unfold execTof at h
  obtain rfl := Host.Outcome.next.inj h
  exact .comp (timerBlock_changes _ _ _ _ _ _) rfl (.refl)

theorem execOut_frame {o : Blk} {s u : State} (h : execOut o s = .next u) :
    Changes [.sup, .nibA, .nibB, .cyc, .cmp, .fch, .saf, .alm, .pst, .frg, .pnw, .evr, .cvu, .dsp, .boot, .sent] s u := by
  unfold execOut at h
  obtain rfl := Host.Outcome.next.inj h
  exact .comp (outOp_changes _ _) rfl (.refl)

theorem execEventsFromCursor_frame {r : Req} {count : BitVec 16} {s u : State} (h : execEventsFromCursor r count s = .next u) :
    Changes [.pnw, .sent] s u := by
  unfold execEventsFromCursor at h
  obtain rfl := Host.Outcome.next.inj h
  exact .comp (events_changes _ _ _ _) rfl (.refl)

theorem execPartnerConfirmation_frame {s u : State} (h : execPartnerConfirmation s = .next u) :
    Changes [.fch, .alm, .pst, .pnw, .dsp, .sent] s u := by
  unfold execPartnerConfirmation at h
  obtain rfl := Host.Outcome.next.inj h
  exact .comp (partnerConfirmed_changes _) rfl (.refl)

theorem execFlt_frame {o : Blk} {s u : State} (h : execFlt o s = .next u) :
    Changes [.sup, .nibA, .nibB, .cyc, .cmp, .fch, .saf, .alm, .pst, .frg, .pnw, .evr, .cvu, .dsp, .boot, .sent] s u := by
  unfold execFlt at h
  obtain rfl := Host.Outcome.next.inj h
  exact .comp (regReg_changes _ _ _ _) rfl (.refl)

theorem execCeilingUnattainable_frame {s u : State} (h : execCeilingUnattainable s = .next u) :
    Changes [.tim, .evr] s u := by
  unfold execCeilingUnattainable at h
  obtain rfl := Host.Outcome.next.inj h
  exact .ite (fun _ => .comp (raiseUnattain_changes _) rfl (.refl)) (fun _ => .refl)

theorem execRestartClassS_frame {r : Req} {s u : State} (h : execRestartClassS r s = .next u) :
    Changes [.sup, .nibA, .nibB, .cyc, .cmp, .fch, .saf, .alm, .pst, .pnw, .evr, .cvu, .dsp, .boot, .sent] s u := by
  unfold execRestartClassS at h
  obtain rfl := Host.Outcome.next.inj h
  exact .app (screenReq_changes rfl (fun _ => .comp (enterReset_changes _ _ _) rfl (.comp (reply_changes _ _ _ _) rfl (.refl)))) (.refl)

theorem execSltu_frame {o : Blk} {s u : State} (h : execSltu o s = .next u) :
    Changes [.sup, .nibA, .nibB, .cyc, .cmp, .fch, .saf, .alm, .pst, .frg, .pnw, .evr, .cvu, .dsp, .boot, .sent] s u := by
  unfold execSltu at h
  obtain rfl := Host.Outcome.next.inj h
  exact .comp (regReg_changes _ _ _ _) rfl (.refl)

theorem execShri_frame {o : Blk} {s u : State} (h : execShri o s = .next u) :
    Changes [.sup, .nibA, .nibB, .cyc, .cmp, .fch, .saf, .alm, .pst, .frg, .pnw, .evr, .cvu, .dsp, .boot, .sent] s u := by
  unfold execShri at h
  obtain rfl := Host.Outcome.next.inj h
  exact .comp (shiftImm_changes _ _ _ _) rfl (.refl)

theorem execEvrCursorWrite_frame {p : Path} {q : Word} {s u : State} (h : execEvrCursorWrite p q s = .next u) :
    Changes [.nibA, .nibB, .cyc, .pnw, .evr, .sent] s u := by
  unfold execEvrCursorWrite at h
  obtain rfl := Host.Outcome.next.inj h
  exact .app (regCommand_changes rfl (fun _ _ _ => (.comp (evrWrite_changes _ _ _ _) rfl (.refl)))) (.refl)

theorem execIn_frame {o : Blk} {s u : State} (h : execIn o s = .next u) :
    Changes [.sup, .nibA, .nibB, .cyc, .cmp, .fch, .saf, .alm, .pst, .frg, .pnw, .evr, .cvu, .dsp, .boot, .sent] s u := by
  unfold execIn at h
  obtain rfl := Host.Outcome.next.inj h
  exact .comp (inOp_changes _ _) rfl (.refl)

theorem execFloodWindowEnd_frame {s u : State} (h : execFloodWindowEnd s = .next u) :
    Changes [.evr] s u := by
  unfold execFloodWindowEnd at h
  obtain rfl := Host.Outcome.next.inj h
  exact .comp (floodSummaries_changes _) rfl (.refl)

theorem execCellstat_frame {l : Lane} {d : BitVec 6} {a : BitVec 6} {s u : State} (h : execCellstat l d a s = .next u) :
    Changes [.sup, .nibA, .nibB, .cyc, .cmp, .fch, .saf, .alm, .pst, .frg, .pnw, .evr, .cvu, .dsp, .boot, .sent] s u := by
  unfold execCellstat at h
  obtain rfl := Host.Outcome.next.inj h
  exact .app (sysOp_changes rfl (fun _ => .comp (cellstatOp_changes _ _ _) rfl (.refl))) (.refl)

theorem execInterlockStuck_frame {s u : State} (h : execInterlockStuck s = .next u) :
    Changes [.fch, .saf, .pst, .evr] s u := by
  unfold execInterlockStuck at h
  obtain rfl := Host.Outcome.next.inj h
  exact .ite (fun _ => .comp (applyOutputs_changes _) rfl (.comp (dropQen_changes _) rfl (.comp (post_changes _ _ _ _) rfl (.comp (onPst_changes _ _) rfl (.refl))))) (fun _ => .refl)

theorem execPlantPathLost_frame {p : Fin 2} {linkDown : Bool} {s u : State} (h : execPlantPathLost p linkDown s = .next u) :
    Changes [.pnw] s u := by
  unfold execPlantPathLost at h
  obtain rfl := Host.Outcome.next.inj h
  exact .comp (onPnw_changes _ _) rfl (.comp (setPnPort_changes _ _ _) rfl (.refl))

theorem execDspClear_frame {p : Path} {s u : State} (h : execDspClear p s = .next u) :
    Changes [.nibA, .nibB, .cyc, .pnw, .dsp, .sent] s u := by
  unfold execDspClear at h
  obtain rfl := Host.Outcome.next.inj h
  exact .app (byPath_changes rfl (fun _ => .comp (panelClear_changes _) rfl (.refl))) (.refl)

theorem execCallStage1_frame {g : Fin 8} {s u : State} (h : execCallStage1 g s = .next u) :
    Changes [.alm, .pnw, .evr, .dsp, .sent] s u := by
  unfold execCallStage1 at h
  obtain rfl := Host.Outcome.next.inj h
  exact .app (atInstant_changes rfl (fun _ => .ite (fun _ => .comp (callStage_changes _ _ _) rfl (.refl)) (fun _ => .refl))) (.refl)

theorem execJoinCopyComplete_frame {s u : State} (h : execJoinCopyComplete s = .next u) :
    Changes [.pst, .dsp] s u := by
  unfold execJoinCopyComplete at h
  obtain rfl := Host.Outcome.next.inj h
  exact .ite (fun _ => .comp (standbyDraw_changes _) rfl (.comp (requalify_changes _) rfl (.comp (onPst_changes _ _) rfl (.refl)))) (fun _ => .refl)

theorem execEdmTimeout_frame {p : Fin 24} {s u : State} (h : execEdmTimeout p s = .next u) :
    Changes [.fch, .saf, .evr] s u := by
  unfold execEdmTimeout at h
  obtain rfl := Host.Outcome.next.inj h
  exact .comp (edmTimeout_changes _ _) rfl (.refl)

theorem execTraceConfigWrite_frame {r : Req} {j : Fin 16} {reg : TraceReg} {v : Word} {s u : State} (h : execTraceConfigWrite r j reg v s = .next u) :
    Changes [.lpe, .pnw, .sent] s u := by
  unfold execTraceConfigWrite at h
  obtain rfl := Host.Outcome.next.inj h
  exact .app (sessionWrites_changes rfl (fun _ _ => .comp (lpeWrite_changes _ _ _ _) rfl .refl)) .refl

end Sys2Proof.Machine
end

