-- ==== Sys2Proof/Laws/Keeps.lean ====
section
/-! SUPPORT. How a property of the state that an operation keeps is carried along a chain of operations. -/

namespace Sys2Proof.Machine

/-- `t` has the property where `s` has it. -/
def Keeps (P : State → Prop) (s t : State) : Prop := P s → P t

/-- The same of a result that carries the state beside an answer. -/
def KeepsW {α : Type} (P : State → Prop) (s : State) (w : α × State) : Prop := P s → P w.2

theorem Keeps.refl {P : State → Prop} {s : State} : Keeps P s s := id

theorem Keeps.app {P : State → Prop} {s t u : State} (h : Keeps P t u) (h0 : Keeps P s t) : Keeps P s u := fun k => h (h0 k)

theorem Keeps.ite {P : State → Prop} {s a b : State} {c : Prop} [Decidable c] (ha : c → Keeps P s a)
    (hb : ¬c → Keeps P s b) : Keeps P s (if c then a else b) := by
  split
  · exact ha ‹_›
  · exact hb ‹_›

theorem Keeps.dite {P : State → Prop} {s : State} {c : Prop} [Decidable c] {a : c → State} {b : ¬c → State}
    (ha : ∀ h, Keeps P s (a h)) (hb : ∀ h, Keeps P s (b h)) : Keeps P s (if h : c then a h else b h) := by
  split
  · exact ha _
  · exact hb _

theorem Keeps.each {α : Type} {P : State → Prop} {s t : State} {f : α → State → State} {l : List α}
    (hf : ∀ a u, Keeps P u (f a u)) (h0 : Keeps P s t) : Keeps P s (forEach l f t) := by
  unfold forEach
  induction l generalizing t with
  | nil => exact h0
  | cons a l ih => exact ih (fun k => hf a t (h0 k))

theorem KeepsW.snd {α : Type} {P : State → Prop} {s : State} {w : α × State} (h : KeepsW P s w) : Keeps P s w.2 := h

theorem KeepsW.app {α : Type} {P : State → Prop} {s t : State} {w : α × State} (h : KeepsW P t w) (h0 : Keeps P s t) :
    KeepsW P s w := fun k => h (h0 k)

theorem KeepsW.ite {α : Type} {P : State → Prop} {s : State} {a b : α × State} {c : Prop} [Decidable c]
    (ha : c → KeepsW P s a) (hb : ¬c → KeepsW P s b) : KeepsW P s (if c then a else b) := by
  split
  · exact ha ‹_›
  · exact hb ‹_›

theorem KeepsW.dite {α : Type} {P : State → Prop} {s : State} {c : Prop} [Decidable c] {a : c → α × State}
    {b : ¬c → α × State} (ha : ∀ h, KeepsW P s (a h)) (hb : ∀ h, KeepsW P s (b h)) :
    KeepsW P s (if h : c then a h else b h) := by
  split
  · exact ha _
  · exact hb _

theorem KeepsW.pair {α : Type} {P : State → Prop} {s t : State} {st : α} (h : Keeps P s t) : KeepsW P s (st, t) := h

theorem KeepsW.done {P : State → Prop} {s t : State} (h : Keeps P s t) : KeepsW P s (Machine.done t) := h

theorem KeepsW.refuse {P : State → Prop} {s t : State} {st : BitVec 16} (h : Keeps P s t) :
    KeepsW P s (Machine.refuse st t) := h

/-- What leaves the pairs and slots alone keeps the pairs in order. -/
theorem Changes.pairs {T : List Part} {s t : State} (h : Changes T s t) (hT : T.contains .saf = false) : Keeps PairsOk s t := by
  have e : t.saf = s.saf := h .saf hT
  intro k
  unfold PairsOk
  rw [e]
  exact k

theorem ChangesW.pairs {α : Type} {T : List Part} {s : State} {w : α × State} (h : ChangesW T s w)
    (hT : T.contains .saf = false) : KeepsW PairsOk s w := Changes.pairs h hT

/-- What leaves the Inkwell alone keeps its ring in order. -/
theorem Changes.ring {T : List Part} {s t : State} (h : Changes T s t) (hT : T.contains .evr = false) : Keeps RingOk s t := by
  have e : t.evr = s.evr := h .evr hT
  intro k
  unfold RingOk
  rw [e]
  exact k

theorem ChangesW.ring {α : Type} {T : List Part} {s : State} {w : α × State} (h : ChangesW T s w)
    (hT : T.contains .evr = false) : KeepsW RingOk s w := Changes.ring h hT

end Sys2Proof.Machine
end

