-- ==== Sys2Proof/Laws/Pairs.lean ====
section
/-! SUPPORT. That every operation keeps the safe output pairs in order (R203, R229). -/

namespace Sys2Proof.Machine

/-! ### The pairs themselves -/

theorem pairOk_default : PairOk {} := by intro h; cases h

theorem pairOk_tget {t : Tab Pair} (h : ∀ p ∈ t, PairOk p.2) (i : Nat) : PairOk (tget {} t i) := by
  rcases tget_mem (d := ({} : Pair)) (t := t) (i := i) with e | e
  · rw [e]; exact pairOk_default
  · exact h _ e

theorem onSaf_pairs {f : Saf → Saf} {s : State} (h : (∀ p ∈ s.saf.pairs, PairOk p.2) → ∀ p ∈ (f s.saf).pairs, PairOk p.2) :
    Keeps PairsOk s (onSaf f s) := h

theorem onSaf_slots {f : Saf → Saf} {s : State} (h : ∀ x, (f x).pairs = x.pairs) : Keeps PairsOk s (onSaf f s) :=
  onSaf_pairs (by rw [h]; exact id)

theorem switchPair_off (now : Nat) (x : Pair) : PairOk (switchPair now false x) := by intro h; cases h

/-- What holds between a change of the Quill enables and the opening of the pairs it affects. -/
def PairsHalf (s : State) : Prop := ∀ p ∈ s.saf.pairs, p.2.on = true → p.2.len = true ∧ p.2.req = true ∧ latched p.2 = false

theorem pairsHalf_of {s : State} (h : PairsOk s) : PairsHalf s := fun p hp ho => (h p hp ho).2

theorem openPairs_half {s : State} (h : PairsHalf s) : PairsOk (openPairs s) := by
  intro p hp
  unfold openPairs onSaf at hp
  dsimp only at hp
  obtain ⟨q, hq, rfl⟩ := mem_tmap hp
  intro ho
  simp only [switchPair, Bool.and_eq_true] at ho
  obtain ⟨h1, h2, h3⟩ := h q hq ho.1.1
  exact ⟨ho.1.2, h1, h2, h3⟩

/-- One pair's state changed keeps the pairs in order where the change does. -/
theorem tmod_pairs {t : Tab Pair} {i : Nat} {f : Pair → Pair} (h : ∀ p ∈ t, PairOk p.2)
    (hf : PairOk (tget {} t i) → PairOk (f (tget {} t i))) : ∀ p ∈ tmod {} t i f, PairOk p.2 := by
  intro p hp
  rcases mem_tmod hp with rfl | hp
  · exact hf (pairOk_tget h i)
  · exact h p hp

theorem arriving_pairs {f : PrpRx} {k : State → State} {s : State} (h_k : ∀ u, Keeps PairsOk u (k u)) :
    Keeps PairsOk s (arriving f k s) := by
  unfold arriving
  exact .ite (fun _ => (setPnPort_changes _ _ _).pairs rfl) (fun _ => .ite (fun _ => .refl) (fun _ => .app (h_k _) ((noteFrame_changes _ _).pairs rfl)))

theorem relayed_pairs {r : Req} {k : State → State} {s : State} (h_k : ∀ u, Keeps PairsOk u (k u)) :
    Keeps PairsOk s (relayed r k s) := by
  unfold relayed
  exact .ite (fun _ => (emit_changes _ _).pairs rfl) (fun _ => .app (h_k _) (.refl))

theorem screenReq_pairs {r : Req} {lvl : BitVec 2} {decafOk : Bool} {k : State → State} {s : State} (h_k : ∀ u, Keeps PairsOk u (k u)) :
    Keeps PairsOk s (screenReq r lvl decafOk k s) := by
  unfold screenReq
  exact arriving_pairs (fun _ => .ite (fun _ => .refl) (fun _ => (by
   try dsimp only
   split
   · exact (discardMessage_changes _).pairs rfl
   · exact .ite (fun _ => (discardMessage_changes _).pairs rfl) (fun _ => .app (.ite (fun _ => (reply_changes _ _ _ _).pairs rfl) (fun _ => .ite (fun _ => relayed_pairs (fun _ => (reply_changes _ _ _ _).pairs rfl)) (fun _ => .ite (fun _ => (reply_changes _ _ _ _).pairs rfl) (fun _ => .ite (fun _ => (reply_changes _ _ _ _).pairs rfl) (fun _ => .ite (fun _ => (reply_changes _ _ _ _).pairs rfl) (fun _ => .ite (fun _ => (reply_changes _ _ _ _).pairs rfl) (fun _ => .app (h_k _) (.refl)))))))) ((setSession_changes _ _ _).pairs rfl))
)))

theorem slReceive_pairs {p : ℕ} {h : SlHdr} {k : State → State} {bad : State → State} {s : State} (h_k : ∀ u, Keeps PairsOk u (k u)) (h_bad : ∀ u, Keeps PairsOk u (bad u)) :
    Keeps PairsOk s (slReceive p h k bad s) := by
  unfold slReceive
  exact .ite (fun _ => .app (h_bad _) (.app ((setSlPort_changes _ _ _).pairs rfl) ((checkFailed_changes _ _).pairs rfl))) (fun _ => (by
   try dsimp only
   split
   · exact .refl
   · exact .app (h_k _) (.app ((noticeGap_changes _ _ _).pairs rfl) ((setSlPort_changes _ _ _).pairs rfl))
))

theorem forwardBoth_pairs {o : Origin} {c : FwdCmd} {apply : State → State} {s : State} (h_apply : ∀ u, Keeps PairsOk u (apply u)) :
    Keeps PairsOk s (forwardBoth o c apply s) := by
  unfold forwardBoth
  exact .app ((Changes.upd (T := [.pst]) .refl (.inr rfl) (.inr rfl) (.inr rfl) (.inr rfl) (.inr rfl) (.inr rfl) (.inr rfl) (.inr rfl) (.inr rfl) (.inr rfl) (.inr rfl) (.inr rfl) (.inr rfl) (.inl rfl) (.inr rfl) (.inr rfl) (.inr rfl) (.inr rfl) (.inr rfl) (.inr rfl) (.inr rfl) (.inr rfl) (.inr rfl) (.inr rfl) (.inr rfl)).pairs rfl) (.app ((forwardNow_changes _ _).pairs rfl) (.ite (fun _ => .app (h_apply _) (.refl)) (fun _ => .refl)))

theorem acceptWith_pairs {r : Req} {body : List Byte} {c : FwdCmd} {apply : State → State} {s : State} (h_apply : ∀ u, Keeps PairsOk u (apply u)) :
    Keeps PairsOk s (acceptWith r body c apply s) := by
  unfold acceptWith
  exact .ite (fun _ => forwardBoth_pairs (fun _ => .app (h_apply _) (.refl))) (fun _ => .app ((reply_changes _ _ _ _).pairs rfl) (.app (h_apply _) (.refl)))

theorem acceptBoth_pairs {r : Req} {c : FwdCmd} {apply : State → State} {s : State} (h_apply : ∀ u, Keeps PairsOk u (apply u)) :
    Keeps PairsOk s (acceptBoth r c apply s) := by
  unfold acceptBoth
  exact acceptWith_pairs (fun _ => .app (h_apply _) (.refl))

theorem acceptIf_pairs {r : Req} {ok : Bool} {st : BitVec 16} {k : State → State} {s : State} (h_k : ∀ u, Keeps PairsOk u (k u)) :
    Keeps PairsOk s (acceptIf r ok st k s) := by
  unfold acceptIf
  exact .ite (fun _ => .app (h_k _) (.refl)) (fun _ => (reply_changes _ _ _ _).pairs rfl)

theorem doneBoth_pairs {r : Req} {c : FwdCmd} {apply : State → State} {s : State} (h_apply : ∀ u, Keeps PairsOk u (apply u)) :
    KeepsW PairsOk s (doneBoth r c apply s) := by
  unfold doneBoth
  exact (.done (.ite (fun _ => forwardBoth_pairs (fun _ => .app (h_apply _) (.refl))) (fun _ => .app (h_apply _) (.refl))))

theorem answer_pairs {r : Req} {f : State → Written} {s : State} (h_f : ∀ u, KeepsW PairsOk u (f u)) :
    Keeps PairsOk s (answer r f s) := by
  unfold answer
  exact .ite (fun _ => KeepsW.snd (.app (h_f _) (.refl))) (fun _ => .app ((reply_changes _ _ _ _).pairs rfl) (KeepsW.snd (.app (h_f _) (.refl))))

theorem byLevel_pairs {w : Who} {l : BitVec 2} {k : State → Written} {s : State} (h_k : ∀ u, KeepsW PairsOk u (k u)) :
    KeepsW PairsOk s (byLevel w l k s) := by
  unfold byLevel
  exact (.ite (fun _ => (.app (h_k _) (.refl))) (fun _ => (.refuse (.refl))))

theorem byLaneOr_pairs {w : Who} {l : BitVec 2} {k : State → Written} {s : State} (h_k : ∀ u, KeepsW PairsOk u (k u)) :
    KeepsW PairsOk s (byLaneOr w l k s) := by
  unfold byLaneOr
  exact ((by
   try dsimp only
   split
   · exact (.app (h_k _) (.refl))
   · exact (byLevel_pairs (fun _ => (.app (h_k _) (.refl))))
))

theorem laneWrites_pairs {l : Lane} {judge : Word → State → Written} {s : State} {p : Word × Word} (h_judge : ∀ a0 u, KeepsW PairsOk u (judge a0 u)) :
    Keeps PairsOk s (laneWrites l judge s p) := by
  unfold laneWrites
  exact .ite (fun _ => .app (.ite (fun _ => (queueForTo_changes _ _ _).pairs rfl) (fun _ => .app ((objRefused_changes _).pairs rfl) (KeepsW.snd (.app (h_judge _ _) (.refl))))) ((setLane_changes _ _ _).pairs rfl)) (fun _ => .refl)

theorem sessionWrites_pairs {r : Req} {f : Who → State → Written} {s : State} (h_f : ∀ a0 u, KeepsW PairsOk u (f a0 u)) :
    Keeps PairsOk s (sessionWrites r f s) := by
  unfold sessionWrites
  exact screenReq_pairs (fun _ => .app ((reply_changes _ _ _ _).pairs rfl) (KeepsW.snd (.app (h_f _ _) (.refl))))

theorem regCommand_pairs {p : Path} {a : Word} {v : Word} {f : Who → Word → State → Written} {s : State} (h_f : ∀ a0 a1 u, KeepsW PairsOk u (f a0 a1 u)) :
    Keeps PairsOk s (regCommand p a v f s) := by
  unfold regCommand
  exact (by
   try dsimp only
   split
   · exact laneWrites_pairs (fun _ _ => (.app (h_f _ _ _) (.refl)))
   · exact sessionWrites_pairs (fun _ _ => (.app (h_f _ _ _) (.refl)))
)

theorem byPath_pairs {p : Path} {a : Word} {v : Word} {lvl : BitVec 2} {bad : State → Option (BitVec 16)} {k : State → State} {s : State} (h_k : ∀ u, Keeps PairsOk u (k u)) :
    Keeps PairsOk s (byPath p a v lvl bad k s) := by
  unfold byPath
  exact (by
   try dsimp only
   split
   · exact laneWrites_pairs (fun _ _ => ((by
     try dsimp only
     split
     · exact (.done (.refl))
     · exact (.refuse (.refl))
)))
   · exact screenReq_pairs (fun _ => (by
     try dsimp only
     split
     · exact .app ((reply_changes _ _ _ _).pairs rfl) (.app (h_k _) (.refl))
     · exact (reply_changes _ _ _ _).pairs rfl
))
)

theorem openPairs_pairs (s : State) : Keeps PairsOk s (openPairs s) := fun h => openPairs_half (pairsHalf_of h)

theorem setSlot_pairs (n : ℕ) (f : Slot → Slot) (s : State) : Keeps PairsOk s (setSlot n f s) := by
  unfold setSlot
  exact onSaf_slots (fun _ => rfl)

theorem slotTo_pairs (n : ℕ) (t : SlotState) (f : Slot → Slot) (s : State) : Keeps PairsOk s (slotTo n t f s) := by
  unfold slotTo
  exact .app (.ite (fun _ => .refl) (fun _ => (post_changes _ _ _ _).pairs rfl)) (setSlot_pairs _ _ _)

theorem demandSlot_pairs (n : ℕ) (delay : Bool) (s : State) : Keeps PairsOk s (demandSlot n delay s) := by
  unfold demandSlot
  exact slotTo_pairs _ _ _ _

theorem demandReleased_pairs (s : State) : Keeps PairsOk s (demandReleased s) := by
  unfold demandReleased
  exact .each (fun _ _ => demandSlot_pairs _ _ _) (.refl)

theorem dropQen_pairs (s : State) : Keeps PairsOk s (dropQen s) := by
  intro h
  refine openPairs_half (fun p hp ho => ?_)
  unfold onSaf at hp
  dsimp only at hp
  obtain ⟨q, hq, rfl⟩ := mem_tmap hp
  exact (h q hq ho).2

theorem releaseRole_pairs (reason : Byte) (s : State) : Keeps PairsOk s (releaseRole reason s) := by
  unfold releaseRole
  exact .ite (fun _ => .app (.app (.app (.app ((standbyDraw_changes _).pairs rfl) (.app ((standbyOutputs_changes _).pairs rfl) (.app ((applyOutputs_changes _).pairs rfl) (.app (dropQen_pairs _) (.app (demandReleased_pairs _) ((discardTrim_changes _).pairs rfl)))))) (.app ((onAlm_changes _ _).pairs rfl) ((post_changes _ _ _ _).pairs rfl))) ((onPst_changes _ _).pairs rfl)) ((slSend_changes _ _ _).pairs rfl)) (fun _ => .refl)

theorem resetSteps_pairs (c : ResetClass) (cause : Byte) (s : State) : Keeps PairsOk s (resetSteps c cause s) := by
  unfold resetSteps
  exact .app (.app (.app (.app (.app (.app (.app (.ite (fun _ => .refl) (fun _ => (panelAbort_changes _).pairs rfl)) (.app ((onAlm_changes _ _).pairs rfl) (.app ((onEvr_changes _ _).pairs rfl) ((startFlush_changes _).pairs rfl)))) (.app ((endSessions_changes _).pairs rfl) ((floodSummaries_changes _).pairs rfl))) (.app ((applyOutputs_changes _).pairs rfl) (dropQen_pairs _))) ((onSup_changes _ _).pairs rfl)) (.app ((onCyc_changes _ _).pairs rfl) (.app ((abandonMaint_changes _).pairs rfl) ((stopLanes_changes _).pairs rfl)))) ((discardTrim_changes _).pairs rfl)) (releaseRole_pairs _ _)

theorem enterReset_pairs (c : ResetClass) (cause : Byte) (s : State) : Keeps PairsOk s (enterReset c cause s) := by
  unfold enterReset
  exact (by
   try dsimp only
   split
   · exact .refl
   · exact .ite (fun _ => (onSup_changes _ _).pairs rfl) (fun _ => .refl)
   · exact .ite (fun _ => (onSup_changes _ _).pairs rfl) (fun _ => .refl)
   · exact resetSteps_pairs _ _ _
)

theorem enterSafe_pairs (s : State) : Keeps PairsOk s (enterSafe s) := by
  unfold enterSafe
  exact .app (.app (.app (.app (.app ((startFlush_changes _).pairs rfl) (.app ((standbyDraw_changes _).pairs rfl) (.app ((applyOutputs_changes _).pairs rfl) (openPairs_pairs _)))) ((onBoot_changes _ _).pairs rfl)) ((onSup_changes _ _).pairs rfl)) (.app ((abandonMaint_changes _).pairs rfl) (.app ((stopLanes_changes _).pairs rfl) ((discardTrim_changes _).pairs rfl)))) (.app ((onPst_changes _ _).pairs rfl) (.app (releaseRole_pairs _ _) ((endCommissioning_changes _).pairs rfl)))

theorem selfDiag_pairs (why : FaultReason) (s : State) : Keeps PairsOk s (selfDiag why s) := by
  unfold selfDiag
  exact .app (.ite (fun _ => .app (.ite (fun _ => .app (.ite (fun _ => enterReset_pairs _ _ _) (fun _ => .refl)) ((countFailure_changes _ _ _).pairs rfl)) (fun _ => .refl)) (enterSafe_pairs _)) (fun _ => .ite (fun _ => enterReset_pairs _ _ _) (fun _ => .refl))) (.app ((diagEvent_changes _).pairs rfl) ((post_changes _ _ _ _).pairs rfl))

theorem timeCheck_pairs (ticks : ℕ) (marks : ℕ) (s : State) : Keeps PairsOk s (timeCheck ticks marks s) := by
  unfold timeCheck
  exact .app (.app (.ite (fun _ => .app (selfDiag_pairs _ _) (.app ((applyOutputs_changes _).pairs rfl) (.app (dropQen_pairs _) (onSaf_slots (fun _ => rfl))))) (fun _ => .refl)) (.ite (fun _ => .app ((diagEvent_changes _).pairs rfl) ((post_changes _ _ _ _).pairs rfl)) (fun _ => .refl))) ((onTim_changes _ _).pairs rfl)

theorem shortLatch_pairs (i : Nat) (s : State) : Keeps PairsOk s (shortLatch i s) := by
  unfold shortLatch
  refine .ite (fun hc => onSaf_pairs (fun k => ?_)) (fun _ => .refl)
  dsimp only
  refine tmod_pairs k (fun _ ho => ?_)
  simp only [Bool.and_eq_true, Bool.not_eq_true'] at hc
  simp only [hc.2] at ho
  cases ho

theorem shortToSupply_pairs (i : ℕ) (v : ℤ) (s : State) : Keeps PairsOk s (shortToSupply i v s) := by
  unfold shortToSupply
  exact .ite (fun _ => .app (.ite (fun _ => .app (shortLatch_pairs _ _) ((onSet_changes _ _ _).pairs rfl)) (fun _ => .ite (fun _ => (onSet_changes _ _ _).pairs rfl) (fun _ => .refl))) ((setChan_changes _ _ _).pairs rfl)) (fun _ => .refl)

theorem latchPairs_pairs (l : List Nat) (f : Pair → Pair) (s : State) : Keeps PairsOk s (latchPairs l f s) := by
  unfold latchPairs
  refine .app ((applyOutputs_changes _).pairs rfl) (.each (fun _ _ => onSaf_pairs (fun k => ?_)) .refl)
  dsimp only
  exact tmod_pairs k (fun _ ho => by cases ho)

theorem sagLatch_pairs (g : ℕ) (s : State) : Keeps PairsOk s (sagLatch g s) := by
  unfold sagLatch
  exact .ite (fun _ => .app (latchPairs_pairs _ _ _) ((setGrp_changes _ _ _).pairs rfl)) (fun _ => .refl)

theorem linkLost_pairs (g : Nat) (s : State) : Keeps PairsOk s (linkLost g s) := by
  unfold linkLost
  exact .app (.ite (fun _ => .app (releaseRole_pairs _ _) .refl) (fun _ => .refl))
    (.each (fun _ _ => .app ((applyOutput_changes _ _).pairs rfl) .refl) (.app ((requalAll_changes _ _).pairs rfl)
    (.each (fun _ _ => onSaf_pairs (fun k => tmod_pairs k (fun _ => switchPair_off _ _)))
    (.app ((diagEvent_changes _).pairs rfl) (.app ((post_changes _ _ _ _).pairs rfl) (.app ((onFch_changes _ _).pairs rfl)
    (.app ((setGrp_changes _ _ _).pairs rfl) .refl)))))))

theorem maintEnter_pairs (g : ℕ) (s : State) : Keeps PairsOk s (maintEnter g s) := by
  unfold maintEnter
  exact .app (.app (.app (.app (latchPairs_pairs _ _ _) ((requalAll_changes _ _).pairs rfl)) ((post_changes _ _ _ _).pairs rfl)) ((setGrp_changes _ _ _).pairs rfl)) (.each (fun _ _ => (setChan_changes _ _ _).pairs rfl) (.refl))

theorem applyMaint_pairs (g : ℕ) (enter : Bool) (s : State) : Keeps PairsOk s (applyMaint g enter s) := by
  unfold applyMaint
  exact .ite (fun _ => (setGrp_changes _ _ _).pairs rfl) (fun _ => .ite (fun _ => maintEnter_pairs _ _) (fun _ => (maintLeave_changes _ _).pairs rfl))

theorem trimCommand_pairs {r : Req} {k : State → State} {s : State} (h_k : ∀ u, Keeps PairsOk u (k u)) :
    Keeps PairsOk s (trimCommand r k s) := by
  unfold trimCommand
  exact screenReq_pairs (fun _ => acceptIf_pairs (fun _ => .app ((reply_changes _ _ _ _).pairs rfl) (.app (h_k _) (.refl))))

theorem twoHand_pairs (n : ℕ) (blocked : Bool) (s : State) : Keeps PairsOk s (twoHand n blocked s) := by
  unfold twoHand
  exact .ite (fun _ => setSlot_pairs _ _ _) (fun _ => .ite (fun _ => .refl) (fun _ => .ite (fun _ => .ite (fun _ => setSlot_pairs _ _ _) (fun _ => slotTo_pairs _ _ _ _)) (fun _ => .ite (fun _ => setSlot_pairs _ _ _) (fun _ => .refl))))

theorem noteResponse_pairs (c : SlotCfg) (s : State) : Keeps PairsOk s (noteResponse c s) := by
  unfold noteResponse
  exact onSaf_slots (fun _ => rfl)

theorem evalSlot_pairs (n : ℕ) (s : State) : Keeps PairsOk s (evalSlot n s) := by
  unfold evalSlot
  exact (by
   try dsimp only
   split
   · exact .app (setSlot_pairs _ _ _) (setSlot_pairs _ _ _)
   · exact .ite (fun _ => .app (twoHand_pairs _ _ _) (setSlot_pairs _ _ _)) (fun _ => .ite (fun _ => setSlot_pairs _ _ _) (fun _ => .app (slotTo_pairs _ _ _ _) (setSlot_pairs _ _ _)))
   · exact .ite (fun _ => .app (demandSlot_pairs _ _ _) (.ite (fun _ => setSlot_pairs _ _ _) (fun _ => .app (noteResponse_pairs _ _) (setSlot_pairs _ _ _)))) (fun _ => setSlot_pairs _ _ _)
)

theorem slotFault_pairs (n : ℕ) (code : Byte) (s : State) : Keeps PairsOk s (slotFault n code s) := by
  unfold slotFault
  exact .ite (fun _ => .refl) (fun _ => slotTo_pairs _ _ _ _)

theorem refreshQen_pairs (s : State) : Keeps PairsOk s (refreshQen s) := by
  intro h
  unfold refreshQen
  refine (applyOutputs_changes _).pairs rfl (openPairs_half ?_)
  refine Keeps.each (P := PairsHalf) (fun a u k => ?_) Keeps.refl (pairsHalf_of h)
  intro p hp ho
  unfold onSaf at hp
  dsimp only at hp
  rcases mem_tmod hp with rfl | hp
  · rcases tget_mem (d := ({} : Pair)) (t := u.saf.pairs) (i := a) with e | e
    · simp only [e] at ho; cases ho
    · exact k (a, tget {} u.saf.pairs a) e ho
  · exact k p hp ho

theorem stuckStep_pairs (n : ℕ) (s : State) : Keeps PairsOk s (stuckStep n s) := by
  unfold stuckStep
  exact .ite (fun _ => .refl) (fun _ => .ite (fun _ => setSlot_pairs _ _ _) (fun _ => (by
   try dsimp only
   split
   · exact setSlot_pairs _ _ _
   · exact .ite (fun _ => setSlot_pairs _ _ _) (fun _ => .refl)
)))

theorem brakeTestStart_pairs (n : ℕ) (s : State) : Keeps PairsOk s (brakeTestStart n s) := by
  unfold brakeTestStart
  exact .app (refreshQen_pairs _) (.app (evalSlot_pairs _ _) (setSlot_pairs _ _ _))

theorem brakeTestDone_pairs (n : ℕ) (pass : Bool) (s : State) : Keeps PairsOk s (brakeTestDone n pass s) := by
  unfold brakeTestDone
  exact .app (.app ((post_changes _ _ _ _).pairs rfl) (.ite (fun _ => onSaf_slots (fun _ => rfl)) (fun _ => .refl))) (setSlot_pairs _ _ _)

theorem brakeTestStep_pairs (n : ℕ) (s : State) : Keeps PairsOk s (brakeTestStep n s) := by
  unfold brakeTestStep
  exact .ite (fun _ => .refl) (fun _ => .app (.ite (fun _ => brakeTestDone_pairs _ _ _) (fun _ => .refl)) (setSlot_pairs _ _ _))

theorem quillEvaluation_pairs (s : State) : Keeps PairsOk s (quillEvaluation s) := by
  unfold quillEvaluation
  exact .ite (fun _ => .app (refreshQen_pairs _) (.each (fun _ _ => .app (evalSlot_pairs _ _) (.app (brakeTestStep_pairs _ _) (stuckStep_pairs _ _))) (.refl))) (fun _ => refreshQen_pairs _)

theorem slotEvent_pairs {n : ℕ} {ok : SlotCfg → Slot → Bool} {f : State → State} {s : State} (h_f : ∀ u, Keeps PairsOk u (f u)) :
    Keeps PairsOk s (slotEvent n ok f s) := by
  unfold slotEvent
  exact (by
   try dsimp only
   split
   · exact .refl
   · exact .ite (fun _ => .app (refreshQen_pairs _) (.app (h_f _) (.refl))) (fun _ => .refl)
)

theorem ownPulse_pairs (n : ℕ) (k : ℕ) (ok : Bool) (s : State) : Keeps PairsOk s (ownPulse n k ok s) := by
  unfold ownPulse
  exact .app (.ite (fun _ => slotFault_pairs _ _ _) (fun _ => .refl)) (setSlot_pairs _ _ _)

theorem otherPulse_pairs (n : ℕ) (k : ℕ) (low : Bool) (s : State) : Keeps PairsOk s (otherPulse n k low s) := by
  unfold otherPulse
  exact .app (.ite (fun _ => slotFault_pairs _ _ _) (fun _ => .refl)) (setSlot_pairs _ _ _)

theorem periodUnchecked_pairs (n : ℕ) (p : PulseSamples) (s : State) : Keeps PairsOk s (periodUnchecked n p s) := by
  unfold periodUnchecked
  exact .ite (fun _ => setSlot_pairs _ _ _) (fun _ => .refl)

theorem testPulseCheck_pairs (n : ℕ) (p : PulseSamples) (s : State) : Keeps PairsOk s (testPulseCheck n p s) := by
  unfold testPulseCheck
  exact .app (slotEvent_pairs (fun _ => .ite (fun _ => ownPulse_pairs _ _ _ _) (fun _ => otherPulse_pairs _ _ _ _))) (periodUnchecked_pairs _ _ _)

theorem resetSlot_pairs (n : ℕ) (s : State) : Keeps PairsOk s (resetSlot n s) := by
  unfold resetSlot
  exact (by
   try dsimp only
   split
   · exact .ite (fun _ => .refl) (fun _ => slotTo_pairs _ _ _ _)
   · exact .ite (fun _ => slotTo_pairs _ _ _ _) (fun _ => .refl)
   · exact .refl
)

theorem clearLatches_pairs (p : Nat) (s : State) : Keeps PairsOk s (clearLatches p s) := by
  unfold clearLatches
  refine onSaf_pairs (fun k => ?_)
  dsimp only
  refine tmod_pairs k (fun hx ho => ?_)
  obtain ⟨h1, h2, h3, h4⟩ := hx ho
  refine ⟨h1, h2, h3, ?_⟩
  generalize tget {} s.saf.pairs p = x at h4
  simp only [latched, Bool.or_eq_false_iff] at h4 ⊢
  obtain ⟨⟨⟨⟨a, b⟩, c⟩, d⟩, e⟩ := h4
  simp only [a, b, c, d, e, Bool.false_and, and_self]

theorem resetDemand_pairs (i : ℕ) (ms : ℕ) (s : State) : Keeps PairsOk s (resetDemand i ms s) := by
  unfold resetDemand
  exact .ite (fun _ => .refl) (fun _ => .ite (fun _ => .each (fun _ _ => setSlot_pairs _ _ _) (.refl)) (fun _ => .app (.app (refreshQen_pairs _) (.each (fun _ _ => resetSlot_pairs _ _) (.refl))) (.each (fun _ _ => clearLatches_pairs _ _) (.refl))))

theorem setPair_pairs {p : Nat} {f : Pair → Pair} {s : State} (h : ∀ x, PairOk x → PairOk (f x)) :
    Keeps PairsOk s (setPair p f s) := onSaf_pairs (fun k => tmod_pairs k (h _))

theorem switchOffTest_pairs (p : Nat) (side : Side) (v : Int) (s : State) :
    Keeps PairsOk s (switchOffTest p side v s) := by
  unfold switchOffTest
  refine .ite (fun _ => .app (.ite (fun _ => .app (refreshQen_pairs _) (.app (latchPairs_pairs _ _ _)
    (.app ((post_changes _ _ _ _).pairs rfl) .refl))) (fun _ => .refl)) (setPair_pairs (fun x hx => ?_))) (fun _ => .refl)
  cases side <;> exact hx

theorem edmFault_pairs (p : ℕ) (s : State) : Keeps PairsOk s (edmFault p s) := by
  unfold edmFault
  exact .app (latchPairs_pairs _ _ _) ((post_changes _ _ _ _).pairs rfl)

theorem edmTimeout_pairs (p : ℕ) (s : State) : Keeps PairsOk s (edmTimeout p s) := by
  unfold edmTimeout
  exact .ite (fun _ => .app (refreshQen_pairs _) (edmFault_pairs _ _)) (fun _ => .refl)

theorem pairAtTo_pairs (p : Nat) (s : State) : Keeps PairsOk s (pairAtTo p s) := by
  unfold pairAtTo
  refine .app (.ite (fun _ => edmFault_pairs _ _) (fun _ => .refl)) (onSaf_pairs (fun k => ?_))
  dsimp only
  refine tmod_pairs k (fun _ ho => ?_)
  simp only [switchPair, Bool.and_eq_true, pairMay, Bool.not_eq_true', latched] at ho ⊢
  simp_all

theorem pairsAtTo_pairs (s : State) : Keeps PairsOk s (pairsAtTo s) := by
  unfold pairsAtTo
  exact .each (fun _ _ => pairAtTo_pairs _ _) (.refl)

theorem brakeFeedback_pairs (n : ℕ) (s : State) : Keeps PairsOk s (brakeFeedback n s) := by
  unfold brakeFeedback
  exact slotEvent_pairs (fun _ => .ite (fun _ => slotFault_pairs _ _ _) (fun _ => .ite (fun _ => slotFault_pairs _ _ _) (fun _ => .refl)))

theorem ageSlot_pairs (n : ℕ) (s : State) : Keeps PairsOk s (ageSlot n s) := by
  unfold ageSlot
  exact .app (.ite (fun _ => (post_changes _ _ _ _).pairs rfl) (fun _ => .refl)) (onSaf_slots (fun _ => rfl))

theorem quillStreamLost_pairs (g : Nat) (s : State) : Keeps PairsOk s (quillStreamLost g s) := by
  unfold quillStreamLost
  exact .app (.app (quillEvaluation_pairs _) (.each (fun _ _ => setPair_pairs (fun _ _ => switchPair_off _ _)) .refl))
    ((setGrp_changes _ _ _).pairs rfl)

theorem ctxWrite_pairs {w : Who} {c : ℕ} {k : State → Written} {s : State} (h_k : ∀ u, KeepsW PairsOk u (k u)) :
    KeepsW PairsOk s (ctxWrite w c k s) := by
  unfold ctxWrite
  exact (.ite (fun _ => (.app (h_k _) (.refl))) (fun _ => (.refuse ((onCvu_changes _ _).pairs rfl))))

theorem writeRun_pairs {f : Nat → Word → State → Written} {off : Nat} {ws : List Word} {s : State}
    (h_f : ∀ a0 a1 u, KeepsW PairsOk u (f a0 a1 u)) : KeepsW PairsOk s (writeRun f off ws s) := by
  induction ws generalizing off s with
  | nil => exact .done .refl
  | cons v vs ih =>
    unfold writeRun
    exact .ite (fun _ => .app ih (KeepsW.snd (h_f _ _ _))) (fun _ => h_f _ _ _)

theorem writeWords_pairs {f : ℕ → Word → State → Written} {off : ℕ} {ws : List Word} {s : State} (h_f : ∀ a0 a1 u, KeepsW PairsOk u (f a0 a1 u)) :
    KeepsW PairsOk s (writeWords f off ws s) := by
  unfold writeWords
  exact (.ite (fun _ => (writeRun_pairs (fun _ _ _ => (.app (h_f _ _ _) (.refl))))) (fun _ => (.pair ((keepRefusals_changes _ _).pairs rfl))))

theorem loopMismatch_pairs (k : ℕ) (s : State) : Keeps PairsOk s (loopMismatch k s) := by
  unfold loopMismatch
  exact .app (.app (.app (.ite (fun _ => selfDiag_pairs _ _) (fun _ => .refl)) (.app ((diagEvent_changes _).pairs rfl) ((post_changes _ _ _ _).pairs rfl))) ((onLpe_changes _ _).pairs rfl)) ((setLoop_changes _ _ _).pairs rfl)

theorem sampleUnit_pairs (mism : List ℕ) (dlv : List ℕ) (h : ℕ) (s : State) : Keeps PairsOk s (sampleUnit mism dlv h s) := by
  unfold sampleUnit
  exact .app (.ite (fun _ => .each (fun _ _ => (setLoop_changes _ _ _).pairs rfl) (.refl)) (fun _ => .ite (fun _ => .app (.app ((setLoop_changes _ _ _).pairs rfl) (loopMismatch_pairs _ _)) (.each (fun _ _ => .ite (fun _ => loopMismatch_pairs _ _) (fun _ => (setLoop_changes _ _ _).pairs rfl)) (.refl))) (fun _ => .app (.app (.ite (fun _ => .refl) (fun _ => (deliver_changes _ _).pairs rfl)) ((setLoop_changes _ _ _).pairs rfl)) (.each (fun _ _ => .ite (fun _ => loopMismatch_pairs _ _) (fun _ => (evalLoop_changes _ _).pairs rfl)) (.refl))))) (.each (fun _ _ => (loopRequests_changes _ _).pairs rfl) (.refl))

theorem loopTick_pairs (mism : List ℕ) (dlv : List ℕ) (s : State) : Keeps PairsOk s (loopTick mism dlv s) := by
  unfold loopTick
  exact .ite (fun _ => .app ((traceTick_changes _ _).pairs rfl) (.each (fun _ _ => sampleUnit_pairs _ _ _ _) (.refl))) (fun _ => .refl)

theorem loopHandoff_pairs (t : BitVec 16) (s : State) : Keeps PairsOk s (loopHandoff t s) := by
  unfold loopHandoff
  exact .ite (fun _ => .app (.ite (fun _ => selfDiag_pairs _ _) (fun _ => (handOff_changes _).pairs rfl)) ((onLpe_changes _ _).pairs rfl)) (fun _ => .refl)

theorem goto_pairs (l : Lane) (target : Word) (s : State) : Keeps PairsOk s (goto l target s) := by
  unfold goto
  exact .ite (fun _ => (setLane_changes _ _ _).pairs rfl) (fun _ => selfDiag_pairs _ _)

theorem next_pairs (l : Lane) (s : State) : Keeps PairsOk s (next l s) := by
  unfold next
  exact goto_pairs _ _ _

theorem blockOp_pairs {l : Lane} {w : Word} {legal : Bool} {k : State → State} {s : State} (h_k : ∀ u, Keeps PairsOk u (k u)) :
    Keeps PairsOk s (blockOp l w legal k s) := by
  unfold blockOp
  exact .ite (fun _ => .refl) (fun _ => .ite (fun _ => selfDiag_pairs _ _) (fun _ => .app (h_k _) ((setLane_changes _ _ _).pairs rfl)))

theorem writesD_pairs (op : BitVec 8) (o : Blk) (legal : Bool) (f : LaneSt → Word) (s : State) : Keeps PairsOk s (writesD op o legal f s) := by
  unfold writesD
  exact blockOp_pairs (fun _ => .app (next_pairs _ _) ((setLane_changes _ _ _).pairs rfl))

theorem regReg_pairs (op : BitVec 8) (o : Blk) (f : Word → Word → Word) (s : State) : Keeps PairsOk s (regReg op o f s) := by
  unfold regReg
  exact writesD_pairs _ _ _ _ _

theorem regImm_pairs (op : BitVec 8) (o : Blk) (f : Word → Word) (s : State) : Keeps PairsOk s (regImm op o f s) := by
  unfold regImm
  exact writesD_pairs _ _ _ _ _

theorem regOnly_pairs (op : BitVec 8) (o : Blk) (f : Word → Word) (s : State) : Keeps PairsOk s (regOnly op o f s) := by
  unfold regOnly
  exact writesD_pairs _ _ _ _ _

theorem nopWord_pairs (l : Lane) (w : Word) (s : State) : Keeps PairsOk s (nopWord l w s) := by
  unfold nopWord
  exact .ite (fun _ => blockOp_pairs (fun _ => next_pairs _ _)) (fun _ => .ite (fun _ => blockOp_pairs (fun _ => .refl)) (fun _ => .refl))

theorem branch_pairs (op : BitVec 8) (o : Blk) (legal : Bool) (c : Word → Bool) (s : State) : Keeps PairsOk s (branch op o legal c s) := by
  unfold branch
  exact blockOp_pairs (fun _ => .ite (fun _ => goto_pairs _ _ _) (fun _ => next_pairs _ _))

theorem jmpOp_pairs (o : Blk) (s : State) : Keeps PairsOk s (jmpOp o s) := by
  unfold jmpOp
  exact blockOp_pairs (fun _ => goto_pairs _ _ _)

theorem callOp_pairs (o : Blk) (s : State) : Keeps PairsOk s (callOp o s) := by
  unfold callOp
  exact blockOp_pairs (fun _ => .app (goto_pairs _ _ _) ((setLane_changes _ _ _).pairs rfl))

theorem shiftImm_pairs (op : BitVec 8) (o : Blk) (f : Word → ℕ → Word) (s : State) : Keeps PairsOk s (shiftImm op o f s) := by
  unfold shiftImm
  exact writesD_pairs _ _ _ _ _

theorem loadOp_pairs (op : BitVec 8) (o : Blk) (legal : Bool) (ea : LaneSt → Word) (s : State) : Keeps PairsOk s (loadOp op o legal ea s) := by
  unfold loadOp
  exact blockOp_pairs (fun _ => .ite (fun _ => .app (next_pairs _ _) ((setLane_changes _ _ _).pairs rfl)) (fun _ => selfDiag_pairs _ _))

theorem storeOp_pairs (op : BitVec 8) (o : Blk) (legal : Bool) (ea : LaneSt → Word) (s : State) : Keeps PairsOk s (storeOp op o legal ea s) := by
  unfold storeOp
  exact blockOp_pairs (fun _ => .ite (fun _ => .ite (fun _ => selfDiag_pairs _ _) (fun _ => .app (next_pairs _ _) (.ite (fun _ => .refl) (fun _ => (setLane_changes _ _ _).pairs rfl)))) (fun _ => selfDiag_pairs _ _))

theorem inOp_pairs (o : Blk) (s : State) : Keeps PairsOk s (inOp o s) := by
  unfold inOp
  exact blockOp_pairs (fun _ => .ite (fun _ => .app (.app (next_pairs _ _) ((setLane_changes _ _ _).pairs rfl)) (.ite (fun _ => (setCell_changes _ _ _).pairs rfl) (fun _ => .refl))) (fun _ => selfDiag_pairs _ _))

theorem outOp_pairs (o : Blk) (s : State) : Keeps PairsOk s (outOp o s) := by
  unfold outOp
  exact blockOp_pairs (fun _ => .ite (fun _ => .app (.app (next_pairs _ _) (.ite (fun _ => (onCmp_changes _ _).pairs rfl) (fun _ => (setLane_changes _ _ _).pairs rfl))) ((setLane_changes _ _ _).pairs rfl)) (fun _ => selfDiag_pairs _ _))

theorem cellIn_pairs (o : Blk) (s : State) : Keeps PairsOk s (cellIn o s) := by
  unfold cellIn
  exact blockOp_pairs (fun _ => .ite (fun _ => .app (next_pairs _ _) (.app ((checkpoint_changes _ _ _ _).pairs rfl) ((setLane_changes _ _ _).pairs rfl))) (fun _ => selfDiag_pairs _ _))

theorem cellOut_pairs (o : Blk) (s : State) : Keeps PairsOk s (cellOut o s) := by
  unfold cellOut
  exact blockOp_pairs (fun _ => .ite (fun _ => .app (next_pairs _ _) (.app ((checkpoint_changes _ _ _ _).pairs rfl) ((setLane_changes _ _ _).pairs rfl))) (fun _ => selfDiag_pairs _ _))

theorem sysOp_pairs {n : BitVec 12} {l : Lane} {d : BitVec 6} {a : BitVec 6} {legal : Bool} {k : State → State} {s : State} (h_k : ∀ u, Keeps PairsOk u (k u)) :
    Keeps PairsOk s (sysOp n l d a legal k s) := by
  unfold sysOp
  exact blockOp_pairs (fun _ => .app (next_pairs _ _) (.app (h_k _) (.refl)))

theorem recBlock_pairs (num : BitVec 12) (n : ℕ) (l : Lane) (d : BitVec 6) (a : BitVec 6) (stores : Bool) (k : ℕ → LaneSt → LaneSt × Word) (s : State) : Keeps PairsOk s (recBlock num n l d a stores k s) := by
  unfold recBlock
  exact blockOp_pairs (fun _ => .ite (fun _ => selfDiag_pairs _ _) (fun _ => .ite (fun _ => selfDiag_pairs _ _) (fun _ => .app (next_pairs _ _) ((setLane_changes _ _ _).pairs rfl))))

theorem timerBlock_pairs (num : BitVec 12) (step : Bool → ℕ → TimerRec → TimerRec) (l : Lane) (d : BitVec 6) (a : BitVec 6) (s : State) : Keeps PairsOk s (timerBlock num step l d a s) := by
  unfold timerBlock
  exact recBlock_pairs _ _ _ _ _ _ _ _

theorem ringArrive_pairs {p : Fin 2} {f : RingFrame} {pass : State → State} {k : State → State} {s : State} (h_pass : ∀ u, Keeps PairsOk u (pass u)) (h_k : ∀ u, Keeps PairsOk u (k u)) :
    Keeps PairsOk s (ringArrive p f pass k s) := by
  unfold ringArrive
  exact .ite (fun _ => .refl) (fun _ => .ite (fun _ => .app ((ringSupervised_changes _ _).pairs rfl) (.app (h_pass _) (.refl))) (fun _ => .app (.ite (fun _ => .refl) (fun _ => .app (h_k _) (.refl))) (.app (h_pass _) (.refl))))

theorem ringTake_pairs {p : Fin 2} {f : RingFrame} {want : Word} {k : Word → State → State} {s : State} (h_k : ∀ a0 u, Keeps PairsOk u (k a0 u)) :
    Keeps PairsOk s (ringTake p f want k s) := by
  unfold ringTake
  exact .ite (fun _ => .app (h_k _ _) ((ringValid_changes _ _).pairs rfl)) (fun _ => (ringInvalid_changes _ _).pairs rfl)

theorem ringAccept_pairs {p : Fin 2} {kind : Byte} {f : RingFrame} {want : Word} {k : Word → State → State} {s : State} (h_k : ∀ a0 u, Keeps PairsOk u (k a0 u)) :
    Keeps PairsOk s (ringAccept p kind f want k s) := by
  unfold ringAccept
  exact ringArrive_pairs (fun _ => (ringForward_changes _ _ _).pairs rfl) (fun _ => .ite (fun _ => .refl) (fun _ => ringTake_pairs (fun _ _ => .app (h_k _ _) (.refl))))

theorem linkAccept_pairs {p : Fin 2} {kind : Byte} {f : RingFrame} {k : State → State} {s : State} (h_k : ∀ u, Keeps PairsOk u (k u)) :
    Keeps PairsOk s (linkAccept p kind f k s) := by
  unfold linkAccept
  exact ringAccept_pairs (fun _ _ => .app (h_k _) ((setRingPort_changes _ _ _).pairs rfl))

theorem cmpFault_pairs (reason : Byte) (cell : BitVec 12) (why : FaultReason) (s : State) : Keeps PairsOk s (cmpFault reason cell why s) := by
  unfold cmpFault
  exact .app (selfDiag_pairs _ _) ((onCmp_changes _ _).pairs rfl)

theorem checkedVerdict_pairs (v : Verdict) (cell : BitVec 12) (s : State) : Keeps PairsOk s (checkedVerdict v cell s) := by
  unfold checkedVerdict
  exact (by
   try dsimp only
   split
   · exact cmpFault_pairs _ _ _ _
   · exact cmpFault_pairs _ _ _ _
   · exact cmpFault_pairs _ _ _ _
   · exact cmpFault_pairs _ _ _ _
   · exact cmpFault_pairs _ _ _ _
   · exact (onCmp_changes _ _).pairs rfl
   · exact .refl
)

theorem compareEntries_pairs (badRail : Bool) (s : State) : Keeps PairsOk s (compareEntries badRail s) := by
  unfold compareEntries
  exact (by
   try dsimp only
   split
   · exact .app (.app (.ite (fun _ => .refl) (fun _ => .ite (fun _ => (sendClosed_changes _ _).pairs rfl) (fun _ => .refl))) (.ite (fun _ => (observedVerdict_changes _ _).pairs rfl) (fun _ => checkedVerdict_pairs _ _ _))) ((onCmp_changes _ _).pairs rfl)
   · exact .refl
)

theorem compareStalled_pairs (s : State) : Keeps PairsOk s (compareStalled s) := by
  unfold compareStalled
  exact (by
   try dsimp only
   split
   · exact .ite (fun _ => (observed_changes _ _).pairs rfl) (fun _ => cmpFault_pairs _ _ _ _)
   · exact .refl
)

theorem laneStalled_pairs (l : Lane) (s : State) : Keeps PairsOk s (laneStalled l s) := by
  unfold laneStalled
  exact .ite (fun _ => .ite (fun _ => (observed_changes _ _).pairs rfl) (fun _ => .app (cmpFault_pairs _ _ _ _) ((takeFree_changes _).pairs rfl))) (fun _ => .refl)

theorem endOp_pairs (o : Blk) (s : State) : Keeps PairsOk s (endOp o s) := by
  unfold endOp
  exact blockOp_pairs (fun _ => .ite (fun _ => .app ((splitOutputs_changes _).pairs rfl) (.app ((checkpoint_changes _ _ _ _).pairs rfl) ((setLane_changes _ _ _).pairs rfl))) (fun _ => selfDiag_pairs _ _))

theorem digestComplete_pairs (s : State) : Keeps PairsOk s (digestComplete s) := by
  unfold digestComplete
  exact .ite (fun _ => .refl) (fun _ => .ite (fun _ => .app (cmpFault_pairs _ _ _ _) ((onCmp_changes _ _).pairs rfl)) (fun _ => .ite (fun _ => .app (cmpFault_pairs _ _ _ _) ((onCmp_changes _ _).pairs rfl)) (fun _ => (benign_changes _ _).pairs rfl)))

theorem alarmEvaluation_pairs (us : BitVec 16) (s : State) : Keeps PairsOk s (alarmEvaluation us s) := by
  unfold alarmEvaluation
  exact .ite (fun _ => .refl) (fun _ => .app (.app (.app (.app (.app (.app (.ite (fun _ => selfDiag_pairs _ _) (fun _ => .refl)) ((alarmRefresh_changes _).pairs rfl)) (.app ((keepPoints_changes _).pairs rfl) ((onAlm_changes _ _).pairs rfl))) (.each (fun _ _ => (callStep_changes _ _ _ _).pairs rfl) (.refl))) (.each (fun _ _ => (cellStep_changes _ _ _).pairs rfl) (.refl))) ((onAlm_changes _ _).pairs rfl)) (.each (fun _ _ => (evalPoint_changes _ _).pairs rfl) ((almCommands_changes _).pairs rfl)))

theorem atInstant_pairs {k : State → State} {s : State} (h_k : ∀ u, Keeps PairsOk u (k u)) :
    Keeps PairsOk s (atInstant k s) := by
  unfold atInstant
  exact .ite (fun _ => .app (h_k _) ((almCommands_changes _).pairs rfl)) (fun _ => .refl)

theorem pointEvent_pairs {n : ℕ} {ok : Point → Bool} {k : State → State} {s : State} (h_k : ∀ u, Keeps PairsOk u (k u)) :
    Keeps PairsOk s (pointEvent n ok k s) := by
  unfold pointEvent
  exact .ite (fun _ => atInstant_pairs (fun _ => .ite (fun _ => .app ((keepPoints_changes _).pairs rfl) (.app (h_k _) (.refl))) (fun _ => .refl))) (fun _ => .refl)

theorem deadTimeEnd_pairs {d : DeadState} {k : State → State} {s : State} (h_k : ∀ u, Keeps PairsOk u (k u)) :
    Keeps PairsOk s (deadTimeEnd d k s) := by
  unfold deadTimeEnd
  exact .ite (fun _ => .app (.ite (fun _ => .app (h_k _) (.refl)) (fun _ => .refl)) (atInstant_pairs (fun _ => .refl))) (fun _ => .refl)

theorem acn_pairs {alert : ℕ} {point : ℕ → State → State} {group : ℕ → State → State} {s : State} (h_point : ∀ a0 u, Keeps PairsOk u (point a0 u)) (h_group : ∀ a0 u, Keeps PairsOk u (group a0 u)) :
    Keeps PairsOk s (acn alert point group s) := by
  unfold acn
  exact .ite (fun _ => (acnIgnored_changes _).pairs rfl) (fun _ => .ite (fun _ => .refl) (fun _ => (by
   try dsimp only
   split
   · exact .app (h_point _ _) (.refl)
   · exact .app (h_group _ _) (.refl)
   · exact .refl
)))

theorem enterHold_pairs (s : State) : Keeps PairsOk s (enterHold s) := by
  unfold enterHold
  exact .ite (fun _ => .refl) (fun _ => .app (.app (.app (.app (.app ((applyOutputs_changes _).pairs rfl) (openPairs_pairs _)) (.app (demandReleased_pairs _) ((onLpe_changes _ _).pairs rfl))) ((onCyc_changes _ _).pairs rfl)) ((onSup_changes _ _).pairs rfl)) (.app ((pauseLanes_changes _).pairs rfl) ((endCommissioning_changes _).pairs rfl)))

theorem applyAct_pairs (a : T0Act) (s : State) : Keeps PairsOk s (applyAct a s) := by
  unfold applyAct
  exact (by
   try dsimp only
   split
   · exact applyMaint_pairs _ _ _
   · exact (applyBatch_changes _ _).pairs rfl
   · exact (applyForce_changes _ _ _).pairs rfl
   · exact (applyRelease_changes _ _).pairs rfl
   · exact (applySplit_changes _).pairs rfl
   · exact .refl
   · exact (clearRetain_changes _).pairs rfl
   · exact enterHold_pairs _
   · exact (leaveHold_changes _).pairs rfl
)

theorem applyDue_pairs (ahead : ℕ) (p : T0Act → Bool) (s : State) : Keeps PairsOk s (applyDue ahead p s) := by
  unfold applyDue
  exact .each (fun _ _ => applyAct_pairs _ _) ((onCyc_changes _ _).pairs rfl)

theorem pairsTakeover_pairs (s : State) : Keeps PairsOk s (pairsTakeover s) := by
  unfold pairsTakeover
  refine .each (fun _ _ => .app (.ite (fun _ => .each (fun _ _ => .app ((post_changes _ _ _ _).pairs rfl) .refl) .refl)
    (fun _ => .refl)) (setPair_pairs (fun x _ ho => ?_))) .refl
  simp only [switchPair, pairMay, Bool.and_eq_true, Bool.not_eq_true', latched] at ho ⊢
  simp_all

theorem takeRole_pairs (reason : Byte) (s : State) : Keeps PairsOk s (takeRole reason s) := by
  unfold takeRole
  exact .app (.app (.app (.app (.app (.app (.app (.app (.app (.app (.app ((announceAll_changes _).pairs rfl) (.app ((alarmRedraw_changes _).pairs rfl) ((onPst_changes _ _).pairs rfl))) (.app ((requalAll_changes _ _).pairs rfl) (.app ((applyOutputs_changes _).pairs rfl) ((handOff_changes _).pairs rfl)))) (pairsTakeover_pairs _)) (.app ((loopsTakeover_changes _ _).pairs rfl) (.each (fun _ _ => (setChan_changes _ _ _).pairs rfl) (.refl)))) (.each (fun _ _ => (startRamp_changes _ _).pairs rfl) (.refl))) (.ite (fun _ => .app ((onPst_changes _ _).pairs rfl) ((post_changes _ _ _ _).pairs rfl)) (fun _ => .refl))) (.ite (fun _ => (post_changes _ _ _ _).pairs rfl) (fun _ => .refl))) ((post_changes _ _ _ _).pairs rfl)) (.ite (fun _ => .app ((loopTransfer_changes _).pairs rfl) ((onCyc_changes _ _).pairs rfl)) (fun _ => .refl))) ((onPst_changes _ _).pairs rfl)) (.ite (fun _ => .app ((followRejoin_changes _ _).pairs rfl) (applyDue_pairs _ _ _)) (fun _ => .refl))

theorem netChange_pairs (own : Bool) (peer : Bool) (s : State) : Keeps PairsOk s (netChange own peer s) := by
  unfold netChange
  exact .app (.ite (fun _ => .refl) (fun _ => .app (.app (.app (.app ((applyOutputs_changes _).pairs rfl) (.ite (fun _ => openPairs_pairs _) (fun _ => dropQen_pairs _))) (.ite (fun _ => .ite (fun _ => takeRole_pairs _ _) (fun _ => .app ((hearMeans_changes _).pairs rfl) ((onPst_changes _ _).pairs rfl))) (fun _ => .refl))) (.ite (fun _ => .app ((standbyDraw_changes _).pairs rfl) (.app ((standbyOutputs_changes _).pairs rfl) (.app ((post_changes _ _ _ _).pairs rfl) (.app ((onPst_changes _ _).pairs rfl) (dropQen_pairs _))))) (fun _ => .refl))) (.ite (fun _ => (onPst_changes _ _).pairs rfl) (fun _ => .refl)))) ((onPst_changes _ _).pairs rfl)

theorem memoryFound_pairs (f : ScrubFound) (s : State) : Keeps PairsOk s (memoryFound f s) := by
  unfold memoryFound
  exact (by
   try dsimp only
   split
   · exact (onCyc_changes _ _).pairs rfl
   · exact selfDiag_pairs _ _
   · exact .refl
)

theorem scrubStep_pairs (f : ScrubFound) (s : State) : Keeps PairsOk s (scrubStep f s) := by
  unfold scrubStep
  exact .ite (fun _ => .refl) (fun _ => .ite (fun _ => memoryFound_pairs _ _) (fun _ => (by
   try dsimp only
   split
   · exact (onPst_changes _ _).pairs rfl
   · exact .app ((requalify_changes _).pairs rfl) (.app (memoryFound_pairs _ _) ((onPst_changes _ _).pairs rfl))
   · exact memoryFound_pairs _ _
)))

theorem bistSequence_pairs (v : Verdict) (s : State) : Keeps PairsOk s (bistSequence v s) := by
  unfold bistSequence
  exact .ite (fun _ => .refl) (fun _ => .app (.ite (fun _ => .refl) (fun _ => .app (checkedVerdict_pairs _ _ _) ((takeFree_changes _).pairs rfl))) ((Changes.upd (T := [.nibA, .nibB, .free]) .refl (.inr rfl) (.inr rfl) (.inr rfl) (.inr rfl) (.inr rfl) (.inl rfl) (.inl rfl) (.inr rfl) (.inr rfl) (.inr rfl) (.inr rfl) (.inr rfl) (.inr rfl) (.inr rfl) (.inr rfl) (.inr rfl) (.inr rfl) (.inr rfl) (.inr rfl) (.inr rfl) (.inr rfl) (.inr rfl) (.inr rfl) (.inr rfl) (.inl rfl)).pairs rfl))

theorem adoptJoin_pairs (j : JoinRec) (s : State) : Keeps PairsOk s (adoptJoin j s) := by
  unfold adoptJoin
  exact .app (.app (.app (.app (.app (.app (.app (onSaf_slots (fun _ => rfl)) ((onPst_changes _ _).pairs rfl)) ((onCmp_changes _ _).pairs rfl)) (.each (fun _ _ => .ite (fun _ => .refl) (fun _ => applyMaint_pairs _ _ _)) (.refl))) ((onCyc_changes _ _).pairs rfl)) (.each (fun _ _ => (putBoth_changes _ _ _).pairs rfl) ((ownConstsBack_changes _ _).pairs rfl))) ((onAlm_changes _ _).pairs rfl)) (.each (fun _ _ => (adoptPoint_changes _ _ _).pairs rfl) (.refl))

theorem deltaApply_pairs (s : State) : Keeps PairsOk s (deltaApply s) := by
  unfold deltaApply
  exact (by
   try dsimp only
   split
   · exact .refl
   · exact .ite (fun _ => .refl) (fun _ => .app (.app (.app (.app ((slSend_changes _ _ _).pairs rfl) ((regain_changes _).pairs rfl)) (.app ((onPst_changes _ _).pairs rfl) ((noteSize_changes _ _).pairs rfl))) ((adoptCarry_changes _ _).pairs rfl)) ((by
     try dsimp only
     split
     · exact .app (adoptJoin_pairs _ _) ((adoptDelta_changes _ _).pairs rfl)
     · exact (adoptDelta_changes _ _).pairs rfl
)))
)

theorem openReq_pairs {m : Req} {k : State → State} {s : State} (h_k : ∀ u, Keeps PairsOk u (k u)) :
    Keeps PairsOk s (openReq m k s) := by
  unfold openReq
  exact arriving_pairs (fun _ => .ite (fun _ => .refl) (fun _ => .ite (fun _ => relayed_pairs (fun _ => (replyOpen_changes _ _ _ _).pairs rfl)) (fun _ => .app (h_k _) (.refl))))

theorem stateCommand_pairs {r : Req} {ok : State → Bool} {c : FwdCmd} {a : T0Act} {apply : State → State} {s : State} (h_apply : ∀ u, Keeps PairsOk u (apply u)) :
    Keeps PairsOk s (stateCommand r ok c a apply s) := by
  unfold stateCommand
  exact screenReq_pairs (fun _ => acceptIf_pairs (fun _ => acceptBoth_pairs (fun _ => .ite (fun _ => (schedule_changes _ _).pairs rfl) (fun _ => .app (h_apply _) (.refl)))))

theorem cycleT0_pairs (s : State) : Keeps PairsOk s (cycleT0 s) := by
  unfold cycleT0
  exact .ite (fun _ => .ite (fun _ => (enterRun_changes _).pairs rfl) (fun _ => .refl)) (fun _ => (by
   try dsimp only
   split
   · exact .app (enterReset_pairs _ _ _) (.ite (fun _ => (enterRun_changes _).pairs rfl) (fun _ => .refl))
   · exact .ite (fun _ => .app (selfDiag_pairs _ _) (.ite (fun _ => (enterRun_changes _).pairs rfl) (fun _ => .refl))) (fun _ => .app (.app (.app (.app (.ite (fun _ => (beginCycle_changes _).pairs rfl) (fun _ => (idleT0_changes _).pairs rfl)) (.app ((countQual_changes _).pairs rfl) (.app ((laneModeT0_changes _).pairs rfl) (applyDue_pairs _ _ _)))) ((Changes.upd (T := [.nibA, .nibB]) .refl (.inr rfl) (.inr rfl) (.inr rfl) (.inr rfl) (.inr rfl) (.inl rfl) (.inl rfl) (.inr rfl) (.inr rfl) (.inr rfl) (.inr rfl) (.inr rfl) (.inr rfl) (.inr rfl) (.inr rfl) (.inr rfl) (.inr rfl) (.inr rfl) (.inr rfl) (.inr rfl) (.inr rfl) (.inr rfl) (.inr rfl) (.inr rfl) (.inr rfl)).pairs rfl)) (.app ((dropHeld_changes _).pairs rfl) ((applyJournal_changes _).pairs rfl))) (.app ((onCyc_changes _ _).pairs rfl) (.ite (fun _ => (enterRun_changes _).pairs rfl) (fun _ => .refl))))
))

theorem releaseCycle_pairs (s : State) : Keeps PairsOk s (releaseCycle s) := by
  unfold releaseCycle
  exact .app (.app (.app (.app (.app (.app (.app ((panelRefresh_changes _ _).pairs rfl) ((rejoinT0_changes _).pairs rfl)) (.app ((grantAll_changes _).pairs rfl) (.app ((sendExports_changes _).pairs rfl) ((sendDelta_changes _).pairs rfl)))) (.app ((applyOutputs_changes _).pairs rfl) (.app (pairsAtTo_pairs _) ((endOutWait_changes _).pairs rfl)))) (.app ((dueDigest_changes _).pairs rfl) ((onCyc_changes _ _).pairs rfl))) (.app ((takeSnapshot_changes _).pairs rfl) ((retainCopy_changes _).pairs rfl))) ((runQueues_changes _ _).pairs rfl)) ((releaseImage_changes _).pairs rfl)

theorem overrun_pairs (s : State) : Keeps PairsOk s (overrun s) := by
  unfold overrun
  exact .app (.app (.app (.app (.app (.ite (fun _ => selfDiag_pairs _ _) (fun _ => .refl)) (.app ((rejoinOverrun_changes _).pairs rfl) (.app ((grantAll_changes _).pairs rfl) (.app ((applyOutputs_changes _).pairs rfl) (.app (pairsAtTo_pairs _) (.app ((endOutWait_changes _).pairs rfl) ((exitStep_changes _).pairs rfl))))))) (.app ((post_changes _ _ _ _).pairs rfl) ((onAlm_changes _ _).pairs rfl))) (.app ((onCyc_changes _ _).pairs rfl) ((markOverrun_changes _).pairs rfl))) ((onLpe_changes _ _).pairs rfl)) ((Changes.upd (T := [.nibA, .nibB]) .refl (.inr rfl) (.inr rfl) (.inr rfl) (.inr rfl) (.inr rfl) (.inl rfl) (.inl rfl) (.inr rfl) (.inr rfl) (.inr rfl) (.inr rfl) (.inr rfl) (.inr rfl) (.inr rfl) (.inr rfl) (.inr rfl) (.inr rfl) (.inr rfl) (.inr rfl) (.inr rfl) (.inr rfl) (.inr rfl) (.inr rfl) (.inr rfl) (.inr rfl)).pairs rfl)

theorem holdRelease_pairs (s : State) : Keeps PairsOk s (holdRelease s) := by
  unfold holdRelease
  exact .app (.app ((grantAll_changes _).pairs rfl) (.app ((applyOutputs_changes _).pairs rfl) (.app (pairsAtTo_pairs _) (.app ((endOutWait_changes _).pairs rfl) ((holdOutputs_changes _).pairs rfl))))) ((dueDigest_changes _).pairs rfl)

theorem outputRelease_pairs (s : State) : Keeps PairsOk s (outputRelease s) := by
  unfold outputRelease
  exact .ite (fun _ => .refl) (fun _ => .ite (fun _ => holdRelease_pairs _) (fun _ => (by
   try dsimp only
   split
   · exact .app (releaseCycle_pairs _) (.ite (fun _ => (compareComplete_changes _).pairs rfl) (fun _ => .refl))
   · exact .ite (fun _ => .app ((dueDigest_changes _).pairs rfl) (.ite (fun _ => (compareComplete_changes _).pairs rfl) (fun _ => .refl))) (fun _ => .app ((standbyRelease_changes _).pairs rfl) (.app ((dueDigest_changes _).pairs rfl) (.ite (fun _ => (compareComplete_changes _).pairs rfl) (fun _ => .refl))))
   · exact .ite (fun _ => .ite (fun _ => (compareComplete_changes _).pairs rfl) (fun _ => .refl)) (fun _ => .app (overrun_pairs _) (.ite (fun _ => (compareComplete_changes _).pairs rfl) (fun _ => .refl)))
)))

theorem roleTransfer_pairs (s : State) : Keeps PairsOk s (roleTransfer s) := by
  unfold roleTransfer
  exact (by
   try dsimp only
   split
   · exact .refl
   · exact .ite (fun _ => (onPst_changes _ _).pairs rfl) (fun _ => .ite (fun _ => .app (.app (releaseRole_pairs _ _) (.ite (fun _ => (sendCarafe_changes _ _).pairs rfl) (fun _ => .refl))) (.app ((laneModeT0_changes _).pairs rfl) (applyDue_pairs _ _ _))) (fun _ => .refl))
)

theorem resetCold_pairs (c : ResetClass) (s : State) : Keeps PairsOk s (resetCold c s) := by
  intro _ p hp
  cases hp

theorem resetWarm_pairs (s : State) : Keeps PairsOk s (resetWarm s) := by
  intro _ p hp
  have hp : p ∈ tmap _ _ _ := hp
  obtain ⟨q, _, rfl⟩ := mem_tmap hp
  intro ho
  cases ho

theorem resetState_pairs (c : ResetClass) (s : State) : Keeps PairsOk s (resetState c s) := by
  unfold resetState
  exact .ite (fun _ => resetWarm_pairs _) (fun _ => resetCold_pairs _ _)

theorem flushComplete_pairs (s : State) : Keeps PairsOk s (flushComplete s) := by
  unfold flushComplete
  exact .ite (fun _ => .refl) (fun _ => (by
   try dsimp only
   split
   · exact .app ((holdReset_changes _ _ _).pairs rfl) (.app (resetState_pairs _ _) ((flushDone_changes _).pairs rfl))
   · exact (flushDone_changes _).pairs rfl
))

theorem vinReset_pairs (v : BitVec 16) (s : State) : Keeps PairsOk s (vinReset v s) := by
  unfold vinReset
  exact .ite (fun _ => .refl) (fun _ => .app (enterReset_pairs _ _ _) (.app ((onSup_changes _ _).pairs rfl) ((seeVin_changes _ _).pairs rfl)))

theorem suppliesStop_pairs (s : State) : Keeps PairsOk s (suppliesStop s) := by
  unfold suppliesStop
  exact (by
   try dsimp only
   split
   · exact .refl
   · exact .app ((onSup_changes _ _).pairs rfl) (resetCold_pairs _ _)
   · exact .app (.app ((applyOutputs_changes _).pairs rfl) (.app ((onSup_changes _ _).pairs rfl) (resetCold_pairs _ _))) (.app ((cutFlush_changes _).pairs rfl) (.app ((endSessions_changes _).pairs rfl) ((panelAbort_changes _).pairs rfl)))
)

theorem pinLow_pairs (s : State) : Keeps PairsOk s (pinLow s) := by
  unfold pinLow
  exact .ite (fun _ => .refl) (fun _ => .app (.ite (fun _ => .refl) (fun _ => enterReset_pairs _ _ _)) ((onSup_changes _ _).pairs rfl))

theorem imageWrite_pairs {r : Req} {h : Fin 2} {k : State → State} {s : State} (h_k : ∀ u, Keeps PairsOk u (k u)) :
    Keeps PairsOk s (imageWrite r h k s) := by
  unfold imageWrite
  exact screenReq_pairs (fun _ => .ite (fun _ => (reply_changes _ _ _ _).pairs rfl) (fun _ => .ite (fun _ => (reply_changes _ _ _ _).pairs rfl) (fun _ => .ite (fun _ => (reply_changes _ _ _ _).pairs rfl) (fun _ => .app (h_k _) (.refl)))))

theorem restartOther_pairs (r : Req) (s : State) : Keeps PairsOk s (restartOther r s) := by
  unfold restartOther
  exact (by
   try dsimp only
   split
   · exact .ite (fun _ => .app (enterReset_pairs _ _ _) (.app ((reply_changes _ _ _ _).pairs rfl) ((writeCtrl_changes _ _ _ _).pairs rfl))) (fun _ => (reply_changes _ _ _ _).pairs rfl)
   · exact (reply_changes _ _ _ _).pairs rfl
)

theorem failStart_pairs (reason : Byte) (env : StartEnv) (s : State) : Keeps PairsOk s (failStart reason env s) := by
  unfold failStart
  exact .app (.ite (fun _ => (enterDecaf_changes _ _ _ _).pairs rfl) (fun _ => enterReset_pairs _ _ _)) ((countFailure_changes _ _ _).pairs rfl)

theorem maintLatches_pairs (s : State) : Keeps PairsOk s (maintLatches s) := by
  unfold maintLatches
  exact .each (fun _ _ => latchPairs_pairs _ _ _) (.refl)

theorem slotsAtStart_pairs (s : State) : Keeps PairsOk s (slotsAtStart s) := by
  unfold slotsAtStart
  exact .app (maintLatches_pairs _) (.each (fun _ _ => setSlot_pairs _ _ _) (.refl))

theorem brakesAtStart_pairs (s : State) : Keeps PairsOk s (brakesAtStart s) := by
  unfold brakesAtStart
  exact onSaf_slots (fun _ => rfl)

theorem prepare_pairs (env : StartEnv) (s : State) : Keeps PairsOk s (prepare env s) := by
  unfold prepare
  exact .app (.app (.app (.app (.app ((onPst_changes _ _).pairs rfl) (.app ((deadAtStart_changes _).pairs rfl) ((pointsAtStart_changes _).pairs rfl))) (.app ((firstValues_changes _ _).pairs rfl) ((groupsUp_changes _ _).pairs rfl))) (.app ((setDsp_changes _ _).pairs rfl) ((imageAddresses_changes _).pairs rfl))) (.app ((tracesAtStart_changes _).pairs rfl) (.app (brakesAtStart_pairs _) (.app (slotsAtStart_pairs _) ((retainAtStart_changes _ _).pairs rfl))))) (.app ((reloadLanes_changes _ _).pairs rfl) ((onCyc_changes _ _).pairs rfl))

theorem startWith_pairs (env : StartEnv) (s : State) : Keeps PairsOk s (startWith env s) := by
  unfold startWith
  exact .ite (fun _ => (enterDecaf_changes _ _ _ _).pairs rfl) (fun _ => (by
   try dsimp only
   split
   · exact failStart_pairs _ _ _
   · exact .app (.ite (fun _ => failStart_pairs _ _ _) (fun _ => .app (.ite (fun _ => failStart_pairs _ _ _) (fun _ => .ite (fun _ => failStart_pairs _ _ _) (fun _ => .app ((roleStep_changes _).pairs rfl) (prepare_pairs _ _)))) (.app ((selfTests_changes _ _).pairs rfl) ((raiseCore_changes _).pairs rfl)))) ((speedStep_changes _ _).pairs rfl)
))

theorem startSequence_pairs (env : StartEnv) (s : State) : Keeps PairsOk s (startSequence env s) := by
  unfold startSequence
  refine .ite (fun _ => .refl) (fun _ => ?_)
  dsimp only
  split
  · exact .app ((goBlank_changes _ _ _).pairs rfl) (.app ((startStep2_changes _ _).pairs rfl) (.app ((startStep1_changes _).pairs rfl) .refl))
  · refine .ite (fun _ => .app ((goBlank_changes _ _ _).pairs rfl) (.app ((startStep2_changes _ _).pairs rfl) (.app ((startStep1_changes _).pairs rfl)
      .refl))) (fun _ => ?_)
    split
    · rename_i e
      have k := congrArg Prod.snd e
      dsimp only at k
      refine .app ((goBlank_changes _ _ _).pairs rfl) ?_
      rw [← k]
      exact .app (KeepsW.snd ((selectHalf_changes _ _ _ _ _).pairs rfl)) (.app ((onBoot_changes _ _).pairs rfl)
        (.app ((startStep2_changes _ _).pairs rfl) (.app ((startStep1_changes _).pairs rfl) .refl)))
    · rename_i e
      have k := congrArg Prod.snd e
      dsimp only at k
      refine .app (startWith_pairs _ _) (.app ((loadImage_changes _ _ _).pairs rfl) ?_)
      rw [← k]
      exact .app (KeepsW.snd ((selectHalf_changes _ _ _ _ _).pairs rfl)) (.app ((onBoot_changes _ _).pairs rfl)
        (.app ((startStep2_changes _ _).pairs rfl) (.app ((startStep1_changes _).pairs rfl) .refl)))


theorem warmStart_pairs (env : StartEnv) (s : State) : Keeps PairsOk s (warmStart env s) := by
  unfold warmStart
  exact .ite (fun _ => .refl) (fun _ => .app (.ite (fun _ => enterReset_pairs _ _ _) (fun _ => .app (.app (.ite (fun _ => enterReset_pairs _ _ _) (fun _ => .app ((roleStep_changes _).pairs rfl) (.app ((firstValues_changes _ _).pairs rfl) (.app (slotsAtStart_pairs _) (.app ((portsUp_changes _ _).pairs rfl) ((onPst_changes _ _).pairs rfl)))))) (.app ((selfTests_changes _ _).pairs rfl) (.app ((retainWords_changes _).pairs rfl) (.app ((reloadLanes_changes _ _).pairs rfl) ((applyJournal_changes _).pairs rfl))))) (.app ((raiseCore_changes _).pairs rfl) ((onTim_changes _ _).pairs rfl)))) (.app ((postRestart_changes _).pairs rfl) ((resumeInkwell_changes _).pairs rfl)))

theorem verifierRequest_pairs {r : Req} {k : State → State} {s : State} (h_k : ∀ u, Keeps PairsOk u (k u)) :
    Keeps PairsOk s (verifierRequest r k s) := by
  unfold verifierRequest
  exact (by
   try dsimp only
   split
   · exact .refl
   · exact .ite (fun _ => .app (h_k _) ((onChop_changes _ _).pairs rfl)) (fun _ => .refl)
)

/-! ### The commands -/

theorem execEnd_pairs {o : Blk} {s u : State} (h : execEnd o s = .next u) :
    Keeps PairsOk s u := by
  unfold execEnd at h
  obtain rfl := Host.Outcome.next.inj h
  exact endOp_pairs _ _

theorem execSt_pairs {o : Blk} {s u : State} (h : execSt o s = .next u) :
    Keeps PairsOk s u := by
  unfold execSt at h
  obtain rfl := Host.Outcome.next.inj h
  exact storeOp_pairs _ _ _ _ _

theorem execDiscrepancyTimeout_pairs {n : Fin 16} {s u : State} (h : execDiscrepancyTimeout n s = .next u) :
    Keeps PairsOk s u := by
  unfold execDiscrepancyTimeout at h
  obtain rfl := Host.Outcome.next.inj h
  exact slotEvent_pairs (fun _ => slotFault_pairs _ _ _)

theorem execCellin_pairs {o : Blk} {s u : State} (h : execCellin o s = .next u) :
    Keeps PairsOk s u := by
  unfold execCellin at h
  obtain rfl := Host.Outcome.next.inj h
  exact cellIn_pairs _ _

theorem execMin_pairs {o : Blk} {s u : State} (h : execMin o s = .next u) :
    Keeps PairsOk s u := by
  unfold execMin at h
  obtain rfl := Host.Outcome.next.inj h
  exact regReg_pairs _ _ _ _

theorem execBrakeTest_pairs {r : Req} {n : Fin 16} {s u : State} (h : execBrakeTest r n s = .next u) :
    Keeps PairsOk s u := by
  unfold execBrakeTest at h
  obtain rfl := Host.Outcome.next.inj h
  exact screenReq_pairs (fun _ => acceptIf_pairs (fun _ => .app ((reply_changes _ _ _ _).pairs rfl) (brakeTestStart_pairs _ _)))

theorem execResetDemand_pairs {ch : Fin 96} {ms : ℕ} {s u : State} (h : execResetDemand ch ms s = .next u) :
    Keeps PairsOk s u := by
  unfold execResetDemand at h
  obtain rfl := Host.Outcome.next.inj h
  exact resetDemand_pairs _ _ _

theorem execOutputRelease_pairs {s u : State} (h : execOutputRelease s = .next u) :
    Keeps PairsOk s u := by
  unfold execOutputRelease at h
  obtain rfl := Host.Outcome.next.inj h
  exact outputRelease_pairs _

theorem execFneg_pairs {o : Blk} {s u : State} (h : execFneg o s = .next u) :
    Keeps PairsOk s u := by
  unfold execFneg at h
  obtain rfl := Host.Outcome.next.inj h
  exact regOnly_pairs _ _ _ _

theorem execObjwr_pairs {l : Lane} {d : BitVec 6} {a : BitVec 6} {s u : State} (h : execObjwr l d a s = .next u) :
    Keeps PairsOk s u := by
  unfold execObjwr at h
  obtain rfl := Host.Outcome.next.inj h
  exact sysOp_pairs (fun _ => (objwrOp_changes _ _ _).pairs rfl)

theorem execStx_pairs {o : Blk} {s u : State} (h : execStx o s = .next u) :
    Keeps PairsOk s u := by
  unfold execStx at h
  obtain rfl := Host.Outcome.next.inj h
  exact storeOp_pairs _ _ _ _ _

theorem execCtud_pairs {l : Lane} {d : BitVec 6} {a : BitVec 6} {s u : State} (h : execCtud l d a s = .next u) :
    Keeps PairsOk s u := by
  unfold execCtud at h
  obtain rfl := Host.Outcome.next.inj h
  exact recBlock_pairs _ _ _ _ _ _ _ _

theorem execJmp_pairs {o : Blk} {s u : State} (h : execJmp o s = .next u) :
    Keeps PairsOk s u := by
  unfold execJmp at h
  obtain rfl := Host.Outcome.next.inj h
  exact jmpOp_pairs _ _

theorem execOrim_pairs {o : Blk} {s u : State} (h : execOrim o s = .next u) :
    Keeps PairsOk s u := by
  unfold execOrim at h
  obtain rfl := Host.Outcome.next.inj h
  exact regImm_pairs _ _ _ _

theorem execFmul_pairs {o : Blk} {s u : State} (h : execFmul o s = .next u) :
    Keeps PairsOk s u := by
  unfold execFmul at h
  obtain rfl := Host.Outcome.next.inj h
  exact regReg_pairs _ _ _ _

theorem execQuillStreamLost_pairs {g : Fin 6} {s u : State} (h : execQuillStreamLost g s = .next u) :
    Keeps PairsOk s u := by
  unfold execQuillStreamLost at h
  obtain rfl := Host.Outcome.next.inj h
  exact quillStreamLost_pairs _ _

theorem execDeltaApply_pairs {s u : State} (h : execDeltaApply s = .next u) :
    Keeps PairsOk s u := by
  unfold execDeltaApply at h
  obtain rfl := Host.Outcome.next.inj h
  exact deltaApply_pairs _

theorem execBr_pairs {o : Blk} {s u : State} (h : execBr o s = .next u) :
    Keeps PairsOk s u := by
  unfold execBr at h
  obtain rfl := Host.Outcome.next.inj h
  exact branch_pairs _ _ _ _ _

theorem execLdx_pairs {o : Blk} {s u : State} (h : execLdx o s = .next u) :
    Keeps PairsOk s u := by
  unfold execLdx at h
  obtain rfl := Host.Outcome.next.inj h
  exact loadOp_pairs _ _ _ _ _

theorem execTp_pairs {l : Lane} {d : BitVec 6} {a : BitVec 6} {s u : State} (h : execTp l d a s = .next u) :
    Keeps PairsOk s u := by
  unfold execTp at h
  obtain rfl := Host.Outcome.next.inj h
  exact timerBlock_pairs _ _ _ _ _ _

theorem execBrakeFeedbackTimeout_pairs {n : Fin 16} {s u : State} (h : execBrakeFeedbackTimeout n s = .next u) :
    Keeps PairsOk s u := by
  unfold execBrakeFeedbackTimeout at h
  obtain rfl := Host.Outcome.next.inj h
  exact brakeFeedback_pairs _ _

theorem execAnd_pairs {o : Blk} {s u : State} (h : execAnd o s = .next u) :
    Keeps PairsOk s u := by
  unfold execAnd at h
  obtain rfl := Host.Outcome.next.inj h
  exact regReg_pairs _ _ _ _

theorem execLui_pairs {o : Blk} {s u : State} (h : execLui o s = .next u) :
    Keeps PairsOk s u := by
  unfold execLui at h
  obtain rfl := Host.Outcome.next.inj h
  exact writesD_pairs _ _ _ _ _

theorem execTestPulseCheck_pairs {n : Fin 16} {p : PulseSamples} {s u : State} (h : execTestPulseCheck n p s = .next u) :
    Keeps PairsOk s u := by
  unfold execTestPulseCheck at h
  obtain rfl := Host.Outcome.next.inj h
  exact testPulseCheck_pairs _ _ _

theorem execTwoHandSyncMiss_pairs {n : Fin 16} {s u : State} (h : execTwoHandSyncMiss n s = .next u) :
    Keeps PairsOk s u := by
  unfold execTwoHandSyncMiss at h
  obtain rfl := Host.Outcome.next.inj h
  exact slotEvent_pairs (fun _ => setSlot_pairs _ _ _)

theorem execShortToSupplyDetect_pairs {ch : Fin 96} {v : ℤ} {s u : State} (h : execShortToSupplyDetect ch v s = .next u) :
    Keeps PairsOk s u := by
  unfold execShortToSupplyDetect at h
  obtain rfl := Host.Outcome.next.inj h
  exact shortToSupply_pairs _ _ _

theorem execShli_pairs {o : Blk} {s u : State} (h : execShli o s = .next u) :
    Keeps PairsOk s u := by
  unfold execShli at h
  obtain rfl := Host.Outcome.next.inj h
  exact shiftImm_pairs _ _ _ _

theorem execCall_pairs {o : Blk} {s u : State} (h : execCall o s = .next u) :
    Keeps PairsOk s u := by
  unfold execCall at h
  obtain rfl := Host.Outcome.next.inj h
  exact callOp_pairs _ _

theorem execCellout_pairs {o : Blk} {s u : State} (h : execCellout o s = .next u) :
    Keeps PairsOk s u := by
  unfold execCellout at h
  obtain rfl := Host.Outcome.next.inj h
  exact cellOut_pairs _ _

theorem execRoleTransfer_pairs {s u : State} (h : execRoleTransfer s = .next u) :
    Keeps PairsOk s u := by
  unfold execRoleTransfer at h
  obtain rfl := Host.Outcome.next.inj h
  exact roleTransfer_pairs _

theorem execFadd_pairs {o : Blk} {s u : State} (h : execFadd o s = .next u) :
    Keeps PairsOk s u := by
  unfold execFadd at h
  obtain rfl := Host.Outcome.next.inj h
  exact regReg_pairs _ _ _ _

theorem execMulh_pairs {o : Blk} {s u : State} (h : execMulh o s = .next u) :
    Keeps PairsOk s u := by
  unfold execMulh at h
  obtain rfl := Host.Outcome.next.inj h
  exact regReg_pairs _ _ _ _

theorem execBrakeTorqueTimeout_pairs {n : Fin 16} {s u : State} (h : execBrakeTorqueTimeout n s = .next u) :
    Keeps PairsOk s u := by
  unfold execBrakeTorqueTimeout at h
  obtain rfl := Host.Outcome.next.inj h
  exact slotEvent_pairs (fun _ => brakeTestDone_pairs _ _ _)

theorem execResetInputHeldLong_pairs {ch : Fin 96} {s u : State} (h : execResetInputHeldLong ch s = .next u) :
    Keeps PairsOk s u := by
  unfold execResetInputHeldLong at h
  obtain rfl := Host.Outcome.next.inj h
  exact .each (fun _ _ => setSlot_pairs _ _ _) (.refl)

theorem execCellmode_pairs {l : Lane} {d : BitVec 6} {a : BitVec 6} {s u : State} (h : execCellmode l d a s = .next u) :
    Keeps PairsOk s u := by
  unfold execCellmode at h
  obtain rfl := Host.Outcome.next.inj h
  exact sysOp_pairs (fun _ => (cellmodeOp_changes _ _ _).pairs rfl)

theorem execResetPinAssert_pairs {s u : State} (h : execResetPinAssert s = .next u) :
    Keeps PairsOk s u := by
  unfold execResetPinAssert at h
  obtain rfl := Host.Outcome.next.inj h
  exact pinLow_pairs _

theorem execSwitchOffTest_pairs {p : Fin 24} {side : Side} {v : ℤ} {s u : State} (h : execSwitchOffTest p side v s = .next u) :
    Keeps PairsOk s u := by
  unfold execSwitchOffTest at h
  obtain rfl := Host.Outcome.next.inj h
  exact switchOffTest_pairs _ _ _ _

theorem execObjrd_pairs {l : Lane} {d : BitVec 6} {a : BitVec 6} {s u : State} (h : execObjrd l d a s = .next u) :
    Keeps PairsOk s u := by
  unfold execObjrd at h
  obtain rfl := Host.Outcome.next.inj h
  exact sysOp_pairs (fun _ => (objrdOp_changes _ _ _).pairs rfl)

theorem execSari_pairs {o : Blk} {s u : State} (h : execSari o s = .next u) :
    Keeps PairsOk s u := by
  unfold execSari at h
  obtain rfl := Host.Outcome.next.inj h
  exact shiftImm_pairs _ _ _ _

theorem execBrkageTick_pairs {s u : State} (h : execBrkageTick s = .next u) :
    Keeps PairsOk s u := by
  unfold execBrkageTick at h
  obtain rfl := Host.Outcome.next.inj h
  exact .each (fun _ _ => ageSlot_pairs _ _) (.refl)

theorem execDataDigestComplete_pairs {s u : State} (h : execDataDigestComplete s = .next u) :
    Keeps PairsOk s u := by
  unfold execDataDigestComplete at h
  obtain rfl := Host.Outcome.next.inj h
  exact digestComplete_pairs _

theorem execNop_pairs {l : Lane} {w : Word} {s u : State} (h : execNop l w s = .next u) :
    Keeps PairsOk s u := by
  unfold execNop at h
  obtain rfl := Host.Outcome.next.inj h
  exact nopWord_pairs _ _ _

theorem execXor_pairs {o : Blk} {s u : State} (h : execXor o s = .next u) :
    Keeps PairsOk s u := by
  unfold execXor at h
  obtain rfl := Host.Outcome.next.inj h
  exact regReg_pairs _ _ _ _

theorem execOri_pairs {o : Blk} {s u : State} (h : execOri o s = .next u) :
    Keeps PairsOk s u := by
  unfold execOri at h
  obtain rfl := Host.Outcome.next.inj h
  exact regImm_pairs _ _ _ _

theorem execFieldRingSilence_pairs {s u : State} (h : execFieldRingSilence s = .next u) :
    Keeps PairsOk s u := by
  unfold execFieldRingSilence at h
  obtain rfl := Host.Outcome.next.inj h
  exact .ite (fun _ => releaseRole_pairs _ _) (fun _ => .refl)

theorem execLd_pairs {o : Blk} {s u : State} (h : execLd o s = .next u) :
    Keeps PairsOk s u := by
  unfold execLd at h
  obtain rfl := Host.Outcome.next.inj h
  exact loadOp_pairs _ _ _ _ _

theorem execBistInjectionTest_pairs {t : SelfTest} {s u : State} (h : execBistInjectionTest t s = .next u) :
    Keeps PairsOk s u := by
  unfold execBistInjectionTest at h
  obtain rfl := Host.Outcome.next.inj h
  exact .ite (fun _ => .app (.ite (fun _ => .refl) (fun _ => selfDiag_pairs _ _)) ((recordTest_changes _ _).pairs rfl)) (fun _ => .refl)

theorem execFsqrt_pairs {o : Blk} {s u : State} (h : execFsqrt o s = .next u) :
    Keeps PairsOk s u := by
  unfold execFsqrt at h
  obtain rfl := Host.Outcome.next.inj h
  exact regOnly_pairs _ _ _ _

theorem execQuillEvaluation_pairs {s u : State} (h : execQuillEvaluation s = .next u) :
    Keeps PairsOk s u := by
  unfold execQuillEvaluation at h
  obtain rfl := Host.Outcome.next.inj h
  exact quillEvaluation_pairs _

theorem execSafetyOffDelayEnd_pairs {n : Fin 16} {s u : State} (h : execSafetyOffDelayEnd n s = .next u) :
    Keeps PairsOk s u := by
  unfold execSafetyOffDelayEnd at h
  obtain rfl := Host.Outcome.next.inj h
  exact slotEvent_pairs (fun _ => .app (evalSlot_pairs _ _) (.app (refreshQen_pairs _) (setSlot_pairs _ _ _)))

theorem execEvpost_pairs {l : Lane} {d : BitVec 6} {a : BitVec 6} {s u : State} (h : execEvpost l d a s = .next u) :
    Keeps PairsOk s u := by
  unfold execEvpost at h
  obtain rfl := Host.Outcome.next.inj h
  exact sysOp_pairs (fun _ => (evpostOp_changes _ _ _).pairs rfl)

theorem execTon_pairs {l : Lane} {d : BitVec 6} {a : BitVec 6} {s u : State} (h : execTon l d a s = .next u) :
    Keeps PairsOk s u := by
  unfold execTon at h
  obtain rfl := Host.Outcome.next.inj h
  exact timerBlock_pairs _ _ _ _ _ _

theorem execLeaveDecaf_pairs {r : Req} {s u : State} (h : execLeaveDecaf r s = .next u) :
    Keeps PairsOk s u := by
  unfold execLeaveDecaf at h
  obtain rfl := Host.Outcome.next.inj h
  exact screenReq_pairs (fun _ => acceptIf_pairs (fun _ => .app (enterReset_pairs _ _ _) (.app ((reply_changes _ _ _ _).pairs rfl) ((setFails_changes _ _).pairs rfl))))

theorem execCtu_pairs {l : Lane} {d : BitVec 6} {a : BitVec 6} {s u : State} (h : execCtu l d a s = .next u) :
    Keeps PairsOk s u := by
  unfold execCtu at h
  obtain rfl := Host.Outcome.next.inj h
  exact recBlock_pairs _ _ _ _ _ _ _ _

theorem execTimeReferenceCheck_pairs {ticks : ℕ} {marks : ℕ} {s u : State} (h : execTimeReferenceCheck ticks marks s = .next u) :
    Keeps PairsOk s u := by
  unfold execTimeReferenceCheck at h
  obtain rfl := Host.Outcome.next.inj h
  exact timeCheck_pairs _ _ _

theorem execXori_pairs {o : Blk} {s u : State} (h : execXori o s = .next u) :
    Keeps PairsOk s u := by
  unfold execXori at h
  obtain rfl := Host.Outcome.next.inj h
  exact regImm_pairs _ _ _ _

theorem execFlushComplete_pairs {s u : State} (h : execFlushComplete s = .next u) :
    Keeps PairsOk s u := by
  unfold execFlushComplete at h
  obtain rfl := Host.Outcome.next.inj h
  exact flushComplete_pairs _

theorem execCv_pairs {l : Lane} {d : BitVec 6} {a : BitVec 6} {s u : State} (h : execCv l d a s = .next u) :
    Keeps PairsOk s u := by
  unfold execCv at h
  obtain rfl := Host.Outcome.next.inj h
  exact recBlock_pairs _ _ _ _ _ _ _ _

theorem execFma_pairs {o : Blk} {s u : State} (h : execFma o s = .next u) :
    Keeps PairsOk s u := by
  unfold execFma at h
  obtain rfl := Host.Outcome.next.inj h
  exact writesD_pairs _ _ _ _ _

theorem execSar_pairs {o : Blk} {s u : State} (h : execSar o s = .next u) :
    Keeps PairsOk s u := by
  unfold execSar at h
  obtain rfl := Host.Outcome.next.inj h
  exact regReg_pairs _ _ _ _

theorem execAndi_pairs {o : Blk} {s u : State} (h : execAndi o s = .next u) :
    Keeps PairsOk s u := by
  unfold execAndi at h
  obtain rfl := Host.Outcome.next.inj h
  exact regImm_pairs _ _ _ _

theorem execRestartOtherImageHalf_pairs {r : Req} {s u : State} (h : execRestartOtherImageHalf r s = .next u) :
    Keeps PairsOk s u := by
  unfold execRestartOtherImageHalf at h
  obtain rfl := Host.Outcome.next.inj h
  exact screenReq_pairs (fun _ => restartOther_pairs _ _)

theorem execStartSequence_pairs {env : StartEnv} {s u : State} (h : execStartSequence env s = .next u) :
    Keeps PairsOk s u := by
  unfold execStartSequence at h
  obtain rfl := Host.Outcome.next.inj h
  exact startSequence_pairs _ _

theorem execRTrig_pairs {l : Lane} {d : BitVec 6} {a : BitVec 6} {s u : State} (h : execRTrig l d a s = .next u) :
    Keeps PairsOk s u := by
  unfold execRTrig at h
  obtain rfl := Host.Outcome.next.inj h
  exact recBlock_pairs _ _ _ _ _ _ _ _

theorem execFdiv_pairs {o : Blk} {s u : State} (h : execFdiv o s = .next u) :
    Keeps PairsOk s u := by
  unfold execFdiv at h
  obtain rfl := Host.Outcome.next.inj h
  exact regReg_pairs _ _ _ _

theorem execCompareStalled_pairs {s u : State} (h : execCompareStalled s = .next u) :
    Keeps PairsOk s u := by
  unfold execCompareStalled at h
  obtain rfl := Host.Outcome.next.inj h
  exact compareStalled_pairs _

theorem execWarmStartSequence_pairs {env : StartEnv} {s u : State} (h : execWarmStartSequence env s = .next u) :
    Keeps PairsOk s u := by
  unfold execWarmStartSequence at h
  obtain rfl := Host.Outcome.next.inj h
  exact warmStart_pairs _ _

theorem execRunNotReached_pairs {s u : State} (h : execRunNotReached s = .next u) :
    Keeps PairsOk s u := by
  unfold execRunNotReached at h
  obtain rfl := Host.Outcome.next.inj h
  exact .ite (fun _ => failStart_pairs _ _ _) (fun _ => .refl)

theorem execSub_pairs {o : Blk} {s u : State} (h : execSub o s = .next u) :
    Keeps PairsOk s u := by
  unfold execSub at h
  obtain rfl := Host.Outcome.next.inj h
  exact regReg_pairs _ _ _ _

theorem execCommitRestart_pairs {s u : State} (h : execCommitRestart s = .next u) :
    Keeps PairsOk s u := by
  unfold execCommitRestart at h
  obtain rfl := Host.Outcome.next.inj h
  exact .ite (fun _ => enterReset_pairs _ _ _) (fun _ => .refl)

theorem execItof_pairs {o : Blk} {s u : State} (h : execItof o s = .next u) :
    Keeps PairsOk s u := by
  unfold execItof at h
  obtain rfl := Host.Outcome.next.inj h
  exact regOnly_pairs _ _ _ _

theorem execHold_pairs {r : Req} {s u : State} (h : execHold r s = .next u) :
    Keeps PairsOk s u := by
  unfold execHold at h
  obtain rfl := Host.Outcome.next.inj h
  exact stateCommand_pairs (fun _ => enterHold_pairs _)

theorem execSlt_pairs {o : Blk} {s u : State} (h : execSlt o s = .next u) :
    Keeps PairsOk s u := by
  unfold execSlt at h
  obtain rfl := Host.Outcome.next.inj h
  exact regReg_pairs _ _ _ _

theorem execAdd_pairs {o : Blk} {s u : State} (h : execAdd o s = .next u) :
    Keeps PairsOk s u := by
  unfold execAdd at h
  obtain rfl := Host.Outcome.next.inj h
  exact regReg_pairs _ _ _ _

theorem execJunctionOvertemperature_pairs {deciC : ℤ} {s u : State} (h : execJunctionOvertemperature deciC s = .next u) :
    Keeps PairsOk s u := by
  unfold execJunctionOvertemperature at h
  obtain rfl := Host.Outcome.next.inj h
  exact .ite (fun _ => .app (.ite (fun _ => selfDiag_pairs _ _) (fun _ => .refl)) ((onTim_changes _ _).pairs rfl)) (fun _ => .refl)

theorem execInternalSuppliesStop_pairs {s u : State} (h : execInternalSuppliesStop s = .next u) :
    Keeps PairsOk s u := by
  unfold execInternalSuppliesStop at h
  obtain rfl := Host.Outcome.next.inj h
  exact suppliesStop_pairs _

theorem execFabs_pairs {o : Blk} {s u : State} (h : execFabs o s = .next u) :
    Keeps PairsOk s u := by
  unfold execFabs at h
  obtain rfl := Host.Outcome.next.inj h
  exact regOnly_pairs _ _ _ _

theorem execBrakeTestEnd_pairs {n : Fin 16} {s u : State} (h : execBrakeTestEnd n s = .next u) :
    Keeps PairsOk s u := by
  unfold execBrakeTestEnd at h
  obtain rfl := Host.Outcome.next.inj h
  exact slotEvent_pairs (fun _ => brakeTestDone_pairs _ _ _)

theorem execLoopOutputHandoff_pairs {t : BitVec 16} {s u : State} (h : execLoopOutputHandoff t s = .next u) :
    Keeps PairsOk s u := by
  unfold execLoopOutputHandoff at h
  obtain rfl := Host.Outcome.next.inj h
  exact loopHandoff_pairs _ _

theorem execSeqi_pairs {o : Blk} {s u : State} (h : execSeqi o s = .next u) :
    Keeps PairsOk s u := by
  unfold execSeqi at h
  obtain rfl := Host.Outcome.next.inj h
  exact regImm_pairs _ _ _ _

theorem execBz_pairs {o : Blk} {s u : State} (h : execBz o s = .next u) :
    Keeps PairsOk s u := by
  unfold execBz at h
  obtain rfl := Host.Outcome.next.inj h
  exact branch_pairs _ _ _ _ _

theorem execFmin_pairs {o : Blk} {s u : State} (h : execFmin o s = .next u) :
    Keeps PairsOk s u := by
  unfold execFmin at h
  obtain rfl := Host.Outcome.next.inj h
  exact regReg_pairs _ _ _ _

theorem execFeq_pairs {o : Blk} {s u : State} (h : execFeq o s = .next u) :
    Keeps PairsOk s u := by
  unfold execFeq at h
  obtain rfl := Host.Outcome.next.inj h
  exact regReg_pairs _ _ _ _

theorem execAddi_pairs {o : Blk} {s u : State} (h : execAddi o s = .next u) :
    Keeps PairsOk s u := by
  unfold execAddi at h
  obtain rfl := Host.Outcome.next.inj h
  exact regImm_pairs _ _ _ _

theorem execFTrig_pairs {l : Lane} {d : BitVec 6} {a : BitVec 6} {s u : State} (h : execFTrig l d a s = .next u) :
    Keeps PairsOk s u := by
  unfold execFTrig at h
  obtain rfl := Host.Outcome.next.inj h
  exact recBlock_pairs _ _ _ _ _ _ _ _

theorem execVinResetThreshold_pairs {v : BitVec 16} {s u : State} (h : execVinResetThreshold v s = .next u) :
    Keeps PairsOk s u := by
  unfold execVinResetThreshold at h
  obtain rfl := Host.Outcome.next.inj h
  exact vinReset_pairs _ _

theorem execDiv_pairs {o : Blk} {s u : State} (h : execDiv o s = .next u) :
    Keeps PairsOk s u := by
  unfold execDiv at h
  obtain rfl := Host.Outcome.next.inj h
  exact .app ((noteDivz_changes _ _ _ _).pairs rfl) (regReg_pairs _ _ _ _)

theorem execShr_pairs {o : Blk} {s u : State} (h : execShr o s = .next u) :
    Keeps PairsOk s u := by
  unfold execShr at h
  obtain rfl := Host.Outcome.next.inj h
  exact regReg_pairs _ _ _ _

theorem execFsub_pairs {o : Blk} {s u : State} (h : execFsub o s = .next u) :
    Keeps PairsOk s u := by
  unfold execFsub at h
  obtain rfl := Host.Outcome.next.inj h
  exact regReg_pairs _ _ _ _

theorem execMul_pairs {o : Blk} {s u : State} (h : execMul o s = .next u) :
    Keeps PairsOk s u := by
  unfold execMul at h
  obtain rfl := Host.Outcome.next.inj h
  exact regReg_pairs _ _ _ _

theorem execFtoi_pairs {o : Blk} {s u : State} (h : execFtoi o s = .next u) :
    Keeps PairsOk s u := by
  unfold execFtoi at h
  obtain rfl := Host.Outcome.next.inj h
  exact regOnly_pairs _ _ _ _

theorem execLaneStalled_pairs {l : Lane} {s u : State} (h : execLaneStalled l s = .next u) :
    Keeps PairsOk s u := by
  unfold execLaneStalled at h
  obtain rfl := Host.Outcome.next.inj h
  exact laneStalled_pairs _ _

theorem execBnz_pairs {o : Blk} {s u : State} (h : execBnz o s = .next u) :
    Keeps PairsOk s u := by
  unfold execBnz at h
  obtain rfl := Host.Outcome.next.inj h
  exact branch_pairs _ _ _ _ _

theorem execCycleT0_pairs {s u : State} (h : execCycleT0 s = .next u) :
    Keeps PairsOk s u := by
  unfold execCycleT0 at h
  obtain rfl := Host.Outcome.next.inj h
  exact cycleT0_pairs _

theorem execSeq_pairs {o : Blk} {s u : State} (h : execSeq o s = .next u) :
    Keeps PairsOk s u := by
  unfold execSeq at h
  obtain rfl := Host.Outcome.next.inj h
  exact regReg_pairs _ _ _ _

theorem execTimel_pairs {l : Lane} {d : BitVec 6} {a : BitVec 6} {s u : State} (h : execTimel l d a s = .next u) :
    Keeps PairsOk s u := by
  unfold execTimel at h
  obtain rfl := Host.Outcome.next.inj h
  exact sysOp_pairs (fun _ => (result_changes _ _ _ _).pairs rfl)

theorem execGroupLinkLost_pairs {g : Fin 6} {s u : State} (h : execGroupLinkLost g s = .next u) :
    Keeps PairsOk s u := by
  unfold execGroupLinkLost at h
  obtain rfl := Host.Outcome.next.inj h
  exact linkLost_pairs _ _

theorem execScrubStep_pairs {f : ScrubFound} {s u : State} (h : execScrubStep f s = .next u) :
    Keeps PairsOk s u := by
  unfold execScrubStep at h
  obtain rfl := Host.Outcome.next.inj h
  exact scrubStep_pairs _ _

theorem execBrakeTestEdge_pairs {n : Fin 16} {s u : State} (h : execBrakeTestEdge n s = .next u) :
    Keeps PairsOk s u := by
  unfold execBrakeTestEdge at h
  obtain rfl := Host.Outcome.next.inj h
  exact slotEvent_pairs (fun _ => .ite (fun _ => brakeTestStart_pairs _ _) (fun _ => setSlot_pairs _ _ _))

theorem execUnannouncedTakeover_pairs {s u : State} (h : execUnannouncedTakeover s = .next u) :
    Keeps PairsOk s u := by
  unfold execUnannouncedTakeover at h
  obtain rfl := Host.Outcome.next.inj h
  exact .ite (fun _ => takeRole_pairs _ _) (fun _ => (onPst_changes _ _).pairs rfl)

theorem execSlti_pairs {o : Blk} {s u : State} (h : execSlti o s = .next u) :
    Keeps PairsOk s u := by
  unfold execSlti at h
  obtain rfl := Host.Outcome.next.inj h
  exact regImm_pairs _ _ _ _

theorem execRem_pairs {o : Blk} {s u : State} (h : execRem o s = .next u) :
    Keeps PairsOk s u := by
  unfold execRem at h
  obtain rfl := Host.Outcome.next.inj h
  exact .app ((noteDivz_changes _ _ _ _).pairs rfl) (regReg_pairs _ _ _ _)

theorem execShl_pairs {o : Blk} {s u : State} (h : execShl o s = .next u) :
    Keeps PairsOk s u := by
  unfold execShl at h
  obtain rfl := Host.Outcome.next.inj h
  exact regReg_pairs _ _ _ _

theorem execOr_pairs {o : Blk} {s u : State} (h : execOr o s = .next u) :
    Keeps PairsOk s u := by
  unfold execOr at h
  obtain rfl := Host.Outcome.next.inj h
  exact regReg_pairs _ _ _ _

theorem execSagLatchTimer_pairs {g : Fin 6} {s u : State} (h : execSagLatchTimer g s = .next u) :
    Keeps PairsOk s u := by
  unfold execSagLatchTimer at h
  obtain rfl := Host.Outcome.next.inj h
  exact sagLatch_pairs _ _

theorem execCtd_pairs {l : Lane} {d : BitVec 6} {a : BitVec 6} {s u : State} (h : execCtd l d a s = .next u) :
    Keeps PairsOk s u := by
  unfold execCtd at h
  obtain rfl := Host.Outcome.next.inj h
  exact recBlock_pairs _ _ _ _ _ _ _ _

theorem execFmax_pairs {o : Blk} {s u : State} (h : execFmax o s = .next u) :
    Keeps PairsOk s u := by
  unfold execFmax at h
  obtain rfl := Host.Outcome.next.inj h
  exact regReg_pairs _ _ _ _

theorem execInterlockPeerNetChange_pairs {own : Bool} {peer : Bool} {s u : State} (h : execInterlockPeerNetChange own peer s = .next u) :
    Keeps PairsOk s u := by
  unfold execInterlockPeerNetChange at h
  obtain rfl := Host.Outcome.next.inj h
  exact netChange_pairs _ _ _

theorem execBistTestSequence_pairs {v : Verdict} {s u : State} (h : execBistTestSequence v s = .next u) :
    Keeps PairsOk s u := by
  unfold execBistTestSequence at h
  obtain rfl := Host.Outcome.next.inj h
  exact bistSequence_pairs _ _

theorem execAlarmEvaluation_pairs {us : BitVec 16} {s u : State} (h : execAlarmEvaluation us s = .next u) :
    Keeps PairsOk s u := by
  unfold execAlarmEvaluation at h
  obtain rfl := Host.Outcome.next.inj h
  exact alarmEvaluation_pairs _ _

theorem execCheckpointCompare_pairs {badRail : Bool} {s u : State} (h : execCheckpointCompare badRail s = .next u) :
    Keeps PairsOk s u := by
  unfold execCheckpointCompare at h
  obtain rfl := Host.Outcome.next.inj h
  exact compareEntries_pairs _ _

theorem execTimeh_pairs {l : Lane} {d : BitVec 6} {a : BitVec 6} {s u : State} (h : execTimeh l d a s = .next u) :
    Keeps PairsOk s u := by
  unfold execTimeh at h
  obtain rfl := Host.Outcome.next.inj h
  exact sysOp_pairs (fun _ => (result_changes _ _ _ _).pairs rfl)

theorem execFle_pairs {o : Blk} {s u : State} (h : execFle o s = .next u) :
    Keeps PairsOk s u := by
  unfold execFle at h
  obtain rfl := Host.Outcome.next.inj h
  exact regReg_pairs _ _ _ _

theorem execLoopTick_pairs {mism : List (Fin 128)} {dlv : List (Fin 128)} {s u : State} (h : execLoopTick mism dlv s = .next u) :
    Keeps PairsOk s u := by
  unfold execLoopTick at h
  obtain rfl := Host.Outcome.next.inj h
  exact loopTick_pairs _ _ _

theorem execTof_pairs {l : Lane} {d : BitVec 6} {a : BitVec 6} {s u : State} (h : execTof l d a s = .next u) :
    Keeps PairsOk s u := by
  unfold execTof at h
  obtain rfl := Host.Outcome.next.inj h
  exact timerBlock_pairs _ _ _ _ _ _

theorem execOut_pairs {o : Blk} {s u : State} (h : execOut o s = .next u) :
    Keeps PairsOk s u := by
  unfold execOut at h
  obtain rfl := Host.Outcome.next.inj h
  exact outOp_pairs _ _

theorem execFlt_pairs {o : Blk} {s u : State} (h : execFlt o s = .next u) :
    Keeps PairsOk s u := by
  unfold execFlt at h
  obtain rfl := Host.Outcome.next.inj h
  exact regReg_pairs _ _ _ _

theorem execRestartClassS_pairs {r : Req} {s u : State} (h : execRestartClassS r s = .next u) :
    Keeps PairsOk s u := by
  unfold execRestartClassS at h
  obtain rfl := Host.Outcome.next.inj h
  exact screenReq_pairs (fun _ => .app (enterReset_pairs _ _ _) ((reply_changes _ _ _ _).pairs rfl))

theorem execSltu_pairs {o : Blk} {s u : State} (h : execSltu o s = .next u) :
    Keeps PairsOk s u := by
  unfold execSltu at h
  obtain rfl := Host.Outcome.next.inj h
  exact regReg_pairs _ _ _ _

theorem execShri_pairs {o : Blk} {s u : State} (h : execShri o s = .next u) :
    Keeps PairsOk s u := by
  unfold execShri at h
  obtain rfl := Host.Outcome.next.inj h
  exact shiftImm_pairs _ _ _ _

theorem execIn_pairs {o : Blk} {s u : State} (h : execIn o s = .next u) :
    Keeps PairsOk s u := by
  unfold execIn at h
  obtain rfl := Host.Outcome.next.inj h
  exact inOp_pairs _ _

theorem execCellstat_pairs {l : Lane} {d : BitVec 6} {a : BitVec 6} {s u : State} (h : execCellstat l d a s = .next u) :
    Keeps PairsOk s u := by
  unfold execCellstat at h
  obtain rfl := Host.Outcome.next.inj h
  exact sysOp_pairs (fun _ => (cellstatOp_changes _ _ _).pairs rfl)

theorem execInterlockStuck_pairs {s u : State} (h : execInterlockStuck s = .next u) :
    Keeps PairsOk s u := by
  unfold execInterlockStuck at h
  obtain rfl := Host.Outcome.next.inj h
  exact .ite (fun _ => .app ((applyOutputs_changes _).pairs rfl) (.app (dropQen_pairs _) (.app ((post_changes _ _ _ _).pairs rfl) ((onPst_changes _ _).pairs rfl)))) (fun _ => .refl)

theorem execEdmTimeout_pairs {p : Fin 24} {s u : State} (h : execEdmTimeout p s = .next u) :
    Keeps PairsOk s u := by
  unfold execEdmTimeout at h
  obtain rfl := Host.Outcome.next.inj h
  exact edmTimeout_pairs _ _

end Sys2Proof.Machine
end

