-- ==== Sys2Proof/Laws/Ring.lean ====
section
/-! SUPPORT. That every operation keeps the Inkwell's ring in order (R346, R347, R350). -/

namespace Sys2Proof.Machine

/-! ### The ring itself -/

/-- The ring and the next SEQ as they were. -/
theorem ringOk_same {s t : State} (h : t.evr.ring = s.evr.ring ∧ t.evr.next = s.evr.next) : Keeps RingOk s t := by
  intro k
  unfold RingOk at k ⊢
  rw [h.1, h.2]
  exact k

theorem ringOk_empty {s : State} (h : s.evr.ring = []) : RingOk s := by
  unfold RingOk
  rw [h]
  exact ⟨Nat.zero_le _, rfl⟩

theorem onEvr_same {f : Evr → Evr} {s : State} (h : ∀ x, (f x).ring = x.ring ∧ (f x).next = x.next) :
    Keeps RingOk s (onEvr f s) := ringOk_same (h _)

theorem ringOk_append {mk : Word → Rec} {s : State} (hm : ∀ q, (mk q).seq = q) (hc : s.evr.ring.length < 8192) :
    Keeps RingOk s { s with evr := { s.evr with ring := s.evr.ring ++ [mk s.evr.next], next := s.evr.next + 1 } } := by
  intro k
  obtain ⟨k1, k2⟩ := k
  refine ⟨?_, ?_⟩
  · simp only [List.length_append, List.length_singleton]
    omega
  · simp only [List.map_append, List.length_append, List.length_singleton, List.range_succ, List.map_singleton, k2, hm]
    congr 1
    · refine List.map_congr_left (fun i hi => ?_)
      have hi : i < s.evr.ring.length := List.mem_range.mp hi
      have e : s.evr.ring.length + 1 - i = (s.evr.ring.length - i) + 1 := by omega
      rw [e, BitVec.ofNat_add]
      bv_omega
    · congr 1
      have e : s.evr.ring.length + 1 - s.evr.ring.length = 1 := by omega
      rw [e]
      bv_omega

theorem evrKept_same (w : Bool) (e : Evr) : (evrKept w e).ring = e.ring ∧ (evrKept w e).next = e.next := by
  cases w <;> exact ⟨rfl, rfl⟩

theorem startFlush_ring (s : State) : Keeps RingOk s (startFlush s) := ringOk_same ⟨rfl, rfl⟩

theorem pushRec_ring {mk : Word → Rec} {s : State} (hm : ∀ q, (mk q).seq = q) : Keeps RingOk s (pushRec mk s) := by
  unfold pushRec
  dsimp only
  exact .ite (fun _ => ringOk_same ⟨rfl, rfl⟩) (fun hc => .ite
    (fun _ => .app (startFlush_ring _) (ringOk_append hm (Nat.lt_of_not_le hc))) (fun _ => ringOk_append hm (Nat.lt_of_not_le hc)))

theorem pushAll_ring (h : PostHead) (vals : List Word) (s : State) : Keeps RingOk s (pushAll h vals s) := by
  unfold pushAll
  exact .each (fun _ _ => pushRec_ring (fun _ => rfl)) .refl

theorem postHead_ring (h : PostHead) (vals : List Word) (s : State) : Keeps RingOk s (postHead h vals s) := by
  unfold postHead
  refine .ite (fun _ => .refl) (fun _ => ?_)
  dsimp only
  split
  · exact pushAll_ring _ _ _
  · exact .ite (fun _ => .app (pushAll_ring _ _ _) (ringOk_same ⟨rfl, rfl⟩)) (fun _ => ringOk_same ⟨rfl, rfl⟩)

theorem post_ring (code : ℕ) (inst : ℕ) (vals : List Word) (s : State) : Keeps RingOk s (post code inst vals s) := by
  unfold post
  exact postHead_ring _ _ _

theorem postCell_ring (code : ℕ) (inst : ℕ) (cell : ℕ) (vals : List Word) (s : State) : Keeps RingOk s (postCell code inst cell vals s) := by
  unfold postCell
  exact postHead_ring _ _ _

theorem arriving_ring {f : PrpRx} {k : State → State} {s : State} (h_k : ∀ u, Keeps RingOk u (k u)) :
    Keeps RingOk s (arriving f k s) := by
  unfold arriving
  exact .ite (fun _ => (setPnPort_changes _ _ _).ring rfl) (fun _ => .ite (fun _ => .refl) (fun _ => .app (h_k _) ((noteFrame_changes _ _).ring rfl)))

theorem relayed_ring {r : Req} {k : State → State} {s : State} (h_k : ∀ u, Keeps RingOk u (k u)) :
    Keeps RingOk s (relayed r k s) := by
  unfold relayed
  exact .ite (fun _ => (emit_changes _ _).ring rfl) (fun _ => .app (h_k _) (.refl))

theorem screenReq_ring {r : Req} {lvl : BitVec 2} {decafOk : Bool} {k : State → State} {s : State} (h_k : ∀ u, Keeps RingOk u (k u)) :
    Keeps RingOk s (screenReq r lvl decafOk k s) := by
  unfold screenReq
  exact arriving_ring (fun _ => .ite (fun _ => .refl) (fun _ => (by
   try dsimp only
   split
   · exact (discardMessage_changes _).ring rfl
   · exact .ite (fun _ => (discardMessage_changes _).ring rfl) (fun _ => .app (.ite (fun _ => (reply_changes _ _ _ _).ring rfl) (fun _ => .ite (fun _ => relayed_ring (fun _ => (reply_changes _ _ _ _).ring rfl)) (fun _ => .ite (fun _ => (reply_changes _ _ _ _).ring rfl) (fun _ => .ite (fun _ => (reply_changes _ _ _ _).ring rfl) (fun _ => .ite (fun _ => (reply_changes _ _ _ _).ring rfl) (fun _ => .ite (fun _ => (reply_changes _ _ _ _).ring rfl) (fun _ => .app (h_k _) (.refl)))))))) ((setSession_changes _ _ _).ring rfl))
)))

theorem slReceive_ring {p : ℕ} {h : SlHdr} {k : State → State} {bad : State → State} {s : State} (h_k : ∀ u, Keeps RingOk u (k u)) (h_bad : ∀ u, Keeps RingOk u (bad u)) :
    Keeps RingOk s (slReceive p h k bad s) := by
  unfold slReceive
  exact .ite (fun _ => .app (h_bad _) (.app ((setSlPort_changes _ _ _).ring rfl) ((checkFailed_changes _ _).ring rfl))) (fun _ => (by
   try dsimp only
   split
   · exact .refl
   · exact .app (h_k _) (.app ((noticeGap_changes _ _ _).ring rfl) ((setSlPort_changes _ _ _).ring rfl))
))

theorem forwardBoth_ring {o : Origin} {c : FwdCmd} {apply : State → State} {s : State} (h_apply : ∀ u, Keeps RingOk u (apply u)) :
    Keeps RingOk s (forwardBoth o c apply s) := by
  unfold forwardBoth
  exact .app ((Changes.upd (T := [.pst]) .refl (.inr rfl) (.inr rfl) (.inr rfl) (.inr rfl) (.inr rfl) (.inr rfl) (.inr rfl) (.inr rfl) (.inr rfl) (.inr rfl) (.inr rfl) (.inr rfl) (.inr rfl) (.inl rfl) (.inr rfl) (.inr rfl) (.inr rfl) (.inr rfl) (.inr rfl) (.inr rfl) (.inr rfl) (.inr rfl) (.inr rfl) (.inr rfl) (.inr rfl)).ring rfl) (.app ((forwardNow_changes _ _).ring rfl) (.ite (fun _ => .app (h_apply _) (.refl)) (fun _ => .refl)))

theorem acceptWith_ring {r : Req} {body : List Byte} {c : FwdCmd} {apply : State → State} {s : State} (h_apply : ∀ u, Keeps RingOk u (apply u)) :
    Keeps RingOk s (acceptWith r body c apply s) := by
  unfold acceptWith
  exact .ite (fun _ => forwardBoth_ring (fun _ => .app (h_apply _) (.refl))) (fun _ => .app ((reply_changes _ _ _ _).ring rfl) (.app (h_apply _) (.refl)))

theorem acceptBoth_ring {r : Req} {c : FwdCmd} {apply : State → State} {s : State} (h_apply : ∀ u, Keeps RingOk u (apply u)) :
    Keeps RingOk s (acceptBoth r c apply s) := by
  unfold acceptBoth
  exact acceptWith_ring (fun _ => .app (h_apply _) (.refl))

theorem acceptIf_ring {r : Req} {ok : Bool} {st : BitVec 16} {k : State → State} {s : State} (h_k : ∀ u, Keeps RingOk u (k u)) :
    Keeps RingOk s (acceptIf r ok st k s) := by
  unfold acceptIf
  exact .ite (fun _ => .app (h_k _) (.refl)) (fun _ => (reply_changes _ _ _ _).ring rfl)

theorem doneBoth_ring {r : Req} {c : FwdCmd} {apply : State → State} {s : State} (h_apply : ∀ u, Keeps RingOk u (apply u)) :
    KeepsW RingOk s (doneBoth r c apply s) := by
  unfold doneBoth
  exact (.done (.ite (fun _ => forwardBoth_ring (fun _ => .app (h_apply _) (.refl))) (fun _ => .app (h_apply _) (.refl))))

theorem answer_ring {r : Req} {f : State → Written} {s : State} (h_f : ∀ u, KeepsW RingOk u (f u)) :
    Keeps RingOk s (answer r f s) := by
  unfold answer
  exact .ite (fun _ => KeepsW.snd (.app (h_f _) (.refl))) (fun _ => .app ((reply_changes _ _ _ _).ring rfl) (KeepsW.snd (.app (h_f _) (.refl))))

theorem byLevel_ring {w : Who} {l : BitVec 2} {k : State → Written} {s : State} (h_k : ∀ u, KeepsW RingOk u (k u)) :
    KeepsW RingOk s (byLevel w l k s) := by
  unfold byLevel
  exact (.ite (fun _ => (.app (h_k _) (.refl))) (fun _ => (.refuse (.refl))))

theorem byLaneOr_ring {w : Who} {l : BitVec 2} {k : State → Written} {s : State} (h_k : ∀ u, KeepsW RingOk u (k u)) :
    KeepsW RingOk s (byLaneOr w l k s) := by
  unfold byLaneOr
  exact ((by
   try dsimp only
   split
   · exact (.app (h_k _) (.refl))
   · exact (byLevel_ring (fun _ => (.app (h_k _) (.refl))))
))

theorem laneWrites_ring {l : Lane} {judge : Word → State → Written} {s : State} {p : Word × Word} (h_judge : ∀ a0 u, KeepsW RingOk u (judge a0 u)) :
    Keeps RingOk s (laneWrites l judge s p) := by
  unfold laneWrites
  exact .ite (fun _ => .app (.ite (fun _ => (queueForTo_changes _ _ _).ring rfl) (fun _ => .app ((objRefused_changes _).ring rfl) (KeepsW.snd (.app (h_judge _ _) (.refl))))) ((setLane_changes _ _ _).ring rfl)) (fun _ => .refl)

theorem sessionWrites_ring {r : Req} {f : Who → State → Written} {s : State} (h_f : ∀ a0 u, KeepsW RingOk u (f a0 u)) :
    Keeps RingOk s (sessionWrites r f s) := by
  unfold sessionWrites
  exact screenReq_ring (fun _ => .app ((reply_changes _ _ _ _).ring rfl) (KeepsW.snd (.app (h_f _ _) (.refl))))

theorem regCommand_ring {p : Path} {a : Word} {v : Word} {f : Who → Word → State → Written} {s : State} (h_f : ∀ a0 a1 u, KeepsW RingOk u (f a0 a1 u)) :
    Keeps RingOk s (regCommand p a v f s) := by
  unfold regCommand
  exact (by
   try dsimp only
   split
   · exact laneWrites_ring (fun _ _ => (.app (h_f _ _ _) (.refl)))
   · exact sessionWrites_ring (fun _ _ => (.app (h_f _ _ _) (.refl)))
)

theorem requal_ring (i : ℕ) (s : State) : Keeps RingOk s (requal i s) := by
  unfold requal
  exact .app (.ite (fun _ => .refl) (fun _ => .app (.app (.ite (fun _ => .refl) (fun _ => post_ring _ _ _ _)) (.ite (fun _ => (Changes.upd (T := [.fch]) .refl (.inr rfl) (.inr rfl) (.inr rfl) (.inr rfl) (.inr rfl) (.inr rfl) (.inr rfl) (.inr rfl) (.inr rfl) (.inr rfl) (.inl rfl) (.inr rfl) (.inr rfl) (.inr rfl) (.inr rfl) (.inr rfl) (.inr rfl) (.inr rfl) (.inr rfl) (.inr rfl) (.inr rfl) (.inr rfl) (.inr rfl) (.inr rfl) (.inr rfl)).ring rfl) (fun _ => .refl))) ((setChan_changes _ _ _).ring rfl))) (.ite (fun _ => .refl) (fun _ => (setChan_changes _ _ _).ring rfl))

theorem requalAll_ring (l : List ℕ) (s : State) : Keeps RingOk s (requalAll l s) := by
  unfold requalAll
  exact .each (fun _ _ => requal_ring _ _) (.refl)

theorem applyOutput_ring (i : ℕ) (s : State) : Keeps RingOk s (applyOutput i s) := by
  unfold applyOutput
  exact .ite (fun _ => .refl) (fun _ => .ite (fun _ => (setChan_changes _ _ _).ring rfl) (fun _ => .ite (fun _ => (setChan_changes _ _ _).ring rfl) (fun _ => .ite (fun _ => .app (.ite (fun _ => requal_ring _ _) (fun _ => .refl)) ((setChan_changes _ _ _).ring rfl)) (fun _ => .ite (fun _ => (setChan_changes _ _ _).ring rfl) (fun _ => .refl)))))

theorem applyOutputs_ring (s : State) : Keeps RingOk s (applyOutputs s) := by
  unfold applyOutputs
  exact .each (fun _ _ => applyOutput_ring _ _) (.refl)

theorem startReq_ring (r : PReq) (s : State) : Keeps RingOk s (startReq r s) := by
  unfold startReq
  exact .ite (fun _ => .refl) (fun _ => (by
   try dsimp only
   split
   · exact .refl
   · exact .app (.ite (fun _ => post_ring _ _ _ _) (fun _ => .refl)) ((setDsp_changes _ _).ring rfl)
))

theorem panelFrame_ring (s : State) : Keeps RingOk s (panelFrame s) := by
  unfold panelFrame
  exact .ite (fun _ => .refl) (fun _ => .app (.ite (fun _ => .refl) (fun _ => .app (.each (fun _ _ => startReq_ring _ _) (.refl)) ((setDsp_changes _ _).ring rfl))) (.app ((railsUp_changes _).ring rfl) ((noteDeferred_changes _).ring rfl)))

theorem byPath_ring {p : Path} {a : Word} {v : Word} {lvl : BitVec 2} {bad : State → Option (BitVec 16)} {k : State → State} {s : State} (h_k : ∀ u, Keeps RingOk u (k u)) :
    Keeps RingOk s (byPath p a v lvl bad k s) := by
  unfold byPath
  exact (by
   try dsimp only
   split
   · exact laneWrites_ring (fun _ _ => ((by
     try dsimp only
     split
     · exact (.done (.refl))
     · exact (.refuse (.refl))
)))
   · exact screenReq_ring (fun _ => (by
     try dsimp only
     split
     · exact .app ((reply_changes _ _ _ _).ring rfl) (.app (h_k _) (.refl))
     · exact (reply_changes _ _ _ _).ring rfl
))
)

theorem discardTrim_ring (s : State) : Keeps RingOk s (discardTrim s) := by
  unfold discardTrim
  exact (by
   try dsimp only
   split
   · exact .refl
   · exact .app (applyOutput_ring _ _) (.app (post_ring _ _ _ _) ((onFch_changes _ _).ring rfl))
)

theorem endCommissioning_ring (s : State) : Keeps RingOk s (endCommissioning s) := by
  unfold endCommissioning
  exact .ite (fun _ => .app ((clearInjectors_changes _).ring rfl) (discardTrim_ring _)) (fun _ => .refl)

theorem slotTo_ring (n : ℕ) (t : SlotState) (f : Slot → Slot) (s : State) : Keeps RingOk s (slotTo n t f s) := by
  unfold slotTo
  exact .app (.ite (fun _ => .refl) (fun _ => post_ring _ _ _ _)) ((setSlot_changes _ _ _).ring rfl)

theorem demandSlot_ring (n : ℕ) (delay : Bool) (s : State) : Keeps RingOk s (demandSlot n delay s) := by
  unfold demandSlot
  exact slotTo_ring _ _ _ _

theorem demandReleased_ring (s : State) : Keeps RingOk s (demandReleased s) := by
  unfold demandReleased
  exact .each (fun _ _ => demandSlot_ring _ _ _) (.refl)

theorem standbyOutputs_ring (s : State) : Keeps RingOk s (standbyOutputs s) := by
  unfold standbyOutputs
  exact .app (requalAll_ring _ _) (.each (fun _ _ => (setChan_changes _ _ _).ring rfl) (.refl))

theorem releaseRole_ring (reason : Byte) (s : State) : Keeps RingOk s (releaseRole reason s) := by
  unfold releaseRole
  exact .ite (fun _ => .app (.app (.app (.app ((standbyDraw_changes _).ring rfl) (.app (standbyOutputs_ring _) (.app (applyOutputs_ring _) (.app ((dropQen_changes _).ring rfl) (.app (demandReleased_ring _) (discardTrim_ring _)))))) (.app ((onAlm_changes _ _).ring rfl) (post_ring _ _ _ _))) ((onPst_changes _ _).ring rfl)) ((slSend_changes _ _ _).ring rfl)) (fun _ => .refl)

theorem floodSummaries_ring (s : State) : Keeps RingOk s (floodSummaries s) := by
  unfold floodSummaries
  exact .each (fun _ _ => post_ring _ _ _ _) (onEvr_same (fun _ => ⟨rfl, rfl⟩))

theorem resetSteps_ring (c : ResetClass) (cause : Byte) (s : State) : Keeps RingOk s (resetSteps c cause s) := by
  unfold resetSteps
  exact .app (.app (.app (.app (.app (.app (.app (.ite (fun _ => .refl) (fun _ => (panelAbort_changes _).ring rfl)) (.app ((onAlm_changes _ _).ring rfl) (.app (onEvr_same (fun _ => ⟨rfl, rfl⟩)) (startFlush_ring _)))) (.app ((endSessions_changes _).ring rfl) (floodSummaries_ring _))) (.app (applyOutputs_ring _) ((dropQen_changes _).ring rfl))) ((onSup_changes _ _).ring rfl)) (.app ((onCyc_changes _ _).ring rfl) (.app ((abandonMaint_changes _).ring rfl) ((stopLanes_changes _).ring rfl)))) (discardTrim_ring _)) (releaseRole_ring _ _)

theorem enterReset_ring (c : ResetClass) (cause : Byte) (s : State) : Keeps RingOk s (enterReset c cause s) := by
  unfold enterReset
  exact (by
   try dsimp only
   split
   · exact .refl
   · exact .ite (fun _ => (onSup_changes _ _).ring rfl) (fun _ => .refl)
   · exact .ite (fun _ => (onSup_changes _ _).ring rfl) (fun _ => .refl)
   · exact resetSteps_ring _ _ _
)

theorem countFailure_ring (reason : Byte) (vals : List Word) (s : State) : Keeps RingOk s (countFailure reason vals s) := by
  unfold countFailure
  exact .app (.app (post_ring _ _ _ _) ((onBoot_changes _ _).ring rfl)) ((setFails_changes _ _).ring rfl)

theorem enterSafe_ring (s : State) : Keeps RingOk s (enterSafe s) := by
  unfold enterSafe
  exact .app (.app (.app (.app (.app (startFlush_ring _) (.app ((standbyDraw_changes _).ring rfl) (.app (applyOutputs_ring _) ((openPairs_changes _).ring rfl)))) ((onBoot_changes _ _).ring rfl)) ((onSup_changes _ _).ring rfl)) (.app ((abandonMaint_changes _).ring rfl) (.app ((stopLanes_changes _).ring rfl) (discardTrim_ring _)))) (.app ((onPst_changes _ _).ring rfl) (.app (releaseRole_ring _ _) (endCommissioning_ring _)))

theorem selfDiag_ring (why : FaultReason) (s : State) : Keeps RingOk s (selfDiag why s) := by
  unfold selfDiag
  exact .app (.ite (fun _ => .app (.ite (fun _ => .app (.ite (fun _ => enterReset_ring _ _ _) (fun _ => .refl)) (countFailure_ring _ _ _)) (fun _ => .refl)) (enterSafe_ring _)) (fun _ => .ite (fun _ => enterReset_ring _ _ _) (fun _ => .refl))) (.app ((diagEvent_changes _).ring rfl) (post_ring _ _ _ _))

theorem timeCheck_ring (ticks : ℕ) (marks : ℕ) (s : State) : Keeps RingOk s (timeCheck ticks marks s) := by
  unfold timeCheck
  exact .app (.app (.ite (fun _ => .app (selfDiag_ring _ _) (.app (applyOutputs_ring _) (.app ((dropQen_changes _).ring rfl) ((onSaf_changes _ _).ring rfl)))) (fun _ => .refl)) (.ite (fun _ => .app ((diagEvent_changes _).ring rfl) (post_ring _ _ _ _)) (fun _ => .refl))) ((onTim_changes _ _).ring rfl)

theorem raiseUnattain_ring (s : State) : Keeps RingOk s (raiseUnattain s) := by
  unfold raiseUnattain
  exact .ite (fun _ => .refl) (fun _ => .app (post_ring _ _ _ _) ((onTim_changes _ _).ring rfl))

theorem governOver_ring (s : State) : Keeps RingOk s (governOver s) := by
  unfold governOver
  exact .ite (fun _ => .ite (fun _ => (lowerCore_changes _).ring rfl) (fun _ => .app (.ite (fun _ => raiseUnattain_ring _) (fun _ => .refl)) ((onTim_changes _ _).ring rfl))) (fun _ => .ite (fun _ => .ite (fun _ => (takeStep_changes _).ring rfl) (fun _ => .refl)) (fun _ => .ite (fun _ => .app ((lowerCore_changes _).ring rfl) ((takeStep_changes _).ring rfl)) (fun _ => .refl)))

theorem governOn_ring (avg : BitVec 16) (s : State) : Keeps RingOk s (governOn avg s) := by
  unfold governOn
  exact .app (.app (.app ((floorGuard_changes _).ring rfl) (.ite (fun _ => governOver_ring _) (fun _ => .ite (fun _ => (governUnder_changes _).ring rfl) (fun _ => .refl)))) ((onTim_changes _ _).ring rfl)) ((onTim_changes _ _).ring rfl)

theorem govern_ring (avg : BitVec 16) (s : State) : Keeps RingOk s (govern avg s) := by
  unfold govern
  exact .app (.ite (fun _ => .refl) (fun _ => governOn_ring _ _)) ((onTim_changes _ _).ring rfl)

theorem barrierLimit_ring (mw : ℕ) (s : State) : Keeps RingOk s (barrierLimit mw s) := by
  unfold barrierLimit
  exact .app (.app (.app (requalAll_ring _ _) (.ite (fun _ => .each (fun _ _ => (setChan_changes _ _ _).ring rfl) (.refl)) (fun _ => .refl))) ((onTim_changes _ _).ring rfl)) (.ite (fun _ => .each (fun _ _ => (setGrp_changes _ _ _).ring rfl) (.each (fun _ _ => (setChan_changes _ _ _).ring rfl) (.refl))) (fun _ => .refl))

theorem onSet_ring (i : ℕ) (f : Chan → Chan) (s : State) : Keeps RingOk s (onSet i f s) := by
  unfold onSet
  exact .app (requalAll_ring _ _) (.each (fun _ _ => (setChan_changes _ _ _).ring rfl) (.refl))

theorem inputState_ring (i : ℕ) (raw : Bool) (filt : Bool) (s : State) : Keeps RingOk s (inputState i raw filt s) := by
  unfold inputState
  exact .app (requal_ring _ _) ((setChan_changes _ _ _).ring rfl)

theorem filterTick_ring (i : ℕ) (raw : Bool) (s : State) : Keeps RingOk s (filterTick i raw s) := by
  unfold filterTick
  exact .ite (fun _ => .app (inputState_ring _ _ _ _) ((setChan_changes _ _ _).ring rfl)) (fun _ => .refl)

theorem overloadTrip_ring (i : ℕ) (s : State) : Keeps RingOk s (overloadTrip i s) := by
  unfold overloadTrip
  exact .ite (fun _ => onSet_ring _ _ _) (fun _ => .refl)

theorem overloadRetry_ring (i : ℕ) (limited : Bool) (s : State) : Keeps RingOk s (overloadRetry i limited s) := by
  unfold overloadRetry
  exact .ite (fun _ => .app (.ite (fun _ => .refl) (fun _ => .each (fun _ _ => applyOutput_ring _ _) (onSet_ring _ _ _))) ((setChan_changes _ _ _).ring rfl)) (fun _ => .refl)

theorem openLoad_ring (i : ℕ) (ma : BitVec 16) (s : State) : Keeps RingOk s (openLoad i ma s) := by
  unfold openLoad
  exact .ite (fun _ => .app (onSet_ring _ _ _) ((setChan_changes _ _ _).ring rfl)) (fun _ => .refl)

theorem shortToSupply_ring (i : ℕ) (v : ℤ) (s : State) : Keeps RingOk s (shortToSupply i v s) := by
  unfold shortToSupply
  exact .ite (fun _ => .app (.ite (fun _ => .app ((shortLatch_changes _ _).ring rfl) (onSet_ring _ _ _)) (fun _ => .ite (fun _ => onSet_ring _ _ _) (fun _ => .refl))) ((setChan_changes _ _ _).ring rfl)) (fun _ => .refl)

theorem midOff_ring (i : ℕ) (v : Option ℤ) (s : State) : Keeps RingOk s (midOff i v s) := by
  unfold midOff
  exact (by
   try dsimp only
   split
   · exact .refl
   · exact .ite (fun _ => .app (requal_ring _ _) ((setChan_changes _ _ _).ring rfl)) (fun _ => .refl)
)

theorem pwmStart_ring (i : ℕ) (on : ℕ) (mid : Option ℤ) (s : State) : Keeps RingOk s (pwmStart i on mid s) := by
  unfold pwmStart
  exact .ite (fun _ => .app ((setChan_changes _ _ _).ring rfl) (midOff_ring _ _ _)) (fun _ => .refl)

theorem testPulseEnd_ring (i : ℕ) (p : PulseSeen) (s : State) : Keeps RingOk s (testPulseEnd i p s) := by
  unfold testPulseEnd
  exact .ite (fun _ => .app (.ite (fun _ => .app (requal_ring _ _) ((setChan_changes _ _ _).ring rfl)) (fun _ => .refl)) ((setChan_changes _ _ _).ring rfl)) (fun _ => .refl)

theorem freqGate_ring (i : ℕ) (periods : ℕ) (ticks : ℕ) (s : State) : Keeps RingOk s (freqGate i periods ticks s) := by
  unfold freqGate
  exact .ite (fun _ => .app (requal_ring _ _) (.app ((setLive_changes _ _ _).ring rfl) ((setChan_changes _ _ _).ring rfl))) (fun _ => .refl)

theorem freezeGroup_ring (g : ℕ) (s : State) : Keeps RingOk s (freezeGroup g s) := by
  unfold freezeGroup
  exact .app (.app (requalAll_ring _ _) ((setGrp_changes _ _ _).ring rfl)) (.each (fun _ _ => (setChan_changes _ _ _).ring rfl) (.refl))

theorem unfreezeGroup_ring (g : ℕ) (s : State) : Keeps RingOk s (unfreezeGroup g s) := by
  unfold unfreezeGroup
  exact .app (.app (requalAll_ring _ _) ((setGrp_changes _ _ _).ring rfl)) (.each (fun _ _ => (setChan_changes _ _ _).ring rfl) (.refl))

theorem supplyChange_ring (g : ℕ) (e : SupplyEvent) (v : BitVec 16) (a : BitVec 16) (s : State) : Keeps RingOk s (supplyChange g e v a s) := by
  unfold supplyChange
  exact .app (.app (.app (.ite (fun _ => .refl) (fun _ => .ite (fun _ => freezeGroup_ring _ _) (fun _ => .ite (fun _ => unfreezeGroup_ring _ _) (fun _ => .refl)))) (.ite (fun _ => (onFch_changes _ _).ring rfl) (fun _ => .refl))) (post_ring _ _ _ _)) ((setGrp_changes _ _ _).ring rfl)

theorem latchPairs_ring (l : List ℕ) (f : Pair → Pair) (s : State) : Keeps RingOk s (latchPairs l f s) := by
  unfold latchPairs
  exact .app (applyOutputs_ring _) (.each (fun _ _ => (onSaf_changes _ _).ring rfl) (.refl))

theorem sagLatch_ring (g : ℕ) (s : State) : Keeps RingOk s (sagLatch g s) := by
  unfold sagLatch
  exact .ite (fun _ => .app (latchPairs_ring _ _ _) ((setGrp_changes _ _ _).ring rfl)) (fun _ => .refl)

theorem linkLost_ring (g : ℕ) (s : State) : Keeps RingOk s (linkLost g s) := by
  unfold linkLost
  exact .app (.app (.app (.app (.app (.ite (fun _ => releaseRole_ring _ _) (fun _ => .refl)) (.each (fun _ _ => applyOutput_ring _ _) (requalAll_ring _ _))) (.each (fun _ _ => (onSaf_changes _ _).ring rfl) (.refl))) (.app ((diagEvent_changes _).ring rfl) (post_ring _ _ _ _))) ((onFch_changes _ _).ring rfl)) ((setGrp_changes _ _ _).ring rfl)

theorem maintEnter_ring (g : ℕ) (s : State) : Keeps RingOk s (maintEnter g s) := by
  unfold maintEnter
  exact .app (.app (.app (.app (latchPairs_ring _ _ _) (requalAll_ring _ _)) (post_ring _ _ _ _)) ((setGrp_changes _ _ _).ring rfl)) (.each (fun _ _ => (setChan_changes _ _ _).ring rfl) (.refl))

theorem maintLeave_ring (g : ℕ) (s : State) : Keeps RingOk s (maintLeave g s) := by
  unfold maintLeave
  exact .app (.app (.app (.app (.ite (fun _ => freezeGroup_ring _ _) (fun _ => .refl)) (requalAll_ring _ _)) (post_ring _ _ _ _)) ((setGrp_changes _ _ _).ring rfl)) ((by
   try dsimp only
   split
   · exact .ite (fun _ => discardTrim_ring _) (fun _ => .refl)
   · exact .refl
))

theorem applyMaint_ring (g : ℕ) (enter : Bool) (s : State) : Keeps RingOk s (applyMaint g enter s) := by
  unfold applyMaint
  exact .ite (fun _ => (setGrp_changes _ _ _).ring rfl) (fun _ => .ite (fun _ => maintEnter_ring _ _) (fun _ => maintLeave_ring _ _))

theorem saveTrim_ring (i : ℕ) (p : TrimPoint) (ua : ℤ) (s : State) : Keeps RingOk s (saveTrim i p ua s) := by
  unfold saveTrim
  exact .app (.app (.app (.ite (fun _ => (forwardNow_changes _ _).ring rfl) (fun _ => .refl)) (post_ring _ _ _ _)) (.ite (fun _ => (setChan_changes _ _ _).ring rfl) (fun _ => .refl))) ((onFch_changes _ _).ring rfl)

theorem storeSession_ring (s : State) : Keeps RingOk s (storeSession s) := by
  unfold storeSession
  exact (by
   try dsimp only
   split
   · exact .refl
   · exact .app (applyOutput_ring _ _) (.app (saveTrim_ring _ _ _ _) ((onFch_changes _ _).ring rfl))
)

theorem setPending_ring (f : ℤ → ℤ) (s : State) : Keeps RingOk s (setPending f s) := by
  unfold setPending
  exact (by
   try dsimp only
   split
   · exact .refl
   · exact .app (applyOutput_ring _ _) ((onFch_changes _ _).ring rfl)
)

theorem trimCommand_ring {r : Req} {k : State → State} {s : State} (h_k : ∀ u, Keeps RingOk u (k u)) :
    Keeps RingOk s (trimCommand r k s) := by
  unfold trimCommand
  exact screenReq_ring (fun _ => acceptIf_ring (fun _ => .app ((reply_changes _ _ _ _).ring rfl) (.app (h_k _) (.refl))))

theorem openTrim_ring (r : Req) (ch : Fin 96) (p : TrimPoint) (s : State) : Keeps RingOk s (openTrim r ch p s) := by
  unfold openTrim
  exact screenReq_ring (fun _ => acceptIf_ring (fun _ => .app ((reply_changes _ _ _ _).ring rfl) (.app (applyOutput_ring _ _) ((onFch_changes _ _).ring rfl))))

theorem writeTrim_ring (r : Req) (ch : Fin 96) (p : TrimPoint) (ua : ℤ) (s : State) : Keeps RingOk s (writeTrim r ch p ua s) := by
  unfold writeTrim
  exact screenReq_ring (fun _ => acceptIf_ring (fun _ => acceptIf_ring (fun _ => .app ((reply_changes _ _ _ _).ring rfl) (saveTrim_ring _ _ _ _))))

theorem trimMove_ring (s : State) : Keeps RingOk s (trimMove s) := by
  unfold trimMove
  exact .ite (fun _ => setPending_ring _ _) (fun _ => .ite (fun _ => setPending_ring _ _) (fun _ => .refl))

theorem trimSet_ring (s : State) : Keeps RingOk s (trimSet s) := by
  unfold trimSet
  exact .app (.ite (fun _ => .refl) (fun _ => storeSession_ring _)) ((onFch_changes _ _).ring rfl)

theorem readback_ring (i : ℕ) (ua : ℤ) (s : State) : Keeps RingOk s (readback i ua s) := by
  unfold readback
  exact .ite (fun _ => .ite (fun _ => .app (requal_ring _ _) ((setChan_changes _ _ _).ring rfl)) (fun _ => .app (requal_ring _ _) ((setChan_changes _ _ _).ring rfl))) (fun _ => .refl)

theorem twoHand_ring (n : ℕ) (blocked : Bool) (s : State) : Keeps RingOk s (twoHand n blocked s) := by
  unfold twoHand
  exact .ite (fun _ => (setSlot_changes _ _ _).ring rfl) (fun _ => .ite (fun _ => .refl) (fun _ => .ite (fun _ => .ite (fun _ => (setSlot_changes _ _ _).ring rfl) (fun _ => slotTo_ring _ _ _ _)) (fun _ => .ite (fun _ => (setSlot_changes _ _ _).ring rfl) (fun _ => .refl))))

theorem evalSlot_ring (n : ℕ) (s : State) : Keeps RingOk s (evalSlot n s) := by
  unfold evalSlot
  exact (by
   try dsimp only
   split
   · exact .app ((setSlot_changes _ _ _).ring rfl) ((setSlot_changes _ _ _).ring rfl)
   · exact .ite (fun _ => .app (twoHand_ring _ _ _) ((setSlot_changes _ _ _).ring rfl)) (fun _ => .ite (fun _ => (setSlot_changes _ _ _).ring rfl) (fun _ => .app (slotTo_ring _ _ _ _) ((setSlot_changes _ _ _).ring rfl)))
   · exact .ite (fun _ => .app (demandSlot_ring _ _ _) (.ite (fun _ => (setSlot_changes _ _ _).ring rfl) (fun _ => .app ((noteResponse_changes _ _).ring rfl) ((setSlot_changes _ _ _).ring rfl)))) (fun _ => (setSlot_changes _ _ _).ring rfl)
)

theorem slotFault_ring (n : ℕ) (code : Byte) (s : State) : Keeps RingOk s (slotFault n code s) := by
  unfold slotFault
  exact .ite (fun _ => .refl) (fun _ => slotTo_ring _ _ _ _)

theorem refreshQen_ring (s : State) : Keeps RingOk s (refreshQen s) := by
  unfold refreshQen
  exact .app (.app (applyOutputs_ring _) ((openPairs_changes _).ring rfl)) (.each (fun _ _ => (onSaf_changes _ _).ring rfl) (.refl))

theorem brakeTestStart_ring (n : ℕ) (s : State) : Keeps RingOk s (brakeTestStart n s) := by
  unfold brakeTestStart
  exact .app (refreshQen_ring _) (.app (evalSlot_ring _ _) ((setSlot_changes _ _ _).ring rfl))

theorem brakeTestDone_ring (n : ℕ) (pass : Bool) (s : State) : Keeps RingOk s (brakeTestDone n pass s) := by
  unfold brakeTestDone
  exact .app (.app (post_ring _ _ _ _) (.ite (fun _ => (onSaf_changes _ _).ring rfl) (fun _ => .refl))) ((setSlot_changes _ _ _).ring rfl)

theorem brakeTestStep_ring (n : ℕ) (s : State) : Keeps RingOk s (brakeTestStep n s) := by
  unfold brakeTestStep
  exact .ite (fun _ => .refl) (fun _ => .app (.ite (fun _ => brakeTestDone_ring _ _ _) (fun _ => .refl)) ((setSlot_changes _ _ _).ring rfl))

theorem quillEvaluation_ring (s : State) : Keeps RingOk s (quillEvaluation s) := by
  unfold quillEvaluation
  exact .ite (fun _ => .app (refreshQen_ring _) (.each (fun _ _ => .app (evalSlot_ring _ _) (.app (brakeTestStep_ring _ _) ((stuckStep_changes _ _).ring rfl))) (.refl))) (fun _ => refreshQen_ring _)

theorem slotEvent_ring {n : ℕ} {ok : SlotCfg → Slot → Bool} {f : State → State} {s : State} (h_f : ∀ u, Keeps RingOk u (f u)) :
    Keeps RingOk s (slotEvent n ok f s) := by
  unfold slotEvent
  exact (by
   try dsimp only
   split
   · exact .refl
   · exact .ite (fun _ => .app (refreshQen_ring _) (.app (h_f _) (.refl))) (fun _ => .refl)
)

theorem ownPulse_ring (n : ℕ) (k : ℕ) (ok : Bool) (s : State) : Keeps RingOk s (ownPulse n k ok s) := by
  unfold ownPulse
  exact .app (.ite (fun _ => slotFault_ring _ _ _) (fun _ => .refl)) ((setSlot_changes _ _ _).ring rfl)

theorem otherPulse_ring (n : ℕ) (k : ℕ) (low : Bool) (s : State) : Keeps RingOk s (otherPulse n k low s) := by
  unfold otherPulse
  exact .app (.ite (fun _ => slotFault_ring _ _ _) (fun _ => .refl)) ((setSlot_changes _ _ _).ring rfl)

theorem testPulseCheck_ring (n : ℕ) (p : PulseSamples) (s : State) : Keeps RingOk s (testPulseCheck n p s) := by
  unfold testPulseCheck
  exact .app (slotEvent_ring (fun _ => .ite (fun _ => ownPulse_ring _ _ _ _) (fun _ => otherPulse_ring _ _ _ _))) ((periodUnchecked_changes _ _ _).ring rfl)

theorem resetSlot_ring (n : ℕ) (s : State) : Keeps RingOk s (resetSlot n s) := by
  unfold resetSlot
  exact (by
   try dsimp only
   split
   · exact .ite (fun _ => .refl) (fun _ => slotTo_ring _ _ _ _)
   · exact .ite (fun _ => slotTo_ring _ _ _ _) (fun _ => .refl)
   · exact .refl
)

theorem resetDemand_ring (i : ℕ) (ms : ℕ) (s : State) : Keeps RingOk s (resetDemand i ms s) := by
  unfold resetDemand
  exact .ite (fun _ => .refl) (fun _ => .ite (fun _ => .each (fun _ _ => (setSlot_changes _ _ _).ring rfl) (.refl)) (fun _ => .app (.app (refreshQen_ring _) (.each (fun _ _ => resetSlot_ring _ _) (.refl))) (.each (fun _ _ => (clearLatches_changes _ _).ring rfl) (.refl))))

theorem switchOffTest_ring (p : ℕ) (side : Side) (v : ℤ) (s : State) : Keeps RingOk s (switchOffTest p side v s) := by
  unfold switchOffTest
  exact .ite (fun _ => .app (.ite (fun _ => .app (refreshQen_ring _) (.app (latchPairs_ring _ _ _) (post_ring _ _ _ _))) (fun _ => .refl)) ((setPair_changes _ _ _).ring rfl)) (fun _ => .refl)

theorem edmFault_ring (p : ℕ) (s : State) : Keeps RingOk s (edmFault p s) := by
  unfold edmFault
  exact .app (latchPairs_ring _ _ _) (post_ring _ _ _ _)

theorem edmTimeout_ring (p : ℕ) (s : State) : Keeps RingOk s (edmTimeout p s) := by
  unfold edmTimeout
  exact .ite (fun _ => .app (refreshQen_ring _) (edmFault_ring _ _)) (fun _ => .refl)

theorem pairAtTo_ring (p : ℕ) (s : State) : Keeps RingOk s (pairAtTo p s) := by
  unfold pairAtTo
  exact .app (.ite (fun _ => edmFault_ring _ _) (fun _ => .refl)) ((setPair_changes _ _ _).ring rfl)

theorem pairsAtTo_ring (s : State) : Keeps RingOk s (pairsAtTo s) := by
  unfold pairsAtTo
  exact .each (fun _ _ => pairAtTo_ring _ _) (.refl)

theorem brakeFeedback_ring (n : ℕ) (s : State) : Keeps RingOk s (brakeFeedback n s) := by
  unfold brakeFeedback
  exact slotEvent_ring (fun _ => .ite (fun _ => slotFault_ring _ _ _) (fun _ => .ite (fun _ => slotFault_ring _ _ _) (fun _ => .refl)))

theorem ageSlot_ring (n : ℕ) (s : State) : Keeps RingOk s (ageSlot n s) := by
  unfold ageSlot
  exact .app (.ite (fun _ => post_ring _ _ _ _) (fun _ => .refl)) ((onSaf_changes _ _).ring rfl)

theorem quillStreamLost_ring (g : ℕ) (s : State) : Keeps RingOk s (quillStreamLost g s) := by
  unfold quillStreamLost
  exact .app (.app (quillEvaluation_ring _) (.each (fun _ _ => (setPair_changes _ _ _).ring rfl) (.refl))) ((setGrp_changes _ _ _).ring rfl)

theorem ctxWrite_ring {w : Who} {c : ℕ} {k : State → Written} {s : State} (h_k : ∀ u, KeepsW RingOk u (k u)) :
    KeepsW RingOk s (ctxWrite w c k s) := by
  unfold ctxWrite
  exact (.ite (fun _ => (.app (h_k _) (.refl))) (fun _ => (.refuse ((onCvu_changes _ _).ring rfl))))

theorem writeRun_ring {f : Nat → Word → State → Written} {off : Nat} {ws : List Word} {s : State}
    (h_f : ∀ a0 a1 u, KeepsW RingOk u (f a0 a1 u)) : KeepsW RingOk s (writeRun f off ws s) := by
  induction ws generalizing off s with
  | nil => exact .done .refl
  | cons v vs ih =>
    unfold writeRun
    exact .ite (fun _ => .app ih (KeepsW.snd (h_f _ _ _))) (fun _ => h_f _ _ _)

theorem writeWords_ring {f : ℕ → Word → State → Written} {off : ℕ} {ws : List Word} {s : State} (h_f : ∀ a0 a1 u, KeepsW RingOk u (f a0 a1 u)) :
    KeepsW RingOk s (writeWords f off ws s) := by
  unfold writeWords
  exact (.ite (fun _ => (writeRun_ring (fun _ _ _ => (.app (h_f _ _ _) (.refl))))) (fun _ => (.pair ((keepRefusals_changes _ _).ring rfl))))

theorem flushDone_ring (s : State) : Keeps RingOk s (flushDone s) := by
  unfold flushDone
  dsimp only
  refine .ite (fun _ _ => ringOk_empty rfl) (fun _ => ?_)
  exact .app (onEvr_same (fun _ => ⟨rfl, rfl⟩)) (.app (post_ring _ _ _ _) (.app (onEvr_same (fun _ => ⟨rfl, rfl⟩))
    (fun _ => ringOk_empty rfl)))

theorem setCursor_ring (w : Who) (f : Cursor → Cursor) (s : State) : Keeps RingOk s (setCursor w f s) := by
  unfold setCursor
  exact (by
   try dsimp only
   split
   · exact onEvr_same (fun _ => ⟨rfl, rfl⟩)
   · exact (setSession_changes _ _ _).ring rfl
)

theorem evrWrite_ring (w : Who) (off : ℕ) (v : Word) (s : State) : KeepsW RingOk s (evrWrite w off v s) := by
  unfold evrWrite
  exact ((by
   try dsimp only
   split
   · exact (byLevel_ring (fun _ => (.done (onEvr_same (fun _ => ⟨rfl, rfl⟩)))))
   · exact (.done (setCursor_ring _ _ _))
   · exact ((by
     try dsimp only
     split
     · exact (.done (setCursor_ring _ _ _))
     · exact (.done (setCursor_ring _ _ _))
     · exact (.done (setCursor_ring _ _ _))
     · exact (.done (setCursor_ring _ _ _))
     · exact (.refuse (.refl))
))
   · exact (.refuse (.refl))
))

theorem handOff_ring (s : State) : Keeps RingOk s (handOff s) := by
  unfold handOff
  exact .each (fun _ _ => .ite (fun _ => .refl) (fun _ => .app (applyOutput_ring _ _) ((onLpe_changes _ _).ring rfl))) (.refl)

theorem loopInit_ring (s : State) : Keeps RingOk s (loopInit s) := by
  unfold loopInit
  exact .app (.app (.app (handOff_ring _) ((onLpe_changes _ _).ring rfl)) (.each (fun _ _ => (setLGroup_changes _ _ _).ring rfl) (.refl))) (.each (fun _ _ => (loopInitSlot_changes _ _).ring rfl) (.refl))

theorem loopRequests_ring (k : ℕ) (s : State) : Keeps RingOk s (loopRequests k s) := by
  unfold loopRequests
  exact (by
   try dsimp only
   split
   · exact .app ((setLoop_changes _ _ _).ring rfl) (.ite (fun _ => post_ring _ _ _ _) (fun _ => .refl))
   · exact .ite (fun _ => .app ((modeRefused_changes _ _).ring rfl) (.app ((setLoop_changes _ _ _).ring rfl) (.ite (fun _ => post_ring _ _ _ _) (fun _ => .refl)))) (fun _ => .ite (fun _ => .app ((setLoop_changes _ _ _).ring rfl) (.ite (fun _ => post_ring _ _ _ _) (fun _ => .refl))) (fun _ => .app ((setLoop_changes _ _ _).ring rfl) (.app ((setLoop_changes _ _ _).ring rfl) (.ite (fun _ => post_ring _ _ _ _) (fun _ => .refl)))))
)

theorem loopMismatch_ring (k : ℕ) (s : State) : Keeps RingOk s (loopMismatch k s) := by
  unfold loopMismatch
  exact .app (.app (.app (.ite (fun _ => selfDiag_ring _ _) (fun _ => .refl)) (.app ((diagEvent_changes _).ring rfl) (post_ring _ _ _ _))) ((onLpe_changes _ _).ring rfl)) ((setLoop_changes _ _ _).ring rfl)

theorem noteWinner_ring (g : ℕ) (win : ℕ) (s : State) : Keeps RingOk s (noteWinner g win s) := by
  unfold noteWinner
  exact .ite (fun _ => (setLGroup_changes _ _ _).ring rfl) (fun _ => .app (.app (.ite (fun _ => .app (post_ring _ _ _ _) ((onLpe_changes _ _).ring rfl)) (fun _ => .refl)) ((setLGroup_changes _ _ _).ring rfl)) ((setLoop_changes _ _ _).ring rfl))

theorem deliver_ring (h : ℕ) (s : State) : Keeps RingOk s (deliver h s) := by
  unfold deliver
  exact (by
   try dsimp only
   split
   · exact .app (noteWinner_ring _ _ _) (.app ((setLGroup_changes _ _ _).ring rfl) (.each (fun _ _ => (alignLoop_changes _ _ _ _).ring rfl) (.ite (fun _ => .app ((onLpe_changes _ _).ring rfl) (.each (fun _ _ => (setLoop_changes _ _ _).ring rfl) (.refl))) (fun _ => .each (fun _ _ => (setLoop_changes _ _ _).ring rfl) (.refl)))))
   · exact .each (fun _ _ => (alignLoop_changes _ _ _ _).ring rfl) (.ite (fun _ => .app ((onLpe_changes _ _).ring rfl) (.each (fun _ _ => (setLoop_changes _ _ _).ring rfl) (.refl))) (fun _ => .each (fun _ _ => (setLoop_changes _ _ _).ring rfl) (.refl)))
)

theorem sampleUnit_ring (mism : List ℕ) (dlv : List ℕ) (h : ℕ) (s : State) : Keeps RingOk s (sampleUnit mism dlv h s) := by
  unfold sampleUnit
  exact .app (.ite (fun _ => .each (fun _ _ => (setLoop_changes _ _ _).ring rfl) (.refl)) (fun _ => .ite (fun _ => .app (.app ((setLoop_changes _ _ _).ring rfl) (loopMismatch_ring _ _)) (.each (fun _ _ => .ite (fun _ => loopMismatch_ring _ _) (fun _ => (setLoop_changes _ _ _).ring rfl)) (.refl))) (fun _ => .app (.app (.ite (fun _ => .refl) (fun _ => deliver_ring _ _)) ((setLoop_changes _ _ _).ring rfl)) (.each (fun _ _ => .ite (fun _ => loopMismatch_ring _ _) (fun _ => (evalLoop_changes _ _).ring rfl)) (.refl))))) (.each (fun _ _ => loopRequests_ring _ _) (.refl))

theorem traceSample_ring (hits : List ℕ) (j : ℕ) (s : State) : Keeps RingOk s (traceSample hits j s) := by
  unfold traceSample
  exact (by
   try dsimp only
   split
   · exact (onLpe_changes _ _).ring rfl
   · exact (onLpe_changes _ _).ring rfl
   · exact .ite (fun _ => .app (post_ring _ _ _ _) (.app ((onLpe_changes _ _).ring rfl) ((onLpe_changes _ _).ring rfl))) (fun _ => (onLpe_changes _ _).ring rfl)
   · exact .refl
)

theorem traceTick_ring (sampled : List ℕ) (s : State) : Keeps RingOk s (traceTick sampled s) := by
  unfold traceTick
  exact .app (.app (.app (.each (fun _ _ => (setLoop_changes _ _ _).ring rfl) (.refl)) ((onLpe_changes _ _).ring rfl)) (.each (fun _ _ => traceSample_ring _ _ _) (.refl))) (.each (fun _ _ => (onLpe_changes _ _).ring rfl) (.refl))

theorem loopTick_ring (mism : List ℕ) (dlv : List ℕ) (s : State) : Keeps RingOk s (loopTick mism dlv s) := by
  unfold loopTick
  exact .ite (fun _ => .app (traceTick_ring _ _) (.each (fun _ _ => sampleUnit_ring _ _ _ _) (.refl))) (fun _ => .refl)

theorem loopHandoff_ring (t : BitVec 16) (s : State) : Keeps RingOk s (loopHandoff t s) := by
  unfold loopHandoff
  exact .ite (fun _ => .app (.ite (fun _ => selfDiag_ring _ _) (fun _ => handOff_ring _)) ((onLpe_changes _ _).ring rfl)) (fun _ => .refl)

theorem goto_ring (l : Lane) (target : Word) (s : State) : Keeps RingOk s (goto l target s) := by
  unfold goto
  exact .ite (fun _ => (setLane_changes _ _ _).ring rfl) (fun _ => selfDiag_ring _ _)

theorem next_ring (l : Lane) (s : State) : Keeps RingOk s (next l s) := by
  unfold next
  exact goto_ring _ _ _

theorem blockOp_ring {l : Lane} {w : Word} {legal : Bool} {k : State → State} {s : State} (h_k : ∀ u, Keeps RingOk u (k u)) :
    Keeps RingOk s (blockOp l w legal k s) := by
  unfold blockOp
  exact .ite (fun _ => .refl) (fun _ => .ite (fun _ => selfDiag_ring _ _) (fun _ => .app (h_k _) ((setLane_changes _ _ _).ring rfl)))

theorem writesD_ring (op : BitVec 8) (o : Blk) (legal : Bool) (f : LaneSt → Word) (s : State) : Keeps RingOk s (writesD op o legal f s) := by
  unfold writesD
  exact blockOp_ring (fun _ => .app (next_ring _ _) ((setLane_changes _ _ _).ring rfl))

theorem regReg_ring (op : BitVec 8) (o : Blk) (f : Word → Word → Word) (s : State) : Keeps RingOk s (regReg op o f s) := by
  unfold regReg
  exact writesD_ring _ _ _ _ _

theorem regImm_ring (op : BitVec 8) (o : Blk) (f : Word → Word) (s : State) : Keeps RingOk s (regImm op o f s) := by
  unfold regImm
  exact writesD_ring _ _ _ _ _

theorem regOnly_ring (op : BitVec 8) (o : Blk) (f : Word → Word) (s : State) : Keeps RingOk s (regOnly op o f s) := by
  unfold regOnly
  exact writesD_ring _ _ _ _ _

theorem nopWord_ring (l : Lane) (w : Word) (s : State) : Keeps RingOk s (nopWord l w s) := by
  unfold nopWord
  exact .ite (fun _ => blockOp_ring (fun _ => next_ring _ _)) (fun _ => .ite (fun _ => blockOp_ring (fun _ => .refl)) (fun _ => .refl))

theorem branch_ring (op : BitVec 8) (o : Blk) (legal : Bool) (c : Word → Bool) (s : State) : Keeps RingOk s (branch op o legal c s) := by
  unfold branch
  exact blockOp_ring (fun _ => .ite (fun _ => goto_ring _ _ _) (fun _ => next_ring _ _))

theorem jmpOp_ring (o : Blk) (s : State) : Keeps RingOk s (jmpOp o s) := by
  unfold jmpOp
  exact blockOp_ring (fun _ => goto_ring _ _ _)

theorem callOp_ring (o : Blk) (s : State) : Keeps RingOk s (callOp o s) := by
  unfold callOp
  exact blockOp_ring (fun _ => .app (goto_ring _ _ _) ((setLane_changes _ _ _).ring rfl))

theorem shiftImm_ring (op : BitVec 8) (o : Blk) (f : Word → ℕ → Word) (s : State) : Keeps RingOk s (shiftImm op o f s) := by
  unfold shiftImm
  exact writesD_ring _ _ _ _ _

theorem loadOp_ring (op : BitVec 8) (o : Blk) (legal : Bool) (ea : LaneSt → Word) (s : State) : Keeps RingOk s (loadOp op o legal ea s) := by
  unfold loadOp
  exact blockOp_ring (fun _ => .ite (fun _ => .app (next_ring _ _) ((setLane_changes _ _ _).ring rfl)) (fun _ => selfDiag_ring _ _))

theorem storeOp_ring (op : BitVec 8) (o : Blk) (legal : Bool) (ea : LaneSt → Word) (s : State) : Keeps RingOk s (storeOp op o legal ea s) := by
  unfold storeOp
  exact blockOp_ring (fun _ => .ite (fun _ => .ite (fun _ => selfDiag_ring _ _) (fun _ => .app (next_ring _ _) (.ite (fun _ => .refl) (fun _ => (setLane_changes _ _ _).ring rfl)))) (fun _ => selfDiag_ring _ _))

theorem inOp_ring (o : Blk) (s : State) : Keeps RingOk s (inOp o s) := by
  unfold inOp
  exact blockOp_ring (fun _ => .ite (fun _ => .app (.app (next_ring _ _) ((setLane_changes _ _ _).ring rfl)) (.ite (fun _ => (setCell_changes _ _ _).ring rfl) (fun _ => .refl))) (fun _ => selfDiag_ring _ _))

theorem outOp_ring (o : Blk) (s : State) : Keeps RingOk s (outOp o s) := by
  unfold outOp
  exact blockOp_ring (fun _ => .ite (fun _ => .app (.app (next_ring _ _) (.ite (fun _ => (onCmp_changes _ _).ring rfl) (fun _ => (setLane_changes _ _ _).ring rfl))) ((setLane_changes _ _ _).ring rfl)) (fun _ => selfDiag_ring _ _))

theorem cellIn_ring (o : Blk) (s : State) : Keeps RingOk s (cellIn o s) := by
  unfold cellIn
  exact blockOp_ring (fun _ => .ite (fun _ => .app (next_ring _ _) (.app ((checkpoint_changes _ _ _ _).ring rfl) ((setLane_changes _ _ _).ring rfl))) (fun _ => selfDiag_ring _ _))

theorem cellOut_ring (o : Blk) (s : State) : Keeps RingOk s (cellOut o s) := by
  unfold cellOut
  exact blockOp_ring (fun _ => .ite (fun _ => .app (next_ring _ _) (.app ((checkpoint_changes _ _ _ _).ring rfl) ((setLane_changes _ _ _).ring rfl))) (fun _ => selfDiag_ring _ _))

theorem sysOp_ring {n : BitVec 12} {l : Lane} {d : BitVec 6} {a : BitVec 6} {legal : Bool} {k : State → State} {s : State} (h_k : ∀ u, Keeps RingOk u (k u)) :
    Keeps RingOk s (sysOp n l d a legal k s) := by
  unfold sysOp
  exact blockOp_ring (fun _ => .app (next_ring _ _) (.app (h_k _) (.refl)))

theorem recBlock_ring (num : BitVec 12) (n : ℕ) (l : Lane) (d : BitVec 6) (a : BitVec 6) (stores : Bool) (k : ℕ → LaneSt → LaneSt × Word) (s : State) : Keeps RingOk s (recBlock num n l d a stores k s) := by
  unfold recBlock
  exact blockOp_ring (fun _ => .ite (fun _ => selfDiag_ring _ _) (fun _ => .ite (fun _ => selfDiag_ring _ _) (fun _ => .app (next_ring _ _) ((setLane_changes _ _ _).ring rfl))))

theorem timerBlock_ring (num : BitVec 12) (step : Bool → ℕ → TimerRec → TimerRec) (l : Lane) (d : BitVec 6) (a : BitVec 6) (s : State) : Keeps RingOk s (timerBlock num step l d a s) := by
  unfold timerBlock
  exact recBlock_ring _ _ _ _ _ _ _ _

theorem ringArrive_ring {p : Fin 2} {f : RingFrame} {pass : State → State} {k : State → State} {s : State} (h_pass : ∀ u, Keeps RingOk u (pass u)) (h_k : ∀ u, Keeps RingOk u (k u)) :
    Keeps RingOk s (ringArrive p f pass k s) := by
  unfold ringArrive
  exact .ite (fun _ => .refl) (fun _ => .ite (fun _ => .app ((ringSupervised_changes _ _).ring rfl) (.app (h_pass _) (.refl))) (fun _ => .app (.ite (fun _ => .refl) (fun _ => .app (h_k _) (.refl))) (.app (h_pass _) (.refl))))

theorem ringTake_ring {p : Fin 2} {f : RingFrame} {want : Word} {k : Word → State → State} {s : State} (h_k : ∀ a0 u, Keeps RingOk u (k a0 u)) :
    Keeps RingOk s (ringTake p f want k s) := by
  unfold ringTake
  exact .ite (fun _ => .app (h_k _ _) ((ringValid_changes _ _).ring rfl)) (fun _ => (ringInvalid_changes _ _).ring rfl)

theorem ringAccept_ring {p : Fin 2} {kind : Byte} {f : RingFrame} {want : Word} {k : Word → State → State} {s : State} (h_k : ∀ a0 u, Keeps RingOk u (k a0 u)) :
    Keeps RingOk s (ringAccept p kind f want k s) := by
  unfold ringAccept
  exact ringArrive_ring (fun _ => (ringForward_changes _ _ _).ring rfl) (fun _ => .ite (fun _ => .refl) (fun _ => ringTake_ring (fun _ _ => .app (h_k _ _) (.refl))))

theorem deadlineStn_ring (n : ℕ) (s : State) : Keeps RingOk s (deadlineStn n s) := by
  unfold deadlineStn
  exact .ite (fun _ => .refl) (fun _ => .app (.ite (fun _ => .app (.app (.app (post_ring _ _ _ _) ((onFrg_changes _ _).ring rfl)) ((onCyc_changes _ _).ring rfl)) ((setStn_changes _ _ _).ring rfl)) (fun _ => (setStn_changes _ _ _).ring rfl)) ((onFrg_changes _ _).ring rfl))

theorem grantStn_ring (n : ℕ) (s : State) : Keeps RingOk s (grantStn n s) := by
  unfold grantStn
  exact (by
   try dsimp only
   split
   · exact .refl
   · exact .app (.ite (fun _ => .app ((ringSend_changes _ _).ring rfl) ((onFrg_changes _ _).ring rfl)) (fun _ => .app (.app (.app (.app (.app ((ringSend_changes _ _).ring rfl) (post_ring _ _ _ _)) ((onFrg_changes _ _).ring rfl)) ((setStn_changes _ _ _).ring rfl)) ((takeFree_changes _).ring rfl)) ((takeFree_changes _).ring rfl))) ((setStn_changes _ _ _).ring rfl)
)

theorem grantAll_ring (s : State) : Keeps RingOk s (grantAll s) := by
  unfold grantAll
  exact .ite (fun _ => .each (fun _ _ => grantStn_ring _ _) (.refl)) (fun _ => .refl)

theorem linkAccept_ring {p : Fin 2} {kind : Byte} {f : RingFrame} {k : State → State} {s : State} (h_k : ∀ u, Keeps RingOk u (k u)) :
    Keeps RingOk s (linkAccept p kind f k s) := by
  unfold linkAccept
  exact ringAccept_ring (fun _ _ => .app (h_k _) ((setRingPort_changes _ _ _).ring rfl))

theorem cmpFault_ring (reason : Byte) (cell : BitVec 12) (why : FaultReason) (s : State) : Keeps RingOk s (cmpFault reason cell why s) := by
  unfold cmpFault
  exact .app (selfDiag_ring _ _) ((onCmp_changes _ _).ring rfl)

theorem checkedVerdict_ring (v : Verdict) (cell : BitVec 12) (s : State) : Keeps RingOk s (checkedVerdict v cell s) := by
  unfold checkedVerdict
  exact (by
   try dsimp only
   split
   · exact cmpFault_ring _ _ _ _
   · exact cmpFault_ring _ _ _ _
   · exact cmpFault_ring _ _ _ _
   · exact cmpFault_ring _ _ _ _
   · exact cmpFault_ring _ _ _ _
   · exact (onCmp_changes _ _).ring rfl
   · exact .refl
)

theorem compareEntries_ring (badRail : Bool) (s : State) : Keeps RingOk s (compareEntries badRail s) := by
  unfold compareEntries
  exact (by
   try dsimp only
   split
   · exact .app (.app (.ite (fun _ => .refl) (fun _ => .ite (fun _ => (sendClosed_changes _ _).ring rfl) (fun _ => .refl))) (.ite (fun _ => (observedVerdict_changes _ _).ring rfl) (fun _ => checkedVerdict_ring _ _ _))) ((onCmp_changes _ _).ring rfl)
   · exact .refl
)

theorem compareStalled_ring (s : State) : Keeps RingOk s (compareStalled s) := by
  unfold compareStalled
  exact (by
   try dsimp only
   split
   · exact .ite (fun _ => (observed_changes _ _).ring rfl) (fun _ => cmpFault_ring _ _ _ _)
   · exact .refl
)

theorem laneStalled_ring (l : Lane) (s : State) : Keeps RingOk s (laneStalled l s) := by
  unfold laneStalled
  exact .ite (fun _ => .ite (fun _ => (observed_changes _ _).ring rfl) (fun _ => .app (cmpFault_ring _ _ _ _) ((takeFree_changes _).ring rfl))) (fun _ => .refl)

theorem endOp_ring (o : Blk) (s : State) : Keeps RingOk s (endOp o s) := by
  unfold endOp
  exact blockOp_ring (fun _ => .ite (fun _ => .app ((splitOutputs_changes _).ring rfl) (.app ((checkpoint_changes _ _ _ _).ring rfl) ((setLane_changes _ _ _).ring rfl))) (fun _ => selfDiag_ring _ _))

theorem benign_ring (c : ℕ) (s : State) : Keeps RingOk s (benign c s) := by
  unfold benign
  exact .app (.app ((Changes.upd (T := [.nibB]) .refl (.inr rfl) (.inr rfl) (.inr rfl) (.inr rfl) (.inr rfl) (.inr rfl) (.inl rfl) (.inr rfl) (.inr rfl) (.inr rfl) (.inr rfl) (.inr rfl) (.inr rfl) (.inr rfl) (.inr rfl) (.inr rfl) (.inr rfl) (.inr rfl) (.inr rfl) (.inr rfl) (.inr rfl) (.inr rfl) (.inr rfl) (.inr rfl) (.inr rfl)).ring rfl) ((onCmp_changes _ _).ring rfl)) (postCell_ring _ _ _ _ _)

theorem digestComplete_ring (s : State) : Keeps RingOk s (digestComplete s) := by
  unfold digestComplete
  exact .ite (fun _ => .refl) (fun _ => .ite (fun _ => .app (cmpFault_ring _ _ _ _) ((onCmp_changes _ _).ring rfl)) (fun _ => .ite (fun _ => .app (cmpFault_ring _ _ _ _) ((onCmp_changes _ _).ring rfl)) (fun _ => benign_ring _ _)))

theorem rejoinFailed_ring (block : Bool) (s : State) : Keeps RingOk s (rejoinFailed block s) := by
  unfold rejoinFailed
  exact .app (post_ring _ _ _ _) ((onCmp_changes _ _).ring rfl)

theorem laneModeT0_ring (s : State) : Keeps RingOk s (laneModeT0 s) := by
  unfold laneModeT0
  exact .ite (fun _ => .ite (fun _ => rejoinFailed_ring _ _) (fun _ => .ite (fun _ => (onCmp_changes _ _).ring rfl) (fun _ => .refl))) (fun _ => .refl)

theorem readEffect_ring (a : ℕ) (s : State) : Keeps RingOk s (readEffect a s) := by
  unfold readEffect
  exact (by
   try dsimp only
   split
   · exact (onSup_changes _ _).ring rfl
   · exact (onTim_changes _ _).ring rfl
   · exact (onTim_changes _ _).ring rfl
   · exact (onTim_changes _ _).ring rfl
   · exact (onCyc_changes _ _).ring rfl
   · exact (onCmp_changes _ _).ring rfl
   · exact (onLpe_changes _ _).ring rfl
   · exact (onAlm_changes _ _).ring rfl
   · exact (onPst_changes _ _).ring rfl
   · exact (onPst_changes _ _).ring rfl
   · exact (onPst_changes _ _).ring rfl
   · exact (onFrg_changes _ _).ring rfl
   · exact onEvr_same (fun _ => ⟨rfl, rfl⟩)
   · exact (setDsp_changes _ _).ring rfl
   · exact .ite (fun _ => (setGrp_changes _ _ _).ring rfl) (fun _ => .refl)
)

theorem objRead_ring {w : Who} {a : Nat} {s : State} {p : Word × State} (h : objRead w a s = some p) :
    Keeps RingOk s p.2 := by
  unfold objRead at h
  split at h
  · cases h
  · split at h
    · cases h
      exact readEffect_ring _ _
    · cases h
      exact .app ((takeFree_changes _).ring rfl) (readEffect_ring _ _)

theorem readWords_ring {w : Who} {a n : Nat} {s : State} {p : List Word × State} (h : readWords w a n s = some p) :
    Keeps RingOk s p.2 := by
  induction n generalizing a s p with
  | zero => unfold readWords at h; cases h; exact .refl
  | succ n ih =>
    unfold readWords at h
    split at h
    · cases h
    · rename_i e
      obtain ⟨q, hq, rfl⟩ := Option.map_eq_some_iff.mp h
      have k := ih hq
      exact .app k (objRead_ring e)

theorem mbValue_ring {e : MbEntry} {s : State} {p : Word × State} (h : mbValue e s = some p) : Keeps RingOk s p.2 := by
  unfold mbValue at h
  split at h
  · split at h
    · cases h; exact .refl
    · cases h
  · exact objRead_ring h

theorem mbRead_ring {inputs : Bool} {tbl : List (Nat × MbEntry)} {q n : Nat} {s : State} {p : List (BitVec 16) × State}
    (h : mbRead inputs tbl q n s = some p) : Keeps RingOk s p.2 := by
  induction q using Nat.strongRecOn generalizing n s p with
  | ind q ih =>
    cases q with
    | zero => unfold mbRead at h; cases h; exact .refl
    | succ q =>
      unfold mbRead at h
      dsimp only at h
      split at h
      · split at h
        · obtain ⟨r, hr, rfl⟩ := Option.map_eq_some_iff.mp h
          have k := ih q (Nat.lt_succ_self q) hr
          exact k
        · split at h
          · split at h
            · rename_i e
              obtain ⟨r, hr, rfl⟩ := Option.map_eq_some_iff.mp h
              have k := ih _ (by omega) hr
              exact .app k (objRead_ring e)
            · cases h
          · cases h
      · split at h
        · cases h
        · split at h
          · cases h
          · rename_i e
            split at h
            · split at h
              · obtain ⟨r, hr, rfl⟩ := Option.map_eq_some_iff.mp h
                have k := ih _ (by omega) hr
                exact .app k (mbValue_ring e)
              · cases h
            · obtain ⟨r, hr, rfl⟩ := Option.map_eq_some_iff.mp h
              have k := ih _ (by omega) hr
              exact .app k (mbValue_ring e)

theorem pointTo_ring (n : ℕ) (st : PointState) (s : State) : Keeps RingOk s (pointTo n st s) := by
  unfold pointTo
  exact .ite (fun _ => .refl) (fun _ => .app (.app (.app ((showAlarms_changes _).ring rfl) (.app ((sendPointAlf_changes _ _).ring rfl) (postCell_ring _ _ _ _ _))) (.ite (fun _ => (onAlm_changes _ _).ring rfl) (fun _ => .refl))) ((setPnt_changes _ _ _).ring rfl))

theorem unshelve_ring (n : ℕ) (s : State) : Keeps RingOk s (unshelve n s) := by
  unfold unshelve
  exact .ite (fun _ => .refl) (fun _ => .ite (fun _ => pointTo_ring _ _ _) (fun _ => .app (pointTo_ring _ _ _) ((setPnt_changes _ _ _).ring rfl)))

theorem ackPoint_ring (s0 : State) (n : ℕ) (s : State) : Keeps RingOk s (ackPoint s0 n s) := by
  unfold ackPoint
  exact .ite (fun _ => (by
   try dsimp only
   split
   · exact pointTo_ring _ _ _
   · exact pointTo_ring _ _ _
   · exact .refl
)) (fun _ => .refl)

theorem goesActive_ring (n : ℕ) (s : State) : Keeps RingOk s (goesActive n s) := by
  unfold goesActive
  exact (by
   try dsimp only
   split
   · exact .app (pointTo_ring _ _ _) ((setPnt_changes _ _ _).ring rfl)
   · exact .app (pointTo_ring _ _ _) ((setPnt_changes _ _ _).ring rfl)
   · exact .app (postCell_ring _ _ _ _ _) ((setPnt_changes _ _ _).ring rfl)
   · exact (setPnt_changes _ _ _).ring rfl
)

theorem returns_ring (n : ℕ) (s : State) : Keeps RingOk s (returns n s) := by
  unfold returns
  exact (by
   try dsimp only
   split
   · exact .app (pointTo_ring _ _ _) ((setPnt_changes _ _ _).ring rfl)
   · exact .app (pointTo_ring _ _ _) ((setPnt_changes _ _ _).ring rfl)
   · exact (setPnt_changes _ _ _).ring rfl
)

theorem stepDelays_ring (n : ℕ) (s : State) : Keeps RingOk s (stepDelays n s) := by
  unfold stepDelays
  exact .ite (fun _ => .app (.ite (fun _ => .refl) (fun _ => .ite (fun _ => goesActive_ring _ _) (fun _ => (setPnt_changes _ _ _).ring rfl))) ((setPnt_changes _ _ _).ring rfl)) (fun _ => .app (.ite (fun _ => .refl) (fun _ => .ite (fun _ => returns_ring _ _) (fun _ => (setPnt_changes _ _ _).ring rfl))) ((setPnt_changes _ _ _).ring rfl))

theorem block_ring (n : ℕ) (rel : ℕ) (s : State) : Keeps RingOk s (block n rel s) := by
  unfold block
  exact .app (.ite (fun _ => .refl) (fun _ => .app (.ite (fun _ => postCell_ring _ _ _ _ _) (fun _ => .refl)) (pointTo_ring _ _ _))) ((setPnt_changes _ _ _).ring rfl)

theorem blockStep_ring (n : Nat) (s : State) : KeepsW RingOk s (blockStep n s) := by
  unfold blockStep
  split
  · exact .pair .refl
  · dsimp only
    refine .ite (fun _ => .pair (.app (block_ring _ _ _) ((setPnt_changes _ _ _).ring rfl)))
      (fun _ => .ite (fun _ => .pair (.app (block_ring _ _ _) ((setPnt_changes _ _ _).ring rfl))) (fun _ => .pair ?_))
    split
    · exact .app (pointTo_ring _ _ _) (.app ((setPnt_changes _ _ _).ring rfl) ((setPnt_changes _ _ _).ring rfl))
    · exact .app ((setPnt_changes _ _ _).ring rfl) ((setPnt_changes _ _ _).ring rfl)

theorem shelfStep_ring (n : ℕ) (s : State) : Keeps RingOk s (shelfStep n s) := by
  unfold shelfStep
  exact .ite (fun _ => (setPnt_changes _ _ _).ring rfl) (fun _ => .ite (fun _ => .app (.ite (fun _ => unshelve_ring _ _) (fun _ => .refl)) ((setPnt_changes _ _ _).ring rfl)) (fun _ => .refl))

theorem evalPoint_ring (n : ℕ) (s : State) : Keeps RingOk s (evalPoint n s) := by
  unfold evalPoint
  exact .app (.ite (fun _ => (setPnt_changes _ _ _).ring rfl) (fun _ => .app (.ite (fun _ => KeepsW.snd (blockStep_ring _ _)) (fun _ => .app (shelfStep_ring _ _) (.app (stepDelays_ring _ _) (.app ((restoreStep_changes _ _).ring rfl) (KeepsW.snd (blockStep_ring _ _)))))) (.app ((condStep_changes _ _ _ _).ring rfl) ((setPnt_changes _ _ _).ring rfl)))) ((takeValue_changes _ _ _ _).ring rfl)

theorem callStage_ring (g : ℕ) (st : BitVec 2) (s : State) : Keeps RingOk s (callStage g st s) := by
  unfold callStage
  exact .app (.app (.app ((notifyCall_changes _ _).ring rfl) (post_ring _ _ _ _)) (.ite (fun _ => (escalate_changes _ _).ring rfl) (fun _ => .refl))) ((setCall_changes _ _ _).ring rfl)

theorem startCall_ring (g : ℕ) (st : BitVec 2) (alert : ℕ) (s : State) : Keeps RingOk s (startCall g st alert s) := by
  unfold startCall
  exact .app (callStage_ring _ _ _) ((setCall_changes _ _ _).ring rfl)

theorem endCall_ring (g : ℕ) (s : State) : Keeps RingOk s (endCall g s) := by
  unfold endCall
  exact .app ((notifyCall_changes _ _).ring rfl) (.app (post_ring _ _ _ _) ((setCall_changes _ _ _).ring rfl))

theorem callStep_ring (became : List ℕ) (fresh : List ℕ) (g : ℕ) (s : State) : Keeps RingOk s (callStep became fresh g s) := by
  unfold callStep
  exact .ite (fun _ => .ite (fun _ => .app (endCall_ring _ _) ((setCall_changes _ _ _).ring rfl)) (fun _ => (setCall_changes _ _ _).ring rfl)) (fun _ => (by
   try dsimp only
   split
   · exact (setCall_changes _ _ _).ring rfl
   · exact .app (startCall_ring _ _ _ _) ((setCall_changes _ _ _).ring rfl)
))

theorem deadTo_ring (d : DeadState) (e : BitVec 3) (s : State) : Keeps RingOk s (deadTo d e s) := by
  unfold deadTo
  exact .app (.ite (fun _ => .refl) (fun _ => post_ring _ _ _ _)) ((onAlm_changes _ _).ring rfl)

theorem deadAlarm_ring (s : State) : Keeps RingOk s (deadAlarm s) := by
  unfold deadAlarm
  exact (by
   try dsimp only
   split
   · exact .app (goesActive_ring _ _) (.app ((setPnt_changes _ _ _).ring rfl) (deadTo_ring _ _ _))
   · exact (by
     try dsimp only
     split
     · exact .app (startCall_ring _ _ _ _) (.app (goesActive_ring _ _) (.app ((setPnt_changes _ _ _).ring rfl) (deadTo_ring _ _ _)))
     · exact .ite (fun _ => .app (callStage_ring _ _ _) (.app (goesActive_ring _ _) (.app ((setPnt_changes _ _ _).ring rfl) (deadTo_ring _ _ _)))) (fun _ => .app (goesActive_ring _ _) (.app ((setPnt_changes _ _ _).ring rfl) (deadTo_ring _ _ _)))
     · exact .app (goesActive_ring _ _) (.app ((setPnt_changes _ _ _).ring rfl) (deadTo_ring _ _ _))
)
)

theorem acceptCall_ring (s0 : State) (g : ℕ) (e : ℕ) (s : State) : Keeps RingOk s (acceptCall s0 g e s) := by
  unfold acceptCall
  exact .ite (fun _ => .app ((notifyCall_changes _ _).ring rfl) (.app (post_ring _ _ _ _) ((setCall_changes _ _ _).ring rfl))) (fun _ => .refl)

theorem shelve_ring (n : ℕ) (mins : ℕ) (s : State) : Keeps RingOk s (shelve n mins s) := by
  unfold shelve
  exact .app (pointTo_ring _ _ _) ((setPnt_changes _ _ _).ring rfl)

theorem almApply_ring (s0 : State) (c : AlmCmd) (s : State) : Keeps RingOk s (almApply s0 c s) := by
  unfold almApply
  exact (by
   try dsimp only
   split
   · exact .ite (fun _ => ackPoint_ring _ _ _) (fun _ => .refl)
   · exact .each (fun _ _ => .ite (fun _ => ackPoint_ring _ _ _) (fun _ => .refl)) (.refl)
   · exact .ite (fun _ => shelve_ring _ _ _) (fun _ => .refl)
   · exact .ite (fun _ => unshelve_ring _ _) (fun _ => .refl)
   · exact (silenceAll_changes _ _).ring rfl
   · exact acceptCall_ring _ _ _ _
   · exact (onAlm_changes _ _).ring rfl
   · exact .ite (fun _ => deadTo_ring _ _ _) (fun _ => .refl)
   · exact .ite (fun _ => deadTo_ring _ _ _) (fun _ => .refl)
   · exact .ite (fun _ => deadTo_ring _ _ _) (fun _ => .refl)
   · exact .each (fun _ _ => .ite (fun _ => ackPoint_ring _ _ _) (fun _ => .refl)) (.refl)
   · exact (sendPointAlf_changes _ _).ring rfl
   · exact (sendGroupAlf_changes _ _).ring rfl
   · exact .refl
)

theorem almCommand_ring (s0 : State) (c : AlmCmd) (s : State) : Keeps RingOk s (almCommand s0 c s) := by
  unfold almCommand
  exact .app (almApply_ring _ _ _) (post_ring _ _ _ _)

theorem almCommands_ring (s : State) : Keeps RingOk s (almCommands s) := by
  unfold almCommands
  exact .each (fun _ _ => almCommand_ring _ _ _) ((onAlm_changes _ _).ring rfl)

theorem alarmEvaluation_ring (us : BitVec 16) (s : State) : Keeps RingOk s (alarmEvaluation us s) := by
  unfold alarmEvaluation
  exact .ite (fun _ => .refl) (fun _ => .app (.app (.app (.app (.app (.app (.ite (fun _ => selfDiag_ring _ _) (fun _ => .refl)) ((alarmRefresh_changes _).ring rfl)) (.app ((keepPoints_changes _).ring rfl) ((onAlm_changes _ _).ring rfl))) (.each (fun _ _ => callStep_ring _ _ _ _) (.refl))) (.each (fun _ _ => (cellStep_changes _ _ _).ring rfl) (.refl))) ((onAlm_changes _ _).ring rfl)) (.each (fun _ _ => evalPoint_ring _ _) (almCommands_ring _)))

theorem atInstant_ring {k : State → State} {s : State} (h_k : ∀ u, Keeps RingOk u (k u)) :
    Keeps RingOk s (atInstant k s) := by
  unfold atInstant
  exact .ite (fun _ => .app (h_k _) (almCommands_ring _)) (fun _ => .refl)

theorem pointEvent_ring {n : ℕ} {ok : Point → Bool} {k : State → State} {s : State} (h_k : ∀ u, Keeps RingOk u (k u)) :
    Keeps RingOk s (pointEvent n ok k s) := by
  unfold pointEvent
  exact .ite (fun _ => atInstant_ring (fun _ => .ite (fun _ => .app ((keepPoints_changes _).ring rfl) (.app (h_k _) (.refl))) (fun _ => .refl))) (fun _ => .refl)

theorem deadTimeEnd_ring {d : DeadState} {k : State → State} {s : State} (h_k : ∀ u, Keeps RingOk u (k u)) :
    Keeps RingOk s (deadTimeEnd d k s) := by
  unfold deadTimeEnd
  exact .ite (fun _ => .app (.ite (fun _ => .app (h_k _) (.refl)) (fun _ => .refl)) (atInstant_ring (fun _ => .refl))) (fun _ => .refl)

theorem acn_ring {alert : ℕ} {point : ℕ → State → State} {group : ℕ → State → State} {s : State} (h_point : ∀ a0 u, Keeps RingOk u (point a0 u)) (h_group : ∀ a0 u, Keeps RingOk u (group a0 u)) :
    Keeps RingOk s (acn alert point group s) := by
  unfold acn
  exact .ite (fun _ => (acnIgnored_changes _).ring rfl) (fun _ => .ite (fun _ => .refl) (fun _ => (by
   try dsimp only
   split
   · exact .app (h_point _ _) (.refl)
   · exact .app (h_group _ _) (.refl)
   · exact .refl
)))

theorem deadAtStart_ring (s : State) : Keeps RingOk s (deadAtStart s) := by
  unfold deadAtStart
  exact (by
   try dsimp only
   split
   · exact deadTo_ring _ _ _
   · exact (onAlm_changes _ _).ring rfl
   · exact .refl
)

theorem applyEntry_ring (e : OlcEntry) (s : State) : Keeps RingOk s (applyEntry e s) := by
  unfold applyEntry
  exact .app (.ite (fun _ => .app ((noteUnsaved_changes _).ring rfl) (.app ((putBoth_changes _ _ _).ring rfl) ((onCyc_changes _ _).ring rfl))) (fun _ => .ite (fun _ => .refl) (fun _ => (putBoth_changes _ _ _).ring rfl))) (post_ring _ _ _ _)

theorem applyBatch_ring (b : List OlcEntry) (s : State) : Keeps RingOk s (applyBatch b s) := by
  unfold applyBatch
  exact .each (fun _ _ => applyEntry_ring _ _) (.refl)

theorem applyForce_ring (t : ForceTarget) (v : Option Word) (s : State) : Keeps RingOk s (applyForce t v s) := by
  unfold applyForce
  exact (by
   try dsimp only
   split
   · exact .app (post_ring _ _ _ _) ((onCyc_changes _ _).ring rfl)
   · exact (by
     try dsimp only
     split
     · exact .refl
     · exact (by
       try dsimp only
       split
       · exact .app ((putBoth_changes _ _ _).ring rfl) (.app (post_ring _ _ _ _) ((onCyc_changes _ _).ring rfl))
       · exact .app (post_ring _ _ _ _) ((onCyc_changes _ _).ring rfl)
       · exact .app ((Changes.upd (T := [.nibA, .nibB, .cyc]) .refl (.inr rfl) (.inr rfl) (.inr rfl) (.inr rfl) (.inr rfl) (.inl rfl) (.inl rfl) (.inl rfl) (.inr rfl) (.inr rfl) (.inr rfl) (.inr rfl) (.inr rfl) (.inr rfl) (.inr rfl) (.inr rfl) (.inr rfl) (.inr rfl) (.inr rfl) (.inr rfl) (.inr rfl) (.inr rfl) (.inr rfl) (.inr rfl) (.inr rfl)).ring rfl) (.app (post_ring _ _ _ _) ((onCyc_changes _ _).ring rfl))
)
)
)

theorem applyRelease_ring (c : ℕ) (s : State) : Keeps RingOk s (applyRelease c s) := by
  unfold applyRelease
  exact .each (fun _ _ => applyForce_ring _ _ _) (.refl)

theorem enterHold_ring (s : State) : Keeps RingOk s (enterHold s) := by
  unfold enterHold
  exact .ite (fun _ => .refl) (fun _ => .app (.app (.app (.app (.app (applyOutputs_ring _) ((openPairs_changes _).ring rfl)) (.app (demandReleased_ring _) ((onLpe_changes _ _).ring rfl))) ((onCyc_changes _ _).ring rfl)) ((onSup_changes _ _).ring rfl)) (.app ((pauseLanes_changes _).ring rfl) (endCommissioning_ring _)))

theorem applyAct_ring (a : T0Act) (s : State) : Keeps RingOk s (applyAct a s) := by
  unfold applyAct
  exact (by
   try dsimp only
   split
   · exact applyMaint_ring _ _ _
   · exact applyBatch_ring _ _
   · exact applyForce_ring _ _ _
   · exact applyRelease_ring _ _
   · exact (applySplit_changes _).ring rfl
   · exact .refl
   · exact (clearRetain_changes _).ring rfl
   · exact enterHold_ring _
   · exact (leaveHold_changes _).ring rfl
)

theorem applyDue_ring (ahead : ℕ) (p : T0Act → Bool) (s : State) : Keeps RingOk s (applyDue ahead p s) := by
  unfold applyDue
  exact .each (fun _ _ => applyAct_ring _ _) ((onCyc_changes _ _).ring rfl)

theorem partnerCheck_ring (i : ℕ) (v : ℤ) (lost : Bool) (s : State) : Keeps RingOk s (partnerCheck i v lost s) := by
  unfold partnerCheck
  exact .ite (fun _ => (by
   try dsimp only
   split
   · exact .app (onSet_ring _ _ _) (.ite (fun _ => .refl) (fun _ => (setChan_changes _ _ _).ring rfl))
   · exact .ite (fun _ => .refl) (fun _ => (setChan_changes _ _ _).ring rfl)
)) (fun _ => .refl)

theorem pairsTakeover_ring (s : State) : Keeps RingOk s (pairsTakeover s) := by
  unfold pairsTakeover
  exact .each (fun _ _ => .app (.ite (fun _ => .each (fun _ _ => post_ring _ _ _ _) (.refl)) (fun _ => .refl)) ((setPair_changes _ _ _).ring rfl)) (.refl)

theorem takeRole_ring (reason : Byte) (s : State) : Keeps RingOk s (takeRole reason s) := by
  unfold takeRole
  exact .app (.app (.app (.app (.app (.app (.app (.app (.app (.app (.app ((announceAll_changes _).ring rfl) (.app ((alarmRedraw_changes _).ring rfl) ((onPst_changes _ _).ring rfl))) (.app (requalAll_ring _ _) (.app (applyOutputs_ring _) (handOff_ring _)))) (pairsTakeover_ring _)) (.app ((loopsTakeover_changes _ _).ring rfl) (.each (fun _ _ => (setChan_changes _ _ _).ring rfl) (.refl)))) (.each (fun _ _ => (startRamp_changes _ _).ring rfl) (.refl))) (.ite (fun _ => .app ((onPst_changes _ _).ring rfl) (post_ring _ _ _ _)) (fun _ => .refl))) (.ite (fun _ => post_ring _ _ _ _) (fun _ => .refl))) (post_ring _ _ _ _)) (.ite (fun _ => .app ((loopTransfer_changes _).ring rfl) ((onCyc_changes _ _).ring rfl)) (fun _ => .refl))) ((onPst_changes _ _).ring rfl)) (.ite (fun _ => .app ((followRejoin_changes _ _).ring rfl) (applyDue_ring _ _ _)) (fun _ => .refl))

theorem netChange_ring (own : Bool) (peer : Bool) (s : State) : Keeps RingOk s (netChange own peer s) := by
  unfold netChange
  exact .app (.ite (fun _ => .refl) (fun _ => .app (.app (.app (.app (applyOutputs_ring _) (.ite (fun _ => (openPairs_changes _).ring rfl) (fun _ => (dropQen_changes _).ring rfl))) (.ite (fun _ => .ite (fun _ => takeRole_ring _ _) (fun _ => .app ((hearMeans_changes _).ring rfl) ((onPst_changes _ _).ring rfl))) (fun _ => .refl))) (.ite (fun _ => .app ((standbyDraw_changes _).ring rfl) (.app (standbyOutputs_ring _) (.app (post_ring _ _ _ _) (.app ((onPst_changes _ _).ring rfl) ((dropQen_changes _).ring rfl))))) (fun _ => .refl))) (.ite (fun _ => (onPst_changes _ _).ring rfl) (fun _ => .refl)))) ((onPst_changes _ _).ring rfl)

theorem memoryFound_ring (f : ScrubFound) (s : State) : Keeps RingOk s (memoryFound f s) := by
  unfold memoryFound
  exact (by
   try dsimp only
   split
   · exact (onCyc_changes _ _).ring rfl
   · exact selfDiag_ring _ _
   · exact .refl
)

theorem scrubStep_ring (f : ScrubFound) (s : State) : Keeps RingOk s (scrubStep f s) := by
  unfold scrubStep
  exact .ite (fun _ => .refl) (fun _ => .ite (fun _ => memoryFound_ring _ _) (fun _ => (by
   try dsimp only
   split
   · exact (onPst_changes _ _).ring rfl
   · exact .app ((requalify_changes _).ring rfl) (.app (memoryFound_ring _ _) ((onPst_changes _ _).ring rfl))
   · exact memoryFound_ring _ _
)))

theorem bistSequence_ring (v : Verdict) (s : State) : Keeps RingOk s (bistSequence v s) := by
  unfold bistSequence
  exact .ite (fun _ => .refl) (fun _ => .app (.ite (fun _ => .refl) (fun _ => .app (checkedVerdict_ring _ _ _) ((takeFree_changes _).ring rfl))) ((Changes.upd (T := [.nibA, .nibB, .free]) .refl (.inr rfl) (.inr rfl) (.inr rfl) (.inr rfl) (.inr rfl) (.inl rfl) (.inl rfl) (.inr rfl) (.inr rfl) (.inr rfl) (.inr rfl) (.inr rfl) (.inr rfl) (.inr rfl) (.inr rfl) (.inr rfl) (.inr rfl) (.inr rfl) (.inr rfl) (.inr rfl) (.inr rfl) (.inr rfl) (.inr rfl) (.inr rfl) (.inl rfl)).ring rfl))

theorem adoptJoin_ring (j : JoinRec) (s : State) : Keeps RingOk s (adoptJoin j s) := by
  unfold adoptJoin
  exact .app (.app (.app (.app (.app (.app (.app ((onSaf_changes _ _).ring rfl) ((onPst_changes _ _).ring rfl)) ((onCmp_changes _ _).ring rfl)) (.each (fun _ _ => .ite (fun _ => .refl) (fun _ => applyMaint_ring _ _ _)) (.refl))) ((onCyc_changes _ _).ring rfl)) (.each (fun _ _ => (putBoth_changes _ _ _).ring rfl) ((ownConstsBack_changes _ _).ring rfl))) ((onAlm_changes _ _).ring rfl)) (.each (fun _ _ => (adoptPoint_changes _ _ _).ring rfl) (.refl))

theorem deltaApply_ring (s : State) : Keeps RingOk s (deltaApply s) := by
  unfold deltaApply
  exact (by
   try dsimp only
   split
   · exact .refl
   · exact .ite (fun _ => .refl) (fun _ => .app (.app (.app (.app ((slSend_changes _ _ _).ring rfl) ((regain_changes _).ring rfl)) (.app ((onPst_changes _ _).ring rfl) ((noteSize_changes _ _).ring rfl))) ((adoptCarry_changes _ _).ring rfl)) ((by
     try dsimp only
     split
     · exact .app (adoptJoin_ring _ _) ((adoptDelta_changes _ _).ring rfl)
     · exact (adoptDelta_changes _ _).ring rfl
)))
)

theorem twinStep_ring (peer : Word) (s : State) : Keeps RingOk s (twinStep peer s) := by
  unfold twinStep
  exact .ite (fun _ => .refl) (fun _ => .app (.ite (fun _ => (onPst_changes _ _).ring rfl) (fun _ => .app (.ite (fun _ => .refl) (fun _ => .app ((notReady_changes _).ring rfl) (.app (post_ring _ _ _ _) (.app ((onPst_changes _ _).ring rfl) ((pauseLanes_changes _).ring rfl))))) ((onPst_changes _ _).ring rfl))) ((slSend_changes _ _ _).ring rfl))

theorem beginRejoin_ring (at_ : ℕ) (t : SelfTest) (s : State) : Keeps RingOk s (beginRejoin at_ t s) := by
  unfold beginRejoin
  exact .app (.ite (fun _ => (onCmp_changes _ _).ring rfl) (fun _ => rejoinFailed_ring _ _)) (.app ((recordTest_changes _ _).ring rfl) ((onCmp_changes _ _).ring rfl))

theorem forwardedCommand_ring (c : FwdCmd) (us : ℤ) (t : SelfTest) (s : State) : Keeps RingOk s (forwardedCommand c us t s) := by
  unfold forwardedCommand
  exact .ite (fun _ => (forwardEffect_changes _ _).ring rfl) (fun _ => .ite (fun _ => .refl) (fun _ => (by
   try dsimp only
   split
   · exact (freeAct_changes _ _).ring rfl
   · exact .app (.ite (fun _ => .app ((slSend_changes _ _ _).ring rfl) ((onCmp_changes _ _).ring rfl)) (fun _ => .refl)) (beginRejoin_ring _ _ _)
   · exact .app ((slSend_changes _ _ _).ring rfl) ((by
     try dsimp only
     split
     · exact (holdAct_changes _ _ _ _).ring rfl
     · exact (forwardEffect_changes _ _).ring rfl
))
)))

theorem setSpeaker_ring (w : Option (BitVec 2)) (s : State) : Keeps RingOk s (setSpeaker w s) := by
  unfold setSpeaker
  exact .ite (fun _ => .refl) (fun _ => .app (.app (.app (.ite (fun _ => .app ((emitLan_changes _ _).ring rfl) (.ite (fun _ => .app ((utcFromRtc_changes _).ring rfl) ((onPnw_changes _ _).ring rfl)) (fun _ => .refl))) (fun _ => .refl)) (.ite (fun _ => .each (fun _ _ => (endSession_changes _ _).ring rfl) (.refl)) (fun _ => .refl))) ((onPst_changes _ _).ring rfl)) (.ite (fun _ => .app (post_ring _ _ _ _) ((onPst_changes _ _).ring rfl)) (fun _ => .refl)))

theorem takeClaim_ring (n : ℕ) (before : Bool) (s : State) : Keeps RingOk s (takeClaim n before s) := by
  unfold takeClaim
  exact (by
   try dsimp only
   split
   · exact setSpeaker_ring _ _
   · exact .ite (fun _ => .refl) (fun _ => .ite (fun _ => setSpeaker_ring _ _) (fun _ => .ite (fun _ => .app (post_ring _ _ _ _) ((onPst_changes _ _).ring rfl)) (fun _ => .refl)))
)

theorem takeHello_ring (h : Hello) (s : State) : Keeps RingOk s (takeHello h s) := by
  unfold takeHello
  exact .app (.app (.ite (fun _ => .refl) (fun _ => .app (.ite (fun _ => takeClaim_ring _ _ _) (fun _ => .refl)) (.ite (fun _ => (takePartner_changes _ _ _).ring rfl) (fun _ => .refl)))) (.ite (fun _ => .app (post_ring _ _ _ _) ((onPst_changes _ _).ring rfl)) (fun _ => .refl))) ((onPst_changes _ _).ring rfl)

theorem helloReceived_ring (p : Fin 3) (x : SlRx Hello) (s : State) : Keeps RingOk s (helloReceived p x s) := by
  unfold helloReceived
  exact slReceive_ring (fun _ => takeHello_ring _ _) (fun _ => .refl)

theorem speakerElection_ring (s : State) : Keeps RingOk s (speakerElection s) := by
  unfold speakerElection
  exact .ite (fun _ => .refl) (fun _ => setSpeaker_ring _ _)

theorem timeMark_ring (p : ℕ) (ns : ℤ) (m : TimeMark) (s : State) : Keeps RingOk s (timeMark p ns m s) := by
  unfold timeMark
  exact .ite (fun _ => .refl) (fun _ => .app (.app ((onPnw_changes _ _).ring rfl) (.ite (fun _ => .app (post_ring _ _ _ _) ((onPst_changes _ _).ring rfl)) (fun _ => .refl))) ((onPst_changes _ _).ring rfl))

theorem importAtT0_ring (e : ℕ × List (ℕ × Option Word)) (s : State) : Keeps RingOk s (importAtT0 e s) := by
  unfold importAtT0
  exact (by
   try dsimp only
   split
   · exact .app (.each (fun _ _ => (putBoth_changes _ _ _).ring rfl) (.refl)) ((onPst_changes _ _).ring rfl)
   · exact .ite (fun _ => .each (fun _ _ => (by
     try dsimp only
     split
     · exact (putBoth_changes _ _ _).ring rfl
     · exact .refl
)) (.ite (fun _ => .app (post_ring _ _ _ _) (.app ((onPst_changes _ _).ring rfl) ((onPst_changes _ _).ring rfl))) (fun _ => (onPst_changes _ _).ring rfl))) (fun _ => .ite (fun _ => .app (post_ring _ _ _ _) (.app ((onPst_changes _ _).ring rfl) ((onPst_changes _ _).ring rfl))) (fun _ => (onPst_changes _ _).ring rfl))
)

theorem importsT0_ring (s : State) : Keeps RingOk s (importsT0 s) := by
  unfold importsT0
  exact .ite (fun _ => .refl) (fun _ => .app ((onPst_changes _ _).ring rfl) (.each (fun _ _ => importAtT0_ring _ _) (.refl)))

theorem objWrite_ring (w : Who) (r : Req) (a : ℕ) (v : Word) (s : State) : KeepsW RingOk s (objWrite w r a v s) := by
  unfold objWrite
  exact (.ite (fun _ => (.refuse (.refl))) (fun _ => (.ite (fun _ => (.refuse (.refl))) (fun _ => (.ite (fun _ => ((supWrite_changes _ _ _ _).ring rfl)) (fun _ => (.ite (fun _ => ((timWrite_changes _ _ _ _).ring rfl)) (fun _ => (.ite (fun _ => ((bootWrite_changes _ _ _ _).ring rfl)) (fun _ => (.ite (fun _ => (.refuse (.refl))) (fun _ => (.ite (fun _ => ((cycWrite_changes _ _ _ _).ring rfl)) (fun _ => (.ite (fun _ => ((cmpWrite_changes _ _ _ _).ring rfl)) (fun _ => (.ite (fun _ => ((lpeWrite_changes _ _ _ _).ring rfl)) (fun _ => (.ite (fun _ => ((fchWrite_changes _ _ _ _ _).ring rfl)) (fun _ => (.ite (fun _ => (.refuse (.refl))) (fun _ => (.ite (fun _ => ((almRegWrite_changes _ _ _ _ _).ring rfl)) (fun _ => (.ite (fun _ => ((pstWrite_changes _ _ _ _ _).ring rfl)) (fun _ => (.ite (fun _ => ((slkWrite_changes _ _ _ _).ring rfl)) (fun _ => (.ite (fun _ => (.refuse (.refl))) (fun _ => (.ite (fun _ => ((frgWrite_changes _ _ _ _).ring rfl)) (fun _ => (.ite (fun _ => ((pnwWrite_changes _ _ _ _).ring rfl)) (fun _ => (.ite (fun _ => (evrWrite_ring _ _ _ _)) (fun _ => (.ite (fun _ => ((cvuWrite_changes _ _ _ _).ring rfl)) (fun _ => (.ite (fun _ => (.refuse (.refl))) (fun _ => (.ite (fun _ => ((dspWrite_changes _ _ _ _).ring rfl)) (fun _ => (.refuse (.refl))))))))))))))))))))))))))))))))))))))))))))

theorem eventsKept_ring (w : Who) (r : Req) (a : ℕ) (ws : List Word) (s : State) : KeepsW RingOk s (eventsKept w r a ws s) := by
  unfold eventsKept
  exact (.ite (fun _ => (.app (writeWords_ring (fun _ _ _ => (objWrite_ring _ _ _ _ _))) (KeepsW.snd (objWrite_ring _ _ _ _ _)))) (fun _ => (writeWords_ring (fun _ _ _ => (objWrite_ring _ _ _ _ _)))))

theorem writeSpace_ring (w : Who) (r : Req) (a : ℕ) (ws : List Word) (s : State) : KeepsW RingOk s (writeSpace w r a ws s) := by
  unfold writeSpace
  exact ((by
   try dsimp only
   split
   · exact (byLevel_ring (fun _ => ((varWrite_changes _ _ _).ring rfl)))
   · exact (eventsKept_ring _ _ _ _ _)
))

theorem objrdOp_ring (l : Lane) (d : BitVec 6) (s : State) : Keeps RingOk s (objrdOp l d s) := by
  unfold objrdOp
  dsimp only
  split
  · exact .app ((result_changes _ _ _ _).ring rfl) ((setLane_changes _ _ _).ring rfl)
  · split
    · exact .app ((result_changes _ _ _ _).ring rfl) (.app ((keepRead_changes _ _ _ _).ring rfl)
        (.app ((objRefused_changes _).ring rfl) ((setLane_changes _ _ _).ring rfl)))
    · rename_i h
      refine .app ((result_changes _ _ _ _).ring rfl) (.app ((keepRead_changes _ _ _ _).ring rfl) ?_)
      split at h
      · cases h
      · exact .app (objRead_ring h) ((setLane_changes _ _ _).ring rfl)

theorem objwrOp_ring (l : Lane) (d : BitVec 6) (s : State) : Keeps RingOk s (objwrOp l d s) := by
  unfold objwrOp
  exact .app (.ite (fun _ => .app ((result_changes _ _ _ _).ring rfl) ((queueForTo_changes _ _ _).ring rfl)) (fun _ => .app ((result_changes _ _ _ _).ring rfl) (.app ((objRefused_changes _).ring rfl) (KeepsW.snd (objWrite_ring _ _ _ _ _))))) ((setLane_changes _ _ _).ring rfl)

theorem runObjwr_ring (l : Lane) (a : Word) (v : Word) (s : State) : Keeps RingOk s (runObjwr l a v s) := by
  unfold runObjwr
  exact KeepsW.snd (objWrite_ring _ _ _ _ _)

theorem openReq_ring {m : Req} {k : State → State} {s : State} (h_k : ∀ u, Keeps RingOk u (k u)) :
    Keeps RingOk s (openReq m k s) := by
  unfold openReq
  exact arriving_ring (fun _ => .ite (fun _ => .refl) (fun _ => .ite (fun _ => relayed_ring (fun _ => (replyOpen_changes _ _ _ _).ring rfl)) (fun _ => .app (h_k _) (.refl))))

theorem authFailed_ring (ip : Word) (s : State) : Keeps RingOk s (authFailed ip s) := by
  unfold authFailed
  exact .app (.ite (fun _ => .app (post_ring _ _ _ _) ((onPnw_changes _ _).ring rfl)) (fun _ => .refl)) ((onPnw_changes _ _).ring rfl)

theorem auth_ring (m : Unsess) (sess : Word) (proof : List Byte) (s : State) : Keeps RingOk s (auth m sess proof s) := by
  unfold auth
  exact .ite (fun _ => (replyOpen_changes _ _ _ _).ring rfl) (fun _ => (by
   try dsimp only
   split
   · exact .app ((replyOpen_changes _ _ _ _).ring rfl) (authFailed_ring _ _)
   · exact .ite (fun _ => .app ((replyOpen_changes _ _ _ _).ring rfl) ((setSession_changes _ _ _).ring rfl)) (fun _ => .app ((replyOpen_changes _ _ _ _).ring rfl) (authFailed_ring _ _))
))

theorem readSpace_ring (r : Req) (a : Nat) (n : Nat) (s : State) : Keeps RingOk s (readSpace r a n s) := by
  unfold readSpace
  refine .ite (fun _ => (reply_changes _ _ _ _).ring rfl) (fun _ => ?_)
  split
  · exact (reply_changes _ _ _ _).ring rfl
  · rename_i e
    exact .app ((reply_changes _ _ _ _).ring rfl) (readWords_ring e)

theorem mbReadReq_ring (conn : MbHdr) (fc : Byte) (inputs : Bool) (start : BitVec 16) (qty : BitVec 16) (s : State) :
    Keeps RingOk s (mbReadReq conn fc inputs start qty s) := by
  unfold mbReadReq
  refine .ite (fun _ => .refl) (fun _ => .ite (fun _ => (mbException_changes _ _ _ _).ring rfl) (fun _ => ?_))
  split
  · exact (mbException_changes _ _ _ _).ring rfl
  · rename_i e
    exact .app ((emit_changes _ _).ring rfl) (mbRead_ring e)

theorem mbWriteRegs_ring (l : List (MbEntry × Word)) (s : State) : KeepsW RingOk s (mbWriteRegs l s) := by
  induction l generalizing s with
  | nil => exact .done .refl
  | cons e l ih =>
    unfold mbWriteRegs
    exact .ite (fun _ => .app (ih _) (KeepsW.snd (objWrite_ring _ _ _ _ _))) (fun _ => objWrite_ring _ _ _ _ _)

theorem mbWriteAll_ring (l : List (MbEntry × Word)) (s : State) : KeepsW RingOk s (mbWriteAll l s) := by
  unfold mbWriteAll
  exact (.ite (fun _ => (.refuse (.refl))) (fun _ => (.ite (fun _ => (.pair ((keepRefusals_changes _ _).ring rfl))) (fun _ => (.ite (fun _ => (mbWriteRegs_ring _ _)) (fun _ => (.ite (fun _ => (.app ((varWrite_changes _ _ _).ring rfl) (KeepsW.snd (mbWriteRegs_ring _ _)))) (fun _ => (.pair ((keepRefusals_changes _ _).ring rfl))))))))))

theorem mbWriteReq_ring (h : MbHdr) (fc : Byte) (start : BitVec 16) (vals : List (BitVec 16)) (ok : List Byte) (s : State) : Keeps RingOk s (mbWriteReq h fc start vals ok s) := by
  unfold mbWriteReq
  exact (by
   try dsimp only
   split
   · exact (mbException_changes _ _ _ _).ring rfl
   · exact .ite (fun _ => .app ((mbException_changes _ _ _ _).ring rfl) (KeepsW.snd (mbWriteAll_ring _ _))) (fun _ => .ite (fun _ => .app ((onPst_changes _ _).ring rfl) (KeepsW.snd (mbWriteAll_ring _ _))) (fun _ => .app ((emitLan_changes _ _).ring rfl) (KeepsW.snd (mbWriteAll_ring _ _))))
)

theorem stateCommand_ring {r : Req} {ok : State → Bool} {c : FwdCmd} {a : T0Act} {apply : State → State} {s : State} (h_apply : ∀ u, Keeps RingOk u (apply u)) :
    Keeps RingOk s (stateCommand r ok c a apply s) := by
  unfold stateCommand
  exact screenReq_ring (fun _ => acceptIf_ring (fun _ => acceptBoth_ring (fun _ => .ite (fun _ => (schedule_changes _ _).ring rfl) (fun _ => .app (h_apply _) (.refl)))))

theorem leaveCommissioning_ring (s : State) : Keeps RingOk s (leaveCommissioning s) := by
  unfold leaveCommissioning
  exact .app ((onSup_changes _ _).ring rfl) (endCommissioning_ring _)

theorem enterRun_ring (s : State) : Keeps RingOk s (enterRun s) := by
  unfold enterRun
  exact .app (.app (.app (.app (requalAll_ring _ _) (.app (applyOutputs_ring _) (loopInit_ring _))) ((onCyc_changes _ _).ring rfl)) ((onBoot_changes _ _).ring rfl)) (.app ((adoptKeys_changes _).ring rfl) (.app ((onSup_changes _ _).ring rfl) ((roleAtRun_changes _).ring rfl)))

theorem beginCycle_ring (s : State) : Keeps RingOk s (beginCycle s) := by
  unfold beginCycle
  exact .app (.app ((latchInputs_changes _).ring rfl) (.app ((syncSend_changes _).ring rfl) (.app ((ringT0_changes _).ring rfl) (.app (importsT0_ring _) ((onLpe_changes _ _).ring rfl))))) ((onCyc_changes _ _).ring rfl)

theorem idleT0_ring (s : State) : Keeps RingOk s (idleT0 s) := by
  unfold idleT0
  exact .app (.app (.app ((syncSend_changes _).ring rfl) (.app ((ringT0_changes _).ring rfl) (.app (importsT0_ring _) ((followRejoin_changes _ _).ring rfl)))) (.ite (fun _ => .refl) (fun _ => .app ((onLpe_changes _ _).ring rfl) ((onPst_changes _ _).ring rfl)))) ((onCyc_changes _ _).ring rfl)

theorem cycleT0_ring (s : State) : Keeps RingOk s (cycleT0 s) := by
  unfold cycleT0
  exact .ite (fun _ => .ite (fun _ => enterRun_ring _) (fun _ => .refl)) (fun _ => (by
   try dsimp only
   split
   · exact .app (enterReset_ring _ _ _) (.ite (fun _ => enterRun_ring _) (fun _ => .refl))
   · exact .ite (fun _ => .app (selfDiag_ring _ _) (.ite (fun _ => enterRun_ring _) (fun _ => .refl))) (fun _ => .app (.app (.app (.app (.ite (fun _ => beginCycle_ring _) (fun _ => idleT0_ring _)) (.app ((countQual_changes _).ring rfl) (.app (laneModeT0_ring _) (applyDue_ring _ _ _)))) ((Changes.upd (T := [.nibA, .nibB]) .refl (.inr rfl) (.inr rfl) (.inr rfl) (.inr rfl) (.inr rfl) (.inl rfl) (.inl rfl) (.inr rfl) (.inr rfl) (.inr rfl) (.inr rfl) (.inr rfl) (.inr rfl) (.inr rfl) (.inr rfl) (.inr rfl) (.inr rfl) (.inr rfl) (.inr rfl) (.inr rfl) (.inr rfl) (.inr rfl) (.inr rfl) (.inr rfl) (.inr rfl)).ring rfl)) (.app ((dropHeld_changes _).ring rfl) ((applyJournal_changes _).ring rfl))) (.app ((onCyc_changes _ _).ring rfl) (.ite (fun _ => enterRun_ring _) (fun _ => .refl))))
))

theorem runQueue_ring (l : Lane) (late : Bool) (s : State) : Keeps RingOk s (runQueue l late s) := by
  unfold runQueue
  exact .each (fun _ _ => (by
   try dsimp only
   split
   · exact .ite (fun _ => .refl) (fun _ => runObjwr_ring _ _ _ _)
   · exact postHead_ring _ _ _
)) ((setLane_changes _ _ _).ring rfl)

theorem runQueues_ring (late : Bool) (s : State) : Keeps RingOk s (runQueues late s) := by
  unfold runQueues
  exact .app (.ite (fun _ => runQueue_ring _ _ _) (fun _ => (setLane_changes _ _ _).ring rfl)) (runQueue_ring _ _ _)

theorem releaseCycle_ring (s : State) : Keeps RingOk s (releaseCycle s) := by
  unfold releaseCycle
  exact .app (.app (.app (.app (.app (.app (.app ((panelRefresh_changes _ _).ring rfl) ((rejoinT0_changes _).ring rfl)) (.app (grantAll_ring _) (.app ((sendExports_changes _).ring rfl) ((sendDelta_changes _).ring rfl)))) (.app (applyOutputs_ring _) (.app (pairsAtTo_ring _) ((endOutWait_changes _).ring rfl)))) (.app ((dueDigest_changes _).ring rfl) ((onCyc_changes _ _).ring rfl))) (.app ((takeSnapshot_changes _).ring rfl) ((retainCopy_changes _).ring rfl))) (runQueues_ring _ _)) ((releaseImage_changes _).ring rfl)

theorem overrun_ring (s : State) : Keeps RingOk s (overrun s) := by
  unfold overrun
  exact .app (.app (.app (.app (.app (.ite (fun _ => selfDiag_ring _ _) (fun _ => .refl)) (.app ((rejoinOverrun_changes _).ring rfl) (.app (grantAll_ring _) (.app (applyOutputs_ring _) (.app (pairsAtTo_ring _) (.app ((endOutWait_changes _).ring rfl) ((exitStep_changes _).ring rfl))))))) (.app (post_ring _ _ _ _) ((onAlm_changes _ _).ring rfl))) (.app ((onCyc_changes _ _).ring rfl) ((markOverrun_changes _).ring rfl))) ((onLpe_changes _ _).ring rfl)) ((Changes.upd (T := [.nibA, .nibB]) .refl (.inr rfl) (.inr rfl) (.inr rfl) (.inr rfl) (.inr rfl) (.inl rfl) (.inl rfl) (.inr rfl) (.inr rfl) (.inr rfl) (.inr rfl) (.inr rfl) (.inr rfl) (.inr rfl) (.inr rfl) (.inr rfl) (.inr rfl) (.inr rfl) (.inr rfl) (.inr rfl) (.inr rfl) (.inr rfl) (.inr rfl) (.inr rfl) (.inr rfl)).ring rfl)

theorem holdRelease_ring (s : State) : Keeps RingOk s (holdRelease s) := by
  unfold holdRelease
  exact .app (.app (grantAll_ring _) (.app (applyOutputs_ring _) (.app (pairsAtTo_ring _) (.app ((endOutWait_changes _).ring rfl) ((holdOutputs_changes _).ring rfl))))) ((dueDigest_changes _).ring rfl)

theorem standbyRelease_ring (s : State) : Keeps RingOk s (standbyRelease s) := by
  unfold standbyRelease
  exact .app (.app (applyOutputs_ring _) (.app ((exitStep_changes _).ring rfl) (.ite (fun _ => .refl) (fun _ => (onSup_changes _ _).ring rfl)))) (.app ((endOutWait_changes _).ring rfl) (.app ((takeSnapshot_changes _).ring rfl) ((onPst_changes _ _).ring rfl)))

theorem outputRelease_ring (s : State) : Keeps RingOk s (outputRelease s) := by
  unfold outputRelease
  exact .ite (fun _ => .refl) (fun _ => .ite (fun _ => holdRelease_ring _) (fun _ => (by
   try dsimp only
   split
   · exact .app (releaseCycle_ring _) (.ite (fun _ => (compareComplete_changes _).ring rfl) (fun _ => .refl))
   · exact .ite (fun _ => .app ((dueDigest_changes _).ring rfl) (.ite (fun _ => (compareComplete_changes _).ring rfl) (fun _ => .refl))) (fun _ => .app (standbyRelease_ring _) (.app ((dueDigest_changes _).ring rfl) (.ite (fun _ => (compareComplete_changes _).ring rfl) (fun _ => .refl))))
   · exact .ite (fun _ => .ite (fun _ => (compareComplete_changes _).ring rfl) (fun _ => .refl)) (fun _ => .app (overrun_ring _) (.ite (fun _ => (compareComplete_changes _).ring rfl) (fun _ => .refl)))
)))

theorem lateComplete_ring (s : State) : Keeps RingOk s (lateComplete s) := by
  unfold lateComplete
  exact .ite (fun _ => .app (.app (.app (.app ((rejoinLate_changes _).ring rfl) (.app ((sendExports_changes _).ring rfl) ((sendDelta_changes _).ring rfl))) (.app ((dueDigest_changes _).ring rfl) ((onCyc_changes _ _).ring rfl))) (.app ((retainCopy_changes _).ring rfl) (runQueues_ring _ _))) ((finishCompare_changes _).ring rfl)) (fun _ => .refl)

theorem roleTransfer_ring (s : State) : Keeps RingOk s (roleTransfer s) := by
  unfold roleTransfer
  exact (by
   try dsimp only
   split
   · exact .refl
   · exact .ite (fun _ => (onPst_changes _ _).ring rfl) (fun _ => .ite (fun _ => .app (.app (releaseRole_ring _ _) (.ite (fun _ => (sendCarafe_changes _ _).ring rfl) (fun _ => .refl))) (.app (laneModeT0_ring _) (applyDue_ring _ _ _))) (fun _ => .refl))
)

theorem resetCold_ring (c : ResetClass) (s : State) : Keeps RingOk s (resetCold c s) := ringOk_same (evrKept_same _ _)

theorem resetWarm_ring (s : State) : Keeps RingOk s (resetWarm s) :=
  .app (s := s) (t := portsWarm (clearInjectors (unshedAll s))) (ringOk_same (evrKept_same _ _))
    (.app ((portsWarm_changes _).ring rfl) (.app ((clearInjectors_changes _).ring rfl) ((unshedAll_changes _).ring rfl)))

theorem resetState_ring (c : ResetClass) (s : State) : Keeps RingOk s (resetState c s) := by
  unfold resetState
  exact .ite (fun _ => resetWarm_ring _) (fun _ => resetCold_ring _ _)

theorem flushComplete_ring (s : State) : Keeps RingOk s (flushComplete s) := by
  unfold flushComplete
  exact .ite (fun _ => .refl) (fun _ => (by
   try dsimp only
   split
   · exact .app ((holdReset_changes _ _ _).ring rfl) (.app (resetState_ring _ _) (flushDone_ring _))
   · exact flushDone_ring _
))

theorem vinWarning_ring (v : BitVec 16) (s : State) : Keeps RingOk s (vinWarning v s) := by
  unfold vinWarning
  exact .ite (fun _ => .refl) (fun _ => .app (.ite (fun _ => .app ((panelAbort_changes _).ring rfl) (startFlush_ring _)) (fun _ => .refl)) (.app ((onSup_changes _ _).ring rfl) ((seeVin_changes _ _).ring rfl)))

theorem raiseUnstable_ring (s : State) : Keeps RingOk s (raiseUnstable s) := by
  unfold raiseUnstable
  exact .ite (fun _ => .app (post_ring _ _ _ _) ((onSup_changes _ _).ring rfl)) (fun _ => .refl)

theorem episodeEnd_ring (lowest : BitVec 16) (us : Word) (s : State) : Keeps RingOk s (episodeEnd lowest us s) := by
  unfold episodeEnd
  exact .ite (fun _ => .refl) (fun _ => .app (.app (.app (.app (raiseUnstable_ring _) (.app ((railsUp_changes _).ring rfl) ((panelReissue_changes _).ring rfl))) (.app (post_ring _ _ _ _) ((newCeiling_changes _ _).ring rfl))) ((onSup_changes _ _).ring rfl)) (.app ((takeFree_changes _).ring rfl) ((onSup_changes _ _).ring rfl)))

theorem vinReset_ring (v : BitVec 16) (s : State) : Keeps RingOk s (vinReset v s) := by
  unfold vinReset
  exact .ite (fun _ => .refl) (fun _ => .app (enterReset_ring _ _ _) (.app ((onSup_changes _ _).ring rfl) ((seeVin_changes _ _).ring rfl)))

theorem cutFlush_ring (s : State) : Keeps RingOk s (cutFlush s) := fun _ => ringOk_empty rfl

theorem suppliesStop_ring (s : State) : Keeps RingOk s (suppliesStop s) := by
  unfold suppliesStop
  exact (by
   try dsimp only
   split
   · exact .refl
   · exact .app ((onSup_changes _ _).ring rfl) (resetCold_ring _ _)
   · exact .app (.app (applyOutputs_ring _) (.app ((onSup_changes _ _).ring rfl) (resetCold_ring _ _))) (.app (cutFlush_ring _) (.app ((endSessions_changes _).ring rfl) ((panelAbort_changes _).ring rfl)))
)

theorem pinLow_ring (s : State) : Keeps RingOk s (pinLow s) := by
  unfold pinLow
  exact .ite (fun _ => .refl) (fun _ => .app (.ite (fun _ => .refl) (fun _ => enterReset_ring _ _ _)) ((onSup_changes _ _).ring rfl))

theorem imageWrite_ring {r : Req} {h : Fin 2} {k : State → State} {s : State} (h_k : ∀ u, Keeps RingOk u (k u)) :
    Keeps RingOk s (imageWrite r h k s) := by
  unfold imageWrite
  exact screenReq_ring (fun _ => .ite (fun _ => (reply_changes _ _ _ _).ring rfl) (fun _ => .ite (fun _ => (reply_changes _ _ _ _).ring rfl) (fun _ => .ite (fun _ => (reply_changes _ _ _ _).ring rfl) (fun _ => .app (h_k _) (.refl)))))

theorem restartOther_ring (r : Req) (s : State) : Keeps RingOk s (restartOther r s) := by
  unfold restartOther
  exact (by
   try dsimp only
   split
   · exact .ite (fun _ => .app (enterReset_ring _ _ _) (.app ((reply_changes _ _ _ _).ring rfl) ((writeCtrl_changes _ _ _ _).ring rfl))) (fun _ => (reply_changes _ _ _ _).ring rfl)
   · exact (reply_changes _ _ _ _).ring rfl
)

theorem resumeInkwell_ring (s : State) : Keeps RingOk s (resumeInkwell s) := by
  unfold resumeInkwell
  exact .app (.app (.app (onEvr_same (fun _ => ⟨rfl, rfl⟩)) (.ite (fun _ => .refl) (fun _ => .app (post_ring _ _ _ _) (onEvr_same (fun _ => ⟨rfl, rfl⟩))))) (.ite (fun _ => .refl) (fun _ => .app (post_ring _ _ _ _) (onEvr_same (fun _ => ⟨rfl, rfl⟩))))) (onEvr_same (fun _ => ⟨rfl, rfl⟩))

theorem postRestart_ring (s : State) : Keeps RingOk s (postRestart s) := by
  unfold postRestart
  exact .app (.app (.ite (fun _ => .app (post_ring _ _ _ _) ((onSup_changes _ _).ring rfl)) (fun _ => .refl)) (.each (fun _ _ => post_ring _ _ _ _) (.refl))) (post_ring _ _ _ _)

theorem startStep1_ring (s : State) : Keeps RingOk s (startStep1 s) := by
  unfold startStep1
  exact .app (.app (.app (postRestart_ring _) (.app (resumeInkwell_ring _) (.app ((utcFromRtc_changes _).ring rfl) ((countStart_changes _).ring rfl)))) ((onBoot_changes _ _).ring rfl)) ((onSup_changes _ _).ring rfl)

theorem badTrim_ring (i : ℕ) (s : State) : Keeps RingOk s (badTrim i s) := by
  unfold badTrim
  exact .app (post_ring _ _ _ _) (.app ((setChan_changes _ _ _).ring rfl) ((onFch_changes _ _).ring rfl))

theorem startStep2_ring (env : StartEnv) (s : State) : Keeps RingOk s (startStep2 env s) := by
  unfold startStep2
  exact .app (.app (.app (.app ((onSup_changes _ _).ring rfl) ((applyJournal_changes _).ring rfl)) (.app ((portsUp_changes _ _).ring rfl) ((storedAddress_changes _).ring rfl))) (.each (fun _ _ => badTrim_ring _ _) (.refl))) ((onPst_changes _ _).ring rfl)

theorem groupsUp_ring (levels : List (Fin 6 × SupplyEvent)) (s : State) : Keeps RingOk s (groupsUp levels s) := by
  unfold groupsUp
  exact .each (fun _ _ => supplyChange_ring _ _ _ _ _) (.refl)

theorem enterDecaf_ring (blank : Bool) (reason : Byte) (env : StartEnv) (s : State) : Keeps RingOk s (enterDecaf blank reason env s) := by
  unfold enterDecaf
  exact .app (.app (.app (.app (.app (.app ((panelDraw_changes _ _ _).ring rfl) (.app (requalAll_ring _ _) (applyOutputs_ring _))) (.ite (fun _ => (takeLinkLocal_changes _).ring rfl) (fun _ => .refl))) (.app (groupsUp_ring _ _) (post_ring _ _ _ _))) ((onBoot_changes _ _).ring rfl)) ((onSup_changes _ _).ring rfl)) ((Changes.upd (T := [.img]) .refl (.inr rfl) (.inl rfl) (.inr rfl) (.inr rfl) (.inr rfl) (.inr rfl) (.inr rfl) (.inr rfl) (.inr rfl) (.inr rfl) (.inr rfl) (.inr rfl) (.inr rfl) (.inr rfl) (.inr rfl) (.inr rfl) (.inr rfl) (.inr rfl) (.inr rfl) (.inr rfl) (.inr rfl) (.inr rfl) (.inr rfl) (.inr rfl) (.inr rfl)).ring rfl)

theorem failStart_ring (reason : Byte) (env : StartEnv) (s : State) : Keeps RingOk s (failStart reason env s) := by
  unfold failStart
  exact .app (.ite (fun _ => enterDecaf_ring _ _ _ _) (fun _ => enterReset_ring _ _ _)) (countFailure_ring _ _ _)

theorem refuseHalf_ring (h : ℕ) (e : Byte) (s : State) : Keeps RingOk s (refuseHalf h e s) := by
  unfold refuseHalf
  exact .app (post_ring _ _ _ _) ((onBoot_changes _ _).ring rfl)

theorem selectHalf_ring (readOk : Bool) (f : Flash) (mbit : Nat) (l : List (Nat × Ctrl)) (s : State) :
    KeepsW RingOk s (selectHalf readOk f mbit l s) := by
  induction l generalizing s with
  | nil => exact .pair .refl
  | cons e l ih =>
    unfold selectHalf
    split
    · exact .pair .refl
    · exact .app (ih _) (refuseHalf_ring _ _ _)

theorem speedStep_ring (env : StartEnv) (s : State) : Keeps RingOk s (speedStep env s) := by
  unfold speedStep
  exact .app ((onTim_changes _ _).ring rfl) (.ite (fun _ => .refl) (fun _ => post_ring _ _ _ _))

theorem firstValues_ring (env : StartEnv) (s : State) : Keeps RingOk s (firstValues env s) := by
  unfold firstValues
  exact .app (.app (requalAll_ring _ _) (.each (fun _ _ => .app (requal_ring _ _) ((convert_changes _ _ _).ring rfl)) (.refl))) (.each (fun _ _ => .ite (fun _ => .app (inputState_ring _ _ _ _) ((setChan_changes _ _ _).ring rfl)) (fun _ => .ite (fun _ => (setChan_changes _ _ _).ring rfl) (fun _ => .refl))) (.refl))

theorem maintLatches_ring (s : State) : Keeps RingOk s (maintLatches s) := by
  unfold maintLatches
  exact .each (fun _ _ => latchPairs_ring _ _ _) (.refl)

theorem slotsAtStart_ring (s : State) : Keeps RingOk s (slotsAtStart s) := by
  unfold slotsAtStart
  exact .app (maintLatches_ring _) (.each (fun _ _ => (setSlot_changes _ _ _).ring rfl) (.refl))

theorem prepare_ring (env : StartEnv) (s : State) : Keeps RingOk s (prepare env s) := by
  unfold prepare
  exact .app (.app (.app (.app (.app ((onPst_changes _ _).ring rfl) (.app (deadAtStart_ring _) ((pointsAtStart_changes _).ring rfl))) (.app (firstValues_ring _ _) (groupsUp_ring _ _))) (.app ((setDsp_changes _ _).ring rfl) ((imageAddresses_changes _).ring rfl))) (.app ((tracesAtStart_changes _).ring rfl) (.app ((brakesAtStart_changes _).ring rfl) (.app (slotsAtStart_ring _) ((retainAtStart_changes _ _).ring rfl))))) (.app ((reloadLanes_changes _ _).ring rfl) ((onCyc_changes _ _).ring rfl))

theorem startWith_ring (env : StartEnv) (s : State) : Keeps RingOk s (startWith env s) := by
  unfold startWith
  exact .ite (fun _ => enterDecaf_ring _ _ _ _) (fun _ => (by
   try dsimp only
   split
   · exact failStart_ring _ _ _
   · exact .app (.ite (fun _ => failStart_ring _ _ _) (fun _ => .app (.ite (fun _ => failStart_ring _ _ _) (fun _ => .ite (fun _ => failStart_ring _ _ _) (fun _ => .app ((roleStep_changes _).ring rfl) (prepare_ring _ _)))) (.app ((selfTests_changes _ _).ring rfl) ((raiseCore_changes _).ring rfl)))) (speedStep_ring _ _)
))

theorem goBlank_ring (reason : Byte) (env : StartEnv) (s : State) : Keeps RingOk s (goBlank reason env s) := by
  unfold goBlank
  exact enterDecaf_ring _ _ _ _

theorem startSequence_ring (env : StartEnv) (s : State) : Keeps RingOk s (startSequence env s) := by
  unfold startSequence
  refine .ite (fun _ => .refl) (fun _ => ?_)
  dsimp only
  split
  · exact .app (goBlank_ring _ _ _) (.app (startStep2_ring _ _) (startStep1_ring _))
  · refine .ite (fun _ => .app (goBlank_ring _ _ _) (.app (startStep2_ring _ _) (startStep1_ring _))) (fun _ => ?_)
    split
    · rename_i e
      have k := congrArg Prod.snd e
      dsimp only at k
      refine .app (goBlank_ring _ _ _) ?_
      rw [← k]
      exact .app (KeepsW.snd (selectHalf_ring _ _ _ _ _)) (.app ((onBoot_changes _ _).ring rfl)
        (.app (startStep2_ring _ _) (startStep1_ring _)))
    · rename_i e
      have k := congrArg Prod.snd e
      dsimp only at k
      refine .app (startWith_ring _ _) (.app ((loadImage_changes _ _ _).ring rfl) ?_)
      rw [← k]
      exact .app (KeepsW.snd (selectHalf_ring _ _ _ _ _)) (.app ((onBoot_changes _ _).ring rfl)
        (.app (startStep2_ring _ _) (startStep1_ring _)))

theorem warmStart_ring (env : StartEnv) (s : State) : Keeps RingOk s (warmStart env s) := by
  unfold warmStart
  exact .ite (fun _ => .refl) (fun _ => .app (.ite (fun _ => enterReset_ring _ _ _) (fun _ => .app (.app (.ite (fun _ => enterReset_ring _ _ _) (fun _ => .app ((roleStep_changes _).ring rfl) (.app (firstValues_ring _ _) (.app (slotsAtStart_ring _) (.app ((portsUp_changes _ _).ring rfl) ((onPst_changes _ _).ring rfl)))))) (.app ((selfTests_changes _ _).ring rfl) (.app ((retainWords_changes _).ring rfl) (.app ((reloadLanes_changes _ _).ring rfl) ((applyJournal_changes _).ring rfl))))) (.app ((raiseCore_changes _).ring rfl) ((onTim_changes _ _).ring rfl)))) (.app (postRestart_ring _) (resumeInkwell_ring _)))

theorem surveyAlarms_ring (i : ℕ) (before : BitVec 4 × Bool) (s : State) : Keeps RingOk s (surveyAlarms i before s) := by
  unfold surveyAlarms
  exact .app (.app (.ite (fun _ => .refl) (fun _ => (alarmRedraw_changes _).ring rfl)) ((setSurvey_changes _ _ _).ring rfl)) (requal_ring _ _)

theorem surveyMeasure_ring (i : ℕ) (m : SurveyMeas) (s : State) : Keeps RingOk s (surveyMeasure i m s) := by
  unfold surveyMeasure
  exact .ite (fun _ => .refl) (fun _ => .app (.app (surveyAlarms_ring _ _ _) (.app ((setChan_changes _ _ _).ring rfl) (.app ((setLive_changes _ _ _).ring rfl) ((setChan_changes _ _ _).ring rfl)))) ((setSurvey_changes _ _ _).ring rfl))

theorem surveySample_ring (i : ℕ) (on : Bool) (s : State) : Keeps RingOk s (surveySample i on s) := by
  unfold surveySample
  exact .ite (fun _ => .refl) (fun _ => .app (surveyAlarms_ring _ _ _) ((setSurvey_changes _ _ _).ring rfl))

theorem verifierRequest_ring {r : Req} {k : State → State} {s : State} (h_k : ∀ u, Keeps RingOk u (k u)) :
    Keeps RingOk s (verifierRequest r k s) := by
  unfold verifierRequest
  exact (by
   try dsimp only
   split
   · exact .refl
   · exact .ite (fun _ => .app (h_k _) ((onChop_changes _ _).ring rfl)) (fun _ => .refl)
)

/-! ### The commands -/

theorem execGroupLinkRestore_ring {g : Fin 6} {s u : State} (h : execGroupLinkRestore g s = .next u) :
    Keeps RingOk s u := by
  unfold execGroupLinkRestore at h
  obtain rfl := Host.Outcome.next.inj h
  exact .ite (fun _ => (setGrp_changes _ _ _).ring rfl) (fun _ => .app (requalAll_ring _ _) ((setGrp_changes _ _ _).ring rfl))

theorem execEnd_ring {o : Blk} {s u : State} (h : execEnd o s = .next u) :
    Keeps RingOk s u := by
  unfold execEnd at h
  obtain rfl := Host.Outcome.next.inj h
  exact endOp_ring _ _

theorem execModbusReadHolding_ring {h : MbHdr} {start : BitVec 16} {qty : BitVec 16} {s u : State} (h : execModbusReadHolding h start qty s = .next u) :
    Keeps RingOk s u := by
  unfold execModbusReadHolding at h
  obtain rfl := Host.Outcome.next.inj h
  exact mbReadReq_ring _ _ _ _ _ _

theorem execSt_ring {o : Blk} {s u : State} (h : execSt o s = .next u) :
    Keeps RingOk s u := by
  unfold execSt at h
  obtain rfl := Host.Outcome.next.inj h
  exact storeOp_ring _ _ _ _ _

theorem execDiscrepancyTimeout_ring {n : Fin 16} {s u : State} (h : execDiscrepancyTimeout n s = .next u) :
    Keeps RingOk s u := by
  unfold execDiscrepancyTimeout at h
  obtain rfl := Host.Outcome.next.inj h
  exact slotEvent_ring (fun _ => slotFault_ring _ _ _)

theorem execBarrierOverload_ring {avg : BitVec 16} {s u : State} (h : execBarrierOverload avg s = .next u) :
    Keeps RingOk s u := by
  unfold execBarrierOverload at h
  obtain rfl := Host.Outcome.next.inj h
  exact .app (.ite (fun _ => .app (post_ring _ _ _ _) ((onTim_changes _ _).ring rfl)) (fun _ => .refl)) ((onTim_changes _ _).ring rfl)

theorem execPointOnDelayEnd_ring {p : BitVec 12} {s u : State} (h : execPointOnDelayEnd p s = .next u) :
    Keeps RingOk s u := by
  unfold execPointOnDelayEnd at h
  obtain rfl := Host.Outcome.next.inj h
  exact pointEvent_ring (fun _ => goesActive_ring _ _)

theorem execStoreTrim_ring {r : Req} {s u : State} (h : execStoreTrim r s = .next u) :
    Keeps RingOk s u := by
  unfold execStoreTrim at h
  obtain rfl := Host.Outcome.next.inj h
  exact trimCommand_ring (fun _ => storeSession_ring _)

theorem execSurveyMeasurement_ring {ch : Fin 96} {m : SurveyMeas} {s u : State} (h : execSurveyMeasurement ch m s = .next u) :
    Keeps RingOk s u := by
  unfold execSurveyMeasurement at h
  obtain rfl := Host.Outcome.next.inj h
  exact surveyMeasure_ring _ _ _

theorem execCellin_ring {o : Blk} {s u : State} (h : execCellin o s = .next u) :
    Keeps RingOk s u := by
  unfold execCellin at h
  obtain rfl := Host.Outcome.next.inj h
  exact cellIn_ring _ _

theorem execDeadManIntervalEnd_ring {s u : State} (h : execDeadManIntervalEnd s = .next u) :
    Keeps RingOk s u := by
  unfold execDeadManIntervalEnd at h
  obtain rfl := Host.Outcome.next.inj h
  exact deadTimeEnd_ring (fun _ => deadTo_ring _ _ _)

theorem execMin_ring {o : Blk} {s u : State} (h : execMin o s = .next u) :
    Keeps RingOk s u := by
  unfold execMin at h
  obtain rfl := Host.Outcome.next.inj h
  exact regReg_ring _ _ _ _

theorem execBrakeTest_ring {r : Req} {n : Fin 16} {s u : State} (h : execBrakeTest r n s = .next u) :
    Keeps RingOk s u := by
  unfold execBrakeTest at h
  obtain rfl := Host.Outcome.next.inj h
  exact screenReq_ring (fun _ => acceptIf_ring (fun _ => .app ((reply_changes _ _ _ _).ring rfl) (brakeTestStart_ring _ _)))

theorem execWriteTrim_ring {r : Req} {ch : Fin 96} {p : TrimPoint} {ua : ℤ} {s u : State} (h : execWriteTrim r ch p ua s = .next u) :
    Keeps RingOk s u := by
  unfold execWriteTrim at h
  obtain rfl := Host.Outcome.next.inj h
  exact writeTrim_ring _ _ _ _ _

theorem execSurveyFastSample_ring {ch : Fin 96} {on : Bool} {s u : State} (h : execSurveyFastSample ch on s = .next u) :
    Keeps RingOk s u := by
  unfold execSurveyFastSample at h
  obtain rfl := Host.Outcome.next.inj h
  exact surveySample_ring _ _ _

theorem execResetDemand_ring {ch : Fin 96} {ms : ℕ} {s u : State} (h : execResetDemand ch ms s = .next u) :
    Keeps RingOk s u := by
  unfold execResetDemand at h
  obtain rfl := Host.Outcome.next.inj h
  exact resetDemand_ring _ _ _

theorem execOutputRelease_ring {s u : State} (h : execOutputRelease s = .next u) :
    Keeps RingOk s u := by
  unfold execOutputRelease at h
  obtain rfl := Host.Outcome.next.inj h
  exact outputRelease_ring _

theorem execSafetyInputFilterTick_ring {ch : Fin 96} {raw : Bool} {s u : State} (h : execSafetyInputFilterTick ch raw s = .next u) :
    Keeps RingOk s u := by
  unfold execSafetyInputFilterTick at h
  obtain rfl := Host.Outcome.next.inj h
  exact filterTick_ring _ _ _

theorem execFneg_ring {o : Blk} {s u : State} (h : execFneg o s = .next u) :
    Keeps RingOk s u := by
  unfold execFneg at h
  obtain rfl := Host.Outcome.next.inj h
  exact regOnly_ring _ _ _ _

theorem execObjwr_ring {l : Lane} {d : BitVec 6} {a : BitVec 6} {s u : State} (h : execObjwr l d a s = .next u) :
    Keeps RingOk s u := by
  unfold execObjwr at h
  obtain rfl := Host.Outcome.next.inj h
  exact sysOp_ring (fun _ => objwrOp_ring _ _ _)

theorem execTrimInputStuck_ring {x : TrimHeld} {s u : State} (h : execTrimInputStuck x s = .next u) :
    Keeps RingOk s u := by
  unfold execTrimInputStuck at h
  obtain rfl := Host.Outcome.next.inj h
  exact .ite (fun _ => (onFch_changes _ _).ring rfl) (fun _ => .app (post_ring _ _ _ _) ((onFch_changes _ _).ring rfl))

theorem execGaugeDisagreement_ring {s u : State} (h : execGaugeDisagreement s = .next u) :
    Keeps RingOk s u := by
  unfold execGaugeDisagreement at h
  obtain rfl := Host.Outcome.next.inj h
  exact .ite (fun _ => .app (post_ring _ _ _ _) ((onTim_changes _ _).ring rfl)) (fun _ => .refl)

theorem execStx_ring {o : Blk} {s u : State} (h : execStx o s = .next u) :
    Keeps RingOk s u := by
  unfold execStx at h
  obtain rfl := Host.Outcome.next.inj h
  exact storeOp_ring _ _ _ _ _

theorem execCtud_ring {l : Lane} {d : BitVec 6} {a : BitVec 6} {s u : State} (h : execCtud l d a s = .next u) :
    Keeps RingOk s u := by
  unfold execCtud at h
  obtain rfl := Host.Outcome.next.inj h
  exact recBlock_ring _ _ _ _ _ _ _ _

theorem execCallNotificationRetry_ring {sess : Word} {s u : State} (h : execCallNotificationRetry sess s = .next u) :
    Keeps RingOk s u := by
  unfold execCallNotificationRetry at h
  obtain rfl := Host.Outcome.next.inj h
  exact (by
   try dsimp only
   split
   · exact .refl
   · exact (by
     try dsimp only
     split
     · exact .refl
     · exact .ite (fun _ => .app ((emitLan_changes _ _).ring rfl) ((setSession_changes _ _ _).ring rfl)) (fun _ => .app (post_ring _ _ _ _) (.app ((onPnw_changes _ _).ring rfl) ((setSession_changes _ _ _).ring rfl)))
)
)

theorem execJmp_ring {o : Blk} {s u : State} (h : execJmp o s = .next u) :
    Keeps RingOk s u := by
  unfold execJmp at h
  obtain rfl := Host.Outcome.next.inj h
  exact jmpOp_ring _ _

theorem execCallStage2_ring {g : Fin 8} {s u : State} (h : execCallStage2 g s = .next u) :
    Keeps RingOk s u := by
  unfold execCallStage2 at h
  obtain rfl := Host.Outcome.next.inj h
  exact atInstant_ring (fun _ => .ite (fun _ => callStage_ring _ _ _) (fun _ => .refl))

theorem execOrim_ring {o : Blk} {s u : State} (h : execOrim o s = .next u) :
    Keeps RingOk s u := by
  unfold execOrim at h
  obtain rfl := Host.Outcome.next.inj h
  exact regImm_ring _ _ _ _

theorem execTrimDnPress_ring {x : TrimPress} {s u : State} (h : execTrimDnPress x s = .next u) :
    Keeps RingOk s u := by
  unfold execTrimDnPress at h
  obtain rfl := Host.Outcome.next.inj h
  exact .app (.ite (fun _ => trimMove_ring _) (fun _ => .refl)) ((trimLevels_changes _ _ _ _).ring rfl)

theorem execTrimUpPress_ring {x : TrimPress} {s u : State} (h : execTrimUpPress x s = .next u) :
    Keeps RingOk s u := by
  unfold execTrimUpPress at h
  obtain rfl := Host.Outcome.next.inj h
  exact .app (.ite (fun _ => trimMove_ring _) (fun _ => .refl)) ((trimLevels_changes _ _ _ _).ring rfl)

theorem execFmul_ring {o : Blk} {s u : State} (h : execFmul o s = .next u) :
    Keeps RingOk s u := by
  unfold execFmul at h
  obtain rfl := Host.Outcome.next.inj h
  exact regReg_ring _ _ _ _

theorem execQuillStreamLost_ring {g : Fin 6} {s u : State} (h : execQuillStreamLost g s = .next u) :
    Keeps RingOk s u := by
  unfold execQuillStreamLost at h
  obtain rfl := Host.Outcome.next.inj h
  exact quillStreamLost_ring _ _

theorem execDeltaApply_ring {s u : State} (h : execDeltaApply s = .next u) :
    Keeps RingOk s u := by
  unfold execDeltaApply at h
  obtain rfl := Host.Outcome.next.inj h
  exact deltaApply_ring _

theorem execBr_ring {o : Blk} {s u : State} (h : execBr o s = .next u) :
    Keeps RingOk s u := by
  unfold execBr at h
  obtain rfl := Host.Outcome.next.inj h
  exact branch_ring _ _ _ _ _

theorem execLeaveCommissioning_ring {r : Req} {s u : State} (h : execLeaveCommissioning r s = .next u) :
    Keeps RingOk s u := by
  unfold execLeaveCommissioning at h
  obtain rfl := Host.Outcome.next.inj h
  exact screenReq_ring (fun _ => acceptIf_ring (fun _ => .app ((reply_changes _ _ _ _).ring rfl) (leaveCommissioning_ring _)))

theorem execFrequencyGate_ring {ch : Fin 96} {periods : ℕ} {ticks : ℕ} {s u : State} (h : execFrequencyGate ch periods ticks s = .next u) :
    Keeps RingOk s u := by
  unfold execFrequencyGate at h
  obtain rfl := Host.Outcome.next.inj h
  exact freqGate_ring _ _ _ _

theorem execLdx_ring {o : Blk} {s u : State} (h : execLdx o s = .next u) :
    Keeps RingOk s u := by
  unfold execLdx at h
  obtain rfl := Host.Outcome.next.inj h
  exact loadOp_ring _ _ _ _ _

theorem execTp_ring {l : Lane} {d : BitVec 6} {a : BitVec 6} {s u : State} (h : execTp l d a s = .next u) :
    Keeps RingOk s u := by
  unfold execTp at h
  obtain rfl := Host.Outcome.next.inj h
  exact timerBlock_ring _ _ _ _ _ _

theorem execBlockReleaseDelayEnd_ring {p : BitVec 12} {s u : State} (h : execBlockReleaseDelayEnd p s = .next u) :
    Keeps RingOk s u := by
  unfold execBlockReleaseDelayEnd at h
  obtain rfl := Host.Outcome.next.inj h
  exact pointEvent_ring (fun _ => .app (pointTo_ring _ _ _) ((setPnt_changes _ _ _).ring rfl))

theorem execBrakeFeedbackTimeout_ring {n : Fin 16} {s u : State} (h : execBrakeFeedbackTimeout n s = .next u) :
    Keeps RingOk s u := by
  unfold execBrakeFeedbackTimeout at h
  obtain rfl := Host.Outcome.next.inj h
  exact brakeFeedback_ring _ _

theorem execAnd_ring {o : Blk} {s u : State} (h : execAnd o s = .next u) :
    Keeps RingOk s u := by
  unfold execAnd at h
  obtain rfl := Host.Outcome.next.inj h
  exact regReg_ring _ _ _ _

theorem execLui_ring {o : Blk} {s u : State} (h : execLui o s = .next u) :
    Keeps RingOk s u := by
  unfold execLui at h
  obtain rfl := Host.Outcome.next.inj h
  exact writesD_ring _ _ _ _ _

theorem execDeadManPrewarningEnd_ring {s u : State} (h : execDeadManPrewarningEnd s = .next u) :
    Keeps RingOk s u := by
  unfold execDeadManPrewarningEnd at h
  obtain rfl := Host.Outcome.next.inj h
  exact deadTimeEnd_ring (fun _ => deadAlarm_ring _)

theorem execTestPulseCheck_ring {n : Fin 16} {p : PulseSamples} {s u : State} (h : execTestPulseCheck n p s = .next u) :
    Keeps RingOk s u := by
  unfold execTestPulseCheck at h
  obtain rfl := Host.Outcome.next.inj h
  exact testPulseCheck_ring _ _ _

theorem execVinWarning_ring {v : BitVec 16} {s u : State} (h : execVinWarning v s = .next u) :
    Keeps RingOk s u := by
  unfold execVinWarning at h
  obtain rfl := Host.Outcome.next.inj h
  exact vinWarning_ring _ _

theorem execTwoHandSyncMiss_ring {n : Fin 16} {s u : State} (h : execTwoHandSyncMiss n s = .next u) :
    Keeps RingOk s u := by
  unfold execTwoHandSyncMiss at h
  obtain rfl := Host.Outcome.next.inj h
  exact slotEvent_ring (fun _ => (setSlot_changes _ _ _).ring rfl)

theorem execThermocoupleBreakTest_ring {ch : Fin 96} {uv : ℤ} {s u : State} (h : execThermocoupleBreakTest ch uv s = .next u) :
    Keeps RingOk s u := by
  unfold execThermocoupleBreakTest at h
  obtain rfl := Host.Outcome.next.inj h
  exact .ite (fun _ => .app (requal_ring _ _) ((setChan_changes _ _ _).ring rfl)) (fun _ => .refl)

theorem execShortToSupplyDetect_ring {ch : Fin 96} {v : ℤ} {s u : State} (h : execShortToSupplyDetect ch v s = .next u) :
    Keeps RingOk s u := by
  unfold execShortToSupplyDetect at h
  obtain rfl := Host.Outcome.next.inj h
  exact shortToSupply_ring _ _ _

theorem execShli_ring {o : Blk} {s u : State} (h : execShli o s = .next u) :
    Keeps RingOk s u := by
  unfold execShli at h
  obtain rfl := Host.Outcome.next.inj h
  exact shiftImm_ring _ _ _ _

theorem execCall_ring {o : Blk} {s u : State} (h : execCall o s = .next u) :
    Keeps RingOk s u := by
  unfold execCall at h
  obtain rfl := Host.Outcome.next.inj h
  exact callOp_ring _ _

theorem execCellout_ring {o : Blk} {s u : State} (h : execCellout o s = .next u) :
    Keeps RingOk s u := by
  unfold execCellout at h
  obtain rfl := Host.Outcome.next.inj h
  exact cellOut_ring _ _

theorem execRoleTransfer_ring {s u : State} (h : execRoleTransfer s = .next u) :
    Keeps RingOk s u := by
  unfold execRoleTransfer at h
  obtain rfl := Host.Outcome.next.inj h
  exact roleTransfer_ring _

theorem execFadd_ring {o : Blk} {s u : State} (h : execFadd o s = .next u) :
    Keeps RingOk s u := by
  unfold execFadd at h
  obtain rfl := Host.Outcome.next.inj h
  exact regReg_ring _ _ _ _

theorem execMulh_ring {o : Blk} {s u : State} (h : execMulh o s = .next u) :
    Keeps RingOk s u := by
  unfold execMulh at h
  obtain rfl := Host.Outcome.next.inj h
  exact regReg_ring _ _ _ _

theorem execBrakeTorqueTimeout_ring {n : Fin 16} {s u : State} (h : execBrakeTorqueTimeout n s = .next u) :
    Keeps RingOk s u := by
  unfold execBrakeTorqueTimeout at h
  obtain rfl := Host.Outcome.next.inj h
  exact slotEvent_ring (fun _ => brakeTestDone_ring _ _ _)

theorem execFlushAgeTimeout_ring {s u : State} (h : execFlushAgeTimeout s = .next u) :
    Keeps RingOk s u := by
  unfold execFlushAgeTimeout at h
  obtain rfl := Host.Outcome.next.inj h
  exact .ite (fun _ => .refl) (fun _ => startFlush_ring _)

theorem execInterlockStuckEnd_ring {s u : State} (h : execInterlockStuckEnd s = .next u) :
    Keeps RingOk s u := by
  unfold execInterlockStuckEnd at h
  obtain rfl := Host.Outcome.next.inj h
  exact .ite (fun _ => .app (applyOutputs_ring _) ((onPst_changes _ _).ring rfl)) (fun _ => .refl)

theorem execCellmode_ring {l : Lane} {d : BitVec 6} {a : BitVec 6} {s u : State} (h : execCellmode l d a s = .next u) :
    Keeps RingOk s u := by
  unfold execCellmode at h
  obtain rfl := Host.Outcome.next.inj h
  exact sysOp_ring (fun _ => (cellmodeOp_changes _ _ _).ring rfl)

theorem execResetPinAssert_ring {s u : State} (h : execResetPinAssert s = .next u) :
    Keeps RingOk s u := by
  unfold execResetPinAssert at h
  obtain rfl := Host.Outcome.next.inj h
  exact pinLow_ring _

theorem execDebounceAccept_ring {ch : Fin 96} {x : Debounce} {s u : State} (h : execDebounceAccept ch x s = .next u) :
    Keeps RingOk s u := by
  unfold execDebounceAccept at h
  obtain rfl := Host.Outcome.next.inj h
  exact .ite (fun _ => inputState_ring _ _ _ _) (fun _ => .refl)

theorem execSwitchOffTest_ring {p : Fin 24} {side : Side} {v : ℤ} {s u : State} (h : execSwitchOffTest p side v s = .next u) :
    Keeps RingOk s u := by
  unfold execSwitchOffTest at h
  obtain rfl := Host.Outcome.next.inj h
  exact switchOffTest_ring _ _ _ _

theorem execObjrd_ring {l : Lane} {d : BitVec 6} {a : BitVec 6} {s u : State} (h : execObjrd l d a s = .next u) :
    Keeps RingOk s u := by
  unfold execObjrd at h
  obtain rfl := Host.Outcome.next.inj h
  exact sysOp_ring (fun _ => objrdOp_ring _ _ _)

theorem execSari_ring {o : Blk} {s u : State} (h : execSari o s = .next u) :
    Keeps RingOk s u := by
  unfold execSari at h
  obtain rfl := Host.Outcome.next.inj h
  exact shiftImm_ring _ _ _ _

theorem execBrkageTick_ring {s u : State} (h : execBrkageTick s = .next u) :
    Keeps RingOk s u := by
  unfold execBrkageTick at h
  obtain rfl := Host.Outcome.next.inj h
  exact .each (fun _ _ => ageSlot_ring _ _) (.refl)

theorem execDataDigestComplete_ring {s u : State} (h : execDataDigestComplete s = .next u) :
    Keeps RingOk s u := by
  unfold execDataDigestComplete at h
  obtain rfl := Host.Outcome.next.inj h
  exact digestComplete_ring _

theorem execModbusReadInput_ring {h : MbHdr} {start : BitVec 16} {qty : BitVec 16} {s u : State} (h : execModbusReadInput h start qty s = .next u) :
    Keeps RingOk s u := by
  unfold execModbusReadInput at h
  obtain rfl := Host.Outcome.next.inj h
  exact mbReadReq_ring _ _ _ _ _ _

theorem execNop_ring {l : Lane} {w : Word} {s u : State} (h : execNop l w s = .next u) :
    Keeps RingOk s u := by
  unfold execNop at h
  obtain rfl := Host.Outcome.next.inj h
  exact nopWord_ring _ _ _

theorem execPwmPeriodStart_ring {ch : Fin 96} {x : PwmPeriod} {s u : State} (h : execPwmPeriodStart ch x s = .next u) :
    Keeps RingOk s u := by
  unfold execPwmPeriodStart at h
  obtain rfl := Host.Outcome.next.inj h
  exact pwmStart_ring _ _ _ _

theorem execXor_ring {o : Blk} {s u : State} (h : execXor o s = .next u) :
    Keeps RingOk s u := by
  unfold execXor at h
  obtain rfl := Host.Outcome.next.inj h
  exact regReg_ring _ _ _ _

theorem execOri_ring {o : Blk} {s u : State} (h : execOri o s = .next u) :
    Keeps RingOk s u := by
  unfold execOri at h
  obtain rfl := Host.Outcome.next.inj h
  exact regImm_ring _ _ _ _

theorem execFieldRingSilence_ring {s u : State} (h : execFieldRingSilence s = .next u) :
    Keeps RingOk s u := by
  unfold execFieldRingSilence at h
  obtain rfl := Host.Outcome.next.inj h
  exact .ite (fun _ => releaseRole_ring _ _) (fun _ => .refl)

theorem execSensorSupplyTrip_ring {ch : Fin 96} {s u : State} (h : execSensorSupplyTrip ch s = .next u) :
    Keeps RingOk s u := by
  unfold execSensorSupplyTrip at h
  obtain rfl := Host.Outcome.next.inj h
  exact .ite (fun _ => .app (requal_ring _ _) ((setChan_changes _ _ _).ring rfl)) (fun _ => .refl)

theorem execLd_ring {o : Blk} {s u : State} (h : execLd o s = .next u) :
    Keeps RingOk s u := by
  unfold execLd at h
  obtain rfl := Host.Outcome.next.inj h
  exact loadOp_ring _ _ _ _ _

theorem execBistInjectionTest_ring {t : SelfTest} {s u : State} (h : execBistInjectionTest t s = .next u) :
    Keeps RingOk s u := by
  unfold execBistInjectionTest at h
  obtain rfl := Host.Outcome.next.inj h
  exact .ite (fun _ => .app (.ite (fun _ => .refl) (fun _ => selfDiag_ring _ _)) ((recordTest_changes _ _).ring rfl)) (fun _ => .refl)

theorem execBrownoutEpisodeEnd_ring {lowest : BitVec 16} {us : Word} {s u : State} (h : execBrownoutEpisodeEnd lowest us s = .next u) :
    Keeps RingOk s u := by
  unfold execBrownoutEpisodeEnd at h
  obtain rfl := Host.Outcome.next.inj h
  exact episodeEnd_ring _ _ _

theorem execSpeakerElection_ring {s u : State} (h : execSpeakerElection s = .next u) :
    Keeps RingOk s u := by
  unfold execSpeakerElection at h
  obtain rfl := Host.Outcome.next.inj h
  exact speakerElection_ring _

theorem execFsqrt_ring {o : Blk} {s u : State} (h : execFsqrt o s = .next u) :
    Keeps RingOk s u := by
  unfold execFsqrt at h
  obtain rfl := Host.Outcome.next.inj h
  exact regOnly_ring _ _ _ _

theorem execEvrOldest_ring {p : Path} {s u : State} (h : execEvrOldest p s = .next u) :
    Keeps RingOk s u := by
  unfold execEvrOldest at h
  obtain rfl := Host.Outcome.next.inj h
  exact regCommand_ring (fun _ _ _ => (evrWrite_ring _ _ _ _))

theorem execQuillEvaluation_ring {s u : State} (h : execQuillEvaluation s = .next u) :
    Keeps RingOk s u := by
  unfold execQuillEvaluation at h
  obtain rfl := Host.Outcome.next.inj h
  exact quillEvaluation_ring _

theorem execSafetyOffDelayEnd_ring {n : Fin 16} {s u : State} (h : execSafetyOffDelayEnd n s = .next u) :
    Keeps RingOk s u := by
  unfold execSafetyOffDelayEnd at h
  obtain rfl := Host.Outcome.next.inj h
  exact slotEvent_ring (fun _ => .app (evalSlot_ring _ _) (.app (refreshQen_ring _) ((setSlot_changes _ _ _).ring rfl)))

theorem execEvpost_ring {l : Lane} {d : BitVec 6} {a : BitVec 6} {s u : State} (h : execEvpost l d a s = .next u) :
    Keeps RingOk s u := by
  unfold execEvpost at h
  obtain rfl := Host.Outcome.next.inj h
  exact sysOp_ring (fun _ => (evpostOp_changes _ _ _).ring rfl)

theorem execTon_ring {l : Lane} {d : BitVec 6} {a : BitVec 6} {s u : State} (h : execTon l d a s = .next u) :
    Keeps RingOk s u := by
  unfold execTon at h
  obtain rfl := Host.Outcome.next.inj h
  exact timerBlock_ring _ _ _ _ _ _

theorem execLeaveDecaf_ring {r : Req} {s u : State} (h : execLeaveDecaf r s = .next u) :
    Keeps RingOk s u := by
  unfold execLeaveDecaf at h
  obtain rfl := Host.Outcome.next.inj h
  exact screenReq_ring (fun _ => acceptIf_ring (fun _ => .app (enterReset_ring _ _ _) (.app ((reply_changes _ _ _ _).ring rfl) ((setFails_changes _ _).ring rfl))))

theorem execCtu_ring {l : Lane} {d : BitVec 6} {a : BitVec 6} {s u : State} (h : execCtu l d a s = .next u) :
    Keeps RingOk s u := by
  unfold execCtu at h
  obtain rfl := Host.Outcome.next.inj h
  exact recBlock_ring _ _ _ _ _ _ _ _

theorem execEvrNext_ring {p : Path} {s u : State} (h : execEvrNext p s = .next u) :
    Keeps RingOk s u := by
  unfold execEvrNext at h
  obtain rfl := Host.Outcome.next.inj h
  exact regCommand_ring (fun _ _ _ => (evrWrite_ring _ _ _ _))

theorem execTimeReferenceCheck_ring {ticks : ℕ} {marks : ℕ} {s u : State} (h : execTimeReferenceCheck ticks marks s = .next u) :
    Keeps RingOk s u := by
  unfold execTimeReferenceCheck at h
  obtain rfl := Host.Outcome.next.inj h
  exact timeCheck_ring _ _ _

theorem execXori_ring {o : Blk} {s u : State} (h : execXori o s = .next u) :
    Keeps RingOk s u := by
  unfold execXori at h
  obtain rfl := Host.Outcome.next.inj h
  exact regImm_ring _ _ _ _

theorem execFlushComplete_ring {s u : State} (h : execFlushComplete s = .next u) :
    Keeps RingOk s u := by
  unfold execFlushComplete at h
  obtain rfl := Host.Outcome.next.inj h
  exact flushComplete_ring _

theorem execCv_ring {l : Lane} {d : BitVec 6} {a : BitVec 6} {s u : State} (h : execCv l d a s = .next u) :
    Keeps RingOk s u := by
  unfold execCv at h
  obtain rfl := Host.Outcome.next.inj h
  exact recBlock_ring _ _ _ _ _ _ _ _

theorem execPointOffDelayEnd_ring {p : BitVec 12} {s u : State} (h : execPointOffDelayEnd p s = .next u) :
    Keeps RingOk s u := by
  unfold execPointOffDelayEnd at h
  obtain rfl := Host.Outcome.next.inj h
  exact pointEvent_ring (fun _ => returns_ring _ _)

theorem execFma_ring {o : Blk} {s u : State} (h : execFma o s = .next u) :
    Keeps RingOk s u := by
  unfold execFma at h
  obtain rfl := Host.Outcome.next.inj h
  exact writesD_ring _ _ _ _ _

theorem execSar_ring {o : Blk} {s u : State} (h : execSar o s = .next u) :
    Keeps RingOk s u := by
  unfold execSar at h
  obtain rfl := Host.Outcome.next.inj h
  exact regReg_ring _ _ _ _

theorem execSensorSupplyRetry_ring {ch : Fin 96} {limited : Bool} {s u : State} (h : execSensorSupplyRetry ch limited s = .next u) :
    Keeps RingOk s u := by
  unfold execSensorSupplyRetry at h
  obtain rfl := Host.Outcome.next.inj h
  exact .ite (fun _ => .app (requal_ring _ _) ((setChan_changes _ _ _).ring rfl)) (fun _ => .refl)

theorem execAndi_ring {o : Blk} {s u : State} (h : execAndi o s = .next u) :
    Keeps RingOk s u := by
  unfold execAndi at h
  obtain rfl := Host.Outcome.next.inj h
  exact regImm_ring _ _ _ _

theorem execRestartOtherImageHalf_ring {r : Req} {s u : State} (h : execRestartOtherImageHalf r s = .next u) :
    Keeps RingOk s u := by
  unfold execRestartOtherImageHalf at h
  obtain rfl := Host.Outcome.next.inj h
  exact screenReq_ring (fun _ => restartOther_ring _ _)

theorem execStartSequence_ring {env : StartEnv} {s u : State} (h : execStartSequence env s = .next u) :
    Keeps RingOk s u := by
  unfold execStartSequence at h
  obtain rfl := Host.Outcome.next.inj h
  exact startSequence_ring _ _

theorem execRTrig_ring {l : Lane} {d : BitVec 6} {a : BitVec 6} {s u : State} (h : execRTrig l d a s = .next u) :
    Keeps RingOk s u := by
  unfold execRTrig at h
  obtain rfl := Host.Outcome.next.inj h
  exact recBlock_ring _ _ _ _ _ _ _ _

theorem execFdiv_ring {o : Blk} {s u : State} (h : execFdiv o s = .next u) :
    Keeps RingOk s u := by
  unfold execFdiv at h
  obtain rfl := Host.Outcome.next.inj h
  exact regReg_ring _ _ _ _

theorem execCompareStalled_ring {s u : State} (h : execCompareStalled s = .next u) :
    Keeps RingOk s u := by
  unfold execCompareStalled at h
  obtain rfl := Host.Outcome.next.inj h
  exact compareStalled_ring _

theorem execFrequencyTimeout_ring {ch : Fin 96} {s u : State} (h : execFrequencyTimeout ch s = .next u) :
    Keeps RingOk s u := by
  unfold execFrequencyTimeout at h
  obtain rfl := Host.Outcome.next.inj h
  exact .ite (fun _ => .app (requal_ring _ _) (.app ((setLive_changes _ _ _).ring rfl) ((setChan_changes _ _ _).ring rfl))) (fun _ => .refl)

theorem execReadbackConversion_ring {ch : Fin 96} {ua : ℤ} {s u : State} (h : execReadbackConversion ch ua s = .next u) :
    Keeps RingOk s u := by
  unfold execReadbackConversion at h
  obtain rfl := Host.Outcome.next.inj h
  exact readback_ring _ _ _

theorem execWarmStartSequence_ring {env : StartEnv} {s u : State} (h : execWarmStartSequence env s = .next u) :
    Keeps RingOk s u := by
  unfold execWarmStartSequence at h
  obtain rfl := Host.Outcome.next.inj h
  exact warmStart_ring _ _

theorem execRunNotReached_ring {s u : State} (h : execRunNotReached s = .next u) :
    Keeps RingOk s u := by
  unfold execRunNotReached at h
  obtain rfl := Host.Outcome.next.inj h
  exact .ite (fun _ => failStart_ring _ _ _) (fun _ => .refl)

theorem execSub_ring {o : Blk} {s u : State} (h : execSub o s = .next u) :
    Keeps RingOk s u := by
  unfold execSub at h
  obtain rfl := Host.Outcome.next.inj h
  exact regReg_ring _ _ _ _

theorem execCommitRestart_ring {s u : State} (h : execCommitRestart s = .next u) :
    Keeps RingOk s u := by
  unfold execCommitRestart at h
  obtain rfl := Host.Outcome.next.inj h
  exact .ite (fun _ => enterReset_ring _ _ _) (fun _ => .refl)

theorem execBarrierLimit_ring {mw : ℕ} {s u : State} (h : execBarrierLimit mw s = .next u) :
    Keeps RingOk s u := by
  unfold execBarrierLimit at h
  obtain rfl := Host.Outcome.next.inj h
  exact barrierLimit_ring _ _

theorem execSpeedFloorLost_ring {s u : State} (h : execSpeedFloorLost s = .next u) :
    Keeps RingOk s u := by
  unfold execSpeedFloorLost at h
  obtain rfl := Host.Outcome.next.inj h
  exact .ite (fun _ => .app (post_ring _ _ _ _) ((onTim_changes _ _).ring rfl)) (fun _ => .refl)

theorem execItof_ring {o : Blk} {s u : State} (h : execItof o s = .next u) :
    Keeps RingOk s u := by
  unfold execItof at h
  obtain rfl := Host.Outcome.next.inj h
  exact regOnly_ring _ _ _ _

theorem execTrimSessionTimeout_ring {s u : State} (h : execTrimSessionTimeout s = .next u) :
    Keeps RingOk s u := by
  unfold execTrimSessionTimeout at h
  obtain rfl := Host.Outcome.next.inj h
  exact discardTrim_ring _

theorem execPulseEdge_ring {ch : Fin 96} {s u : State} (h : execPulseEdge ch s = .next u) :
    Keeps RingOk s u := by
  unfold execPulseEdge at h
  obtain rfl := Host.Outcome.next.inj h
  exact .ite (fun _ => .app (requal_ring _ _) ((setLive_changes _ _ _).ring rfl)) (fun _ => .refl)

theorem execUtcStepped_ring {s u : State} (h : execUtcStepped s = .next u) :
    Keeps RingOk s u := by
  unfold execUtcStepped at h
  obtain rfl := Host.Outcome.next.inj h
  exact (by
   try dsimp only
   split
   · exact .refl
   · exact .app (post_ring _ _ _ _) ((onPnw_changes _ _).ring rfl)
)

theorem execHold_ring {r : Req} {s u : State} (h : execHold r s = .next u) :
    Keeps RingOk s u := by
  unfold execHold at h
  obtain rfl := Host.Outcome.next.inj h
  exact stateCommand_ring (fun _ => enterHold_ring _)

theorem execRead_ring {r : Req} {addr : Word} {count : BitVec 16} {s u : State} (h : execRead r addr count s = .next u) :
    Keeps RingOk s u := by
  unfold execRead at h
  obtain rfl := Host.Outcome.next.inj h
  exact screenReq_ring (fun _ => readSpace_ring _ _ _ _)

theorem execSlt_ring {o : Blk} {s u : State} (h : execSlt o s = .next u) :
    Keeps RingOk s u := by
  unfold execSlt at h
  obtain rfl := Host.Outcome.next.inj h
  exact regReg_ring _ _ _ _

theorem execConversionComplete_ring {ch : Fin 96} {m : Meas} {s u : State} (h : execConversionComplete ch m s = .next u) :
    Keeps RingOk s u := by
  unfold execConversionComplete at h
  obtain rfl := Host.Outcome.next.inj h
  exact .app (requal_ring _ _) ((convert_changes _ _ _).ring rfl)

theorem execAdd_ring {o : Blk} {s u : State} (h : execAdd o s = .next u) :
    Keeps RingOk s u := by
  unfold execAdd at h
  obtain rfl := Host.Outcome.next.inj h
  exact regReg_ring _ _ _ _

theorem execJunctionOvertemperature_ring {deciC : ℤ} {s u : State} (h : execJunctionOvertemperature deciC s = .next u) :
    Keeps RingOk s u := by
  unfold execJunctionOvertemperature at h
  obtain rfl := Host.Outcome.next.inj h
  exact .ite (fun _ => .app (.ite (fun _ => selfDiag_ring _ _) (fun _ => .refl)) ((onTim_changes _ _).ring rfl)) (fun _ => .refl)

theorem execInternalSuppliesStop_ring {s u : State} (h : execInternalSuppliesStop s = .next u) :
    Keeps RingOk s u := by
  unfold execInternalSuppliesStop at h
  obtain rfl := Host.Outcome.next.inj h
  exact suppliesStop_ring _

theorem execFabs_ring {o : Blk} {s u : State} (h : execFabs o s = .next u) :
    Keeps RingOk s u := by
  unfold execFabs at h
  obtain rfl := Host.Outcome.next.inj h
  exact regOnly_ring _ _ _ _

theorem execBrakeTestEnd_ring {n : Fin 16} {s u : State} (h : execBrakeTestEnd n s = .next u) :
    Keeps RingOk s u := by
  unfold execBrakeTestEnd at h
  obtain rfl := Host.Outcome.next.inj h
  exact slotEvent_ring (fun _ => brakeTestDone_ring _ _ _)

theorem execLoopOutputHandoff_ring {t : BitVec 16} {s u : State} (h : execLoopOutputHandoff t s = .next u) :
    Keeps RingOk s u := by
  unfold execLoopOutputHandoff at h
  obtain rfl := Host.Outcome.next.inj h
  exact loopHandoff_ring _ _

theorem execSeqi_ring {o : Blk} {s u : State} (h : execSeqi o s = .next u) :
    Keeps RingOk s u := by
  unfold execSeqi at h
  obtain rfl := Host.Outcome.next.inj h
  exact regImm_ring _ _ _ _

theorem execReadvar_ring {r : Req} {tag : Word} {count : BitVec 16} {s u : State} (h : execReadvar r tag count s = .next u) :
    Keeps RingOk s u := by
  unfold execReadvar at h
  obtain rfl := Host.Outcome.next.inj h
  exact screenReq_ring (fun _ => readSpace_ring _ _ _ _)

theorem execBz_ring {o : Blk} {s u : State} (h : execBz o s = .next u) :
    Keeps RingOk s u := by
  unfold execBz at h
  obtain rfl := Host.Outcome.next.inj h
  exact branch_ring _ _ _ _ _

theorem execFmin_ring {o : Blk} {s u : State} (h : execFmin o s = .next u) :
    Keeps RingOk s u := by
  unfold execFmin at h
  obtain rfl := Host.Outcome.next.inj h
  exact regReg_ring _ _ _ _

theorem execFeq_ring {o : Blk} {s u : State} (h : execFeq o s = .next u) :
    Keeps RingOk s u := by
  unfold execFeq at h
  obtain rfl := Host.Outcome.next.inj h
  exact regReg_ring _ _ _ _

theorem execRecordsLostPointEnd_ring {s u : State} (h : execRecordsLostPointEnd s = .next u) :
    Keeps RingOk s u := by
  unfold execRecordsLostPointEnd at h
  obtain rfl := Host.Outcome.next.inj h
  exact onEvr_same (fun _ => ⟨rfl, rfl⟩)

theorem execAddi_ring {o : Blk} {s u : State} (h : execAddi o s = .next u) :
    Keeps RingOk s u := by
  unfold execAddi at h
  obtain rfl := Host.Outcome.next.inj h
  exact regImm_ring _ _ _ _

theorem execGroupSupplyLevelChange_ring {g : Fin 6} {e : SupplyEvent} {v : BitVec 16} {a : BitVec 16} {s u : State} (h : execGroupSupplyLevelChange g e v a s = .next u) :
    Keeps RingOk s u := by
  unfold execGroupSupplyLevelChange at h
  obtain rfl := Host.Outcome.next.inj h
  exact supplyChange_ring _ _ _ _ _

theorem execForwardedCommand_ring {x : SlRx Forwarded} {t : SelfTest} {s u : State} (h : execForwardedCommand x t s = .next u) :
    Keeps RingOk s u := by
  unfold execForwardedCommand at h
  obtain rfl := Host.Outcome.next.inj h
  exact slReceive_ring (fun _ => forwardedCommand_ring _ _ _ _) (fun _ => .refl)

theorem execShelfTimeEnd_ring {p : BitVec 12} {s u : State} (h : execShelfTimeEnd p s = .next u) :
    Keeps RingOk s u := by
  unfold execShelfTimeEnd at h
  obtain rfl := Host.Outcome.next.inj h
  exact pointEvent_ring (fun _ => unshelve_ring _ _)

theorem execFTrig_ring {l : Lane} {d : BitVec 6} {a : BitVec 6} {s u : State} (h : execFTrig l d a s = .next u) :
    Keeps RingOk s u := by
  unfold execFTrig at h
  obtain rfl := Host.Outcome.next.inj h
  exact recBlock_ring _ _ _ _ _ _ _ _

theorem execRoleSwapDue_ring {s u : State} (h : execRoleSwapDue s = .next u) :
    Keeps RingOk s u := by
  unfold execRoleSwapDue at h
  obtain rfl := Host.Outcome.next.inj h
  exact .ite (fun _ => .app (post_ring _ _ _ _) ((onPst_changes _ _).ring rfl)) (fun _ => .refl)

theorem execVinResetThreshold_ring {v : BitVec 16} {s u : State} (h : execVinResetThreshold v s = .next u) :
    Keeps RingOk s u := by
  unfold execVinResetThreshold at h
  obtain rfl := Host.Outcome.next.inj h
  exact vinReset_ring _ _

theorem execSetPendingTrim_ring {r : Req} {ua : ℤ} {s u : State} (h : execSetPendingTrim r ua s = .next u) :
    Keeps RingOk s u := by
  unfold execSetPendingTrim at h
  obtain rfl := Host.Outcome.next.inj h
  exact trimCommand_ring (fun _ => setPending_ring _ _)

theorem execDiv_ring {o : Blk} {s u : State} (h : execDiv o s = .next u) :
    Keeps RingOk s u := by
  unfold execDiv at h
  obtain rfl := Host.Outcome.next.inj h
  exact .app ((noteDivz_changes _ _ _ _).ring rfl) (regReg_ring _ _ _ _)

theorem execShr_ring {o : Blk} {s u : State} (h : execShr o s = .next u) :
    Keeps RingOk s u := by
  unfold execShr at h
  obtain rfl := Host.Outcome.next.inj h
  exact regReg_ring _ _ _ _

theorem execParallelImbalance_ring {ch : Fin 96} {isOff : Bool} {s u : State} (h : execParallelImbalance ch isOff s = .next u) :
    Keeps RingOk s u := by
  unfold execParallelImbalance at h
  obtain rfl := Host.Outcome.next.inj h
  exact .ite (fun _ => onSet_ring _ _ _) (fun _ => .refl)

theorem execLateCompareComplete_ring {s u : State} (h : execLateCompareComplete s = .next u) :
    Keeps RingOk s u := by
  unfold execLateCompareComplete at h
  obtain rfl := Host.Outcome.next.inj h
  exact lateComplete_ring _

theorem execWrite_ring {r : Req} {addr : Word} {ws : List Word} {s u : State} (h : execWrite r addr ws s = .next u) :
    Keeps RingOk s u := by
  unfold execWrite at h
  obtain rfl := Host.Outcome.next.inj h
  exact screenReq_ring (fun _ => .ite (fun _ => (reply_changes _ _ _ _).ring rfl) (fun _ => answer_ring (fun _ => (writeSpace_ring _ _ _ _ _))))

theorem execFsub_ring {o : Blk} {s u : State} (h : execFsub o s = .next u) :
    Keeps RingOk s u := by
  unfold execFsub at h
  obtain rfl := Host.Outcome.next.inj h
  exact regReg_ring _ _ _ _

theorem execMul_ring {o : Blk} {s u : State} (h : execMul o s = .next u) :
    Keeps RingOk s u := by
  unfold execMul at h
  obtain rfl := Host.Outcome.next.inj h
  exact regReg_ring _ _ _ _

theorem execFtoi_ring {o : Blk} {s u : State} (h : execFtoi o s = .next u) :
    Keeps RingOk s u := by
  unfold execFtoi at h
  obtain rfl := Host.Outcome.next.inj h
  exact regOnly_ring _ _ _ _

theorem execModbusWriteMultiple_ring {h : MbHdr} {start : BitVec 16} {qty : BitVec 16} {byteCount : ℕ} {vals : List (BitVec 16)} {s u : State} (h : execModbusWriteMultiple h start qty byteCount vals s = .next u) :
    Keeps RingOk s u := by
  unfold execModbusWriteMultiple at h
  obtain rfl := Host.Outcome.next.inj h
  exact .ite (fun _ => .refl) (fun _ => .ite (fun _ => (mbException_changes _ _ _ _).ring rfl) (fun _ => mbWriteReq_ring _ _ _ _ _ _))

theorem execLaneStalled_ring {l : Lane} {s u : State} (h : execLaneStalled l s = .next u) :
    Keeps RingOk s u := by
  unfold execLaneStalled at h
  obtain rfl := Host.Outcome.next.inj h
  exact laneStalled_ring _ _

theorem execBnz_ring {o : Blk} {s u : State} (h : execBnz o s = .next u) :
    Keeps RingOk s u := by
  unfold execBnz at h
  obtain rfl := Host.Outcome.next.inj h
  exact branch_ring _ _ _ _ _

theorem execCycleT0_ring {s u : State} (h : execCycleT0 s = .next u) :
    Keeps RingOk s u := by
  unfold execCycleT0 at h
  obtain rfl := Host.Outcome.next.inj h
  exact cycleT0_ring _

theorem execRejoinLanes_ring {r : Req} {t : SelfTest} {s u : State} (h : execRejoinLanes r t s = .next u) :
    Keeps RingOk s u := by
  unfold execRejoinLanes at h
  obtain rfl := Host.Outcome.next.inj h
  exact screenReq_ring (fun _ => acceptIf_ring (fun _ => .ite (fun _ => acceptBoth_ring (fun _ => beginRejoin_ring _ _ _)) (fun _ => .app ((reply_changes _ _ _ _).ring rfl) (beginRejoin_ring _ _ _))))

theorem execSeq_ring {o : Blk} {s u : State} (h : execSeq o s = .next u) :
    Keeps RingOk s u := by
  unfold execSeq at h
  obtain rfl := Host.Outcome.next.inj h
  exact regReg_ring _ _ _ _

theorem execTimel_ring {l : Lane} {d : BitVec 6} {a : BitVec 6} {s u : State} (h : execTimel l d a s = .next u) :
    Keeps RingOk s u := by
  unfold execTimel at h
  obtain rfl := Host.Outcome.next.inj h
  exact sysOp_ring (fun _ => (result_changes _ _ _ _).ring rfl)

theorem execTwinStepDigest_ring {x : SlRx Word} {s u : State} (h : execTwinStepDigest x s = .next u) :
    Keeps RingOk s u := by
  unfold execTwinStepDigest at h
  obtain rfl := Host.Outcome.next.inj h
  exact slReceive_ring (fun _ => twinStep_ring _ _) (fun _ => .refl)

theorem execTrimSetPress_ring {s u : State} (h : execTrimSetPress s = .next u) :
    Keeps RingOk s u := by
  unfold execTrimSetPress at h
  obtain rfl := Host.Outcome.next.inj h
  exact trimSet_ring _

theorem execInputDeadline_ring {s u : State} (h : execInputDeadline s = .next u) :
    Keeps RingOk s u := by
  unfold execInputDeadline at h
  obtain rfl := Host.Outcome.next.inj h
  exact .ite (fun _ => .refl) (fun _ => .app (.ite (fun _ => (openWindow_changes _).ring rfl) (fun _ => .refl)) (.app ((onFrg_changes _ _).ring rfl) (.each (fun _ _ => deadlineStn_ring _ _) (.refl))))

theorem execGroupLinkLost_ring {g : Fin 6} {s u : State} (h : execGroupLinkLost g s = .next u) :
    Keeps RingOk s u := by
  unfold execGroupLinkLost at h
  obtain rfl := Host.Outcome.next.inj h
  exact linkLost_ring _ _

theorem execPartnerOutputMismatch_ring {ch : Fin 96} {x : CrossRead} {s u : State} (h : execPartnerOutputMismatch ch x s = .next u) :
    Keeps RingOk s u := by
  unfold execPartnerOutputMismatch at h
  obtain rfl := Host.Outcome.next.inj h
  exact partnerCheck_ring _ _ _ _

theorem execEvrPrev_ring {p : Path} {s u : State} (h : execEvrPrev p s = .next u) :
    Keeps RingOk s u := by
  unfold execEvrPrev at h
  obtain rfl := Host.Outcome.next.inj h
  exact regCommand_ring (fun _ _ _ => (evrWrite_ring _ _ _ _))

theorem execOpenLoadDetect_ring {ch : Fin 96} {ma : BitVec 16} {s u : State} (h : execOpenLoadDetect ch ma s = .next u) :
    Keeps RingOk s u := by
  unfold execOpenLoadDetect at h
  obtain rfl := Host.Outcome.next.inj h
  exact openLoad_ring _ _ _

theorem execReadbackDiagnosticsResume_ring {g : Fin 6} {s u : State} (h : execReadbackDiagnosticsResume g s = .next u) :
    Keeps RingOk s u := by
  unfold execReadbackDiagnosticsResume at h
  obtain rfl := Host.Outcome.next.inj h
  exact .ite (fun _ => .app (requalAll_ring _ _) ((setGrp_changes _ _ _).ring rfl)) (fun _ => .refl)

theorem execScrubStep_ring {f : ScrubFound} {s u : State} (h : execScrubStep f s = .next u) :
    Keeps RingOk s u := by
  unfold execScrubStep at h
  obtain rfl := Host.Outcome.next.inj h
  exact scrubStep_ring _ _

theorem execBrakeTestEdge_ring {n : Fin 16} {s u : State} (h : execBrakeTestEdge n s = .next u) :
    Keeps RingOk s u := by
  unfold execBrakeTestEdge at h
  obtain rfl := Host.Outcome.next.inj h
  exact slotEvent_ring (fun _ => .ite (fun _ => brakeTestStart_ring _ _) (fun _ => (setSlot_changes _ _ _).ring rfl))

theorem execUnannouncedTakeover_ring {s u : State} (h : execUnannouncedTakeover s = .next u) :
    Keeps RingOk s u := by
  unfold execUnannouncedTakeover at h
  obtain rfl := Host.Outcome.next.inj h
  exact .ite (fun _ => takeRole_ring _ _) (fun _ => (onPst_changes _ _).ring rfl)

theorem execDeltaLost_ring {s u : State} (h : execDeltaLost s = .next u) :
    Keeps RingOk s u := by
  unfold execDeltaLost at h
  obtain rfl := Host.Outcome.next.inj h
  exact .ite (fun _ => .app ((notReady_changes _).ring rfl) (.app (post_ring _ _ _ _) ((onPst_changes _ _).ring rfl))) (fun _ => .refl)

theorem execSlti_ring {o : Blk} {s u : State} (h : execSlti o s = .next u) :
    Keeps RingOk s u := by
  unfold execSlti at h
  obtain rfl := Host.Outcome.next.inj h
  exact regImm_ring _ _ _ _

theorem execOutputOverloadRetry_ring {ch : Fin 96} {limited : Bool} {s u : State} (h : execOutputOverloadRetry ch limited s = .next u) :
    Keeps RingOk s u := by
  unfold execOutputOverloadRetry at h
  obtain rfl := Host.Outcome.next.inj h
  exact overloadRetry_ring _ _ _

theorem execGovernorEvaluation_ring {avg : BitVec 16} {s u : State} (h : execGovernorEvaluation avg s = .next u) :
    Keeps RingOk s u := by
  unfold execGovernorEvaluation at h
  obtain rfl := Host.Outcome.next.inj h
  exact govern_ring _ _

theorem execHelloReceived_ring {p : Fin 3} {x : SlRx Hello} {s u : State} (h : execHelloReceived p x s = .next u) :
    Keeps RingOk s u := by
  unfold execHelloReceived at h
  obtain rfl := Host.Outcome.next.inj h
  exact helloReceived_ring _ _ _

theorem execRem_ring {o : Blk} {s u : State} (h : execRem o s = .next u) :
    Keeps RingOk s u := by
  unfold execRem at h
  obtain rfl := Host.Outcome.next.inj h
  exact .app ((noteDivz_changes _ _ _ _).ring rfl) (regReg_ring _ _ _ _)

theorem execAuth_ring {m : Unsess} {sess : Word} {proof : List Byte} {s u : State} (h : execAuth m sess proof s = .next u) :
    Keeps RingOk s u := by
  unfold execAuth at h
  obtain rfl := Host.Outcome.next.inj h
  exact openReq_ring (fun _ => auth_ring _ _ _ _)

theorem execCloseTrim_ring {r : Req} {s u : State} (h : execCloseTrim r s = .next u) :
    Keeps RingOk s u := by
  unfold execCloseTrim at h
  obtain rfl := Host.Outcome.next.inj h
  exact trimCommand_ring (fun _ => discardTrim_ring _)

theorem execTrimRepeat_ring {upLow : Bool} {dnLow : Bool} {s u : State} (h : execTrimRepeat upLow dnLow s = .next u) :
    Keeps RingOk s u := by
  unfold execTrimRepeat at h
  obtain rfl := Host.Outcome.next.inj h
  exact .app (trimMove_ring _) ((trimPins_changes _ _ _).ring rfl)

theorem execShl_ring {o : Blk} {s u : State} (h : execShl o s = .next u) :
    Keeps RingOk s u := by
  unfold execShl at h
  obtain rfl := Host.Outcome.next.inj h
  exact regReg_ring _ _ _ _

theorem execSharedInputTakeoverCheck_ring {ch : Fin 96} {agrees : Bool} {after10ms : Bool} {s u : State} (h : execSharedInputTakeoverCheck ch agrees after10ms s = .next u) :
    Keeps RingOk s u := by
  unfold execSharedInputTakeoverCheck at h
  obtain rfl := Host.Outcome.next.inj h
  exact .ite (fun _ => .app (requal_ring _ _) ((setChan_changes _ _ _).ring rfl)) (fun _ => .refl)

theorem execOr_ring {o : Blk} {s u : State} (h : execOr o s = .next u) :
    Keeps RingOk s u := by
  unfold execOr at h
  obtain rfl := Host.Outcome.next.inj h
  exact regReg_ring _ _ _ _

theorem execSagLatchTimer_ring {g : Fin 6} {s u : State} (h : execSagLatchTimer g s = .next u) :
    Keeps RingOk s u := by
  unfold execSagLatchTimer at h
  obtain rfl := Host.Outcome.next.inj h
  exact sagLatch_ring _ _

theorem execModbusWriteSingle_ring {h : MbHdr} {reg : BitVec 16} {value : BitVec 16} {s u : State} (h : execModbusWriteSingle h reg value s = .next u) :
    Keeps RingOk s u := by
  unfold execModbusWriteSingle at h
  obtain rfl := Host.Outcome.next.inj h
  exact .ite (fun _ => mbWriteReq_ring _ _ _ _ _ _) (fun _ => .refl)

theorem execOutputOverloadTrip_ring {ch : Fin 96} {s u : State} (h : execOutputOverloadTrip ch s = .next u) :
    Keeps RingOk s u := by
  unfold execOutputOverloadTrip at h
  obtain rfl := Host.Outcome.next.inj h
  exact overloadTrip_ring _ _

theorem execCtd_ring {l : Lane} {d : BitVec 6} {a : BitVec 6} {s u : State} (h : execCtd l d a s = .next u) :
    Keeps RingOk s u := by
  unfold execCtd at h
  obtain rfl := Host.Outcome.next.inj h
  exact recBlock_ring _ _ _ _ _ _ _ _

theorem execFmax_ring {o : Blk} {s u : State} (h : execFmax o s = .next u) :
    Keeps RingOk s u := by
  unfold execFmax at h
  obtain rfl := Host.Outcome.next.inj h
  exact regReg_ring _ _ _ _

theorem execInterlockPeerNetChange_ring {own : Bool} {peer : Bool} {s u : State} (h : execInterlockPeerNetChange own peer s = .next u) :
    Keeps RingOk s u := by
  unfold execInterlockPeerNetChange at h
  obtain rfl := Host.Outcome.next.inj h
  exact netChange_ring _ _ _

theorem execOpenTrim_ring {r : Req} {ch : Fin 96} {p : TrimPoint} {s u : State} (h : execOpenTrim r ch p s = .next u) :
    Keeps RingOk s u := by
  unfold execOpenTrim at h
  obtain rfl := Host.Outcome.next.inj h
  exact openTrim_ring _ _ _ _

theorem execBistTestSequence_ring {v : Verdict} {s u : State} (h : execBistTestSequence v s = .next u) :
    Keeps RingOk s u := by
  unfold execBistTestSequence at h
  obtain rfl := Host.Outcome.next.inj h
  exact bistSequence_ring _ _

theorem execTimeMarkReceived_ring {p : Fin 3} {ns : ℤ} {x : SlRx TimeMark} {s u : State} (h : execTimeMarkReceived p ns x s = .next u) :
    Keeps RingOk s u := by
  unfold execTimeMarkReceived at h
  obtain rfl := Host.Outcome.next.inj h
  exact slReceive_ring (fun _ => timeMark_ring _ _ _ _) (fun _ => .refl)

theorem execAlarmEvaluation_ring {us : BitVec 16} {s u : State} (h : execAlarmEvaluation us s = .next u) :
    Keeps RingOk s u := by
  unfold execAlarmEvaluation at h
  obtain rfl := Host.Outcome.next.inj h
  exact alarmEvaluation_ring _ _

theorem execCheckpointCompare_ring {badRail : Bool} {s u : State} (h : execCheckpointCompare badRail s = .next u) :
    Keeps RingOk s u := by
  unfold execCheckpointCompare at h
  obtain rfl := Host.Outcome.next.inj h
  exact compareEntries_ring _ _

theorem execTestPulseEnd_ring {ch : Fin 96} {p : PulseSeen} {s u : State} (h : execTestPulseEnd ch p s = .next u) :
    Keeps RingOk s u := by
  unfold execTestPulseEnd at h
  obtain rfl := Host.Outcome.next.inj h
  exact testPulseEnd_ring _ _ _

theorem execTimeh_ring {l : Lane} {d : BitVec 6} {a : BitVec 6} {s u : State} (h : execTimeh l d a s = .next u) :
    Keeps RingOk s u := by
  unfold execTimeh at h
  obtain rfl := Host.Outcome.next.inj h
  exact sysOp_ring (fun _ => (result_changes _ _ _ _).ring rfl)

theorem execEvrNewest_ring {p : Path} {s u : State} (h : execEvrNewest p s = .next u) :
    Keeps RingOk s u := by
  unfold execEvrNewest at h
  obtain rfl := Host.Outcome.next.inj h
  exact regCommand_ring (fun _ _ _ => (evrWrite_ring _ _ _ _))

theorem execFle_ring {o : Blk} {s u : State} (h : execFle o s = .next u) :
    Keeps RingOk s u := by
  unfold execFle at h
  obtain rfl := Host.Outcome.next.inj h
  exact regReg_ring _ _ _ _

theorem execPanelFrameStart_ring {s u : State} (h : execPanelFrameStart s = .next u) :
    Keeps RingOk s u := by
  unfold execPanelFrameStart at h
  obtain rfl := Host.Outcome.next.inj h
  exact panelFrame_ring _

theorem execLoopTick_ring {mism : List (Fin 128)} {dlv : List (Fin 128)} {s u : State} (h : execLoopTick mism dlv s = .next u) :
    Keeps RingOk s u := by
  unfold execLoopTick at h
  obtain rfl := Host.Outcome.next.inj h
  exact loopTick_ring _ _ _

theorem execTof_ring {l : Lane} {d : BitVec 6} {a : BitVec 6} {s u : State} (h : execTof l d a s = .next u) :
    Keeps RingOk s u := by
  unfold execTof at h
  obtain rfl := Host.Outcome.next.inj h
  exact timerBlock_ring _ _ _ _ _ _

theorem execOut_ring {o : Blk} {s u : State} (h : execOut o s = .next u) :
    Keeps RingOk s u := by
  unfold execOut at h
  obtain rfl := Host.Outcome.next.inj h
  exact outOp_ring _ _

theorem execFlt_ring {o : Blk} {s u : State} (h : execFlt o s = .next u) :
    Keeps RingOk s u := by
  unfold execFlt at h
  obtain rfl := Host.Outcome.next.inj h
  exact regReg_ring _ _ _ _

theorem execCeilingUnattainable_ring {s u : State} (h : execCeilingUnattainable s = .next u) :
    Keeps RingOk s u := by
  unfold execCeilingUnattainable at h
  obtain rfl := Host.Outcome.next.inj h
  exact .ite (fun _ => raiseUnattain_ring _) (fun _ => .refl)

theorem execRestartClassS_ring {r : Req} {s u : State} (h : execRestartClassS r s = .next u) :
    Keeps RingOk s u := by
  unfold execRestartClassS at h
  obtain rfl := Host.Outcome.next.inj h
  exact screenReq_ring (fun _ => .app (enterReset_ring _ _ _) ((reply_changes _ _ _ _).ring rfl))

theorem execSltu_ring {o : Blk} {s u : State} (h : execSltu o s = .next u) :
    Keeps RingOk s u := by
  unfold execSltu at h
  obtain rfl := Host.Outcome.next.inj h
  exact regReg_ring _ _ _ _

theorem execShri_ring {o : Blk} {s u : State} (h : execShri o s = .next u) :
    Keeps RingOk s u := by
  unfold execShri at h
  obtain rfl := Host.Outcome.next.inj h
  exact shiftImm_ring _ _ _ _

theorem execEvrCursorWrite_ring {p : Path} {q : Word} {s u : State} (h : execEvrCursorWrite p q s = .next u) :
    Keeps RingOk s u := by
  unfold execEvrCursorWrite at h
  obtain rfl := Host.Outcome.next.inj h
  exact regCommand_ring (fun _ _ _ => (evrWrite_ring _ _ _ _))

theorem execIn_ring {o : Blk} {s u : State} (h : execIn o s = .next u) :
    Keeps RingOk s u := by
  unfold execIn at h
  obtain rfl := Host.Outcome.next.inj h
  exact inOp_ring _ _

theorem execFloodWindowEnd_ring {s u : State} (h : execFloodWindowEnd s = .next u) :
    Keeps RingOk s u := by
  unfold execFloodWindowEnd at h
  obtain rfl := Host.Outcome.next.inj h
  exact floodSummaries_ring _

theorem execCellstat_ring {l : Lane} {d : BitVec 6} {a : BitVec 6} {s u : State} (h : execCellstat l d a s = .next u) :
    Keeps RingOk s u := by
  unfold execCellstat at h
  obtain rfl := Host.Outcome.next.inj h
  exact sysOp_ring (fun _ => (cellstatOp_changes _ _ _).ring rfl)

theorem execInterlockStuck_ring {s u : State} (h : execInterlockStuck s = .next u) :
    Keeps RingOk s u := by
  unfold execInterlockStuck at h
  obtain rfl := Host.Outcome.next.inj h
  exact .ite (fun _ => .app (applyOutputs_ring _) (.app ((dropQen_changes _).ring rfl) (.app (post_ring _ _ _ _) ((onPst_changes _ _).ring rfl)))) (fun _ => .refl)

theorem execCallStage1_ring {g : Fin 8} {s u : State} (h : execCallStage1 g s = .next u) :
    Keeps RingOk s u := by
  unfold execCallStage1 at h
  obtain rfl := Host.Outcome.next.inj h
  exact atInstant_ring (fun _ => .ite (fun _ => callStage_ring _ _ _) (fun _ => .refl))

theorem execEdmTimeout_ring {p : Fin 24} {s u : State} (h : execEdmTimeout p s = .next u) :
    Keeps RingOk s u := by
  unfold execEdmTimeout at h
  obtain rfl := Host.Outcome.next.inj h
  exact edmTimeout_ring _ _

end Sys2Proof.Machine
end

