-- ==== Sys2Proof/WellFormed.lean ====
section
/-! DEFINITION. Which terms of `Instr` are commands that can reach the module: the lengths and ranges that a message's layout or
a measuring unit fixes. A term that is refused here spells no command of the spec; what the module answers to a command with
a value out of range is the command's own meaning. -/

namespace Sys2Proof

/-- A 32-bit two's complement number. -/
def int32 (x : Int) : Bool := decide (-2147483648 ≤ x) && decide (x < 2147483648)

/-- The injection test of R105: 64 signature bits with an equal and a differing pair each, 64 queue entries; at most 3 ms. -/
def SelfTest.wf (t : SelfTest) : Bool := decide (t.dur ≤ 150)

/-- A payload frame whose LEN fits its field and whose CORR fits its field (R307, R311). -/
def RingFrame.wf (f : RingFrame) : Bool := decide (f.data.length < 65536) && decide (f.corrNs < 4294967296)

/-- A delta whose addresses lie in data memory, the output image and the loop slots (R61, R114, R287). -/
def CarafeFrame.wf (f : CarafeFrame) : Bool :=
  f.data.all (fun w => decide (w.1 < 0x20000)) && f.outw.all (fun w => decide (w.1 < 0x2480)) &&
  f.loops.all (fun l => decide (l.1 < 128))

/-- A Carafe frame whose content is well-formed (R287). -/
def carafeWf (f : SlRx CarafeRx) : Bool := f.body.frame.wf

/-- A station exchange frame that fits the exchange and names data memory (R298). -/
def ExportRx.wf (x : ExportRx) : Bool := decide (x.words.length ≤ 2048) && x.words.all (fun w => decide (w.1 < 0x20000))

/-- A force whose target names an index that its field holds (R81). -/
def ForceTarget.wf : ForceTarget → Bool
  | .tag n => decide (n < 4294967296)
  | .inp o => decide (o < 4294967296)
  | .outp o => decide (o < 4294967296)

/-- A start whose gauge readings fit the gauge and that has both network ports (R27, R324, R436). -/
def StartEnv.wf (e : StartEnv) : Bool :=
  decide (e.gaugeA < 1024) && decide (e.gaugeB < 1024) && decide (e.pnSpeeds.length = 2) && e.cmpTest.wf

/-- Whether a term is a command that can reach the module. -/
def Instr.wf (i : Instr) : Bool :=
  match i with
  | .enterCommissioning _ => true
  | .leaveCommissioning _ => true
  | .hold _ => true
  | .resume _ => true
  | .warmRestart _ => true
  | .restartClassS _ => true
  | .leaveDecaf _ => true
  | .restartOtherImageHalf _ => true
  | .splitLanes _ => true
  | .rejoinLanes _ t => t.wf
  | .enterMaintenance _ _ => true
  | .leaveMaintenance _ _ => true
  | .openTrim _ _ _ => true
  | .setPendingTrim _ ua => int32 ua
  | .storeTrim _ => true
  | .closeTrim _ => true
  | .writeTrim _ _ _ ua => int32 ua
  | .brakeTest _ _ => true
  | .clearRetainVariables _ => true
  | .readChangedConstants _ => true
  | .cycleT0 => true
  | .executeWindowOpen => true
  | .inputDeadline => true
  | .nop _ _ => true
  | .end_ _ => true
  | .br _ => true
  | .bz _ => true
  | .bnz _ => true
  | .jmp _ => true
  | .call _ => true
  | .add _ => true
  | .sub _ => true
  | .mul _ => true
  | .mulh _ => true
  | .div _ => true
  | .rem _ => true
  | .and_ _ => true
  | .or_ _ => true
  | .xor_ _ => true
  | .shl _ => true
  | .shr _ => true
  | .sar _ => true
  | .slt _ => true
  | .sltu _ => true
  | .seq _ => true
  | .min _ => true
  | .addi _ => true
  | .andi _ => true
  | .ori _ => true
  | .xori _ => true
  | .shli _ => true
  | .shri _ => true
  | .sari _ => true
  | .slti _ => true
  | .seqi _ => true
  | .lui _ => true
  | .orim _ => true
  | .fadd _ => true
  | .fsub _ => true
  | .fmul _ => true
  | .fdiv _ => true
  | .fsqrt _ => true
  | .fmin _ => true
  | .fmax _ => true
  | .fabs _ => true
  | .fneg _ => true
  | .flt _ => true
  | .fle _ => true
  | .feq _ => true
  | .itof _ => true
  | .ftoi _ => true
  | .fma _ => true
  | .ld _ => true
  | .st _ => true
  | .ldx _ => true
  | .stx _ => true
  | .in_ _ => true
  | .out _ => true
  | .cellin _ => true
  | .cellout _ => true
  | .ton _ _ _ => true
  | .tof _ _ _ => true
  | .tp _ _ _ => true
  | .ctu _ _ _ => true
  | .ctd _ _ _ => true
  | .ctud _ _ _ => true
  | .rTrig _ _ _ => true
  | .fTrig _ _ _ => true
  | .cv _ _ _ => true
  | .timel _ _ _ => true
  | .timeh _ _ _ => true
  | .objrd _ _ _ => true
  | .objwr _ _ _ => true
  | .evpost _ _ _ => true
  | .cellstat _ _ _ => true
  | .cellmode _ _ _ => true
  | .checkpointCompare _ => true
  | .checkpointAppendResume _ => true
  | .compareStalled => true
  | .laneStalled _ => true
  | .compareComplete => true
  | .commitSend => true
  | .outputRelease => true
  | .lateCompareComplete => true
  | .dataDigestComplete => true
  | .speedGaugeUpdate _ _ => true
  | .gaugeDisagreement => true
  | .speedFloorLost => true
  | .timeReferenceCheck _ _ => true
  | .governorEvaluation _ => true
  | .ceilingUnattainable => true
  | .brownoutCeilingHoldEnd => true
  | .operatorCeilingWrite _ _ => true
  | .barrierOverload _ => true
  | .barrierLimit _ => true
  | .loopTick _ _ => true
  | .loopOutputHandoff _ => true
  | .operatorModeRequest _ _ _ => true
  | .operatorSetpointWrite _ _ _ => true
  | .manualValueWrite _ _ _ => true
  | .traceArm _ _ => true
  | .traceForce _ _ => true
  | .traceStop _ _ => true
  | .traceConfigWrite _ _ _ _ => true
  | .takeoverRampEnd _ => true
  | .safetyInputFilterTick _ _ => true
  | .debounceAccept _ _ => true
  | .sensorSupplyTrip _ => true
  | .sensorSupplyRetry _ _ => true
  | .outputOverloadTrip _ => true
  | .outputOverloadRetry _ _ => true
  | .openLoadDetect _ _ => true
  | .shortToSupplyDetect _ _ => true
  | .parallelImbalance _ _ => true
  | .pwmPeriodStart _ _ => true
  | .testPulseStart _ => true
  | .testPulseEnd _ _ => true
  | .conversionComplete _ _ => true
  | .thermocoupleBreakTest _ _ => true
  | .frequencyGate _ _ ticks40ns => decide (ticks40ns ≠ 0)
  | .frequencyTimeout _ => true
  | .pulseEdge _ => true
  | .partnerOutputMismatch _ _ => true
  | .sharedInputTakeoverCheck _ _ _ => true
  | .groupSupplyLevelChange _ _ _ _ => true
  | .sagLatchTimer _ => true
  | .readbackDiagnosticsResume _ => true
  | .couplerFrame _ _ _ _ => true
  | .groupLinkLost _ => true
  | .quillStreamLost _ => true
  | .groupLinkRestore _ => true
  | .readbackConversion _ _ => true
  | .trimUpPress _ => true
  | .trimDnPress _ => true
  | .trimRepeat _ _ => true
  | .trimSetPress => true
  | .trimInputStuck _ => true
  | .trimSessionTimeout => true
  | .quillEvaluation => true
  | .discrepancyTimeout _ => true
  | .safetyOffDelayEnd _ => true
  | .twoHandSyncMiss _ => true
  | .testPulseCheck _ _ => true
  | .resetDemand _ _ => true
  | .resetInputHeldLong _ => true
  | .switchOffTest _ _ _ => true
  | .edmTimeout _ => true
  | .brakeFeedbackTimeout _ => true
  | .brakeTestEdge _ => true
  | .brakeTorqueTimeout _ => true
  | .brakeTestEnd _ => true
  | .brkageTick => true
  | .acknowledgePoint _ _ => true
  | .acknowledgeGroup _ _ => true
  | .acknowledgeAll _ => true
  | .shelve _ _ _ => true
  | .unshelve _ _ => true
  | .silence _ => true
  | .acceptCall _ _ _ => true
  | .assignDuty _ _ _ _ => true
  | .deadManOn _ _ => true
  | .deadManReset _ => true
  | .deadManOff _ => true
  | .alarmEvaluation _ => true
  | .pointOnDelayEnd _ => true
  | .pointOffDelayEnd _ => true
  | .blockReleaseDelayEnd _ => true
  | .shelfTimeEnd _ => true
  | .callStage1 _ => true
  | .callStage2 _ => true
  | .deadManIntervalEnd => true
  | .deadManPrewarningEnd => true
  | .alcSend => true
  | .hbtSend => true
  | .acnAcknowledge _ => true
  | .acnSilence _ => true
  | .acnRequestRepeat _ => true
  | .acnIgnored => true
  | .interlockPeerNetChange _ _ => true
  | .interlockStuck => true
  | .interlockStuckEnd => true
  | .roleWaitEnd => true
  | .releaseReceived _ => true
  | .unannouncedTakeover => true
  | .roleTransfer => true
  | .fieldRingSilence => true
  | .takeBack => true
  | .swap _ => true
  | .resync _ => true
  | .inhibitTakeBack _ => true
  | .allowTakeBack _ => true
  | .roleSwapDue => true
  | .scrubStep _ => true
  | .bistTestSequence _ => true
  | .bistInjectionTest t => t.wf
  | .carafeFrameReceived f => carafeWf f
  | .deltaApply => true
  | .deltaLost => true
  | .carafeAckReceived _ => true
  | .joinCopyComplete => true
  | .twinStepDigest _ => true
  | .forwardedCommand _ t => t.wf
  | .partnerConfirmTimeout => true
  | .helloSend => true
  | .helloReceived _ _ => true
  | .stationLinkDown _ => true
  | .stationLinkUp _ _ => true
  | .speakerElection => true
  | .timeMarkSend => true
  | .timeMarkReceived _ _ _ => true
  | .stationExportReceived _ ws _ => ws.wf
  | .slkInjectorWrite _ _ _ => true
  | .frgInjectorWrite _ _ _ => true
  | .testpInputChange _ => true
  | .syncReceived _ f => f.wf
  | .remoteInputReceived _ f => f.wf
  | .remoteJoinReceived _ f => f.wf
  | .linkDelayMeasure _ => true
  | .linkReqReceived _ f => f.wf
  | .linkRspReceived _ f _ => f.wf
  | .hsrSupervisionSend => true
  | .ringPathLost _ => true
  | .ringPortDown _ => true
  | .prpSupervisionSend => true
  | .plantPathLost _ _ => true
  | .plantPathRestored => true
  | .identify _ => true
  | .open_ _ _ _ clientNonce => decide (clientNonce.length = 16)
  | .auth _ _ proof => decide (proof.length = 32)
  | .close _ => true
  | .read _ _ _ => true
  | .write _ _ ws => decide (ws.length ≤ 354)
  | .readvar _ _ _ => true
  | .eventsFromSeq _ _ _ => true
  | .eventsFromOldest _ _ => true
  | .eventsFromCursor _ _ => true
  | .eventsNewest _ _ => true
  | .change _ batch => decide (batch.length ≤ 158)
  | .forceSet _ t _ => t.wf
  | .forceRelease _ t => t.wf
  | .forceReleaseInCell _ _ => true
  | .subscribe _ _ => true
  | .callNotificationSend _ => true
  | .notificationAcknowledgement _ => true
  | .callNotificationRetry _ => true
  | .sessionTimeout _ => true
  | .authenticationBlockEnd _ => true
  | .modbusReadHolding _ _ _ => true
  | .modbusReadInput _ _ _ => true
  | .modbusWriteSingle _ _ _ => true
  | .modbusWriteMultiple _ _ _ byteCount vals => (decide (byteCount < 256) && decide (vals.length ≤ 127))
  | .modbusOtherFunction _ _ => true
  | .modbusConnectionTimeout _ => true
  | .ntpPoll => true
  | .ntpResponse _ _ => true
  | .utcStepped => true
  | .rtcSet => true
  | .addressConflict => true
  | .flushAgeTimeout => true
  | .flushComplete => true
  | .floodWindowEnd => true
  | .recordsLostPointEnd => true
  | .evrCursorWrite _ _ => true
  | .evrNext _ => true
  | .evrPrev _ => true
  | .evrOldest _ => true
  | .evrNewest _ => true
  | .cvuStart _ _ => true
  | .cvuClear _ _ => true
  | .cvuValueWrite _ _ _ => true
  | .cvuDataFeed _ _ _ ws => decide (ws.length ≤ 354)
  | .cvuByteFeed _ _ _ => true
  | .cvuExpectWrite _ _ _ => true
  | .cvuConfigWrite _ _ _ => true
  | .cvuClaimWrite _ _ => true
  | .chopPowerOn _ _ _ => true
  | .chopSupplyFall => true
  | .meterPulseEdge _ _ _ => true
  | .chopStep env => decide (env.length = 4)
  | .gradeChange _ _ => true
  | .gradeUnknown _ => true
  | .chopExportSend => true
  | .chopExportReceived _ => true
  | .chopExportStale => true
  | .verifierSwitchOpen => true
  | .verifierSwitchClose => true
  | .verifierOpen m => decide (m.data.length = 16)
  | .verifierAuth m => decide (m.data.length = 32)
  | .readParameters _ => true
  | .stage _ _ _ value => decide (value.length ≤ 1416)
  | .discard _ => true
  | .readTrail _ _ _ => true
  | .chopRectangleRenew => true
  | .panelFrameStart => true
  | .rectangleUpdateEnd _ => true
  | .railsIdleOff => true
  | .railFault => true
  | .railRetry => true
  | .panelTemperatureMeasure _ => true
  | .redraw _ => true
  | .dspClear _ => true
  | .reinit _ _ => true
  | .dspPageWrite _ _ => true
  | .dspFlWrite _ _ => true
  | .panelStartSequence _ => true
  | .vinWarning _ => true
  | .brownoutEpisodeEnd _ _ => true
  | .supplyUnstableEnd => true
  | .vinResetThreshold _ => true
  | .internalSuppliesStop => true
  | .vinRestart => true
  | .vinHigh _ _ => true
  | .vbakLow _ => true
  | .retentionDomainLost => true
  | .resetPinAssert => true
  | .resetPinRelease => true
  | .resetInputStuck => true
  | .junctionOvertemperature _ => true
  | .startSequence env => env.wf
  | .warmStartSequence env => env.wf
  | .runNotReached => true
  | .failCountClear => true
  | .commitRestart => true
  | .surveyMeasurement _ _ => true
  | .surveyFastSample _ _ => true
  | .imageWriteBegin _ _ => true
  | .imageWriteData _ _ _ bytes _ => decide (bytes.length ≤ 1416)
  | .imageWriteCommit _ _ => true
  | .imageWriteAbort _ _ => true
  | .senderRepeat => true
  | .partnerConfirmation => true
  | .modbusConnectionOpen _ => true

end Sys2Proof
end

