-- ==== Sys2Proof/Tests/Slice0.lean ====
section
/-! SUPPORT. Small tests: the well-formedness checks refuse, the hypotheses of the statements can be met, and a few results
the spec itself works out. -/

namespace Sys2Proof.Tests

open Sys2Proof Sys2Proof.Machine

set_option maxRecDepth 20000

/-- The module after reset with the Inkwell posting again, as step 1 of a start leaves it. -/
def posting : State := { State.reset with evr := { State.reset.evr with running := true } }

/-- Whether an outcome is a next state. -/
def isNext (o : Outcome) : Bool :=
  match o with
  | .next _ => true
  | _ => false

/-- The next state of an outcome, `s` where there is none. -/
def nextOf (s : State) (o : Outcome) : State :=
  match o with
  | .next t => t
  | _ => s

/-- What `P` says of the state a command leaves. -/
def gives (c : Instr) (s : State) (P : State → Bool) : Bool :=
  match exec c s with
  | .next t => P t
  | _ => false


/-! ### Requests of a session whose key is empty -/

/-- An open session at a level. -/
def sess (lvl : BitVec 2) : Session := { id := 5, opened := true, level := lvl }
/-- A message of that session, without its TAG. -/
def msg (lvl : BitVec 2) : Req := { sess := 5, seq := 1, level := lvl.setWidth 8 }
/-- A request of that session. -/
def rq (lvl : BitVec 2) : Req := tagged [] (msg lvl)
/-- What the messages sent say: their SEQ and body. -/
def said (t : State) : List (Word × List Byte) :=
  t.sent.filterMap (fun e => match e with | .lan _ (.message m) => some (m.seq, m.body) | _ => none)
/-- What `admits` asks of a message, but for its TAG where the session's key is empty. -/
def reaches (m : Req) (lvl : BitVec 2) (s : State) : Bool :=
  match findSession s m.sess with
  | none => false
  | some x => (!m.rx.fcsBad && m.ver == 1 && m.typ == 0 && !unlisted m && !malformed m &&
      (x.key.isEmpty || tagRight x.key (tagged [] m)) && m.sess != 0) && !duplicateFrame m.rx s && decide (x.seq < m.seq) &&
      decide ((countRequest (nowUs s) x).reqCnt ≤ 200) && !elsewhere m s && x.level.toNat == m.level.toNat && decide (lvl ≤ x.level)

/-- A TAG computed is right. -/
theorem help_right (k : List Byte) (m : Req) : tagRight k (tagged k m) = true := by
  simp [tagRight, tagged, tagOf, messageBytes]

/-- So the request with its TAG is admitted exactly where its message reaches the module. -/
theorem help_admits (m : Req) (lvl : BitVec 2) (s : State) : admits (tagged [] m) lvl s = reaches m lvl s := by
  unfold admits reaches
  have e : findSession s (tagged [] m).sess = findSession s m.sess := rfl
  rw [e]
  cases findSession s m.sess with
  | none => rfl
  | some x =>
    rcases hk : x.key with _ | ⟨a, l⟩ <;> simp only [hk, rightMessage, help_right, List.isEmpty_nil, Bool.true_or] <;> rfl

/-- That request. -/
theorem help_rq (l : BitVec 2) {lvl : BitVec 2} {s : State} (h : reaches (msg l) lvl s = true) : admits (rq l) lvl s = true :=
  (help_admits _ _ _).trans h

theorem help_not (l : BitVec 2) {lvl : BitVec 2} {s : State} (h : reaches (msg l) lvl s = false) : admits (rq l) lvl s = false :=
  (help_admits _ _ _).trans h

/-- And what its command does is done to the admitted state. -/
theorem help_run (m : Req) {c : Instr} {s : State} {P : State → Bool} {lvl : BitVec 2} {d : Bool} {k : State → State}
    (hc : exec c s = .next (screenReq (tagged [] m) lvl d k s)) (h : reaches m lvl s = true) (hd : s.sup.mode ≠ .decaf ∨ d = true)
    (hp : P (k (admitted (tagged [] m) s)) = true) : gives c s P = true := by
  unfold gives
  rw [hc]
  dsimp only
  rw [screenReq_ok ((help_admits _ _ _).trans h) hd]
  exact hp

/-! ### The well-formedness checks refuse -/

/-- A request of session 1. -/
def wfReq : Req := { sess := 1, seq := 1 }
/-- A payload frame with `n` bytes and a residence time. -/
def wfFrame (n corr : Nat) : RingFrame :=
  { kind := 1, ver := 1, ring := 0, src := 0, dst := 0, seqLo := 0, flags := 0, data := List.replicate n 0, check := 0, corrNs := corr }
/-- A delta with one data word, as it arrives. -/
def wfDelta (data out loop : Nat) : SlRx CarafeRx :=
  { hdr := default, body := { after := [], crc := 0, frame :=
      { join := false, final := true, cycle := 1, data := [(data, 0)], outw := [(out, 0)], loops := [(loop, default)], bases := [],
        joinRec := none, carry := [] } } }
/-- An injection test that finds nothing amiss and took `d` units. -/
def wfTest (d : Byte) : SelfTest := { dead := 0, unequal := 0, dur := d }
/-- A start that reads the gauges and finds `p` network ports. -/
def wfStart (a b p : Nat) (t : SelfTest) : StartEnv :=
  { strap := 0, flashAnswers := true, flashReadOk := true, flashMbit := 64, flashJedec := 0, gaugeA := a, gaugeB := b, tjDeciC := 600,
    cmpTest := t, loopMisses := 0, partnerOccupied := false, peerLow := false, markNs := none, gaugeRecordOk := true, trimsBad := [],
    groupLevels := [], onInputs := [], firstMeas := [], storeOk := true, pnSpeeds := List.replicate p none }

/-- A trim current is a 32-bit number. -/
theorem test_wf_trim : Instr.wf (.setPendingTrim wfReq 2147483647) = true ∧ Instr.wf (.setPendingTrim wfReq 2147483648) = false ∧
    Instr.wf (.writeTrim wfReq 0 .zero (-2147483649)) = false := by decide
/-- The injection test has 3 ms. -/
theorem test_wf_selftest : Instr.wf (.rejoinLanes wfReq (wfTest 150)) = true ∧ Instr.wf (.rejoinLanes wfReq (wfTest 151)) = false ∧
    Instr.wf (.bistInjectionTest (wfTest 151)) = false := by decide
/-- A gate has a length. -/
theorem test_wf_gate : Instr.wf (.frequencyGate 0 1 1) = true ∧ Instr.wf (.frequencyGate 0 1 0) = false := by decide
/-- A delta names words of the areas it carries. -/
theorem test_wf_delta : Instr.wf (.carafeFrameReceived (wfDelta 0x1FFFF 0x247F 127)) = true ∧
    Instr.wf (.carafeFrameReceived (wfDelta 0x20000 0 0)) = false ∧ Instr.wf (.carafeFrameReceived (wfDelta 0 0x2480 0)) = false ∧
    Instr.wf (.carafeFrameReceived (wfDelta 0 0 128)) = false := by decide
/-- Exports name data words. -/
theorem test_wf_export : Instr.wf (.stationExportReceived 0 ⟨0, default, [(0x1FFFF, 0)]⟩ true) = true ∧
    Instr.wf (.stationExportReceived 0 ⟨0, default, [(0x20000, 0)]⟩ true) = false := by decide
/-- CORR is a 32-bit field. -/
theorem test_wf_frame : Instr.wf (.syncReceived 0 (wfFrame 8 0xFFFFFFFF)) = true ∧ Instr.wf (.syncReceived 0 (wfFrame 8 4294967296)) = false ∧
    Instr.wf (.remoteInputReceived 0 (wfFrame 8 4294967296)) = false ∧ Instr.wf (.remoteJoinReceived 0 (wfFrame 8 4294967296)) = false ∧
    Instr.wf (.linkReqReceived 0 (wfFrame 8 4294967296)) = false ∧ Instr.wf (.linkRspReceived 0 (wfFrame 8 4294967296) 0) = false := by
  decide
/-- Nonces have 16 bytes, proofs 32. -/
theorem test_wf_auth : Instr.wf (.open_ ⟨1, wfReq, false⟩ false 0 (List.replicate 16 0)) = true ∧
    Instr.wf (.open_ ⟨1, wfReq, false⟩ false 0 (List.replicate 15 0)) = false ∧ Instr.wf (.auth ⟨1, wfReq, false⟩ 1 (List.replicate 31 0)) = false ∧
    Instr.wf (.verifierOpen ⟨wfReq, []⟩) = false ∧ Instr.wf (.verifierAuth ⟨wfReq, [0]⟩) = false := by decide
/-- A request fits its datagram. -/
theorem test_wf_length : Instr.wf (.write wfReq 0 (List.replicate 354 0)) = true ∧ Instr.wf (.write wfReq 0 (List.replicate 355 0)) = false ∧
    Instr.wf (.cvuDataFeed (.sess wfReq) 6 0 (List.replicate 355 0)) = false ∧
    Instr.wf (.change wfReq (List.replicate 159 { tag := 0, value := 0, const := false })) = false := by decide
/-- A force names an index that its field holds. -/
theorem test_wf_force : Instr.wf (.forceSet wfReq (.tag 4294967295) 0) = true ∧ Instr.wf (.forceSet wfReq (.tag 4294967296) 0) = false ∧
    Instr.wf (.forceRelease wfReq (.outp 4294967296)) = false := by decide
/-- A Modbus byte count is one byte. -/
theorem test_wf_modbus : Instr.wf (.modbusWriteMultiple ⟨0, 0, 0⟩ 0 1 2 [7]) = true ∧ Instr.wf (.modbusWriteMultiple ⟨0, 0, 0⟩ 0 1 256 [7]) = false := by decide
/-- The Chop has four ports. -/
theorem test_wf_chop : Instr.wf (.chopStep []) = false ∧
    Instr.wf (.chopStep (List.replicate 4 { tempCentiC := none, microAmp := 0, over10k := false, under9k5 := false })) = true := by decide
/-- A start reads both gauges within their 10 bits and has two network ports. -/
theorem test_wf_start : Instr.wf (.startSequence (wfStart 1023 1023 2 (wfTest 100))) = true ∧
    Instr.wf (.startSequence (wfStart 1024 0 2 (wfTest 100))) = false ∧ Instr.wf (.startSequence (wfStart 0 1024 2 (wfTest 100))) = false ∧
    Instr.wf (.startSequence (wfStart 0 0 1 (wfTest 100))) = false ∧ Instr.wf (.warmStartSequence (wfStart 0 0 2 (wfTest 151))) = false := by
  decide
set_option maxRecDepth 100000 in
/-- Staged values and image data fit a request. -/
theorem test_wf_blocks : Instr.wf (.stage wfReq 0 0 (List.replicate 1417 0)) = false ∧
    Instr.wf (.imageWriteData wfReq 0 0 (List.replicate 1417 0) false) = false ∧ Instr.wf (.imageWriteData wfReq 0 0 [1] false) = true := by decide

/-! ### EmptyQueueIsOneTick -/

theorem test_w_tick : State.reset.pending = [] ∧ counting { posting with sup := { State.reset.sup with phase := .up } } = true
    ∧ counting { posting with sup := { State.reset.sup with phase := .off } } = false := by decide

/-! ### ChopUnaffected -/

theorem test_w_chop : ownChop .internalSuppliesStop = false ∧ isNext (exec .internalSuppliesStop State.reset) = true := by decide

/-! ### ClosedPairIsEnabled -/

theorem test_w_pairs : isNext (exec .quillEvaluation State.reset) = true ∧ State.reset.saf.pairs = [] := by decide

/-! ### RingNumberedWithoutGap -/

theorem test_w_ring : State.reset.evr.ring = [] ∧ isNext (exec .flushComplete State.reset) = true := by decide

/-! ### TablesKeepTheirForm -/

theorem test_w_tab : twf (0 : Word) [(1, 5), (7, 9)] = true ∧ (3 : Nat) ≠ 7 := by decide

/-! ### RegisterFile -/

theorem test_w_reg : (1 : BitVec 6) ≠ 0 ∧ (63 : BitVec 6) ≠ 1 := by decide

/-! ### IntegerOperations -/

/-- A state in which lane A comes to a word at code word 5, its registers g1 and g2 holding two values. -/
def laneState (w : Word) (v1 v2 : Word) : State :=
  { posting with
    nibA := { st := .running, pc := 5, g := [(1, v1), (2, v2)] }
    sup := { State.reset.sup with mode := .run, phase := .up }
    cyc := { State.reset.cyc with code := [(5, w)] } }

/-- The operands g3, g1 and g2. -/
def o312 : Blk := { l := .a, d := 3, a := 1, b := 2 <<< 6 }

theorem test_w_int : ((span 0x10 0x14 ++ span 0x16 0x20).all (fun op => o312.b.extractLsb' 0 6 == 0 &&
    ready (laneState (blkWord (BitVec.ofNat 8 op) 3 1 (2 <<< 6)) 7 9) .a (blkWord (BitVec.ofNat 8 op) 3 1 (2 <<< 6)))) = true := by decide
theorem test_sub_wraps : gives (.sub o312) (laneState 0x110C1080 0 1) (fun t => greg t.nibA 3 == 0xFFFFFFFF && t.nibA.pc == 6) = true := by decide
theorem test_mulh : gives (.mulh o312) (laneState 0x130C1080 0xFFFFFFFF 2) (fun t => greg t.nibA 3 == 0xFFFFFFFF) = true := by decide

/-! ### Division -/

theorem test_w_div : ([(7#32, 0#32), (0x80000000, 0xFFFFFFFF), (9, 0xFFFFFFFD)].all (fun v =>
    ready (laneState (blkWord 0x14 3 1 (2 <<< 6)) v.1 v.2) .a (blkWord 0x14 3 1 (2 <<< 6)) &&
    ready (laneState (blkWord 0x15 3 1 (2 <<< 6)) v.1 v.2) .a (blkWord 0x15 3 1 (2 <<< 6)))) = true := by decide
theorem test_div_zero : gives (.div o312) (laneState 0x140C1080 7 0) (fun t => greg t.nibA 3 == 0 && t.cyc.evt.getLsbD 1) = true := by decide

/-! ### ImmediateOperations -/

theorem test_w_imm : ((span 0x20 0x2B).all (fun op =>
    ready (laneState (blkWord (BitVec.ofNat 8 op) 3 0 31) 7 9) .a (blkWord (BitVec.ofNat 8 op) 3 0 31) &&
    (31#12).extractLsb' 5 7 == 0 && (0#6 : BitVec 6) == 0)) = true := by decide
theorem test_addi_negative : gives (.addi { l := .a, d := 3, a := 1, b := 0xFFF }) (laneState 0x200C1FFF 0 0)
    (fun t => greg t.nibA 3 == 0xFFFFFFFF) = true := by decide

/-! ### FloatingPoint -/

theorem test_w_float : ((span 0x30 0x3F).all (fun op =>
    ready (laneState (blkWord (BitVec.ofNat 8 op) 3 1 0) 7 9) .a (blkWord (BitVec.ofNat 8 op) 3 1 0)) && fnan 0x7FC00001) = true := by decide
theorem test_fadd : gives (.fadd o312) (laneState 0x300C1080 0x3F800000 0x3F800000) (fun t => greg t.nibA 3 == 0x40000000) = true := by decide
theorem test_fma : gives (.fma { o312 with d := 1, a := 2, b := 2 <<< 6 }) (laneState 0x3E042080 0x3F800000 0x40000000)
    (fun t => greg t.nibA 1 == 0x40A00000) = true := by decide

/-! ### ControlFlow -/

theorem test_w_flow :
    fetches (laneState 0 0 0) .a 0 = true ∧ fetches (laneState 0x02000FFF 0 0) .a (blkWord 0x02 0 0 0xFFF) = true ∧
    fetches (laneState 0x03001001 0 0) .a (blkWord 0x03 0 1 1) = true ∧ fetches (laneState 0x03001001 7 0) .a (blkWord 0x03 0 1 1) = true ∧
    fetches (laneState 0x04001001 0 0) .a (blkWord 0x04 0 1 1) = true ∧ fetches (laneState 0x05001FFF 0x3F000 0) .a (blkWord 0x05 0 1 0xFFF) = true ∧
    fetches (laneState 0x06FC1000 0x3FFFF 0) .a (blkWord 0x06 63 1 0) = true ∧
    (BitVec.ofNat 32 6 + (0xFFF#12).signExtend 32).toNat < 0x40000 ∧ (0x3F000#32 + (0xFFF#12).setWidth 32).toNat < 0x40000 := by decide
theorem test_br_back : gives (.br { l := .a, d := 0, a := 0, b := 0xFFF }) (laneState 0x02000FFF 0 0) (fun t => t.nibA.pc == 5) = true := by decide
theorem test_call_link : gives (.call { l := .a, d := 1, a := 1, b := 2 }) (laneState 0x06041002 9 0)
    (fun t => t.nibA.pc == 11 && greg t.nibA 1 == 6) = true := by decide

/-! ### LoadStore -/

theorem test_w_ldst : ready (laneState 0x400C1FFF 0x1F000 0) .a (blkWord 0x40 3 1 0xFFF) = true ∧ (0x1F000#32 + (0xFFF#12).setWidth 32).toNat = 0x1FFFF ∧
    ready (laneState 0x410C1FFF 0x1F000 0) .a (blkWord 0x41 3 1 0xFFF) = true ∧
    ready (laneState 0x420C1080 0 0x1FFFF) .a (blkWord 0x42 3 1 0x80) = true ∧ (0x080#12).extractLsb' 0 6 = 0 ∧
    ready (laneState 0x430C1080 0 0x1FFFF) .a (blkWord 0x43 3 1 0x80) = true ∧ State.reset.img.constHi ≤ 0x1FFFF ∧
    (forced { laneState 0 0 0 with cyc := { (laneState 0 0 0).cyc with forces := [(.tag 5, 1)] } } (.tag 5)).isSome = true := by decide
theorem test_store : gives (.st { l := .a, d := 2, a := 1, b := 4 }) (laneState 0x41081004 0x100 0xCAFE) (fun t => dataAt t.nibA 0x104 == 0xCAFE) = true := by decide

/-! ### ImageAccess -/

theorem test_w_image : ready (laneState 0x500C12FF 0x2000 0) .a (blkWord 0x50 3 1 0x2FF) = true ∧ (0x2000#32 + (0x2FF#12).setWidth 32).toNat = 0x22FF ∧
    ready (laneState 0x510C147F 0x2000 0) .a (blkWord 0x51 3 1 0x47F) = true ∧ (0x2000#32 + (0x47F#12).setWidth 32).toNat = 0x247F ∧
    otherPartition (laneState 0 0 0) .a 0x247F = false ∧
    otherPartition { laneState 0 0 0 with cmp := { mode := .split }, img := { Image.blank with outPartB := [7] } } .a 7 = true := by decide

/-! ### CellsAndEnd -/

/-- As `laneState`, in Checked mode with cells 0 and 1, `open_` open. -/
def cellState (w : Word) (open_ : List Nat) : State :=
  { laneState w 0 0 with img := { Image.blank with cells := [{}, { parent := 0 }] }, nibA := { (laneState w 0 0).nibA with opened := open_ } }
theorem test_w_cells : ready (cellState 0x70000001 []) .a (blkWord 0x70 0 0 1) = true ∧ (cellCfg (cellState 0 []) 1).parent = 0 ∧
    ready (cellState 0x71000001 [1]) .a (blkWord 0x71 0 0 1) = true ∧ fetches (cellState 0x01000000 []) .a (blkWord 0x01 0 0 0) = true ∧
    (cellState 0 []).cmp.mode ≠ .split ∧ (laneQueue (cellState 0 []).cmp .a).length = 0 := by decide
/-- A full queue. -/
def fullQueue : Cmp := { queueA := List.replicate 64 {} }
theorem test_w_cells_full : (laneQueue fullQueue .a).length = 64 ∧ fullQueue.mode ≠ .split ∧ ({ mode := .split } : Cmp).mode = .split :=
  ⟨by simp [laneQueue, fullQueue], by decide, by decide⟩
theorem test_cellin : gives (.cellin { l := .a, d := 0, a := 0, b := 1 }) (cellState 0x70000001 [])
    (fun t => t.nibA.opened == [1] && t.cmp.queueA.length == 1) = true := by decide

/-! ### LaneFaults -/

theorem test_w_faults : fetches (laneState 0x08000000 0 0) .a 0x08000000 = true ∧ reservedWord 0x08000000 = true ∧
    fetches (laneState 0x00000001 0 0) .a 1 = true ∧ (1#32).extractLsb' 24 8 = 0 ∧
    fetches (laneState 0x100C1081 0 0) .a (blkWord 0x10 3 1 0x81) = true ∧ fetches (laneState 0x400C1000 0x20000 0) .a (blkWord 0x40 3 1 0) = true ∧
    fetches (laneState 0x410C1000 0x20000 0) .a (blkWord 0x41 3 1 0) = true ∧ fetches (laneState 0x500C1000 0x2300 0) .a (blkWord 0x50 3 1 0) = true ∧
    fetches (laneState 0x510C1000 0x2480 0) .a (blkWord 0x51 3 1 0) = true ∧ fetches (laneState 0x05001000 0x40000 0) .a (blkWord 0x05 0 1 0) = true ∧
    fetches (laneState 0x70000000 0 0) .a (blkWord 0x70 0 0 0) = true ∧ fetches (laneState 0x71000000 0 0) .a (blkWord 0x71 0 0 0) = true ∧
    fetches (cellState 0x01000000 [1]) .a (blkWord 0x01 0 0 0) = true ∧ inService (laneState 0 0 0) = true ∧ faultFailsStart (laneState 0 0 0) = false := by decide
theorem test_w_faults2 : fetches (laneState 0x420C1080 0x20000 0) .a (blkWord 0x42 3 1 0x80) = true ∧
    fetches (laneState 0x430C1080 0x20000 0) .a (blkWord 0x43 3 1 0x80) = true ∧ fetches (laneState 0x06041000 0x40000 0) .a (blkWord 0x06 1 1 0) = true ∧
    fetches (laneState 0x02000800 0 0) .a (blkWord 0x02 0 0 0x800) = true ∧ 0x40000 ≤ (BitVec.ofNat 32 6 + (0x800#12).signExtend 32).toNat := by decide
theorem test_w_const : (let s := { laneState 0x410C1000 5 0 with img := { Image.blank with constLo := 4, constHi := 6 } }
    fetches s .a (blkWord 0x41 3 1 0) && decide (s.img.constLo ≤ 5) && decide (5 < s.img.constHi)) = true := by decide
theorem test_fault_safe : gives (.nop .a 0x08000000) (laneState 0x08000000 0 0) (fun t => t.sup.mode == .safe) = true := by decide

/-! ### TimersAndCounters -/

/-- Lane A at a SYS word, its record at word 0x100. -/
def sysState (w : Word) : State :=
  { laneState w 1 25 with nibA := { (laneState w 1 25).nibA with g := [(1, 1), (2, 25), (4, 0x100)], data := [(0x101, 99)] },
                          cyc := { (laneState w 1 25).cyc with count := 100 } }
theorem test_w_blocks : ((span 1 10).all (fun n => ready (sysState (blkWord 0x60 3 4 (BitVec.ofNat 12 n))) .a (blkWord 0x60 3 4 (BitVec.ofNat 12 n)))) = true ∧
    (span 0x100 0x103).any (isConst (sysState 0)) = false ∧ tget 0 (sysState 0).nibA.data 0x101 ≠ (sysState 0).cyc.count.setWidth 32 := by decide
theorem test_w_blocks_again : (let s := { sysState 0x600C4001 with cyc := { (sysState 0x600C4001).cyc with count := 99 } }
    ready s .a (blkWord 0x60 3 4 1) && tget 0 s.nibA.data 0x101 == s.cyc.count.setWidth 32) = true := by decide
theorem test_ton_rising : gives (.ton .a 3 4) (sysState 0x600C4001) (fun t => dataAt t.nibA 0x100 == 0 && dataAt t.nibA 0x102 == 1) = true := by decide
theorem test_cv : gives (.cv .a 3 4) { sysState 0x600C4009 with nibA := { (sysState 0x600C4009).nibA with data := [(0x100, 7)] } }
    (fun t => greg t.nibA 3 == 7) = true := by decide

/-! ### LaneServices -/

theorem test_w_services : ([0x10, 0x11, 0x30, 0x40, 0x41, 0x20, 0x21].all (fun n =>
    ready (laneState (blkWord 0x60 3 0 (BitVec.ofNat 12 n)) 0xC000 0) .a (blkWord 0x60 3 0 (BitVec.ofNat 12 n)))) = true := by decide
theorem test_w_objrd : (let s := laneState 0x600C0020 0x1000 0
    s.cmp.mode != .split && s.nibA.objCnt == s.cyc.objVals.length &&
    match objRead (.lane .a) 0x1000 (setLane .a (fun y => { y with ops := y.ops + 1, objCnt := y.objCnt + 1 }) s) with
    | some p => p.2.cyc.objVals == s.cyc.objVals && p.2.cmp.mode == s.cmp.mode
    | none => false) = true := by decide
theorem test_w_objwr : (objWrite (.lane .a) noReq 0xA0020 5 (laneState 0 0xA0020 5)).1 = 0 ∧
    (objWrite (.lane .a) noReq 0x1000 5 (laneState 0 0x1000 5)).1 ≠ 0 ∧
    [(0x1000#32, 7#32)][(laneState 0 0 0).nibA.objCnt]? = some (0x1000, 7) ∧ ((0xC000#32).setWidth 16 : BitVec 16).toNat = 0xC000 := by decide

/-! ### AdmissionRules -/

/-- A module in a state, with that session open. -/
def withSess (m : ModState) (lvl : BitVec 2) : State :=
  { posting with sup := { State.reset.sup with mode := m, phase := .up }, pnw := { State.reset.pnw with sessions := [sess lvl] } }
/-- A frame with a redundancy trailer. -/
def copyOf (port lan : Fin 2) : PrpRx := { port := port, node := 7, trailer := some (3, lan) }
theorem test_w_admission : findSession State.reset 5 = none ∧ findSession (withSess .run 2) 5 = some (sess 2) ∧
    tagRight (sess 2).key (rq 2) = true ∧ tagRight (sess 2).key { rq 2 with tag := [] } = false ∧ (sess 2).seq < (rq 2).seq ∧
    (countRequest 0 (sess 2)).reqCnt ≤ 200 ∧ ¬(countRequest 0 { sess 2 with reqCnt := 200 }).reqCnt ≤ 200 ∧
    (sess 0).level < lvEngineer ∧ lvEngineer ≤ (sess 2).level ∧ (sess 2).level.toNat = (rq 2).level.toNat ∧
    unlisted (rq 2) = false ∧ malformed (rq 2) = false ∧ unlisted { rq 2 with service := 0x0099 } = true ∧
    malformed { rq 2 with service := 0x0020, body := [1] } = true ∧
    (tget {} [(3, ({ present := true } : Peer))] 3).present = true ∧ (withSess .decaf 2).sup.mode = .decaf :=
  ⟨by decide, by decide, help_right _ _, by decide, by decide, by decide, by decide, by decide, by decide, by decide, by decide,
    by decide, by decide, by decide, by decide, by decide⟩
theorem test_w_copies : (copyOf 0 0).fcsBad = false ∧ duplicateFrame (copyOf 0 0) (withSess .run 2) = false ∧
    duplicateFrame (copyOf 1 1) (noteFrame (copyOf 0 0) (withSess .run 2)) = true ∧ ({ fcsBad := true } : PrpRx).fcsBad = true := by decide

/-! ### StateCommands -/

theorem test_w_state : admits (rq 2) lvEngineer (withSess .run 2) = true ∧ admits (rq 2) lvEngineer (withSess .commissioning 2) = true ∧
    admits (rq 2) lvEngineer (withSess .hold 2) = true ∧ (withSess .run 2).sup.phase = .up ∧ paired (withSess .run 2) = false ∧
    (withSess .run 2).cmp.mode = .checked ∧ hasCat4 (withSess .run 2) = false ∧ (withSess .run 2).cmp.rejoinBlock = false ∧
    (let s := withSess .run 2; paired { s with pst := { s.pst with member := true, slot := 0, peers := [(1, { present := true })] } }) = true :=
  ⟨help_rq 2 (by decide), help_rq 2 (by decide), help_rq 2 (by decide), by decide⟩
theorem test_hold : gives (.hold (rq 2)) (withSess .run 2) (fun t => t.sup.mode == .hold && said t == [(1, [0, 0])]) = true :=
  help_run (msg 2) rfl (by decide) (.inl (by decide)) (by decide)
theorem test_restart_s : gives (.restartClassS (rq 2)) (withSess .run 2) (fun t => t.sup.phase == .entry .s 0x11 && t.sup.mode == .start) = true :=
  help_run (msg 2) rfl (by decide) (.inl (by decide)) (by decide)

/-! ### ProgramCycle -/

/-- A module in Run between two steps of its cycle. -/
def cyc (p : CycPhase) : State :=
  { posting with sup := { State.reset.sup with mode := .run, phase := .up }, cyc := { State.reset.cyc with phase := p } }
theorem test_w_cycle : (cyc .idle).sup.phase = .up ∧ inService (cyc .idle) = true ∧ (cyc .idle).sup.warmDue = none ∧
    (cyc .idle).cyc.late = false ∧ (cyc .idle).cyc.sched = [] ∧ (cyc .idle).cmp.mode ≠ .rejoining ∧ executes (cyc .idle) = true ∧ inRun (cyc .inputs) = true ∧
    allArrived (cyc .inputs) = true ∧ (cyc .inputs).img.ring.stations = [] ∧ (cyc .compared).sup.holdExit < 2 ∧ (cyc .window).cyc.ovrLast = false ∧
    (let s := cyc .window; compareReady { s with cmp := { s.cmp with endJudged := true } }) = true := by decide
theorem test_w_deadline : (let s := cyc .inputs
    let t := { s with frg := { s.frg with stns := [(3, { st := .granted }), (4, { st := .oneMiss })] } }
    expected t (stn t 3) && !(stn t 3).arrived && expected t (stn t 4) && !(stn t 4).arrived) = true := by decide
theorem test_to_releases : gives .outputRelease { cyc .compared with cyc := { (cyc .compared).cyc with outImg := [(0x480, 5)], forces := [(.outp 0x481, 9)] } }
    (fun t => t.cyc.released == [(0x480, 5), (0x481, 9)]) = true := by decide

/-! ### Comparator -/

/-- An entry with a right check value. -/
def entryOf (kind : Byte) (sigOut sigReg : Word) : Ckpt :=
  let c : Ckpt := { cell := 1, kind := kind, ops := 9, sigOut := sigOut, sigReg := sigReg }
  { c with check := crc16 (ckptBytes c) }
/-- Two entries wait to be judged. -/
def judging (m : LaneMode) (a b : Ckpt) : State := { cyc .window with cmp := { mode := m, queueA := [a], queueB := [b] } }
theorem test_w_compare : (let a := entryOf 0 1 1; let b := entryOf 1 2 3
    crc16 (ckptBytes a) == a.check && crc16 (ckptBytes b) == b.check && crc16 (ckptBytes { a with check := a.check + 1 }) != a.check + 1 &&
    a.kind != b.kind && (entryOf 1 1 1).sigOut != b.sigOut) = true := by decide
theorem test_w_stall : (let s := cyc .window
    let t := { s with nibA := { s.nibA with st := .ended }, nibB := { s.nibB with st := .running } }
    (lane t (other .b)).st == .ended && (lane t .b).st == .running && t.cmp.mode == .checked && !ninth t && s.cyc.phase == .window) = true := by decide
theorem test_w_ninth : (let s := cyc .window
    ninth { s with cmp := { s.cmp with benignAt := [0, 0, 0, 0, 0, 0, 0, 0], divPend := true } }) = true := by decide
theorem test_compare_output : gives (.checkpointCompare false) (judging .checked (entryOf 1 2 3) (entryOf 1 4 3))
    (fun t => t.cmp.faultReason == 2 && t.sup.mode == .safe) = true := by decide

/-! ### GaugesAndReferences -/

theorem test_w_gauge : (let s := { posting with tim := { State.reset.tim with gaugeA := 100, gaugeB := 120, vcore := 1000 } }
    let t := { s with tim := { s.tim with gauged := true }, img := { s.img with floorA := 101 } }
    t.tim.gauged && decide (10 * (120 - 100) > 100) && decide (s.tim.vcore = 1000) && decide (100 < (floors t).1)) = true := by decide
theorem test_w_timeref : decide (94999 < 95000 ∨ 105000 < 94999) = true ∧ decide (100000 < 95000 ∨ 105000 < 100000) = false ∧
    (let s := { cyc .idle with tim := { tbSeesQ := true } }; s.tim.tbSeesQ && inService s && !faultFailsStart s && !s.pst.ownDrive) = true := by decide
theorem test_timeref_twice : gives (.timeReferenceCheck 94999 100) { cyc .idle with tim := { tbSeesQ := true } } (fun t => t.sup.mode == .safe) = true := by decide

/-! ### DrawGovernor -/

/-- A module under the governor. -/
def gov (shed : Nat) (v : BitVec 10) : State :=
  { cyc .idle with tim := { (cyc .idle).tim with shed := shed, vcore := v, gaugeA := 900, gaugeB := 900, underSince := some 0, heldSince := some 0, ticks := 50000000 } }
theorem test_w_governor : (effCeiling (gov 0 900) < 65535) ∧ (gov 0 900).tim.lastTaken = none ∧ (gov 5 900).tim.shed = 5 ∧
    (gov 5 900).img.vminMv < 900 ∧ aboveGuards (gov 5 900) = true ∧ atGuards (gov 5 890) = true ∧ (500 : Nat) ≤ effCeiling (gov 1 900) ∧
    (gov 1 900).tim.underSince = some 0 ∧ 0 + 1000000 ≤ nowUs (gov 1 900) ∧ (gov 1 900).img.vunshedMv ≤ 900 ∧ (gov 1 900).tim.lastRestore = none ∧
    (gov 5 900).tim.heldSince = some 0 ∧ mayLower (gov 5 (BitVec.ofNat 10 (gov 5 0).img.vminMv)) = false ∧
    (gov 0 900).sup.mode ≠ .start ∧ State.reset.sup.mode = .start ∧ admits (rq 2) lvEngineer (withSess .run 2) = true :=
  ⟨by decide, by decide, by decide, by decide, by decide, by decide, by decide, by decide, by decide, by decide, by decide, by decide,
    by decide, by decide, by decide, help_rq 2 (by decide)⟩
theorem test_governor_sheds : gives (.governorEvaluation 65535) (gov 0 900) (fun t => t.tim.shed == 1) = true := by decide

/-! ### LoopEngine -/

/-- A module in Run with one loop slot, in a mode. -/
def loopState (m : BitVec 2) (mism : Bool) : State :=
  { cyc .window with
    img := { Image.blank with loops := [(3, { period := 1, pvch := 0, spSrc := 1 })] }
    lpe := { (cyc .window).lpe with
      transferred := true
      slots := [(3, {
        mode := m
        man := 0x42480000
        begun := true
        lastMode := m
        stMism := mism
        params := [0, 0x42C80000, 0, 0x42C80000, 0, 0x42C80000, 0, 0, 0x40000000, 0x3F800000, 0, 0x41200000]
        words := [0, 0, 0, 0, 0x41200000, 0x42C80000, 0, 0x3F800000] })] } }
theorem test_w_loops : lpeRuns (loopState 1 false) = true ∧ loopDue (loopState 1 false) 3 = true ∧ lpeRuns (cyc .idle) = false ∧
    (let x := lslot (loopState 2 true) 3; (x.progReq, x.opReq, x.progMan) = (none, none, none) ∧ lpar x 6 = 0 ∧ lpar x 7 = 0 ∧ x.mode = 2 ∧ x.lastMode = 2 ∧ x.pend = false ∧
      fnan (x.words.getD 4 0) = false ∧ x.begun = true ∧ x.stPvBad = false ∧ x.stTake = false ∧ x.stMism = true) ∧
    inService (loopState 2 true) = true ∧ faultFailsStart (loopState 2 true) = false := by decide
theorem test_w_loop_idle : (let s := loopState 1 false
    let t := { s with img := { s.img with loops := [(3, { period := 10, phase := 1 })] } }
    lpeRuns t && !loopDue t 3) = true := by decide
theorem test_loop_manual : gives (.loopTick [] []) (loopState 1 false) (fun t => (lslot t 3).out == 0x42480000) = true := by decide

/-! ### LoopWrites -/

/-- A module in Run with a session at a level, one loop slot and trace channel 2 in a state. -/
def traceState (m : ModState) (lvl : BitVec 2) (st : TraceState) : State :=
  { withSess m lvl with img := { Image.blank with loops := [(3, {})] },
                        lpe := { (withSess m lvl).lpe with traces := [(2, { cfg := 0x83000001, st := st })] } }
theorem test_w_loopwrites : admits (rq 1) lvOperate (traceState .run 1 .idle) = true ∧ admits (rq 0) lvView (traceState .run 0 .idle) = true ∧
    admits (rq 2) lvEngineer (traceState .run 2 .armed) = true :=
  ⟨help_rq 1 (by decide), help_rq 0 (by decide), help_rq 2 (by decide)⟩
theorem test_w_loopwrites2 : admits (rq 0) lvOperate (traceState .run 0 .idle) = false ∧ inRun (traceState .run 1 .idle) = true ∧
    (iget (traceState .run 1 .idle).img.loops 3).isSome = true ∧ fnan 0x7FC00000 = true ∧ iget (traceState .run 1 .idle).img.loops 4 = none ∧
    inRun (traceState .hold 1 .idle) = false ∧ (tget {} (traceState .run 2 .armed).lpe.traces 2).st = .armed ∧
    (tget {} (traceState .run 2 .idle).lpe.traces 2).cfg.getLsbD 31 = true ∧ (0x83A00000#32).toNat / 0x100000 % 16 = 10 ∧
    10 < (0x83B00000#32).toNat / 0x100000 % 16 ∧ (0x72000000#32).toNat / 0x10000000 = 7 ∧ (0x72000000#32).toNat / 0x1000000 % 16 = 2 ∧
    (0x71000000#32).toNat / 0x1000000 % 16 ≠ 2 ∧ 7 < (0x80000000#32).toNat / 0x10000000 := ⟨help_not 0 (by decide), by decide⟩
theorem test_trace_arm : gives (.traceArm (rq 2) 2) (traceState .run 2 .idle) (fun t => (tget {} t.lpe.traces 2).st == .armed) = true :=
  help_run (msg 2) rfl (by decide) (.inl (by decide)) (by decide)

/-! ### DigitalInputs -/

/-- A module in Run with one group linked and channel 5 in a mode and a state. -/
def chanState (cfg : ChanCfg) (c : Chan) : State :=
  { cyc .idle with
    img := { Image.blank with channels := [(4, cfg)] }
    boot := { (cyc .idle).boot with loaded := true }
    fch := { (cyc .idle).fch with ch := [(4, c)], grp := [(0, { link := true })] } }
theorem test_w_di : (let s := chanState { mode := 1, safety := true, filt := 0x00030000, supply := true } { cnt := 2, hasValue := true }
    chanMode s 4 = 1 ∧ (chanCfg s 4).safety = true ∧ (chanCfg s 4).supply = true ∧ isInput (chanMode s 4) = true ∧
    (grp s 0).maint = false ∧ (grp s 0).link = true ∧ (chan s 4).hasValue = true ∧ (chan s 4).heldE = false ∧
    s.tim.barLimit = false ∧ (chan s 4).frozen = false ∧ (chan s 4).supplyOff = false) ∧
    (let s := chanState { mode := 1 } { supplyOff := true }
     chanMode s 4 = 1 ∧ (chanCfg s 4).safety = false ∧ (chan s 4).supplyOff = true) := by decide
theorem test_filter : gives (.safetyInputFilterTick 4 true) (chanState { mode := 1, safety := true, filt := 0x00030000 } { cnt := 2, qcnt := 1 })
    (fun t => (chan t 4).filt && !(chan t 4).qfilt && (chan t 4).cnt == 3 && (chan t 4).changes == 1) = true := by decide

/-! ### OutputDiagnostics -/

theorem test_w_do : (let s := chanState { mode := 2, sub := 1 } { stage := true, tripped := true, cmd := 1, dark := true }
    isSwitch (chanMode s 4) = true ∧ roleShown s ≠ .standby ∧ (chan s 4).stage = true ∧ (chan s 4).tripped = true ∧ cmdOn s 4 = true ∧
    (chanCfg s 4).par = 0 ∧ (grp s 0).outWait = false ∧ (grp s 0).suppr = false ∧ (chanCfg s 4).sub.getLsbD 0 = true ∧
    (chan s 4).dark = true ∧ isPairChan s 4 = false) ∧
    (let s := chanState { mode := 0xB, sub := 3 } {}
     chanMode s 4 = 0xB ∧ (chan s 4).stage = false ∧ isPairChan s 4 = true ∧ (tget {} s.saf.pairs (pairOf s 4)).on = false ∧ cmdOn s 4 = false) ∧
    chanMode (chanState { mode := 3 } {}) 4 = 3 ∧ (chanCfg (chanState { mode := 2, par := 1 } {}) 4).par ≠ 0 ∧
    (let s := chanState { mode := 0xA } { stage := true }; chanMode s 4 = 0xA ∧ (chan s 4).stage = true) ∧
    (let s := { chanState { mode := 2 } {} with pst := { (cyc .idle).pst with member := true, role := .standby } }
     roleShown s = .standby ∧ isOutput (chanMode s 4) = true ∧ isSwitch (chanMode s 4) = true ∧ copyFed s = false) ∧
    (let s := { chanState { mode := 9 } {} with pst := { (cyc .idle).pst with member := true, role := .standby, targets := [(4, (0x41A00000, false))] } }
     let s := { s with img := { s.img with plan := { s.img.plan with mode := .copy } } }
     roleShown s = .standby ∧ chanMode s 4 = 9 ∧ copyFed s = true ∧ iget s.pst.targets 4 = some (0x41A00000, false)) := by decide
theorem test_w_do_loop : flt 0 (clampCmd (chanCfg (chanState { mode := 9 } {}) 4) 0x41400000) = true := by decide
theorem test_overload : gives (.outputOverloadTrip 4) (chanState { mode := 2 } { stage := true, hasValue := true })
    (fun t => !(chan t 4).stage && (chan t 4).code == 5 && (chan t 4).faults == 1 && t.evr.ring.length == 1) = true := by decide
theorem test_pwm_short : pwmDuty { filt := 10000 } 0x3DCCCCCD = 0 ∧ pwmDuty { filt := 10000 } 0x42480000 = 0x42480000 := by decide

/-! ### MeasuredInputs -/

theorem test_w_ai : (let s := chanState { mode := 4, sub := 1 } {}; chanMode s 4 = 4 ∧ (chanCfg s 4).sub.getLsbD 0 = true) ∧
    chanMode (chanState { mode := 5 } {}) 4 = 5 ∧ chanMode (chanState { mode := 6 } {}) 4 = 6 ∧
    chanMode (chanState { mode := 7 } {}) 4 = 7 ∧ chanMode (chanState { mode := 8 } {}) 4 = 8 ∧
    (chanCfg (chanState { mode := 8, sub := 1 } {}) 4).sub.getLsbD 0 = true ∧
    (let s := { chanState { mode := 4 } {} with pst := { (cyc .idle).pst with member := true } }; s.pst.member = true ∧ chanMode s 4 = 4) := by decide
theorem test_ma : gives (.conversionComplete 4 (.current 12000 false)) (chanState { mode := 4, sub := 1, lo := 0, hi := 0x42C80000 } { hasValue := true })
    (fun t => (chan t 4).value == 0x42480000 && (chan t 4).code == 0 && (chan t 4).hasValue) = true := by decide
theorem test_rpm : gives (.frequencyGate 4 100 2500000) (chanState { mode := 8, aux := 0x3F800000 } {})
    (fun t => (chan t 4).value == 0x447A0000) = true := by decide

/-! ### GroupSupplies -/

/-- As `chanState`, with the group of the channel in a state, and pair 2 on channels 5 and 6 of it. -/
def groupState (x : Group) : State :=
  let s := chanState { mode := 2, safety := true, sub := 2 } { stage := true }
  { s with
    img := { s.img with pairsCfg := [(2, { pch := 5, mch := 6 })] }
    saf := { s.saf with pairs := [(2, { on := true, qen := true, len := true, req := true })] }
    fch := { s.fch with grp := [(0, x)] }
    pnw := { s.pnw with sessions := [sess 2] } }
theorem test_w_group : (let s := groupState { level := .fault, sagArmed := true, link := true, suppr := true }
    (grp s 0).level = .fault ∧ (grp s 0).sagArmed = true ∧ s.sup.mode ≠ .decaf ∧ pairsIn s 0 = [2] ∧
    inService s = true ∧ (grp s 0).maintPend = false) ∧
    (let s := groupState { suppr := true, maintPend := true, link := false }
     (grp s 0).suppr = true ∧ ¬((grp s 0).level = .fault ∨ (grp s 0).level = .missing) ∧ (grp s 0).link = false ∧ (grp s 0).maintPend = true ∧
     (grp s 0).quillLost = false ∧ (grp s 0).sagArmed = false) ∧
    freezes (chanState { mode := 1 } {}) 4 = true ∧ 4 ∈ groupChans 0 ∧
    (laneFrame 0 0 []).isNone = true ∧ (quillFrame 0 []).isNone = true ∧ (laneFrame 0 7 [5, 0x27, 0x41]).isSome = true ∧ (quillFrame 7 [5, 0x70]).isSome = true := by decide
theorem test_w_maint : admits (rq 2) lvEngineer (groupState { link := true }) = true ∧ inService (groupState { link := true }) = true :=
  ⟨help_rq 2 (by decide), by decide⟩
theorem test_sag : gives (.sagLatchTimer 0) (groupState { level := .fault, sagArmed := true, link := true })
    (fun t => (tget {} t.saf.pairs 2).sag && !(tget {} t.saf.pairs 2).on && (tget {} t.saf.pairs 2).cntLatch == 1) = true := by decide
theorem test_freeze : gives (.groupSupplyLevelChange 0 .faultOn 1599 0) (chanState { mode := 1 } { live := 2, hasValue := true })
    (fun t => (chan t 4).frozen && (chan t 4).value == 2 && (chan t 4).code == 1 && (grp t 0).suppr) = true := by decide

/-! ### QuillEvaluation -/

/-- A module in Run with slot 3, its inputs on channels 5 and 6 and reset on channel 7, naming pair 2, in a state. -/
def slotState (c : SlotCfg) (x : Slot) (in1 in2 : Bool) : State :=
  let s := chanState { mode := 1, safety := true } {}
  { s with
    img := { s.img with slotsCfg := [(3, { c with ch1 := 5, ch2 := 6, rst := 7, nch := 2, pairs := 4 })], pairsCfg := [(2, { pch := 9, mch := 10 })] }
    fch := { s.fch with ch := [(4, { qfilt := in1 }), (5, { qfilt := in2 })] }
    saf := { s.saf with slots := [(3, x)], pairs := [(2, { qen := true, len := true, req := true, on := true })] }
    pnw := { s.pnw with sessions := [sess 2] } }
theorem test_w_quill : quillActive (slotState {} {} true true) = true ∧ ((slotState {} {} true true).img.slotsCfg.map (·.1)).Nodup ∧
    (let s := slotState {} { st := .released } true true; let c := slotCfg s 3
     (otherExt s 3 || !allRun s c) = false ∧ (otherExt (slotState {} {} true false) 3 || !allRun (slotState {} {} true false) c) = true) ∧
    quillActive State.reset = false ∧
    (let s := slotState { typ := 2, ch3 := 8, ch4 := 9 } { rearmed := true } true false
     let s' := { s with fch := { s.fch with ch := [(4, { qfilt := true }), (7, { qfilt := true })] } }
     let c := slotCfg s 3
     atRest s' c = false ∧ button s' c true = true ∧ button s' c false = true ∧ otherExt s' 3 = false) ∧
    (let s := slotState { typ := 2, ch3 := 8, ch4 := 9 } {} false true
     atRest { s with fch := { s.fch with ch := [(5, { qfilt := true }), (8, { qfilt := true })] } } (slotCfg s 3) = true) := by decide
theorem test_stop : gives .quillEvaluation (slotState {} { st := .awaiting } true false)
    (fun t => (tget {} t.saf.slots 3).st == .demanded && !(tget {} t.saf.pairs 2).on && !(tget {} t.saf.pairs 2).qen) = true := by decide

/-! ### SafetySlotEvents -/

/-- A module in Run with brake slot 3: feedback on channel 5, standstill on channel 6; its pair off since reset. -/
def brakeState (c : SlotCfg) (x : Slot) (in1 in2 on : Bool) : State :=
  let s := slotState { c with typ := 4 } x in1 in2
  { s with
    tim := { s.tim with ticks := 25000000 }
    saf := { s.saf with pairs := [(2, { on := on, offAt := 1 })] } }
theorem test_w_slots : (let s := slotState { tps1 := 9 } { st := .demanded, missed := [(0, 1)], delaying := true } true false; let c := slotCfg s 3
     disagrees s c = true ∧ iget s.img.slotsCfg 3 = some c ∧ [c.tps1, c.tps2, c.tps3, c.tps4].any (· != 0) = true ∧ allDemandState s c = false) ∧
    (let s := brakeState { ch4 := 11 } {} true true false; brakeTestOk s 3 = true ∧ (slotCfg s 3).ch4 ≠ 0 ∧ (slotCfg s 3).typ = 4 ∧
     qin s 5 = true) ∧
    (let s := brakeState {} { testing := true, torque := true } false true true
     brakeTestOk s 3 = false ∧ qin s 5 = false ∧ (slotPairs (slotCfg s 3)).any (fun p => (tget {} s.saf.pairs p).on) = true) := by decide
theorem test_w_brake : admits (rq 1) lvOperate { brakeState {} {} true true false with pnw := { State.reset.pnw with sessions := [sess 1] } } = true :=
  help_rq 1 (by decide)
theorem test_brake_test : gives (.brakeTest (rq 2) 3) (brakeState {} {} true true false) (fun t => (tget {} t.saf.slots 3).testing &&
    said t == [(1, [0, 0])]) = true :=
  help_run (msg 2) rfl (by decide) (.inl (by decide)) (by decide)
theorem test_feedback : gives (.brakeFeedbackTimeout 3) (brakeState {} {} false true false) (fun t => (tget {} t.saf.slots 3).fault == 4) = true := by decide
theorem test_discrepancy : gives (.discrepancyTimeout 3) (slotState {} { st := .released } true false)
    (fun t => (tget {} t.saf.slots 3).st == .fault && (tget {} t.saf.slots 3).fault == 1 && !(tget {} t.saf.pairs 2).on) = true := by decide

/-! ### PairsAndResetDemand -/

theorem test_w_reset : (let s := slotState {} { st := .awaiting } true true; causeOf s 3 = false ∧ resetsOn s 6 = [3]) ∧
    causeOf (slotState {} { st := .awaiting } true false) 3 = true ∧
    (let s := slotState {} { st := .fault, fault := 1, allDemand := true } true true; faultOver s 3 = true ∧ slotPairs (slotCfg s 3) = [2]) ∧
    faultOver (slotState {} { st := .fault, fault := 1 } true false) 3 = false ∧
    (let s := slotState {} {} true true
     let s := { s with saf := { s.saf with pairs := [(2, { on := true, failP := 1, failM := 1 })] } }
     (tget {} s.saf.pairs 2).on = true ∧ (pairCfg s 2).stest = true ∧ (tget {} s.saf.pairs 2).failP = 1) ∧
    (let s := slotState {} {} true true
     let s := { s with img := { s.img with pairsCfg := [(2, { pch := 9, mch := 10, edmch := 5 })] } }
     (pairCfg s 2).edmch ≠ 0 ∧ qin s (pairCfg s 2).edmch = (tget {} s.saf.pairs 2).on) := by decide
theorem test_reset : gives (.resetDemand 6 400) (slotState {} { st := .awaiting } true true) (fun t => (tget {} t.saf.slots 3).st == .released) = true ∧
    gives (.resetDemand 6 3100) (slotState {} { st := .awaiting } true true) (fun t => (tget {} t.saf.slots 3).st == .awaiting) = true := by decide

/-! ### CurrentLoopsAndTrims -/

/-- A module in Commissioning with channel 5 a current-loop output, its group in maintenance, and a session of the protocol. -/
def loopOut (x : Option TrimSession) (c : Chan) : State :=
  let s := chanState { mode := 9, sub := 2 } c
  { s with
    sup := { s.sup with mode := .commissioning }
    pnw := { s.pnw with sessions := [sess 2] }
    fch := { s.fch with grp := [(0, { link := true, maint := true })], ses := x } }
theorem test_w_trims : (let s := loopOut none { lclamp := 0x41400000, lrunLow := 49 }
     s.sup.mode = .commissioning ∧ (grp s (groupOf 4)).maint = true ∧ roleShown s ≠ .standby ∧
     s.fch.ses = none ∧ chanMode s 4 = 9 ∧ (fval (chan s 4).lclamp).scaledGt 1000 (11000 + 200) = true) ∧
    flt 0 0x80000000 = false ∧ ({ sub := 2 } : ChanCfg).sub.getLsbD 1 = true ∧
    (let s := { loopOut (some ⟨4, .zero, 80⟩) {} with pst := { (cyc .idle).pst with member := true, role := .standby } }
     roleShown s = .standby ∧ chanMode s 4 = 9 ∧ s.fch.ses = some ⟨4, .zero, 80⟩) := by decide
theorem test_clamp : clampCmd { sub := 2 } 0x40666666 = 0x40600000 ∧ clampCmd { sub := 2 } 0x406CCCCD = 0x40733333 ∧
    clampCmd { sub := 2 } 0x41A66666 = 0x41A40000 ∧ clampCmd { sub := 2 } 0x41A80000 = 0x41AC0000 ∧ clampCmd {} 0x41A80000 = 0x41A80000 := by decide
theorem test_target : driveTarget 0x41400000 10 (-30) = 0x413FD70A := by decide
theorem test_compliance : gives (.readbackConversion 4 11000) (loopOut none { lclamp := 0x41400000, lrunLow := 49 })
    (fun t => (chan t 4).qCompl && (chan t 4).levt.getLsbD 0) = true := by decide
theorem test_w_trimreq : admits (rq 2) lvEngineer (loopOut none {}) = true ∧ admits (rq 2) lvEngineer (loopOut (some ⟨4, .zero, 80⟩) {}) = true :=
  ⟨help_rq 2 (by decide), help_rq 2 (by decide)⟩
theorem test_trim : gives (.trimUpPress ⟨true, false, false⟩) (loopOut (some ⟨4, .zero, 80⟩) {}) (fun t => t.fch.ses == some ⟨4, .zero, 80⟩) = true ∧
    gives (.trimDnPress ⟨true, true, false⟩) (loopOut (some ⟨4, .zero, 80⟩) {}) (fun t => t.fch.ses == some ⟨4, .zero, 80⟩) = true := by decide
theorem test_store_trim : gives (.storeTrim (rq 2)) (loopOut (some ⟨4, .zero, 12⟩) {}) (fun t => t.fch.ses == none && trimAt t 4 .zero == 12) = true :=
  help_run (msg 2) rfl (by decide) (.inl (by decide)) (by decide)

/-! ### AlarmCommands -/

/-- A module in Run with point 7 on tag 3 in a state, call group 1, a dead-man timer, and a session of the protocol. -/
def almState (c : PointCfg) (x : Point) : State :=
  let s := withSess .run 2
  { s with
    img := { s.img with points := [(7, { c with src := .tag 3 false }), (4076, {})], calls := [(1, {})], dead := some { group := 1 }, cells := [{}] }
    cyc := { s.cyc with snapFresh := true, snapshot := [(3, 50)] }
    alm := { s.alm with points := [(7, x)] } }
theorem test_w_almcmd : (admits (rq 2) lvOperate (almState { shelvable := true } {}) = true ∧
    admits (rq 2) lvOperate (withSess .run 2) = true ∧ admits (rq 0) lvView (withSess .run 0) = true ∧
    admits (rq 0) lvOperate (withSess .run 0) = false) ∧
    (let s := almState { shelvable := true } {}; (iget (points s) 7).isSome = true ∧
    iget (points s) 8 = none ∧ shelvable s 7 = true ∧ s.img.dead.isSome = true ∧ s.img.cells.length = 1) ∧
    shelvable (almState { shelvable := false } {}) 7 = false ∧ (withSess .run 2).img.dead = none :=
  ⟨⟨help_rq 2 (by decide), help_rq 2 (by decide), help_rq 0 (by decide), help_not 0 (by decide)⟩, by decide⟩
theorem test_ack_waits : gives (.acknowledgePoint (rq 2) 7) (almState {} { st := .activeUnack })
    (fun t => (pnt t 7).st == .activeUnack && t.alm.cmds == [{ path := .session 5, word := 0x10000007 }]) = true :=
  help_run (msg 2) rfl (by decide) (.inl (by decide)) (by decide)

/-! ### AlarmEvaluation -/

theorem test_w_almeval : almRuns (almState {} {}) = true ∧ almRuns State.reset = false ∧ ((points (almState {} {})).map (·.1)).Nodup ∧
    (let s := almState { cond := 0, lim := 40 } {}; let c := pointCfg s 7; let r := readSrc s c.src
     r.code = 0 ∧ (r.tag && holdsTags s) = false ∧ c.block = none ∧ (evalCond s c r [] false).getD false = true ∧ (delays s 7).1 ≤ 0) ∧
    (let s := almState { cond := 1, lim := 40 } { st := .activeUnack, onServed := true }; let c := pointCfg s 7
     (evalCond s c (readSrc s c.src) [] false).getD false = false) ∧
    (let s := { almState {} {} with img := { (almState {} {}).img with points := [(7, { src := .chan 1 true })], channels := [(0, { mode := 4 })] } }
     (readSrc s (pointCfg s 7).src).code = 0xE) ∧
    fnan 0 = false ∧ flt 0 0x3F800000 = true := by decide
theorem test_w_reading (u : State) (h : Changes [.alm, .evr, .dsp, .sent] (almState { cond := 0, lim := 40 } {}) u) :
    readSrc u (.tag 3 false) = readSrc (almState { cond := 0, lim := 40 } {}) (.tag 3 false) ∧
    refValue u { src := .tag 3 false } {} = refValue (almState {} {}) { src := .tag 3 false } {} := by
  simp only [readSrc, refValue, show u.cyc = _ from h .cyc rfl, and_self]
theorem test_alarm_on : gives (.alarmEvaluation 100) (almState { cond := 0, lim := 40 } {})
    (fun t => (pnt t 7).st == .activeUnack && t.alm.evalLast == 100 && t.evr.ring.length == 1) = true := by decide
theorem test_alarm_delay : gives (.alarmEvaluation 100) (almState { cond := 0, lim := 40, onDly := 2 } { onCnt := 1 })
    (fun t => (pnt t 7).st == .normal && (pnt t 7).onCnt == 2) = true := by decide

/-! ### AlarmTimersAndSentences -/

/-- As `almState`, in a dead-man state and with call group 1 in a state. -/
def callState (d : DeadState) (x : Call) : State :=
  let s := almState { bam := true } { st := .activeUnack }
  { s with
    alm := { s.alm with dead := d, calls := [(1, x)] }
    img := { s.img with net := { s.img.net with acnEn := true } } }
theorem test_w_almtimers : (let s := almState {} { cond := true, onCnt := 3 }; (pnt s 7).suppr = false ∧ (pnt s 7).cond = true ∧ (pnt s 7).onCnt ≠ 0) ∧
    (let s := almState {} { offCnt := 3, st := .shelved }; (pnt s 7).cond = false ∧ (pnt s 7).offCnt ≠ 0 ∧ (pnt s 7).st = .shelved) ∧
    (let s := almState { block := some { src := .tag 3 false, mask := 1, sv := 1 } } { st := .blocked }
     ∃ b, (pointCfg s 7).block = some b ∧ blockTrue b (pnt s 7).blockSrc s = false) ∧
    (let s := callState .running { st := .calling, stage := 1 }; (call s 1).st = .calling ∧ (call s 1).stage = 1 ∧ s.alm.dead = .running) ∧
    (let s := callState .prewarn {}; s.alm.dead = .prewarn ∧ (pnt s 4076).st = .normal ∧ (call s 1).st = .none_ ∧ announces s = true ∧
     alertPoint s 100007 = some 7 ∧ (pointCfg s 7).bam = true ∧ s.img.net.acnEn = true ∧ alertPoint s 5 = none ∧ alertGroup s 5 = none) ∧
    announces State.reset = false ∧ State.reset.img.net.acnEn = false ∧
    (let s := callState .off {}
     alertGroup { s with img := { s.img with cells := [{ group := some { bam := true } }] } } 200000 = some 0) := by decide
theorem test_dead : gives .deadManPrewarningEnd (callState .prewarn {}) (fun t => (pnt t 4076).st == .activeUnack && (call t 1).stage == 2 &&
    t.alm.dead == .alarm) = true := by decide
theorem test_acn : gives (.acnAcknowledge 100007) (callState .off {}) (fun t => t.alm.cmds == [{ path := .acn, word := 0x10000007 }]) = true := by decide

/-! ### RoleTakenBesideHighNet -/

/-- A pair member in Run with its partner present, its net asserted or not, and the peer net read low or not. -/
def pairState (own peer joined : Bool) : State :=
  let s := withSess .run 2
  { s with
    img := { s.img with plan := { s.img.plan with pref := some 0, mode := .copy } }
    pst := { s.pst with
      member := true
      slot := 0
      role := if own then .active else .standby
      ownDrive := own
      ownLow := own
      peerLow := peer
      joined := joined
      peers := [(1, { present := true, hello := some { slot := 1, state := 1, role := 2, stnId := 0, planDigest := 0, imgDigest := 0, glink := 0x3F, ringOk := true, ready := true, speaker := false } })] } }
theorem test_w_roletaken : gives (.interlockPeerNetChange false false)
    (let s := pairState false true true; { s with pst := { s.pst with releaseSeen := some 0, xferDue := some 4 } })
    (fun t => t.pst.ownDrive && t.pst.role == .active && gate t && t.pst.xferReason == 4) = true := by decide

/-! ### RoleChanges -/

/-- A frame with the sequence 1 in the form it arrives in. -/
def slHead (s : State) (p : Nat) : SlHdr := { seq := 1, bytes := [1], check := slCheck s p { seq := 1, bytes := [1], check := 0 } }
theorem test_w_roles : admits (rq 2) lvEngineer (pairState true false true) = true ∧
    (let s := pairState true false true
     s.pst.member = true ∧ gate s = true ∧ inService s = true ∧ partnerMayTake s = true ∧ s.pst.ilkFault = false ∧
     roleShown s = .active ∧ partnerSays s (fun h => h.ringOk) = true ∧ (ringPort s 0).up = false ∧ (ringPort s 1).up = false ∧
     paired s = true ∧ standbyReady s = true ∧ prefSlot s = s.pst.slot ∧ passes s 0 = true ∧
     ({ s with pst := { s.pst with ackCycle := some 0 } } : State).pst.ackCycle = some s.cyc.count) ∧
    (let s := pairState false true true; s.pst.peerLow = true ∧ mayTake s = true ∧ releaseFresh s = false ∧ standbyReady s = false ∧
     releaseFresh { s with pst := { s.pst with releaseSeen := some 0 } } = true ∧ roleShown s = .standby) ∧
    (let s := pairState false true true
     let s := { s with tim := { s.tim with ticks := 1500000025 }, pst := { s.pst with ready := true, qualCycles := 1000 } }
     safetyQuiet s = true ∧ partnerSays s (fun h => h.imgDigest == s.img.digest) = true ∧ s.pst.qualSince + 60000000 ≤ nowUs s ∧
     partnerSays s (fun h => h.state == 1 || h.state == 2) = true) ∧
    (let s := pairState true true true; s.pst.ownLow = true ∧ s.pst.peerLow = true) :=
  ⟨help_rq 2 (by decide), by decide⟩
theorem test_w_frame : takenIn 0 (slHead (pairState false true true) 0) (pairState false true true) = true := by decide
theorem test_release : gives (.releaseReceived ⟨slHead (pairState false true true) 0, 4⟩) (pairState false true true)
    (fun t => t.pst.xferDue == some 4 && t.pst.releaseSeen == some 0 && !t.pst.ownDrive) = true := by decide
theorem test_collision : gives (.interlockPeerNetChange true true)
    (let s := pairState true false true; { s with img := { s.img with plan := { s.img.plan with pref := some 1 } } })
    (fun t => !t.pst.ownDrive && t.pst.role == .standby) = true := by decide

/-! ### CarafeAndSelfTest -/

/-- A standby of a Copy pair whose join copy has come, with a staged delta. -/
def standbyState (f : Option Staging) : State :=
  let s := pairState false true false
  { s with pst := { s.pst with staging := f, wantJoin := true, joinNeed := some [], applied := some 5, ackDue := true, lastSent := some delta0 } }
where
  delta0 : CarafeFrame := { join := false, final := true, cycle := 9, base := 1, data := [(3, 7), (5, 8)], outw := [(1, 1)], loops := [], bases := [], joinRec := none, carry := [] }
/-- That delta, come whole in one frame. -/
def wholeDelta : Staging := { frame := standbyState.delta0, crc := crc32c crcInit [], after := [(0, [])], last := some 0 }
theorem test_w_carafe : (let s := standbyState none
     s.pst.member = true ∧ s.pst.ownDrive = false ∧ inService s = true ∧ passes s 0 = true ∧ copyFed s = true ∧ s.pst.wantJoin = true ∧
     roleShown s = .standby ∧ faultFailsStart s = false ∧ s.img.plan.mode = .copy ∧ s.pst.lastSent.isSome = true) ∧
    (standbyState.delta0.data.map (·.1)).Nodup ∧ stagedWhole wholeDelta = true ∧ stagedGood wholeDelta = true ∧
    stagedWhole { wholeDelta with last := none } = false ∧ stagedGood { wholeDelta with crc := 0 } = false ∧
    (let s := standbyState none
     let s := { s with img := { s.img with plan := { s.img.plan with mode := .twin } } }
     paired s = true ∧ inRun s = true ∧ s.pst.mixed = false) ∧ fwdAct .hold = some .holdIn ∧ FwdCmd.hold ≠ .rejoin := by decide
theorem test_delta : gives .deltaApply (standbyState (some wholeDelta)) (fun t => dataAt t.nibA 5 == 8 && t.cyc.count == 9 &&
    t.pst.applied == some 9 && t.sent == [.link 0 0 0 (.slAck false)]) = true := by decide
theorem test_staged : gives (.carafeFrameReceived ⟨slHead (standbyState none) 0, ⟨standbyState.delta0, [], crc32c crcInit []⟩⟩) (standbyState none)
    (fun t => t.pst.staging == some wholeDelta) = true := by decide

/-! ### StationLinks -/

theorem test_w_station : (let s := withSess .commissioning 2
     let s := { s with pst := { s.pst with testp := true } }
     injOk s = true ∧ admits (rq 2) lvView s = true ∧ admits (rq 2) lvEngineer s = true) ∧
    (admits (rq 0) lvView (withSess .run 0) = true ∧ admits (rq 0) lvEngineer (withSess .run 0) = false) ∧
    (let s := pairState true false true
     powered s = true ∧ passes s 0 = true ∧ passes s 2 = true ∧ isSpeaker s = false ∧ inService s = true ∧ candidates s ≠ [] ∧
     isSpeaker { s with pst := { s.pst with speaker := some 0 } } = true ∧ (0, 0) ∈ candidates s ∧ portPeer s 0 ∈ posSlots s 1) ∧
    powered { posting with sup := { State.reset.sup with phase := .off } } = false ∧
    (slWindow 1 (slPort State.reset 0)).isSome = true ∧ (slWindow 1 { rxSeq := some 9 }).isNone = true ∧
    injOk (withSess .run 2) = false ∧ candidates State.reset = [] :=
  ⟨⟨by decide, help_rq 2 (by decide), help_rq 2 (by decide)⟩, ⟨help_rq 0 (by decide), help_not 0 (by decide)⟩, by decide⟩
theorem test_injector : gives (.slkInjectorWrite (rq 2) 1 0x80010005)
    (let s := withSess .commissioning 2; { s with pst := { s.pst with testp := true } })
    (fun t => (slPort t 1).inj == 0x80010005 && said t == [(1, [0, 0])]) = true :=
  help_run (msg 2) rfl (by decide) (.inl (by decide)) (by decide)
theorem test_mark : gives (.timeMarkReceived 1 900 ⟨slHead (withSess .run 0) 1, { utcOffsetUs := 0, sync := true, valid := true }⟩) (withSess .run 0)
    (fun t => t.pst.offsetNs == 500 && t.pst.terrLast == 900) = true := by decide

/-! ### RingFrames -/

/-- A single module in Run at slot 0 whose plan gives it station 7, granted since cycle 3; it is now cycle 5. -/
def ringState (inj : Word) : State :=
  { posting with
    sup := { State.reset.sup with mode := .run, phase := .up }
    img := { Image.blank with
      stnId := 0x1207
      ring := { Image.blank.ring with stations := [(7, { inLen := 8, outLen := 4, typ := 0x77 })] }
      plan := { Image.blank.plan with members := 1 } }
    pst := { State.reset.pst with ownDrive := true, role := .active, speaker := some 0 }
    frg := { State.reset.frg with
      stns := [(7, { st := .present, outBase := 100, inBase := 200, cGrant := 3, seen := true, sentSeq := some 104 })]
      ports := [(0, { inj := inj, linkRx := 40 })]
      syncC := 5 } }
/-- A frame of station 7 under a sequence, with its right CHECK. -/
def ringFrame (kind : Byte) (q : Word) (data : List Byte) : RingFrame :=
  let f : RingFrame := { kind := kind, ver := 1, ring := 0x1207, src := 7, dst := 0x40, seqLo := q.setWidth 16, flags := 0, data := data, check := 0, corrNs := 0, dest := .unicast 0x40, etherType := 0x88B5 }
  { f with check := ringCheck f q }
theorem test_w_ring_frames : (let s := ringState 0
     let f := ringFrame 2 202 [104, 0, 1, 0, 1, 2, 3, 4, 5, 6, 7, 8]
     (powered s = true ∧ f.tagged = false ∧ f.etherType = etherTypeOf s ∧ f.etherType ≠ 0x88FB ∧ ringFor s f = true ∧ dstOk s f.dst = true ∧
      f.ver = 1 ∧ f.ring = s.img.stnId ∧ (stnCfg s 7).isSome = true ∧ sinceGrant s (stn s 7) = some 2 ∧ granted (stn s 7) = true ∧
      nearestSeq 202 f.seqLo = 202 ∧ f.check = ringCheck f 202 ∧ (stn s 7).arrived = false ∧ s.frg.deadlineOver = false ∧ ringSender s = true ∧ ringArmed s 0 = false)) ∧
    (let f := { ringFrame 1 6 [1, 0, 0, 0, 0, 0, 0, 0] with src := 0x40 }; fromSpeaker (ringState 0) f = true ∧ f.corrNs ≤ 100000) ∧
    ringSender State.reset = false ∧ granted (stn State.reset 7) = false ∧ nearestSeq 0 0x8000 = 0xFFFF8000 ∧ nearestSeq 0x1FFFF 3 = 0x20003 := by decide
theorem test_ring_input : gives (.remoteInputReceived 1 (ringFrame 2 202 [104, 0, 1, 0, 1, 2, 3, 4, 5, 6, 7, 8])) (ringState 0) (fun t =>
    tget 0 t.cyc.inputs (0x100 + 256 * 6 + 1) == 0x08070605 && (stn t 7).st == .present && (stn t 7).ports == 2) = true := by decide
theorem test_ring_old_base : gives (.remoteInputReceived 1 { ringFrame 2 0x300CA [104, 0, 1, 0, 1, 2, 3, 4, 5, 6, 7, 8] with seqLo := 202 }) (ringState 0)
    (fun t => (ringPort t 1).errCheck == 1 && t.cyc.inputs == []) = true := by decide
theorem test_link : gives (.linkRspReceived 0 { ringFrame 8 41 [10, 0, 0, 0, 60, 0, 0, 0] with dest := .linkLocal } 450) (ringState 0) (fun t => (ringPort t 0).delay == 200) = true := by decide

/-! ### RingSends -/

theorem test_w_ring_sends : (let s := ringState 0
     let s := { s with cyc := { s.cyc with phase := .compared }, frg := { s.frg with stns := s.frg.stns.map (fun p => (p.1, { p.2 with outSent := true })) } }
     s.cyc.late = false ∧ s.frg.outDone = false ∧ ringSender s = true ∧ (stn s 7).outSent = true ∧ netUp s = true ∧ powered s = true ∧ ringArmed s 0 = false ∧ ringArmed s 1 = false) ∧
    (let s := { posting with sup := { State.reset.sup with phase := .off } }; netUp s = false ∧ powered s = false) := by decide
theorem test_commit : (let s := ringState 0
    gives .commitSend { s with cyc := { s.cyc with phase := .compared }, frg := { s.frg with stns := s.frg.stns.map (fun p => (p.1, { p.2 with outSent := true })) } }
    (fun t => t.frg.outDone && match t.sent with
      | [.ring none g] => g.data == [5, 0, 0, 0, 0x40, 0, 0, 0] && g.check == ringCheck g 102
      | _ => false)) = true := by decide

/-! ### Sessions -/

/-- A message without a session from an address. -/
def un (ip : Word) : Unsess := { ip := ip, msg := { sess := 0, seq := 0, service := 1 }, broadcast := false }
theorem test_w_sessions : admits (rq 2) lvView (withSess .run 2) = true ∧
    (let s := withSess .run 2
     netUp s = true ∧ (un 1).msg.rx.fcsBad = false ∧ duplicateFrame (un 1).msg.rx s = false ∧ (un 1).msg.ver = 1 ∧ (un 1).msg.typ = 0 ∧
     elsewhere (un 1).msg s = false ∧ s.pnw.sessions.length < 8 ∧ s.pnw.blockedIp = [] ∧ s.boot.loaded = false) ∧
    (let s := { posting with pnw := { State.reset.pnw with sessions := [{ id := 9, level := 2 }], levelKeys := [[], [], [1]] } }
     s.pnw.sessions.find? (fun x => x.id == 9 && !x.opened) = some { id := 9, level := 2 } ∧ levelKey s 2 ≠ [] ∧ levelKey s 0 = []) ∧
    netUp { posting with sup := { State.reset.sup with phase := .off } } = false ∧ State.reset.pnw.levelKeys = [] :=
  ⟨help_rq 2 (by decide), by decide⟩
theorem test_ninth : gives (.open_ (un 1) false 0 (List.replicate 16 0)) { posting with pnw := { State.reset.pnw with sessions := List.replicate 8 {} }, sup := { State.reset.sup with phase := .up } }
    (fun t => said t == [(0, [8, 0])]) = true := by decide
theorem test_fifth_auth : (let s := withSess .run 2
    gives (.auth (un 77) 9 (List.replicate 32 0)) { s with pnw := { s.pnw with failedAt := [(77, 1), (77, 2), (77, 3), (77, 4)] } }
    (fun t => t.pnw.blockedIp == [77] && t.evr.ring.length == 1)) = true := by decide

/-! ### Reads -/

/-- A module in Run with a session at a level and records 1 to 3, the last two in the ring. -/
def recState (lvl : BitVec 2) : State :=
  let s := withSess .run lvl
  let x : Rec := { seq := 1, time := 0, code := 0, source := 0, cell := 0, flags := 0, a := 0, b := 0 }
  { s with evr := { s.evr with store := [x], ring := [{ x with seq := 2 }, { x with seq := 3 }], next := 4 } }
theorem test_w_reads : admits (rq 0) lvView (recState 0) = true ∧ (recState 0).sup.mode ≠ .decaf ∧ isTag State.reset 3 = false ∧
    objRead (.sess 5 0) 0 (admitted (rq 0) (recState 0)) = some (0xA41, admitted (rq 0) (recState 0)) ∧
    objRead (.sess 5 0) 1 (admitted (rq 0) (recState 0)) = none ∧
    isTag { posting with img := { State.reset.img with varLo := 3, varHi := 4 } } 3 = true :=
  ⟨help_rq 0 (by decide), by decide, by decide, rfl, rfl, by decide⟩
theorem test_read_two : gives (.read (rq 0) 0 2) { recState 0 with id := { (recState 0).id with chopFitted := true, hwRev := 1 } }
    (fun t => said t == [(1, [0, 0, 0x41, 0x0A, 0, 0, 1, 0x4D, 0x96, 0])]) = true :=
  help_run (msg 0) rfl (by decide) (.inr rfl) (by decide)
theorem test_events : gives (.eventsNewest (rq 0) 2) (recState 0) (fun t => match said t with
    | [(_, b)] => b.take 12 == [0, 0, 2, 0, 4, 0, 0, 0, 0, 0, 0, 0] && b.length == 76
    | _ => false) = true :=
  help_run (msg 0) rfl (by decide) (.inr rfl) (by decide)

/-! ### WritesAndForces -/

/-- A module in Run with an Engineer session, variables 4 to 9 and a forced tag 5. -/
def forceState (lvl : BitVec 2) : State :=
  let s := withSess .run lvl
  { s with
    img := { Image.blank with varLo := 4, varHi := 10, cells := [{}, { parent := 0, lo := 4, hi := 8 }], constLo := 10, constHi := 12 }
    cyc := { s.cyc with forces := [(.tag 5, 9)] } }
theorem test_w_writes : (admits (rq 2) lvView (forceState 2) = true ∧ admits (rq 2) lvOperate (forceState 2) = true ∧
      admits (rq 2) lvEngineer (forceState 2) = true ∧ admits (rq 0) lvOperate (forceState 0) = false) ∧
    (let s := forceState 2
     s.sup.mode ≠ .decaf ∧ inRun s = true ∧ inService s = true ∧ forceable s (.tag 4) = true ∧ forceable s (.tag 20) = false ∧ safetyTarget s (.tag 4) = false ∧
     ForceTarget.tag 5 ∈ forcesAfter s ∧ (forcesAfter s).length = 1 ∧ (constTags s []).length = 0 ∧ isConst s 10 = true ∧ paired s = false ∧
     inCell s 1 (targetCell s (.tag 5)) = true) ∧
    inService (withSess .start 2) = false ∧ inRun (withSess .start 2) = false :=
  ⟨⟨help_rq 2 (by decide), help_rq 2 (by decide), help_rq 2 (by decide), help_not 0 (by decide)⟩, by decide⟩
theorem test_change_index : gives (.change (rq 2) [{ tag := 4, value := 1, const := false }, { tag := 10, value := 1, const := false }]) (forceState 2)
    (fun t => said t == [(1, [3, 0, 1, 0])] && t.cyc.sched == []) = true :=
  help_run (msg 2) rfl (by decide) (.inl (by decide)) (by decide)
theorem test_release_cell : gives (.forceReleaseInCell (rq 2) 1) (forceState 2) (fun t => t.cyc.sched == [⟨0, .releaseCell 1, false⟩]) = true :=
  help_run (msg 2) rfl (by decide) (.inl (by decide)) (by decide)
theorem test_w1c : gives (.write (rq 1) 0x10028 [2]) (let s := forceState 1; { s with cyc := { s.cyc with evt := 3 } }) (fun t => t.cyc.evt == 1) = true :=
  help_run (msg 1) rfl (by decide) (.inl (by decide)) (by decide)

/-! ### NotificationsAndTime -/

/-- A speaker in Run with one session that has subscribed to group 1, an NTP server, and a call of group 1. -/
def timeState (x : Session) (call_ : Call) : State :=
  let s := withSess .run 0
  { s with
    img := { Image.blank with net := { Image.blank.net with ntpServers := 1 } }
    pst := { s.pst with speaker := some s.pst.slot }
    alm := { s.alm with calls := [(1, call_)] }
    pnw := { s.pnw with sessions := [{ x with id := 5, opened := true, sub := 2 }], utcFirst := false, utcSync := true } }
theorem test_w_notify : (admits (rq 0) lvView (timeState {} { st := .calling, stage := 1 }) = true ∧ tagRight [] (rq 0) = true ∧
      tagRight [] { rq 0 with tag := [] } = false) ∧ (let s := timeState {} { st := .calling, stage := 1 }
     s.sup.mode ≠ .decaf ∧ (call s 1).st ≠ .none_ ∧ announces s = true ∧ netUp s = true ∧ s.pst.speaker = some s.pst.slot ∧
     s.img.net.ntpServers ≠ 0 ∧ s.evr.running = true ∧ s.pnw.utcSync = true) ∧
    (findSession (timeState { unacked := [(7, 1, 5)] } {}) 5).map (·.unacked) = some [(7, 1, 5)] ∧ State.reset.pnw.utcFirst = true ∧
    (call State.reset 1).st = .none_ ∧ State.reset.pnw.utcBig = none ∧ findSession State.reset 5 = none ∧ announces (withSess .start 0) = false :=
  ⟨⟨help_rq 0 (by decide), help_right _ _, by decide⟩, by decide⟩
theorem test_retry_end : gives (.callNotificationRetry 5) (timeState { unacked := [(7, 1, 5)] } {}) (fun t =>
    t.sent == [] && t.evr.ring.length == 1 && t.pnw.sessions.all (fun x => x.unacked == [])) = true := by decide
theorem test_utc_step : (let s := timeState {} {}
    gives .utcStepped { s with pnw := { s.pnw with utcBig := some (-130000) } } (fun t => t.pnw.utcOffset == -130000)) = true := by decide

/-! ### Modbus -/

/-- A module in Run with connection 1, tags 4 to 9, and a table of one wide and one narrow holding register. -/
def mbState (wr : Bool) : State :=
  let s := withSess .run 0
  { s with
    img := { Image.blank with
      varLo := 4
      varHi := 10
      net := { Image.blank.net with
        mbWr := wr
        holding := [(0x10, { isTag := true, addr := 4, wide := true, writable := true }), (0x20, { isTag := true, addr := 5, wide := false, writable := true })]
        inputs := [(0x100, { isTag := true, addr := 6, wide := true, writable := false })] } }
    nibA := { s.nibA with data := [(6, 0x403EB852)] }
    pnw := { s.pnw with mbConns := [1] } }
theorem test_w_modbus : (let s := mbState true
     netUp s = true ∧ s.sup.mode ≠ .decaf ∧ 1 ∈ s.pnw.mbConns ∧ 2 ∉ s.pnw.mbConns ∧ s.pnw.mbConns.length < 4 ∧ isTag s 4 = true ∧
     (iget s.img.net.holding 0x10).isSome = true ∧ iget s.img.net.holding 0x11 = none ∧ iget s.img.net.inputs 0x101 = none ∧ safetyTarget s (.tag 4) = false ∧
     inRun s = true ∧ (constTags s []).length = 0) := by decide
theorem test_modbus_example : gives (.modbusReadInput ⟨1, 9, 3⟩ 0x100 2) (mbState false) (fun t => t.sent == [.lan 0 (.modbus ⟨1, 9, 3⟩ [4, 4, 0x40, 0x3E, 0xB8, 0x52])]) = true ∧
    gives (.modbusReadInput ⟨1, 9, 3⟩ 0x101 1) (mbState false) (fun t => t.sent == [.lan 0 (.modbus ⟨1, 9, 3⟩ [0x84, 2])]) = true := by decide
theorem test_modbus_write : gives (.modbusWriteSingle ⟨1, 9, 3⟩ 0x20 7) (mbState true) (fun t => t.sent == [.lan 0 (.modbus ⟨1, 9, 3⟩ [6, 0, 0x20, 0, 7])]) = true ∧
    gives (.modbusWriteSingle ⟨1, 9, 3⟩ 0x20 7) (mbState false) (fun t => t.sent == [.lan 0 (.modbus ⟨1, 9, 3⟩ [0x86, 4])]) = true := by decide

/-! ### Inkwell -/

theorem test_w_inkwell : admits (rq 0) lvView (recState 0) = true ∧ (let s := recState 0
     s.evr.running = true ∧ codeLimit s 0x0301 = none ∧ codeLimit s 0x0601 = some 20 ∧ (windowOf s.evr 0x0601).1 < 20 ∧ s.evr.ring.length < 8191 ∧
     s.evr.ring ≠ [] ∧ State.reset.evr.ring = [] ∧ s.sup.phase ≠ .off ∧ s.evr.lanes.state = 3 ∧ s.sup.mode ≠ .decaf ∧
     (findSession s 5).isSome = true ∧ s.evr.window = [] ∧ s.sup.phase = .up ∧ s.evr.flushing = false) ∧
    (windowOf { (recState 0).evr with window := [(0x0601, 20, 0)] } 0x0601).1 = 20 := ⟨help_rq 0 (by decide), by decide⟩
theorem test_gone : (let s := recState 0
    let t := runObjwr .a 0xA0024 1 { s with evr := { s.evr with lanes := { cur := 0, state := 1 } } }
    t.evr.lanes.cur = 1 ∧ t.evr.lanes.skip = 1 ∧ t.evr.lanes.state = 0) := by decide
theorem test_flood : (let s := recState 0
    gives .floodWindowEnd { s with evr := { s.evr with window := [(0x0601, 20, 3)] } } (fun t => t.evr.ring.length == 3 && t.evr.window == [])) = true := by decide

/-! ### CheckValueUnits -/

/-- A module in Run with a session at a level that has claimed context 6, whose running value is as given. -/
def cvuState (lvl : BitVec 2) (x : Ctx) : State :=
  let s := withSess .run lvl
  { s with cvu := { s.cvu with claim6 := some 5, ctx := [(4, x), (6, x)] } }
theorem test_w_cvu : admits (rq 1) lvView (cvuState 1 { cfg := 1 }) = true ∧ (let s := cvuState 1 { cfg := 1 }
     s.cmp.mode ≠ .split ∧ s.sup.mode ≠ .decaf ∧ findSession s 5 = some (sess 1) ∧ lvOperate ≤ (sess 1).level ∧
     s.cvu.claim6 = some (rq 1).sess ∧ s.cvu.claim7 ≠ some (rq 1).sess ∧
     (lane { s with nibA := { s.nibA with st := .running } } .a).st = .running) ∧ (sess 0).level < lvOperate := ⟨help_rq 1 (by decide), by decide⟩
/-- CRC-16/CCITT-FALSE of "12345678" fed as words by the session. -/
theorem test_cvu_feed : gives (.cvuDataFeed (.sess (rq 1)) 6 0 [0x34333231, 0x38373635]) (cvuState 1 { alg := 2, value := 0xFFFF })
    (fun t => (ctx t 6).value == 0xA12B && (ctx t 6).count == 8) = true :=
  help_run (msg 1) rfl (by decide) (.inl (by decide)) (by decide)
/-- And of "123456789", the check value the spec gives, with the last byte at a lane's TO. -/
theorem test_cvu_lane : (let t := runObjwr .a 0xB0220 0x39 (cvuState 1 { alg := 2, value := 0xA12B })
    (ctx t 4).value = 0x29B1) := by decide
theorem test_cvu_start : (let s := runObjwr .b 0xB020C 1 (cvuState 1 { cfg := 0x01, value := 7 })
    (ctx s 4).value = 0xFFFFFFFF ∧ (ctx s 4).alg = 1) := by decide

/-! ### ChopCounting -/

/-- A running Chop with port 1 in MASS mode at a state of its meter. -/
def chopState (c : Chop) (x : Meter) : State :=
  { posting with
    sup := { State.reset.sup with phase := .up }
    id := { State.reset.id with chopFitted := true }
    chop := { c with on := true, ports := [{ mode := 1, kfactor := 0x447A0000 }, {}, {}, {}], meters := [(0, x)] } }
theorem test_w_chop_counting : (let s := chopState {} { phase := 3, highB := true, lastChan := some .a, runChan := 1, upSeen := true }
     s.id.chopFitted = true ∧ s.chop.on = true ∧ s.chop.romFault = false ∧ s.chop.paramFault = false ∧ (portPar s 0).mode ≠ 0 ∧ (portPar s 1).mode = 0 ∧
     s.chop.closing = false ∧ (meter s 0).stepGrade = 0 ∧ (portPar s 0).grades.getLsbD 0 = true ∧ s.chop.trail.length < 1024) ∧
    (chopState { closing := true, staged := [{ param := 2, index := 1, value := [0, 0, 0x80, 0x3F] }] } {}).chop.staged.length = 1 ∧
    (meter (chopState {} { fastRun := 9, causes := 1 }) 0).causes ≠ 0 ∧ State.reset.chop.on = false := by decide
theorem test_quadrature : (let s := chopState {} {}
    gives (.meterPulseEdge 0 .a true) s (fun s => gives (.meterPulseEdge 0 .b true) s (fun s => gives (.meterPulseEdge 0 .a false) s (fun s =>
      gives (.meterPulseEdge 0 .b false) s (fun s => (meter s 0).stepPulses == 1 && (meter s 0).phase == 0))))) = true := by decide
set_option exponentiation.threshold 2000 in
theorem test_grade_step : gives (.chopStep []) (chopState {} { stepGrade := 2, stepPulses := 2500 }) (fun t =>
    (meter t 0).gtot == [0, 2500, 0, 0] && (meter t 0).stepPulses == 0) = true := by decide
theorem test_switch_close : gives (.chopStep []) (chopState { closing := true, staged := [{ param := 3, index := 2, value := [7, 0, 0, 0] }] } {})
    (fun t => (portPar t 1).errlim == 7 && t.chop.audit == 1 && t.chop.trail.length == 1) = true := by decide

/-! ### ChopExportAndVerifier -/

/-- A Chop with its switch open and an open verifier session 9. -/
def opticalState (c : Chop) : State := chopState { c with switchOpen := true, session := some { id := 9, opened := true, level := 3 } } {}
/-- A message of that session, without its TAG. -/
def vmsg : Req := { sess := 9, seq := 1, level := 3 }
/-- And the request. -/
def vq : Req := tagged [] vmsg
/-- What a request of the session does, where its key is empty. -/
theorem help_verifier (m : Req) {c : Instr} {s : State} {P : State → Bool} {k : State → State} {x : Session}
    (hc : exec c s = .next (verifierRequest (tagged [] m) k s)) (hs : s.chop.session = some x) (hk : x.key = [])
    (ho : (opticalOn s && verifierMessage m && x.opened && x.id == m.sess && decide (x.seq < m.seq)) = true)
    (hp : P (k (onChop (fun c => { c with session := some { x with seq := m.seq } }) s)) = true) : gives c s P = true := by
  have ht : tagRight x.key (tagged [] m) = true := by rw [hk]; exact help_right _ _
  have hv : verifierMessage (tagged [] m) = verifierMessage m := rfl
  have hq : (tagged [] m).seq = m.seq := rfl
  have hi : (tagged [] m).sess = m.sess := rfl
  unfold gives
  rw [hc]
  dsimp only
  unfold verifierRequest
  rw [hs]
  dsimp only
  rw [ht, hv, hq, hi, Bool.and_true, if_pos ho]
  exact hp
/-- The bodies of the verifier port's answers. -/
def told (t : State) : List (List Byte) := t.sent.filterMap (fun e => match e with | .verifier m => some m.body | _ => none)
theorem test_w_verifier : tagRight [] vq = true ∧ (let s := opticalState {}
     powered s = true ∧ s.chop.switchOpen = true ∧ s.chop.session = some { id := 9, opened := true, level := 3 } ∧ (0 : Word) < vq.seq ∧
     vq.ver = 1 ∧ vq.typ = 0 ∧ vq.target = 0xFF ∧ vq.level = 3 ∧
     s.chop.ports.length = 4 ∧ s.chop.grades.length = 4) ∧ State.reset.chop.frame = none ∧ ({ posting with id := { State.reset.id with chopFitted := false } }).id.chopFitted = false ∧
    (gives .chopExportSend (chopState {} {}) (fun t => t.chop.frame.isSome)) = true ∧ powered { posting with sup := { State.reset.sup with phase := .off } } = false ∧
    parInRange 3 [10, 0, 0, 0] = true ∧ parInRange 3 [0, 0, 0, 0] = false := ⟨help_right _ _, by decide⟩
theorem test_stage_twice : gives (.stage vq 3 1 [9, 0, 0, 0]) (opticalState { staged := [{ param := 3, index := 1, value := [8, 0, 0, 0] }] })
    (fun t => t.chop.staged == [{ param := 3, index := 1, value := [9, 0, 0, 0] }] && told t == [[0, 0]]) = true :=
  help_verifier vmsg rfl rfl rfl (by decide) (by decide)
theorem test_export : gives .chopExportSend (chopState { audit := 3 } {}) (fun t => gives (.chopExportReceived true) t (fun u =>
    u.mtr.valid && u.mtr.view.audit == 3 && u.mtr.frames == 1)) = true := by decide

/-! ### Panel -/

/-- A panel of 800 by 600 under way, with a queue and its slots. -/
def panelState (q : List PReq) (slots : Tab PSlot) (rails : Bool) : State :=
  let s := withSess .run 2
  { s with
    tim := { s.tim with ticks := 250000 }
    img := { Image.blank with panel := { Image.blank.panel with pages := 3 } }
    dsp := { s.dsp with run := true, identOk := true, railsAt := if rails then some 0 else none, cols := 800, rows := 600, queue := q, slots := slots } }
theorem test_w_panel : (let s := panelState [{ area := ⟨0, 0, 8, 8⟩ }] [] true
     s.dsp.run = true ∧ s.dsp.disabled = false ∧ railsGood s = true ∧ mayDrive s = true ∧ eligible s { area := ⟨0, 0, 8, 8⟩ } = true ∧
     (∀ i : Fin 8, (tget {} s.dsp.slots i.val).active = false) ∧
     s.dsp.recovery = false ∧ powered s = true ∧ s.img.panel.pages.getLsbD 1 = true ∧ s.sup.mode ≠ .decaf) ∧
    mergeable {} { cls := .alarm } = true ∧ mergeable {} { cls := .chop } = false ∧ overlaps ⟨0, 0, 2, 2⟩ ⟨1, 1, 2, 2⟩ = true ∧ overlaps ⟨0, 0, 1, 1⟩ ⟨1, 0, 1, 1⟩ = false ∧
    eligible (let s := panelState [] [] true; { s with tim := { s.tim with shed := 2 } }) {} = false ∧ compensating {} = false := by decide
theorem test_w_panel_request : admits (rq 2) lvOperate (panelState [] [] true) = true ∧ admits (rq 2) lvEngineer (panelState [] [] true) = true :=
  ⟨help_rq 2 (by decide), help_rq 2 (by decide)⟩
theorem test_w_panel_lane : (lane (let s := panelState [] [] true; { s with nibA := { s.nibA with st := .running } }) .a).st = .running := by decide
theorem test_merge : gives (.redraw (.sess (rq 2))) (panelState [{ area := ⟨0, 0, 8, 8⟩, cls := .alarm }] [] true)
    (fun t => t.dsp.queue == [{ area := ⟨0, 0, 800, 600⟩, cls := .alarm }]) = true :=
  help_run (lvl := lvOperate) (d := false) (k := fun s => reply (rq 2) stOk [] (panelRedraw s)) (msg 2) rfl (by decide) (.inl (by decide)) (by decide)
theorem test_rail_fault : gives .railFault (panelState [] [(2, { active := true, area := ⟨0, 0, 8, 8⟩, done := 3, total := 9 })] true)
    (fun t => t.dsp.railsAt.isNone && t.dsp.dirty.length == 1 && t.dsp.aborted.length == 1 && t.dsp.cntAbort == 1 && t.dsp.railRetry) = true := by decide
theorem test_band : gives (.panelTemperatureMeasure (.temp 252)) (panelState [] [] true) (fun t => t.dsp.band == 5) = true ∧
    gives (.panelTemperatureMeasure (.temp 255)) (panelState [] [] true) (fun t => t.dsp.band == 6) = true := by decide

/-! ### Supplies -/

/-- A module in a phase, its mode and supervisor as given. -/
def supState (m : ModState) (p : Phase) (f : Sup → Sup) : State := { posting with sup := f { State.reset.sup with mode := m, phase := p } }
theorem test_w_supplies : powered (supState .run .up id) = true ∧ (supState .run .off id).sup.phase = .off ∧ (supState .start (.reset .b 8) id).sup.phase = .reset .b 8 ∧
    rstIgnored (supState .run .up (fun u => { u with rstStuck := true })) = true ∧ rstIgnored (supState .run .up id) = false ∧ inService (supState .run .up id) = true ∧
    faultFailsStart (supState .run .up id) = false ∧ powered (supState .start (.reset .b 8) id) = false ∧ (supState .run .up id).evr.running = true ∧
    episodes60 (supState .run .up id) = 0 ∧ episodes60 (supState .run .up (fun u => { u with episodeAt := [0] })) = 1 ∧
    codeLimit (supState .run .up id) 0x0D02 = some 20 ∧ (supState .run .up id).evr.ring.length < 8000 := by decide
theorem test_fourth_dip : gives (.brownoutEpisodeEnd 1530 6400) (supState .run .up (fun u => { u with vinWarn := true, episodeAt := [0, 0, 0] }))
    (fun t => t.sup.unstable && t.tim.boHold && t.evr.ring.length == 3) = true := by decide
theorem test_coincide : gives .resetPinAssert (supState .start (.entry .s 0x11) id) (fun t => t.sup.phase == .entry .x 9) = true ∧
    gives .resetPinAssert (supState .start (.entry .b 8) id) (fun t => t.sup.phase == .entry .b 8) = true := by decide
theorem test_power_on : gives .vinRestart (supState .start .off (fun u => { u with retentionLost := true })) (fun t => t.sup.phase == .starting && t.sup.lastCause == 2) = true := by decide

/-! ### StartsAndSurvey -/

/-- What a start finds, nothing amiss. -/
def startEnv : StartEnv := { noEnv with flashAnswers := true, flashReadOk := true, flashMbit := 64 }
/-- A module in Decaf whose channel 1 has a survey state. -/
def surveyState (x : Survey) : State :=
  let s := supState .decaf .up id
  { s with boot := { s.boot with survey := [(0, x)] } }
theorem test_w_start : (supState .start .starting id).sup.lastClass ≠ .w ∧ (64 ≤ startEnv.flashMbit ∧ startEnv.flashMbit ≤ 512) ∧ startEnv.flashAnswers = true ∧
    (supState .start .starting (fun u => { u with lastClass := .w })).sup.lastClass = .w ∧ (startEnv.cmpTest.dead = 0 ∧ startEnv.cmpTest.unequal = 0) ∧ startEnv.loopMisses = 0 ∧
    inService (supState .hold .up id) = true ∧ inService (supState .decaf .up id) = false ∧
    (surveyState {}).sup.mode = .decaf ∧ (chan (surveyState {}) 0).frozen = false ∧ ({} : Survey).cls = 0xF ∧ ((surveyOf (surveyState { cls := 1 }) 0).cls = 1) := by decide
theorem test_w_leave_decaf : admits (rq 2) lvEngineer (withSess .decaf 2) = true ∧ (withSess .decaf 2).sup.mode = .decaf ∧ (withSess .decaf 2).sup.phase = .up :=
  ⟨help_rq 2 (by decide), by decide⟩
theorem test_no_flash : gives (.startSequence startEnv) { supState .start .starting id with flash := none } (fun t => t.sup.mode == .decaf && t.sup.blank && t.boot.decaf == 1) = true := by decide
theorem test_third_failure : (let s := supState .start .waitT0 id
    gives .runNotReached { s with boot := { s.boot with fails := 2 } } (fun t => t.sup.mode == .decaf && t.boot.decaf == 0x30 && t.boot.fails == 3)) = true := by decide
theorem test_survey : gives (.surveyMeasurement 0 { aMilliVolt := 0, fallMilliVolt := 0, milliOhm := 108000, abMicroVolt := 0, alternates := false, steady := true, loopMicroAmp := 0 })
    (surveyState { cand := 4, agree := 2 }) (fun t => (surveyOf t 0).cls == 4 && (surveyOf t 0).value == 0x42D80000) = true := by decide

/-! ### ImageWriter -/

/-- A module in Decaf with an answering flash of 64 Mbit, its writer as given. -/
def writerState (w : Option Writer) : State :=
  let s := withSess .decaf 2
  { s with flash := some {}, boot := { s.boot with flashOk := true, flashMbit := 64, writer := w } }
theorem test_w_writer : admits (rq 2) lvEngineer (writerState none) = true ∧ (writerState none).boot.flashOk = true ∧ (writerState none).boot.h0.loaded = false ∧
    (writerState (some { sess := 5, half := 0 })).boot.writer.all (fun w => w.sess == (msg 2).sess && w.half == 0) = true ∧ (4 : Nat) ≤ halfLimit 64 ∧
    (writerState none).sup.phase = .up ∧ State.reset.boot.commitDue = false ∧ (writerState none).flash = some {} := ⟨help_rq 2 (by decide), by decide⟩
theorem test_begin : gives (.imageWriteBegin (rq 2) 1) (writerState none) (fun t => t.boot.writer == some { sess := 5, half := 1 } && said t == [(1, [0, 0])]) = true :=
  help_run (msg 2) rfl (by decide) (.inr rfl) (by decide)
theorem test_data : gives (.imageWriteData (rq 2) 0 4 [1, 2] false) (writerState (some { sess := 5, half := 0 })) (fun t =>
    (t.flash.map (fun f => flashBytes f 3 4)) == some [0xFF, 1, 2, 0xFF] && said t == [(1, [0, 0, 4, 0, 0, 0])]) = true :=
  help_run (msg 2) rfl (by decide) (.inr rfl) (by decide)
theorem test_commit_empty : gives (.imageWriteCommit (rq 2) 0) (writerState (some { sess := 5, half := 0 })) (fun t => said t == [(1, [0xD, 0, 0x10])]) = true :=
  help_run (msg 2) rfl (by decide) (.inr rfl) (by decide)

end Sys2Proof.Tests
end

section
/-! The scope of a command: which parts of the state it may change, and the module after a power-on reset. -/

namespace Sys2Proof.Machine

/-- Every command keeps to the parts listed for it, by the frame lemma of its own meaning. -/
theorem exec_changes_touches : ∀ (c : Instr) (s t : State), exec c s = .next t → Changes (touches c) s t
  | .enterCommissioning _, _, _, h => execEnterCommissioning_frame h
  | .leaveCommissioning _, _, _, h => execLeaveCommissioning_frame h
  | .hold _, _, _, h => execHold_frame h
  | .resume _, _, _, h => execResume_frame h
  | .warmRestart _, _, _, h => execWarmRestart_frame h
  | .restartClassS _, _, _, h => execRestartClassS_frame h
  | .leaveDecaf _, _, _, h => execLeaveDecaf_frame h
  | .restartOtherImageHalf _, _, _, h => execRestartOtherImageHalf_frame h
  | .splitLanes _, _, _, h => execSplitLanes_frame h
  | .rejoinLanes _ _, _, _, h => execRejoinLanes_frame h
  | .enterMaintenance _ _, _, _, h => execEnterMaintenance_frame h
  | .leaveMaintenance _ _, _, _, h => execLeaveMaintenance_frame h
  | .openTrim _ _ _, _, _, h => execOpenTrim_frame h
  | .setPendingTrim _ _, _, _, h => execSetPendingTrim_frame h
  | .storeTrim _, _, _, h => execStoreTrim_frame h
  | .closeTrim _, _, _, h => execCloseTrim_frame h
  | .writeTrim _ _ _ _, _, _, h => execWriteTrim_frame h
  | .brakeTest _ _, _, _, h => execBrakeTest_frame h
  | .clearRetainVariables _, _, _, h => execClearRetainVariables_frame h
  | .readChangedConstants _, _, _, h => execReadChangedConstants_frame h
  | .cycleT0, _, _, h => execCycleT0_frame h
  | .executeWindowOpen, _, _, h => execExecuteWindowOpen_frame h
  | .inputDeadline, _, _, h => execInputDeadline_frame h
  | .nop _ _, _, _, h => execNop_frame h
  | .end_ _, _, _, h => execEnd_frame h
  | .br _, _, _, h => execBr_frame h
  | .bz _, _, _, h => execBz_frame h
  | .bnz _, _, _, h => execBnz_frame h
  | .jmp _, _, _, h => execJmp_frame h
  | .call _, _, _, h => execCall_frame h
  | .add _, _, _, h => execAdd_frame h
  | .sub _, _, _, h => execSub_frame h
  | .mul _, _, _, h => execMul_frame h
  | .mulh _, _, _, h => execMulh_frame h
  | .div _, _, _, h => execDiv_frame h
  | .rem _, _, _, h => execRem_frame h
  | .and_ _, _, _, h => execAnd_frame h
  | .or_ _, _, _, h => execOr_frame h
  | .xor_ _, _, _, h => execXor_frame h
  | .shl _, _, _, h => execShl_frame h
  | .shr _, _, _, h => execShr_frame h
  | .sar _, _, _, h => execSar_frame h
  | .slt _, _, _, h => execSlt_frame h
  | .sltu _, _, _, h => execSltu_frame h
  | .seq _, _, _, h => execSeq_frame h
  | .min _, _, _, h => execMin_frame h
  | .addi _, _, _, h => execAddi_frame h
  | .andi _, _, _, h => execAndi_frame h
  | .ori _, _, _, h => execOri_frame h
  | .xori _, _, _, h => execXori_frame h
  | .shli _, _, _, h => execShli_frame h
  | .shri _, _, _, h => execShri_frame h
  | .sari _, _, _, h => execSari_frame h
  | .slti _, _, _, h => execSlti_frame h
  | .seqi _, _, _, h => execSeqi_frame h
  | .lui _, _, _, h => execLui_frame h
  | .orim _, _, _, h => execOrim_frame h
  | .fadd _, _, _, h => execFadd_frame h
  | .fsub _, _, _, h => execFsub_frame h
  | .fmul _, _, _, h => execFmul_frame h
  | .fdiv _, _, _, h => execFdiv_frame h
  | .fsqrt _, _, _, h => execFsqrt_frame h
  | .fmin _, _, _, h => execFmin_frame h
  | .fmax _, _, _, h => execFmax_frame h
  | .fabs _, _, _, h => execFabs_frame h
  | .fneg _, _, _, h => execFneg_frame h
  | .flt _, _, _, h => execFlt_frame h
  | .fle _, _, _, h => execFle_frame h
  | .feq _, _, _, h => execFeq_frame h
  | .itof _, _, _, h => execItof_frame h
  | .ftoi _, _, _, h => execFtoi_frame h
  | .fma _, _, _, h => execFma_frame h
  | .ld _, _, _, h => execLd_frame h
  | .st _, _, _, h => execSt_frame h
  | .ldx _, _, _, h => execLdx_frame h
  | .stx _, _, _, h => execStx_frame h
  | .in_ _, _, _, h => execIn_frame h
  | .out _, _, _, h => execOut_frame h
  | .cellin _, _, _, h => execCellin_frame h
  | .cellout _, _, _, h => execCellout_frame h
  | .ton _ _ _, _, _, h => execTon_frame h
  | .tof _ _ _, _, _, h => execTof_frame h
  | .tp _ _ _, _, _, h => execTp_frame h
  | .ctu _ _ _, _, _, h => execCtu_frame h
  | .ctd _ _ _, _, _, h => execCtd_frame h
  | .ctud _ _ _, _, _, h => execCtud_frame h
  | .rTrig _ _ _, _, _, h => execRTrig_frame h
  | .fTrig _ _ _, _, _, h => execFTrig_frame h
  | .cv _ _ _, _, _, h => execCv_frame h
  | .timel _ _ _, _, _, h => execTimel_frame h
  | .timeh _ _ _, _, _, h => execTimeh_frame h
  | .objrd _ _ _, _, _, h => execObjrd_frame h
  | .objwr _ _ _, _, _, h => execObjwr_frame h
  | .evpost _ _ _, _, _, h => execEvpost_frame h
  | .cellstat _ _ _, _, _, h => execCellstat_frame h
  | .cellmode _ _ _, _, _, h => execCellmode_frame h
  | .checkpointCompare _, _, _, h => execCheckpointCompare_frame h
  | .checkpointAppendResume _, _, _, h => execCheckpointAppendResume_frame h
  | .compareStalled, _, _, h => execCompareStalled_frame h
  | .laneStalled _, _, _, h => execLaneStalled_frame h
  | .compareComplete, _, _, h => execCompareComplete_frame h
  | .commitSend, _, _, h => execCommitSend_frame h
  | .outputRelease, _, _, h => execOutputRelease_frame h
  | .lateCompareComplete, _, _, h => execLateCompareComplete_frame h
  | .dataDigestComplete, _, _, h => execDataDigestComplete_frame h
  | .speedGaugeUpdate _ _, _, _, h => execSpeedGaugeUpdate_frame h
  | .gaugeDisagreement, _, _, h => execGaugeDisagreement_frame h
  | .speedFloorLost, _, _, h => execSpeedFloorLost_frame h
  | .timeReferenceCheck _ _, _, _, h => execTimeReferenceCheck_frame h
  | .governorEvaluation _, _, _, h => execGovernorEvaluation_frame h
  | .ceilingUnattainable, _, _, h => execCeilingUnattainable_frame h
  | .brownoutCeilingHoldEnd, _, _, h => execBrownoutCeilingHoldEnd_frame h
  | .operatorCeilingWrite _ _, _, _, h => execOperatorCeilingWrite_frame h
  | .barrierOverload _, _, _, h => execBarrierOverload_frame h
  | .barrierLimit _, _, _, h => execBarrierLimit_frame h
  | .loopTick _ _, _, _, h => execLoopTick_frame h
  | .loopOutputHandoff _, _, _, h => execLoopOutputHandoff_frame h
  | .operatorModeRequest _ _ _, _, _, h => execOperatorModeRequest_frame h
  | .operatorSetpointWrite _ _ _, _, _, h => execOperatorSetpointWrite_frame h
  | .manualValueWrite _ _ _, _, _, h => execManualValueWrite_frame h
  | .traceArm _ _, _, _, h => execTraceArm_frame h
  | .traceForce _ _, _, _, h => execTraceForce_frame h
  | .traceStop _ _, _, _, h => execTraceStop_frame h
  | .traceConfigWrite _ _ _ _, _, _, h => execTraceConfigWrite_frame h
  | .takeoverRampEnd _, _, _, h => execTakeoverRampEnd_frame h
  | .safetyInputFilterTick _ _, _, _, h => execSafetyInputFilterTick_frame h
  | .debounceAccept _ _, _, _, h => execDebounceAccept_frame h
  | .sensorSupplyTrip _, _, _, h => execSensorSupplyTrip_frame h
  | .sensorSupplyRetry _ _, _, _, h => execSensorSupplyRetry_frame h
  | .outputOverloadTrip _, _, _, h => execOutputOverloadTrip_frame h
  | .outputOverloadRetry _ _, _, _, h => execOutputOverloadRetry_frame h
  | .openLoadDetect _ _, _, _, h => execOpenLoadDetect_frame h
  | .shortToSupplyDetect _ _, _, _, h => execShortToSupplyDetect_frame h
  | .parallelImbalance _ _, _, _, h => execParallelImbalance_frame h
  | .pwmPeriodStart _ _, _, _, h => execPwmPeriodStart_frame h
  | .testPulseStart _, _, _, h => execTestPulseStart_frame h
  | .testPulseEnd _ _, _, _, h => execTestPulseEnd_frame h
  | .conversionComplete _ _, _, _, h => execConversionComplete_frame h
  | .thermocoupleBreakTest _ _, _, _, h => execThermocoupleBreakTest_frame h
  | .frequencyGate _ _ _, _, _, h => execFrequencyGate_frame h
  | .frequencyTimeout _, _, _, h => execFrequencyTimeout_frame h
  | .pulseEdge _, _, _, h => execPulseEdge_frame h
  | .partnerOutputMismatch _ _, _, _, h => execPartnerOutputMismatch_frame h
  | .sharedInputTakeoverCheck _ _ _, _, _, h => execSharedInputTakeoverCheck_frame h
  | .groupSupplyLevelChange _ _ _ _, _, _, h => execGroupSupplyLevelChange_frame h
  | .sagLatchTimer _, _, _, h => execSagLatchTimer_frame h
  | .readbackDiagnosticsResume _, _, _, h => execReadbackDiagnosticsResume_frame h
  | .couplerFrame _ _ _ _, _, _, h => execCouplerFrame_frame h
  | .groupLinkLost _, _, _, h => execGroupLinkLost_frame h
  | .quillStreamLost _, _, _, h => execQuillStreamLost_frame h
  | .groupLinkRestore _, _, _, h => execGroupLinkRestore_frame h
  | .readbackConversion _ _, _, _, h => execReadbackConversion_frame h
  | .trimUpPress _, _, _, h => execTrimUpPress_frame h
  | .trimDnPress _, _, _, h => execTrimDnPress_frame h
  | .trimRepeat _ _, _, _, h => execTrimRepeat_frame h
  | .trimSetPress, _, _, h => execTrimSetPress_frame h
  | .trimInputStuck _, _, _, h => execTrimInputStuck_frame h
  | .trimSessionTimeout, _, _, h => execTrimSessionTimeout_frame h
  | .quillEvaluation, _, _, h => execQuillEvaluation_frame h
  | .discrepancyTimeout _, _, _, h => execDiscrepancyTimeout_frame h
  | .safetyOffDelayEnd _, _, _, h => execSafetyOffDelayEnd_frame h
  | .twoHandSyncMiss _, _, _, h => execTwoHandSyncMiss_frame h
  | .testPulseCheck _ _, _, _, h => execTestPulseCheck_frame h
  | .resetDemand _ _, _, _, h => execResetDemand_frame h
  | .resetInputHeldLong _, _, _, h => execResetInputHeldLong_frame h
  | .switchOffTest _ _ _, _, _, h => execSwitchOffTest_frame h
  | .edmTimeout _, _, _, h => execEdmTimeout_frame h
  | .brakeFeedbackTimeout _, _, _, h => execBrakeFeedbackTimeout_frame h
  | .brakeTestEdge _, _, _, h => execBrakeTestEdge_frame h
  | .brakeTorqueTimeout _, _, _, h => execBrakeTorqueTimeout_frame h
  | .brakeTestEnd _, _, _, h => execBrakeTestEnd_frame h
  | .brkageTick, _, _, h => execBrkageTick_frame h
  | .acknowledgePoint _ _, _, _, h => execAcknowledgePoint_frame h
  | .acknowledgeGroup _ _, _, _, h => execAcknowledgeGroup_frame h
  | .acknowledgeAll _, _, _, h => execAcknowledgeAll_frame h
  | .shelve _ _ _, _, _, h => execShelve_frame h
  | .unshelve _ _, _, _, h => execUnshelve_frame h
  | .silence _, _, _, h => execSilence_frame h
  | .acceptCall _ _ _, _, _, h => execAcceptCall_frame h
  | .assignDuty _ _ _ _, _, _, h => execAssignDuty_frame h
  | .deadManOn _ _, _, _, h => execDeadManOn_frame h
  | .deadManReset _, _, _, h => execDeadManReset_frame h
  | .deadManOff _, _, _, h => execDeadManOff_frame h
  | .alarmEvaluation _, _, _, h => execAlarmEvaluation_frame h
  | .pointOnDelayEnd _, _, _, h => execPointOnDelayEnd_frame h
  | .pointOffDelayEnd _, _, _, h => execPointOffDelayEnd_frame h
  | .blockReleaseDelayEnd _, _, _, h => execBlockReleaseDelayEnd_frame h
  | .shelfTimeEnd _, _, _, h => execShelfTimeEnd_frame h
  | .callStage1 _, _, _, h => execCallStage1_frame h
  | .callStage2 _, _, _, h => execCallStage2_frame h
  | .deadManIntervalEnd, _, _, h => execDeadManIntervalEnd_frame h
  | .deadManPrewarningEnd, _, _, h => execDeadManPrewarningEnd_frame h
  | .alcSend, _, _, h => execAlcSend_frame h
  | .hbtSend, _, _, h => execHbtSend_frame h
  | .acnAcknowledge _, _, _, h => execAcnAcknowledge_frame h
  | .acnSilence _, _, _, h => execAcnSilence_frame h
  | .acnRequestRepeat _, _, _, h => execAcnRequestRepeat_frame h
  | .acnIgnored, _, _, h => execAcnIgnored_frame h
  | .interlockPeerNetChange _ _, _, _, h => execInterlockPeerNetChange_frame h
  | .interlockStuck, _, _, h => execInterlockStuck_frame h
  | .interlockStuckEnd, _, _, h => execInterlockStuckEnd_frame h
  | .roleWaitEnd, _, _, h => execRoleWaitEnd_frame h
  | .releaseReceived _, _, _, h => execReleaseReceived_frame h
  | .unannouncedTakeover, _, _, h => execUnannouncedTakeover_frame h
  | .roleTransfer, _, _, h => execRoleTransfer_frame h
  | .fieldRingSilence, _, _, h => execFieldRingSilence_frame h
  | .takeBack, _, _, h => execTakeBack_frame h
  | .swap _, _, _, h => execSwap_frame h
  | .resync _, _, _, h => execResync_frame h
  | .inhibitTakeBack _, _, _, h => execInhibitTakeBack_frame h
  | .allowTakeBack _, _, _, h => execAllowTakeBack_frame h
  | .roleSwapDue, _, _, h => execRoleSwapDue_frame h
  | .scrubStep _, _, _, h => execScrubStep_frame h
  | .bistTestSequence _, _, _, h => execBistTestSequence_frame h
  | .bistInjectionTest _, _, _, h => execBistInjectionTest_frame h
  | .carafeFrameReceived _, _, _, h => execCarafeFrameReceived_frame h
  | .deltaApply, _, _, h => execDeltaApply_frame h
  | .deltaLost, _, _, h => execDeltaLost_frame h
  | .carafeAckReceived _, _, _, h => execCarafeAckReceived_frame h
  | .joinCopyComplete, _, _, h => execJoinCopyComplete_frame h
  | .twinStepDigest _, _, _, h => execTwinStepDigest_frame h
  | .forwardedCommand _ _, _, _, h => execForwardedCommand_frame h
  | .partnerConfirmTimeout, _, _, h => execPartnerConfirmTimeout_frame h
  | .helloSend, _, _, h => execHelloSend_frame h
  | .helloReceived _ _, _, _, h => execHelloReceived_frame h
  | .stationLinkDown _, _, _, h => execStationLinkDown_frame h
  | .stationLinkUp _ _, _, _, h => execStationLinkUp_frame h
  | .speakerElection, _, _, h => execSpeakerElection_frame h
  | .timeMarkSend, _, _, h => execTimeMarkSend_frame h
  | .timeMarkReceived _ _ _, _, _, h => execTimeMarkReceived_frame h
  | .stationExportReceived _ _ _, _, _, h => execStationExportReceived_frame h
  | .slkInjectorWrite _ _ _, _, _, h => execSlkInjectorWrite_frame h
  | .frgInjectorWrite _ _ _, _, _, h => execFrgInjectorWrite_frame h
  | .testpInputChange _, _, _, h => execTestpInputChange_frame h
  | .syncReceived _ _, _, _, h => execSyncReceived_frame h
  | .remoteInputReceived _ _, _, _, h => execRemoteInputReceived_frame h
  | .remoteJoinReceived _ _, _, _, h => execRemoteJoinReceived_frame h
  | .linkDelayMeasure _, _, _, h => execLinkDelayMeasure_frame h
  | .linkReqReceived _ _, _, _, h => execLinkReqReceived_frame h
  | .linkRspReceived _ _ _, _, _, h => execLinkRspReceived_frame h
  | .hsrSupervisionSend, _, _, h => execHsrSupervisionSend_frame h
  | .ringPathLost _, _, _, h => execRingPathLost_frame h
  | .ringPortDown _, _, _, h => execRingPortDown_frame h
  | .prpSupervisionSend, _, _, h => execPrpSupervisionSend_frame h
  | .plantPathLost _ _, _, _, h => execPlantPathLost_frame h
  | .plantPathRestored, _, _, h => execPlantPathRestored_frame h
  | .identify _, _, _, h => execIdentify_frame h
  | .open_ _ _ _ _, _, _, h => execOpen_frame h
  | .auth _ _ _, _, _, h => execAuth_frame h
  | .close _, _, _, h => execClose_frame h
  | .read _ _ _, _, _, h => execRead_frame h
  | .write _ _ _, _, _, h => execWrite_frame h
  | .readvar _ _ _, _, _, h => execReadvar_frame h
  | .eventsFromSeq _ _ _, _, _, h => execEventsFromSeq_frame h
  | .eventsFromOldest _ _, _, _, h => execEventsFromOldest_frame h
  | .eventsFromCursor _ _, _, _, h => execEventsFromCursor_frame h
  | .eventsNewest _ _, _, _, h => execEventsNewest_frame h
  | .change _ _, _, _, h => execChange_frame h
  | .forceSet _ _ _, _, _, h => execForceSet_frame h
  | .forceRelease _ _, _, _, h => execForceRelease_frame h
  | .forceReleaseInCell _ _, _, _, h => execForceReleaseInCell_frame h
  | .subscribe _ _, _, _, h => execSubscribe_frame h
  | .callNotificationSend _, _, _, h => execCallNotificationSend_frame h
  | .notificationAcknowledgement _, _, _, h => execNotificationAcknowledgement_frame h
  | .callNotificationRetry _, _, _, h => execCallNotificationRetry_frame h
  | .sessionTimeout _, _, _, h => execSessionTimeout_frame h
  | .authenticationBlockEnd _, _, _, h => execAuthenticationBlockEnd_frame h
  | .modbusReadHolding _ _ _, _, _, h => execModbusReadHolding_frame h
  | .modbusReadInput _ _ _, _, _, h => execModbusReadInput_frame h
  | .modbusWriteSingle _ _ _, _, _, h => execModbusWriteSingle_frame h
  | .modbusWriteMultiple _ _ _ _ _, _, _, h => execModbusWriteMultiple_frame h
  | .modbusOtherFunction _ _, _, _, h => execModbusOtherFunction_frame h
  | .modbusConnectionTimeout _, _, _, h => execModbusConnectionTimeout_frame h
  | .ntpPoll, _, _, h => execNtpPoll_frame h
  | .ntpResponse _ _, _, _, h => execNtpResponse_frame h
  | .utcStepped, _, _, h => execUtcStepped_frame h
  | .rtcSet, _, _, h => execRtcSet_frame h
  | .addressConflict, _, _, h => execAddressConflict_frame h
  | .flushAgeTimeout, _, _, h => execFlushAgeTimeout_frame h
  | .flushComplete, _, _, h => execFlushComplete_frame h
  | .floodWindowEnd, _, _, h => execFloodWindowEnd_frame h
  | .recordsLostPointEnd, _, _, h => execRecordsLostPointEnd_frame h
  | .evrCursorWrite _ _, _, _, h => execEvrCursorWrite_frame h
  | .evrNext _, _, _, h => execEvrNext_frame h
  | .evrPrev _, _, _, h => execEvrPrev_frame h
  | .evrOldest _, _, _, h => execEvrOldest_frame h
  | .evrNewest _, _, _, h => execEvrNewest_frame h
  | .cvuStart _ _, _, _, h => execCvuStart_frame h
  | .cvuClear _ _, _, _, h => execCvuClear_frame h
  | .cvuValueWrite _ _ _, _, _, h => execCvuValueWrite_frame h
  | .cvuDataFeed _ _ _ _, _, _, h => execCvuDataFeed_frame h
  | .cvuByteFeed _ _ _, _, _, h => execCvuByteFeed_frame h
  | .cvuExpectWrite _ _ _, _, _, h => execCvuExpectWrite_frame h
  | .cvuConfigWrite _ _ _, _, _, h => execCvuConfigWrite_frame h
  | .cvuClaimWrite _ _, _, _, h => execCvuClaimWrite_frame h
  | .chopPowerOn _ _ _, _, _, h => execChopPowerOn_frame h
  | .chopSupplyFall, _, _, h => execChopSupplyFall_frame h
  | .meterPulseEdge _ _ _, _, _, h => execMeterPulseEdge_frame h
  | .chopStep _, _, _, h => execChopStep_frame h
  | .gradeChange _ _, _, _, h => execGradeChange_frame h
  | .gradeUnknown _, _, _, h => execGradeUnknown_frame h
  | .chopExportSend, _, _, h => execChopExportSend_frame h
  | .chopExportReceived _, _, _, h => execChopExportReceived_frame h
  | .chopExportStale, _, _, h => execChopExportStale_frame h
  | .verifierSwitchOpen, _, _, h => execVerifierSwitchOpen_frame h
  | .verifierSwitchClose, _, _, h => execVerifierSwitchClose_frame h
  | .verifierOpen _, _, _, h => execVerifierOpen_frame h
  | .verifierAuth _, _, _, h => execVerifierAuth_frame h
  | .readParameters _, _, _, h => execReadParameters_frame h
  | .stage _ _ _ _, _, _, h => execStage_frame h
  | .discard _, _, _, h => execDiscard_frame h
  | .readTrail _ _ _, _, _, h => execReadTrail_frame h
  | .chopRectangleRenew, _, _, h => execChopRectangleRenew_frame h
  | .panelFrameStart, _, _, h => execPanelFrameStart_frame h
  | .rectangleUpdateEnd _, _, _, h => execRectangleUpdateEnd_frame h
  | .railsIdleOff, _, _, h => execRailsIdleOff_frame h
  | .railFault, _, _, h => execRailFault_frame h
  | .railRetry, _, _, h => execRailRetry_frame h
  | .panelTemperatureMeasure _, _, _, h => execPanelTemperatureMeasure_frame h
  | .redraw _, _, _, h => execRedraw_frame h
  | .dspClear _, _, _, h => execDspClear_frame h
  | .reinit _ _, _, _, h => execReinit_frame h
  | .dspPageWrite _ _, _, _, h => execDspPageWrite_frame h
  | .dspFlWrite _ _, _, _, h => execDspFlWrite_frame h
  | .panelStartSequence _, _, _, h => execPanelStartSequence_frame h
  | .vinWarning _, _, _, h => execVinWarning_frame h
  | .brownoutEpisodeEnd _ _, _, _, h => execBrownoutEpisodeEnd_frame h
  | .supplyUnstableEnd, _, _, h => execSupplyUnstableEnd_frame h
  | .vinResetThreshold _, _, _, h => execVinResetThreshold_frame h
  | .internalSuppliesStop, _, _, h => execInternalSuppliesStop_frame h
  | .vinRestart, _, _, h => execVinRestart_frame h
  | .vinHigh _ _, _, _, h => execVinHigh_frame h
  | .vbakLow _, _, _, h => execVbakLow_frame h
  | .retentionDomainLost, _, _, h => execRetentionDomainLost_frame h
  | .resetPinAssert, _, _, h => execResetPinAssert_frame h
  | .resetPinRelease, _, _, h => execResetPinRelease_frame h
  | .resetInputStuck, _, _, h => execResetInputStuck_frame h
  | .junctionOvertemperature _, _, _, h => execJunctionOvertemperature_frame h
  | .startSequence _, _, _, h => execStartSequence_frame h
  | .warmStartSequence _, _, _, h => execWarmStartSequence_frame h
  | .runNotReached, _, _, h => execRunNotReached_frame h
  | .failCountClear, _, _, h => execFailCountClear_frame h
  | .commitRestart, _, _, h => execCommitRestart_frame h
  | .surveyMeasurement _ _, _, _, h => execSurveyMeasurement_frame h
  | .surveyFastSample _ _, _, _, h => execSurveyFastSample_frame h
  | .imageWriteBegin _ _, _, _, h => execImageWriteBegin_frame h
  | .imageWriteData _ _ _ _ _, _, _, h => execImageWriteData_frame h
  | .imageWriteCommit _ _, _, _, h => execImageWriteCommit_frame h
  | .imageWriteAbort _ _, _, _, h => execImageWriteAbort_frame h
  | .senderRepeat, _, _, h => execSenderRepeat_frame h
  | .partnerConfirmation, _, _, h => execPartnerConfirmation_frame h
  | .modbusConnectionOpen _, _, _, h => execModbusConnectionOpen_frame h

/-- The queue of commands and the fused identity stand in no command's list. -/
theorem touches_without_queue_and_id (c : Instr) :
    (touches c).contains .pending = false ∧ (touches c).contains .id = false := by
  cases c <;> exact ⟨rfl, rfl⟩

/-- No pair is listed after a reset, so none is closed. -/
theorem pairsOk_reset : PairsOk State.reset := by
  intro p hp
  exact absurd hp List.not_mem_nil

/-- The ring is empty after a reset. -/
theorem ringOk_reset : RingOk State.reset := ⟨Nat.zero_le _, rfl⟩

end Sys2Proof.Machine

open Sys2Proof Sys2Proof.Machine

/-- Settles O3, command by command. -/
theorem commandKeepsItsFrame : Obligations.CommandKeepsItsFrame :=
  ⟨exec_changes_touches, touches_without_queue_and_id⟩

/-- Settles O8: the reset state lists no pair, no record, no message and no command. -/
theorem resetInOrder : Obligations.ResetInOrder :=
  ⟨pairsOk_reset, ringOk_reset, rfl, rfl, rfl, rfl⟩
end

section
/-! Requests of a session: the level that admission found, and what answers after the sessions were touched. -/

namespace Sys2Proof.Machine

variable {r : Req} {lvl : BitVec 2} {s : State}

/-- Counting a request leaves everything of the session that a client sees. -/
theorem countRequest_cursor (n : Nat) (x : Session) : (countRequest n x).cursor = x.cursor := by
  unfold countRequest
  dsimp only
  split <;> rfl

/-- The session of an admitted request: open, not 0, of at least the level asked for. -/
theorem admits_session (h : admits r lvl s = true) :
    ∃ x, findSession s r.sess = some x ∧ r.sess ≠ 0 ∧ lvl ≤ x.level := by
  unfold admits at h
  split at h
  · cases h
  · rename_i x e
    simp only [rightMessage, Bool.and_eq_true, bne_iff_ne, ne_eq, decide_eq_true_eq] at h
    obtain ⟨⟨⟨⟨⟨⟨⟨-, hz⟩, -⟩, -⟩, -⟩, -⟩, -⟩, hl⟩ := h
    exact ⟨x, e, hz, hl⟩

/-- Admission takes over the SEQ and the count, and leaves the session's identity and cursor. -/
theorem findSession_admitted {x : Session} (hx : findSession s r.sess = some x) :
    findSession (admitted r s) r.sess = some { countRequest (nowUs s) x with seq := r.seq } := by
  obtain ⟨ci, -, -, co⟩ := countRequest_same (nowUs s) x
  have hp := List.find?_some hx
  simp only [Bool.and_eq_true, beq_iff_eq] at hp
  unfold admitted
  simp only [hx]
  exact findSession_set (by simpa using hx) (by simpa [ci] using hp.1) (by simpa [co] using hp.2)

/-- A request admitted at one level is admitted at every level that its session has. -/
theorem admits_iff_level (h : admits r lvl s = true) (m : BitVec 2) :
    admits r m s = true ↔ m ≤ levelOf (admitted r s) r.sess := by
  obtain ⟨x, hx, -, -⟩ := admits_session h
  obtain ⟨-, -, cl, -⟩ := countRequest_same (nowUs s) x
  unfold admits at h ⊢
  simp only [hx, Bool.and_eq_true, decide_eq_true_eq] at h ⊢
  simp [levelOf, findSession_admitted hx, cl, h]

theorem admits_mono (h : admits r lvl s = true) {m : BitVec 2} (hm : m ≤ lvl) : admits r m s = true := by
  obtain ⟨x, hx, -, hl⟩ := admits_session h
  obtain ⟨-, -, cl, -⟩ := countRequest_same (nowUs s) x
  refine (admits_iff_level h m).mpr ?_
  simpa [levelOf, findSession_admitted hx, cl] using BitVec.le_trans hm hl

/-- A response goes to the session as the state answered in holds it. -/
theorem reply_eq_responses (hz : r.sess ≠ 0) (st : BitVec 16) (body : List Byte) (t : State) :
    reply r st body t = { t with sent := t.sent ++ responses r st body t } := by
  unfold reply responses
  rw [if_neg hz]
  cases findSession t r.sess with
  | none => simp only [List.append_nil]
  | some x => rfl

/-- The response depends on the session's identity, key and level and on the frames sent before. -/
theorem responses_congr {t : State} {x y : Session} (hx : findSession s r.sess = some x) (hy : findSession t r.sess = some y)
    (hi : y.id = x.id) (hk : y.key = x.key) (hl : y.level = x.level) (hs : t.sent = s.sent) (st : BitVec 16)
    (body : List Byte) : responses r st body t = responses r st body s := by
  simp only [responses, hx, hy, messageTo, hi, hk, hl, lanSeq, hs]

/-- As `reply_ok`, where the record of the plant network changed beside the sessions. -/
theorem reply_of_sessions {t : State} (h : admits r lvl s = true) (hp : t.pnw.sessions = (admitted r s).pnw.sessions)
    (hs : t.sent = s.sent) (st : BitVec 16) (body : List Byte) :
    reply r st body t = { t with sent := s.sent ++ responses r st body s } := by
  obtain ⟨x, hx, hz, -⟩ := admits_session h
  obtain ⟨ci, ck, cl, -⟩ := countRequest_same (nowUs s) x
  have hy : findSession t r.sess = some { countRequest (nowUs s) x with seq := r.seq } := by
    rw [← findSession_admitted hx]
    simp only [findSession, hp]
  rw [reply_eq_responses hz, responses_congr hx hy ci ck cl hs, hs]

/-- A command answered on the admitted state, or on one that differs from it in nothing the answer shows, is answered as the
statements ask. -/
theorem does_answered {c : Instr} {t : State} {st : BitVec 16} {body : List Byte} (h : admits r lvl s = true)
    (he : exec c s = .next (reply r st body t)) (hp : t.pnw = (admitted r s).pnw) (hs : t.sent = s.sent) :
    Does c s (fun u => Answered r st body s u ∧ u = { t with sent := u.sent }) := by
  rw [reply_ok h st body hp hs] at he
  exact ⟨_, he, ⟨rfl, hp⟩, rfl⟩

theorem Does.mono {c : Instr} {P Q : State → Prop} (h : Does c s P) (hPQ : ∀ t, P t → Q t) : Does c s Q := by
  obtain ⟨t, he, hP⟩ := h
  exact ⟨t, he, hPQ t hP⟩

end Sys2Proof.Machine
end

section
/-! What a register read answers (R8, R9, R340), and runs of words (R333). -/

namespace Sys2Proof.Machine

variable {w : Who} {s : State} {a n : Nat}

/-! ### One word -/

theorem objRead_none (h : regView w s a = none) : objRead w a s = none := by
  simp only [objRead, h]

theorem objRead_rv {v : Word} (h : regView w s a = some (rv v)) : objRead w a s = some (v, readEffect a s) := by
  simp only [objRead, h, rv, if_pos]

theorem regView_unaligned (h : a % 4 ≠ 0) : regView w s a = none := by
  simp [regView, h]

/-- The VAR region holds the tags (R53, R340). -/
theorem regView_var (h : 0x10000000 ≤ a) : regView w s a =
    if a % 4 = 0 ∧ a < 0x10080000 ∧ isTag s ((a - 0x10000000) / 4) = true then some (rv (tagValue s ((a - 0x10000000) / 4))) else none := by
  have above : ∀ b, b ≤ 0x10000000 → ¬ a < b := by omega
  by_cases h4 : a % 4 = 0
  · by_cases hb : a < 0x10080000 <;> simp [regView, above, h4, hb]
  · simp [regView, h4]

/-- No register of the VAR region is cleared by its read. -/
theorem readEffect_var (h : 0x10000000 ≤ a) : readEffect a s = s := by
  unfold readEffect
  split
  case h_15 => exact if_neg (by simp; omega)
  all_goals omega

theorem objRead_tag (hn : n < 0x20000) (h : isTag s n = true) :
    objRead w (0x10000000 + 4 * n) s = some (tagValue s n, s) := by
  have hv : regView w s (0x10000000 + 4 * n) = some (rv (tagValue s n)) := by
    rw [regView_var (by omega)]
    simp [show (4 * n) / 4 = n by omega, h]
    omega
  rw [objRead_rv hv, readEffect_var (by omega)]

theorem objRead_noTag (hn : n < 0x20000) (h : isTag s n = false) : objRead w (0x10000000 + 4 * n) s = none := by
  refine objRead_none ?_
  rw [regView_var (by omega)]
  simp [show (4 * n) / 4 = n by omega, h]

theorem objRead_beyond (h : 0x10080000 ≤ a) : objRead w a s = none := by
  refine objRead_none ?_
  rw [regView_var (by omega)]
  simp
  omega

/-! ### Runs of words -/

theorem readWords_all (f : Nat → Word) (h : ∀ k, k < n → objRead w (a + 4 * k) s = some (f k, s)) :
    readWords w a n s = some ((List.range n).map f, s) := by
  induction n generalizing a f with
  | zero => rfl
  | succ n ih =>
    have h0 : objRead w a s = some (f 0, s) := h 0 (by omega)
    have ht := ih (a := a + 4) (fun k => f (k + 1)) (fun k hk => by
      have := h (k + 1) (by omega)
      rwa [show a + 4 * (k + 1) = a + 4 + 4 * k by omega] at this)
    simp only [readWords, h0, ht, Option.map_some, List.range_succ_eq_map, List.map_cons, List.map_map]
    rfl

theorem readWords_refused (f : Nat → Word) {k : Nat} (hk : k < n) (h : ∀ j, j < k → objRead w (a + 4 * j) s = some (f j, s))
    (hr : objRead w (a + 4 * k) s = none) : readWords w a n s = none := by
  induction k generalizing a n f with
  | zero =>
    obtain ⟨n, rfl⟩ := Nat.exists_eq_add_of_lt hk
    have h0 : objRead w a s = none := hr
    simp only [readWords, h0]
  | succ k ih =>
    obtain ⟨n, rfl⟩ : ∃ m, n = m + 1 := ⟨n - 1, by omega⟩
    have h0 : objRead w a s = some (f 0, s) := h 0 (by omega)
    have ht := ih (a := a + 4) (n := n) (fun k => f (k + 1)) (by omega)
      (fun j hj => by
        have := h (j + 1) (by omega)
        rwa [show a + 4 * (j + 1) = a + 4 + 4 * j by omega] at this)
      (by rwa [show a + 4 + 4 * k = a + 4 * (k + 1) by omega])
    simp only [readWords, h0, ht, Option.map_none]

end Sys2Proof.Machine
end

section
/-! READ, READVAR, EVENTS and READ_CHANGED_CONSTANTS (R80, R328, R356). -/

namespace Sys2Proof.Machine

variable {r : Req} {s : State} {c : Instr} {a n : Nat}

/-! ### Runs of words answered -/

/-- How a command that reads `n` words from an address on is answered: the clauses of O49 for READ and READVAR. -/
def ReadsWords (r : Req) (c : Instr) (a n : Nat) (s : State) : Prop :=
  let s' := admitted r s
  let who := Who.sess r.sess (levelOf s' r.sess)
  (n = 0 ∨ 256 < n → Does c s (Answered r 0x0005 [] s)) ∧
  (∀ f : Nat → Word, 1 ≤ n → n ≤ 256 → (∀ k, k < n → objRead who (a + 4 * k) s' = some (f k, s')) →
    Does c s (Answered r 0 (wordsBytes ((List.range n).map f)) s)) ∧
  (∀ v t, n = 1 → objRead who a s' = some (v, t) → Does c s (fun u => u = { t with sent := t.sent ++ responses r 0 (Word.bytes v) t })) ∧
  (∀ (f : Nat → Word) (k : Nat), k < n → n ≤ 256 → (∀ j, j < k → objRead who (a + 4 * j) s' = some (f j, s')) →
    objRead who (a + 4 * k) s' = none → Does c s (Answered r 0x0001 [] s))

theorem readSpace_wrongCount (h : n = 0 ∨ 256 < n) : readSpace r a n s = reply r stMalformed [] s := by
  unfold readSpace
  rw [if_pos (by simpa using h)]

theorem readSpace_refused (hn : 1 ≤ n) (hm : n ≤ 256) (h : readWords (.sess r.sess (levelOf s r.sess)) a n s = none) :
    readSpace r a n s = reply r stAccess [] s := by
  unfold readSpace
  rw [if_neg (by simp; omega), h]

theorem readSpace_words {ws : List Word} {t : State} (hn : 1 ≤ n) (hm : n ≤ 256)
    (h : readWords (.sess r.sess (levelOf s r.sess)) a n s = some (ws, t)) :
    readSpace r a n s = reply r stOk (wordsBytes ws) t := by
  unfold readSpace
  rw [if_neg (by simp; omega), h]

theorem readsWords (h : admits r lvView s = true) (he : exec c s = .next (readSpace r a n (admitted r s))) :
    ReadsWords r c a n s := by
  have answered : ∀ {st body}, readSpace r a n (admitted r s) = reply r st body (admitted r s) → Does c s (Answered r st body s) :=
    fun e => (does_answered h (e ▸ he) rfl admitted_sent).mono fun _ p => p.1
  refine ⟨fun hn => answered (readSpace_wrongCount hn), fun f h1 hm hf => ?_, fun v t h1 hv => ?_, fun f k hk hm hf hr => ?_⟩
  · exact answered (readSpace_words h1 hm (readWords_all f hf))
  · subst h1
    have hw : readSpace r a 1 (admitted r s) = reply r stOk (wordsBytes [v]) t :=
      readSpace_words (by omega) (by omega) (by simp only [readWords, hv, Option.map_some])
    obtain ⟨x, -, hz, -⟩ := admits_session h
    rw [hw, reply_eq_responses hz] at he
    exact ⟨_, he, by simp [wordsBytes, stOk]⟩
  · exact answered (readSpace_refused (by omega) hm (readWords_refused f hk hf hr))

/-! ### EVENTS -/

/-- How a command that reads `n` records from a SEQ on is answered: the clauses of O49 for EVENTS. -/
def ReadsEvents (r : Req) (c : Instr) (n : Nat) (q : Word) (s : State) : Prop :=
  let all := s.evr.store ++ s.evr.ring
  let cur := ((findSession s r.sess).map (·.cursor.cur)).getD 0
  (n = 0 ∨ 44 < n → Does c s (Answered r 0x0003 [] s)) ∧
  (1 ≤ n → n ≤ 44 → ∀ l, (all.filter (fun x => decide ((q - x.seq).toInt ≤ 0))).take n = l →
    (l = [] → Does c s (Answered r 0 ([0, 0] ++ Word.bytes cur ++ [0, 0, 0, 0]) s)) ∧
    (∀ x y, l.head? = some x → l.getLast? = some y → Does c s (fun t => t.sent = s.sent ++ responses r 0
        (le16 (BitVec.ofNat 16 l.length) ++ Word.bytes (y.seq + 1) ++ Word.bytes (x.seq - q) ++ l.flatMap (recBytes s.id.serial)) s ∧
      (findSession t r.sess).map (·.cursor.cur) = some (y.seq + 1) ∧ t.evr = s.evr)))

/-- The records that EVENTS answers from a SEQ. -/
def eventsOf (e : Evr) (n : Nat) (q : Word) : List Rec := ((allRecs e).filter (fun x => !seqLt x.seq q)).take n

theorem eventsOf_eq (e : Evr) (n : Nat) (q : Word) :
    eventsOf e n q = ((e.store ++ e.ring).filter (fun x => decide ((q - x.seq).toInt ≤ 0))).take n := by
  simp only [eventsOf, allRecs, seqLt, gt_iff_lt, ← decide_not, Int.not_lt]

theorem eventsFrom_nothing {q : Word} (h : eventsOf s.evr n q = []) :
    eventsFrom r n q s = reply r stOk ([0, 0] ++ Word.bytes (((findSession s r.sess).map (·.cursor.cur)).getD 0) ++ [0, 0, 0, 0]) s := by
  unfold eventsOf at h
  unfold eventsFrom
  simp only [h, List.head?_nil]
  rfl

/-- A cursor behind the last of the records answered. -/
def pastRecords (e : Evr) (first last : Rec) (q : Word) (k : Cursor) : Cursor :=
  { k with cur := last.seq + 1, skip := first.seq - q, state := if (allRecs e).any (fun y => y.seq == last.seq + 1) then 0 else 2 }

/-- The state with the session's cursor behind them. -/
def pastEvents (r : Req) (first last : Rec) (q : Word) (s : State) : State :=
  setSession r.sess (fun x => { x with cursor := pastRecords s.evr first last q x.cursor }) s

theorem eventsFrom_records {q : Word} {x y : Rec} (hx : (eventsOf s.evr n q).head? = some x)
    (hy : (eventsOf s.evr n q).getLast? = some y) :
    eventsFrom r n q s = reply r stOk (le16 (BitVec.ofNat 16 (eventsOf s.evr n q).length) ++ Word.bytes (y.seq + 1) ++
      Word.bytes (x.seq - q) ++ (eventsOf s.evr n q).flatMap (recBytes s.id.serial)) (pastEvents r x y q s) := by
  unfold eventsOf at *
  unfold eventsFrom
  simp only [hx, hy]
  rfl

theorem findSession_mapCursor {x : Session} {f : Cursor → Cursor} (i : Word) (hx : findSession s i = some x) :
    findSession (setSession i (fun x => { x with cursor := f x.cursor }) s) i = some { x with cursor := f x.cursor } := by
  have hp := List.find?_some hx
  simp only [Bool.and_eq_true, beq_iff_eq] at hp
  unfold findSession setSession at *
  dsimp only
  rw [List.find?_map]
  have e : ((fun x : Session => x.id == i && x.opened) ∘ fun x => if (x.id == i) = true then { x with cursor := f x.cursor } else x) =
      fun x => x.id == i && x.opened := by
    funext z
    by_cases hz : z.id = i <;> simp [hz]
  rw [e, hx]
  simp [hp.1]

theorem findSession_pastEvents {x : Session} (first last : Rec) (q : Word) (hx : findSession s r.sess = some x) :
    ∃ y, findSession (pastEvents r first last q s) r.sess = some y ∧ y.cursor.cur = last.seq + 1 ∧ y.id = x.id ∧
      y.key = x.key ∧ y.level = x.level :=
  ⟨_, findSession_mapCursor (f := pastRecords s.evr first last q) r.sess hx, rfl, rfl, rfl, rfl⟩

theorem readsEvents {count : BitVec 16} {q : Word} (h : admits r lvView s = true)
    (he : exec c s = .next (acceptIf r (decide (1 ≤ count) && decide (count ≤ 44)) stRange (eventsFrom r count.toNat q) (admitted r s))) :
    ReadsEvents r c count.toNat q s := by
  obtain ⟨x, hx, hz, -⟩ := admits_session h
  obtain ⟨ci, ck, cl, -⟩ := countRequest_same (nowUs s) x
  have hok : (decide (1 ≤ count) && decide (count ≤ 44)) = decide (1 ≤ count.toNat ∧ count.toNat ≤ 44) := by
    simp [BitVec.le_def]
  have hevr : (admitted r s).evr = s.evr := admitted_evr
  rw [hok, acceptIf] at he
  refine ⟨fun hn => ?_, fun h1 hm l hl => ⟨fun hnil => ?_, fun a z ha hz' => ?_⟩⟩
  · rw [if_neg (by simp; omega)] at he
    exact (does_answered h he rfl admitted_sent).mono fun _ p => p.1
  · rw [if_pos (by simp; omega), eventsFrom_nothing (by rw [hevr, eventsOf_eq, hl, hnil])] at he
    refine (does_answered h he rfl admitted_sent).mono fun _ p => ?_
    simpa [findSession_admitted hx, hx, countRequest_cursor, stOk] using p.1
  · rw [← eventsOf_eq, ← hevr] at hl
    subst hl
    rw [if_pos (by simp; omega), eventsFrom_records ha hz', reply_eq_responses hz] at he
    obtain ⟨y, hy, yc, yi, yk, yl⟩ := findSession_pastEvents a z q (findSession_admitted hx)
    have hs : (pastEvents r a z q (admitted r s)).sent = s.sent := admitted_sent
    rw [responses_congr hx hy (yi.trans ci) (yk.trans ck) (yl.trans cl) hs, hs, admitted_id] at he
    exact ⟨_, he, rfl, (congrArg _ hy).trans (congrArg some yc), hevr⟩

/-- EVENTS of every operation is carried out on the admitted state. -/
theorem events_admitted (h : admits r lvView s = true) (count : BitVec 16) (start : State → Word) :
    events r count start s = acceptIf r (decide (1 ≤ count) && decide (count ≤ 44)) stRange
      (eventsFrom r count.toNat (start (admitted r s))) (admitted r s) := by
  unfold events
  rw [screenReq_ok h (.inr rfl)]
  rfl

/-! ### The list of changed constants -/

theorem exec_readChangedConstants (h : admits r lvView s = true) (hd : s.sup.mode ≠ .decaf) : exec (.readChangedConstants r) s =
    .next (reply r stOk (s.cyc.consts.flatMap (fun p => Word.bytes (BitVec.ofNat 32 p.1) ++ Word.bytes p.2)) (admitted r s)) := by
  rw [← admitted_cyc (r := r) (s := s)]
  exact congrArg Host.Outcome.next (screenReq_ok h (.inl hd))

/-! ### Records as bytes -/

theorem length_recBytes (serial : Word) (x : Rec) : (recBytes serial x).length = 32 := rfl

theorem recBytes_take (serial : Word) (x : Rec) : (recBytes serial x).take 28 = Word.bytes x.seq ++ recBody x := rfl

theorem recBytes_check (serial : Word) (x : Rec) :
    (recBytes serial x).drop 28 = Word.bytes (crc32c crcInit (Word.bytes serial ++ (recBytes serial x).take 28)) := by
  rw [recBytes_take]
  simp only [crc32c, List.foldl_append]
  rfl

end Sys2Proof.Machine

open Sys2Proof Sys2Proof.Machine

/-- Settles O49: single registers by their view, READ and READVAR by their run of words, EVENTS by the records it finds. -/
theorem reads : Obligations.Reads := by
  refine ⟨fun w s => ⟨fun a h => objRead_none (regView_unaligned h), rfl, rfl, rfl, fun n hn h => objRead_noTag hn h,
      fun a h => objRead_beyond h, fun n hn h => objRead_tag hn h, rfl, rfl, rfl, rfl, rfl⟩,
    fun r s h => ⟨fun addr count => ⟨?_, fun hd => ?_⟩, fun count => ⟨fun q => ?_, ?_, ?_, ?_⟩, fun hd => ?_⟩,
    fun serial x => ⟨length_recBytes serial x, rfl, recBytes_check serial x⟩⟩
  · exact readsWords h (congrArg Host.Outcome.next (screenReq_ok h (.inr rfl)))
  · exact readsWords h (congrArg Host.Outcome.next (screenReq_ok h (.inl hd)))
  · exact readsEvents h (congrArg Host.Outcome.next (events_admitted h count _))
  · have e := readsEvents (c := .eventsFromOldest r count) h (congrArg Host.Outcome.next (events_admitted h count _))
    rwa [admitted_evr] at e
  · obtain ⟨x, hx, -, -⟩ := admits_session h
    have e := readsEvents (c := .eventsFromCursor r count) h (congrArg Host.Outcome.next (events_admitted h count _))
    have hq : (cursorOf (admitted r s) (.sess r.sess 0)).cur = ((findSession s r.sess).map (·.cursor.cur)).getD 0 := by
      simp only [cursorOf, findSession_admitted hx, hx, countRequest_cursor, Option.map_some, Option.getD_some]
    rwa [hq] at e
  · have e := readsEvents (c := .eventsNewest r count) h (congrArg Host.Outcome.next (events_admitted h count _))
    rwa [admitted_evr] at e
  · exact (does_answered h (exec_readChangedConstants h hd) rfl admitted_sent).mono fun _ p => p.1
end

section
/-! Commands for both modules of a pair that wait for a T0 (R79, R333), batches of changes (R78), forces (R81). -/

namespace Sys2Proof.Machine

variable {r : Req} {lvl : BitVec 2} {s : State} {c : Instr} {body : List Byte}

/-! ### What admission leaves -/

@[simp] theorem admitted_batchBad (b : List OlcEntry) : batchBad (admitted r s) b = batchBad s b := by
  obtain ⟨p, h⟩ := admitted_eq r s
  rw [h]
  rfl

@[simp] theorem admitted_isTag (n : Nat) : isTag (admitted r s) n = isTag s n := by
  simp only [isTag, admitted_img]

@[simp] theorem admitted_inService : inService (admitted r s) = inService s := by
  simp only [inService, admitted_inRun, admitted_sup]

/-- Which cell lies under which is the image's. -/
theorem inCell_of_img {t : State} (h : t.img = s.img) (anc n : Nat) : inCell t anc n = inCell s anc n := by
  have under : ∀ k n, underCell t anc k n = underCell s anc k n := by
    intro k
    induction k with
    | zero => exact fun _ => rfl
    | succ k ih => intro n; simp only [underCell, cellCfg, h, ih]
  simp only [inCell, h, under]

@[simp] theorem admitted_targetCell (t : ForceTarget) : targetCell (admitted r s) t = targetCell s t := by
  obtain ⟨p, h⟩ := admitted_eq r s
  rw [h]
  rfl

@[simp] theorem admitted_forcesAfter : forcesAfter (admitted r s) = forcesAfter s := by
  simp only [forcesAfter, admitted_cyc, inCell_of_img admitted_img, admitted_targetCell]

@[simp] theorem admitted_forceBad (t : ForceTarget) (set : Bool) : forceBad (admitted r s) t set = forceBad s t set := by
  have hf : forceable (admitted r s) t = forceable s t := by
    cases t <;> simp only [forceable, admitted_isTag, isConst, admitted_img]
  have hs : safetyTarget (admitted r s) t = safetyTarget s t := by
    cases t <;> simp only [safetyTarget, admitted_img]
  simp only [forceBad, hf, hs, admitted_inService, admitted_sup, admitted_forcesAfter]

/-! ### A command that waits for a T0 -/

/-- A T0 act put in line at the time of its acceptance. -/
def Lined (a : T0Act) (s t : State) : Prop := t.cyc = { s.cyc with sched := s.cyc.sched ++ [⟨nowUs s, a, false⟩] }

/-- What is forwarded depends on neither the plant network nor the cycle. -/
theorem forwardNow_with (c : FwdCmd) (p : Pnw) (y : Cyc) (s : State) :
    forwardNow c { s with pnw := p, cyc := y } = { forwardNow c s with pnw := p, cyc := y } := by
  unfold forwardNow slSend
  split
  · exact (if_pos ‹_›).symm ▸ rfl
  · exact (if_neg ‹_›).symm ▸ rfl

@[simp] theorem forwardNow_unconfirmed (c : FwdCmd) (s : State) : (forwardNow c s).pst.unconfirmed = s.pst.unconfirmed := by
  unfold forwardNow slSend
  split <;> rfl

theorem forwardNow_scheduled (f : FwdCmd) (a : T0Act) (r : Req) (s : State) : forwardNow f (schedule a (admitted r s)) =
    { forwardNow f s with
      pnw := (admitted r s).pnw, cyc := { s.cyc with sched := s.cyc.sched ++ [⟨nowUs s, a, false⟩] } } := by
  obtain ⟨p, h⟩ := admitted_eq r s
  rw [h]
  exact forwardNow_with f p _ s

theorem forwardBoth_scheduled {f : FwdCmd} {a : T0Act} (hf : fwdAct f = some a) (o : Origin) :
    ∃ t, forwardBoth o f (schedule a) (admitted r s) = t ∧ t.pnw = (admitted r s).pnw ∧ t.sent = (forwardNow f s).sent ∧
      t.pst = { (forwardNow f s).pst with unconfirmed := s.pst.unconfirmed ++ [(f, o, nowUs s)] } ∧ Lined a s t := by
  have ht : (forwardNow f s).tim = s.tim := forwardNow_changes f s .tim rfl
  unfold forwardBoth
  simp only [hf, Option.isSome_some, if_true, forwardNow_scheduled]
  exact ⟨_, rfl, rfl, rfl, by simp [nowUs, ht], rfl⟩

/-- A command for a T0, accepted: answered at once by a single module, forwarded by a pair member (R79). -/
theorem does_accepted {f : FwdCmd} {a : T0Act} (h : admits r lvl s = true) (hf : fwdAct f = some a)
    (he : exec c s = .next (acceptWith r body f (schedule a) (admitted r s))) :
    Does c s (fun t => AcceptedWith r body f s t ∧ Lined a s t) := by
  unfold acceptWith at he
  rw [admitted_paired] at he
  cases hp : paired s with
  | true =>
    obtain ⟨t, e, hpnw, hsent, hpst, hl⟩ := forwardBoth_scheduled (r := r) (s := s) hf (.sess r body)
    rw [hp, if_pos rfl, e] at he
    exact ⟨t, he, ⟨hpnw, by rw [hp]; exact ⟨hsent, hpst⟩⟩, hl⟩
  | false =>
    rw [hp, if_neg (by decide), reply_ok h stOk body (t := schedule a (admitted r s)) rfl admitted_sent] at he
    exact ⟨_, he, ⟨rfl, by rw [hp]; exact ⟨rfl, admitted_pst⟩⟩, by simp [Lined, schedule]⟩

/-- A write that is a command for a T0 is answered as the command is. -/
theorem answer_doneBoth {g : State → Written} {f : FwdCmd} {a : T0Act} (hf : fwdAct f = some a)
    (hg : g s = doneBoth r f (schedule a) s) : answer r g s = acceptBoth r f (schedule a) s := by
  unfold answer acceptBoth acceptWith
  rw [hg]
  unfold doneBoth done
  cases hp : paired s with
  | true => simp [forwardBoth, hf, schedule]
  | false => simp [schedule]

/-- A command refused with a mark in CYC_EVT. -/
theorem does_refused {st : BitVec 16} {f : Cyc → Cyc} (h : admits r lvl s = true)
    (he : exec c s = .next (reply r st body (onCyc f (admitted r s)))) :
    Does c s (fun t => Answered r st body s t ∧ t.cyc = f s.cyc) := by
  refine (does_answered h he rfl admitted_sent).mono fun t ⟨ha, ht⟩ => ⟨ha, ?_⟩
  rw [ht]
  simp

/-! ### Batches of changes -/

/-- An entry that R78 admits: a value write names a variable and a constant change a constant, a safety-related one only in
Commissioning. -/
def EntryOk (s : State) (e : OlcEntry) : Prop :=
  (if e.const then isConst s e.tag = true else s.img.varLo ≤ e.tag ∧ e.tag < s.img.varHi) ∧
    (safetyTarget s (.tag e.tag) = true → s.sup.mode = .commissioning)

/-- Whether an entry's kind matches the area of its tag (R78, log 116). -/
def entryArea (s : State) (e : OlcEntry) : Bool :=
  if e.const then isConst s e.tag else decide (s.img.varLo ≤ e.tag) && decide (e.tag < s.img.varHi)

theorem entryOk_iff {e : OlcEntry} : EntryOk s e ↔
    entryArea s e = true ∧ (safetyTarget s (.tag e.tag) && s.sup.mode != .commissioning) = false := by
  unfold EntryOk entryArea
  cases e.const <;> simp

theorem entryBad_eq (s : State) (e : OlcEntry) : entryBad s e =
    if !entryArea s e then some stRange
    else if safetyTarget s (.tag e.tag) && s.sup.mode != .commissioning then some stState else none := rfl

theorem entryBad_none {e : OlcEntry} (h : EntryOk s e) : entryBad s e = none := by
  obtain ⟨harea, hsafe⟩ := entryOk_iff.mp h
  simp [entryBad_eq, harea, hsafe]

theorem entryBad_some {e : OlcEntry} (h : ¬EntryOk s e) : ∃ st, (st = 0x0003 ∨ st = 0x0002) ∧ entryBad s e = some st := by
  rw [entryOk_iff] at h
  rw [entryBad_eq]
  cases harea : entryArea s e with
  | false => exact ⟨_, .inl rfl, rfl⟩
  | true => exact ⟨_, .inr rfl, by simp [harea] at h ⊢; simp [h, stState]⟩

theorem constTags_append (b l : List OlcEntry) : ∃ m, constTags s (b ++ l) = constTags s b ++ m := by
  unfold constTags
  dsimp only
  rw [← List.append_assoc, List.filter_append (_ ++ b) l, List.map_append, ← List.append_assoc, List.eraseDups_append]
  exact ⟨_, rfl⟩

/-- The list of changed constants grows along a batch. -/
theorem constTags_take_le (b : List OlcEntry) {i j : Nat} (h : i ≤ j) :
    (constTags s (b.take i)).length ≤ (constTags s (b.take j)).length := by
  obtain ⟨l, hl⟩ := List.take_prefix_take_left h (l := b)
  obtain ⟨m, hm⟩ := constTags_append (s := s) (b.take i) l
  rw [← hl, hm, List.length_append]
  exact Nat.le_add_right _ _

theorem constTags_values {b : List OlcEntry} (h : ∀ e ∈ b, e.const = false) : constTags s b = constTags s [] := by
  have e : b.filter (·.const) = [] := List.filter_eq_nil_iff.mpr (by simpa using h)
  simp [constTags, List.filter_append, e]

/-- The first entry of a list that a function answers for, with its index. -/
theorem findSome_zipIdx {α β : Type} {f : α → Option β} {x : β} {e : α} {l : List α} {i : Nat} (k : Nat) (hi : l[i]? = some e)
    (he : f e = some x) (hlt : ∀ j g, j < i → l[j]? = some g → f g = none) :
    (l.zipIdx k).findSome? (fun p => (f p.1).map (fun y => (y, p.2))) = some (x, k + i) := by
  induction l generalizing i k with
  | nil => simp at hi
  | cons a l ih =>
    cases i with
    | zero =>
      obtain rfl : a = e := by simpa using hi
      simp [he]
    | succ i =>
      have h0 : f a = none := hlt 0 a (by omega) rfl
      have := ih (k + 1) (by simpa using hi) (fun j g hj hg => hlt (j + 1) g (by omega) (by simpa using hg))
      simp [h0, this]
      omega

theorem batchBad_length {b : List OlcEntry} (h : b = [] ∨ 64 < b.length) : batchBad s b = some (stMalformed, 0) := by
  unfold batchBad
  rw [if_pos (by simpa using h)]

theorem batchBad_state {b : List OlcEntry} (h1 : 1 ≤ b.length) (hm : b.length ≤ 64) (hr : inRun s = false) :
    batchBad s b = some (stState, 0) := by
  unfold batchBad
  rw [if_neg (by simp [← List.length_eq_zero_iff]; omega), if_pos (by simp [hr])]

theorem batchBad_entry {b : List OlcEntry} {i : Nat} {e : OlcEntry} {st : BitVec 16} (hm : b.length ≤ 64) (hr : inRun s = true)
    (hi : b[i]? = some e) (he : entryBad s e = some st) (hlt : ∀ j f, j < i → b[j]? = some f → entryBad s f = none) :
    batchBad s b = some (st, i) := by
  have hb : b ≠ [] := by
    rintro rfl
    simp at hi
  unfold batchBad
  rw [if_neg (by simp [hb]; omega), if_neg (by simp [hr]), findSome_zipIdx 0 hi he hlt, Nat.zero_add]

/-- A batch of right length in Run whose entries all pass is judged by the list of changed constants alone. -/
theorem batchBad_of_entries {b : List OlcEntry} (h1 : 1 ≤ b.length) (hm : b.length ≤ 64) (hr : inRun s = true)
    (hok : ∀ e ∈ b, EntryOk s e) : batchBad s b =
      ((List.range b.length).find? (fun i => decide ((constTags s (b.take (i + 1))).length > 1024))).map (fun i => (stListFull, i)) := by
  have hn : b.zipIdx.findSome? (fun e => (entryBad s e.1).map (fun st => (st, e.2))) = none := by
    refine List.findSome?_eq_none_iff.mpr fun p hp => ?_
    rw [entryBad_none (hok p.1 (List.fst_mem_of_mem_zipIdx hp)), Option.map_none]
  unfold batchBad
  rw [if_neg (by simp [← List.length_eq_zero_iff]; omega), if_neg (by simp [hr]), hn]

theorem batchBad_none {b : List OlcEntry} (h1 : 1 ≤ b.length) (hm : b.length ≤ 64) (hr : inRun s = true)
    (hok : ∀ e ∈ b, EntryOk s e) (hc : (constTags s b).length ≤ 1024) : batchBad s b = none := by
  rw [batchBad_of_entries h1 hm hr hok, Option.map_eq_none_iff, List.find?_eq_none]
  intro i hi
  have := constTags_take_le (s := s) b (i := i + 1) (List.mem_range.mp hi)
  rw [List.take_length] at this
  simp
  omega

theorem batchBad_full {b : List OlcEntry} {i : Nat} (hi : i < b.length) (hm : b.length ≤ 64) (hr : inRun s = true)
    (hok : ∀ e ∈ b, EntryOk s e) (hc : (constTags s (b.take i)).length ≤ 1024) (hf : 1024 < (constTags s (b.take (i + 1))).length) :
    batchBad s b = some (stListFull, i) := by
  rw [batchBad_of_entries (by omega) hm hr hok]
  have : (List.range b.length).find? (fun i => decide ((constTags s (b.take (i + 1))).length > 1024)) = some i := by
    rw [List.find?_range_eq_some]
    refine ⟨by simpa using hf, List.mem_range.mpr hi, fun j hj => ?_⟩
    have := constTags_take_le (s := s) b (i := j + 1) hj
    simp
    omega
  rw [this, Option.map_some]

end Sys2Proof.Machine
end

section
/-! WRITE into the object space (R9, R10, R328, R331, R333, R340). -/

namespace Sys2Proof.Machine

variable {r : Req} {lvl : BitVec 2} {s t : State} {a : Nat} {v : Word} {w : Who} {sess : Word}

/-! ### The request -/

theorem lvView_le (l : BitVec 2) : lvView ≤ l := by
  simp [lvView, BitVec.le_def]

theorem exec_write (h : admits r lvl s = true) (hd : s.sup.mode ≠ .decaf) (a : Word) (ws : List Word) :
    exec (.write r a ws) s = .next (if ws.isEmpty || decide (ws.length > 64) then reply r stMalformed [] (admitted r s)
      else answer r (writeSpace (.sess r.sess (levelOf (admitted r s) r.sess)) r a.toNat ws) (admitted r s)) :=
  congrArg Host.Outcome.next (screenReq_ok (admits_mono h (lvView_le lvl)) (.inl hd))

theorem does_write_wrongCount (h : admits r lvl s = true) (hd : s.sup.mode ≠ .decaf) (a : Word) {ws : List Word}
    (hw : ws = [] ∨ 64 < ws.length) : Does (.write r a ws) s (Answered r 0x0005 [] s) := by
  have he := exec_write h hd a ws
  rw [if_pos (by simpa using hw)] at he
  exact (does_answered h he rfl admitted_sent).mono fun _ p => p.1

/-- A write of words outside the VAR region is the run of its words as one step. -/
theorem exec_write_regs (h : admits r lvl s = true) (hd : s.sup.mode ≠ .decaf) {a : Word} {ws : List Word} (h1 : 1 ≤ ws.length)
    (hm : ws.length ≤ 64) (hv : varTag a.toNat = none) : exec (.write r a ws) s =
      .next (answer r (eventsKept (.sess r.sess (levelOf (admitted r s) r.sess)) r a.toNat ws) (admitted r s)) := by
  rw [exec_write h hd, if_neg (by simp [← List.length_eq_zero_iff]; omega)]
  unfold answer writeSpace
  rw [hv]

/-! ### Refused words -/

theorem eventsKept_refused {ws : List Word} {u : State} {st : BitVec 16} (hst : st ≠ stOk)
    (h : writeRun (objWrite w r) a ws s = (st, u)) : eventsKept w r a ws s = (st, keepRefusals u s) := by
  have ht : writeWords (objWrite w r) a ws s = (st, keepRefusals u s) := by
    unfold writeWords
    simp only [h, hst, if_false]
  unfold eventsKept
  simp only [ht, hst, decide_false, Bool.false_and, if_false, Bool.false_eq_true]

/-- A run of words one of which is refused is answered with its status, and leaves the sticky marks of refusals alone. -/
theorem does_write_refused (h : admits r lvl s = true) (hd : s.sup.mode ≠ .decaf) {a : Word} {ws : List Word} {u : State}
    (h1 : 1 ≤ ws.length) (hm : ws.length ≤ 64) (hv : varTag a.toNat = none)
    (hw : writeRun (objWrite (.sess r.sess (levelOf (admitted r s) r.sess)) r) a.toNat ws (admitted r s) = (stAccess, u)) :
    Does (.write r a ws) s (fun t => Answered r 0x0001 [] s t ∧ t.cyc = (keepRefusals u (admitted r s)).cyc) := by
  have he := exec_write_regs h hd h1 hm hv
  unfold answer at he
  simp only [eventsKept_refused (by decide) hw] at he
  rw [if_neg (by simp [stAccess, stOk])] at he
  refine (does_answered h he rfl admitted_sent).mono fun t ⟨ha, ht⟩ => ⟨ha, ?_⟩
  rw [ht]

theorem writeRun_one (f : Nat → Word → State → Written) (h : (f a v s).1 ≠ stOk) : writeRun f a [v] s = f a v s := by
  unfold writeRun
  exact if_neg h

theorem varTag_none (h : a % 4 ≠ 0 ∨ a < 0x10000000 ∨ 0x10080000 ≤ a) : varTag a = none := by
  unfold varTag varBase
  refine if_neg ?_
  simp
  omega

/-- No word is written at an unaligned address, in the regions that are read only, or outside every region. -/
theorem objWrite_refused (h : a % 4 ≠ 0 ∨ a < 0x1000 ∨ (0x50000 ≤ a ∧ a < 0x60000) ∨ (0xC0000 ≤ a ∧ a < 0xD0000) ∨ 0xE0000 ≤ a) :
    objWrite w r a v s = refuse stAccess s := by
  by_cases h4 : a % 4 = 0
  · rcases h with h | h | ⟨h, hu⟩ | ⟨h, hu⟩ | h
    · exact absurd h4 h
    · simp [objWrite, h4, h]
    · have above : ∀ b, b ≤ 0x50000 → ¬ a < b := by omega
      simp [objWrite, h4, above, hu]
    · have above : ∀ b, b ≤ 0xC0000 → ¬ a < b := by omega
      simp [objWrite, h4, above, hu]
    · have above : ∀ b, b ≤ 0xE0000 → ¬ a < b := by omega
      simp [objWrite, h4, above]
  · simp [objWrite, h4]

/-- A single refused word is answered 0x0001. -/
theorem does_write_one_refused (h : admits r lvl s = true) (hd : s.sup.mode ≠ .decaf) {a : Word} (hv : varTag a.toNat = none)
    (hw : objWrite (.sess r.sess (levelOf (admitted r s) r.sess)) r a.toNat v (admitted r s) = refuse stAccess (admitted r s)) :
    Does (.write r a [v]) s (Answered r 0x0001 [] s) := by
  refine (does_write_refused (u := admitted r s) h hd (by simp) (by simp) hv ?_).mono fun _ p => p.1
  rw [writeRun_one _ (by rw [hw]; simp [refuse, stAccess, stOk]), hw]
  rfl

/-! ### Event registers -/

/-- A word written at an address clears the written ones of a sticky event word, for sessions of Operate level (R9). -/
def ClearsEvents (r : Req) (a mask : Word) (get : State → Word) : Prop :=
  ∃ f : Word → State → State,
    (∀ id lvl v t, objWrite (.sess id lvl) r a.toNat v t = byLevel (.sess id lvl) lvOperate (fun t => done (f v t)) t) ∧
    ∀ v t, get (f v t) = get t &&& ~~~(v &&& mask) ∧ (f v t).pnw.sessions = t.pnw.sessions ∧ (f v t).sent = t.sent ∧
      (f v t).pst.unconfirmed = t.pst.unconfirmed

/-- The event registers of the regions: address, sticky bits, and the word that holds them (R427, R51, R450, R88, R113, R144, R202,
R265, R303, R322, R342, R358, R370, R405). -/
def eventRegs : List (Word × Word × (State → Word)) :=
  [(0x1018, 0x7F, fun t => t.sup.evt), (0x2038, 0x1F, fun t => t.tim.evt), (0x3040, 0x1F, fun t => t.boot.evt),
   (0x10028, 0x3F, fun t => t.cyc.evt), (0x20030, 0x3F, fun t => t.cmp.evt), (0x30010, 0x1F, fun t => t.lpe.evt),
   (0x40008, 0x3F3F3F, fun t => t.fch.evt), (0x60010, 0x3F, fun t => t.alm.evt), (0x70024, 0x7FF, fun t => t.pst.evt),
   (0x80010, 0x1F, fun t => t.frg.evt), (0x90024, 0x1F, fun t => t.pnw.evt), (0xA001C, 7, fun t => t.evr.evt),
   (0xB0004, 7, fun t => t.cvu.evt), (0xD001C, 0x3F, fun t => t.dsp.evt)]

theorem eventRegs_clear (r : Req) : ∀ e ∈ eventRegs, ClearsEvents r e.1 e.2.1 e.2.2 := by
  simp only [eventRegs, List.forall_mem_cons]
  refine ⟨?sup, ?tim, ?boot, ?cyc, ?cmp, ?lpe, ?fch, ?alm, ?pst, ?frg, ?pnw, ?evr, ?cvu, ?dsp, fun _ h => absurd h List.not_mem_nil⟩
  case sup => exact ⟨fun v => onSup fun u => { u with evt := clearBits u.evt v 0x7F }, fun _ _ _ _ => by simp [objWrite, supWrite], fun _ _ => ⟨rfl, rfl, rfl, rfl⟩⟩
  case tim => exact ⟨fun v => onTim fun u => { u with evt := clearBits u.evt v 0x1F }, fun _ _ _ _ => by simp [objWrite, timWrite], fun _ _ => ⟨rfl, rfl, rfl, rfl⟩⟩
  case boot => exact ⟨fun v => onBoot fun u => { u with evt := clearBits u.evt v 0x1F }, fun _ _ _ _ => by simp [objWrite, bootWrite], fun _ _ => ⟨rfl, rfl, rfl, rfl⟩⟩
  case cyc => exact ⟨fun v => onCyc fun u => { u with evt := clearBits u.evt v 0x3F }, fun _ _ _ _ => by simp [objWrite, cycWrite], fun _ _ => ⟨rfl, rfl, rfl, rfl⟩⟩
  case cmp => exact ⟨fun v => onCmp fun u => { u with evt := clearBits u.evt v 0x3F }, fun _ _ _ _ => by simp [objWrite, cmpWrite], fun _ _ => ⟨rfl, rfl, rfl, rfl⟩⟩
  case lpe => exact ⟨fun v => onLpe fun u => { u with evt := clearBits u.evt v 0x1F }, fun _ _ _ _ => by simp [objWrite, lpeWrite], fun _ _ => ⟨rfl, rfl, rfl, rfl⟩⟩
  case fch => exact ⟨fun v => onFch fun u => { u with evt := clearBits u.evt v 0x3F3F3F }, fun _ _ _ _ => by simp [objWrite, fchWrite], fun _ _ => ⟨rfl, rfl, rfl, rfl⟩⟩
  case alm => exact ⟨fun v => onAlm fun u => { u with evt := clearBits u.evt v 0x3F }, fun _ _ _ _ => by simp [objWrite, almRegWrite, byLaneOr], fun _ _ => ⟨rfl, rfl, rfl, rfl⟩⟩
  case pst => exact ⟨fun v => onPst fun u => { u with evt := clearBits u.evt v 0x7FF }, fun _ _ _ _ => by simp [objWrite, pstWrite], fun _ _ => ⟨rfl, rfl, rfl, rfl⟩⟩
  case frg => exact ⟨fun v => onFrg fun u => { u with evt := clearBits u.evt v 0x1F }, fun _ _ _ _ => by simp [objWrite, frgWrite], fun _ _ => ⟨rfl, rfl, rfl, rfl⟩⟩
  case pnw => exact ⟨fun v => onPnw fun u => { u with evt := clearBits u.evt v 0x1F }, fun _ _ _ _ => by simp [objWrite, pnwWrite], fun _ _ => ⟨rfl, rfl, rfl, rfl⟩⟩
  case evr => exact ⟨fun v => onEvr fun u => { u with evt := clearBits u.evt v 7 }, fun _ _ _ _ => by simp [objWrite, evrWrite], fun _ _ => ⟨rfl, rfl, rfl, rfl⟩⟩
  case cvu => exact ⟨fun v => onCvu fun u => { u with evt := clearBits u.evt v 7 }, fun _ _ _ _ => by simp [objWrite, cvuWrite, byLaneOr], fun _ _ => ⟨rfl, rfl, rfl, rfl⟩⟩
  case dsp => exact ⟨fun v => setDsp fun u => { u with evt := clearBits u.evt v 0x3F }, fun _ _ _ _ => by simp [objWrite, dspWrite, byLaneOr], fun _ _ => ⟨rfl, rfl, rfl, rfl⟩⟩

theorem admitted_pnwEvt : (admitted r s).pnw.evt = s.pnw.evt := by
  have note : ∀ f, (noteFrame f s).pnw.evt = s.pnw.evt := by
    intro f
    unfold noteFrame
    dsimp only
    split
    · rfl
    · split <;> rfl
  unfold admitted
  split
  · rfl
  · exact note r.rx

/-- The event words are what a response and an admission leave. -/
theorem eventRegs_stable (r : Req) (s : State) : ∀ e ∈ eventRegs, e.2.2 (admitted r s) = e.2.2 s ∧
    ∀ t l, e.2.2 { t with sent := l } = e.2.2 t := by
  simp [eventRegs, admitted_pnwEvt]

theorem eventRegs_registers : ∀ e ∈ eventRegs, e.1.toNat % 4 = 0 ∧ varTag e.1.toNat = none := by
  simp only [eventRegs, List.forall_mem_cons]
  simp [varTag, varBase]

theorem writeWords_single {f : Nat → Word → State → Written} {u : State} (h : f a v s = done u) : writeWords f a [v] s = done u := by
  simp [writeWords, writeRun, h, done]

theorem clear_nothing (x m : Word) : x &&& ~~~(0 &&& m) = x := by
  change x &&& ~~~(0#32 &&& m) = x
  rw [BitVec.zero_and, BitVec.not_zero, BitVec.and_allOnes]

/-- A single event register written: DSP_EVT, which the model clears first and then writes with no bit, ends as the others. -/
theorem eventsKept_clears {a mask : Word} {get : State → Word} (h : ClearsEvents r a mask get) (h4 : a.toNat % 4 = 0)
    (hl : lvOperate ≤ lvl) (v : Word) (t : State) : ∃ u, eventsKept (.sess sess lvl) r a.toNat [v] t = done u ∧
      get u = get t &&& ~~~(v &&& mask) ∧ u.pnw.sessions = t.pnw.sessions ∧ u.sent = t.sent ∧
      u.pst.unconfirmed = t.pst.unconfirmed := by
  obtain ⟨f, hf, hk⟩ := h
  have hw : ∀ v t, objWrite (.sess sess lvl) r a.toNat v t = done (f v t) := by
    intro v t
    rw [hf, byLevel, Who.atLeast, if_pos (decide_eq_true hl)]
  obtain ⟨g1, p1, s1, n1⟩ := hk v t
  unfold eventsKept
  simp only [writeWords_single (hw v t)]
  by_cases hc : a.toNat ≤ 0xD001C ∧ (0xD001C - a.toNat) / 4 < 1
  · obtain ⟨hle, hlt⟩ := hc
    have ha : a.toNat = 0xD001C := by omega
    have hz : objWrite (.sess sess lvl) r 0xD001C v t = done (f v t) := by rw [← ha, hw]
    have hz2 : objWrite (.sess sess lvl) r 0xD001C 0 (f v t) = done (f 0 (f v t)) := by rw [← ha, hw]
    obtain ⟨g2, p2, s2, n2⟩ := hk 0 (f v t)
    refine ⟨f 0 (f v t), ?_, g2.trans (by rw [g1, clear_nothing]), p2.trans p1, s2.trans s1, n2.trans n1⟩
    rw [if_pos (by simp [ha, done]), ha]
    exact (congrArg (fun x : Written => writeWords _ _ [0] x.2) hz).trans (writeWords_single hz2)
  · exact ⟨f v t, if_neg (by simp [done]; omega), g1, p1, s1, n1⟩

theorem does_write_event (hv : admits r lvView s = true) (hd : s.sup.mode ≠ .decaf) {e : Word × Word × (State → Word)}
    (he : e ∈ eventRegs) (ho : admits r lvOperate s = true) (v : Word) :
    Does (.write r e.1 [v]) s (fun t => Answered r 0 [] s { t with pnw := (admitted r s).pnw } ∧
      e.2.2 t = e.2.2 s &&& ~~~(v &&& e.2.1)) := by
  obtain ⟨h4, ht⟩ := eventRegs_registers e he
  obtain ⟨hadm, hsent⟩ := eventRegs_stable r s e he
  obtain ⟨u, hu, hg, hp, hs, hn⟩ := eventsKept_clears (sess := r.sess) (eventRegs_clear r e he) h4
    ((admits_iff_level hv lvOperate).mp ho) v (admitted r s)
  have hx := exec_write_regs hv hd (ws := [v]) (by simp) (by simp) ht
  unfold answer at hx
  simp only [hu, done, hn, Nat.lt_irrefl, decide_false, Bool.and_false, Bool.false_eq_true, if_false] at hx
  rw [reply_of_sessions hv hp (hs.trans admitted_sent)] at hx
  exact ⟨_, hx, ⟨rfl, rfl⟩, by rw [hsent, hg, hadm]⟩

theorem does_write_event_refused (hv : admits r lvView s = true) (hd : s.sup.mode ≠ .decaf) {e : Word × Word × (State → Word)}
    (he : e ∈ eventRegs) (ho : admits r lvOperate s = false) (v : Word) : Does (.write r e.1 [v]) s (Answered r 0x0001 [] s) := by
  obtain ⟨-, ht⟩ := eventRegs_registers e he
  obtain ⟨f, hf, -⟩ := eventRegs_clear r e he
  have hl : ¬ lvOperate ≤ levelOf (admitted r s) r.sess := by
    rw [← admits_iff_level hv, ho]
    decide
  have hw : objWrite (.sess r.sess (levelOf (admitted r s) r.sess)) r e.1.toNat v (admitted r s) = refuse stAccess (admitted r s) := by
    rw [hf, byLevel, Who.atLeast, if_neg (by simpa using hl)]
  exact does_write_one_refused hv hd ht hw

/-- Bits kept of a word with some cleared add nothing to the word. -/
theorem or_clearBits (e v m k : Word) : e ||| (clearBits e v m &&& k) = e := by
  ext i hi
  simp only [clearBits, BitVec.getElem_or, BitVec.getElem_and]
  cases e[i] <;> rfl

/-- A refused second word leaves the first, a write of CYC_EVT, unwritten (log 27). -/
theorem does_write_pair_refused (h : admits r lvOperate s = true) (hd : s.sup.mode ≠ .decaf) (v w : Word) :
    Does (.write r 0x10028 [v, w]) s (fun t => Answered r 0x0001 [] s t ∧ t.cyc = s.cyc) := by
  have hl := (admits_iff_level h lvOperate).mp h
  have hrun : writeRun (objWrite (.sess r.sess (levelOf (admitted r s) r.sess)) r) (0x10028 : Word).toNat [v, w] (admitted r s) =
      (stAccess, onCyc (fun c => { c with evt := clearBits c.evt v 0x3F }) (admitted r s)) := by
    have hfirst : objWrite (.sess r.sess (levelOf (admitted r s) r.sess)) r 0x10028 v (admitted r s) =
        done (onCyc (fun c => { c with evt := clearBits c.evt v 0x3F }) (admitted r s)) := by
      simp [objWrite, cycWrite, byLevel, Who.atLeast, hl]
    have hsecond : ∀ u, objWrite (.sess r.sess (levelOf (admitted r s) r.sess)) r 0x1002C w u = refuse stAccess u := by
      simp [objWrite, cycWrite]
    simp [writeRun, hfirst, hsecond, done, refuse, stAccess, stOk]
  refine (does_write_refused h hd (by simp) (by simp) (varTag_none (by simp)) hrun).mono fun t ⟨ha, hc⟩ => ⟨ha, ?_⟩
  simp [hc, keepRefusals, or_clearBits]

/-! ### Words of the VAR region -/

/-- The value writes that a run of words at a tag stands for (R78, R340). -/
def valueWrites (n : Nat) (ws : List Word) : List OlcEntry :=
  ws.zipIdx.map (fun p => { tag := n + p.2, value := p.1, const := false })

theorem varTag_of_tag {n : Nat} (hn : n < 0x20000) : varTag (0x10000000 + 4 * n) = some n := by
  unfold varTag varBase
  rw [if_pos (by simp; omega)]
  congr 1
  omega

theorem does_write_var (h : admits r lvEngineer s = true) (hd : s.sup.mode ≠ .decaf) {n : Nat} {ws : List Word}
    (hn : n + ws.length ≤ 0x20000) (h1 : 1 ≤ ws.length) (hm : ws.length ≤ 64) (hr : inRun s = true)
    (hc : (constTags s []).length ≤ 1024)
    (hok : ∀ e ∈ valueWrites n ws, s.img.varLo ≤ e.tag ∧ e.tag < s.img.varHi ∧
      (safetyTarget s (.tag e.tag) = true → s.sup.mode = .commissioning)) :
    Does (.write r (BitVec.ofNat 32 (0x10000000 + 4 * n)) ws) s (fun t => AcceptedBoth r (.change (valueWrites n ws)) s t ∧
      Lined (.change (valueWrites n ws)) s t) := by
  have hl := (admits_iff_level h lvEngineer).mp h
  have haddr : (BitVec.ofNat 32 (0x10000000 + 4 * n)).toNat = 0x10000000 + 4 * n := by
    simp
    omega
  have hkind : ∀ e ∈ valueWrites n ws, e.const = false := by
    simp only [valueWrites, List.mem_map]
    rintro e ⟨p, -, rfl⟩
    rfl
  have hentries : ∀ e ∈ valueWrites n ws, EntryOk s e := fun e he => by
    obtain ⟨hlo, hhi, hs⟩ := hok e he
    exact ⟨by simp [hkind e he, hlo, hhi], hs⟩
  have hlen : (valueWrites n ws).length = ws.length := by simp [valueWrites]
  have hgood : batchBad s (valueWrites n ws) = none :=
    batchBad_none (by omega) (by omega) hr hentries (by rwa [constTags_values hkind])
  have htags : (valueWrites n ws).any (fun e => !isTag (admitted r s) e.tag) = false := by
    rw [List.any_eq_false]
    intro e he
    obtain ⟨hlo, hhi, -⟩ := hok e he
    simp [isTag, hlo, hhi]
  have hw : writeSpace (.sess r.sess (levelOf (admitted r s) r.sess)) r (0x10000000 + 4 * n) ws (admitted r s) =
      doneBoth r (.change (valueWrites n ws)) (schedule (.change (valueWrites n ws))) (admitted r s) := by
    unfold writeSpace
    rw [varTag_of_tag (by omega)]
    change byLevel _ _ (varWrite r (valueWrites n ws)) _ = _
    rw [byLevel, Who.atLeast, if_pos (decide_eq_true hl), varWrite, htags, if_neg (by decide), admitted_batchBad, hgood]
  have he := exec_write h hd (BitVec.ofNat 32 (0x10000000 + 4 * n)) ws
  rw [if_neg (by simp [← List.length_eq_zero_iff]; omega), haddr, answer_doneBoth rfl hw] at he
  exact does_accepted h rfl he

end Sys2Proof.Machine
end

section
/-! CHANGE and the force commands (R78, R81, R328). -/

namespace Sys2Proof.Machine

variable {r : Req} {s : State}

/-! ### CHANGE -/

theorem exec_change (h : admits r lvEngineer s = true) (hd : s.sup.mode ≠ .decaf) (b : List OlcEntry) :
    exec (.change r b) s = .next (changeRequest r b (admitted r s)) :=
  congrArg Host.Outcome.next (screenReq_ok h (.inl hd))

theorem does_change_refused (h : admits r lvEngineer s = true) (hd : s.sup.mode ≠ .decaf) {b : List OlcEntry} {st : BitVec 16}
    {i : Nat} (hb : batchBad s b = some (st, i)) :
    Does (.change r b) s (fun t => Answered r st (le16 (BitVec.ofNat 16 i)) s t ∧
      t.cyc = { s.cyc with evt := setBit s.cyc.evt 3 }) := by
  have he := exec_change h hd b
  unfold changeRequest at he
  rw [admitted_batchBad, hb] at he
  exact does_refused h he

theorem does_change_accepted (h : admits r lvEngineer s = true) (hd : s.sup.mode ≠ .decaf) {b : List OlcEntry}
    (hb : batchBad s b = none) : Does (.change r b) s (fun t => AcceptedWith r [0xFF, 0xFF] (.change b) s t ∧ Lined (.change b) s t) := by
  have he := exec_change h hd b
  unfold changeRequest at he
  rw [admitted_batchBad, hb] at he
  exact does_accepted h rfl he

/-- CHANGE refused with the index of its first entry that does not pass. -/
theorem does_change_entryRefused (h : admits r lvEngineer s = true) (hd : s.sup.mode ≠ .decaf) {b : List OlcEntry} {i : Nat}
    {e : OlcEntry} (hm : b.length ≤ 64) (hr : inRun s = true) (hi : b[i]? = some e) (he : ¬EntryOk s e)
    (hlt : ∀ j f, j < i → b[j]? = some f → EntryOk s f) :
    Does (.change r b) s (fun t => (∃ st, (st = 0x0003 ∨ st = 0x0002) ∧ Answered r st (le16 (BitVec.ofNat 16 i)) s t) ∧
      t.cyc = { s.cyc with evt := setBit s.cyc.evt 3 }) := by
  obtain ⟨st, hst, hbad⟩ := entryBad_some he
  have hb := batchBad_entry hm hr hi hbad fun j f hj hf => entryBad_none (hlt j f hj hf)
  exact (does_change_refused h hd hb).mono fun t ⟨ha, hc⟩ => ⟨⟨st, hst, ha⟩, hc⟩

/-! ### Forces -/

theorem does_force_refused {c : Instr} {g : ForceTarget} {v : Option Word} {st : BitVec 16} (h : admits r lvEngineer s = true)
    (he : exec c s = .next (forceRequest r g v (admitted r s))) (hb : forceBad s g v.isSome = some st) :
    Does c s (fun t => Answered r st [] s t ∧ t.cyc = { s.cyc with evt := setBit s.cyc.evt 4 }) := by
  unfold forceRequest at he
  rw [admitted_forceBad, hb] at he
  exact does_refused h he

theorem does_force_accepted {c : Instr} {g : ForceTarget} {v : Option Word} (h : admits r lvEngineer s = true)
    (he : exec c s = .next (forceRequest r g v (admitted r s))) (hb : forceBad s g v.isSome = none) :
    Does c s (fun t => AcceptedBoth r (.force g v) s t ∧ Lined (.force g v) s t) := by
  unfold forceRequest at he
  rw [admitted_forceBad, hb] at he
  exact does_accepted h rfl he

theorem exec_forceSet (h : admits r lvEngineer s = true) (hd : s.sup.mode ≠ .decaf) (g : ForceTarget) (v : Word) :
    exec (.forceSet r g v) s = .next (forceRequest r g (some v) (admitted r s)) :=
  congrArg Host.Outcome.next (screenReq_ok h (.inl hd))

theorem exec_forceRelease (h : admits r lvEngineer s = true) (hd : s.sup.mode ≠ .decaf) (g : ForceTarget) :
    exec (.forceRelease r g) s = .next (forceRequest r g none (admitted r s)) :=
  congrArg Host.Outcome.next (screenReq_ok h (.inl hd))

section
variable {g : ForceTarget}

theorem forceBad_state (set : Bool) (h : inService s = false) : forceBad s g set = some stState := by
  simp [forceBad, h]

theorem forceBad_target (set : Bool) (h : inService s = true) (hf : forceable s g = false) : forceBad s g set = some stRange := by
  simp [forceBad, h, hf]

theorem forceBad_release (h : inService s = true) (hf : forceable s g = true) : forceBad s g false = none := by
  simp [forceBad, h, hf]

theorem forceBad_safety (h : inService s = true) (hf : forceable s g = true)
    (hs : ¬(safetyTarget s g = true → s.sup.mode = .commissioning)) : forceBad s g true = some stState := by
  obtain ⟨hsafe, hmode⟩ := Classical.not_imp.mp hs
  simp [forceBad, h, hf, hsafe, hmode]

/-- The safety check of R81 passes. -/
theorem safety_passes (hs : safetyTarget s g = true → s.sup.mode = .commissioning) :
    (safetyTarget s g && s.sup.mode != .commissioning) = false := by
  cases hg : safetyTarget s g with
  | false => rfl
  | true => simp [hs hg]

theorem forceBad_full (h : inService s = true) (hf : forceable s g = true)
    (hs : safetyTarget s g = true → s.sup.mode = .commissioning) (hr : ¬(g ∈ forcesAfter s ∨ (forcesAfter s).length < 256)) :
    forceBad s g true = some stRange := by
  obtain ⟨hnew, hlen⟩ := not_or.mp hr
  simp [forceBad, h, hf, safety_passes hs, hnew, Nat.not_lt.mp hlen]

theorem forceBad_none (h : inService s = true) (hf : forceable s g = true)
    (hs : safetyTarget s g = true → s.sup.mode = .commissioning) (hr : g ∈ forcesAfter s ∨ (forcesAfter s).length < 256) :
    forceBad s g true = none := by
  have hroom : (!(forcesAfter s).contains g && decide ((forcesAfter s).length ≥ 256)) = false := by
    rcases hr with hr | hr
    · simp [hr]
    · simp [Nat.not_le.mpr hr]
  simp only [forceBad, h, hf, safety_passes hs, hroom, Bool.true_and, Bool.not_true, Bool.false_eq_true, if_false]

end

/-! ### FORCE_RELEASE_IN_CELL -/

theorem exec_forceReleaseInCell (h : admits r lvEngineer s = true) (hd : s.sup.mode ≠ .decaf) (c : BitVec 12) :
    exec (.forceReleaseInCell r c) s = .next (releaseInCell r c (admitted r s)) :=
  congrArg Host.Outcome.next (screenReq_ok h (.inl hd))

theorem does_releaseInCell_refused {c : BitVec 12} {st : BitVec 16} (h : admits r lvEngineer s = true) (hd : s.sup.mode ≠ .decaf)
    (hr : releaseInCell r c (admitted r s) = reply r st [] (frcRefused (admitted r s))) :
    Does (.forceReleaseInCell r c) s (fun t => Answered r st [] s t ∧ t.cyc = { s.cyc with evt := setBit s.cyc.evt 4 }) := by
  have he := exec_forceReleaseInCell h hd c
  rw [hr] at he
  exact does_refused h he

theorem releaseInCell_noCell {c : BitVec 12} (hc : s.img.cells.length ≤ c.toNat) :
    releaseInCell r c s = reply r stRange [] (frcRefused s) := if_pos hc

theorem releaseInCell_state {c : BitVec 12} (hc : c.toNat < s.img.cells.length) (hs : inService s = false) :
    releaseInCell r c s = reply r stState [] (frcRefused s) := by
  unfold releaseInCell
  rw [if_neg (Nat.not_le.mpr hc), if_pos (by simp [hs])]

theorem releaseInCell_accepted {c : BitVec 12} (hc : c.toNat < s.img.cells.length) (hs : inService s = true) :
    releaseInCell r c s = acceptBoth r (.releaseCell c) (schedule (.releaseCell c.toNat)) s := by
  unfold releaseInCell
  rw [if_neg (Nat.not_le.mpr hc), if_neg (by simp [hs])]

end Sys2Proof.Machine

open Sys2Proof Sys2Proof.Machine

/-- Settles O50: WRITE through the run of its words, CHANGE through the judgement of its batch, the force commands through the
reasons of R81. -/
theorem writesAndForces : Obligations.WritesAndForces := by
  intro r s hd
  refine ⟨fun h => ⟨fun a ws hw => does_write_wrongCount h hd a hw, fun a v ha =>
        does_write_one_refused h hd (varTag_none (by omega)) (objWrite_refused (by omega)), fun e he v =>
      ⟨fun ho => does_write_event h hd he ho v, fun ho => does_write_event_refused h hd he ho v⟩⟩,
    fun h v w => does_write_pair_refused h hd v w,
    fun h => ⟨fun n ws hn h1 hm hr hc hok => does_write_var h hd hn h1 hm hr hc hok, fun b => ?_, fun g v => ?_, fun c => ?_⟩⟩
  · exact ⟨fun hl => does_change_refused h hd (batchBad_length hl),
      fun h1 hm hr => does_change_refused h hd (batchBad_state h1 hm hr),
      fun h1 hm hr hok hc => does_change_accepted h hd (batchBad_none h1 hm hr hok hc),
      fun i e hm hr hi he hlt => does_change_entryRefused h hd hm hr hi he hlt,
      fun i hi hm hr hok hc hf => does_change_refused h hd (batchBad_full hi hm hr hok hc hf)⟩
  · have hset := exec_forceSet h hd g v
    have hrel := exec_forceRelease h hd g
    exact ⟨fun hs hf hsafe hroom => does_force_accepted h hset (forceBad_none hs hf hsafe hroom),
      fun hs hf => does_force_accepted h hrel (forceBad_release hs hf),
      fun hs => ⟨does_force_refused h hset (forceBad_state _ hs), does_force_refused h hrel (forceBad_state _ hs)⟩,
      fun hs hf => ⟨does_force_refused h hset (forceBad_target _ hs hf), does_force_refused h hrel (forceBad_target _ hs hf)⟩,
      fun hs hf hsafe => does_force_refused h hset (forceBad_safety hs hf hsafe),
      fun hs hf hsafe hroom => does_force_refused h hset (forceBad_full hs hf hsafe hroom)⟩
  · refine ⟨fun hc => does_releaseInCell_refused h hd (releaseInCell_noCell (by simpa using hc)),
      fun hc hs => does_releaseInCell_refused h hd (releaseInCell_state (by simpa using hc) (by simpa using hs)), fun hc hs => ?_⟩
    have he := exec_forceReleaseInCell h hd c
    rw [releaseInCell_accepted (by simpa using hc) (by simpa using hs)] at he
    exact does_accepted h rfl he
end

section
/-! What a frame says of each part outside it, as a rule for `simp` (R15). -/

namespace Sys2Proof.Machine

variable {T : List Part} {s t : State}

theorem Changes.img (h : Changes T s t) (hT : T.contains .img = false := by rfl) : t.img = s.img := h .img hT
theorem Changes.flash (h : Changes T s t) (hT : T.contains .flash = false := by rfl) : t.flash = s.flash := h .flash hT
theorem Changes.sup (h : Changes T s t) (hT : T.contains .sup = false := by rfl) : t.sup = s.sup := h .sup hT
theorem Changes.tim (h : Changes T s t) (hT : T.contains .tim = false := by rfl) : t.tim = s.tim := h .tim hT
theorem Changes.nibA (h : Changes T s t) (hT : T.contains .nibA = false := by rfl) : t.nibA = s.nibA := h .nibA hT
theorem Changes.nibB (h : Changes T s t) (hT : T.contains .nibB = false := by rfl) : t.nibB = s.nibB := h .nibB hT
theorem Changes.cyc (h : Changes T s t) (hT : T.contains .cyc = false := by rfl) : t.cyc = s.cyc := h .cyc hT
theorem Changes.cmp (h : Changes T s t) (hT : T.contains .cmp = false := by rfl) : t.cmp = s.cmp := h .cmp hT
theorem Changes.lpe (h : Changes T s t) (hT : T.contains .lpe = false := by rfl) : t.lpe = s.lpe := h .lpe hT
theorem Changes.fch (h : Changes T s t) (hT : T.contains .fch = false := by rfl) : t.fch = s.fch := h .fch hT
theorem Changes.saf (h : Changes T s t) (hT : T.contains .saf = false := by rfl) : t.saf = s.saf := h .saf hT
theorem Changes.pst (h : Changes T s t) (hT : T.contains .pst = false := by rfl) : t.pst = s.pst := h .pst hT
theorem Changes.pnw (h : Changes T s t) (hT : T.contains .pnw = false := by rfl) : t.pnw = s.pnw := h .pnw hT
theorem Changes.evr (h : Changes T s t) (hT : T.contains .evr = false := by rfl) : t.evr = s.evr := h .evr hT
theorem Changes.dsp (h : Changes T s t) (hT : T.contains .dsp = false := by rfl) : t.dsp = s.dsp := h .dsp hT
theorem Changes.boot (h : Changes T s t) (hT : T.contains .boot = false := by rfl) : t.boot = s.boot := h .boot hT
theorem Changes.sent (h : Changes T s t) (hT : T.contains .sent = false := by rfl) : t.sent = s.sent := h .sent hT
theorem Changes.alm (h : Changes T s t) (hT : T.contains .alm = false := by rfl) : t.alm = s.alm := h .alm hT
theorem Changes.chop (h : Changes T s t) (hT : T.contains .chop = false := by rfl) : t.chop = s.chop := h .chop hT
theorem Changes.frg (h : Changes T s t) (hT : T.contains .frg = false := by rfl) : t.frg = s.frg := h .frg hT

/-- The timebase is read from one part alone. -/
theorem Changes.nowUs (h : Changes T s t) (hT : T.contains .tim = false := by rfl) : nowUs t = nowUs s := by
  simp only [Machine.nowUs, h.tim hT]

end Sys2Proof.Machine

open Sys2Proof Sys2Proof.Machine

/-- Settles O1: the meaning of a step with a command in front. -/
theorem stepRunsFrontCommand : Obligations.StepRunsFrontCommand := fun _ _ _ => rfl
end

section
/-! Self-diagnosis faults and Safe (R23, R24, R97, R438). -/

namespace Sys2Proof.Machine

variable {s : State} {why : FaultReason}

theorem stopLanes_lanes : (stopLanes s).nibA.st = .stopped ∧ (stopLanes s).nibB.st = .stopped := ⟨rfl, rfl⟩

/-- Safe: its mode, the lanes, the flush (R24). -/
theorem enterSafe_safe : (enterSafe s).sup.mode = .safe ∧ (enterSafe s).nibA.st = .stopped ∧ (enterSafe s).nibB.st = .stopped ∧
    (enterSafe s).evr.flushing = true := by
  unfold enterSafe
  refine ⟨?_, ?_, ?_, rfl⟩
  · simp only [(startFlush_changes _).sup, (standbyDraw_changes _).sup, (applyOutputs_changes _).sup, (openPairs_changes _).sup,
      onBoot_sup, onSup_sup]
  · simp only [(startFlush_changes _).nibA, (standbyDraw_changes _).nibA, (applyOutputs_changes _).nibA, (openPairs_changes _).nibA,
      onBoot_nibA, onSup_nibA, (abandonMaint_changes _).nibA, stopLanes_lanes]
  · simp only [(startFlush_changes _).nibB, (standbyDraw_changes _).nibB, (applyOutputs_changes _).nibB, (openPairs_changes _).nibB,
      onBoot_nibB, onSup_nibB, (abandonMaint_changes _).nibB, stopLanes_lanes]

/-- The record of a fault leaves everything that decides what the fault does. -/
theorem diagEvent_post_changes (code inst : Nat) (vals : List Word) (s : State) :
    Changes [.pst, .evr] s (diagEvent (post code inst vals s)) :=
  .comp (diagEvent_changes _) rfl (.comp (post_changes _ _ _ _) rfl .refl)

/-- A fault in service that fails no start is Safe and nothing more (R23). -/
theorem selfDiag_inService (h : inService s = true) (hf : faultFailsStart s = false) :
    selfDiag why s = enterSafe (diagEvent (post 0x0104 0 [Config.reasonCode why] s)) := by
  have hc := diagEvent_post_changes 0x0104 0 [Config.reasonCode why] s
  have hi : inService (diagEvent (post 0x0104 0 [Config.reasonCode why] s)) = true := by
    rw [← h]
    simp only [inService, inRun, hc.sup]
  have hs : faultFailsStart (diagEvent (post 0x0104 0 [Config.reasonCode why] s)) = false := by
    rw [← hf]
    simp only [faultFailsStart, hc.boot, hc.nowUs, hc.sup]
  simp only [selfDiag, hi, hs, if_true, Bool.false_eq_true, if_false]

end Sys2Proof.Machine
end

section
/-! Words that are faults where a lane comes to them (R54, R56, R61, R69). -/

namespace Sys2Proof.Machine

variable {s : State} {l : Lane} {w : Word} {o : Blk} {k : State → State} {op : BitVec 8}

/-- A word counted. -/
def counted (l : Lane) (s : State) : State := setLane l (fun x => { x with ops := x.ops + 1 }) s

theorem bReg_of_zero (hb : o.b.extractLsb' 0 6 = 0) : bReg o = true := by simp [bReg, hb]

theorem blockOp_illegal {legal : Bool} (h : fetches s l w = true) (hl : legal = false) :
    blockOp l w legal k s = selfDiag .illegalOperation s := by simp [blockOp, h, hl]

theorem blockOp_legal {legal : Bool} (h : fetches s l w = true) (hl : legal = true) :
    blockOp l w legal k s = k (counted l s) := by simp [blockOp, h, hl, counted]

@[simp] theorem lane_setLane (f : LaneSt → LaneSt) : lane (setLane l f s) l = f (lane s l) := by cases l <;> rfl

@[simp] theorem setLane_img (f : LaneSt → LaneSt) : (setLane l f s).img = s.img := (setLane_changes l f s).img

@[simp] theorem greg_counted (n : BitVec 6) : greg (lane (counted l s) l) n = greg (lane s l) n := by simp [counted, greg]

@[simp] theorem offA_counted : offA o (lane (counted o.l s) o.l) = greg (lane s o.l) o.a + o.b.setWidth 32 := by
  simp only [offA, greg_counted, zext]

@[simp] theorem idxA_counted : idxA o (lane (counted o.l s) o.l) = greg (lane s o.l) o.a + greg (lane s o.l) (o.b.extractLsb' 6 6) := by
  simp only [idxA, greg_counted, regB]

theorem goto_beyond {t : Word} (h : 0x40000 ≤ t.toNat) : goto l t s = selfDiag .laneAddress s := if_neg (Nat.not_lt.mpr h)

theorem loadOp_beyond {legal : Bool} {ea : LaneSt → Word} (h : fetches s o.l (blkWord op o.d o.a o.b) = true) (hl : legal = true)
    (ha : 0x20000 ≤ (ea (lane (counted o.l s) o.l)).toNat) : loadOp op o legal ea s = selfDiag .laneAddress (counted o.l s) := by
  rw [loadOp, blockOp_legal h hl]
  exact if_neg (Nat.not_lt.mpr ha)

theorem storeOp_beyond {legal : Bool} {ea : LaneSt → Word} (h : fetches s o.l (blkWord op o.d o.a o.b) = true) (hl : legal = true)
    (ha : 0x20000 ≤ (ea (lane (counted o.l s) o.l)).toNat) : storeOp op o legal ea s = selfDiag .laneAddress (counted o.l s) := by
  rw [storeOp, blockOp_legal h hl]
  exact if_neg (Nat.not_lt.mpr ha)

/-- A store into the constant area (R54). -/
theorem storeOp_const {legal : Bool} {ea : LaneSt → Word} (h : fetches s o.l (blkWord op o.d o.a o.b) = true) (hl : legal = true)
    (ha : (ea (lane (counted o.l s) o.l)).toNat < 0x20000) (hc : isConst s (ea (lane (counted o.l s) o.l)).toNat = true) :
    storeOp op o legal ea s = selfDiag .storeToConstant (counted o.l s) := by
  have hc' : isConst (counted o.l s) (ea (lane (counted o.l s) o.l)).toNat = true := by
    simpa [isConst, counted] using hc
  rw [storeOp, blockOp_legal h hl]
  exact (if_pos ha).trans (if_pos hc')

/-- An operation of three registers whose unused bits are not 0 (R56). -/
theorem exec_unusedBits {c : Instr} {f : LaneSt → Word} (he : exec c s = .next (writesD op o (bReg o) f s))
    (h : fetches s o.l (blkWord op o.d o.a o.b) = true) (hb : o.b.extractLsb' 0 6 ≠ 0) :
    exec c s = .next (selfDiag .illegalOperation s) := by
  rw [he, writesD, blockOp_illegal h (by simpa [bReg] using hb)]

/-- A word of no operation (R56). -/
theorem nopWord_reserved (h : fetches s l w = true) (hw : w ≠ 0) (hr : w.extractLsb' 24 8 = 0 ∨ reservedWord w = true) :
    nopWord l w s = selfDiag .illegalOperation s := by
  rw [nopWord, if_neg hw, if_pos (by simpa using hr), blockOp_illegal h rfl]

theorem jmpOp_beyond (hd : o.d = 0) (h : fetches s o.l (blkWord 0x05 o.d o.a o.b) = true)
    (ha : 0x40000 ≤ (greg (lane s o.l) o.a + o.b.setWidth 32).toNat) : jmpOp o s = selfDiag .laneAddress (counted o.l s) := by
  rw [jmpOp, blockOp_legal h (by simpa using hd)]
  exact goto_beyond (by simpa [zext] using ha)

theorem callOp_beyond (h : fetches s o.l (blkWord 0x06 o.d o.a o.b) = true)
    (ha : 0x40000 ≤ (greg (lane s o.l) o.a + o.b.setWidth 32).toNat) : callOp o s =
      selfDiag .laneAddress (setLane o.l (gwrite o.d (BitVec.ofNat 32 ((lane s o.l).pc + 1))) (counted o.l s)) := by
  have hp : (lane (counted o.l s) o.l).pc = (lane s o.l).pc := by simp [counted]
  rw [callOp, blockOp_legal h rfl]
  dsimp only
  rw [goto_beyond (by simpa [zext] using ha), hp]

theorem br_beyond (hd : o.d = 0) (hz : o.a = 0) (h : fetches s o.l (blkWord 0x02 o.d o.a o.b) = true)
    (ha : 0x40000 ≤ (BitVec.ofNat 32 ((lane s o.l).pc + 1) + o.b.signExtend 32).toNat) :
    branch 0x02 o (o.d == 0 && o.a == 0) (fun _ => true) s = selfDiag .laneAddress (counted o.l s) := by
  rw [branch, blockOp_legal h (by simp [hd, hz])]
  exact (if_pos rfl).trans (goto_beyond (by simpa [sext, counted] using ha))

theorem inOp_beyond (h : fetches s o.l (blkWord 0x50 o.d o.a o.b) = true)
    (ha : 0x2300 ≤ (greg (lane s o.l) o.a + o.b.setWidth 32).toNat) : inOp o s = selfDiag .laneAddress (counted o.l s) := by
  rw [inOp, blockOp_legal h rfl]
  exact if_neg (by simpa [offA, zext, inWords] using ha)

theorem outOp_beyond (h : fetches s o.l (blkWord 0x51 o.d o.a o.b) = true)
    (ha : 0x2480 ≤ (greg (lane s o.l) o.a + o.b.setWidth 32).toNat) : outOp o s = selfDiag .laneAddress (counted o.l s) := by
  rw [outOp, blockOp_legal h rfl]
  exact if_neg (by simpa [offA, zext, outWords] using ha)

/-- CELLIN of no cell, of the root, or of a cell whose parent is not the innermost open one (R69). -/
theorem cellIn_wrong (hd : o.d = 0) (hz : o.a = 0) (h : fetches s o.l (blkWord 0x70 o.d o.a o.b) = true)
    (hw : o.b = 0 ∨ s.img.cells.length ≤ o.b.toNat ∨ (cellCfg s o.b.toNat).parent ≠ (lane s o.l).opened.headD 0) :
    cellIn o s = selfDiag .cellOrder (counted o.l s) := by
  rw [cellIn, blockOp_legal h (by simp [hd, hz])]
  refine if_neg ?_
  rcases hw with hw | hw | hw
  · simp [hw]
  · simp [counted, Nat.not_lt.mpr hw]
  · simp [counted, cellCfg, innermost] at hw ⊢
    exact fun _ _ => hw

/-- CELLOUT of no cell, of the root, or of a cell that is not the innermost open one (R69). -/
theorem cellOut_wrong (hd : o.d = 0) (hz : o.a = 0) (h : fetches s o.l (blkWord 0x71 o.d o.a o.b) = true)
    (hw : o.b = 0 ∨ s.img.cells.length ≤ o.b.toNat ∨ (lane s o.l).opened.headD 0 ≠ o.b.toNat) :
    cellOut o s = selfDiag .cellOrder (counted o.l s) := by
  rw [cellOut, blockOp_legal h (by simp [hd, hz])]
  refine if_neg ?_
  rcases hw with hw | hw | hw
  · simp [hw]
  · simp [counted, Nat.not_lt.mpr hw]
  · simp [counted, innermost] at hw ⊢
    exact fun _ _ => hw

/-- END with a cell open beside the root (R69). -/
theorem endOp_open (hd : o.d = 0) (hz : o.a = 0) (hb : o.b = 0) (h : fetches s o.l (blkWord 0x01 o.d o.a o.b) = true)
    (hw : (lane s o.l).opened ≠ []) : endOp o s = selfDiag .cellOrder (counted o.l s) := by
  rw [endOp, blockOp_legal h (by simp [hd, hz, hb])]
  exact if_neg (by simpa [counted] using hw)

end Sys2Proof.Machine

open Sys2Proof Sys2Proof.Machine

/-- Settles O19: each faulty word through what `blockOp` does with it, Safe through what its entry leaves. -/
theorem laneFaults : Obligations.LaneFaults := by
  refine ⟨fun l w s h hw hr => congrArg _ (nopWord_reserved h hw hr), fun o s => ?_, fun why s h hf => ?_⟩
  · refine ⟨?_, fun h ha => congrArg _ (loadOp_beyond h rfl (by simpa using ha)),
      fun h ha => congrArg _ (storeOp_beyond h rfl (by simpa using ha)),
      fun hb h ha => congrArg _ (loadOp_beyond h (bReg_of_zero hb) (by simpa using ha)),
      fun hb h ha => congrArg _ (storeOp_beyond h (bReg_of_zero hb) (by simpa using ha)),
      fun hd hz h ha => congrArg _ (br_beyond hd hz h ha), fun h ha => congrArg _ (callOp_beyond h ha),
      fun h ha hlo hhi => congrArg _ (storeOp_const h rfl (by simpa using ha) (by simpa [isConst] using ⟨hlo, hhi⟩)),
      fun h ha => congrArg _ (inOp_beyond h ha), fun h ha => congrArg _ (outOp_beyond h ha),
      fun hd h ha => congrArg _ (jmpOp_beyond hd h ha), fun hd hz h hw => congrArg _ (cellIn_wrong hd hz h hw),
      fun hd hz h hw => congrArg _ (cellOut_wrong hd hz h hw), fun hd hz hb h hw => congrArg _ (endOp_open hd hz hb h hw)⟩
    simp only [List.forall_mem_cons]
    refine ⟨?_, ?_, ?_, ?_, ?_, ?_, ?_, ?_, ?_, ?_, ?_, ?_, ?_, ?_, ?_, ?_, ?_, ?_, ?_, ?_, ?_, ?_, ?_, ?_,
      List.forall_mem_nil _⟩ <;> exact exec_unusedBits rfl
  · rw [selfDiag_inService h hf]
    exact enterSafe_safe
end

section
/-! Commands of a session that one condition admits, and commands for both modules of a pair (R79, R333). -/

namespace Sys2Proof.Machine

variable {r : Req} {lvl : BitVec 2} {s t : State} {c : Instr} {body : List Byte} {k : State → State}

theorem admitted_changes (r : Req) (s : State) : Changes [.pnw] s (admitted r s) := by
  obtain ⟨p, h⟩ := admitted_eq r s
  rw [h]
  exact (onPnw_changes (fun _ => p) s)

/-- An admitted request of a module that is not in Decaf goes on to its own rule. -/
theorem exec_screened (h : admits r lvl s = true) (hd : s.sup.mode ≠ .decaf) (he : exec c s = .next (screenReq r lvl false k s)) :
    exec c s = .next (k (admitted r s)) := by rw [he, screenReq_ok h (.inl hd)]

/-- Refused: answered with a status, and nothing else changed. -/
theorem does_refusedPlain {st : BitVec 16} (h : admits r lvl s = true) (he : exec c s = .next (reply r st [] (admitted r s))) :
    Does c s (fun t => Answered r st [] s t ∧ Changes [.pnw, .sent] s t) := by
  have hc : Changes [.pnw, .sent] s (reply r st [] (admitted r s)) :=
    .comp (reply_changes _ _ _ _) rfl ((admitted_changes r s).mono rfl)
  obtain ⟨t, ht, ha, -⟩ := does_answered h he rfl admitted_sent
  obtain rfl : reply r st [] (admitted r s) = t := by simpa [he] using ht
  exact ⟨_, he, ha, hc⟩

/-- Carried out and answered OK, where what it does leaves the plant network and what was sent. -/
theorem does_answeredOk {T : List Part} (h : admits r lvl s = true) (hk : Changes T (admitted r s) (k (admitted r s)))
    (he : exec c s = .next (reply r stOk [] (k (admitted r s)))) (hp : T.contains .pnw = false := by rfl)
    (hs : T.contains .sent = false := by rfl) :
    Does c s (fun t => Answered r 0 [] s t ∧ Changes [.sent] (k (admitted r s)) t) := by
  obtain ⟨t, ht, ha, -⟩ := does_answered h he (hk.pnw hp) ((hk.sent hs).trans admitted_sent)
  obtain rfl : reply r stOk [] (k (admitted r s)) = t := by simpa [he] using ht
  exact ⟨_, he, ha, reply_changes _ _ _ _⟩

/-- What is forwarded depends on the links, the timebase and what was sent alone. -/
theorem forwardNow_congr (f : FwdCmd) (hp : t.pst = s.pst) (ht : t.tim = s.tim) (hs : t.sent = s.sent) :
    (forwardNow f t).pst = (forwardNow f s).pst ∧ (forwardNow f t).sent = (forwardNow f s).sent := by
  have e : portPeer t 0 = portPeer s 0 := by simp only [portPeer, hp]
  have n : stationNs t = stationNs s := by simp only [stationNs, hp, ht]
  unfold forwardNow slSend
  rw [e, hp, n]
  split
  · exact ⟨hp, hs⟩
  · simp only [slFrame, emits, setSlPort, onPst, slPort, hp, hs, and_true]
    rfl

/-- A command that both modules of a pair apply, where this one applies at once what leaves links and timebase alone (R79). -/
theorem does_acceptedBy {f : FwdCmd} {a : T0Act} (h : admits r lvl s = true) (hf : fwdAct f = some a)
    (hk : Changes [.cyc, .cmp, .evr] (admitted r s) (k (admitted r s)))
    (he : exec c s = .next (acceptBoth r f k (admitted r s))) :
    Does c s (fun t => AcceptedBoth r f s t ∧ Changes [.pst, .sent] (k (admitted r s)) t) := by
  rw [acceptBoth, acceptWith, admitted_paired] at he
  have hpst : (k (admitted r s)).pst = s.pst := hk.pst.trans admitted_pst
  have hsent : (k (admitted r s)).sent = s.sent := hk.sent.trans admitted_sent
  have htim : (k (admitted r s)).tim = s.tim := hk.tim.trans admitted_tim
  unfold AcceptedBoth AcceptedWith
  cases hp : paired s with
  | true =>
    have hw := forwardNow_changes f (k (admitted r s))
    obtain ⟨ep, es⟩ := forwardNow_congr f hpst htim hsent
    simp only [hp, if_true, forwardBoth, hf, Option.isSome_some] at he
    refine ⟨_, he, ⟨hw.pnw.trans hk.pnw, ?_⟩, .comp (onPst_changes (fun p => { p with unconfirmed := _ }) _) rfl hw⟩
    simp [es, ep, nowUs, hw.tim, htim]
  | false =>
    simp only [hp, Bool.false_eq_true, if_false] at he
    have hr := reply_ok h stOk [] hk.pnw hsent
    refine ⟨_, he, ?_, (reply_changes _ _ _ _).mono rfl⟩
    rw [hr]
    exact ⟨hk.pnw, by simp [hpst]⟩

end Sys2Proof.Machine
end

section
/-! The entry of a reset (R418). -/

namespace Sys2Proof.Machine

variable {s : State} {c : ResetClass} {cause : Byte}

/-- The role is given up, or was not held (R271). -/
theorem releaseRole_ownDrive (reason : Byte) (s : State) : (releaseRole reason s).pst.ownDrive = false := by
  unfold releaseRole
  split
  · simp only [(standbyDraw_changes _).pst, (standbyOutputs_changes _).pst, (applyOutputs_changes _).pst, (dropQen_changes _).pst,
      (demandReleased_changes _).pst, (discardTrim_changes _).pst, onAlm_pst, (post_changes _ _ _ _).pst, onPst_pst]
  · rename_i h
    simpa using h

/-- Every Quill enable taken away opens every pair (R205, R206). -/
theorem dropQen_open (s : State) : ∀ p ∈ (dropQen s).saf.pairs, p.2.on = false := by
  have half : ∀ p ∈ (onSaf (fun f => { f with pairs := tmap {} (fun x => { x with qen := false }) f.pairs }) s).saf.pairs,
      p.2.qen = false := by
    intro p hp
    obtain ⟨q, -, rfl⟩ := List.mem_map.mp (List.mem_of_mem_filter hp)
    rfl
  intro p hp
  obtain ⟨q, hq, rfl⟩ := List.mem_map.mp (List.mem_of_mem_filter hp)
  simp [switchPair, half q hq]

theorem railsDown_railsAt (s : State) : (railsDown s).dsp.railsAt = none := by
  unfold railsDown
  split
  · rfl
  · rename_i h
    simpa using h

theorem panelAbort_railsAt (s : State) : (panelAbort s).dsp.railsAt = none := railsDown_railsAt s

/-- What the entry does first: the role, the lanes, what waits for a T0, the module's state. -/
def entryStart (c : ResetClass) (cause : Byte) (s : State) : State :=
  let s := discardTrim (releaseRole 2 s)
  let s := onCyc (fun y => { y with sched := y.sched.filter (outlives c s) }) (abandonMaint (stopLanes s))
  onSup (fun u => { u with mode := .start, phase := .entry c cause, warmDue := none, holdExit := 0, holdRow := false }) s

/-- What the entry does after the lanes have stopped. -/
def entryEnd (c : ResetClass) (s : State) : State :=
  let s := endSessions (floodSummaries (applyOutputs (dropQen s)))
  let s := onAlm (fun a => { a with almN := false }) (onEvr (fun e => { e with running := false }) (startFlush s))
  if c = .w then s else panelAbort s

theorem entryEnd_changes (c : ResetClass) (s : State) :
    Changes [.fch, .saf, .alm, .pnw, .evr, .cvu, .dsp, .boot] s (entryEnd c s) := by
  have h : Changes [.fch, .saf, .alm, .pnw, .evr, .cvu, .dsp, .boot] s (endSessions (floodSummaries (applyOutputs (dropQen s)))) :=
    .comp (endSessions_changes _) rfl (.comp (floodSummaries_changes _) rfl (.comp (applyOutputs_changes _) rfl
      ((dropQen_changes s).mono rfl)))
  have k : Changes [.fch, .saf, .alm, .pnw, .evr, .cvu, .dsp, .boot] s _ :=
    .comp (onAlm_changes (fun a => { a with almN := false }) _) rfl
      (.comp (onEvr_changes (fun e => { e with running := false }) _) rfl (.comp (startFlush_changes _) rfl h))
  exact .ite (fun _ => k) (fun _ => .comp (panelAbort_changes _) rfl k)

/-- The entry of a reset: the module's state and the lanes, posting and flush, sessions, pairs, the role (R418). -/
def Entered (c : ResetClass) (cause : Byte) (t : State) : Prop :=
  t.sup.mode = .start ∧ t.sup.phase = .entry c cause ∧ t.nibA.st = .stopped ∧ t.nibB.st = .stopped ∧ t.evr.running = false ∧
    t.evr.flushing = true ∧ t.pnw.sessions = [] ∧ (∀ p ∈ t.saf.pairs, p.2.on = false) ∧ t.pst.ownDrive = false ∧
    (c ≠ .w → t.dsp.railsAt = none ∧ t.cyc.sched = [])

theorem entryEnd_evr : (entryEnd c s).evr.running = false ∧ (entryEnd c s).evr.flushing = true ∧ (entryEnd c s).pnw.sessions = [] := by
  unfold entryEnd
  dsimp only
  split
  · exact ⟨rfl, rfl, rfl⟩
  · simp only [(panelAbort_changes _).evr, (panelAbort_changes _).pnw]
    exact ⟨rfl, rfl, rfl⟩

theorem entryEnd_pairs : ∀ p ∈ (entryEnd c s).saf.pairs, p.2.on = false := by
  have h : (entryEnd c s).saf = (dropQen s).saf := by
    unfold entryEnd
    dsimp only
    split <;> simp only [(panelAbort_changes _).saf, onAlm_saf, onEvr_saf, (startFlush_changes _).saf, (endSessions_changes _).saf,
      (floodSummaries_changes _).saf, (applyOutputs_changes _).saf]
  rw [h]
  exact dropQen_open s

/-- Nothing but an online change outlives the entry, and that at W alone (R88). -/
theorem outlives_cold (hw : c ≠ .w) (s : State) (x : Sched) : outlives c s x = false := by
  unfold outlives
  split
  · simp [hw]
  · rfl

theorem entryStart_lanes : (entryStart c cause s).nibA.st = .stopped ∧ (entryStart c cause s).nibB.st = .stopped := by
  simp only [entryStart, onSup_nibA, onSup_nibB, onCyc_nibA, onCyc_nibB, (abandonMaint_changes _).nibA, (abandonMaint_changes _).nibB]
  exact stopLanes_lanes

theorem entryStart_ownDrive : (entryStart c cause s).pst.ownDrive = false := by
  simp only [entryStart, onSup_pst, onCyc_pst, (abandonMaint_changes _).pst, (stopLanes_changes _).pst, (discardTrim_changes _).pst]
  exact releaseRole_ownDrive 2 s

theorem entryStart_sched (hw : c ≠ .w) : (entryStart c cause s).cyc.sched = [] :=
  List.filter_eq_nil_iff.mpr fun x _ => by rw [outlives_cold hw]; decide

theorem resetSteps_entered : Entered c cause (resetSteps c cause s) := by
  have e : resetSteps c cause s = entryEnd c (entryStart c cause s) := rfl
  have hc := entryEnd_changes c (entryStart c cause s)
  obtain ⟨hrun, hflush, hsess⟩ := entryEnd_evr (c := c) (s := entryStart c cause s)
  rw [e, Entered, hc.sup, hc.nibA, hc.nibB, hc.pst, hc.cyc]
  refine ⟨rfl, rfl, entryStart_lanes.1, entryStart_lanes.2, hrun, hflush, hsess, entryEnd_pairs, entryStart_ownDrive,
    fun hw => ⟨?_, entryStart_sched hw⟩⟩
  rw [entryEnd, if_neg hw]
  exact panelAbort_railsAt _

/-- From a module that runs, a cause enters the reset (R418). -/
theorem enterReset_running (h : s.sup.phase = .starting ∨ s.sup.phase = .roleWait ∨ s.sup.phase = .waitT0 ∨ s.sup.phase = .up) :
    enterReset c cause s = resetSteps c cause s := by
  rcases h with h | h | h | h <;> simp only [enterReset, h]

end Sys2Proof.Machine
end

section
/-! The commands of the module's state and of its lane mode (R23, R24, R76, R85, R110, R111, R425). -/

namespace Sys2Proof.Machine

variable {r : Req} {s : State} {c : Instr}

/-- A command that one condition admits, where it does not hold. -/
theorem does_acceptIf_refused {ok : State → Bool} {st : BitVec 16} {k : State → State} (h : admits r lvEngineer s = true)
    (hd : s.sup.mode ≠ .decaf) (he : exec c s = .next (screenReq r lvEngineer false (fun s => acceptIf r (ok s) st k s) s))
    (hok : ok (admitted r s) = false) : Does c s (fun t => Answered r st [] s t ∧ Changes [.pnw, .sent] s t) := by
  refine does_refusedPlain h ?_
  rw [exec_screened h hd he, hok, acceptIf, if_neg (by decide)]

/-- A command that one condition admits, where it holds. -/
theorem exec_acceptIf_ok {ok : State → Bool} {st : BitVec 16} {k : State → State} (h : admits r lvEngineer s = true)
    (hd : s.sup.mode ≠ .decaf) (he : exec c s = .next (screenReq r lvEngineer false (fun s => acceptIf r (ok s) st k s) s))
    (hok : ok (admitted r s) = true) : exec c s = .next (k (admitted r s)) := by
  rw [exec_screened h hd he, hok, acceptIf, if_pos rfl]

/-- What Hold does to the outputs at the end. -/
theorem heldOutputs_changes (s : State) : Changes [.fch, .saf, .evr] s (applyOutputs (openPairs (demandReleased s))) :=
  .comp (applyOutputs_changes _) rfl (.comp (openPairs_changes _) rfl ((demandReleased_changes _).mono rfl))

/-- A command carried out and answered at once, where its condition holds. -/
theorem does_acceptIf_ok {T : List Part} {ok : State → Bool} {st : BitVec 16} {k : State → State} (h : admits r lvEngineer s = true)
    (hd : s.sup.mode ≠ .decaf)
    (he : exec c s = .next (screenReq r lvEngineer false (fun s => acceptIf r (ok s) st (fun s => reply r stOk [] (k s)) s) s))
    (hok : ok (admitted r s) = true) (hk : ∀ u, Changes T u (k u)) (hp : T.contains .pnw = false := by rfl)
    (hs : T.contains .sent = false := by rfl) : Does c s (fun t => Answered r 0 [] s t ∧ Changes [.sent] (k (admitted r s)) t) :=
  does_answeredOk h (hk _) (exec_acceptIf_ok h hd he hok) hp hs

/-- Hold: its mode and instant, the lanes, the loop engine, the cycle (R24, R76). -/
theorem enterHold_held (hr : inRun s = true) : (enterHold s).sup.mode = .hold ∧ (enterHold s).sup.holdSince = nowUs s ∧
    (enterHold s).nibA.st = .stopped ∧ (enterHold s).nibB.st = .stopped ∧ (enterHold s).lpe.held = true ∧
    (enterHold s).cyc.phase = .idle := by
  have ht : nowUs (pauseLanes (endCommissioning s)) = nowUs s := (pauseLanes_changes _).nowUs.trans (endCommissioning_changes s).nowUs
  unfold enterHold
  rw [if_neg (by simp [hr])]
  simp only [(heldOutputs_changes _).sup, (heldOutputs_changes _).nibA, (heldOutputs_changes _).nibB, (heldOutputs_changes _).lpe,
    (heldOutputs_changes _).cyc, onLpe_sup, onCyc_sup, onSup_sup, ht, onLpe_lpe, true_and]
  exact ⟨rfl, rfl, rfl⟩

theorem applyOutput_ses (i : Nat) (s : State) : (applyOutput i s).fch.ses = s.fch.ses := by
  have hq : ∀ u, (requal i u).fch.ses = u.fch.ses := fun u => by rw [(requal_law i u).2.2]
  unfold applyOutput
  dsimp only
  split_ifs <;> simp only [hq, setChan]

theorem discardTrim_ses (s : State) : (discardTrim s).fch.ses = none := by
  unfold discardTrim
  split
  · assumption
  · rw [applyOutput_ses, post_fch]
    rfl

/-- Which variables are safety-related is the image's. -/
theorem safetyTarget_of_img {t : State} (h : t.img = s.img) (x : ForceTarget) : safetyTarget t x = safetyTarget s x := by
  cases x <;> simp only [safetyTarget, h]

theorem safetyForced_of_eq {t : State} (hc : t.cyc = s.cyc) (hi : t.img = s.img) : safetyForced t = safetyForced s := by
  simp only [safetyForced, hc, safetyTarget_of_img hi]

/-- Commissioning left: no trim session, no injection; a safety-related force makes a warm restart due (R85). -/
theorem leaveCommissioning_left (hm : s.sup.mode = .commissioning) : (leaveCommissioning s).sup.mode = .run ∧
    (leaveCommissioning s).sup.warmDue = (if safetyForced s then some 0x21 else s.sup.warmDue) ∧
    (leaveCommissioning s).fch.ses = none := by
  have hc := endCommissioning_changes s
  refine ⟨rfl, ?_, ?_⟩
  · simp only [leaveCommissioning, onSup_sup, safetyForced_of_eq hc.cyc hc.img, hc.sup]
  · simp only [leaveCommissioning, onSup_fch, endCommissioning, hm, if_true, (clearInjectors_changes _).fch, discardTrim_ses]

/-- Hold left: Run, with the exit of R76 to go. -/
theorem leaveHold_left (hm : s.sup.mode = .hold) : (leaveHold s).sup = { s.sup with
    mode := .run, holdExit := 2, holdRow := true, holdSec := BitVec.ofNat 32 ((nowUs s - s.sup.holdSince) / 1000000) } := by
  unfold leaveHold
  rw [if_neg (by simp [hm])]
  exact (mapTraces_changes _ _).sup

/-- What a command does on acceptance counts at the state of its acceptance alone. -/
theorem acceptBoth_congr {f : FwdCmd} {k k' : State → State} {t : State} (e : k t = k' t) :
    acceptBoth r f k t = acceptBoth r f k' t := by
  unfold acceptBoth acceptWith forwardBoth
  rw [e]

theorem acceptBoth_single {f : FwdCmd} {k : State → State} (hp : paired s = false) :
    acceptBoth r f k (admitted r s) = reply r stOk [] (k (admitted r s)) := by
  rw [acceptBoth, acceptWith, admitted_paired, hp, if_neg (by decide)]

variable {ok : State → Bool} {f : FwdCmd} {a : T0Act} {k : State → State}

/-- A state command of a pair waits for its T0 (R24, R79). -/
theorem does_stateCommand_paired (h : admits r lvEngineer s = true) (hd : s.sup.mode ≠ .decaf)
    (he : exec c s = .next (stateCommand r ok f a k s)) (hok : ok (admitted r s) = true) (hf : fwdAct f = some a)
    (hp : paired s = true) : Does c s (fun t => AcceptedBoth r f s t ∧ Lined a s t) := by
  refine does_accepted h hf ((exec_acceptIf_ok h hd he hok).trans (congrArg _ (acceptBoth_congr ?_)))
  simp only [admitted_paired, hp, if_true]

/-- A state command of a single module is carried out at once (R24). -/
theorem exec_stateCommand_single (h : admits r lvEngineer s = true) (hd : s.sup.mode ≠ .decaf)
    (he : exec c s = .next (stateCommand r ok f a k s)) (hok : ok (admitted r s) = true) (hp : paired s = false) :
    exec c s = .next (reply r stOk [] (k (admitted r s))) := by
  rw [exec_acceptIf_ok h hd he hok, acceptBoth_single hp]
  simp only [admitted_paired, hp, Bool.false_eq_true, if_false]

end Sys2Proof.Machine
end

section
/-! The injection test (R105, R106, R111). -/

namespace Sys2Proof.Machine

variable {s : State} {t : SelfTest}

theorem entryBroken_mkCkpt (x : LaneSt) (cell : Nat) (kind : Byte) :
    entryBroken (ckptBytes (mkCkpt x cell kind)) (mkCkpt x cell kind).check = false := by
  simp [entryBroken, mkCkpt, ckptBytes]

/-- The comparator judges the entries of the test by their signatures. -/
theorem judge_testEntry (a b c d : Word) : judge false false (testEntry a b) (testEntry c d) =
    if a ≠ c then .output else if b ≠ d then .diverged else .equal := by
  unfold judge testEntry
  rw [entryBroken_mkCkpt, entryBroken_mkCkpt]
  by_cases h1 : a = c <;> by_cases h2 : b = d <;> simp [mkCkpt, h1, h2]

theorem testBit_eq_nil {i : Nat} : testBit t i = [] ↔ t.unequal.getLsbD i = false ∧ t.dead.getLsbD i = false := by
  have hf : ¬ 0#32 = BitVec.ofNat 32 (1 <<< (i % 32)) := by
    have bits : ∀ j < 32, ¬ 0#32 = BitVec.ofNat 32 (1 <<< j) := by decide
    exact bits _ (Nat.mod_lt _ (by decide))
  by_cases h : i < 32 <;> simp [testBit, judge_testEntry, h, hf]

/-- A stored entry of the test with one bit inverted fails its check value. -/
theorem entryBroken_flipStored :
    ∀ j < 64, entryBroken (flipStored (ckptBytes (testEntry 0 0)) (j % 128)) (testEntry 0 0).check = true := by
  decide +kernel

theorem testPlace_eq_nil {j : Nat} (hj : j < 64) : testPlace t j = [] ↔ t.dead.getLsbD (0x40 + j) = false := by
  unfold testPlace
  dsimp only
  rw [entryBroken_flipStored j hj]
  simp

/-- The test passes where no flag is dead and no verdict of equality fails (R106). -/
theorem testPasses_iff : testPasses t = true ↔ t.dead = 0 ∧ t.unequal = 0 := by
  have hp : testPasses t = true ↔ (∀ i < 64, t.unequal.getLsbD i = false ∧ t.dead.getLsbD i = false) ∧
      ∀ j < 64, t.dead.getLsbD (0x40 + j) = false := by
    simp only [testPasses, testFailures, List.isEmpty_iff, List.append_eq_nil_iff, List.flatMap_eq_nil_iff, List.mem_range]
    exact and_congr (forall₂_congr fun _ _ => testBit_eq_nil) (forall₂_congr fun _ => testPlace_eq_nil)
  rw [hp]
  constructor
  · rintro ⟨h, k⟩
    refine ⟨BitVec.eq_of_getLsbD_eq fun i hi => ?_, BitVec.eq_of_getLsbD_eq fun i hi => by simpa using (h i hi).1⟩
    by_cases hl : i < 64
    · simpa using (h i hl).2
    · have := k (i - 64) (by omega)
      rw [show 0x40 + (i - 64) = i by omega] at this
      simpa using this
  · rintro ⟨h, k⟩
    simp [h, k]

end Sys2Proof.Machine
end

section
/-! Split, rejoin and the retain store (R110, R111, R425), and the settled statement. -/

namespace Sys2Proof.Machine

variable {r : Req} {s : State} {t : SelfTest}

@[simp] theorem admitted_hasCat4 : hasCat4 (admitted r s) = hasCat4 s := by simp only [hasCat4, admitted_img]

/-- A split put in line for its T0 (R110). -/
def beginSplit (s : State) : State := schedule .split (onCmp (fun m => { m with pending := true }) s)

theorem beginSplit_changes (s : State) : Changes [.cyc, .cmp] s (beginSplit s) :=
  .comp (schedule_changes _ _) rfl ((onCmp_changes _ s).mono rfl)

theorem exec_splitLanes (h : admits r lvEngineer s = true) (hd : s.sup.mode ≠ .decaf) : exec (.splitLanes r) s =
    .next (if !(inRun s && s.cmp.mode == .checked) then reply r stState [] (admitted r s)
      else if !s.img.split || hasCat4 s then reply r stSplit [] (admitted r s)
      else acceptBoth r .split beginSplit (admitted r s)) := by
  have he := exec_screened (c := .splitLanes r) h hd rfl
  simp only [admitted_inRun, admitted_cmp, admitted_img, admitted_hasCat4] at he
  exact he

theorem exec_splitLanes_accepted (h : admits r lvEngineer s = true) (hd : s.sup.mode ≠ .decaf) (hr : inRun s = true)
    (hm : s.cmp.mode = .checked) (hs : s.img.split = true) (hc : hasCat4 s = false) :
    exec (.splitLanes r) s = .next (acceptBoth r .split beginSplit (admitted r s)) := by
  rw [exec_splitLanes h hd, if_neg (by simp [hr, hm]), if_neg (by simp [hs, hc])]

theorem exec_splitLanes_forbidden (h : admits r lvEngineer s = true) (hd : s.sup.mode ≠ .decaf) (hr : inRun s = true)
    (hm : s.cmp.mode = .checked) (hs : s.img.split = false ∨ hasCat4 s = true) :
    exec (.splitLanes r) s = .next (reply r stSplit [] (admitted r s)) := by
  rw [exec_splitLanes h hd, if_neg (by simp [hr, hm]), if_pos (by simpa using hs)]

theorem exec_splitLanes_state (h : admits r lvEngineer s = true) (hd : s.sup.mode ≠ .decaf)
    (hn : ¬(inRun s = true ∧ s.cmp.mode = .checked)) :
    exec (.splitLanes r) s = .next (reply r stState [] (admitted r s)) := by
  rw [exec_splitLanes h hd, if_pos (by simpa [imp_iff_not_or] using hn)]

/-- A rejoin whose test passes is prepared (R111). -/
theorem beginRejoin_passed (n : Nat) (h : testPasses t = true) : (beginRejoin n t s).cmp.testDone = true ∧
    (beginRejoin n t s).cmp.testPass = true ∧ (beginRejoin n t s).cmp.rejoinAt = some n ∧
    (beginRejoin n t s).cmp.rejoinTested = true ∧ (beginRejoin n t s).cmp.pending = true ∧
    (beginRejoin n t s).cmp.mode = s.cmp.mode := by
  unfold beginRejoin
  dsimp only
  rw [if_pos h]
  have hl : (testFailures t).isEmpty = true := h
  simp only [recordTest, onCmp_cmp, hl, and_self]

/-- A rejoin whose test fails ends there and blocks the next (R110, R111). -/
theorem beginRejoin_failed (n : Nat) (h : testPasses t = false) : (beginRejoin n t s).cmp.testDone = true ∧
    (beginRejoin n t s).cmp.testPass = false ∧ (beginRejoin n t s).cmp.rejoinAt = none ∧
    (beginRejoin n t s).cmp.rejoinBlock = true ∧ (beginRejoin n t s).cmp.mode = .split := by
  unfold beginRejoin rejoinFailed
  dsimp only
  rw [if_neg (by simp [h]), (post_changes _ _ _ _).cmp]
  have hl : (testFailures t).isEmpty = false := h
  simp only [recordTest, onCmp_cmp, hl, Bool.or_true, and_self]

end Sys2Proof.Machine

open Sys2Proof Sys2Proof.Machine

/-- Settles O23: each command through its admission, then through what it does or what puts it in line. -/
theorem stateCommands : Obligations.StateCommands := by
  intro r s h hd
  have inRun_iff : s.sup.mode = .run ∨ s.sup.mode = .commissioning ↔ inRun (admitted r s) = true := by simp [inRun]
  refine ⟨fun hm => ?_, fun hm => ?_, fun hm => ?_, fun hm => ?_, fun hm hp => ?_, fun hm hp => ?_, fun hm => ?_, fun hm hp => ?_,
    fun hm hp => ?_, fun hm => ?_, fun hm => ?_, fun hm => ?_, fun hm => ?_, fun hm hk hs hc => ?_, fun hm hk hs => ?_,
    fun hm => ?_, fun t hm hk hb => ⟨fun h0 h1 => ?_, fun hn => ?_⟩, fun t hm => ?_, fun hm => ?_, fun hm => ?_⟩
  · refine (does_acceptIf_ok h hd rfl (by simpa using hm) (onSup_changes _)).mono fun t ⟨ha, hc⟩ => ⟨ha, ?_, ?_⟩
    · rw [hc.sup, onSup_sup, admitted_sup]
    · exact .comp hc rfl (.comp (onSup_changes _ _) rfl ((admitted_changes r s).mono rfl))
  · exact does_acceptIf_refused h hd rfl (by simpa using hm)
  · refine (does_acceptIf_ok h hd rfl (by simpa using hm) leaveCommissioning_changes).mono fun t ⟨ha, hc⟩ => ⟨ha, ?_⟩
    obtain ⟨hrun, hdue, hses⟩ := leaveCommissioning_left (s := admitted r s) (by simpa using hm)
    rw [hc.sup, hc.fch, hrun, hdue, safetyForced_of_eq admitted_cyc admitted_img, admitted_sup]
    exact ⟨rfl, rfl, hses⟩
  · exact does_acceptIf_refused h hd rfl (by simpa using hm)
  · have hr := inRun_iff.mp hm
    refine (does_answeredOk h (enterHold_changes _) (exec_stateCommand_single h hd rfl hr hp)).mono fun t ⟨ha, hc⟩ => ⟨ha, ?_⟩
    rw [hc.sup, hc.nibA, hc.nibB, hc.lpe, hc.cyc]
    simpa using enterHold_held hr
  · exact does_stateCommand_paired h hd rfl (inRun_iff.mp hm) rfl hp
  · exact does_acceptIf_refused h hd rfl (by simpa using inRun_iff.not.mp hm)
  · refine (does_answeredOk h (leaveHold_changes _) (exec_stateCommand_single h hd rfl (by simpa using hm) hp)).mono
      fun t ⟨ha, hc⟩ => ⟨ha, ?_⟩
    rw [hc.sup, leaveHold_left (by simpa using hm)]
    simp
  · exact does_stateCommand_paired h hd rfl (by simpa using hm) rfl hp
  · exact does_acceptIf_refused h hd rfl (by simpa using hm)
  · refine (does_acceptIf_ok h hd rfl (inRun_iff.mp hm) (onSup_changes _)).mono fun t ⟨ha, hc⟩ => ⟨ha, ?_, ?_⟩
    · rw [hc.sup, onSup_sup, admitted_sup]
    · exact .comp hc rfl (.comp (onSup_changes _ _) rfl ((admitted_changes r s).mono rfl))
  · exact does_acceptIf_refused h hd rfl (by simpa using inRun_iff.not.mp hm)
  · have he : exec (.restartClassS r) s = .next (enterReset .s 0x11 (reply r stOk [] (admitted r s))) :=
      exec_screened (k := fun s => enterReset .s 0x11 (reply r stOk [] s)) h hd rfl
    have hr := (reply_changes r stOk [] (admitted r s)).sup
    rw [enterReset_running (.inr (.inr (.inr (by rw [hr, admitted_sup, hm]))))] at he
    obtain ⟨h1, h2, h3, h4, h5, h6, h7, -⟩ := resetSteps_entered (c := .s) (cause := 0x11) (s := reply r stOk [] (admitted r s))
    exact ⟨_, he, h1, h2, h3, h4, h5, h6, h7⟩
  · have he := exec_splitLanes_accepted h hd (by simpa using inRun_iff.mp hm) hk hs hc
    have hf : Changes [.cyc, .cmp, .evr] (admitted r s) (beginSplit (admitted r s)) := (beginSplit_changes _).mono rfl
    have ha := does_acceptedBy h rfl hf he
    exact ⟨ha.mono fun t ⟨ha, hc⟩ => ⟨ha, by rw [hc.cyc]; simp [beginSplit, schedule, nowUs]⟩,
      ha.mono fun t ⟨_, hc⟩ => by rw [hc.cmp]; simp [beginSplit, schedule]⟩
  · exact does_refusedPlain h (exec_splitLanes_forbidden h hd (by simpa using inRun_iff.mp hm) hk hs)
  · exact does_refusedPlain h (exec_splitLanes_state h hd (by simpa [inRun] using hm))
  · have he := exec_acceptIf_ok (c := .rejoinLanes r t) h hd rfl (by simpa [hk, hb] using inRun_iff.mp hm)
    have hp := testPasses_iff.mpr ⟨h0, h1⟩
    simp only [hp, if_true, admitted_nowUs] at he
    refine (does_acceptedBy h rfl ((beginRejoin_changes _ _ _).mono rfl) he).mono fun v ⟨ha, hc⟩ => ⟨ha, ?_⟩
    rw [hc.cmp]
    simpa [hk] using beginRejoin_passed (s := admitted r s) (nowUs s) hp
  · have he := exec_acceptIf_ok (c := .rejoinLanes r t) h hd rfl (by simpa [hk, hb] using inRun_iff.mp hm)
    have hp : testPasses t = false := by simpa using testPasses_iff.not.mpr hn
    simp only [hp, Bool.false_eq_true, if_false, admitted_nowUs] at he
    refine (does_answeredOk h (beginRejoin_changes _ _ _) he).mono fun v ⟨ha, hc⟩ => ⟨ha, ?_⟩
    rw [hc.cmp]
    exact beginRejoin_failed (nowUs s) hp
  · exact does_acceptIf_refused h hd rfl (by simpa [inRun] using hm)
  · exact does_accepted h rfl (exec_acceptIf_ok h hd rfl (by simpa using hm))
  · exact does_acceptIf_refused h hd rfl (by simpa using hm)
end

section
/-! The T0 of a cycle (R62, R73, R75 to R79). -/

namespace Sys2Proof.Machine

variable {s : State}

/-! ### Tables written entry by entry -/

theorem tputs_append {α : Type} [DecidableEq α] (d : α) (t : Tab α) (a b : List (Nat × α)) :
    tputs d t (a ++ b) = tputs d (tputs d t a) b := List.foldl_append

theorem tget_tputs_other {α : Type} [DecidableEq α] {d : α} {i : Nat} {l : List (Nat × α)} (h : ∀ p ∈ l, p.1 ≠ i) (t : Tab α) :
    tget d (tputs d t l) i = tget d t i := by
  induction l generalizing t with
  | nil => rfl
  | cons p l ih =>
    rw [List.forall_mem_cons] at h
    exact (ih h.2 _).trans (tget_tput_other h.1.symm)

/-! ### The part of a T0 before the cycle -/

/-- The words written in a cycle forgotten. -/
def forgetWrites (x : LaneSt) : LaneSt := { x with wrote := [] }

/-- A T0 before its acts: the journal applied, what the partner did not confirm dropped (R79, R423). -/
def beforeActs (s : State) : State :=
  setLane .b forgetWrites (setLane .a forgetWrites (dropHeld (applyJournal (onCyc (fun c => { c with late := false }) s))))

/-- A T0 before its cycle: the acts carried out, the lane mode followed, the cycles of a standby counted (R79, R110, R281). -/
def settleT0 (s : State) : State := countQual (laneModeT0 (applyDue 0 (fun _ => true) (beforeActs s)))

/-- A T0 of a module that has entered Run. -/
def serviceT0 (s : State) : State :=
  if !(s.sup.phase == .up && inService s) then s
  else match (if inRun s then s.sup.warmDue else none) with
    | some cause => enterReset .w cause s
    | none =>
      if stillLate s then selfDiag .consecutiveOverrun s
      else if executes (settleT0 s) then beginCycle (settleT0 s) else idleT0 (settleT0 s)

theorem cycleT0_eq (s : State) : cycleT0 s = serviceT0 (if s.sup.phase = .waitT0 then enterRun s else s) := rfl

theorem cycleT0_up (hp : s.sup.phase = .up) : cycleT0 s = serviceT0 s := by
  rw [cycleT0_eq, if_neg (by simp [hp])]

theorem inService_of_inRun (h : inRun s = true) : inService s = true := by simp [inService, h]

/-- A warm restart that is due (R23, R418). -/
theorem serviceT0_warmDue {c : Byte} (hp : s.sup.phase = .up) (hr : inRun s = true) (hw : s.sup.warmDue = some c) :
    serviceT0 s = enterReset .w c s := by
  unfold serviceT0
  rw [if_neg (by simp [hp, inService_of_inRun hr]), if_pos hr, hw]

theorem serviceT0_notDue (hp : s.sup.phase = .up) (hi : inService s = true) (hw : inRun s = true → s.sup.warmDue = none) :
    serviceT0 s = if stillLate s then selfDiag .consecutiveOverrun s
      else if executes (settleT0 s) then beginCycle (settleT0 s) else idleT0 (settleT0 s) := by
  have hn : (if inRun s = true then s.sup.warmDue else none) = none := by
    split
    · exact hw ‹_›
    · rfl
  unfold serviceT0
  rw [if_neg (by simp [hp, hi]), hn]

/-- What `settleT0` leaves of a state in which nothing waits for the T0. -/
structure Settled (s t : State) : Prop where
  frame : Changes [.nibA, .nibB, .cyc, .cmp, .fch, .pst] s t
  count : t.cyc.count = s.cyc.count
  role : roleShown t = roleShown s
  shadow : t.pst.shadow = s.pst.shadow
  instep : t.pst.instep = s.pst.instep

/-- No act waits, no observation runs: what the operations before the cycle need of the state. -/
def Idle (n : BitVec 64) (s : State) : Prop := s.cyc.sched = [] ∧ s.cyc.count = n ∧ s.cmp.mode ≠ .rejoining

theorem dropHeld_idle {n : BitVec 64} (h : Idle n s) : Idle n (dropHeld s) := by
  obtain ⟨hs, hn, hm⟩ := h
  unfold dropHeld
  simp only [hs, List.filter_nil, forEach, List.foldl_nil]
  split
  · exact ⟨by simp [withdraw, hs], hn, hm⟩
  · exact ⟨by simp [hs], hn, hm⟩

theorem applyJournal_idle {n : BitVec 64} (h : Idle n s) : Idle n (applyJournal s) := by
  unfold applyJournal
  split
  · exact h
  · exact h

/-- With no act in line a T0 applies none. -/
theorem applyDue_idle {n : BitVec 64} (ahead : Nat) (p : T0Act → Bool) (h : Idle n s) : applyDue ahead p s = s := by
  have e : onCyc (fun c => { c with sched := [] }) s = s := by
    rw [← h.1]
    rfl
  unfold applyDue
  simpa [h.1, forEach, onCyc] using e

theorem laneModeT0_idle {n : BitVec 64} (h : Idle n s) : laneModeT0 s = s := if_neg h.2.2

theorem countQual_pst (s : State) : ∃ n, (countQual s).pst = { s.pst with qualCycles := n } := by
  unfold countQual
  split
  · exact ⟨_, rfl⟩
  · exact ⟨_, rfl⟩

theorem beforeActs_idle (h : s.cyc.sched = []) (hm : s.cmp.mode ≠ .rejoining) : Idle s.cyc.count (beforeActs s) :=
  dropHeld_idle (applyJournal_idle (s := onCyc (fun c => { c with late := false }) s) ⟨h, rfl, hm⟩)

theorem beforeActs_changes (s : State) : Changes [.nibA, .nibB, .cyc, .cmp, .fch] s (beforeActs s) :=
  .comp (setLane_changes _ _ _) rfl (.comp (setLane_changes _ _ _) rfl (.comp (dropHeld_changes _) rfl
    (.comp (applyJournal_changes _) rfl ((onCyc_changes _ s).mono rfl))))

/-- What a T0 for which nothing waits leaves of the state before its cycle. -/
theorem settleT0_settled (h : s.cyc.sched = []) (hm : s.cmp.mode ≠ .rejoining) : Settled s (settleT0 s) := by
  have hi := beforeActs_idle h hm
  have hc := beforeActs_changes s
  have e : settleT0 s = countQual (beforeActs s) := by rw [settleT0, applyDue_idle 0 _ hi, laneModeT0_idle hi]
  have hq := countQual_changes (beforeActs s)
  obtain ⟨k, hk⟩ := countQual_pst (beforeActs s)
  rw [hc.pst] at hk
  rw [e]
  refine ⟨.comp hq rfl (hc.mono rfl), by rw [hq.cyc, hi.2.1], ?_, by rw [hk], by rw [hk]⟩
  simp only [roleShown, gate, hk, hq.sup, hc.sup]
  rfl

theorem Settled.inRun {t : State} (h : Settled s t) : inRun t = inRun s := by simp only [Machine.inRun, h.frame.sup]

theorem Settled.executes {t : State} (h : Settled s t) : executes t = executes s := by
  simp only [Machine.executes, h.inRun, h.role, h.shadow, h.instep, h.frame.img]

/-! ### The cycle -/

/-- The four words of the loop slots stand above the status words (R62, R138). -/
theorem loopWords_above (s : State) : ∀ p ∈ loopWords s, 0x2100 ≤ p.1 := by
  intro p hp
  obtain ⟨q, -, hq⟩ := List.mem_flatMap.mp hp
  simp only [List.mem_cons, List.not_mem_nil, or_false] at hq
  rcases hq with rfl | rfl | rfl | rfl <;> dsimp only <;> omega

/-- The word 0xC0 of the latched input image (R62). -/
theorem latchInputs_count (s : State) : tget 0 (latchInputs s).cyc.inputs 0xC0 = s.cyc.count.setWidth 32 := by
  have hf : ∀ u, (forEach allChans (fun i s => setChan i (fun c => { c with changes := 0 }) s) u).cyc = u.cyc :=
    fun u => (each_setChan_changes u).cyc
  have hl : ∀ p ∈ loopWords s, p.1 ≠ 0xC0 := fun p hp => by
    have := loopWords_above s p hp
    omega
  have hs : ∀ t, tget 0 (tputs 0 t (statusWords s)) 0xC0 = s.cyc.count.setWidth 32 := fun t =>
    (tget_tputs_other (i := 0xC0) (l := (statusWords s).tail) (by simp [statusWords]) _).trans tget_tput_same
  unfold latchInputs
  dsimp only
  rw [hf]
  simp only [onCyc_cyc, tputs_append, tget_tputs_other hl, hs]

/-- A latch leaves of the cycle all but the inputs and the mark of the first. -/
theorem latchInputs_cyc (s : State) : (latchInputs s).cyc = { s.cyc with inputs := (latchInputs s).cyc.inputs, firstDue := false } := by
  have hf : ∀ u, (forEach allChans (fun i s => setChan i (fun c => { c with changes := 0 }) s) u).cyc = u.cyc :=
    fun u => (each_setChan_changes u).cyc
  unfold latchInputs
  dsimp only
  rw [hf, onCyc_cyc]

/-- A cycle that begins: its number, its time, its inputs (R62, R73). -/
theorem beginCycle_begun (s : State) : (beginCycle s).cyc.count = s.cyc.count + 1 ∧ (beginCycle s).cyc.t0Us = nowUs s ∧
    (beginCycle s).cyc.phase = .inputs ∧ (beginCycle s).cyc.objVals = [] ∧
    tget 0 (beginCycle s).cyc.inputs 0xC0 = (s.cyc.count + 1).setWidth 32 ∧ (beginCycle s).cyc.firstDue = false := by
  have hk : ∀ u, (syncSend (ringT0 (importsT0 (onLpe (fun l => { l with held := false }) u)))).cyc = u.cyc := fun u => by
    rw [(syncSend_changes _).cyc, (ringT0_changes _).cyc, (importsT0_changes _).cyc, onLpe_cyc]
  unfold beginCycle
  dsimp only
  rw [latchInputs_count, latchInputs_cyc, hk]
  exact ⟨rfl, rfl, rfl, rfl, rfl, rfl⟩

/-! ### The first T0 after the start sequence -/

theorem enterRun_sup (s : State) : (enterRun s).sup = { s.sup with mode := .run, phase := .up } := by
  have hk : ∀ u, (requalAll allChans (applyOutputs (loopInit u))).sup = u.sup := fun u => by
    rw [(requalAll_changes _ _).sup, (applyOutputs_changes _).sup, (loopInit_changes _).sup]
  unfold enterRun
  simp only [hk, onCyc_sup, onBoot_sup, (adoptKeys_changes _).sup, onSup_sup, (roleAtRun_changes _).sup]

theorem enterRun_runUs (s : State) : (enterRun s).boot.runUs = some (nowUs s) := by
  have hk : ∀ u, (requalAll allChans (applyOutputs (loopInit u))).boot = u.boot := fun u => by
    rw [(requalAll_changes _ _).boot, (applyOutputs_changes _).boot, (loopInit_changes _).boot]
  unfold enterRun
  simp only [hk, onCyc_boot, onBoot_boot, (adoptKeys_changes _).nowUs, (onSup_changes _ _).nowUs, (roleAtRun_changes _).nowUs]

theorem enterRun_cyc (s : State) : (enterRun s).cyc = { s.cyc with firstDue := true, snapFresh := false } := by
  have hk : ∀ u, (requalAll allChans (applyOutputs (loopInit u))).cyc = u.cyc := fun u => by
    rw [(requalAll_changes _ _).cyc, (applyOutputs_changes _).cyc, (loopInit_changes _).cyc]
  unfold enterRun
  simp only [hk, onCyc_cyc, onBoot_cyc, (adoptKeys_changes _).cyc, onSup_cyc, (roleAtRun_changes _).cyc]

/-- The first T0 after the start sequence, with nothing waiting: Run (R23, R436). -/
theorem firstT0_run (hp : s.sup.phase = .waitT0) (hw : s.sup.warmDue = none) (hl : s.cyc.late = false) (hs : s.cyc.sched = [])
    (hm : s.cmp.mode ≠ .rejoining) : (cycleT0 s).sup = { s.sup with mode := .run, phase := .up } ∧
    (cycleT0 s).boot.runUs = some (nowUs s) := by
  have hsup := enterRun_sup s
  have hcyc := enterRun_cyc s
  have hd : Settled (enterRun s) (settleT0 (enterRun s)) :=
    settleT0_settled (by rw [hcyc]; exact hs) (by rw [(enterRun_changes s).cmp]; exact hm)
  rw [cycleT0_eq, if_pos hp, serviceT0_notDue (by rw [hsup]) (by simp [inService, inRun, hsup]) (fun _ => by rw [hsup]; exact hw),
    if_neg (by simp [stillLate, hcyc, hl]), ← hsup, ← enterRun_runUs s, ← hd.frame.sup, ← hd.frame.boot]
  split
  · exact ⟨(beginCycle_changes _).sup, by rw [(beginCycle_changes _).boot]⟩
  · exact ⟨(idleT0_changes _).sup, by rw [(idleT0_changes _).boot]⟩

end Sys2Proof.Machine
end

section
/-! The opening of the execute window and the input deadline (R20, R62, R73, R89 to R91, R317). -/

namespace Sys2Proof.Machine

variable {s : State} {n : Nat}

/-- The inputs with which the window opens: the remote stations' presence joins what T0 latched (R62). -/
def windowInputs (s : State) : Tab Word := tput 0 s.cyc.inputs 0xC4 (presentWord s)

/-- What the opening of the window leaves (R73, R89, R93, R108). -/
structure Opened (s t : State) : Prop where
  phase : t.cyc.phase = .window
  openUs : t.cyc.openUs = nowUs s
  inputs : t.cyc.inputs = windowInputs s
  nibA : t.nibA = startLane (if s.cmp.mode = .split then s.img.entryA else s.img.entry) (windowInputs s) s.nibA
  nibB : t.nibB = startLane (if s.cmp.mode = .split then s.img.entryB else s.img.entry) (windowInputs s) s.nibB
  queueA : t.cmp.queueA = if s.cmp.mode = .split then [] else [mkCkpt t.nibA 0 0]
  queueB : t.cmp.queueB = if s.cmp.mode = .split then [] else [mkCkpt t.nibB 0 0]
  endJudged : t.cmp.endJudged = false
  marked : t.cmp.marked = none

theorem checkpoint_split (h : s.cmp.mode = .split) (l : Lane) (cell : Nat) (kind : Byte) : checkpoint l cell kind s = s := if_pos h

theorem checkpoint_room (h : s.cmp.mode ≠ .split) {l : Lane} (hl : (laneQueue s.cmp l).length < 64) (cell : Nat) (kind : Byte) :
    checkpoint l cell kind s = onCmp (pushCkpt l (mkCkpt (lane s l) cell kind)) s := by
  unfold checkpoint
  rw [if_neg h]
  exact if_pos hl

/-- The state in which the opening's checkpoint is taken. -/
def windowState (s : State) : State :=
  let split := s.cmp.mode == .split
  let t : State := { s with mtrLanes := s.mtr
                            nibA := startLane (if split then s.img.entryA else s.img.entry) (windowInputs s) s.nibA
                            nibB := startLane (if split then s.img.entryB else s.img.entry) (windowInputs s) s.nibB }
  onCyc (fun c => { c with phase := .window, openUs := nowUs t, inputs := windowInputs s, objVals := [],
                           cells := tmap {} (fun x => { x with qbad := false, ovr := false }) c.cells })
    (onCmp (fun m => { m with queueA := [], queueB := [], judged := 0, endJudged := false, marked := none }) t)

theorem openWindow_eq (s : State) : openWindow s = checkpoint .b 0 0 (checkpoint .a 0 0 (windowState s)) := rfl

theorem openWindow_opened (s : State) : Opened s (openWindow s) := by
  rw [openWindow_eq]
  by_cases h : s.cmp.mode = .split
  · have hw : (windowState s).cmp.mode = .split := h
    rw [checkpoint_split hw, checkpoint_split hw]
    exact { phase := rfl, openUs := rfl, inputs := rfl, nibA := by simp [windowState, h], nibB := by simp [windowState, h],
            queueA := by rw [if_pos h]; rfl, queueB := by rw [if_pos h]; rfl, endJudged := rfl, marked := rfl }
  · have hw : (windowState s).cmp.mode ≠ .split := h
    have hw' : ∀ c, (onCmp (pushCkpt .a c) (windowState s)).cmp.mode ≠ .split := fun _ => h
    rw [checkpoint_room hw (l := .a) (by decide : 0 < 64), checkpoint_room (hw' _) (l := .b) (by decide : 0 < 64)]
    exact { phase := rfl, openUs := rfl, inputs := rfl, nibA := by simp [windowState, h], nibB := by simp [windowState, h],
            queueA := by rw [if_neg h]; rfl, queueB := by rw [if_neg h]; rfl, endJudged := rfl, marked := rfl }

/-- Both lanes run when the window has opened (R73). -/
theorem Opened.running {t : State} (h : Opened s t) : t.nibA.st = .running ∧ t.nibB.st = .running := by
  rw [h.nibA, h.nibB]
  exact ⟨rfl, rfl⟩

/-! ### The input deadline -/

theorem deadlineStn_phase (n : Nat) (s : State) : (deadlineStn n s).cyc.phase = s.cyc.phase := by
  unfold deadlineStn
  dsimp only
  split
  · rfl
  · split
    · rw [(post_changes _ _ _ _).cyc]
      rfl
    · rfl

theorem deadlines_phase (l : List Nat) (s : State) : (forEach l deadlineStn s).cyc.phase = s.cyc.phase := by
  induction l generalizing s with
  | nil => rfl
  | cons n l ih => exact (ih (deadlineStn n s)).trans (deadlineStn_phase n s)

theorem stn_setStn (f : Stn → Stn) : stn (setStn n f s) n = f (stn s n) := tget_tmod_same

/-- A station of which an expected frame did not arrive, after a cycle in which one did (R317). -/
theorem deadlineStn_missed (he : expected s (stn s n) = true) (ha : (stn s n).arrived = false) (h : (stn s n).st ≠ .oneMiss) :
    stn (deadlineStn n s) n = { stn s n with st := .oneMiss, missed := inc16 (stn s n).missed } := by
  unfold deadlineStn
  dsimp only
  rw [if_neg (by simp [he, ha]), if_neg (by simpa using h), stn_setStn]
  rfl

/-- The second miss in a row is the loss of the station (R317, R319). -/
theorem deadlineStn_lost (he : expected s (stn s n) = true) (ha : (stn s n).arrived = false) (h : (stn s n).st = .oneMiss) :
    (stn (deadlineStn n s) n).st = .lost ∧ (stn (deadlineStn n s) n).missed = inc16 (stn s n).missed := by
  have hp : ∀ u, stn (post 0x0B01 n [0] u) n = stn u n := fun u => by simp only [stn, (post_changes _ _ _ _).frg]
  have hs : ∀ f u, stn (onFrg (fun r => { r with evt := setBit r.evt 2 }) (onCyc f u)) n = stn u n := fun _ _ => rfl
  unfold deadlineStn
  dsimp only
  rw [if_neg (by simp [he, ha]), if_pos (by simpa using h), hp, hs, stn_setStn]
  exact ⟨rfl, rfl⟩

/-- The missing frames counted (R317). -/
def afterDeadline (s : State) : State := onFrg (fun r => { r with deadlineOver := true }) (forEach (stations s) deadlineStn s)

theorem afterDeadline_changes (s : State) : Changes [.cyc, .frg, .evr] s (afterDeadline s) :=
  .comp (onFrg_changes _ _) rfl (.each (fun n u => deadlineStn_changes n u) .refl)

/-- The window as the deadline opens it, once the missing frames are counted (R20, R317). -/
theorem exec_inputDeadline (hr : inRun s = true) (hp : s.cyc.phase = .inputs) :
    exec .inputDeadline s = .next (openWindow (afterDeadline s)) := by
  have hi : inRun (afterDeadline s) = true := by
    rw [← hr]
    simp only [inRun, (afterDeadline_changes s).sup]
  have hq : (afterDeadline s).cyc.phase = .inputs := (deadlines_phase _ _).trans hp
  have he : exec .inputDeadline s = .next (if !inService s then s
      else if (afterDeadline s).cyc.phase = .inputs && inRun (afterDeadline s) then openWindow (afterDeadline s)
      else afterDeadline s) := rfl
  rw [he, if_neg (by simp [inService_of_inRun hr]), if_pos (by simp [hq, hi])]

/-- Without stations the deadline opens the window as the last frame does. -/
theorem opened_afterDeadline (h : s.img.ring.stations = []) : Opened s (openWindow (afterDeadline s)) := by
  have e : afterDeadline s = onFrg (fun r => { r with deadlineOver := true }) s := by simp [afterDeadline, stations, h, forEach]
  have ho := openWindow_opened (afterDeadline s)
  rw [e] at ho ⊢
  exact ⟨ho.phase, ho.openUs, ho.inputs, ho.nibA, ho.nibB, ho.queueA, ho.queueB, ho.endJudged, ho.marked⟩

end Sys2Proof.Machine
end

section
/-! What the queued writes and records of a cycle leave (R66, R67, R74). -/

namespace Sys2Proof.Machine

variable {s : State} {l : Lane}

/-- No register of the supplies takes a lane's write (R67, R427). -/
theorem supWrite_lane (l : Lane) (off : Nat) (v : Word) (s : State) : (supWrite (.lane l) off v s).2 = s := by
  unfold supWrite
  split
  · rfl
  · rfl

/-- What a lane's write may change: no part of it is the supervisor's. -/
theorem objWrite_lane_changes (l : Lane) (r : Req) (a : Nat) (v : Word) (s : State) :
    ChangesW [.tim, .cyc, .cmp, .lpe, .fch, .alm, .pst, .frg, .pnw, .evr, .cvu, .dsp, .boot, .sent] s (objWrite (.lane l) r a v s) := by
  have hsup : ∀ off, Changes [] s (supWrite (.lane l) off v s).2 := fun off => by
    rw [supWrite_lane]
    exact .refl
  unfold objWrite
  exact .ite (fun _ => .refuse .refl) fun _ => .ite (fun _ => .refuse .refl) fun _ => .ite (fun _ => (hsup _).mono rfl) fun _ =>
    .ite (fun _ => (timWrite_changes _ _ _ _).snd.mono rfl) fun _ => .ite (fun _ => (bootWrite_changes _ _ _ _).snd.mono rfl) fun _ =>
    .ite (fun _ => .refuse .refl) fun _ => .ite (fun _ => (cycWrite_changes _ _ _ _).snd.mono rfl) fun _ =>
    .ite (fun _ => (cmpWrite_changes _ _ _ _).snd.mono rfl) fun _ => .ite (fun _ => (lpeWrite_changes _ _ _ _).snd.mono rfl) fun _ =>
    .ite (fun _ => (fchWrite_changes _ _ _ _ _).snd.mono rfl) fun _ => .ite (fun _ => .refuse .refl) fun _ =>
    .ite (fun _ => (almRegWrite_changes _ _ _ _ _).snd.mono rfl) fun _ => .ite (fun _ => (pstWrite_changes _ _ _ _ _).snd.mono rfl) fun _ =>
    .ite (fun _ => (slkWrite_changes _ _ _ _).snd.mono rfl) fun _ => .ite (fun _ => .refuse .refl) fun _ =>
    .ite (fun _ => (frgWrite_changes _ _ _ _).snd.mono rfl) fun _ => .ite (fun _ => (pnwWrite_changes _ _ _ _).snd.mono rfl) fun _ =>
    .ite (fun _ => (evrWrite_changes _ _ _ _).snd.mono rfl) fun _ => .ite (fun _ => (cvuWrite_changes _ _ _ _).snd.mono rfl) fun _ =>
    .ite (fun _ => .refuse .refl) fun _ => .ite (fun _ => (dspWrite_changes _ _ _ _).snd.mono rfl) fun _ => .refuse .refl

theorem runQueue_sup (l : Lane) (late : Bool) (s : State) : (runQueue l late s).sup = s.sup := by
  have h : Changes [.tim, .nibA, .nibB, .cyc, .cmp, .lpe, .fch, .alm, .pst, .frg, .pnw, .evr, .cvu, .dsp, .boot, .sent] s
      (runQueue l late s) := by
    unfold runQueue
    refine .each (fun q u => ?_) ((setLane_changes _ _ _).mono rfl)
    rcases q with ⟨a, v⟩ | ⟨code, a, b, cell⟩
    · exact .ite (fun _ => .refl) (fun _ => (objWrite_lane_changes _ _ _ _ _).snd.mono rfl)
    · exact (postHead_changes _ _ _).mono rfl
  exact h.sup

theorem runQueues_sup (late : Bool) (s : State) : (runQueues late s).sup = s.sup := by
  unfold runQueues
  dsimp only
  split
  · rw [runQueue_sup, runQueue_sup]
  · rw [(setLane_changes _ _ _).sup, runQueue_sup]

/-- The writes of a late cycle are dropped; its records alone are carried out (R74). -/
theorem runQueue_late (l : Lane) (s : State) : Changes [.nibA, .nibB, .evr] s (runQueue l true s) := by
  unfold runQueue
  refine .each (fun q u => ?_) ((setLane_changes _ _ _).mono rfl)
  rcases q with ⟨a, v⟩ | ⟨code, a, b, cell⟩
  · exact .refl
  · exact (postHead_changes _ _ _).mono rfl

theorem runQueues_late (s : State) : Changes [.nibA, .nibB, .evr] s (runQueues true s) := by
  unfold runQueues
  exact .ite (fun _ => .app (runQueue_late _ _) (runQueue_late _ _))
    (fun _ => .comp (setLane_changes _ _ _) rfl (runQueue_late _ _))

/-- An empty queue has nothing to carry out. -/
theorem runQueue_empty (late : Bool) (h : (lane s l).queue = []) : Changes [.nibA, .nibB] s (runQueue l late s) := by
  unfold runQueue
  dsimp only
  rw [h, forEach, List.foldl_nil]
  exact setLane_changes _ _ _

theorem runQueues_empty (late : Bool) (ha : s.nibA.queue = []) (hb : s.nibB.queue = []) :
    Changes [.nibA, .nibB] s (runQueues late s) := by
  have h1 : Changes [.nibA, .nibB] s (runQueue .a late s) := runQueue_empty late ha
  have h2 : (lane (runQueue .a late s) .b).queue = [] := by
    unfold runQueue
    dsimp only
    rw [show (lane s .a).queue = [] from ha]
    exact hb
  exact .ite (fun _ => .app (runQueue_empty late h2) h1) (fun _ => .app (setLane_changes _ _ _) h1)

end Sys2Proof.Machine
end

section
/-! TO: the release of a cycle, an overrun, the end of a late cycle (R16, R17, R74 to R76). -/

namespace Sys2Proof.Machine

variable {s : State}

/-- What a TO does after the queues: nothing of it touches the supervisor. -/
def afterQueues (s : State) : State :=
  let s := dueDigest (onCyc (fun c => { c with phase := .idle, ovrLast := false }) (takeSnapshot (retainCopy s)))
  let s := grantAll (sendExports (sendDelta (applyOutputs (pairsAtTo (endOutWait s)))))
  panelRefresh (pageClass s) (rejoinT0 s)

theorem releaseCycle_eq (s : State) : releaseCycle s = afterQueues (runQueues false (releaseImage s)) := rfl

theorem afterQueues_sup (s : State) : (afterQueues s).sup = s.sup := by
  unfold afterQueues
  simp only [(panelRefresh_changes _ _).sup, (rejoinT0_changes _).sup, (grantAll_changes _).sup, (sendExports_changes _).sup,
    (sendDelta_changes _).sup, (applyOutputs_changes _).sup, (pairsAtTo_changes _).sup, (endOutWait_changes _).sup,
    (dueDigest_changes _).sup, onCyc_sup, (takeSnapshot_changes _).sup, (retainCopy_changes _).sup]

theorem applyJournal_released (s : State) : (applyJournal s).cyc.released = s.cyc.released := by
  unfold applyJournal
  split
  · rfl
  · rfl

theorem afterQueues_cyc (s : State) : (afterQueues s).cyc.phase = .idle ∧ (afterQueues s).cyc.ovrLast = false ∧
    (afterQueues s).cyc.snapFresh = true ∧ (afterQueues s).cyc.released = s.cyc.released := by
  have hk : ∀ u, (grantAll (sendExports (sendDelta (applyOutputs (pairsAtTo (endOutWait (dueDigest u))))))).cyc = u.cyc := fun u => by
    rw [(grantAll_changes _).cyc, (sendExports_changes _).cyc, (sendDelta_changes _).cyc, (applyOutputs_changes _).cyc,
      (pairsAtTo_changes _).cyc, (endOutWait_changes _).cyc, (dueDigest_changes _).cyc]
  unfold afterQueues
  dsimp only
  rw [(panelRefresh_changes _ _).cyc, (rejoinT0_changes _).cyc, hk, onCyc_cyc]
  exact ⟨rfl, rfl, rfl, applyJournal_released s⟩

/-- The image and the exit from Hold at a TO whose compare is complete (R17, R76). -/
theorem releaseImage_first (h : 2 ≤ s.sup.holdExit) : (releaseImage s).sup = { s.sup with holdExit := s.sup.holdExit - 1 } ∧
    (releaseImage s).cyc = s.cyc := by
  unfold releaseImage
  rw [if_pos h]
  exact ⟨rfl, rfl⟩

theorem releaseImage_released (h : s.sup.holdExit < 2) :
    (releaseImage s).sup = { s.sup with holdExit := s.sup.holdExit - 1, holdRow := false } ∧
    (releaseImage s).cyc = { s.cyc with released := forcedImage s } := by
  unfold releaseImage
  rw [if_neg (Nat.not_le.mpr h)]
  dsimp only
  rw [(loopTransfer_changes _).sup, (loopTransfer_changes _).cyc]
  exact ⟨rfl, rfl⟩

theorem releaseImage_holdExit (s : State) : (releaseImage s).sup.holdExit = s.sup.holdExit - 1 := by
  rcases Nat.lt_or_ge s.sup.holdExit 2 with h | h
  · rw [(releaseImage_released h).1]
  · rw [(releaseImage_first h).1]

/-- A release ends the cycle; of the supervisor it leaves what the release of the image leaves. -/
theorem releaseCycle_idle (s : State) : (releaseCycle s).cyc.phase = .idle ∧ (releaseCycle s).cyc.ovrLast = false ∧
    (releaseCycle s).cyc.snapFresh = true ∧ (releaseCycle s).sup = (releaseImage s).sup := by
  rw [releaseCycle_eq, afterQueues_sup, runQueues_sup]
  obtain ⟨hph, hov, hsn, -⟩ := afterQueues_cyc (runQueues false (releaseImage s))
  exact ⟨hph, hov, hsn, rfl⟩

/-- A release with nothing queued leaves the released image as it stands. -/
theorem releaseCycle_released (ha : s.nibA.queue = []) (hb : s.nibB.queue = []) :
    (releaseCycle s).cyc.released = (releaseImage s).cyc.released := by
  have hc := releaseImage_changes s
  have hq := runQueues_empty false (s := releaseImage s) (by rw [hc.nibA, ha]) (by rw [hc.nibB, hb])
  rw [releaseCycle_eq, (afterQueues_cyc _).2.2.2, hq.cyc]

/-- TO of a cycle whose compare is complete. -/
theorem exec_outputRelease_compared (hr : inRun s = true) (hp : s.sup.phase = .up) (hc : s.cyc.phase = .compared) :
    exec .outputRelease s = .next (releaseCycle s) := by
  have hh : s.sup.mode ≠ .hold := by
    intro e
    simp [inRun, e] at hr
  have hs : (if s.cmp.mode = .split then compareComplete s else s) = s := by
    split
    · exact if_neg (by simp [hc])
    · rfl
  refine congrArg Host.Outcome.next ?_
  unfold outputRelease
  rw [if_neg (by simp [inService_of_inRun hr, hp]), if_neg hh, hs]
  dsimp only
  rw [hc]

/-- TO of a cycle whose compare is not complete (R74). -/
theorem exec_outputRelease_overrun (hr : inRun s = true) (hp : s.sup.phase = .up) (hc : s.cyc.phase = .inputs ∨ s.cyc.phase = .window)
    (hl : s.cyc.late = false) (hn : s.cmp.mode ≠ .split ∨ compareReady s = false) : exec .outputRelease s = .next (overrun s) := by
  have hh : s.sup.mode ≠ .hold := by
    intro e
    simp [inRun, e] at hr
  have hs : (if s.cmp.mode = .split then compareComplete s else s) = s := by
    split
    · rename_i h
      exact if_neg (by simp [hn.resolve_left (not_not.mpr h)])
    · rfl
  refine congrArg Host.Outcome.next ?_
  unfold outputRelease
  rw [if_neg (by simp [inService_of_inRun hr, hp]), if_neg hh, hs]
  dsimp only
  rcases hc with hc | hc <;> rw [hc] <;> exact if_neg (by simp [hl])

/-- Cells changed one by one: nothing else of the cycle changes. -/
theorem setCells_cyc (f : Nat → CellSt → CellSt) (l : List Nat) (s : State) :
    ∃ cs, (forEach l (fun n s => setCell n (f n) s) s).cyc = { s.cyc with cells := cs } := by
  induction l generalizing s with
  | nil => exact ⟨_, rfl⟩
  | cons n l ih => exact ih (setCell n (f n) s)

/-- An overrun marked: the queued writes gone, the open cells, the cycle and its count, the record (R74, R88). -/
def overrunMark (s : State) : State :=
  let t : State := { s with nibA := dropWrites s.nibA, nibB := dropWrites s.nibB }
  let t := markOverrun (onLpe (fun l => { l with transferred := l.transferred || inRun t }) t)
  let t := onCyc (fun c => { c with late := true, ovrLast := true, ovrCount := inc16 c.ovrCount, evt := setBit c.evt 0 }) t
  post 0x0101 0 [] (onAlm (fun a => { a with ovrUs := some (nowUs t) }) t)

/-- What an overrun TO does after the cycle is marked. -/
def overrunEnd (s : State) : State := rejoinOverrun (grantAll (applyOutputs (pairsAtTo (endOutWait (exitStep s)))))

theorem overrun_eq (s : State) : overrun s =
    if s.cyc.ovrLast then selfDiag .consecutiveOverrun (overrunEnd (overrunMark s)) else overrunEnd (overrunMark s) := rfl

theorem overrunEnd_changes (s : State) : Changes [.cmp, .fch, .saf, .frg, .evr, .sent, .free] (exitStep s) (overrunEnd s) :=
  .comp (rejoinOverrun_changes _) rfl (.comp (grantAll_changes _) rfl (.comp (applyOutputs_changes _) rfl
    (.comp (pairsAtTo_changes _) rfl ((endOutWait_changes _).mono rfl))))

theorem overrunMark_cyc (s : State) : (overrunMark s).cyc.late = true ∧ (overrunMark s).cyc.ovrLast = true ∧
    (overrunMark s).cyc.ovrCount = inc16 s.cyc.ovrCount ∧ (overrunMark s).cyc.released = s.cyc.released := by
  have hm : ∀ u, ∃ cs, (markOverrun u).cyc = { u.cyc with cells := cs } := fun u => setCells_cyc (fun _ c => { c with ovr := true }) _ _
  unfold overrunMark
  dsimp only
  rw [(post_changes _ _ _ _).cyc, onAlm_cyc, onCyc_cyc]
  obtain ⟨cs, hcs⟩ := hm (onLpe (fun l => { l with
    transferred := l.transferred || inRun { s with nibA := dropWrites s.nibA, nibB := dropWrites s.nibB } })
    { s with nibA := dropWrites s.nibA, nibB := dropWrites s.nibB })
  rw [hcs]
  exact ⟨rfl, rfl, rfl, rfl⟩

theorem overrunMark_lanes (s : State) : (overrunMark s).nibA = dropWrites s.nibA ∧ (overrunMark s).sup = s.sup := by
  unfold overrunMark
  dsimp only
  rw [(post_changes _ _ _ _).nibA, (post_changes _ _ _ _).sup, onAlm_nibA, onAlm_sup, onCyc_nibA, onCyc_sup,
    (markOverrun_changes _).nibA, (markOverrun_changes _).sup]
  exact ⟨rfl, rfl⟩

/-- A cycle that overruns after one that did not (R74). -/
theorem overrun_first (h : s.cyc.ovrLast = false) : (overrun s).cyc.late = true ∧ (overrun s).cyc.ovrLast = true ∧
    (overrun s).cyc.ovrCount = inc16 s.cyc.ovrCount ∧ (overrun s).sup.holdExit = s.sup.holdExit - 1 ∧
    (overrun s).cyc.released = s.cyc.released ∧ (overrun s).nibA = dropWrites s.nibA := by
  have hk := overrunEnd_changes (overrunMark s)
  obtain ⟨hlate, hlast, hcnt, hrel⟩ := overrunMark_cyc s
  obtain ⟨hA, hsup⟩ := overrunMark_lanes s
  rw [overrun_eq, if_neg (by simp [h]), hk.cyc, hk.sup, hk.nibA]
  exact ⟨hlate, hlast, hcnt, by simp only [exitStep, onSup_sup, hsup], hrel, hA⟩

/-! ### The end of a late cycle -/

theorem cellStatus_opsLast (s : State) : (cellStatus s).cyc.opsLast = s.cyc.opsLast := by
  obtain ⟨cs, h⟩ := setCells_cyc (fun n c => { c with status := tget 0 (statusDown s (List.range s.img.cells.length).reverse []) n })
    (List.range s.img.cells.length) s
  unfold cellStatus
  dsimp only
  rw [h]

theorem finishCompare_opsLast (s : State) : (finishCompare s).cyc.opsLast = s.nibA.ops := by
  unfold finishCompare
  dsimp only
  rw [cellStatus_opsLast]
  split_ifs <;> split <;> rfl

/-- A late cycle that completes (R74). -/
theorem lateComplete_done (hl : s.cyc.late = true) (hr : inRun s = true) (hc : compareReady s = true) :
    (lateComplete s).cyc.late = false ∧ (lateComplete s).cyc.phase = .idle ∧ (lateComplete s).cyc.opsLast = s.nibA.ops := by
  have hj : ∀ u, (retainCopy u).cyc.opsLast = u.cyc.opsLast := fun u => by
    have : (applyJournal u).cyc.opsLast = u.cyc.opsLast := by
      unfold applyJournal
      split
      · rfl
      · rfl
    exact this
  unfold lateComplete
  rw [if_pos (by simp [hl, hr, hc])]
  dsimp only
  rw [(rejoinLate_changes _).cyc, (sendExports_changes _).cyc, (sendDelta_changes _).cyc, (dueDigest_changes _).cyc, onCyc_cyc]
  refine ⟨rfl, rfl, ?_⟩
  dsimp only
  rw [hj, (runQueues_late _).cyc, finishCompare_opsLast]

end Sys2Proof.Machine

open Sys2Proof Sys2Proof.Machine

/-- Settles O24: each event through the equation of what it does, and the frames of the parts of that. -/
theorem programCycle : Obligations.ProgramCycle := by
  refine ⟨fun s hp hi hw hl hs hm he => ?_, fun s hp hm hw hl hs hc => ?_, fun s c hp hr hw => ?_, fun s hp hi hw hl hm => ?_,
    fun s hp hr => ⟨fun ha => ?_, fun hz => ?_⟩, fun s hp hr => ?_, fun s n he ha => ⟨fun h => ?_, fun h => ?_⟩,
    fun s hr hp hc => ?_, fun s hr hp hc hl ho hn => ?_, fun s hl hr hc => ?_⟩
  · have hd := settleT0_settled hs hm
    have e : cycleT0 s = beginCycle (settleT0 s) := by
      rw [cycleT0_up hp, serviceT0_notDue hp hi (fun _ => hw), if_neg (by simp [stillLate, hl]), if_pos (hd.executes.trans he)]
    refine ⟨_, congrArg Host.Outcome.next e, ?_⟩
    simpa only [hd.count, hd.frame.nowUs] using beginCycle_begun (settleT0 s)
  · obtain ⟨hsup, hboot⟩ := firstT0_run hp hw hl hs hc
    exact ⟨_, rfl, by rw [hsup], by rw [hsup], hboot⟩
  · exact congrArg _ ((cycleT0_up hp).trans (serviceT0_warmDue hp hr hw))
  · have hw' : inRun s = true → s.sup.warmDue = none := fun h => hw.resolve_right fun e => by simp [inRun, e] at h
    have hst : stillLate s = true := by
      unfold stillLate
      by_cases h : s.cmp.mode = .rejoining
      · simp [hl, hm h]
      · simp [hl, h]
    exact congrArg _ ((cycleT0_up hp).trans ((serviceT0_notDue hp hi hw').trans (if_pos hst)))
  · have ho := openWindow_opened s
    have e : exec .executeWindowOpen s = .next (openWindow s) := congrArg Host.Outcome.next (if_pos (by simp [hp, hr, ha]))
    exact ⟨_, e, ho.phase, ho.openUs, ho.inputs, ho.nibA, ho.nibB, ho.queueA, ho.queueB, ho.endJudged, ho.marked⟩
  · have ho := opened_afterDeadline hz
    exact ⟨_, exec_inputDeadline hr hp, ho.phase, ho.openUs, ho.inputs, ho.nibA, ho.nibB, ho.queueA, ho.queueB, ho.endJudged, ho.marked⟩
  · obtain ⟨hA, hB⟩ := (openWindow_opened (afterDeadline s)).running
    exact ⟨_, exec_inputDeadline hr hp, (openWindow_opened _).phase, hA, hB,
      (openWindow_opened _).openUs.trans (afterDeadline_changes s).nowUs⟩
  · rw [deadlineStn_missed he ha h]
    exact ⟨rfl, rfl⟩
  · exact deadlineStn_lost he ha h
  · refine ⟨_, exec_outputRelease_compared hr hp hc, ?_⟩
    obtain ⟨hph, hov, hsn, hsup⟩ := releaseCycle_idle s
    rw [hsup]
    refine ⟨hph, hov, hsn, releaseImage_holdExit s, fun hx => ?_, fun hx => ?_⟩
    · obtain ⟨h1, h2⟩ := releaseImage_released hx
      exact ⟨by rw [h1], fun ha hb => by rw [releaseCycle_released ha hb, h2]; rfl⟩
    · obtain ⟨h1, h2⟩ := releaseImage_first hx
      exact ⟨by rw [h1], fun ha hb => by rw [releaseCycle_released ha hb, h2]⟩
  · obtain ⟨h1, h2, h3, h4, h5, h6⟩ := overrun_first ho
    exact ⟨_, exec_outputRelease_overrun hr hp hc hl hn, h1, h2, h3, h4, h5, by rw [h6]; rfl⟩
  · exact ⟨_, rfl, lateComplete_done hl hr hc⟩
end

section
/-! What a stop of posting holds still (R349), and what a record leaves in the ring (R346, R353). -/

namespace Sys2Proof.Machine

variable {s t : State} {e : Evr} {x : Rec}

/-- The Inkwell is as given. -/
def EvrIs (e : Evr) (s : State) : Prop := s.evr = e

theorem EvrIs.changes {T : List Part} (h : Changes T s t) (hT : T.contains .evr = false := by rfl) : Keeps (EvrIs e) s t :=
  (h.evr hT).trans

theorem post_stopped (he : e.running = false) (code inst : Nat) (vals : List Word) (s : State) :
    Keeps (EvrIs e) s (post code inst vals s) := by
  intro h
  have hp : post code inst vals s = s := if_pos (by rw [show s.evr = e from h, he]; rfl)
  rwa [hp]

theorem setChan_stopped (i : Nat) (f : Chan → Chan) (s : State) : Keeps (EvrIs e) s (setChan i f s) :=
  .changes (setChan_changes i f s)

theorem requal_stopped (he : e.running = false) (i : Nat) (s : State) : Keeps (EvrIs e) s (requal i s) := by
  unfold requal
  refine .app (.ite (fun _ => .refl) fun _ => .app (.ite (fun _ => .refl) fun _ => post_stopped he _ _ _ _) (.app (.ite (fun _ => ?_)
    fun _ => .refl) (setChan_stopped _ _ _))) (.ite (fun _ => .refl) fun _ => setChan_stopped _ _ _)
  exact id

theorem applyOutput_stopped (he : e.running = false) (i : Nat) (s : State) : Keeps (EvrIs e) s (applyOutput i s) := by
  unfold applyOutput
  exact .ite (fun _ => .refl) fun _ => .ite (fun _ => setChan_stopped _ _ _) fun _ => .ite (fun _ => setChan_stopped _ _ _) fun _ =>
    .ite (fun _ => .app (.ite (fun _ => requal_stopped he _ _) fun _ => .refl) (setChan_stopped _ _ _)) fun _ =>
    .ite (fun _ => setChan_stopped _ _ _) fun _ => .refl

/-- Outputs that change while posting is stopped post nothing (R349). -/
theorem applyOutputs_evr (h : s.evr.running = false) : (applyOutputs s).evr = s.evr :=
  Keeps.each (P := EvrIs s.evr) (applyOutput_stopped h) .refl rfl

theorem applyOutput_trims (i : Nat) (s : State) : (applyOutput i s).fch.trims = s.fch.trims := by
  have hq : ∀ u, (requal i u).fch.trims = u.fch.trims := fun u => by rw [(requal_law i u).2.2]
  unfold applyOutput
  dsimp only
  split_ifs <;> simp only [hq, setChan]

theorem applyOutputs_trims (s : State) : (applyOutputs s).fch.trims = s.fch.trims := by
  unfold applyOutputs
  induction allChans generalizing s with
  | nil => rfl
  | cons i l ih => exact (ih _).trans (applyOutput_trims i s)

/-- A record stands in the ring. -/
def InRing (x : Rec) (s : State) : Prop := x ∈ s.evr.ring

theorem pushRec_inRing (mk : Word → Rec) (s : State) : Keeps (InRing x) s (pushRec mk s) := by
  have appended : ∀ u : State, u.evr.ring = s.evr.ring ++ [mk s.evr.next] → Keeps (InRing x) s u :=
    fun u hu h => by rw [InRing, hu]; exact List.mem_append_left _ h
  unfold pushRec
  exact .ite (fun _ => id) fun _ => .ite (fun _ => appended _ rfl) fun _ => appended _ rfl

theorem pushAll_inRing (h : PostHead) (vals : List Word) (s : State) : Keeps (InRing x) s (pushAll h vals s) :=
  .each (fun _ _ => pushRec_inRing _ _) .refl

/-- A posting takes no record from the ring. -/
theorem post_inRing (code inst : Nat) (vals : List Word) (s : State) : Keeps (InRing x) s (post code inst vals s) := by
  unfold post postHead
  refine .ite (fun _ => .refl) fun _ => ?_
  split
  · exact pushAll_inRing _ _ _
  · exact .ite (fun _ => .app (pushAll_inRing _ _ _) id) fun _ => id

/-- A record finds its place in a ring that is not full (R346). -/
theorem pushRec_placed (mk : Word → Rec) (h : s.evr.ring.length < 8192) : InRing (mk s.evr.next) (pushRec mk s) := by
  have appended : ∀ u : State, u.evr.ring = s.evr.ring ++ [mk s.evr.next] → InRing (mk s.evr.next) u :=
    fun u hu => by rw [InRing, hu]; exact List.mem_append_right _ (List.mem_singleton_self _)
  unfold pushRec
  dsimp only
  rw [if_neg (Nat.not_le.mpr h)]
  split
  · exact appended _ rfl
  · exact appended _ rfl

/-- The record of an event's first two values, by its SEQ (R343). -/
def firstRec (h : PostHead) (a b : Word) (s : State) (q : Word) : Rec where
  seq := q
  time := h.time
  code := BitVec.ofNat 16 h.code
  source := h.source
  cell := BitVec.ofNat 16 h.cell
  flags := recFlags s h false
  a := a
  b := b

theorem pushAll_placed (h : PostHead) (a b : Word) (vals : List Word) (hs : s.evr.ring.length < 8192) :
    InRing (firstRec h a b s s.evr.next) (pushAll h (a :: b :: vals) s) :=
  Keeps.each (l := (valuePairs vals).zipIdx 1) (t := pushRec (firstRec h a b s) s) (fun _ _ => pushRec_inRing _ _) .refl
    (pushRec_placed (firstRec h a b s) hs)

/-- An event within its rate limit leaves a record of its first two values (R345, R353). -/
theorem post_placed {code inst lim : Nat} {a b : Word} {vals : List Word} (hr : s.evr.running = true)
    (hl : codeLimit s code = some lim) (hw : (windowOf s.evr (BitVec.ofNat 16 code)).1 < lim) (hs : s.evr.ring.length < 8192) :
    ∃ x, InRing x (post code inst (a :: b :: vals) s) ∧ x.code = BitVec.ofNat 16 code ∧ x.a = a ∧ x.b = b := by
  unfold post postHead
  rw [if_neg (by simp [hr])]
  simp only [hl, if_pos hw]
  exact ⟨_, pushAll_placed _ a b vals hs, rfl, rfl, rfl⟩

end Sys2Proof.Machine
end

section
/-! VIN's warning and the end of its episode (R408 to R410). -/

namespace Sys2Proof.Machine

variable {s : State} {v : BitVec 16}

theorem seeVin_sup (v : BitVec 16) (s : State) : (seeVin v s).sup =
    { s.sup with vinNow := v, vinMin := if s.sup.vinMin = 0 ∨ v < s.sup.vinMin then v else s.sup.vinMin } := by
  simp [seeVin]

/-- A warning taken over, before what a powered module does at it (R408). -/
def warned (v : BitVec 16) (s : State) : State :=
  onSup (fun u => { u with vinWarn := true, warnReset := false, evt := setBit u.evt 0 }) (seeVin v s)

theorem vinWarning_ignored (h : s.sup.phase = .off ∨ s.sup.vinWarn = true) : vinWarning v s = s := if_pos (by simpa using h)

theorem vinWarning_taken (ho : s.sup.phase ≠ .off) (hw : s.sup.vinWarn = false) :
    vinWarning v s = if powered s then panelAbort (startFlush (warned v s)) else warned v s := by
  have hp : powered (warned v s) = powered s := rfl
  rw [← hp]
  exact if_neg (by simp [ho, hw])

theorem vinWarning_sup (ho : s.sup.phase ≠ .off) (hw : s.sup.vinWarn = false) : (vinWarning v s).sup = (warned v s).sup := by
  rw [vinWarning_taken ho hw]
  split
  · rw [(panelAbort_changes _).sup, (startFlush_changes _).sup]
  · rfl

theorem warned_sup (v : BitVec 16) (s : State) : (warned v s).sup = { s.sup with
    vinNow := v
    vinMin := if s.sup.vinMin = 0 ∨ v < s.sup.vinMin then v else s.sup.vinMin
    vinWarn := true
    warnReset := false
    evt := setBit s.sup.evt 0 } := by
  rw [warned, onSup_sup, seeVin_sup]

/-- A powered module starts the flush and takes the rails down (R402, R408). -/
theorem vinWarning_powered (ho : s.sup.phase ≠ .off) (hw : s.sup.vinWarn = false) (hp : powered s = true) :
    (vinWarning v s).evr = (startFlush s).evr ∧ (vinWarning v s).dsp.railsAt = none := by
  rw [vinWarning_taken ho hw, if_pos hp]
  exact ⟨(panelAbort_changes _).evr, panelAbort_railsAt _⟩

/-- An episode counted at its end (R409). -/
def episodeCounted (s : State) : State :=
  onSup (fun u => { u with vinNow := (freeVal s).setWidth 16, vinWarn := false, episodes := inc16 u.episodes, evt := setBit u.evt 1,
                           episodeAt := u.episodeAt.filter (fun t => decide (nowUs s < t + 60000000)) ++ [nowUs s] }) (takeFree s)

/-- The ceiling held and the record posted (R39, R409). -/
def episodePosted (low : BitVec 16) (us : Word) (s : State) : State :=
  post 0x0D02 0 [0, low.setWidth 32, us] (newCeiling (fun t => { t with boHold := true }) (episodeCounted s))

/-- The end of an episode but for "supply unstable". -/
def episodeLast (low : BitVec 16) (us : Word) (s : State) : State := railsUp (panelReissue (episodePosted low us s))

theorem episodeEnd_ignored {low : BitVec 16} {us : Word} (h : s.sup.vinWarn = false ∨ s.sup.warnReset = true ∨ s.sup.phase = .off) :
    episodeEnd low us s = s := if_pos (by simpa [or_assoc] using h)

theorem episodeEnd_taken {low : BitVec 16} {us : Word} (hw : s.sup.vinWarn = true) (hr : s.sup.warnReset = false)
    (ho : s.sup.phase ≠ .off) : episodeEnd low us s = raiseUnstable (episodeLast low us s) :=
  if_neg (by simp [hw, hr, ho])

theorem newCeiling_tim (f : Tim → Tim) (s : State) :
    (newCeiling f s).tim = f s.tim ∨ (newCeiling f s).tim = { f s.tim with unattain := false, heldSince := none } := by
  unfold newCeiling
  dsimp only
  split
  · exact .inr rfl
  · exact .inl rfl

/-- The ceiling of a brownout is held, and the timebase goes on. -/
theorem holdCeiling_tim (s : State) : (newCeiling (fun t => { t with boHold := true }) s).tim.boHold = true ∧
    nowUs (newCeiling (fun t => { t with boHold := true }) s) = nowUs s := by
  unfold nowUs
  rcases newCeiling_tim (fun t => { t with boHold := true }) s with h | h <;> rw [h] <;> exact ⟨rfl, rfl⟩

theorem railsUp_dsp (s : State) : (railsUp s).dsp.queue = s.dsp.queue ∧ (railsUp s).dsp.aborted = s.dsp.aborted := by
  unfold railsUp
  split <;> exact ⟨rfl, rfl⟩

theorem raiseUnstable_sup (s : State) : (raiseUnstable s).sup =
    if decide (episodes60 s ≥ 4) && !s.sup.unstable then { s.sup with unstable := true, evt := setBit s.sup.evt 2 } else s.sup := by
  unfold raiseUnstable
  split
  · exact (post_changes _ _ _ _).sup
  · rfl

theorem raiseUnstable_inRing {x : Rec} (s : State) : Keeps (InRing x) s (raiseUnstable s) := by
  unfold raiseUnstable
  exact .ite (fun _ => .app (post_inRing _ _ _ _) id) fun _ => .refl

variable {low : BitVec 16} {us : Word}

theorem episodePosted_changes : Changes [.tim, .evr] (episodeCounted s) (episodePosted low us s) :=
  .comp (post_changes _ _ _ _) rfl ((newCeiling_changes _ _).mono rfl)

theorem episodeLast_changes : Changes [.tim, .evr, .dsp] (episodeCounted s) (episodeLast low us s) :=
  .comp (railsUp_changes _) rfl (.comp (panelReissue_changes _) rfl (episodePosted_changes.mono rfl))

theorem episodeLast_tim : (episodeLast low us s).tim.boHold = true ∧ nowUs (episodeLast low us s) = nowUs s := by
  have h : (episodeLast low us s).tim = (newCeiling (fun t => { t with boHold := true }) (episodeCounted s)).tim := by
    rw [episodeLast, (railsUp_changes _).tim, (panelReissue_changes _).tim, episodePosted, (post_changes _ _ _ _).tim]
  obtain ⟨hb, hn⟩ := holdCeiling_tim (episodeCounted s)
  unfold nowUs at hn ⊢
  rw [h, hn]
  exact ⟨hb, rfl⟩

theorem episodeLast_dsp : (episodeLast low us s).dsp.aborted = [] ∧
    (episodeLast low us s).dsp.queue = fitQueue (s.dsp.aborted.foldl (fun q r => insertReq r q) s.dsp.queue) := by
  obtain ⟨hq, ha⟩ := railsUp_dsp (panelReissue (episodePosted low us s))
  have hd : (episodePosted low us s).dsp = s.dsp := episodePosted_changes.dsp
  rw [episodeLast, hq, ha, panelReissue, setDsp_dsp, hd]
  exact ⟨rfl, rfl⟩

/-- The episode just ended counts with those of the last 60 s (R410). -/
theorem episodes60_episodeLast : episodes60 (episodeLast low us s) =
    (s.sup.episodeAt.filter (fun t => decide (nowUs s < t + 60000000))).length + 1 := by
  rw [episodes60, episodeLast_tim.2, episodeLast_changes.sup]
  simp [episodeCounted, countIf]

/-- The record of an episode reaches a ring with room, within the limit of its code (R353, R409). -/
theorem episodeLast_placed (hr : s.evr.running = true) (hl : codeLimit s 0x0D02 = some 20) (hw : (windowOf s.evr 0x0D02).1 < 20)
    (hs : s.evr.ring.length < 8192) : ∃ x, InRing x (episodeLast low us s) ∧ x.code = 0x0D02 ∧ x.a = 0 ∧ x.b = low.setWidth 32 := by
  have hc : Changes [.sup, .tim, .free] s (newCeiling (fun t => { t with boHold := true }) (episodeCounted s)) :=
    .comp (newCeiling_changes _ _) rfl (.comp (onSup_changes _ _) rfl ((takeFree_changes s).mono rfl))
  obtain ⟨x, hx, hv⟩ := post_placed (code := 0x0D02) (inst := 0) (a := 0) (b := low.setWidth 32) (vals := [us])
    (by rw [hc.evr, hr]) (by simpa only [codeLimit, hc.img] using hl) (by rw [hc.evr]; exact hw) (by rw [hc.evr]; exact hs)
  refine ⟨x, ?_, hv⟩
  rw [InRing, episodeLast, (railsUp_changes _).evr, (panelReissue_changes _).evr]
  exact hx

/-- The fourth episode in 60 s raises "supply unstable", which then stands (R410). -/
theorem episodeEnd_sup : (raiseUnstable (episodeLast low us s)).sup.vinWarn = false ∧
    (raiseUnstable (episodeLast low us s)).sup.episodes = inc16 s.sup.episodes ∧
    (raiseUnstable (episodeLast low us s)).sup.evt.getLsbD 1 = true ∧
    (raiseUnstable (episodeLast low us s)).sup.mode = s.sup.mode ∧
    (raiseUnstable (episodeLast low us s)).sup.unstable = (s.sup.unstable ||
      decide (3 ≤ (s.sup.episodeAt.filter (fun t => decide (nowUs s < t + 60000000))).length)) := by
  have hc : (episodeLast low us s).sup = (episodeCounted s).sup := episodeLast_changes.sup
  rw [raiseUnstable_sup, episodes60_episodeLast, hc]
  cases hu : s.sup.unstable <;>
    by_cases hn : 3 ≤ (s.sup.episodeAt.filter (fun t => decide (nowUs s < t + 60000000))).length <;>
    simp [episodeCounted, hu, hn, setBit]

theorem episodeEnd_kept : (raiseUnstable (episodeLast low us s)).tim.boHold = true ∧
    (raiseUnstable (episodeLast low us s)).dsp.aborted = [] ∧
    (raiseUnstable (episodeLast low us s)).dsp.queue = fitQueue (s.dsp.aborted.foldl (fun q r => insertReq r q) s.dsp.queue) := by
  have hc := raiseUnstable_changes (episodeLast low us s)
  rw [hc.tim, hc.dsp]
  exact ⟨episodeLast_tim.1, episodeLast_dsp⟩

theorem episodeEnd_placed (hr : s.evr.running = true) (hl : codeLimit s 0x0D02 = some 20) (hw : (windowOf s.evr 0x0D02).1 < 20)
    (hs : s.evr.ring.length < 8192) :
    ∃ x ∈ (raiseUnstable (episodeLast low us s)).evr.ring, x.code = 0x0D02 ∧ x.a = 0 ∧ x.b = low.setWidth 32 := by
  obtain ⟨x, hx, hv⟩ := episodeLast_placed (low := low) (us := us) hr hl hw hs
  exact ⟨x, raiseUnstable_inRing _ hx, hv⟩

end Sys2Proof.Machine
end

section
/-! Causes of a reset (R411, R417 to R419). -/

namespace Sys2Proof.Machine

variable {s : State} {c k : ResetClass} {cause : Byte}

/-- During the entry of another reset the recorded class is the first of the two (R417). -/
theorem enterReset_entry {d : ResetClass} {e : Byte} (h : s.sup.phase = .entry d e) : enterReset c cause s =
    onSup (fun u => { u with phase := if classOrder c < classOrder d then .entry c cause else .entry d e }) s := by
  simp only [enterReset, h]
  split
  · rfl
  · rw [← h]
    rfl

/-- As during an entry, while reset is held (R417). -/
theorem enterReset_held {d : ResetClass} {e : Byte} (h : s.sup.phase = .reset d e) : enterReset c cause s =
    onSup (fun u => { u with phase := if classOrder c < classOrder d then .reset c cause else .reset d e }) s := by
  simp only [enterReset, h]
  split
  · rfl
  · rw [← h]
    rfl

theorem resetSteps_sup : (resetSteps c cause s).sup =
    { s.sup with mode := .start, phase := .entry c cause, warmDue := none, holdExit := 0, holdRow := false } := by
  have e : resetSteps c cause s = entryEnd c (entryStart c cause s) := rfl
  rw [e, (entryEnd_changes _ _).sup]
  simp only [entryStart, onSup_sup, onCyc_sup, (abandonMaint_changes _).sup, (stopLanes_changes _).sup, (discardTrim_changes _).sup,
    (releaseRole_changes _ _).sup]

/-- A cause of reset touches of the supplies the module's state alone. -/
theorem enterReset_sup (c : ResetClass) (cause : Byte) (s : State) : ∃ m p w n r, (enterReset c cause s).sup =
    { s.sup with mode := m, phase := p, warmDue := w, holdExit := n, holdRow := r } := by
  unfold enterReset
  split
  · exact ⟨_, _, _, _, _, rfl⟩
  · split <;> exact ⟨_, _, _, _, _, rfl⟩
  · split <;> exact ⟨_, _, _, _, _, rfl⟩
  · exact ⟨_, _, _, _, _, resetSteps_sup⟩

/-- The state when a cause is declared: what the cause wrote, in the same phase and with the same ring. -/
structure AtCause (s u : State) : Prop where
  phase : u.sup.phase = s.sup.phase
  evr : u.evr = s.evr

/-- A command that declares a cause of a reset of a class other than W (R411, R417 to R419). -/
theorem does_enterReset {i : Instr} {u : State} (hi : s.sup.phase ≠ .off → exec i s = .next (enterReset c cause u))
    (hu : AtCause s u) (hw : c ≠ .w) :
    (s.sup.phase = .starting ∨ s.sup.phase = .roleWait ∨ s.sup.phase = .waitT0 ∨ s.sup.phase = .up →
      Does i s (fun t => t.sup.mode = .start ∧ t.sup.phase = .entry c cause ∧ t.nibA.st = .stopped ∧ t.nibB.st = .stopped ∧
        t.evr.running = false ∧ t.evr.flushing = true ∧ t.pnw.sessions = [] ∧ t.dsp.railsAt = none ∧
        (∀ p ∈ t.saf.pairs, p.2.on = false) ∧ t.pst.ownDrive = false ∧ t.cyc.sched = [])) ∧
    (∀ d e, s.sup.phase = .entry d e →
      Does i s (fun t => t.sup.phase = (if classOrder c < classOrder d then .entry c cause else .entry d e) ∧ t.evr = s.evr)) ∧
    (∀ d e, s.sup.phase = .reset d e →
      Does i s (fun t => t.sup.phase = (if classOrder c < classOrder d then .reset c cause else .reset d e) ∧ t.evr = s.evr)) := by
  refine ⟨fun h => ?_, fun d e h => ?_, fun d e h => ?_⟩
  · have ho : s.sup.phase ≠ .off := by rcases h with h | h | h | h <;> simp [h]
    obtain ⟨h1, h2, h3, h4, h5, h6, h7, h8, h9, h10⟩ := resetSteps_entered (c := c) (cause := cause) (s := u)
    obtain ⟨h11, h12⟩ := h10 hw
    refine ⟨_, hi ho, ?_⟩
    rw [enterReset_running (by rwa [hu.phase])]
    exact ⟨h1, h2, h3, h4, h5, h6, h7, h11, h8, h9, h12⟩
  · refine ⟨_, hi (by simp [h]), ?_⟩
    rw [enterReset_entry (hu.phase.trans h)]
    exact ⟨rfl, hu.evr⟩
  · refine ⟨_, hi (by simp [h]), ?_⟩
    rw [enterReset_held (hu.phase.trans h)]
    exact ⟨rfl, hu.evr⟩

/-- What VIN below the reset threshold writes before its reset (R411). -/
def vinFallen (v : BitVec 16) (s : State) : State := onSup (fun u => { u with vinLow := true, warnReset := true }) (seeVin v s)

theorem vinReset_off {v : BitVec 16} (h : s.sup.phase = .off) : vinReset v s = s := if_pos h

theorem vinReset_on {v : BitVec 16} (h : s.sup.phase ≠ .off) : vinReset v s = enterReset .b 0x08 (vinFallen v s) := if_neg h

theorem vinReset_sup {v : BitVec 16} (h : s.sup.phase ≠ .off) :
    (vinReset v s).sup.vinLow = true ∧ (vinReset v s).sup.warnReset = true ∧ (vinReset v s).sup.vinNow = v := by
  obtain ⟨m, p, w, n, r, hs⟩ := enterReset_sup .b 0x08 (vinFallen v s)
  rw [vinReset_on h, hs, vinFallen, onSup_sup, seeVin_sup]
  exact ⟨rfl, rfl, rfl⟩

/-- What RST_N low writes before its reset (R419, R420). -/
def pinFallen (ignored : Bool) (s : State) : State := onSup (fun u => { u with rstPin := true, rstHighAt := none, rstStuck := ignored }) s

theorem pinLow_again (h : s.sup.rstPin = true) : pinLow s = s := if_pos h

theorem pinLow_ignored (h : s.sup.rstPin = false) (hi : rstIgnored s = true) : pinLow s = pinFallen true s := by
  simp only [pinLow, h, hi, Bool.false_eq_true, if_false, if_true, pinFallen]

theorem pinLow_heeded (h : s.sup.rstPin = false) (hi : rstIgnored s = false) : pinLow s = enterReset .x 0x09 (pinFallen false s) := by
  simp only [pinLow, h, hi, Bool.false_eq_true, if_false, pinFallen]

theorem pinLow_rstPin (h : s.sup.rstPin = false) (hi : rstIgnored s = false) : (pinLow s).sup.rstPin = true := by
  obtain ⟨m, p, w, n, r, hs⟩ := enterReset_sup .x 0x09 (pinFallen false s)
  rw [pinLow_heeded h hi, hs]
  rfl

/-- A stuck pin is heeded again once it has been high for 100 ms (R420). -/
theorem rstIgnored_iff : rstIgnored s = true ↔ s.sup.rstStuck = true ∧ ∀ h, s.sup.rstHighAt = some h → nowUs s < h + 100000 := by
  unfold rstIgnored
  cases s.sup.rstHighAt <;> simp

end Sys2Proof.Machine
end

section
/-! Reset held, and the start allowed (R411, R418 to R420). -/

namespace Sys2Proof.Machine

variable {s : State} {c : ResetClass} {cause : Byte}

/-- The start of a reset of a class (R417). -/
def Begun (c : ResetClass) (cause : Byte) (t : State) : Prop := t.sup.phase = .starting ∧ t.sup.lastClass = c ∧ t.sup.lastCause = cause

theorem resetHeld_iff : resetHeld s = true ↔ s.sup.vinLow = true ∨ (s.sup.rstPin = true ∧ s.sup.rstStuck = false) := by
  simp [resetHeld]

theorem resetHeld_of_pin (h : s.sup.vinLow = false) : resetHeld s = true ↔ s.sup.rstPin = true ∧ s.sup.rstStuck = false := by
  simp [resetHeld, h]

/-- The RTC alone is written before a start. -/
theorem rtcAtStart_sup (s : State) : ∃ r a, (rtcAtStart s).sup = { s.sup with rtc := r, rtcAt := a } := by
  unfold rtcAtStart
  split <;> exact ⟨_, _, rfl⟩

/-- What a start leaves of the supplies: the class and cause, the counts, the RTC. -/
theorem beginStart_sup (c : ResetClass) (cause : Byte) (s : State) : ∃ n b x r rtc a, (beginStart c cause s).sup = { s.sup with
    phase := .starting, lastClass := c, lastCause := cause, noWarn := n, rcntP := if c = .p then inc8 s.sup.rcntP else s.sup.rcntP,
    rcntB := b, rcntX := x, rcntS := r, rtc := rtc, rtcAt := a } := by
  have h : ∃ r a, (if c = .w then s else rtcAtStart s).sup = { s.sup with rtc := r, rtcAt := a } := by
    split
    · exact ⟨_, _, rfl⟩
    · exact rtcAtStart_sup s
  obtain ⟨r, a, h⟩ := h
  simp only [beginStart, onSup_sup, h]
  exact ⟨_, _, _, _, _, _, rfl⟩

theorem beginStart_begun : Begun c cause (beginStart c cause s) := ⟨rfl, rfl, rfl⟩

theorem holdReset_held (h : resetHeld s = true) : holdReset c cause s = onSup (fun u => { u with phase := .reset c cause }) s := if_pos h

theorem holdReset_free (h : resetHeld s = false) : holdReset c cause s = beginStart c cause s := if_neg (by simp [h])

theorem releaseReset_held (hp : s.sup.phase = .reset c cause) (h : resetHeld s = true) : releaseReset s = s := by
  simp only [releaseReset, hp, h, if_true]

theorem releaseReset_free (hp : s.sup.phase = .reset c cause) (h : resetHeld s = false) : releaseReset s = beginStart c cause s := by
  simp only [releaseReset, hp, h, Bool.false_eq_true, if_false]

theorem releaseReset_none (hp : ∀ c e, s.sup.phase ≠ .reset c e) : releaseReset s = s := by
  unfold releaseReset
  split
  · exact absurd ‹_› (hp _ _)
  · rfl

end Sys2Proof.Machine
end

section
/-! What a reset clears and keeps, and supplies that stop (R406, R418, R426). -/

namespace Sys2Proof.Machine

variable {s u : State} {c : ResetClass} {cause : Byte}

/-- What a reset of every class keeps: registers g and data memory, the retain store, the trims (R87, R426). -/
structure ResetKeeps (s t : State) : Prop where
  gA : t.nibA.g = s.nibA.g
  dataA : t.nibA.data = s.nibA.data
  gB : t.nibB.g = s.nibB.g
  dataB : t.nibB.data = s.nibB.data
  retain : t.cyc.retain = s.cyc.retain
  trims : t.fch.trims = s.fch.trims
  next : t.evr.next = s.evr.next
  ring : t.evr.ring = s.evr.ring
  store : t.evr.store = s.evr.store

/-- The parts of a reset of class W that undo what the governor, fault injection and the links had done. -/
def warmBase (s : State) : State := portsWarm (clearInjectors (unshedAll s))

theorem warmBase_changes (s : State) : Changes [.lpe, .pst, .frg, .dsp] s (warmBase s) :=
  .comp (portsWarm_changes _) rfl (.comp (clearInjectors_changes _) rfl ((unshedAll_changes s).mono rfl))

theorem resetWarm_keeps (s : State) : ResetKeeps s (resetWarm s) := by
  have h := warmBase_changes s
  exact ⟨(congrArg LaneSt.g h.nibA :), (congrArg LaneSt.data h.nibA :), (congrArg LaneSt.g h.nibB :), (congrArg LaneSt.data h.nibB :),
    (congrArg Cyc.retain h.cyc :), (congrArg Fch.trims h.fch :), (congrArg Evr.next h.evr :), (congrArg Evr.ring h.evr :),
    (congrArg Evr.store h.evr :)⟩

theorem resetCold_keeps (c : ResetClass) (s : State) : ResetKeeps s (resetCold c s) := ⟨rfl, rfl, rfl, rfl, rfl, rfl, rfl, rfl, rfl⟩

theorem resetState_warm : resetState .w s = resetWarm s := rfl

theorem resetState_cold (h : c ≠ .w) : resetState c s = resetCold c s := if_neg h

theorem resetState_keeps (c : ResetClass) (s : State) : ResetKeeps s (resetState c s) := by
  by_cases h : c = .w
  · rw [h]
    exact resetWarm_keeps s
  · rw [resetState_cold h]
    exact resetCold_keeps c s

/-- No force outlives a reset, and posting stays stopped (R349, R426). -/
theorem resetState_cleared (c : ResetClass) (s : State) : (resetState c s).cyc.forces = [] ∧ (resetState c s).evr.running = false := by
  by_cases h : c = .w
  · rw [h]
    exact ⟨rfl, rfl⟩
  · rw [resetState_cold h]
    exact ⟨rfl, rfl⟩

/-- What holds the module in reset outlives the reset. -/
theorem resetState_held (c : ResetClass) (s : State) : resetHeld (resetState c s) = resetHeld s := by
  by_cases h : c = .w
  · have hs : (portsWarm (clearInjectors (unshedAll s))).sup = s.sup := (warmBase_changes s).sup
    simp only [h, resetState_warm, resetHeld, resetWarm, hs]
  · rw [resetState_cold h]
    rfl

/-- A reset of class W keeps the image, the timebase, the points and the constants (R426, R437). -/
theorem resetWarm_settings (s : State) : (resetWarm s).img = s.img ∧ (resetWarm s).tim.ticks = s.tim.ticks ∧
    (resetWarm s).alm.points = s.alm.points ∧ (resetWarm s).cyc.consts = s.cyc.consts := by
  have h := warmBase_changes s
  exact ⟨h.img, (congrArg Tim.ticks h.tim :), (congrArg Alm.points h.alm :), (congrArg Cyc.consts h.cyc :)⟩

theorem resetCold_settings (c : ResetClass) (s : State) : (resetCold c s).img = Image.blank ∧ (resetCold c s).tim.ticks = 0 ∧
    (resetCold c s).pnw.sessions = [] ∧ (resetCold c s).cyc.consts = [] := ⟨rfl, rfl, rfl, rfl⟩

/-- A flush without a run of drops: the ring's records in the store, SEQ as it was (R348). -/
theorem flushDone_kept (h : s.evr.dropRun = 0) : (flushDone s).evr.next = s.evr.next ∧
    (flushDone s).evr.store = keepStore (s.evr.store ++ s.evr.ring) := by
  unfold flushDone
  simp only [h, decide_true, Bool.true_or, if_true, onEvr_evr, and_self]

/-- The flush of a reset's entry completed: internal reset (R418). -/
theorem flushComplete_entry (hp : s.sup.phase = .entry c cause) (hf : s.evr.flushing = true) :
    flushComplete s = holdReset c cause (resetState c (flushDone s)) := by
  have hq : (flushDone s).sup.phase = .entry c cause := by rw [(flushDone_changes s).sup, hp]
  unfold flushComplete
  rw [if_neg (by simp [hf])]
  simp only [hq]

/-- The state once all that is not kept is lost. -/
def lost (noWarn : Bool) (s : State) : State := onSup (fun u => { u with phase := .off, noWarn := noWarn }) (resetCold .p s)

theorem suppliesStop_off (h : s.sup.phase = .off) : suppliesStop s = s := by
  simp only [suppliesStop, h]

/-- Supplies that stop while reset is held (R411). -/
theorem suppliesStop_held (h : s.sup.phase = .reset c cause) :
    suppliesStop s = lost false s := by
  simp only [suppliesStop, h, lost]

/-- The state when supplies stop under a module out of reset, before what is not kept is lost. -/
def stopping (s : State) : State := cutFlush (endSessions (panelAbort s))

/-- Supplies that stop under a module out of reset (R406). -/
theorem suppliesStop_running (ho : s.sup.phase ≠ .off) (hr : ∀ c e, s.sup.phase ≠ .reset c e) :
    suppliesStop s = applyOutputs (lost true (stopping s)) := by
  unfold suppliesStop
  split
  · exact absurd ‹_› ho
  · exact absurd ‹_› (hr _ _)
  · rfl

theorem endWriter_starts (s : State) : (endWriter s).boot.starts = s.boot.starts := by
  unfold endWriter
  split <;> rfl

theorem beforeCut_evr (s : State) : (endSessions (panelAbort s)).evr = s.evr := by
  rw [(endSessions_changes _).evr, (panelAbort_changes _).evr]

theorem stopping_changes (s : State) : Changes [.pnw, .evr, .cvu, .dsp, .boot, .free] s (stopping s) :=
  .comp (cutFlush_changes _) rfl (.comp (endSessions_changes _) rfl ((panelAbort_changes s).mono rfl))

theorem stopping_starts (s : State) : (stopping s).boot.starts = s.boot.starts := by
  rw [stopping, (cutFlush_changes _).boot]
  exact (endWriter_starts _).trans (congrArg Boot.starts (panelAbort_changes s).boot)

/-- How many records of a flush cut off reached the store (R351). -/
def cutCount (s : State) : Nat := if s.evr.flushing then (freeVal s).toNat % (s.evr.ring.length + 1) else 0

theorem cutCount_le (s : State) : cutCount s ≤ s.evr.ring.length ∧ (s.evr.flushing = false → cutCount s = 0) := by
  unfold cutCount
  refine ⟨?_, fun h => by simp [h]⟩
  split
  · exact Nat.le_of_lt_succ (Nat.mod_lt _ (Nat.succ_pos _))
  · exact Nat.zero_le _

theorem cutFlush_evr (s : State) : (cutFlush s).evr.next = s.evr.next ∧ (cutFlush s).evr.ring = [] ∧
    (cutFlush s).evr.store = keepStore (s.evr.store ++ s.evr.ring.take (cutCount s)) := by
  simp only [cutFlush, takeFree_evr, onEvr_evr, cutCount, and_self]

/-- How many records of the ring reached the store when supplies stopped (R351). -/
def stoppedCount (s : State) : Nat := cutCount (endSessions (panelAbort s))

theorem stoppedCount_le (s : State) : stoppedCount s ≤ s.evr.ring.length ∧ (s.evr.flushing = false → stoppedCount s = 0) := by
  have h := cutCount_le (endSessions (panelAbort s))
  rwa [beforeCut_evr] at h

theorem stopping_evr (s : State) : (stopping s).evr.next = s.evr.next ∧ (stopping s).evr.ring = [] ∧
    (stopping s).evr.store = keepStore (s.evr.store ++ s.evr.ring.take (stoppedCount s)) := by
  have h := cutFlush_evr (endSessions (panelAbort s))
  rwa [beforeCut_evr] at h

end Sys2Proof.Machine
end

section
/-! The commands of supplies and resets (R15, R402, R406 to R420), and the settled statement. -/

namespace Sys2Proof.Machine

variable {s t : State} {c : ResetClass} {cause : Byte}

/-- A command's outcome by what its operation comes to. -/
theorem exec_eq {i : Instr} {f : State} (he : exec i s = .next f) (h : f = t) : exec i s = .next t := he.trans (h ▸ rfl)

theorem holdReset_phase (c : ResetClass) (cause : Byte) (u : State) :
    (resetHeld u = true → (holdReset c cause u).sup.phase = .reset c cause) ∧
    (resetHeld u = false → Begun c cause (holdReset c cause u)) :=
  ⟨fun h => by rw [holdReset_held h]; rfl, fun h => by rw [holdReset_free h]; exact beginStart_begun⟩

/-- The state at the end of a reset's entry, before the reset is held or released. -/
def cleared (c : ResetClass) (s : State) : State := resetState c (flushDone s)

theorem cleared_held (c : ResetClass) (s : State) : resetHeld (cleared c s) = resetHeld s := by
  rw [cleared, resetState_held]
  simp only [resetHeld, (flushDone_changes s).sup]

/-- What the end of a reset's entry keeps and clears, by class (R87, R349, R418, R426). -/
def EntryDone (c : ResetClass) (s t : State) : Prop :=
  t.nibA.g = s.nibA.g ∧ t.nibA.data = s.nibA.data ∧ t.nibB.g = s.nibB.g ∧ t.nibB.data = s.nibB.data ∧
    t.chop = s.chop ∧ t.flash = s.flash ∧ t.cyc.retain = s.cyc.retain ∧ t.fch.trims = s.fch.trims ∧
    (s.evr.dropRun = 0 → t.evr.next = s.evr.next ∧ t.evr.store = keepStore (s.evr.store ++ s.evr.ring)) ∧
    (c = .w → t.img = s.img ∧ t.tim.ticks = s.tim.ticks ∧ t.alm.points = s.alm.points ∧ t.cyc.consts = s.cyc.consts) ∧
    (c ≠ .w → t.img = Image.blank ∧ t.tim.ticks = 0 ∧ t.pnw.sessions = [] ∧ t.cyc.consts = []) ∧
    t.cyc.forces = [] ∧ t.evr.running = false

theorem cleared_done (c : ResetClass) (s : State) : EntryDone c s (cleared c s) := by
  have hf := flushDone_changes s
  have hr := resetState_changes c (flushDone s)
  obtain ⟨h1, h2, h3, h4, h5, h6, h7, -, h9⟩ := resetState_keeps c (flushDone s)
  rw [hf.nibA] at h1 h2
  rw [hf.nibB] at h3 h4
  rw [hf.cyc] at h5
  rw [hf.fch] at h6
  refine ⟨h1, h2, h3, h4, hr.chop.trans hf.chop, hr.flash.trans hf.flash, h5, h6, fun hd => ?_, fun hw => ?_, fun hw => ?_,
    resetState_cleared c _⟩
  · obtain ⟨hn, hs⟩ := flushDone_kept hd
    exact ⟨h7.trans hn, h9.trans hs⟩
  · obtain ⟨k1, k2, k3, k4⟩ := resetWarm_settings (flushDone s)
    rw [cleared, hw, resetState_warm, k1, k2, k3, k4, hf.img, hf.tim, hf.alm, hf.cyc]
    exact ⟨rfl, rfl, rfl, rfl⟩
  · rw [cleared, resetState_cold hw]
    exact resetCold_settings c _

theorem EntryDone.after (h : EntryDone c s t) {u : State} (hu : Changes [.sup, .free] t u) : EntryDone c s u := by
  unfold EntryDone at h ⊢
  rwa [hu.nibA, hu.nibB, hu.chop, hu.flash, hu.cyc, hu.fch, hu.evr, hu.img, hu.tim, hu.alm, hu.pnw]

/-- Supplies that stop: what MRAM, retention and the flash keep (R406, R411). -/
def StopKeeps (noWarn : Bool) (s t : State) : Prop :=
  t.sup.phase = .off ∧ t.sup.noWarn = noWarn ∧ t.img = Image.blank ∧ t.flash = s.flash ∧ t.chop = s.chop ∧
    t.boot.starts = s.boot.starts ∧ t.sup.rtcSet = s.sup.rtcSet ∧ t.sup.mirrorStarts = s.sup.mirrorStarts ∧
    t.cyc.retain = s.cyc.retain ∧ t.fch.trims = s.fch.trims ∧ t.evr.next = s.evr.next

theorem lost_keeps (noWarn : Bool) (s : State) : StopKeeps noWarn s (lost noWarn s) :=
  ⟨rfl, rfl, rfl, rfl, rfl, rfl, rfl, rfl, rfl, rfl, rfl⟩

theorem lost_evr (noWarn : Bool) (s : State) :
    (lost noWarn s).evr.ring = s.evr.ring ∧ (lost noWarn s).evr.store = s.evr.store := ⟨rfl, rfl⟩

theorem lost_stopped (noWarn : Bool) (s : State) : (applyOutputs (lost noWarn s)).evr = (lost noWarn s).evr := applyOutputs_evr rfl

theorem suppliesStop_held_keeps (h : s.sup.phase = .reset c cause) : StopKeeps false s (suppliesStop s) := by
  rw [suppliesStop_held h]
  exact lost_keeps false s

theorem suppliesStop_running_keeps (ho : s.sup.phase ≠ .off) (hr : ∀ c e, s.sup.phase ≠ .reset c e) :
    StopKeeps true s (suppliesStop s) ∧ (suppliesStop s).evr.ring = [] ∧
      (suppliesStop s).evr.store = keepStore (s.evr.store ++ s.evr.ring.take (stoppedCount s)) := by
  have ha := applyOutputs_changes (lost true (stopping s))
  have he := lost_stopped true (stopping s)
  have hs := stopping_changes s
  obtain ⟨hn, hring, hstore⟩ := stopping_evr s
  obtain ⟨hlr, hls⟩ := lost_evr true (stopping s)
  obtain ⟨h1, h2, h3, h4, h5, h6, h7, h8, h9, h10, h11⟩ := lost_keeps true (stopping s)
  rw [suppliesStop_running ho hr]
  rw [StopKeeps, ha.sup, ha.img, ha.flash, ha.chop, ha.boot, ha.cyc, applyOutputs_trims, he, h6, stopping_starts, h4, hs.flash, h5,
    hs.chop, h7, h8, hs.sup, h9, hs.cyc, h10, hs.fch, h11, hlr, hls, hn, hring, hstore]
  exact ⟨⟨h1, h2, h3, rfl, rfl, rfl, rfl, rfl, rfl, rfl, rfl⟩, rfl, rfl⟩

/-- Whether supplies that stop make the next start one without warning (R411). -/
def unwarned (s : State) : Bool :=
  match s.sup.phase with
  | .reset _ _ => false
  | _ => true

theorem unwarned_running (hr : ∀ c e, s.sup.phase ≠ .reset c e) : unwarned s = true := by
  unfold unwarned
  split
  · exact absurd ‹_› (hr _ _)
  · rfl

theorem suppliesStop_keeps (ho : s.sup.phase ≠ .off) : StopKeeps (unwarned s) s (suppliesStop s) := by
  by_cases hr : ∃ c e, s.sup.phase = .reset c e
  · obtain ⟨c, e, hr⟩ := hr
    have hu : unwarned s = false := by simp only [unwarned, hr]
    rw [hu]
    exact suppliesStop_held_keeps hr
  · have hr' : ∀ c e, s.sup.phase ≠ .reset c e := fun c e h => hr ⟨c, e, h⟩
    rw [unwarned_running hr']
    exact (suppliesStop_running_keeps ho hr').1

/-- Of the ring, the records that a running flush had written are in the store, and no others (R351). -/
theorem suppliesStop_records (ho : s.sup.phase ≠ .off) (hr : ∀ c e, s.sup.phase ≠ .reset c e) : (suppliesStop s).evr.ring = [] ∧
    ∃ n, n ≤ s.evr.ring.length ∧ (s.evr.flushing = false → n = 0) ∧
      (suppliesStop s).evr.store = keepStore (s.evr.store ++ s.evr.ring.take n) := by
  obtain ⟨-, hring, hstore⟩ := suppliesStop_running_keeps ho hr
  obtain ⟨hle, hz⟩ := stoppedCount_le s
  exact ⟨hring, _, hle, hz, hstore⟩

/-- A start, where one is due, leaves what the supplies show of the pin (R420). -/
theorem releaseReset_pin (s : State) : (releaseReset s).sup.rstPin = s.sup.rstPin ∧ (releaseReset s).sup.rstStuck = s.sup.rstStuck ∧
    (releaseReset s).sup.stuckDue = s.sup.stuckDue ∧ (releaseReset s).sup.evt = s.sup.evt := by
  have begun : ∀ c cause, (beginStart c cause s).sup.rstPin = s.sup.rstPin ∧ (beginStart c cause s).sup.rstStuck = s.sup.rstStuck ∧
      (beginStart c cause s).sup.stuckDue = s.sup.stuckDue ∧ (beginStart c cause s).sup.evt = s.sup.evt := fun c cause => by
    obtain ⟨_, _, _, _, _, _, h⟩ := beginStart_sup c cause s
    rw [h]
    exact ⟨rfl, rfl, rfl, rfl⟩
  unfold releaseReset
  split
  · split
    · exact ⟨rfl, rfl, rfl, rfl⟩
    · exact begun _ _
  · exact ⟨rfl, rfl, rfl, rfl⟩

/-- Whether the pin holds the module in reset (R419, R420). -/
def pinHolds (s : State) : Prop := s.sup.rstPin = true ∧ s.sup.rstStuck = false

/-- VIN back above its restart threshold. -/
def vinBack (s : State) : State := onSup (fun u => { u with vinLow := false }) s

theorem vinBack_held : resetHeld (vinBack s) = true ↔ pinHolds s := resetHeld_of_pin (s := vinBack s) rfl

theorem vinRestart_off (h : s.sup.phase = .off) :
    vinRestart s = holdReset .p (if s.sup.retentionLost then 0x02 else 0x01) (vinBack s) := if_pos h

theorem vinRestart_on (h : s.sup.phase ≠ .off) : vinRestart s = releaseReset (vinBack s) := if_neg h

/-- From no supply: a start of class P, counted (R411, R417). -/
theorem vinRestart_started (h : s.sup.phase = .off) (hp : ¬pinHolds s) :
    Begun .p (if s.sup.retentionLost then 0x02 else 0x01) (vinRestart s) ∧ (vinRestart s).sup.rcntP = inc8 s.sup.rcntP ∧
      (vinRestart s).sup.vinLow = false := by
  rw [vinRestart_off h, holdReset_free (by simpa using vinBack_held.not.mpr hp)]
  obtain ⟨_, _, _, _, _, _, hs⟩ := beginStart_sup .p (if s.sup.retentionLost then 0x02 else 0x01) (vinBack s)
  exact ⟨beginStart_begun, by rw [hs]; rfl, by rw [hs]; rfl⟩

theorem vinRestart_pinned (h : s.sup.phase = .off) (hp : pinHolds s) :
    (vinRestart s).sup.phase = .reset .p (if s.sup.retentionLost then 0x02 else 0x01) := by
  rw [vinRestart_off h, holdReset_held (vinBack_held.mpr hp)]
  rfl

/-- The reset that is held ends with VIN's restart, where the pin does not hold it (R418). -/
theorem vinRestart_reset (h : s.sup.phase = .reset c cause) :
    (¬pinHolds s → Begun c cause (vinRestart s)) ∧ (pinHolds s → vinRestart s = vinBack s) := by
  have hb : (vinBack s).sup.phase = .reset c cause := h
  rw [vinRestart_on (by simp [h])]
  refine ⟨fun hp => ?_, fun hp => releaseReset_held hb (vinBack_held.mpr hp)⟩
  rw [releaseReset_free hb (by simpa using vinBack_held.not.mpr hp)]
  exact beginStart_begun

theorem vinRestart_idle (ho : s.sup.phase ≠ .off) (hr : ∀ c e, s.sup.phase ≠ .reset c e) : vinRestart s = vinBack s := by
  rw [vinRestart_on ho]
  exact releaseReset_none hr

/-- RST_N read high. -/
def pinRaised (s : State) : State :=
  onSup (fun u => { u with rstPin := false, rstHighAt := if u.rstPin && u.rstStuck then some (nowUs s) else u.rstHighAt }) s

theorem pinRaised_held : resetHeld (pinRaised s) = s.sup.vinLow := Bool.or_false _

/-- The reset that is held ends with the pin, where VIN does not hold it (R418, R419). -/
theorem pinHigh_reset (h : s.sup.phase = .reset c cause) :
    (s.sup.vinLow = false → Begun c cause (pinHigh s)) ∧ (s.sup.vinLow = true → (pinHigh s).sup.phase = .reset c cause) := by
  have hb : (pinRaised s).sup.phase = .reset c cause := h
  have hp : pinHigh s = releaseReset (pinRaised s) := rfl
  rw [hp]
  refine ⟨fun hv => ?_, fun hv => ?_⟩
  · rw [releaseReset_free hb (pinRaised_held.trans hv)]
    exact beginStart_begun
  · rw [releaseReset_held hb (pinRaised_held.trans hv), hb]

theorem pinHigh_rstPin (s : State) : (pinHigh s).sup.rstPin = false := (releaseReset_pin (pinRaised s)).1

theorem pinHigh_idle (hr : ∀ c e, s.sup.phase ≠ .reset c e) : pinHigh s = pinRaised s := releaseReset_none hr

/-- A pin found stuck. -/
def pinMarked (s : State) : State :=
  onSup (fun u => { u with rstStuck := true, stuckDue := true, rstHighAt := none, evt := setBit u.evt 3 }) s

theorem pinMarked_held : resetHeld (pinMarked s) = s.sup.vinLow := by
  simp [resetHeld, pinMarked]

/-- A pin that alone holds the reset is stuck, and the module starts (R420). -/
theorem pinStuck_held (h : s.sup.phase = .reset c cause) (hp : pinHolds s) : pinStuck s = releaseReset (pinMarked s) := by
  obtain ⟨h1, h2⟩ := hp
  simp only [pinStuck, h, h1, h2, Bool.not_false, Bool.and_self, if_true, pinMarked]

theorem pinStuck_marked (h : s.sup.phase = .reset c cause) (hp : pinHolds s) : (pinStuck s).sup.rstStuck = true ∧
    (pinStuck s).sup.evt.getLsbD 3 = true ∧ (pinStuck s).sup.stuckDue = true := by
  obtain ⟨-, h1, h2, h3⟩ := releaseReset_pin (pinMarked s)
  rw [pinStuck_held h hp, h1, h2, h3]
  simp [pinMarked, setBit]

theorem pinStuck_begun (h : s.sup.phase = .reset c cause) (hp : pinHolds s) (hv : s.sup.vinLow = false) : Begun c cause (pinStuck s) := by
  rw [pinStuck_held h hp, releaseReset_free (s := pinMarked s) h (pinMarked_held.trans hv)]
  exact beginStart_begun

theorem pinStuck_idle (hr : ∀ c e, s.sup.phase ≠ .reset c e) : pinStuck s = s := by
  unfold pinStuck
  split
  · exact absurd ‹_› (hr _ _)
  · rfl

/-- The junction's temperature taken over (R465). -/
def junctionAt (d : Int) (s : State) : State := onTim (fun t => { t with tj := d }) s

theorem exec_junction (d : Int) (s : State) : exec (.junctionOvertemperature d) s =
    .next (if powered s then (if d > 1150 then selfDiag .overtemperature (junctionAt d s) else junctionAt d s) else s) := rfl

/-- Over 115 °C in service is Safe (R23, R465). -/
theorem junction_safe {d : Int} (hi : inService s = true) (hf : faultFailsStart s = false) :
    (selfDiag .overtemperature (junctionAt d s)).sup.mode = .safe ∧ (selfDiag .overtemperature (junctionAt d s)).nibA.st = .stopped := by
  rw [selfDiag_inService (s := junctionAt d s) hi hf]
  obtain ⟨h1, h2, -⟩ := enterSafe_safe (s := diagEvent (post 0x0104 0 [Config.reasonCode .overtemperature] (junctionAt d s)))
  exact ⟨h1, h2⟩

theorem junction_cool {d : Int} (hp : powered s = true) (hd : d ≤ 1150) :
    exec (.junctionOvertemperature d) s = .next (junctionAt d s) := by
  rw [exec_junction, if_pos hp, if_neg (not_lt.mpr hd)]

theorem junction_hot {d : Int} (hp : powered s = true) (hd : 1150 < d) :
    exec (.junctionOvertemperature d) s = .next (selfDiag .overtemperature (junctionAt d s)) := by
  rw [exec_junction, if_pos hp, if_pos hd]

end Sys2Proof.Machine

open Sys2Proof Sys2Proof.Machine

/-- Settles O58: each command through what its own lemmas say it does. -/
theorem supplies : Obligations.Supplies := by
  intro s
  refine ⟨fun v => ⟨fun h => ?_, fun ho hw => ?_⟩, fun low us => ⟨fun h => ?_, fun hw hr ho => ?_⟩, fun h => ?_, fun h => ?_,
    fun v => ⟨fun h => ?_, ?_, fun h => ?_⟩, fun c cause hp hf => ?_, fun h => ?_, fun h => ?_,
    ⟨fun ho hp => ?_, fun ho hp => ?_, fun c e h => ⟨fun hp => ?_, fun hp => ?_⟩, fun ho hr => ?_⟩,
    fun high v => ⟨fun h => ?_, fun h => ?_⟩, fun mv => ⟨fun h => ?_, fun h => ?_⟩, fun h => ?_, fun h => ?_, fun h => ?_,
    fun h hi => ⟨?_, ?_⟩, fun h hi => ?_, rstIgnored_iff, fun c e h => ⟨fun hv => ?_, fun hv => ?_, fun hp hs => ?_⟩,
    fun hr => ⟨?_, ?_⟩, fun d => ⟨fun hp hd => ?_, fun hp hd hi hf => ?_, fun hp => ?_⟩⟩
  · exact exec_eq rfl (vinWarning_ignored h)
  · exact ⟨_, rfl, (vinWarning_sup ho hw).trans (warned_sup v s), vinWarning_powered ho hw, vinWarning_changes v s⟩
  · exact exec_eq rfl (episodeEnd_ignored (by tauto))
  · obtain ⟨hwarn, hcount, hevt, hmode, hun⟩ := episodeEnd_sup (s := s) (low := low) (us := us)
    obtain ⟨hhold, habort, hqueue⟩ := episodeEnd_kept (s := s) (low := low) (us := us)
    exact ⟨_, exec_eq rfl (episodeEnd_taken hw hr ho), hwarn, hcount, hhold, hevt, hmode, habort, hqueue, hun,
      fun h1 h2 h3 h4 => episodeEnd_placed h1 h2 (by omega) (by omega)⟩
  · exact ⟨_, exec_eq rfl (if_pos h), rfl, onSup_changes _ s⟩
  · exact exec_eq rfl (if_neg h)
  · exact exec_eq rfl (vinReset_off h)
  · exact does_enterReset (u := vinFallen v s) (fun ho => exec_eq rfl (vinReset_on ho)) ⟨rfl, rfl⟩ (by decide)
  · exact ⟨_, rfl, vinReset_sup h⟩
  · obtain ⟨hheld, hfree⟩ := holdReset_phase c cause (cleared c s)
    have hh := resetHeld_iff (s := s)
    rw [← cleared_held c s] at hh
    exact ⟨_, exec_eq rfl (flushComplete_entry hp hf), fun h => hheld (hh.mpr h), fun h => hfree (by simpa using hh.not.mpr h),
      (cleared_done c s).after (holdReset_changes c cause _)⟩
  · simp only [exec, execInternalSuppliesStop, suppliesStop_off h]
  · obtain ⟨h1, h2, h3, h4, h5, h6, h7, h8, h9, h10, h11⟩ := suppliesStop_keeps h
    exact ⟨_, rfl, h1, h2, h3, h4, h5, h6, h7, h8, h9, h10, h11, suppliesStop_records h⟩
  · exact ⟨_, rfl, vinRestart_started ho hp⟩
  · exact ⟨_, rfl, vinRestart_pinned ho hp⟩
  · exact ⟨_, rfl, (vinRestart_reset h).1 hp⟩
  · exact ⟨_, exec_eq rfl ((vinRestart_reset h).2 hp), rfl⟩
  · exact ⟨_, exec_eq rfl (vinRestart_idle ho hr), rfl, onSup_changes _ s⟩
  · exact exec_eq rfl (if_pos h)
  · exact ⟨_, exec_eq rfl (if_neg h), by rw [onSup_sup, seeVin_sup]; rfl, .comp (onSup_changes _ _) rfl (seeVin_changes v s)⟩
  · exact exec_eq rfl (if_pos h)
  · exact ⟨_, exec_eq rfl (if_neg h), by simp [orBit]⟩
  · exact ⟨_, exec_eq rfl (if_pos h), rfl, rfl, rfl, rfl⟩
  · exact exec_eq rfl (if_neg h)
  · exact exec_eq rfl (pinLow_again h)
  · exact does_enterReset (u := pinFallen false s) (fun _ => exec_eq rfl (pinLow_heeded h hi)) ⟨rfl, rfl⟩ (by decide)
  · exact ⟨_, rfl, pinLow_rstPin h hi⟩
  · exact ⟨_, exec_eq rfl (pinLow_ignored h hi), rfl, onSup_changes _ s⟩
  · exact ⟨_, rfl, (pinHigh_reset h).1 hv, pinHigh_rstPin s⟩
  · exact ⟨_, rfl, (pinHigh_reset h).2 hv, pinHigh_rstPin s⟩
  · obtain ⟨h1, h2, h3⟩ := pinStuck_marked h ⟨hp, hs⟩
    exact ⟨_, rfl, h1, h2, h3, pinStuck_begun h ⟨hp, hs⟩⟩
  · exact ⟨_, exec_eq rfl (pinHigh_idle hr), rfl, rfl, onSup_changes _ s⟩
  · exact exec_eq rfl (pinStuck_idle hr)
  · exact ⟨_, junction_cool hp hd, rfl, onTim_changes _ s⟩
  · exact ⟨_, junction_hot hp hd, junction_safe hi hf⟩
  · rw [exec_junction, if_neg (by simp [hp])]
end

section
/-! An empty queue (R35, log 14). -/

namespace Sys2Proof.Machine

variable {s : State}

theorem tick_counting (h : counting s = true) : tick s = { s with tim := { s.tim with ticks := s.tim.ticks + 1 } } := if_pos h

theorem tick_stopped (h : counting s = false) : tick s = s := if_neg (by simp [h])

theorem step_empty (h : s.pending = []) : step s = .next (tick s) := by
  simp only [step, h]

end Sys2Proof.Machine

open Sys2Proof Sys2Proof.Machine

/-- Settles O2: on an empty queue a step is the timebase's tick. -/
theorem emptyQueueIsOneTick : Obligations.EmptyQueueIsOneTick := fun _ h =>
  ⟨fun hc => (step_empty h).trans (congrArg _ (tick_counting hc)), fun hc => (step_empty h).trans (congrArg _ (tick_stopped hc))⟩
end

section
/-! Speed gauges and the floor guard (R27, R29, R33, R34). -/

namespace Sys2Proof.Machine

variable {s : State} {a b : BitVec 10}

/-- When the floor guard raises the core (R33). -/
structure GuardActs (s : State) : Prop where
  gauged : s.tim.gauged = true
  mode : s.sup.mode ≠ .start
  low : atGuards s = false
  due : ∀ u, s.tim.lastRaise = some u → u + 1000 ≤ nowUs s
  room : s.tim.vcore < 1000

theorem floorGuard_acts (h : GuardActs s) : floorGuard s = onTim (raise10 (nowUs s) s.img.vunshedMv) s := by
  obtain ⟨hg, hm, hl, hd, hv⟩ := h
  refine if_pos ?_
  simp only [Bool.and_eq_true, decide_eq_true_eq, Bool.not_eq_true', bne_iff_ne]
  refine ⟨⟨⟨⟨hg, hm⟩, hl⟩, ?_⟩, hv⟩
  cases hr : s.tim.lastRaise with
  | none => rfl
  | some u => exact decide_eq_true (hd u hr)

theorem floorGuard_rests (h : ¬GuardActs s) : floorGuard s = s := by
  refine if_neg fun hc => h ?_
  simp only [Bool.and_eq_true, decide_eq_true_eq, Bool.not_eq_true', bne_iff_ne] at hc
  obtain ⟨⟨⟨⟨hg, hm⟩, hl⟩, hd⟩, hv⟩ := hc
  exact ⟨hg, hm, hl, fun u hu => by simpa [hu] using hd, hv⟩

/-- The floor guard touches the core's voltage and what goes with it alone. -/
theorem floorGuard_readings (s : State) : (floorGuard s).tim.gaugeA = s.tim.gaugeA ∧ (floorGuard s).tim.gaugeB = s.tim.gaugeB ∧
    (floorGuard s).tim.lowA = s.tim.lowA ∧ (floorGuard s).tim.lowB = s.tim.lowB ∧ (floorGuard s).tim.gaugeDis = s.tim.gaugeDis := by
  by_cases h : GuardActs s
  · rw [floorGuard_acts h]
    exact ⟨rfl, rfl, rfl, rfl, rfl⟩
  · rw [floorGuard_rests h]
    exact ⟨rfl, rfl, rfl, rfl, rfl⟩

theorem floorGuard_vcore (s : State) : (floorGuard s).tim.vcore = s.tim.vcore ∨
    (floorGuard s).tim.vcore = s.tim.vcore + 10 ∧ s.tim.vcore < 1000 ∧ (floorGuard s).tim.lastRaise = some (nowUs s) := by
  by_cases h : GuardActs s
  · exact .inr (by rw [floorGuard_acts h]; exact ⟨rfl, h.room, rfl⟩)
  · exact .inl (by rw [floorGuard_rests h])

/-- Both readings taken over, and what they end: what SPEED_GAUGE_UPDATE does before the floor guard (R27, R29, R34). -/
def gaugesRead (a b : BitVec 10) (s : State) : State :=
  let s := onTim (fun t => { t with gaugeA := a, gaugeB := b, gauged := true, lowA := if a < t.lowA then a else t.lowA,
                                    lowB := if b < t.lowB then b else t.lowB }) s
  let agree := since (nowUs s) (!gaugesDiffer a.toNat b.toNat) s.tim.agreeSince
  let ok := since (nowUs s) (atGuards s) s.tim.guardSince
  onTim (fun t => { t with agreeSince := agree, guardSince := ok, gaugeDis := t.gaugeDis && !heldFor (nowUs s) 1000000 agree,
                           floorLost := t.floorLost && !heldFor (nowUs s) 1000000 ok }) s

theorem gaugeUpdate_eq (a b : BitVec 10) (s : State) : gaugeUpdate a b s = floorGuard (gaugesRead a b s) := rfl

theorem gaugeUpdate_gaugeDis (a b : BitVec 10) (s : State) : (gaugeUpdate a b s).tim.gaugeDis = (gaugesRead a b s).tim.gaugeDis := by
  obtain ⟨-, -, -, -, hd⟩ := floorGuard_readings (gaugesRead a b s)
  exact hd

/-- Only a disagreement that stood can stand after a reading. -/
theorem gaugesRead_gaugeDis (a b : BitVec 10) (s : State) :
    (gaugesRead a b s).tim.gaugeDis = s.tim.gaugeDis ∨ (gaugesRead a b s).tim.gaugeDis = false := by
  cases hd : (gaugesRead a b s).tim.gaugeDis with
  | false => exact .inr rfl
  | true => exact .inl (Bool.and_eq_true_iff.mp hd).1.symm

/-- The guards are judged on the readings and on whether they disagree. -/
theorem gaugesRead_atGuards (a b : BitVec 10) (s : State) : atGuards (gaugesRead a b s) =
    atGuards { s with tim := { s.tim with gaugeA := a, gaugeB := b, gaugeDis := (gaugesRead a b s).tim.gaugeDis } } := rfl

/-- A reading below its guard raises the core where R33 lets it. -/
theorem gaugeUpdate_raises (hl : atGuards (gaugesRead a b s) = false) (hm : s.sup.mode ≠ .start) (hv : s.tim.vcore < 1000)
    (hd : ∀ u, s.tim.lastRaise = some u → u + 1000 ≤ nowUs s) : (gaugeUpdate a b s).tim.vcore = s.tim.vcore + 10 := by
  have hg : GuardActs (gaugesRead a b s) := ⟨rfl, hm, hl, hd, hv⟩
  rw [gaugeUpdate_eq, floorGuard_acts hg]
  rfl

theorem gaugeUpdate_start (h : s.sup.mode = .start) : (gaugeUpdate a b s).tim.vcore = s.tim.vcore := by
  have hg : ¬GuardActs (gaugesRead a b s) := fun hg => hg.mode h
  rw [gaugeUpdate_eq, floorGuard_rests hg]
  rfl

theorem gaugeUpdate_atGuards (h : atGuards (gaugesRead a b s) = true) : (gaugeUpdate a b s).tim.vcore = s.tim.vcore := by
  rw [gaugeUpdate_eq, floorGuard_rests fun hg => absurd (h.symm.trans hg.low) (by decide)]
  rfl

theorem exec_gaugeDisagreement (h : gaugesDiffer s.tim.gaugeA.toNat s.tim.gaugeB.toNat = true) : exec .gaugeDisagreement s =
    .next (post 0x0701 0 [] { s with tim := { s.tim with gaugeDis := true, agreeSince := none, evt := setBit s.tim.evt 2 } }) :=
  congrArg Host.Outcome.next (if_pos h)

theorem exec_speedFloorLost (hv : s.tim.vcore = 1000) (hg : s.tim.gauged = true)
    (hl : s.tim.gaugeA.toNat < (floors s).1 ∨ s.tim.gaugeB.toNat < (floors s).2) : exec .speedFloorLost s =
    .next (post 0x0702 0 [] { s with tim := { s.tim with floorLost := true, guardSince := none, evt := setBit s.tim.evt 1 } }) :=
  congrArg Host.Outcome.next (if_pos (by simpa [hv, hg] using hl))

end Sys2Proof.Machine
end

section
/-! Quill enables that a fault took away stay away (R37, R205, R206). -/

namespace Sys2Proof.Machine

variable {s t : State}

/-- The Quill ticks are found faulty, with no pair enabled or closed. -/
def QuillDown (s : State) : Prop := s.saf.tickFault = true ∧ ∀ p ∈ s.saf.pairs, p.2.qen = false ∧ p.2.on = false

theorem Changes.quillDown {T : List Part} (h : Changes T s t) (hT : T.contains .saf = false := by rfl) : Keeps QuillDown s t := by
  intro k
  rw [QuillDown, h.saf hT]
  exact k

theorem openPairs_quillDown (s : State) : Keeps QuillDown s (openPairs s) := fun ⟨hf, hp⟩ => by
  refine ⟨hf, fun p h => ?_⟩
  obtain ⟨q, hq, rfl⟩ := List.mem_map.mp (List.mem_of_mem_filter h)
  obtain ⟨hqen, hon⟩ := hp q hq
  exact ⟨hqen, by simp [switchPair, hon]⟩

theorem dropQen_qen (s : State) : ∀ p ∈ (dropQen s).saf.pairs, p.2.qen = false := by
  intro p hp
  obtain ⟨q, hq, rfl⟩ := List.mem_map.mp (List.mem_of_mem_filter hp)
  obtain ⟨r, -, rfl⟩ := List.mem_map.mp (List.mem_of_mem_filter hq)
  rfl

theorem quillDown_dropQen (h : s.saf.tickFault = true) : QuillDown (dropQen s) :=
  ⟨h, fun p hp => ⟨dropQen_qen s p hp, dropQen_open s p hp⟩⟩

theorem dropQen_quillDown (s : State) : Keeps QuillDown s (dropQen s) := fun h => quillDown_dropQen h.1

theorem demandReleased_quillDown (s : State) : Keeps QuillDown s (demandReleased s) := by
  refine .each (fun n u => ?_) .refl
  unfold demandSlot slotTo
  exact .app (.ite (fun _ => .refl) (fun _ => (post_changes _ _ _ _).quillDown)) id

theorem releaseRole_quillDown (reason : Byte) (s : State) : Keeps QuillDown s (releaseRole reason s) := by
  refine .ite (fun _ h => ?_) (fun _ => .refl)
  exact (standbyDraw_changes _).quillDown rfl <| (standbyOutputs_changes _).quillDown rfl <|
    (applyOutputs_changes _).quillDown rfl <| dropQen_quillDown _ <| demandReleased_quillDown _ <|
    (discardTrim_changes _).quillDown rfl <| (onAlm_changes _ _).quillDown rfl <| (post_changes _ _ _ _).quillDown rfl <|
    (onPst_changes _ _).quillDown rfl <| (slSend_changes _ _ _).quillDown rfl h

theorem enterSafe_quillDown (s : State) : Keeps QuillDown s (enterSafe s) := fun h =>
  (startFlush_changes _).quillDown rfl <| (standbyDraw_changes _).quillDown rfl <| (applyOutputs_changes _).quillDown rfl <|
    openPairs_quillDown _ <| (onBoot_changes _ _).quillDown rfl <| (onSup_changes _ _).quillDown rfl <|
    (abandonMaint_changes _).quillDown rfl <| (stopLanes_changes _).quillDown rfl <| (discardTrim_changes _).quillDown rfl <|
    (onPst_changes _ _).quillDown rfl <| releaseRole_quillDown _ _ <| (endCommissioning_changes _).quillDown rfl h

theorem entryStart_quillDown (c : ResetClass) (cause : Byte) (s : State) : Keeps QuillDown s (entryStart c cause s) := fun h =>
  (onSup_changes _ _).quillDown rfl <| (onCyc_changes _ _).quillDown rfl <| (abandonMaint_changes _).quillDown rfl <|
    (stopLanes_changes _).quillDown rfl <| (discardTrim_changes _).quillDown rfl <| releaseRole_quillDown _ _ h

theorem entryEnd_quillDown (c : ResetClass) (s : State) : Keeps QuillDown s (entryEnd c s) := fun h => by
  have hk : QuillDown (onAlm (fun a => { a with almN := false }) (onEvr (fun e => { e with running := false })
      (startFlush (endSessions (floodSummaries (applyOutputs (dropQen s))))))) :=
    (onAlm_changes _ _).quillDown rfl <| (onEvr_changes _ _).quillDown rfl <| (startFlush_changes _).quillDown rfl <|
      (endSessions_changes _).quillDown rfl <| (floodSummaries_changes _).quillDown rfl <| (applyOutputs_changes _).quillDown rfl <|
        dropQen_quillDown _ h
  exact Keeps.ite (fun _ => .refl) (fun _ => (panelAbort_changes _).quillDown) hk

theorem enterReset_quillDown (c : ResetClass) (cause : Byte) (s : State) : Keeps QuillDown s (enterReset c cause s) := by
  unfold enterReset
  split
  · exact .refl
  · exact .ite (fun _ => (onSup_changes _ _).quillDown) (fun _ => .refl)
  · exact .ite (fun _ => (onSup_changes _ _).quillDown) (fun _ => .refl)
  · exact (entryEnd_quillDown c _).app (entryStart_quillDown c cause s)

/-- No self-diagnosis fault brings an enable back. -/
theorem selfDiag_quillDown (why : FaultReason) (s : State) : Keeps QuillDown s (selfDiag why s) := by
  refine .app (.ite (fun _ => ?_) fun _ => .ite (fun _ => enterReset_quillDown _ _ _) fun _ => .refl)
    ((diagEvent_post_changes 0x0104 0 [Config.reasonCode why] s).quillDown)
  refine .app (.ite (fun _ => ?_) fun _ => .refl) (enterSafe_quillDown _)
  exact .app (.ite (fun _ => enterReset_quillDown _ _ _) fun _ => .refl) (countFailure_changes _ _ _).quillDown

end Sys2Proof.Machine
end

section
/-! The check of the two time references (R35 to R37), and the settled statement. -/

namespace Sys2Proof.Machine

variable {s : State} {ticks marks : Nat}

/-- The timebase finds the Quill tick outside its limits (R36). -/
def quillOff (ticks : Nat) : Bool := decide (ticks < 95000 ∨ 105000 < ticks)

/-- The Quill tick finds the timebase outside its limits (R36). -/
def timebaseOff (marks : Nat) : Bool := decide (marks < 95 ∨ 105 < marks)

/-- A check that finds a reference outside its limits as the last one did (R37). -/
def foundTwice (ticks marks : Nat) (s : State) : Bool := quillOff ticks && s.tim.tbSeesQ || timebaseOff marks && s.tim.qSeesTb

/-- What a check finds, recorded (R36, R37). -/
def recorded (ticks marks : Nat) (s : State) : State :=
  { s with tim := { s.tim with
      qtick := BitVec.ofNat 32 ticks, tbSeesQ := quillOff ticks, qSeesTb := timebaseOff marks, tbRun := decide (marks ≠ 0)
      tickFault := s.tim.tickFault || foundTwice ticks marks s
      evt := orBit s.tim.evt 3 (quillOff ticks || timebaseOff marks) } }

/-- What a failed check posts (R36). -/
def failedCheck (s : State) : State := diagEvent (post 0x0703 0 [] s)

/-- Every Quill enable taken away for faulty ticks (R37). -/
def ticksLost (s : State) : State := applyOutputs (dropQen (onSaf (fun f => { f with tickFault := true }) s))

theorem timeCheck_eq (ticks marks : Nat) (s : State) : timeCheck ticks marks s =
    let t := if quillOff ticks || timebaseOff marks then failedCheck (recorded ticks marks s) else recorded ticks marks s
    if foundTwice ticks marks s then selfDiag .timeReference (ticksLost t) else t := by
  simp only [timeCheck, recorded, foundTwice, quillOff, timebaseOff, Bool.decide_or, gt_iff_lt]
  rfl

theorem foundTwice_off (h : foundTwice ticks marks s = true) : (quillOff ticks || timebaseOff marks) = true := by
  revert h
  simp only [foundTwice, Bool.or_eq_true, Bool.and_eq_true]
  exact Or.imp And.left And.left

/-- Within the limits of both references a check clears what the last one found and no more (R36). -/
theorem timeCheck_within (hq : quillOff ticks = false) (ht : timebaseOff marks = false) : timeCheck ticks marks s =
    { s with tim := { s.tim with
        qtick := BitVec.ofNat 32 ticks, tbSeesQ := quillOff ticks, qSeesTb := timebaseOff marks, tbRun := decide (marks ≠ 0) } } := by
  simp [timeCheck_eq, recorded, foundTwice, orBit, hq, ht]

theorem recorded_once (h : foundTwice ticks marks s = false) (ho : (quillOff ticks || timebaseOff marks) = true) :
    (recorded ticks marks s).tim = { s.tim with
      qtick := BitVec.ofNat 32 ticks, tbSeesQ := quillOff ticks, qSeesTb := timebaseOff marks, tbRun := decide (marks ≠ 0)
      evt := setBit s.tim.evt 3 } := by
  simp [recorded, orBit, h, ho]

theorem timeCheck_once (h : foundTwice ticks marks s = false) (ho : (quillOff ticks || timebaseOff marks) = true) :
    timeCheck ticks marks s = failedCheck (recorded ticks marks s) := by
  simp [timeCheck_eq, h, ho]

theorem timeCheck_twice (h : foundTwice ticks marks s = true) :
    timeCheck ticks marks s = selfDiag .timeReference (ticksLost (failedCheck (recorded ticks marks s))) := by
  simp [timeCheck_eq, h, foundTwice_off h]

theorem failedCheck_changes (s : State) : Changes [.pst, .evr] s (failedCheck s) := diagEvent_post_changes 0x0703 0 [] s

theorem ticksLost_changes (s : State) : Changes [.fch, .saf, .evr] s (ticksLost s) :=
  .comp (applyOutputs_changes _) rfl (.comp (dropQen_changes _) rfl ((onSaf_changes _ s).mono rfl))

theorem ticksLost_quillDown (s : State) : QuillDown (ticksLost s) :=
  (applyOutputs_changes _).quillDown rfl (quillDown_dropQen rfl)

/-- The second failure in a row, up to its self-diagnosis fault. -/
theorem secondFailure_changes (s : State) : Changes [.fch, .saf, .pst, .evr] s (ticksLost (failedCheck s)) :=
  .comp (ticksLost_changes _) rfl ((failedCheck_changes s).mono rfl)

theorem timeCheck_tickFault (h : foundTwice ticks marks s = true) : (timeCheck ticks marks s).tim.tickFault = true := by
  rw [timeCheck_twice h, (selfDiag_changes _ _).tim, (secondFailure_changes _).tim]
  simp [recorded, h]

theorem timeCheck_quillDown (h : foundTwice ticks marks s = true) : QuillDown (timeCheck ticks marks s) := by
  rw [timeCheck_twice h]
  exact selfDiag_quillDown _ _ (ticksLost_quillDown _)

theorem timeCheck_safe (h : foundTwice ticks marks s = true) (hi : inService s = true) (hf : faultFailsStart s = false) :
    (timeCheck ticks marks s).sup.mode = .safe := by
  have hc := secondFailure_changes (recorded ticks marks s)
  have hi' : inService (recorded ticks marks s) = true := hi
  have hf' : faultFailsStart (recorded ticks marks s) = false := hf
  rw [timeCheck_twice h, selfDiag_inService]
  · exact enterSafe_safe.1
  · simpa only [inService, inRun, hc.sup] using hi'
  · simpa only [faultFailsStart, hc.boot, hc.nowUs, hc.sup] using hf'

end Sys2Proof.Machine

open Sys2Proof Sys2Proof.Machine

/-- Settles O26: the gauges through what the floor guard does after a reading, the check by how often it found the same. -/
theorem gaugesAndReferences : Obligations.GaugesAndReferences := by
  refine ⟨fun a b s => ?_, fun s => ⟨fun h => ?_, fun hv hg hl => ?_⟩,
    fun ticks marks s => ⟨fun hq ht => ?_, fun h ho => ?_, fun h => ?_⟩⟩
  · obtain ⟨hA, hB, hlA, hlB, -⟩ := floorGuard_readings (gaugesRead a b s)
    refine ⟨_, rfl, hA, hB, hlA, hlB, floorGuard_vcore (gaugesRead a b s), fun d hd hl hm hv hr => ?_, gaugeUpdate_start,
      fun hs hn => ?_, gaugeUpdate_changes a b s⟩
    · subst hd
      rw [gaugeUpdate_gaugeDis, ← gaugesRead_atGuards] at hl
      exact gaugeUpdate_raises hl hm hv hr
    · refine gaugeUpdate_atGuards ?_
      rw [gaugesRead_atGuards]
      rcases gaugesRead_gaugeDis a b s with e | e <;> rw [e]
      · exact hs
      · exact hn
  · exact exec_gaugeDisagreement (decide_eq_true h)
  · exact exec_speedFloorLost hv hg hl
  · exact congrArg Host.Outcome.next (timeCheck_within hq ht)
  · rw [Bool.decide_eq_true] at ho
    have hc := failedCheck_changes (recorded ticks marks s)
    exact ⟨_, congrArg Host.Outcome.next (timeCheck_once h ho), hc.tim.trans (recorded_once h ho), hc.sup, hc.saf⟩
  · obtain ⟨hsaf, hpairs⟩ := timeCheck_quillDown h
    exact ⟨_, rfl, timeCheck_tickFault h, hsaf, hpairs, fun hi hf _ => timeCheck_safe h hi hf⟩
end

section
/-! Tables and registers (R52, R55, R57), and what a lane's word leaves where a code word follows it (R56, R61). -/

namespace Sys2Proof.Machine

variable {s : State} {l : Lane} {w : Word} {o : Blk} {k : State → State} {op : BitVec 8}

/-! ### Registers -/

theorem greg_zero (x : LaneSt) : greg x 0 = 0 := if_pos rfl

theorem gwrite_zero (v : Word) (x : LaneSt) : gwrite 0 v x = x := if_pos rfl

theorem gwrite_of_ne {n : BitVec 6} (h : n ≠ 0) (v : Word) (x : LaneSt) : gwrite n v x =
    { x with g := tput 0 x.g n.toNat v, sigReg := crc32cWords x.sigReg [n.setWidth 32, v] } := if_neg h

theorem greg_gwrite_same {n : BitVec 6} (h : n ≠ 0) (v : Word) (x : LaneSt) : greg (gwrite n v x) n = v := by
  rw [gwrite_of_ne h, greg, if_neg h, tget_tput_same]

theorem greg_gwrite_other {n m : BitVec 6} (h : n ≠ 0) (hm : m ≠ n) (v : Word) (x : LaneSt) :
    greg (gwrite n v x) m = greg x m := by
  have hi : m.toNat ≠ n.toNat := fun e => hm (BitVec.eq_of_toNat_eq e)
  simp only [gwrite_of_ne h, greg, tget_tput_other hi]

/-! ### Going on -/

theorem setLane_setLane (f g : LaneSt → LaneSt) : setLane l f (setLane l g s) = setLane l (fun x => f (g x)) s := by cases l <;> rfl

theorem setLane_congr {f g : LaneSt → LaneSt} (h : f (lane s l) = g (lane s l)) : setLane l f s = setLane l g s := by
  cases l <;> simp only [setLane, lane] at h ⊢ <;> rw [h]

theorem setLane_cyc (f : LaneSt → LaneSt) : (setLane l f s).cyc = s.cyc := (setLane_changes l f s).cyc rfl

theorem setLane_cmp (f : LaneSt → LaneSt) : (setLane l f s).cmp = s.cmp := (setLane_changes l f s).cmp rfl

theorem setLane_onCmp (f : LaneSt → LaneSt) (g : Cmp → Cmp) : setLane l f (onCmp g s) = onCmp g (setLane l f s) := by cases l <;> rfl

theorem setLane_onCyc (f : LaneSt → LaneSt) (g : Cyc → Cyc) : setLane l f (onCyc g s) = onCyc g (setLane l f s) := by cases l <;> rfl

theorem lane_onCmp (g : Cmp → Cmp) : lane (onCmp g s) l = lane s l := by cases l <;> rfl

theorem lane_onCyc (g : Cyc → Cyc) : lane (onCyc g s) l = lane s l := by cases l <;> rfl

theorem goto_inside {t : Word} (h : t.toNat < 0x40000) : goto l t s = setLane l (fun x => { x with pc := t.toNat }) s := if_pos h

/-- A lane at the next word. -/
def onward (x : LaneSt) : LaneSt := { x with pc := x.pc + 1 }

theorem next_inside (h : (lane s l).pc + 1 < 0x40000) : next l s = setLane l onward s := by
  have e : (BitVec.ofNat 32 ((lane s l).pc + 1)).toNat = (lane s l).pc + 1 := Nat.mod_eq_of_lt (by omega)
  rw [next, goto_inside (by omega)]
  exact setLane_congr (by simp only [e, onward])

theorem ready_iff : ready s l w = true ↔ fetches s l w = true ∧ (lane s l).pc + 1 < 0x40000 := by simp [ready]

theorem blockOp_ready {legal : Bool} (h : ready s l w = true) (hl : legal = true) : blockOp l w legal k s = k (counted l s) :=
  blockOp_legal (ready_iff.mp h).1 hl

theorem counted_pc : (lane (counted l s) l).pc = (lane s l).pc := by rw [counted, lane_setLane]

/-- A counted word changes its lane but not the pc, and goes on. -/
theorem next_setLane_counted {f : LaneSt → LaneSt} (hp : (lane s l).pc + 1 < 0x40000) (hf : ∀ x, (f x).pc = x.pc := by intro x; rfl) :
    next l (setLane l f (counted l s)) = setLane l (fun x => onward (f { x with ops := x.ops + 1 })) s := by
  rw [next_inside (by rwa [lane_setLane, hf, counted_pc]), setLane_setLane, counted, setLane_setLane]

theorem gwrite_pc (d : BitVec 6) (v : Word) (x : LaneSt) : (gwrite d v x).pc = x.pc := by
  unfold gwrite
  split <;> rfl

/-- Writing g[d] of a counted word and going on is what `wrote` says. -/
theorem onward_gwrite (d : BitVec 6) (v : Word) (x : LaneSt) : onward (gwrite d v { x with ops := x.ops + 1 }) = wrote d v x := by
  unfold onward wrote gwrite
  split <;> rfl

theorem next_gwrite (f : LaneSt → Word) (d : BitVec 6) (hp : (lane s l).pc + 1 < 0x40000)
    (hf : ∀ x : LaneSt, f { x with ops := x.ops + 1 } = f x := by intro x; rfl) :
    next l (setLane l (fun x => gwrite d (f x) x) (counted l s)) = setLane l (fun x => wrote d (f x) x) s := by
  rw [next_setLane_counted hp (fun x => gwrite_pc _ _ _)]
  simp only [hf, onward_gwrite]

theorem writesD_ready {legal : Bool} {f : LaneSt → Word} (h : ready s o.l (blkWord op o.d o.a o.b) = true) (hl : legal = true)
    (hf : ∀ x : LaneSt, f { x with ops := x.ops + 1 } = f x := by intro x; rfl) :
    writesD op o legal f s = setLane o.l (fun x => wrote o.d (f x) x) s := by
  rw [writesD, blockOp_ready h hl, next_gwrite f o.d (ready_iff.mp h).2 hf]

end Sys2Proof.Machine

open Sys2Proof Sys2Proof.Machine

/-- Settles O9: what a table answers after a write, and what keeps its form. -/
theorem tablesKeepTheirForm : Obligations.TablesKeepTheirForm := fun _ _ _ _ _ _ _ _ _ =>
  ⟨tget_tput_same, tget_tput_other, fun h => ⟨twf_tput h, twf_tmod h, twf_tputs h, twf_tmap h⟩⟩

/-- Settles O10: g0 discards, and another register is one entry of the lane's table. -/
theorem registerFile : Obligations.RegisterFile := fun x _ _ v =>
  ⟨greg_zero x, gwrite_zero v x, fun h => ⟨greg_gwrite_same h v x, fun hm => greg_gwrite_other h hm v x,
    by rw [gwrite_of_ne h], by rw [gwrite_of_ne h]⟩⟩
end

section
/-! The integer operations and those with an immediate (R58, R59). -/

namespace Sys2Proof.Machine

variable {s : State} {o : Blk} {op : BitVec 8} {c : Instr}

/-! ### What the words do -/

theorem exec_regReg {f g : Word → Word → Word} (he : exec c s = .next (regReg op o f s)) (hfg : ∀ a b, f a b = g a b)
    (hb : o.b.extractLsb' 0 6 = 0) (h : ready s o.l (blkWord op o.d o.a o.b) = true) :
    exec c s = .next (setLane o.l (fun x => wrote o.d (g (greg x o.a) (greg x (regB o))) x) s) := by
  rw [he, regReg, writesD_ready h (bReg_of_zero hb)]
  simp only [hfg]

theorem exec_writesD {legal : Bool} {f g : Word → Word}
    (he : exec c s = .next (writesD op o legal (fun x => f (greg x o.a)) s)) (hfg : ∀ a, f a = g a) (hl : legal = true)
    (h : ready s o.l (blkWord op o.d o.a o.b) = true) :
    exec c s = .next (setLane o.l (fun x => wrote o.d (g (greg x o.a)) x) s) := by
  rw [he, writesD_ready h hl]
  simp only [hfg]

/-! ### Results as integer arithmetic -/

theorem ofBool_eq_ite (b : Bool) : Word.ofBool b = if b = true then 1 else 0 := rfl

theorem ofBool_slt (a b : Word) : Word.ofBool (a.slt b) = if a.toInt < b.toInt then 1 else 0 := by
  simp [ofBool_eq_ite, BitVec.slt]

theorem ofBool_ult (a b : Word) : Word.ofBool (a.ult b) = if a.toNat < b.toNat then 1 else 0 := by
  simp [ofBool_eq_ite, BitVec.ult]

theorem ofBool_beq (a b : Word) : Word.ofBool (a == b) = if a = b then 1 else 0 := by simp [ofBool_eq_ite]

theorem min_eq_ite (a b : Word) : (if a.slt b then a else b) = if a.toInt < b.toInt then a else b := by simp [BitVec.slt]

/-- The words 32 to 63 of 64 bits are the quotient by 2^32. -/
theorem extractLsb'_high (x : BitVec 64) : x.extractLsb' 32 32 = BitVec.ofInt 32 (x.toInt / 2 ^ 32) := by
  apply BitVec.eq_of_toNat_eq
  have := x.isLt
  simp only [BitVec.extractLsb'_toNat, BitVec.toNat_ofInt, Nat.shiftRight_eq_div_pow, BitVec.toInt_eq_toNat_cond]
  split <;> omega

/-- A product of two words fits 64 bits. -/
theorem toInt_mul_signExtend (a b : Word) : (a.signExtend 64 * b.signExtend 64).toInt = a.toInt * b.toInt := by
  have ha : -2 ^ 31 ≤ a.toInt ∧ a.toInt < 2 ^ 31 := ⟨BitVec.le_toInt a, BitVec.toInt_lt⟩
  have hb : -2 ^ 31 ≤ b.toInt ∧ b.toInt < 2 ^ 31 := ⟨BitVec.le_toInt b, BitVec.toInt_lt⟩
  rw [BitVec.toInt_mul, BitVec.toInt_signExtend_of_le (by omega), BitVec.toInt_signExtend_of_le (by omega)]
  have hp : |a.toInt * b.toInt| ≤ 2 ^ 31 * 2 ^ 31 := by
    rw [abs_mul]
    exact mul_le_mul (abs_le.mpr ⟨ha.1, ha.2.le⟩) (abs_le.mpr ⟨hb.1, hb.2.le⟩) (abs_nonneg _) (by norm_num)
  obtain ⟨h1, h2⟩ := abs_le.mp hp
  exact Int.bmod_eq_of_le (by omega) (by omega)

theorem mulHigh_eq (a b : Word) : mulHigh a b = (a.signExtend 64 * b.signExtend 64).extractLsb' 32 32 := by
  rw [extractLsb'_high, toInt_mul_signExtend, mulHigh]

theorem add_eq_ofInt (a b : Word) : a + b = BitVec.ofInt 32 (a.toInt + b.toInt) := by
  rw [BitVec.ofInt_add, BitVec.ofInt_toInt, BitVec.ofInt_toInt]

theorem sub_eq_ofInt (a b : Word) : a - b = BitVec.ofInt 32 (a.toInt - b.toInt) := by
  apply BitVec.eq_of_toInt_eq
  rw [BitVec.toInt_sub, BitVec.toInt_ofInt]

theorem mul_eq_ofNat (a b : Word) : a * b = BitVec.ofNat 32 (a.toNat * b.toNat) := BitVec.eq_of_toNat_eq (by simp)

theorem shiftLeft_eq_ofNat (a : Word) (n : Nat) : a <<< n = BitVec.ofNat 32 (a.toNat * 2 ^ n) :=
  BitVec.eq_of_toNat_eq (by simp [Nat.shiftLeft_eq])

theorem shiftRight_eq_ofNat (a : Word) (n : Nat) : a >>> n = BitVec.ofNat 32 (a.toNat / 2 ^ n) :=
  BitVec.eq_of_toNat_eq (by
    have := Nat.lt_of_le_of_lt (Nat.div_le_self a.toNat (2 ^ n)) a.isLt
    simp [Nat.shiftRight_eq_div_pow, Nat.mod_eq_of_lt this])

theorem sshiftRight_eq_ofInt (a : Word) (n : Nat) : a.sshiftRight n = BitVec.ofInt 32 (a.toInt / 2 ^ n) := by
  rw [BitVec.sshiftRight, Int.shiftRight_eq_div_pow]
  norm_cast

/-! ### Immediates -/

theorem toInt_sext (o : Blk) : (sext o).toInt = o.b.toInt := BitVec.toInt_signExtend_of_le (by omega)

theorem zext_eq (o : Blk) : zext o = BitVec.ofNat 32 o.b.toNat := BitVec.eq_of_toNat_eq (by simp [zext])

theorem shiftedImm_eq (o : Blk) (n : Nat) : zext o <<< n = BitVec.ofNat 32 (o.b.toNat * 2 ^ n) := by
  rw [shiftLeft_eq_ofNat, zext, BitVec.toNat_setWidth_of_le (by omega)]

theorem addImm_eq (o : Blk) (a : Word) : a + sext o = BitVec.ofInt 32 (a.toInt + o.b.toInt) := by
  rw [add_eq_ofInt, toInt_sext]

theorem sltImm_eq (o : Blk) (a : Word) : Word.ofBool (a.slt (sext o)) = if a.toInt < o.b.toInt then 1 else 0 := by
  rw [ofBool_slt, toInt_sext]

theorem seqImm_eq (o : Blk) (a : Word) : Word.ofBool (a == sext o) = if a.toInt = o.b.toInt then 1 else 0 := by
  simp only [ofBool_beq, ← toInt_sext, BitVec.toInt_inj]

/-- The distance of a shift whose unused bits above it are 0. -/
theorem shiftDistance {b : BitVec 12} (h : (b.extractLsb' 5 7 == 0) = true) : b.toNat % 32 = b.toNat := by
  have hb := congrArg BitVec.toNat (beq_iff_eq.mp h)
  have := b.isLt
  simp only [BitVec.extractLsb'_toNat, Nat.shiftRight_eq_div_pow, BitVec.ofNat_eq_ofNat, BitVec.toNat_ofNat] at hb
  omega

/-! ### Division -/

theorem exec_division {f : Word → Word → Word} (he : exec c s = .next (noteDivz op o s (regReg op o f s)))
    (hb : o.b.extractLsb' 0 6 = 0) (h : ready s o.l (blkWord op o.d o.a o.b) = true) :
    let u := setLane o.l (wrote o.d (f (greg (lane s o.l) o.a) (greg (lane s o.l) (regB o)))) s
    exec c s = .next (if greg (lane s o.l) (regB o) = 0 then { u with cyc := { u.cyc with evt := setBit u.cyc.evt 1 } } else u) := by
  have e : regReg op o f s = setLane o.l (wrote o.d (f (greg (lane s o.l) o.a) (greg (lane s o.l) (regB o)))) s :=
    (writesD_ready h (bReg_of_zero hb)).trans (setLane_congr rfl)
  rw [he, e, noteDivz, (ready_iff.mp h).1, bReg_of_zero hb]
  simp only [Bool.true_and, beq_iff_eq, onCyc]

theorem divTrunc_of_ne {a b : Word} (h : b ≠ 0) : divTrunc a b = BitVec.ofInt 32 (a.toInt.tdiv b.toInt) := if_neg h

theorem remTrunc_of_ne {a b : Word} (h : b ≠ 0) : remTrunc a b = BitVec.ofInt 32 (a.toInt.tmod b.toInt) := if_neg h

end Sys2Proof.Machine

open Sys2Proof Sys2Proof.Machine

/-- Settles O11: each operation by its result, through what a word of three registers does. -/
theorem integerOperations : Obligations.IntegerOperations := by
  unfold Obligations.IntegerOperations
  simp only [List.forall_mem_cons]
  exact ⟨fun _ _ => exec_regReg rfl add_eq_ofInt, fun _ _ => exec_regReg rfl sub_eq_ofInt, fun _ _ => exec_regReg rfl mul_eq_ofNat,
    fun _ _ => exec_regReg rfl mulHigh_eq, fun _ _ => exec_regReg rfl fun _ _ => rfl, fun _ _ => exec_regReg rfl fun _ _ => rfl,
    fun _ _ => exec_regReg rfl fun _ _ => rfl, fun _ _ => exec_regReg rfl fun a b => shiftLeft_eq_ofNat a (b.toNat % 32),
    fun _ _ => exec_regReg rfl fun a b => shiftRight_eq_ofNat a (b.toNat % 32),
    fun _ _ => exec_regReg rfl fun a b => sshiftRight_eq_ofInt a (b.toNat % 32), fun _ _ => exec_regReg rfl ofBool_slt,
    fun _ _ => exec_regReg rfl ofBool_ult, fun _ _ => exec_regReg rfl ofBool_beq, fun _ _ => exec_regReg rfl min_eq_ite,
    List.forall_mem_nil _⟩

/-- Settles O12: the results by their definitions, DIVZ by the divisor. -/
theorem division : Obligations.Division := fun o s hb =>
  ⟨fun h => ⟨_, exec_division rfl hb h, fun hz => if_pos hz, fun ha hm => by rw [ha, hm]; decide, divTrunc_of_ne⟩,
    fun h => ⟨_, exec_division rfl hb h, fun hz => if_pos hz, fun ha hm => by rw [ha, hm]; decide, remTrunc_of_ne⟩⟩

/-- Settles O13: each operation by its result, the shifts with the distance that the unused bits leave. -/
theorem immediateOperations : Obligations.ImmediateOperations := by
  unfold Obligations.ImmediateOperations
  simp only [List.forall_mem_cons]
  exact ⟨fun o _ _ => exec_writesD rfl (addImm_eq o) rfl,
    fun o _ _ => exec_writesD rfl (fun a => congrArg (a &&& ·) (zext_eq o)) rfl,
    fun o _ _ => exec_writesD rfl (fun a => congrArg (a ||| ·) (zext_eq o)) rfl,
    fun o _ _ => exec_writesD rfl (fun a => congrArg (a ^^^ ·) (zext_eq o)) rfl,
    fun _ _ hb => exec_writesD rfl (fun a => (congrArg (a <<< ·) (shiftDistance hb)).trans (shiftLeft_eq_ofNat a _)) hb,
    fun _ _ hb => exec_writesD rfl (fun a => (congrArg (a >>> ·) (shiftDistance hb)).trans (shiftRight_eq_ofNat a _)) hb,
    fun _ _ hb => exec_writesD rfl (fun a => (congrArg a.sshiftRight (shiftDistance hb)).trans (sshiftRight_eq_ofInt a _)) hb,
    fun o _ _ => exec_writesD rfl (sltImm_eq o) rfl, fun o _ _ => exec_writesD rfl (seqImm_eq o) rfl,
    fun o _ ha => exec_writesD rfl (fun _ => shiftedImm_eq o 20) ha,
    fun o _ _ => exec_writesD rfl (fun a => congrArg (a ||| ·) (shiftedImm_eq o 8)) rfl, List.forall_mem_nil _⟩
end

section
/-! Control, loads and stores, the images and the cells (R54, R58, R61 to R63, R69, R82, R94, R108). -/

namespace Sys2Proof.Machine

variable {s : State} {l : Lane} {w : Word} {o : Blk} {op : BitVec 8}

/-! ### Control -/

/-- A word that only goes on, at a code word. -/
theorem goto_counted {t : Word} (h : t.toNat < 0x40000) : goto l t (counted l s) = setLane l (stepped t.toNat) s := by
  rw [goto_inside h, counted, setLane_setLane]
  rfl

theorem next_counted (h : (lane s l).pc + 1 < 0x40000) : next l (counted l s) = setLane l (stepped ((lane s l).pc + 1)) s := by
  rw [next_inside (by rwa [counted_pc]), counted, setLane_setLane]
  exact setLane_congr rfl

theorem nopWord_zero (h : fetches s l 0 = true) (hp : (lane s l).pc + 1 < 0x40000) :
    nopWord l 0 s = setLane l (stepped ((lane s l).pc + 1)) s := by
  rw [nopWord, if_pos rfl, blockOp_legal h rfl, next_counted hp]

theorem branch_taken {legal : Bool} {c : Word → Bool} (h : fetches s o.l (blkWord op o.d o.a o.b) = true) (hl : legal = true)
    (hc : c (greg (lane s o.l) o.a) = true) (ht : (BitVec.ofNat 32 ((lane s o.l).pc + 1) + o.b.signExtend 32).toNat < 0x40000) :
    branch op o legal c s = setLane o.l (stepped (BitVec.ofNat 32 ((lane s o.l).pc + 1) + o.b.signExtend 32).toNat) s := by
  rw [branch, blockOp_legal h hl]
  dsimp only
  rw [greg_counted, if_pos hc, counted_pc]
  exact goto_counted ht

theorem branch_passed {legal : Bool} {c : Word → Bool} (h : fetches s o.l (blkWord op o.d o.a o.b) = true) (hl : legal = true)
    (hc : c (greg (lane s o.l) o.a) = false) (hp : (lane s o.l).pc + 1 < 0x40000) :
    branch op o legal c s = setLane o.l (stepped ((lane s o.l).pc + 1)) s := by
  rw [branch, blockOp_legal h hl]
  dsimp only
  rw [greg_counted, hc, ← next_counted hp]
  rfl

theorem jmpOp_inside (hd : o.d = 0) (h : fetches s o.l (blkWord 0x05 o.d o.a o.b) = true)
    (ht : (greg (lane s o.l) o.a + o.b.setWidth 32).toNat < 0x40000) :
    jmpOp o s = setLane o.l (stepped (greg (lane s o.l) o.a + o.b.setWidth 32).toNat) s := by
  rw [jmpOp, blockOp_legal h (by simpa using hd), greg_counted, zext, goto_counted ht]

theorem callOp_inside (h : fetches s o.l (blkWord 0x06 o.d o.a o.b) = true)
    (ht : (greg (lane s o.l) o.a + o.b.setWidth 32).toNat < 0x40000) :
    callOp o s = setLane o.l (fun y => { wrote o.d (BitVec.ofNat 32 ((lane s o.l).pc + 1)) y with
      pc := (greg (lane s o.l) o.a + o.b.setWidth 32).toNat }) s := by
  rw [callOp, blockOp_legal h rfl]
  dsimp only
  rw [greg_counted, zext, counted_pc, goto_inside ht, setLane_setLane, counted, setLane_setLane]
  refine setLane_congr ?_
  simp only [← onward_gwrite, onward]

/-! ### Data memory -/

theorem forced_counted (t : ForceTarget) : forced (counted l s) t = forced s t := by
  simp only [forced, counted, setLane_cyc]

theorem isConst_counted (a : Nat) : isConst (counted l s) a = isConst s a := by simp only [isConst, counted, setLane_img]

theorem contains_noted (w : List Nat) (a b : Nat) :
    (if w.contains a then w else w ++ [a]).contains b = (w.contains b || b == a) := by
  split
  · by_cases e : b = a
    · subst e; simp_all
    · simp [e]
  · simp [Bool.beq_eq_decide_eq]

theorem dataPut_same (a : Nat) (v : Word) (x : LaneSt) : tget 0 (dataPut a v x).data a = v := tget_tput_same

theorem dataPut_other {a b : Nat} (h : b ≠ a) (v : Word) (x : LaneSt) : tget 0 (dataPut a v x).data b = tget 0 x.data b :=
  tget_tput_other h

theorem dataPut_wrote (a b : Nat) (v : Word) (x : LaneSt) : (dataPut a v x).wrote.contains b = (x.wrote.contains b || b == a) :=
  contains_noted x.wrote a b

theorem loadOp_inside {legal : Bool} {ea : LaneSt → Word} (h : ready s o.l (blkWord op o.d o.a o.b) = true) (hl : legal = true)
    (hea : ea (lane (counted o.l s) o.l) = w) (ha : w.toNat < dataWords) :
    loadOp op o legal ea s = setLane o.l (wrote o.d ((forced s (.tag w.toNat)).getD (tget 0 (lane s o.l).data w.toNat))) s := by
  rw [loadOp, blockOp_ready h hl]
  dsimp only
  rw [hea, if_pos ha, next_gwrite (fun x => (forced (counted o.l s) (.tag w.toNat)).getD (dataAt x w.toNat)) o.d (ready_iff.mp h).2, forced_counted]
  exact setLane_congr rfl

theorem storeOp_inside {legal : Bool} {ea : LaneSt → Word} (h : ready s o.l (blkWord op o.d o.a o.b) = true) (hl : legal = true)
    (hea : ea (lane (counted o.l s) o.l) = w) (ha : w.toNat < dataWords) (hc : isConst s w.toNat = false) :
    storeOp op o legal ea s = if (forced s (.tag w.toNat)).isSome then setLane o.l (stepped ((lane s o.l).pc + 1)) s
      else setLane o.l (fun x => stepped (x.pc + 1) (dataPut w.toNat (greg x o.d) x)) s := by
  rw [storeOp, blockOp_ready h hl]
  dsimp only
  rw [hea, if_pos ha, isConst_counted, hc, if_neg Bool.false_ne_true, forced_counted]
  split
  · exact next_counted (ready_iff.mp h).2
  · exact next_setLane_counted (ready_iff.mp h).2

theorem does_store {c : Instr} {legal : Bool} {ea : LaneSt → Word} (he : exec c s = .next (storeOp op o legal ea s)) (hl : legal = true)
    (hea : ea (lane (counted o.l s) o.l) = w) (ha : w.toNat < dataWords) (h : ready s o.l (blkWord op o.d o.a o.b) = true)
    (hc : s.img.constLo ≤ w.toNat ∧ w.toNat < s.img.constHi → False) :
    (forced s (.tag w.toNat) = none → ∃ y : LaneSt, exec c s = .next (setLane o.l (fun _ => y) s) ∧
      tget 0 y.data w.toNat = greg (lane s o.l) o.d ∧ (∀ b, b ≠ w.toNat → tget 0 y.data b = tget 0 (lane s o.l).data b) ∧
      y.wrote.contains w.toNat = true ∧ (∀ b, b ≠ w.toNat → y.wrote.contains b = (lane s o.l).wrote.contains b) ∧
      { y with data := (lane s o.l).data, wrote := (lane s o.l).wrote } = stepped ((lane s o.l).pc + 1) (lane s o.l)) ∧
    (forced s (.tag w.toNat) ≠ none → exec c s = .next (setLane o.l (stepped ((lane s o.l).pc + 1)) s)) := by
  have hc' : isConst s w.toNat = false := by simpa [isConst] using hc
  rw [he, storeOp_inside h hl hea ha hc']
  refine ⟨fun hf => ⟨stepped ((lane s o.l).pc + 1) (dataPut w.toNat (greg (lane s o.l) o.d) (lane s o.l)), ?_, dataPut_same _ _ _,
    fun _ hb => dataPut_other hb _ _, ?_, fun b hb => ?_, rfl⟩, fun hf => ?_⟩
  · rw [hf, if_neg (by simp)]
    exact congrArg Host.Outcome.next (setLane_congr rfl)
  · rw [stepped, dataPut_wrote, beq_self_eq_true, Bool.or_true]
  · rw [stepped, dataPut_wrote, beq_eq_false_iff_ne.mpr hb, Bool.or_false]
  · rw [if_pos (Option.isSome_iff_ne_none.mpr hf)]

end Sys2Proof.Machine

open Sys2Proof Sys2Proof.Machine

/-- Settles O15: each word through where it goes on. -/
theorem controlFlow : Obligations.ControlFlow := fun o s =>
  ⟨fun h hp => congrArg Host.Outcome.next (nopWord_zero h hp),
    fun hd ha h ht => congrArg Host.Outcome.next (branch_taken h (by simp [hd, ha]) rfl ht),
    fun hd h => ⟨fun hz ht => congrArg Host.Outcome.next (branch_taken h (by simp [hd]) (by simp [hz]) ht),
      fun hz hp => congrArg Host.Outcome.next (branch_passed h (by simp [hd]) (beq_eq_false_iff_ne.mpr hz) hp)⟩,
    fun hd h => ⟨fun hz ht => congrArg Host.Outcome.next (branch_taken h (by simp [hd]) (bne_iff_ne.mpr hz) ht),
      fun hz hp => congrArg Host.Outcome.next (branch_passed h (by simp [hd]) (by simp [hz]) hp)⟩,
    fun hd h ht => congrArg Host.Outcome.next (jmpOp_inside hd h ht), fun h ht => congrArg Host.Outcome.next (callOp_inside h ht)⟩

/-- Settles O16: both forms of address through what a load and a store inside data memory do. -/
theorem loadStore : Obligations.LoadStore := by
  unfold Obligations.LoadStore
  simp only [List.forall_mem_cons]
  exact ⟨fun _ _ _ ha => ⟨fun h => congrArg Host.Outcome.next (loadOp_inside h rfl offA_counted ha), does_store rfl rfl offA_counted ha⟩,
    fun _ _ hb ha => ⟨fun h => congrArg Host.Outcome.next (loadOp_inside h hb idxA_counted ha), does_store rfl hb idxA_counted ha⟩, List.forall_mem_nil _⟩
end

section
/-! The images (R62, R63, R70, R82, R108), the cells and END with their checkpoints (R58, R68, R69, R93, R94, R313). -/

namespace Sys2Proof.Machine

variable {s : State} {l : Lane} {o : Blk}

/-! ### The images -/

section
variable {n : Nat} {g : CellSt → CellSt}

theorem forced_setCell (t : ForceTarget) : forced (setCell n g s) t = forced s t := rfl

theorem setLane_setCell (f : LaneSt → LaneSt) : setLane l f (setCell n g s) = setCell n g (setLane l f s) := setLane_onCyc f _

theorem next_setCell (hp : (lane s l).pc + 1 < 0x40000) : next l (setCell n g s) = setCell n g (next l s) := by
  rw [next_inside (by rwa [setCell, lane_onCyc]), next_inside hp, setLane_setCell]
end

theorem next_onCmp {g : Cmp → Cmp} (hp : (lane s l).pc + 1 < 0x40000) : next l (onCmp g s) = onCmp g (next l s) := by
  rw [next_inside (by rwa [lane_onCmp]), next_inside hp, setLane_onCmp]

theorem inOp_inside (h : ready s o.l (blkWord 0x50 o.d o.a o.b) = true) {a : Nat} (ha : (greg (lane s o.l) o.a + o.b.setWidth 32).toNat = a)
    (hi : a < inWords) :
    let t := setLane o.l (wrote o.d ((forced s (.inp a)).getD (tget 0 (lane s o.l).inp a))) s
    inOp o s = if inputBad (lane s o.l) a then setCell ((lane s o.l).opened.headD 0) (fun c => { c with qbad := true }) t else t := by
  obtain ⟨-, hp⟩ := ready_iff.mp h
  have e : next o.l (setLane o.l (gwrite o.d ((forced s (.inp a)).getD (tget 0 (lane s o.l).inp a))) (counted o.l s)) =
      setLane o.l (wrote o.d ((forced s (.inp a)).getD (tget 0 (lane s o.l).inp a))) s :=
    next_gwrite (fun _ => (forced s (.inp a)).getD (tget 0 (lane s o.l).inp a)) o.d hp
  have hx : lane (counted o.l s) o.l = { lane s o.l with ops := (lane s o.l).ops + 1 } := by rw [counted, lane_setLane]
  have hb : inputBad (lane (counted o.l s) o.l) a = inputBad (lane s o.l) a := by rw [hx]; rfl
  rw [inOp, blockOp_ready h rfl]
  dsimp only
  rw [offA_counted, ha, if_pos hi, hb]
  split
  · rw [forced_setCell, forced_counted, setLane_setCell, next_setCell (by rwa [lane_setLane, gwrite_pc, counted_pc]), hx, e]
    rfl
  · rw [forced_counted, hx, e]

theorem otherPartition_setLane (f : LaneSt → LaneSt) (m : Lane) (a : Nat) :
    otherPartition (setLane l f s) m a = otherPartition s m a := by
  simp only [otherPartition, setLane_cmp, setLane_img]

/-- The word of an output image written, and noted. -/
def outPut (a : Nat) (v : Word) (x : LaneSt) : LaneSt :=
  { x with outs := tput 0 x.outs a v
           wrote := if x.wrote.contains (dataWords + a) then x.wrote else x.wrote ++ [dataWords + a] }

theorem outPut_wrote (a b : Nat) (v : Word) (x : LaneSt) :
    (outPut a v x).wrote.contains b = (x.wrote.contains b || b == 0x20000 + a) := contains_noted x.wrote (dataWords + a) b

theorem outOp_inside (h : ready s o.l (blkWord 0x51 o.d o.a o.b) = true) {a : Nat} (ha : (greg (lane s o.l) o.a + o.b.setWidth 32).toNat = a)
    (hi : a < outWords) :
    let v := greg (lane s o.l) o.d
    let folded := fun x : LaneSt => { stepped (x.pc + 1) x with sigOut := crc32cWords (lane s o.l).sigOut [BitVec.ofNat 32 (0x10000 + a), v] }
    outOp o s = if otherPartition s o.l a then
        onCmp (fun m => { m with xw := inc16 m.xw, evt := setBit m.evt 3 }) (setLane o.l folded s)
      else setLane o.l (fun x => outPut a v (folded x)) s := by
  obtain ⟨-, hp⟩ := ready_iff.mp h
  rw [outOp, blockOp_ready h rfl]
  dsimp only
  rw [offA_counted, ha, if_pos hi, greg_counted, otherPartition_setLane, counted, otherPartition_setLane, ← counted]
  split
  · rw [next_onCmp (by rwa [lane_setLane, foldOut, counted_pc])]
    exact congrArg (onCmp _) ((next_setLane_counted hp).trans (setLane_congr rfl))
  · rw [setLane_setLane]
    exact (next_setLane_counted hp).trans (setLane_congr rfl)

/-! ### Checkpoints -/

/-- A lane that waits for a place in the queue with its entry (R94). -/
def waits (c : Ckpt) (x : LaneSt) : LaneSt := { x with st := .waiting, blocked := some c }

/-- CKPT_WAIT noted. -/
def waitNoted (m : Cmp) : Cmp := { m with evt := setBit m.evt 2 }

theorem checkpoint_full (h : s.cmp.mode ≠ .split) (hl : 64 ≤ (laneQueue s.cmp l).length) (cell : Nat) (kind : Byte) :
    checkpoint l cell kind s = onCmp waitNoted (setLane l (waits (mkCkpt (lane s l) cell kind)) s) := by
  unfold checkpoint
  rw [if_neg h]
  exact if_neg (Nat.not_lt.mpr hl)

section
variable {f : LaneSt → LaneSt} {cell : Nat} {kind : Byte}

/-- What a checkpoint does behind a change of its lane. -/
theorem checkpoint_setLane :
    (s.cmp.mode = .split → checkpoint l cell kind (setLane l f s) = setLane l f s) ∧
    (s.cmp.mode ≠ .split → (laneQueue s.cmp l).length < 64 → checkpoint l cell kind (setLane l f s) =
      onCmp (pushCkpt l (mkCkpt (f (lane s l)) cell kind)) (setLane l f s)) ∧
    (s.cmp.mode ≠ .split → 64 ≤ (laneQueue s.cmp l).length → checkpoint l cell kind (setLane l f s) =
      onCmp waitNoted (setLane l (fun x => waits (mkCkpt (f (lane s l)) cell kind) (f x)) s)) := by
  have hm : (setLane l f s).cmp = s.cmp := setLane_cmp f
  refine ⟨fun h => checkpoint_split (by rwa [hm]) _ _ _, fun h hl => ?_, fun h hl => ?_⟩
  · rw [checkpoint_room (by rwa [hm]) (by rwa [hm]), lane_setLane]
  · rw [checkpoint_full (by rwa [hm]) (by rwa [hm]), lane_setLane, setLane_setLane]

/-- And with the pc moved on behind it. -/
theorem next_checkpoint (hf : ∀ x, (f x).pc = x.pc) (hp : (lane s l).pc + 1 < 0x40000) :
    (s.cmp.mode = .split → next l (checkpoint l cell kind (setLane l f s)) = setLane l (fun x => onward (f x)) s) ∧
    (s.cmp.mode ≠ .split → (laneQueue s.cmp l).length < 64 → next l (checkpoint l cell kind (setLane l f s)) =
      onCmp (pushCkpt l (mkCkpt (f (lane s l)) cell kind)) (setLane l (fun x => onward (f x)) s)) ∧
    (s.cmp.mode ≠ .split → 64 ≤ (laneQueue s.cmp l).length → next l (checkpoint l cell kind (setLane l f s)) =
      onCmp waitNoted (setLane l (fun x => waits (mkCkpt (f (lane s l)) cell kind) (onward (f x))) s)) := by
  obtain ⟨hs, hr, hw⟩ := checkpoint_setLane (s := s) (l := l) (f := f) (cell := cell) (kind := kind)
  refine ⟨fun h => ?_, fun h hl => ?_, fun h hl => ?_⟩
  · rw [hs h, next_inside (by rwa [lane_setLane, hf]), setLane_setLane]
  · rw [hr h hl, next_onCmp (by rwa [lane_setLane, hf]), next_inside (by rwa [lane_setLane, hf]), setLane_setLane]
  · have hp' : (lane (setLane l (fun x => waits (mkCkpt (f (lane s l)) cell kind) (f x)) s) l).pc + 1 < 0x40000 := by
      rw [lane_setLane, waits, hf]
      exact hp
    rw [hw h hl, next_onCmp hp', next_inside hp', setLane_setLane]
    rfl
end

/-! ### Cells -/

/-- A counted word that opens a cell (R69). -/
def enters (n : Nat) (x : LaneSt) : LaneSt :=
  { x with ops := x.ops + 1, opened := n :: x.opened, scanned := if x.scanned.contains n then x.scanned else x.scanned ++ [n] }

/-- A counted word that closes the innermost cell (R69). -/
def leaves (x : LaneSt) : LaneSt := { x with ops := x.ops + 1, opened := x.opened.tail }

/-- A counted word that ends the lane for the cycle (R58). -/
def ends (x : LaneSt) : LaneSt := { x with ops := x.ops + 1, st := .ended }

theorem cellIn_right (hd : o.d = 0) (hz : o.a = 0) (h : ready s o.l (blkWord 0x70 0 0 o.b) = true) (hn : o.b.toNat ≠ 0)
    (hc : o.b.toNat < s.img.cells.length) (hp : (cellCfg s o.b.toNat).parent = (lane s o.l).opened.headD 0) :
    cellIn o s = next o.l (checkpoint o.l ((lane s o.l).opened.headD 0) 1 (setLane o.l (enters o.b.toNat) s)) := by
  have hi : innermost (lane (counted o.l s) o.l) = (lane s o.l).opened.headD 0 := by rw [counted, lane_setLane]; rfl
  have hg : (counted o.l s).img = s.img := setLane_img _
  have hk : cellCfg (counted o.l s) o.b.toNat = cellCfg s o.b.toNat := by rw [cellCfg, hg, cellCfg]
  rw [cellIn, hd, hz, blockOp_ready h (by decide)]
  dsimp only
  rw [hi, hg, hk, hp, if_pos (by simp [hn, hc]), counted, setLane_setLane]
  rfl

theorem cellOut_right (hd : o.d = 0) (hz : o.a = 0) (h : ready s o.l (blkWord 0x71 0 0 o.b) = true) (hn : o.b.toNat ≠ 0)
    (hc : o.b.toNat < s.img.cells.length) (hp : (lane s o.l).opened.headD 0 = o.b.toNat) :
    cellOut o s = next o.l (checkpoint o.l o.b.toNat 2 (setLane o.l leaves s)) := by
  have hi : innermost (lane (counted o.l s) o.l) = (lane s o.l).opened.headD 0 := by rw [counted, lane_setLane]; rfl
  have hg : (counted o.l s).img = s.img := setLane_img _
  rw [cellOut, hd, hz, blockOp_ready h (by decide)]
  dsimp only
  rw [hi, hp, hg, if_pos (by simp [hn, hc]), counted, setLane_setLane]
  rfl

theorem endOp_right (hd : o.d = 0) (hz : o.a = 0) (hb : o.b = 0) (h : fetches s o.l (blkWord 0x01 0 0 0) = true)
    (ho : (lane s o.l).opened = []) : endOp o s = splitOutputs (checkpoint o.l 0 3 (setLane o.l ends s)) := by
  rw [endOp, hd, hz, hb, blockOp_legal h (by decide), if_pos (by rw [counted, lane_setLane, ho]; rfl), counted, setLane_setLane]
  rfl

theorem pushCkpt_mode (c : Ckpt) (m : Cmp) : (pushCkpt l c m).mode = m.mode := by cases l <;> rfl

theorem splitOutputs_whole (h : s.cmp.mode ≠ .split) : splitOutputs s = s := if_neg h

theorem appendResume_room {c : Ckpt} (hc : (lane s l).blocked = some c) (hl : (laneQueue s.cmp l).length < 64) : appendResume l s =
    onCmp (pushCkpt l c) (setLane l (fun x => { x with blocked := none, st := if c.kind = 3 then .ended else .running }) s) := by
  rw [appendResume, hc]
  exact if_pos hl

end Sys2Proof.Machine

open Sys2Proof Sys2Proof.Machine

/-- Settles O17: IN through the force or the word it reads, OUT through the partition of its word. -/
theorem imageAccess : Obligations.ImageAccess := fun o s => by
  refine ⟨fun h ha => congrArg Host.Outcome.next (inOp_inside h rfl ha), fun h ha => ?_⟩
  have e : exec (.out o) s = _ := congrArg Host.Outcome.next (outOp_inside h rfl ha)
  rw [e]
  generalize (greg (lane s o.l) o.a + o.b.setWidth 32).toNat = a
  refine ⟨fun hp => ⟨_, by rw [hp, if_neg Bool.false_ne_true]; exact congrArg Host.Outcome.next (setLane_congr rfl), tget_tput_same,
    fun b hb => tget_tput_other hb, ?_, fun b hb => ?_, rfl⟩, fun hp => ?_⟩
  · exact (outPut_wrote a _ (greg (lane s o.l) o.d) _).trans (by rw [beq_self_eq_true, Bool.or_true])
  · exact (outPut_wrote a b (greg (lane s o.l) o.d) _).trans (by rw [beq_eq_false_iff_ne.mpr hb, Bool.or_false]; rfl)
  · rw [hp, if_pos rfl, onCmp, setLane_cmp]

/-- Settles O18: what each word does to its lane, and what a checkpoint behind it does. -/
theorem cellsAndEnd : Obligations.CellsAndEnd := fun o s => by
  refine ⟨fun hd hz h hn hc hp => ?_, fun hd hz h hn hc hp => ?_, fun hd hz hb h ho => ?_,
    fun c hc hl => congrArg Host.Outcome.next (appendResume_room hc hl)⟩
  · have e : exec (.cellin o) s = _ := congrArg Host.Outcome.next (cellIn_right hd hz h hn hc hp)
    obtain ⟨h1, h2, h3⟩ := next_checkpoint (f := enters o.b.toNat) (cell := (lane s o.l).opened.headD 0) (kind := 1) (fun _ => rfl)
      (ready_iff.mp h).2
    exact ⟨fun hm => e.trans (congrArg Host.Outcome.next (h1 hm)), fun hm hl => e.trans (congrArg Host.Outcome.next (h2 hm hl)),
      fun hm hl => e.trans (congrArg Host.Outcome.next (h3 hm hl))⟩
  · have e : exec (.cellout o) s = _ := congrArg Host.Outcome.next (cellOut_right hd hz h hn hc hp)
    obtain ⟨h1, h2, h3⟩ := next_checkpoint (f := leaves) (cell := o.b.toNat) (kind := 2) (fun _ => rfl) (ready_iff.mp h).2
    exact ⟨fun hm => e.trans (congrArg Host.Outcome.next (h1 hm)), fun hm hl => e.trans (congrArg Host.Outcome.next (h2 hm hl)),
      fun hm hl => e.trans (congrArg Host.Outcome.next (h3 hm hl))⟩
  · have e : exec (.end_ o) s = _ := congrArg Host.Outcome.next (endOp_right hd hz hb h ho)
    obtain ⟨h1, h2, h3⟩ := checkpoint_setLane (s := s) (l := o.l) (f := ends) (cell := 0) (kind := 3)
    rw [e]
    refine ⟨fun hm => by rw [h1 hm]; rfl, fun hm hl => ?_, fun hm hl => ?_⟩
    · rw [h2 hm hl, splitOutputs_whole]
      · rfl
      · rwa [onCmp_cmp, pushCkpt_mode, setLane_cmp]
    · rw [h3 hm hl, splitOutputs_whole]
      · rfl
      · rwa [onCmp_cmp, waitNoted, setLane_cmp]
end

section
/-! The timers, counters and edge detectors (R64, R65). -/

namespace Sys2Proof.Machine

variable {s : State} {l : Lane} {d a : BitVec 6} {num : BitVec 12} {n : Nat} {stores : Bool} {k : Nat → LaneSt → LaneSt × Word}
  {r : Nat} {x : LaneSt}

/-! ### The record's word -/

/-- A block that neither reads nor changes the count of operations, nor changes the pc. -/
def KeepsCount (k : Nat → LaneSt → LaneSt × Word) : Prop :=
  ∀ r x, k r { x with ops := x.ops + 1 } = ({ (k r x).1 with ops := (k r x).1.ops + 1 }, (k r x).2) ∧ (k r x).1.pc = x.pc

theorem recBlock_inside (hk : KeepsCount k) (h : ready s l (blkWord 0x60 d a num) = true)
    (hr : (greg (lane s l) a).toNat + n ≤ dataWords)
    (hc : (stores && (span (greg (lane s l) a).toNat ((greg (lane s l) a).toNat + n)).any (isConst s)) = false) :
    let p := k (greg (lane s l) a).toNat (lane s l)
    recBlock num n l d a stores k s = setLane l (fun _ => wrote d p.2 p.1) s := by
  have hx : lane (counted l s) l = { lane s l with ops := (lane s l).ops + 1 } := by rw [counted, lane_setLane]
  have hcc : isConst (counted l s) = isConst s := funext isConst_counted
  obtain ⟨e, hpc⟩ := hk (greg (lane s l) a).toNat (lane s l)
  have hp : (lane s l).pc + 1 < 0x40000 := (ready_iff.mp h).2
  rw [recBlock, blockOp_ready h rfl]
  dsimp only
  rw [greg_counted, if_neg (Nat.not_lt.mpr hr), hcc, hc, if_neg Bool.false_ne_true, hx, e]
  dsimp only
  rw [next_inside (by rw [lane_setLane, gwrite_pc]; exact hpc ▸ hp), setLane_setLane, counted, setLane_setLane]
  simp only [onward_gwrite]

/-! ### Timers -/

theorem timerRun_again {step : Bool → Nat → TimerRec → TimerRec} {cyc : Word} {us : Nat} (h : tget 0 x.data (r + 1) = cyc) :
    timerRun step cyc us r x = (x, Word.ofBool ((tget 0 x.data (r + 2)).getLsbD 1)) := if_pos h

/-- What a timer's program makes of its record in a cycle. -/
def advanced (step : Bool → Nat → TimerRec → TimerRec) (us r : Nat) (x : LaneSt) : TimerRec :=
  step (greg x 1 != 0) (presetCycles (greg x 2) us)
    ⟨(tget 0 x.data r).toNat, (tget 0 x.data (r + 2)).getLsbD 0, (tget 0 x.data (r + 2)).getLsbD 1⟩

/-- A timer's record stored (R65). -/
def storeTimer (cyc : Word) (r : Nat) (t : TimerRec) (x : LaneSt) : LaneSt :=
  dataPut (r + 2) (Word.flag t.lastIn 0 ||| Word.flag t.q 1) (dataPut (r + 1) cyc (dataPut r (BitVec.ofNat 32 t.elapsed) x))

theorem timerRun_first {step : Bool → Nat → TimerRec → TimerRec} {cyc : Word} {us : Nat} (h : tget 0 x.data (r + 1) ≠ cyc) :
    timerRun step cyc us r x = (storeTimer cyc r (advanced step us r x) x, Word.ofBool (advanced step us r x).q) := if_neg h

theorem timerRun_keepsCount (step : Bool → Nat → TimerRec → TimerRec) (cyc : Word) (us : Nat) : KeepsCount (timerRun step cyc us) := by
  intro r x
  by_cases h : tget 0 x.data (r + 1) = cyc
  · exact ⟨by rw [timerRun_again h, timerRun_again (by exact h)], by rw [timerRun_again h]⟩
  · exact ⟨by rw [timerRun_first h, timerRun_first (by exact h)]; rfl, by rw [timerRun_first h]; rfl⟩

theorem storeTimer_words (cyc : Word) (r : Nat) (t : TimerRec) (x : LaneSt) : let y := storeTimer cyc r t x
    tget 0 y.data r = BitVec.ofNat 32 t.elapsed ∧ tget 0 y.data (r + 1) = cyc ∧
    tget 0 y.data (r + 2) = (Word.flag t.lastIn 0 ||| Word.flag t.q 1) ∧
    (∀ b, b < r ∨ r + 3 ≤ b → tget 0 y.data b = tget 0 x.data b) ∧ { y with data := x.data, wrote := x.wrote } = x := by
  refine ⟨?_, ?_, dataPut_same _ _ _, fun b hb => ?_, rfl⟩
  · rw [storeTimer, dataPut_other (by omega), dataPut_other (by omega), dataPut_same]
  · rw [storeTimer, dataPut_other (by omega), dataPut_same]
  · rw [storeTimer, dataPut_other (by omega), dataPut_other (by omega), dataPut_other (by omega)]

/-- A timer's word, executed again in the cycle and for the first time (R65). -/
theorem exec_timer {c : Instr} {step : Bool → Nat → TimerRec → TimerRec} (he : exec c s = .next (timerBlock num step l d a s))
    (h : ready s l (blkWord 0x60 d a num) = true) {r : Nat} (hr : (greg (lane s l) a).toNat = r) (hd : r + 3 ≤ dataWords)
    (hc : (span r (r + 3)).any (isConst s) = false) :
    let t := advanced step (cycleUs s) r (lane s l)
    (tget 0 (lane s l).data (r + 1) = s.cyc.count.setWidth 32 →
      exec c s = .next (setLane l (wrote d (Word.ofBool ((tget 0 (lane s l).data (r + 2)).getLsbD 1))) s)) ∧
    (tget 0 (lane s l).data (r + 1) ≠ s.cyc.count.setWidth 32 →
      ∃ y : LaneSt, exec c s = .next (setLane l (fun _ => wrote d (Word.ofBool t.q) y) s) ∧
        tget 0 y.data r = BitVec.ofNat 32 t.elapsed ∧ tget 0 y.data (r + 1) = s.cyc.count.setWidth 32 ∧
        tget 0 y.data (r + 2) = (Word.flag t.lastIn 0 ||| Word.flag t.q 1) ∧
        (∀ b, b < r ∨ r + 3 ≤ b → tget 0 y.data b = tget 0 (lane s l).data b) ∧
        { y with data := (lane s l).data, wrote := (lane s l).wrote } = lane s l) := by
  subst hr
  have e := recBlock_inside (n := 3) (stores := true) (timerRun_keepsCount step (s.cyc.count.setWidth 32) (cycleUs s)) h hd
    (by rwa [Bool.true_and])
  rw [he, timerBlock, e]
  refine ⟨fun ha => ?_, fun ha => ?_⟩
  · rw [timerRun_again ha]
    exact congrArg Host.Outcome.next (setLane_congr rfl)
  · rw [timerRun_first ha]
    exact ⟨_, rfl, storeTimer_words _ _ _ _⟩

theorem decide_lt_eq (a b : Nat) : decide (a < b) = !decide (b ≤ a) := by
  rw [← decide_not, decide_eq_decide]
  exact Nat.not_le.symm

theorem tonStep_cases (ptc : Nat) (t : TimerRec) : tonStep false ptc t = ⟨0, false, false⟩ ∧
    tonStep true ptc t = (if t.lastIn then ⟨min (t.elapsed + 1) ptc, true, decide (ptc ≤ min (t.elapsed + 1) ptc)⟩
      else ⟨0, true, decide (ptc ≤ 0)⟩) := by
  cases h : t.lastIn <;> simp [tonStep, h]

theorem tofStep_cases (ptc : Nat) (t : TimerRec) : tofStep true ptc t = ⟨0, true, true⟩ ∧
    tofStep false ptc t = (if t.q then ⟨min (t.elapsed + 1) ptc, false, !decide (ptc ≤ min (t.elapsed + 1) ptc)⟩
      else ⟨t.elapsed, false, false⟩) := by
  refine ⟨rfl, ?_⟩
  cases h : t.q
  · simp [tofStep, h]
  · simp only [tofStep, h, Bool.false_eq_true, if_false, if_true, decide_lt_eq]

theorem tpStep_on (i : Bool) (ptc : Nat) {t : TimerRec} (h : t.q = true) :
    tpStep i ptc t = ⟨t.elapsed + 1, i, !decide (ptc ≤ t.elapsed + 1)⟩ := by
  rw [tpStep, if_pos h, decide_lt_eq]

theorem tpStep_off (i : Bool) (ptc : Nat) {t : TimerRec} (h : t.q = false) :
    tpStep i ptc t = if i && !t.lastIn && decide (0 < ptc) then ⟨0, true, true⟩ else ⟨t.elapsed, i, false⟩ := by
  rw [tpStep, h, if_neg Bool.false_ne_true, ← h]
  cases i <;> rfl

/-! ### Counters and edges -/

theorem bne_top_iff (c : Word) : (c != 0x7FFFFFFF) = decide (c.toInt < 0x7FFFFFFF) := by
  have hlt : c.toInt < 2 ^ 31 := BitVec.toInt_lt
  have hi : c = 0x7FFFFFFF ↔ c.toInt = 0x7FFFFFFF := BitVec.toInt_inj.symm
  rw [Bool.eq_iff_iff, bne_iff_ne, decide_eq_true_iff, ne_eq, hi]
  omega

theorem bne_bottom_iff (c : Word) : (c != 0x80000000) = decide (-0x80000000 < c.toInt) := by
  have hle : -2 ^ 31 ≤ c.toInt := BitVec.le_toInt c
  have hi : c = 0x80000000 ↔ c.toInt = -0x80000000 := BitVec.toInt_inj.symm
  rw [Bool.eq_iff_iff, bne_iff_ne, decide_eq_true_iff, ne_eq, hi]
  omega

theorem not_slt (a b : Word) : (!a.slt b) = decide (b.toInt ≤ a.toInt) := by
  rw [BitVec.slt, ← decide_not, decide_eq_decide]
  exact not_lt

/-- A record of two words stored. -/
theorem storeTwo (r : Nat) (v w : Word) (x : LaneSt) : let y := dataPut (r + 1) w (dataPut r v x)
    tget 0 y.data r = v ∧ tget 0 y.data (r + 1) = w ∧
    (∀ k, k < r ∨ r + 2 ≤ k → tget 0 y.data k = tget 0 x.data k) ∧ { y with data := x.data, wrote := x.wrote } = x := by
  refine ⟨?_, dataPut_same _ _ _, fun b hb => ?_, rfl⟩
  · rw [dataPut_other (by omega), dataPut_same]
  · rw [dataPut_other (by omega), dataPut_other (by omega)]

theorem storeOne (r : Nat) (v : Word) (x : LaneSt) : let y := dataPut r v x
    tget 0 y.data r = v ∧ (∀ k, k ≠ r → tget 0 y.data k = tget 0 x.data k) ∧ { y with data := x.data, wrote := x.wrote } = x :=
  ⟨dataPut_same _ _ _, fun _ hb => dataPut_other hb _ _, rfl⟩

/-- A count raised by an edge, as R65 says it. -/
def raised (e : Bool) (c : Word) : Word := if e && decide (c.toInt < 0x7FFFFFFF) then c + 1 else c

/-- A count lowered by an edge, as R65 says it. -/
def lowered (e : Bool) (c : Word) : Word := if e && decide (-0x80000000 < c.toInt) then c - 1 else c

theorem countUp_eq : countUp = raised := by
  funext e c
  rw [countUp, bne_top_iff, raised]

theorem countDown_eq : countDown = lowered := by
  funext e c
  rw [countDown, bne_bottom_iff, lowered]

theorem ctuRun_eq (r : Nat) (x : LaneSt) :
    let c := if greg x 2 != 0 then 0 else raised (greg x 1 != 0 && !(tget 0 x.data (r + 1)).getLsbD 0) (tget 0 x.data r)
    ctuRun r x = (dataPut (r + 1) (Word.ofBool (greg x 1 != 0)) (dataPut r c x), Word.ofBool (decide ((greg x 3).toInt ≤ c.toInt))) := by
  simp only [ctuRun, countUp_eq, not_slt]
  rfl

theorem ctdRun_eq (r : Nat) (x : LaneSt) :
    let c := if greg x 2 != 0 then greg x 3 else lowered (greg x 1 != 0 && !(tget 0 x.data (r + 1)).getLsbD 0) (tget 0 x.data r)
    ctdRun r x = (dataPut (r + 1) (Word.ofBool (greg x 1 != 0)) (dataPut r c x), Word.ofBool (decide (c.toInt ≤ 0))) := by
  simp only [ctdRun, countDown_eq, not_slt]
  rfl

theorem ctudRun_eq (r : Nat) (x : LaneSt) :
    let i := greg x 1
    let last := tget 0 x.data (r + 1)
    let c := lowered (i.getLsbD 1 && !last.getLsbD 1) (raised (i.getLsbD 0 && !last.getLsbD 0)
      (if i.getLsbD 3 then greg x 2 else if i.getLsbD 2 then 0 else tget 0 x.data r))
    ctudRun r x = (dataPut (r + 1) (i &&& 3) (dataPut r c x),
      Word.flag (decide ((greg x 2).toInt ≤ c.toInt)) 0 ||| Word.flag (decide (c.toInt ≤ 0)) 1) := by
  simp only [ctudRun, countUp_eq, countDown_eq, not_slt]
  rfl

theorem exec_counter {c : Instr} {k : Nat → LaneSt → LaneSt × Word} (he : exec c s = .next (recBlock num n l d a true k s))
    (hk : KeepsCount k) (h : ready s l (blkWord 0x60 d a num) = true) (hr : (greg (lane s l) a).toNat + n ≤ dataWords)
    (hc : (span (greg (lane s l) a).toNat ((greg (lane s l) a).toNat + n)).any (isConst s) = false) :
    exec c s = .next (setLane l (fun x => wrote d (k (greg (lane s l) a).toNat x).2 (k (greg (lane s l) a).toNat x).1) s) := by
  rw [he, recBlock_inside hk h hr (by rwa [Bool.true_and])]
  exact congrArg Host.Outcome.next (setLane_congr rfl)

end Sys2Proof.Machine

open Sys2Proof Sys2Proof.Machine

/-- Settles O20: the words through what a block does to its record, the programs case by case. -/
theorem timersAndCounters : Obligations.TimersAndCounters := by
  refine ⟨?_, fun ptc t => ?_, ?_, fun r x => ?_, fun l d a s h hr => ?_⟩
  · simp only [List.forall_mem_cons]
    exact ⟨fun _ _ _ _ h => exec_timer rfl h rfl, fun _ _ _ _ h => exec_timer rfl h rfl, fun _ _ _ _ h => exec_timer rfl h rfl, List.forall_mem_nil _⟩
  · obtain ⟨h1, h2⟩ := tonStep_cases ptc t
    obtain ⟨h3, h4⟩ := tofStep_cases ptc t
    exact ⟨h1, h2, h3, h4, fun i => tpStep_on i ptc, fun i => tpStep_off i ptc⟩
  · simp only [List.forall_mem_cons]
    exact ⟨fun _ _ _ _ => exec_counter rfl fun _ _ => ⟨rfl, rfl⟩, fun _ _ _ _ => exec_counter rfl fun _ _ => ⟨rfl, rfl⟩,
      fun _ _ _ _ => exec_counter rfl fun _ _ => ⟨rfl, rfl⟩, fun _ _ _ _ => exec_counter rfl fun _ _ => ⟨rfl, rfl⟩,
      fun _ _ _ _ => exec_counter rfl fun _ _ => ⟨rfl, rfl⟩, List.forall_mem_nil _⟩
  · refine ⟨⟨?_, ?_⟩, ⟨?_, ?_⟩, ⟨?_, ?_⟩, ⟨storeOne _ _ _, rfl⟩, storeOne _ _ _, rfl⟩
    · rw [ctuRun_eq]; exact storeTwo _ _ _ _
    · rw [ctuRun_eq]; rfl
    · rw [ctdRun_eq]; exact storeTwo _ _ _ _
    · rw [ctdRun_eq]; rfl
    · rw [ctudRun_eq]; exact storeTwo _ _ _ _
    · rw [ctudRun_eq]; rfl
  · refine (congrArg Host.Outcome.next (recBlock_inside (fun _ _ => ⟨rfl, rfl⟩) h hr rfl)).trans ?_
    exact congrArg Host.Outcome.next (setLane_congr rfl)
end

section
/-! The Modbus TCP server (R335, R336, R441). -/

namespace Sys2Proof.Machine

variable {h : MbHdr} {s : State} {c : Instr} {fc code : Byte} {e : MbEntry} {n : Nat} {a q : BitVec 16} {inputs : Bool}

/-! ### Exceptions -/

theorem mbServes_iff (conn : Nat) : mbServes s conn = true ↔ (netUp s = true ∧ s.sup.mode ≠ .decaf) ∧ conn ∈ s.pnw.mbConns := by
  simp [mbServes]

/-- A command that answers an exception, counts it and puts nothing in line (R336). -/
def Excepts (h : MbHdr) (c : Instr) (fc code : Byte) (s : State) : Prop :=
  Does c s (fun t => t.sent = s.sent ++ [.lan (lanSeq s) (.modbus h [fc ||| 0x80, code])] ∧ t.pnw.mbExc = inc16 s.pnw.mbExc ∧
    t.cyc.sched = s.cyc.sched)

theorem excepts (he : exec c s = .next (mbException h fc code s)) : Excepts h c fc code s := ⟨_, he, rfl, rfl, rfl⟩

theorem connectionOpen_taken {conn : Nat} (hs : netUp s = true ∧ s.sup.mode ≠ .decaf) (hn : conn ∉ s.pnw.mbConns)
    (hl : s.pnw.mbConns.length < 4) :
    exec (.modbusConnectionOpen conn) s = .next (onPnw (fun p => { p with mbConns := p.mbConns ++ [conn] }) s) :=
  congrArg Host.Outcome.next (if_pos (by simp [hs, hn, hl]))

theorem connectionOpen_refused {conn : Nat}
    (hn : ¬(netUp s = true ∧ s.sup.mode ≠ .decaf) ∨ conn ∈ s.pnw.mbConns ∨ 4 ≤ s.pnw.mbConns.length) :
    exec (.modbusConnectionOpen conn) s = .next s := by
  refine congrArg Host.Outcome.next (if_neg ?_)
  simp only [Bool.and_eq_true, bne_iff_ne, decide_eq_true_iff, Bool.not_eq_true', List.contains_eq_mem, decide_eq_false_iff_not]
  rintro ⟨⟨hs, hl⟩, hc⟩
  rcases hn with hn | hn | hn
  · exact hn hs
  · exact hc hn
  · omega

/-! ### Reads -/

theorem mbReadReq_closed (hs : mbServes s h.conn = false) : mbReadReq h fc inputs a q s = s := if_pos (by simp [hs])

/-- The table that a read goes through (R335). -/
def mbTable (inputs : Bool) (s : State) : List (Nat × MbEntry) := if inputs then s.img.net.inputs else s.img.net.holding

theorem mbReadReq_quantity (hs : mbServes s h.conn = true) (hq : q = 0 ∨ 125 < q.toNat) :
    mbReadReq h fc inputs a q s = mbException h fc 3 s := by
  rw [mbReadReq, hs, if_neg (by decide), if_pos (by simpa using hq)]

theorem mbReadReq_quantityRight (hs : mbServes s h.conn = true) (h1 : 1 ≤ q.toNat) (hm : q.toNat ≤ 125) :
    mbReadReq h fc inputs a q s = match mbRead inputs (mbTable inputs s) q.toNat a.toNat s with
      | none => mbException h fc 2 s
      | some (vs, s) => emitLan (.modbus h ([fc, BitVec.ofNat 8 (2 * vs.length)] ++ vs.flatMap be16)) s := by
  have hz : q ≠ 0 := by rintro rfl; exact absurd h1 (by decide)
  have hq : ¬(decide (q = 0) || decide (q.toNat > 125)) = true := by
    rw [Bool.or_eq_true, decide_eq_true_iff, decide_eq_true_iff]
    exact not_or.mpr ⟨hz, by omega⟩
  rw [mbReadReq, hs, if_neg (by decide), if_neg hq]
  rfl

theorem mbReadReq_none (hs : mbServes s h.conn = true) (h1 : 1 ≤ q.toNat) (hm : q.toNat ≤ 125)
    (hr : mbRead inputs (mbTable inputs s) q.toNat a.toNat s = none) : mbReadReq h fc inputs a q s = mbException h fc 2 s := by
  rw [mbReadReq_quantityRight hs h1 hm, hr]

theorem mbReadReq_some (hs : mbServes s h.conn = true) (h1 : 1 ≤ q.toNat) (hm : q.toNat ≤ 125) {vs : List (BitVec 16)}
    (hr : mbRead inputs (mbTable inputs s) q.toNat a.toNat s = some (vs, s)) : mbReadReq h fc inputs a q s =
      emitLan (.modbus h ([fc, BitVec.ofNat 8 (2 * vs.length)] ++ vs.flatMap be16)) s := by
  rw [mbReadReq_quantityRight hs h1 hm, hr]

section
variable {tbl : List (Nat × MbEntry)}

/-- A register of a table is none of the fixed input registers. -/
theorem mbRead_mapped (hi : inputs = true → 16 ≤ n) : (inputs && decide (n < 16)) = false := by
  cases inputs
  · rfl
  · simpa using hi rfl

theorem mbRead_unmapped (hi : inputs = true → 16 ≤ n) (ht : iget tbl n = none) {k : Nat} (hk : 1 ≤ k) :
    mbRead inputs tbl k n s = none := by
  obtain ⟨k, rfl⟩ := Nat.exists_eq_add_of_le' hk
  rw [mbRead.eq_def]
  dsimp only
  rw [mbRead_mapped hi, if_neg Bool.false_ne_true, ht]

/-- An entry of a table read: one register, two, or half of two (R335). -/
theorem mbRead_entry {v : Word} (hi : inputs = true → 16 ≤ n) (ht : iget tbl n = some e) (hv : mbValue e s = some (v, s)) :
    (e.wide = false → mbRead inputs tbl 1 n s = some ([v.extractLsb' 0 16], s)) ∧
    (e.wide = true → mbRead inputs tbl 2 n s = some ([v.extractLsb' 16 16, v.extractLsb' 0 16], s) ∧ mbRead inputs tbl 1 n s = none) := by
  refine ⟨fun hw => ?_, fun hw => ⟨?_, ?_⟩⟩ <;> unfold mbRead <;>
    simp only [mbRead_mapped hi, Bool.false_eq_true, if_false, ht, hv, hw, if_true]
  all_goals rfl

/-- A 32-bit input register below 0x000A is never read by halves (R335). -/
theorem mbRead_fixedHalf (hn : n < 10) : mbRead true tbl 1 n s = none := by
  rw [mbRead.eq_def]
  dsimp only
  rw [if_pos (by simp; omega), if_neg (by omega)]
  cases (iget mbFixed n).join <;> rfl

theorem mbRead_fixedZero (hl : 10 ≤ n) (hn : n < 16) : mbRead true tbl 1 n s = some ([0], s) := by
  rw [mbRead.eq_def]
  dsimp only
  rw [if_pos (by simp; omega), if_pos (by omega)]
  rfl

theorem objRead_count (w : Who) (s : State) : objRead w 0x1000C s = some (s.cyc.count.setWidth 32, s) := objRead_rv rfl

theorem mbRead_count : mbRead true tbl 2 8 s = some ([(s.cyc.count.setWidth 32).extractLsb' 16 16, (s.cyc.count.setWidth 32).extractLsb' 0 16], s) := by
  have hf : (iget mbFixed 8).join = some 0x1000C := rfl
  rw [mbRead.eq_def]
  dsimp only
  rw [if_pos (by decide), if_neg (by omega), hf]
  dsimp only
  rw [objRead_count]
  rfl
end

theorem extractLsb'_within {m k : Nat} (v : BitVec k) {i j w : Nat} (h : j + w ≤ m) :
    (v.extractLsb' i m).extractLsb' j w = v.extractLsb' (i + j) w := by
  ext p hp
  simp only [BitVec.getElem_extractLsb', BitVec.getLsbD_extractLsb', Nat.add_assoc]
  simp
  omega

theorem extractLsb'_setWidth {k m : Nat} (v : BitVec k) {i w : Nat} (h : i + w ≤ m) :
    (v.setWidth m).extractLsb' i w = v.extractLsb' i w := by
  ext p hp
  simp only [BitVec.getElem_extractLsb', BitVec.getLsbD_setWidth]
  simp
  omega

theorem be16_extract {k : Nat} (v : BitVec k) (i : Nat) : be16 (v.extractLsb' i 16) = [v.extractLsb' (i + 8) 8, v.extractLsb' i 8] := by
  rw [be16, extractLsb'_within v (by decide), extractLsb'_within v (by decide)]
  rfl

/-! ### Reads answered -/

section
variable {rd : BitVec 16 → Instr}

/-- A tag that a register of a table names, read by its registers and by half of them. -/
theorem does_readTag (hs : mbServes s h.conn = true) (he : ∀ q, exec (rd q) s = .next (mbReadReq h fc inputs a q s))
    (hi : inputs = true → 16 ≤ a.toNat) (ht : iget (mbTable inputs s) a.toNat = some e) (hg : e.isTag = true)
    (hx : isTag s e.addr = true) :
    let v := tagValue s e.addr
    (e.wide = false → Does (rd 1) s (fun t => t = emit (.lan (lanSeq s) (.modbus h [fc, 2, v.extractLsb' 8 8, v.extractLsb' 0 8])) s)) ∧
    (e.wide = true → Does (rd 2) s (fun t => t = emit (.lan (lanSeq s) (.modbus h
        [fc, 4, v.extractLsb' 24 8, v.extractLsb' 16 8, v.extractLsb' 8 8, v.extractLsb' 0 8])) s) ∧ Excepts h (rd 1) fc 2 s) := by
  have hv : mbValue e s = some (tagValue s e.addr, s) := by rw [mbValue, if_pos hg, if_pos hx]
  obtain ⟨hn, hw⟩ := mbRead_entry hi ht hv
  refine ⟨fun h1 => ⟨_, he 1, ?_⟩, fun h2 => ⟨⟨_, he 2, ?_⟩, excepts ((he 1).trans ?_)⟩⟩
  · rw [mbReadReq_some hs (by decide) (by decide) (hn h1)]
    simp only [List.flatMap_cons, List.flatMap_nil, be16_extract]
    rfl
  · rw [mbReadReq_some hs (by decide) (by decide) (hw h2).1]
    simp only [List.flatMap_cons, List.flatMap_nil, be16_extract]
    rfl
  · rw [mbReadReq_none hs (by decide) (by decide) (hw h2).2]

theorem excepts_quantity (hs : mbServes s h.conn = true) (he : exec c s = .next (mbReadReq h fc inputs a q s))
    (hq : q = 0 ∨ 125 < q.toNat) : Excepts h c fc 3 s := excepts (he.trans (congrArg Host.Outcome.next (mbReadReq_quantity hs hq)))

theorem excepts_read (hs : mbServes s h.conn = true) (he : exec c s = .next (mbReadReq h fc inputs a q s))
    (h1 : 1 ≤ q.toNat) (hm : q.toNat ≤ 125) (hr : mbRead inputs (mbTable inputs s) q.toNat a.toNat s = none) : Excepts h c fc 2 s :=
  excepts (he.trans (congrArg Host.Outcome.next (mbReadReq_none hs h1 hm hr)))
end

/-! ### The registers of a write -/

theorem mbEntries_unmapped {v : BitVec 16} (vs : List (BitVec 16)) (ht : iget s.img.net.holding n = none) :
    mbEntries s n (v :: vs) = none := by
  rw [mbEntries, ht]

theorem mbEntries_half (v : BitVec 16) (ht : iget s.img.net.holding n = some e) (hw : e.wide = true) : mbEntries s n [v] = none := by
  rw [mbEntries, ht]
  exact if_pos hw

theorem mbEntries_narrow (v : BitVec 16) (ht : iget s.img.net.holding n = some e) (hw : e.wide = false) :
    mbEntries s n [v] = some [(e, v.setWidth 32)] := by
  rw [mbEntries, ht]
  exact if_neg (by simp [hw])

theorem mbEntries_wide (v w : BitVec 16) (ht : iget s.img.net.holding n = some e) (hw : e.wide = true) :
    mbEntries s n [v, w] = some [(e, v ++ w)] := by
  rw [mbEntries, ht]
  exact if_pos hw

/-! ### Writes -/

section
variable {v : Word} {vals : List (BitVec 16)} {ok : List Byte}

/-- An entry not writable, or a safety-related variable (R336). -/
theorem mbWriteAll_forbidden (hf : ¬(s.img.net.mbWr = true ∧ e.writable = true) ∨ (e.isTag = true ∧ safetyTarget s (.tag e.addr) = true)) :
    mbWriteAll [(e, v)] s = refuse stAccess s := by
  refine if_pos ?_
  rcases hf with hf | ⟨hg, hx⟩
  · cases hm : s.img.net.mbWr <;> cases hw : e.writable <;> simp_all
  · simp [hg, hx]

/-- The value write that a writable tag's entry is. -/
def mbChange (e : MbEntry) (v : Word) : List OlcEntry := [{ tag := e.addr, value := v, const := false }]

theorem mbWriteAll_tag (ha : s.img.net.mbWr = true ∧ e.writable = true) (hg : e.isTag = true) (hl : s.img.varLo ≤ e.addr)
    (hh : e.addr < s.img.varHi) (hx : safetyTarget s (.tag e.addr) = false) (hr : inRun s = true)
    (hc : (constTags s []).length ≤ 1024) :
    mbWriteAll [(e, v)] s = doneBoth noReq (.change (mbChange e v)) (schedule (.change (mbChange e v))) s := by
  have hok : ∀ x ∈ mbChange e v, EntryOk s x := by
    simp [mbChange, EntryOk, hl, hh, hx]
  have hb : batchBad s (mbChange e v) = none :=
    batchBad_none Nat.le.refl (by simp [mbChange]) hr hok (by rwa [constTags_values (by simp [mbChange])])
  have hw : varWrite noReq (mbChange e v) s = doneBoth noReq (.change (mbChange e v)) (schedule (.change (mbChange e v))) s := by
    rw [varWrite, if_neg (by simp [mbChange, isTag, hl, hh]), hb]
  have hfst : (varWrite noReq (mbChange e v) s).1 = stOk := by rw [hw]; rfl
  have hregs : mbWriteRegs [] s = done s := rfl
  simp only [mbWriteAll, ha.1, ha.2, hg, hx, List.filter_cons, List.filter_nil, List.map_cons, List.map_nil, List.any_cons, List.any_nil,
    Bool.not_true, Bool.or_false, Bool.false_eq_true, if_false, if_true, hregs]
  exact (if_neg (by simp [done])).trans ((if_neg (by simp)).trans ((if_pos hfst).trans hw))

theorem mbWriteReq_unmapped (hs : mbEntries s a.toNat vals = none) : mbWriteReq h fc a vals ok s = mbException h fc 2 s := by
  rw [mbWriteReq, hs]

theorem mbWriteReq_forbidden (hs : mbEntries s a.toNat vals = some [(e, v)])
    (hf : ¬(s.img.net.mbWr = true ∧ e.writable = true) ∨ (e.isTag = true ∧ safetyTarget s (.tag e.addr) = true)) :
    mbWriteReq h fc a vals ok s = mbException h fc 4 s := by
  rw [mbWriteReq, hs]
  dsimp only
  rw [mbWriteAll_forbidden hf]
  exact if_pos (show stAccess ≠ stOk by decide)

theorem forwardBoth_schedule {f : FwdCmd} {x : T0Act} (hf : fwdAct f = some x) (o : Origin) :
    let t := forwardBoth o f (schedule x) s
    t.sent = (forwardNow f s).sent ∧ t.pst.unconfirmed = s.pst.unconfirmed ++ [(f, o, nowUs s)] ∧
      t.cyc.sched = s.cyc.sched ++ [⟨nowUs s, x, false⟩] := by
  have he : forwardNow f (schedule x s) = { forwardNow f s with
      pnw := s.pnw, cyc := { s.cyc with sched := s.cyc.sched ++ [⟨nowUs s, x, false⟩] } } := forwardNow_with f s.pnw _ s
  have ht : (forwardNow f s).tim = s.tim := (forwardNow_changes f s).tim rfl
  simp only [forwardBoth, hf, Option.isSome_some, if_true, he]
  simp [nowUs, ht]

theorem answeredLast_append (o : Origin) (l : List (FwdCmd × Origin × Nat)) (f : FwdCmd) (o' : Origin) (n : Nat) :
    answeredLast o (l ++ [(f, o', n)]) = l ++ [(f, o, n)] := by
  simp [answeredLast]

theorem excepts_write (he : exec c s = .next (mbWriteReq h fc a vals ok s)) (hw : mbWriteReq h fc a vals ok s = mbException h fc code s) :
    Excepts h c fc code s := excepts (he.trans (congrArg Host.Outcome.next hw))

theorem exec_writeSingle (hs : mbServes s h.conn = true) (a v : BitVec 16) : exec (.modbusWriteSingle h a v) s =
    .next (mbWriteReq h 6 a [v] [6, a.extractLsb' 8 8, a.extractLsb' 0 8, v.extractLsb' 8 8, v.extractLsb' 0 8] s) :=
  congrArg Host.Outcome.next (if_pos hs)

/-- Whether a write of several registers is one by its quantity, its byte count and its values (R336). -/
def wrongWrite (q : BitVec 16) (n : Nat) (vs : List (BitVec 16)) : Bool :=
  q = 0 || q.toNat > 123 || n ≠ 2 * q.toNat || vs.length ≠ q.toNat

theorem exec_writeMultiple {n : Nat} {vs : List (BitVec 16)} (hs : mbServes s h.conn = true) (hw : wrongWrite q n vs = false) :
    exec (.modbusWriteMultiple h a q n vs) s = .next (mbWriteReq h 16 a vs
      [16, a.extractLsb' 8 8, a.extractLsb' 0 8, q.extractLsb' 8 8, q.extractLsb' 0 8] s) :=
  congrArg Host.Outcome.next ((if_neg (by simp [hs])).trans (if_neg (by exact Bool.not_eq_true _ ▸ hw)))

theorem mbWriteMultiple_wrong {n : Nat} {vs : List (BitVec 16)} (hs : mbServes s h.conn = true)
    (hq : q = 0 ∨ 123 < q.toNat ∨ n ≠ 2 * q.toNat ∨ vs.length ≠ q.toNat) :
    exec (.modbusWriteMultiple h a q n vs) s = .next (mbException h 16 3 s) :=
  congrArg Host.Outcome.next ((if_neg (by simp [hs])).trans (if_pos (by simpa [or_assoc] using hq)))

/-- A writable tag's write (R78, R333, R336). -/
theorem does_mbWrite {f : FwdCmd} {x : T0Act} {l : List (MbEntry × Word)} (he : exec c s = .next (mbWriteReq h fc a vals ok s))
    (hs : mbEntries s a.toNat vals = some l) (hf : fwdAct f = some x) (hw : mbWriteAll l s = doneBoth noReq f (schedule x) s) :
    Does c s (fun t => t.cyc.sched = s.cyc.sched ++ [⟨nowUs s, x, false⟩] ∧
      (paired s = false → t.sent = s.sent ++ [.lan (lanSeq s) (.modbus h ok)]) ∧
      (paired s = true → t.sent = (forwardNow f s).sent ∧ t.pst.unconfirmed = s.pst.unconfirmed ++ [(f, .modbus h ok, nowUs s)])) := by
  rw [mbWriteReq, hs] at he
  dsimp only at he
  rw [hw, doneBoth] at he
  cases hp : paired s with
  | false =>
    rw [hp, if_neg Bool.false_ne_true, done, if_neg (by simp), if_neg (by exact Nat.lt_irrefl _)] at he
    exact ⟨_, he, rfl, fun _ => rfl, fun h => absurd h Bool.false_ne_true⟩
  | true =>
    obtain ⟨hsent, hu, hsched⟩ := forwardBoth_schedule (s := s) hf (.sess noReq [])
    rw [hp, if_pos rfl, done, if_neg (by simp), if_pos (by simp [hu])] at he
    exact ⟨_, he, hsched, fun h => absurd h (by decide), fun _ => ⟨hsent, by rw [onPst_pst, hu, answeredLast_append]⟩⟩
end

end Sys2Proof.Machine

open Sys2Proof Sys2Proof.Machine

/-- Settles O52: connections by the server's list, reads through the run of their registers, writes through their entries. -/
theorem modbus : Obligations.Modbus := by
  intro h s
  refine ⟨fun hs hh hl => ⟨_, connectionOpen_taken hs hh hl, rfl⟩, connectionOpen_refused, ⟨_, rfl, by simp, fun c hc hne => by simp [hc, hne], rfl⟩, fun hn a b => ?_,
    fun hs hh => ?_⟩
  · have hn' : mbServes s h.conn = false := by rw [← Bool.not_eq_true, mbServes_iff]; exact hn
    exact ⟨congrArg Host.Outcome.next (mbReadReq_closed hn'), congrArg Host.Outcome.next (mbReadReq_closed hn'),
      congrArg Host.Outcome.next (if_neg (by simp [hn'])), fun n vs => congrArg Host.Outcome.next (if_pos (by simp [hn'])),
      fun fc => congrArg Host.Outcome.next (if_neg (by simp [hn']))⟩
  · have hm : mbServes s h.conn = true := (mbServes_iff _).mpr ⟨hs, hh⟩
    refine ⟨fun fc => excepts (congrArg Host.Outcome.next (if_pos hm)),
      fun a q hq => ⟨excepts_quantity hm rfl hq, excepts_quantity hm rfl hq⟩, fun a e => ?_,
      fun a => ⟨fun ht q h1 h2 => excepts_read (inputs := false) hm rfl h1 h2 (mbRead_unmapped (fun hi => absurd hi Bool.false_ne_true) ht h1),
        fun h16 ht q h1 h2 => excepts_read (inputs := true) hm rfl h1 h2 (mbRead_unmapped (fun _ => h16) ht h1),
        fun hl _ => excepts_read hm rfl (by decide) (by decide) (mbRead_fixedHalf hl),
        fun hl _ => excepts_read hm rfl (by decide) (by decide) (mbRead_fixedHalf hl),
        fun h10 h16 => ⟨_, rfl, mbReadReq_some (q := 1) hm (by decide) (by decide) (mbRead_fixedZero h10 h16)⟩⟩,
      ⟨_, rfl, ?_⟩, fun a v => ⟨fun ht => ?_, fun e ht => ⟨fun hw => ?_, fun hw hn => ?_, fun hw hg hx => ?_, fun hw ha hg => ?_,
        fun w hw ha hg => ?_⟩⟩, fun a q n vs hq => ?_⟩
    · simp only [List.forall_mem_cons]
      refine ⟨fun ht hg hx => does_readTag hm (fun _ => rfl) (fun hi => absurd hi Bool.false_ne_true) ht hg hx, fun ht hg hx => ?_, List.forall_mem_nil _⟩
      have h16 : 16 ≤ a.toNat := by
        by_contra hlt
        rw [if_pos (by omega)] at ht
        exact absurd ht (by simp)
      rw [if_neg (by omega)] at ht
      exact does_readTag hm (fun _ => rfl) (fun _ => h16) ht hg hx
    · rw [mbReadReq_some hm (by decide) (by decide) mbRead_count]
      simp only [List.flatMap_cons, List.flatMap_nil, be16_extract, extractLsb'_setWidth, Nat.reduceAdd, Nat.reduceLeDiff]
      rfl
    · exact excepts_write (exec_writeSingle hm a v) (mbWriteReq_unmapped (mbEntries_unmapped [] ht))
    · exact excepts_write (exec_writeSingle hm a v) (mbWriteReq_unmapped (mbEntries_half v ht hw))
    · exact excepts_write (exec_writeSingle hm a v) (mbWriteReq_forbidden (mbEntries_narrow v ht hw) (.inl hn))
    · exact excepts_write (exec_writeSingle hm a v) (mbWriteReq_forbidden (mbEntries_narrow v ht hw) (.inr ⟨hg, hx⟩))
    · obtain ⟨hg, hlo, hhi, hx, hr, hc⟩ := hg
      exact does_mbWrite (exec_writeSingle hm a v) (mbEntries_narrow v ht hw) rfl (mbWriteAll_tag ha hg hlo hhi hx hr hc)
    · obtain ⟨hg, hlo, hhi, hx, hr, hc⟩ := hg
      exact does_mbWrite (exec_writeMultiple hm rfl) (mbEntries_wide v w ht hw) rfl (mbWriteAll_tag ha hg hlo hhi hx hr hc)
    · exact excepts (mbWriteMultiple_wrong hm hq)

end

section
/-! What goes out on a station link port, and what arrives there (R295, R300, R301). -/

namespace Sys2Proof.Machine

variable {s t u : State} {p q : Nat} {e : Emit} {h : SlHdr} {k bad : State → State}

/-! ### Ports -/

theorem slPort_setSlPort (p : Nat) (f : SlPort → SlPort) (s : State) : slPort (setSlPort p f s) p = f (slPort s p) := tget_tmod_same

/-- Two states in which a port sends alike: its injector, what is held, its sequence, the module at its far end, the own slot. -/
structure SendsAlike (p : Nat) (s t : State) : Prop where
  inj : (slPort t p).inj = (slPort s p).inj
  held : (slPort t p).injHeld = (slPort s p).injHeld
  seq : (slPort t p).txSeq = (slPort s p).txSeq
  peers : t.pst.peers = s.pst.peers
  slot : t.pst.slot = s.pst.slot

theorem SendsAlike.trans (h : SendsAlike p s t) (k : SendsAlike p t u) : SendsAlike p s u :=
  ⟨k.inj.trans h.inj, k.held.trans h.held, k.seq.trans h.seq, k.peers.trans h.peers, k.slot.trans h.slot⟩

theorem SendsAlike.of_pst (hp : t.pst.ports = s.pst.ports) (hq : t.pst.peers = s.pst.peers) (hs : t.pst.slot = s.pst.slot) :
    SendsAlike p s t := by
  constructor <;> simp only [slPort, hp, hq, hs]

theorem Changes.sendsAlike {T : List Part} (h : Changes T s t) (hT : T.contains .pst = false) : SendsAlike p s t :=
  .of_pst (congrArg Pst.ports (h.pst hT)) (congrArg Pst.peers (h.pst hT)) (congrArg Pst.slot (h.pst hT))

theorem sendsAlike_onPst {f : Pst → Pst} (hp : (f s.pst).ports = s.pst.ports := by rfl) (hq : (f s.pst).peers = s.pst.peers := by rfl)
    (hs : (f s.pst).slot = s.pst.slot := by rfl) : SendsAlike p s (onPst f s) := .of_pst hp hq hs

theorem SendsAlike.passes (h : SendsAlike p s t) : passes t p = passes s p := by
  simp only [Machine.passes, portPeer, h.inj, h.held, h.peers, h.slot]

theorem SendsAlike.onLink (h : SendsAlike p s t) (e : Emit) : onLink p t e = onLink p s e := by
  simp only [Machine.onLink, h.seq, h.slot]

/-! ### Sending -/

/-- A frame sent changes its port alone of the station links. -/
theorem slSend_pst (p : Nat) (e : Emit) (s : State) : (slSend p e s).pst = { s.pst with ports := (slSend p e s).pst.ports } := by
  unfold slSend
  split <;> rfl

theorem slSend_errCheck (p : Nat) (e : Emit) (s : State) : (slPort (slSend p e s) p).errCheck = (slPort s p).errCheck := by
  unfold slSend slFrame
  split
  · rfl
  · exact (congrArg SlPort.errCheck (slPort_setSlPort p _ s)).trans rfl

theorem slSend_passes (h : passes s p = true) (e : Emit) : (slSend p e s).sent = s.sent ++ [onLink p s e] := by
  obtain ⟨⟨hi, hh⟩, hm⟩ := by simpa [passes] using h
  have ht : throughInj (slPort s p).inj (slPort s p).injBit (slPort s p).injSent (slPort s p).injHeld 0
      (.link p s.pst.slot (slPort s p).txSeq e) = ([.link p s.pst.slot (slPort s p).txSeq e], none, false) := by
    simp [throughInj, injHow, hi, hh]
  rw [slSend, hm, if_neg Bool.false_ne_true, slFrame, ht]
  rfl

/-- The same from a state in which the port sends alike. -/
theorem SendsAlike.sent (h : SendsAlike p s t) (hs : t.sent = u.sent) (hp : Machine.passes s p = true) (e : Emit) :
    (slSend p e t).sent = u.sent ++ [Machine.onLink p s e] := by
  rw [slSend_passes (h.passes.trans hp), h.onLink, hs]

/-! ### Receiving -/

theorem slReceive_taken (ht : takenIn p h s = true) : slReceive p h k bad s = k (taken p h s) := by
  obtain ⟨hc, hw⟩ := by simpa [takenIn] using ht
  obtain ⟨x, hx⟩ := Option.isSome_iff_exists.mp hw
  rw [slReceive, hc, if_neg (by simp), taken, hx]

theorem slReceive_wrong (hc : h.check ≠ slCheck s p h) :
    slReceive p h k bad s = bad (setSlPort p (fun x => { x with errCheck := inc16 x.errCheck }) (checkFailed 1 s)) :=
  if_pos (by simpa using hc)

theorem noticeGap_pst (old : SlPort) (p : Nat) (s : State) : (noticeGap old p s).pst =
    { s.pst with ports := (noticeGap old p s).pst.ports, requested := (noticeGap old p s).pst.requested } := by
  unfold noticeGap
  split
  · rw [slSend_pst]
    rfl
  · rfl

theorem taken_pst (p : Nat) (h : SlHdr) (s : State) : (taken p h s).pst =
    { s.pst with ports := (taken p h s).pst.ports, requested := (taken p h s).pst.requested } := by
  unfold taken
  split
  · rfl
  · rw [noticeGap_pst]
    rfl

theorem taken_changes (p : Nat) (h : SlHdr) (s : State) : Changes [.pst, .sent] s (taken p h s) := by
  unfold taken
  split
  · exact .refl
  · exact .comp (noticeGap_changes _ _ _) rfl ((setSlPort_changes _ _ _).mono rfl)

theorem slWindow_tx {w : Word} {x y : SlPort} (hw : slWindow w x = some y) :
    y.inj = x.inj ∧ y.injHeld = x.injHeld ∧ y.txSeq = x.txSeq := by
  unfold slWindow at hw
  split at hw
  · cases hw
    exact ⟨rfl, rfl, rfl⟩
  · dsimp only at hw
    split at hw
    · cases hw
      exact ⟨rfl, rfl, rfl⟩
    · split at hw
      · cases hw
        exact ⟨rfl, rfl, rfl⟩
      · cases hw

theorem slTook_pst (p : Nat) (s : State) : (slTook p s).pst = { s.pst with ports := (slTook p s).pst.ports } := by
  unfold slTook
  dsimp only
  split <;> rfl

theorem slTook_sendsAlike (p : Nat) (s : State) : SendsAlike p s (slTook p s) := by
  unfold slTook
  dsimp only
  split
  · exact (Changes.refl (T := [])).sendsAlike rfl
  · rename_i x hx
    obtain ⟨hi, hh, hq⟩ := slWindow_tx hx
    constructor
    · exact (congrArg SlPort.inj (slPort_setSlPort p _ s)).trans hi
    · exact (congrArg SlPort.injHeld (slPort_setSlPort p _ s)).trans hh
    · exact (congrArg SlPort.txSeq (slPort_setSlPort p _ s)).trans hq
    · rfl
    · rfl

end Sys2Proof.Machine
end

section
/-! The Carafe link: deltas staged, asked for again, applied and lost; acknowledgements and repeats (R287 to R290, R300). -/

namespace Sys2Proof.Machine

variable {s t u : State} {x : CarafeRx} {g : Staging} {seq : Word}

/-! ### Staging -/

theorem takesDeltas_iff : takesDeltas s = true ↔ s.pst.member = true ∧ s.pst.ownDrive = false ∧ inService s = true := by
  simp [takesDeltas, and_assoc]

theorem inService_of_sup (h : t.sup = s.sup) : inService t = inService s := by simp only [inService, inRun, h]

theorem takesDeltas_taken (p : Nat) (h : SlHdr) (s : State) : takesDeltas (taken p h s) = takesDeltas s := by
  rw [takesDeltas, taken_pst, inService_of_sup ((taken_changes p h s).sup rfl)]
  rfl

/-- Whether a frame is of another cycle than the delta that stands staged and the one last applied (R289). -/
def freshDelta (x : CarafeRx) (s : State) : Bool :=
  s.pst.staging.all (fun o => o.frame.cycle != x.frame.cycle) && s.pst.applied != some x.frame.cycle

theorem freshDelta_iff : freshDelta x s = true ↔
    (∀ o, s.pst.staging = some o → o.frame.cycle ≠ x.frame.cycle) ∧ s.pst.applied ≠ some x.frame.cycle := by
  cases h : s.pst.staging <;> simp [freshDelta, h]

/-- The state with a frame staged (R289). -/
def staged (seq : Word) (x : CarafeRx) (s : State) : State :=
  onPst (fun p => { p with staging := some (stage seq x s.pst.staging), requested := p.requested && !freshDelta x s
                           copying := p.copying || x.frame.join }) s

theorem stageFrame_kept (ht : takesDeltas s = true) (hg : stagedWhole (stage seq x s.pst.staging) = false ∨
    stagedGood (stage seq x s.pst.staging) = true) : let t := stageFrame seq x s
    t.pst.staging = some (stage seq x s.pst.staging) ∧ t.sent = s.sent ∧ t.pst.copying = (s.pst.copying || x.frame.join) ∧
      t.pst.requested = (s.pst.requested && !freshDelta x s) ∧ Changes [.pst] s t := by
  have hc : Changes [.pst] s (staged seq x s) := onPst_changes _ s
  have e : stageFrame seq x s = staged seq x s ∨ ∃ n, stageFrame seq x s = noteTime n (staged seq x s) := by
    unfold stageFrame
    rw [ht]
    rcases hg with hg | hg <;> simp only [hg]
    · exact .inl rfl
    · cases stagedWhole (stage seq x s.pst.staging)
      · exact .inl rfl
      · exact .inr ⟨_, rfl⟩
  rcases e with e | ⟨n, e⟩ <;> rw [e]
  · exact ⟨rfl, rfl, rfl, rfl, hc⟩
  · exact ⟨rfl, rfl, rfl, rfl, .comp (onPst_changes _ _) rfl hc⟩

theorem stageFrame_bad (ht : takesDeltas s = true) (hw : stagedWhole (stage seq x s.pst.staging) = true)
    (hg : stagedGood (stage seq x s.pst.staging) = false) :
    stageFrame seq x s = askAgain (onPst (fun p => { p with staging := none }) (staged seq x s)) := by
  unfold stageFrame
  rw [ht]
  simp only [hw, hg]
  rfl

theorem askAgain_first (ht : takesDeltas s = true) (hr : s.pst.requested = false) :
    askAgain s = slSend 0 (.slAck true) (onPst (fun p => { p with requested := true }) s) := if_pos (by simp [ht, hr])

theorem askAgain_asked (hr : s.pst.requested = true) : askAgain s = s := if_neg (by simp [hr])

/-- A standby that asks for a delta again has asked, once (R289). -/
theorem askAgain_asks (ht : takesDeltas s = true) : (askAgain s).pst.requested = true ∧ (askAgain s).pst.staging = s.pst.staging ∧
    (slPort (askAgain s) 0).errCheck = (slPort s 0).errCheck ∧
    (passes s 0 = true → (askAgain s).sent = if s.pst.requested then s.sent else s.sent ++ [onLink 0 s (.slAck true)]) := by
  cases hr : s.pst.requested with
  | true =>
    rw [askAgain_asked hr]
    exact ⟨hr, rfl, rfl, fun _ => rfl⟩
  | false =>
    rw [askAgain_first ht hr, slSend_errCheck, slSend_pst]
    exact ⟨rfl, rfl, rfl, fun hp => SendsAlike.sent sendsAlike_onPst rfl hp _⟩

/-- A delta of one frame (R287). -/
theorem stage_single (hf : x.frame.final = true) (hb : x.frame.base = seq) : stagedWhole (stage seq x none) = true ∧
    (stage seq x none).frame = x.frame ∧ (stagedGood (stage seq x none) = true ↔ x.crc = crc32c crcInit x.after) := by
  subst hb
  simp [stage, stagedWhole, stagedGood, hf]

/-! ### Applying -/

theorem tget_tputs_mem {α : Type} [DecidableEq α] {d : α} {l : List (Nat × α)} (hl : (l.map (·.1)).Nodup) {i : Nat} {v : α}
    (h : (i, v) ∈ l) (t : Tab α) : tget d (tputs d t l) i = v := by
  induction l generalizing t with
  | nil => exact absurd h List.not_mem_nil
  | cons p l ih =>
    obtain ⟨hn, hl⟩ := List.nodup_cons.mp hl
    rcases List.mem_cons.mp h with rfl | h
    · exact (tget_tputs_other (fun q hq e => hn (List.mem_map.mpr ⟨q, hq, e⟩)) (tput d t i v)).trans tget_tput_same
    · exact ih hl h _

theorem tget_tputs_notMem {α : Type} [DecidableEq α] {d : α} {l : List (Nat × α)} {i : Nat} (h : i ∉ l.map (·.1)) (t : Tab α) :
    tget d (tputs d t l) i = tget d t i :=
  tget_tputs_other (fun p hp e => h (List.mem_map.mpr ⟨p, hp, e⟩)) t

theorem regain_pst (s : State) : (regain s).pst =
    { s.pst with ready := (regain s).pst.ready, qualCycles := (regain s).pst.qualCycles, qualSince := (regain s).pst.qualSince } := by
  unfold regain
  split
  · rw [(standbyDraw_changes _).pst rfl]
    rfl
  · rfl

theorem regain_sendsAlike (p : Nat) (s : State) : SendsAlike p s (regain s) :=
  .of_pst (by rw [regain_pst]) (by rw [regain_pst]) (by rw [regain_pst])

theorem adoptDelta_words {f : CarafeFrame} (hs : s.pst.shadow = false) : let t := adoptDelta f s
    t.nibA.data = tputs 0 s.nibA.data f.data ∧ t.nibB.data = tputs 0 s.nibB.data f.data ∧ t.cyc.outImg = tputs 0 s.cyc.outImg f.outw ∧
    t.cyc.count = f.cycle ∧ t.pst = { s.pst with targets := f.targets } := by
  unfold adoptDelta
  rw [hs, if_neg Bool.false_ne_true]
  have hc : ∀ u : State, Changes [.lpe, .frg] u (forEach f.bases adoptStn (forEach f.loops adoptLoop u)) := fun u =>
    .each (fun a v => (adoptStn_changes a v).mono rfl) (.each (fun a v => (adoptLoop_changes a v).mono rfl) .refl)
  exact ⟨congrArg LaneSt.data ((hc _).nibA rfl), congrArg LaneSt.data ((hc _).nibB rfl), congrArg Cyc.outImg ((hc _).cyc rfl), congrArg Cyc.count ((hc _).cyc rfl),
    congrArg (fun p : Pst => { p with targets := f.targets }) ((hc _).pst rfl)⟩

theorem adoptCarry_nil (s : State) : adoptCarry [] s = s := by
  simp [adoptCarry, iget, forEach]

/-- A delta without a join record taken over and noted (R287, R289). -/
def appliedDelta (f : CarafeFrame) (s : State) : State :=
  onPst (fun p => { p with applied := some f.cycle, applTick := p.toTick, staging := none, requested := false
                           joinNeed := stillNeeded f (adoptDelta f s) }) (noteSize f.length (adoptDelta f s))

theorem deltaApply_whole (ht : takesDeltas s = true) (hs : s.pst.staging = some g) (hw : stagedWhole g = true)
    (hg : stagedGood g = true) (hj : g.frame.joinRec = none) (hc : g.frame.carry = []) :
    deltaApply s = slSend 0 (.slAck false) (regain (appliedDelta g.frame s)) := by
  obtain ⟨hm, ho, -⟩ := takesDeltas_iff.mp ht
  unfold deltaApply
  rw [hs]
  simp only [hw, hg, ho, hm, hj, hc, adoptCarry_nil]
  rfl

theorem deltaApply_not (hs : ∀ g, s.pst.staging = some g → stagedWhole g = false ∨ stagedGood g = false) : deltaApply s = s := by
  unfold deltaApply
  split
  · rfl
  · rename_i g hg
    refine if_pos ?_
    rcases hs g hg with h | h <;> simp [h]

/-- A whole delta applied in one piece and acknowledged (R289). -/
theorem deltaApply_applies (ht : takesDeltas s = true) (hs : s.pst.staging = some g) (hw : stagedWhole g = true)
    (hg : stagedGood g = true) (hj : g.frame.joinRec = none) (hc : g.frame.carry = []) (hd : (g.frame.data.map (·.1)).Nodup)
    (ho : (g.frame.outw.map (·.1)).Nodup) (hsh : s.pst.shadow = false) : let f := g.frame
    let t := deltaApply s
    t.pst.applied = some f.cycle ∧ t.pst.staging = none ∧ t.cyc.count = f.cycle ∧ t.pst.targets = f.targets ∧
      (passes s 0 = true → t.sent = s.sent ++ [onLink 0 s (.slAck false)]) ∧
      (∀ a v, (a, v) ∈ f.data → dataAt t.nibA a = v ∧ dataAt t.nibB a = v) ∧
      (∀ a, a ∉ f.data.map (·.1) → dataAt t.nibA a = dataAt s.nibA a) ∧
      (∀ o v, (o, v) ∈ f.outw → tget 0 t.cyc.outImg o = v) ∧
      (∀ o, o ∉ f.outw.map (·.1) → tget 0 t.cyc.outImg o = tget 0 s.cyc.outImg o) := by
  obtain ⟨hA, hB, hout, hcount, hpst⟩ := adoptDelta_words (f := g.frame) hsh
  have hr : Changes [.pst, .dsp, .sent] (adoptDelta g.frame s) (deltaApply s) := by
    rw [deltaApply_whole ht hs hw hg hj hc]
    exact .comp (slSend_changes _ _ _) rfl (.comp (regain_changes _) rfl (.comp (onPst_changes _ _) rfl ((onPst_changes _ _).mono rfl)))
  have ha : SendsAlike 0 s (regain (appliedDelta g.frame s)) := .trans (t := adoptDelta g.frame s)
    (.of_pst (by rw [hpst]) (by rw [hpst]) (by rw [hpst])) (.trans (t := appliedDelta g.frame s) (.of_pst rfl rfl rfl) (regain_sendsAlike 0 _))
  have hp : (deltaApply s).pst = { (appliedDelta g.frame s).pst with
      ready := (deltaApply s).pst.ready, qualCycles := (deltaApply s).pst.qualCycles, qualSince := (deltaApply s).pst.qualSince
      ports := (deltaApply s).pst.ports } := by
    rw [deltaApply_whole ht hs hw hg hj hc, slSend_pst, regain_pst]
  have hsent : (regain (appliedDelta g.frame s)).sent = s.sent :=
    ((regain_changes _).sent rfl).trans ((adoptDelta_changes g.frame s).sent rfl)
  refine ⟨by rw [hp]; rfl, by rw [hp]; rfl, by rw [hr.cyc rfl, hcount], by rw [hp]; exact congrArg Pst.targets hpst,
    fun hpass => ?_, fun a v h => ?_, fun a h => ?_, fun a v h => ?_, fun a h => ?_⟩
  · rw [deltaApply_whole ht hs hw hg hj hc]
    exact ha.sent hsent hpass _
  · rw [hr.nibA rfl, hr.nibB rfl, dataAt, dataAt, hA, hB]
    exact ⟨tget_tputs_mem hd h _, tget_tputs_mem hd h _⟩
  · rw [hr.nibA rfl, dataAt, hA, tget_tputs_notMem h]
    rfl
  · rw [hr.cyc rfl, hout, tget_tputs_mem ho h]
  · rw [hr.cyc rfl, hout, tget_tputs_notMem h]

/-! ### Losing a delta, the join copy -/

theorem requalify_pst (s : State) : (requalify s).pst = { s.pst with qualCycles := 0, qualSince := nowUs s } := rfl

theorem notReady_pst (s : State) : (notReady s).pst = { s.pst with ready := false, qualCycles := 0, qualSince := nowUs s } := by
  rw [notReady, (standbyDraw_changes _).pst rfl]
  rfl

/-- A delta that was not complete in time (R289). -/
theorem exec_deltaLost (ht : takesDeltas s = true) (hc : copyFed s = true) : exec .deltaLost s =
    .next (notReady (post 0x0A04 0 [0] (onPst (fun p => { p with
      evt := setBit p.evt 3, joined := false, wantJoin := true, joinNeed := none, staging := none, requested := false }) s))) := by
  obtain ⟨hm, ho, hi⟩ := takesDeltas_iff.mp ht
  exact congrArg Host.Outcome.next (if_pos (by simp [hm, ho, hi, hc]))

theorem exec_joinCopyComplete (ht : takesDeltas s = true) (hw : s.pst.wantJoin = true) (hn : s.pst.joinNeed = some [])
    (hs : s.pst.staging = none) : exec .joinCopyComplete s = .next (standbyDraw (requalify (onPst (fun p => { p with
      joined := true, wantJoin := false, copying := false, ready := (slPort s 0).up, instep := p.instep || s.img.plan.mode == .twin }) s))) := by
  obtain ⟨hm, ho, hi⟩ := takesDeltas_iff.mp ht
  exact congrArg Host.Outcome.next (if_pos (by simp [hm, ho, hi, hw, hn, hs]))

theorem exec_joinCopyIncomplete (h : s.pst.wantJoin = false ∨ s.pst.joinNeed ≠ some []) : exec .joinCopyComplete s = .next s := by
  refine congrArg Host.Outcome.next (if_neg ?_)
  rcases h with h | h <;> simp [h]

/-! ### Acknowledgements and repeats -/

theorem repeatCarafe_due {f : CarafeFrame} (hl : s.pst.lastSent = some f) (hd : s.pst.ackDue = true) :
    repeatCarafe s = slSend 0 (carafeNow f s) s := by
  rw [repeatCarafe, hl]
  exact if_pos hd

theorem repeatCarafe_acked (hd : s.pst.ackDue = false) : repeatCarafe s = s := by
  unfold repeatCarafe
  split
  · exact if_neg (by simp [hd])
  · rfl

theorem sat16_eq_min (n : Nat) : sat16 n = BitVec.ofNat 16 (min n 0xFFFF) := by
  unfold sat16
  split
  · rw [min_eq_right (by omega)]
    rfl
  · rw [min_eq_left (by omega)]

theorem carafeAcked_done (s : State) : let t := carafeAcked false s
    t.pst.ackDue = false ∧ t.pst.ackCycle = s.pst.lastSent.map (·.cycle) ∧
      (s.pst.ackDue = true → t.pst.copyTLast = sat16 (nowUs s - s.pst.sentUs)) ∧ t.sent = s.sent := by
  unfold carafeAcked
  cases hd : s.pst.ackDue
  · exact ⟨rfl, rfl, fun h => absurd h Bool.false_ne_true, rfl⟩
  · exact ⟨rfl, rfl, fun _ => rfl, rfl⟩

end Sys2Proof.Machine
end

section
/-! The standby's self-test (R285), Twin-step digests (R292). -/

namespace Sys2Proof.Machine

variable {s t u : State} {v : Verdict} {x : SelfTest}

/-! ### The self-test -/

theorem bistOn_standby (hm : s.pst.member = true) (hi : inService s = true) (hr : roleShown s = .standby) : bistOn s = true := by
  simp [bistOn, hm, hi, hr]

theorem scrubStep_passDone (hb : bistOn s = true) (hp : powered s = true) :
    scrubStep .passDone s = onPst (fun p => { p with bistPasses := inc16 p.bistPasses }) s := by
  rw [scrubStep, hp, hb]
  rfl

theorem scrubStep_corrected (hb : bistOn s = true) (hp : powered s = true) :
    scrubStep .corrected s = requalify (memoryFound .corrected (onPst (fun p => { p with bistCorr := inc8 p.bistCorr }) s)) := by
  rw [scrubStep, hp, hb]
  rfl

theorem scrubStep_uncorrectable (hb : bistOn s = true) (hp : powered s = true) : scrubStep .uncorrectable s = selfDiag .memory s := by
  unfold scrubStep
  rw [hp, hb]
  rfl

theorem scrubStep_clean : scrubStep .clean s = s := by
  unfold scrubStep
  split
  · rfl
  · split <;> rfl

/-- A fault found in service that fails no start is Safe (R23). -/
theorem selfDiag_safe {why : FaultReason} (hi : inService s = true) (hf : faultFailsStart s = false) : (selfDiag why s).sup.mode = .safe := by
  rw [selfDiag_inService hi hf]
  exact enterSafe_safe.1

theorem faultFailsStart_congr (hb : t.boot = s.boot) (hs : t.sup = s.sup) (ht : t.tim = s.tim) : faultFailsStart t = faultFailsStart s := by
  rw [faultFailsStart, faultFailsStart, nowUs, nowUs, hb, hs, ht]

/-- The registers that the ROM sequence leaves in both lanes. -/
def romRegisters (s : State) : Tab Word := tputs 0 [] ((span 1 64).map (fun n => (n, Config.freeWord (s.free + n))))

/-- The module after the ROM sequence (R285). -/
def romRun (s : State) : State :=
  { s with free := s.free + 64, nibA := { s.nibA with g := romRegisters s }, nibB := { s.nibB with g := romRegisters s } }

theorem bistSequence_on (hb : bistOn s = true) (hc : s.img.plan.mode = .copy) (v : Verdict) : bistSequence v s =
    if v = .equal || v = .diverged then romRun s else checkedVerdict v ((freeVal (romRun s)).setWidth 12) (takeFree (romRun s)) := by
  unfold bistSequence
  rw [hb, hc]
  rfl

theorem greg_romRun (n : BitVec 6) : greg (romRun s).nibA n = greg (romRun s).nibB n := rfl

/-- A verdict that is neither "equal" nor a divergence is a fault (R97). -/
theorem checkedVerdict_safe (he : v ≠ .equal) (hd : v ≠ .diverged) (hi : inService s = true) (hf : faultFailsStart s = false)
    (cell : BitVec 12) : (checkedVerdict v cell s).sup.mode = .safe := by
  cases v with
  | equal => exact absurd rfl he
  | diverged => exact absurd rfl hd
  | _ => exact selfDiag_safe hi hf

theorem bistInjection_on (hb : bistOn s = true) (hc : s.img.plan.mode = .copy) (x : SelfTest) : exec (.bistInjectionTest x) s =
    .next (if testPasses x then recordTest x s else selfDiag .selfTest (recordTest x s)) := by
  exact congrArg Host.Outcome.next (if_pos (by simp [hb, hc]))

theorem recordTest_passed (h : testPasses x = true) : (recordTest x s).cmp.testDone = true ∧ (recordTest x s).cmp.testPass = true := by
  have hl : (testFailures x).isEmpty = true := h
  simp only [recordTest, onCmp_cmp, hl, and_self]

/-! ### Twin-step digests -/

theorem twinDigest_congr (hn : t.nibA = s.nibA) (hc : t.cyc = s.cyc) (hi : t.img = s.img) (hs : t.sup = s.sup) : twinDigest t = twinDigest s := by
  unfold twinDigest cellSt chanMode chanCfg
  rw [hn, hc, hi, hs]

/-- Whether a module compares digests (R292). -/
def comparesDigests (s : State) : Prop :=
  s.img.plan.mode = .twin ∧ paired s = true ∧ inRun s = true ∧ s.pst.mixed = false

theorem twinStep_equal (h : comparesDigests s) : twinStep (twinDigest s) s =
    onPst (fun p => { p with instep := true }) (slSend 0 (.twinDigest (twinDigest s)) s) := by
  obtain ⟨hm, hp, hr, hx⟩ := h
  unfold twinStep
  rw [if_neg (by simp [hm, hp, hr, hx])]
  exact if_pos rfl

theorem twinStep_differs {peer : Word} (h : comparesDigests s) (hd : twinDigest s ≠ peer) : twinStep peer s =
    let t := onPst (fun p => { p with instep := false, evt := setBit p.evt 4 }) (slSend 0 (.twinDigest (twinDigest s)) s)
    if t.pst.ownDrive then t
    else notReady (post 0x0A04 0 [1] (onPst (fun p => { p with joined := false, wantJoin := true, joinNeed := none }) (pauseLanes t))) := by
  obtain ⟨hm, hp, hr, hx⟩ := h
  unfold twinStep
  rw [if_neg (by simp [hm, hp, hr, hx])]
  exact if_neg hd

/-- A standby out of step stops its lanes and joins again; the active module goes on (R292). -/
theorem twinStep_parts {peer : Word} (h : comparesDigests s) (hd : twinDigest s ≠ peer) : let t := twinStep peer s
    t.pst.instep = false ∧
      (s.pst.ownDrive = false → t.pst.joined = false ∧ t.pst.ready = false ∧ t.nibA.st = .stopped ∧ t.nibB.st = .stopped) ∧
      (s.pst.ownDrive = true → t.nibA = s.nibA) := by
  have hs := slSend_changes 0 (.twinDigest (twinDigest s)) s
  have ho : (slSend 0 (.twinDigest (twinDigest s)) s).pst.ownDrive = s.pst.ownDrive := by rw [slSend_pst]
  rw [twinStep_differs h hd]
  dsimp only
  rw [onPst_pst, ho]
  cases s.pst.ownDrive with
  | true => exact ⟨rfl, fun h => absurd h (by decide), fun _ => hs.nibA rfl⟩
  | false =>
    rw [if_neg Bool.false_ne_true, notReady_pst, (notReady_changes _).nibA rfl, (notReady_changes _).nibB rfl, (post_changes _ _ _ _).nibA rfl,
      (post_changes _ _ _ _).nibB rfl, (post_changes _ _ _ _).pst rfl]
    exact ⟨rfl, fun _ => ⟨rfl, rfl, rfl, rfl⟩, fun h => absurd h Bool.false_ne_true⟩

end Sys2Proof.Machine
end

section
/-! Forwarded commands in the partner, and their confirmation in the module that accepted them (R79, R333). -/

namespace Sys2Proof.Machine

variable {s t u v : State} {a : T0Act} {c d : FwdCmd} {o : Origin} {y : SelfTest} {us : Int} {l : List (FwdCmd × Origin × Nat)} {n : Nat}

/-! ### In the partner -/

theorem fromStation_taken (p : Nat) (h : SlHdr) : fromStation us (taken p h s) = fromStation us s := by
  rw [fromStation, taken_pst]
  rfl

theorem exec_forwardedCommand {x : SlRx Forwarded} (ht : takenIn 0 x.hdr s = true) : exec (.forwardedCommand x y) s =
    .next (forwardedCommand x.body.cmd x.body.stationUs y (taken 0 x.hdr s)) :=
  congrArg Host.Outcome.next (slReceive_taken ht)

theorem forwardedCommand_message (h : isMessage c = true) : forwardedCommand c us y s = forwardEffect c s := if_pos h

theorem forwardedCommand_unserved (hm : isMessage c = false) (h : s.pst.member = false ∨ inService s = false) :
    forwardedCommand c us y s = s := by
  unfold forwardedCommand
  rw [if_neg (by simp [hm]), if_pos (by rcases h with h | h <;> simp [h])]

theorem forwardedCommand_alarm (hs : s.pst.member = true ∧ inService s = true) (w : Word) (p : AlmPath) (seen : Option (List Nat)) :
    forwardedCommand (.alarm w p seen) us y s = slSend 0 (.confirm (.alarm w p seen)) (almQueue { path := p, word := w, seen := seen } s) := by
  have hm : isMessage (.alarm w p seen) = false := rfl
  unfold forwardedCommand
  rw [if_neg (by simp [hm]), if_neg (by simp [hs])]
  rfl

/-- A command for a T0 is no message, and the one for a rejoin is `rejoin`. -/
theorem not_isMessage_of_act (h : fwdAct c = some a) : isMessage c = false := by
  cases c with
  | trims => cases h
  | carry => cases h
  | _ => rfl

theorem fwdAct_eq_rejoin (h : fwdAct c = some .rejoin) : c = .rejoin := by
  cases c with
  | rejoin => rfl
  | _ => cases h

theorem forwardedCommand_held (hs : s.pst.member = true ∧ inService s = true) (hf : fwdAct c = some a) (hr : c ≠ .rejoin) :
    forwardedCommand c us y s = slSend 0 (.confirm c) (holdAct c a (fromStation us s) s) := by
  unfold forwardedCommand
  rw [if_neg (by simp [not_isMessage_of_act hf]), if_neg (by simp [hs])]
  split
  · cases hf
  · exact absurd rfl hr
  · rw [hf]

theorem forwardedCommand_rejoin (hs : s.pst.member = true ∧ inService s = true) : forwardedCommand .rejoin us y s =
    if testPasses y then slSend 0 (.confirm .rejoin) (onCmp (fun m => { m with rejoinHeld := true }) (beginRejoin (fromStation us s) y s))
    else beginRejoin (fromStation us s) y s := by
  have hm : isMessage .rejoin = false := rfl
  unfold forwardedCommand
  rw [if_neg (by simp [hm]), if_neg (by simp [hs])]

theorem forwardedCommand_go (hs : s.pst.member = true ∧ inService s = true) (d : FwdCmd) :
    forwardedCommand (.go d) us y s = freeAct d s := by
  have hm : isMessage (.go d) = false := rfl
  unfold forwardedCommand
  rw [if_neg (by simp [hm]), if_neg (by simp [hs])]

theorem holdAct_sched (c : FwdCmd) (a : T0Act) (n : Nat) (s : State) : (holdAct c a n s).cyc.sched = s.cyc.sched ++ [⟨n, a, true⟩] := by
  unfold holdAct
  split <;> rfl

theorem freeSched_first (n : Nat) (a : T0Act) (l : List Sched) : freeSched a (⟨n, a, true⟩ :: l) = ⟨n, a, false⟩ :: l := by
  simp [freeSched]

theorem freeAct_held (hf : fwdAct d = some a) (hr : d ≠ .rejoin) :
    freeAct d s = onCyc (fun y => { y with sched := freeSched a y.sched }) s := by
  unfold freeAct
  split
  · next h => exact absurd (fwdAct_eq_rejoin h) hr
  · next h =>
    cases hf.symm.trans h
    rfl
  · next h => exact absurd (hf.symm.trans h) (by simp)

/-! ### In the module that accepted them -/

/-- What the first confirmation does with its command: one for a T0 is told to the partner, any other carried out (R79). -/
def confirmedEffect (c : FwdCmd) (s : State) : State := if (fwdAct c).isSome then forwardNow (.go c) s else forwardEffect c s

/-- The message that tells the partner of a confirmed command for a T0. -/
def goMessage (c : FwdCmd) (s : State) : List Emit :=
  if (fwdAct c).isSome then [onLink 0 s (.forward (stationNs s / 1000) (.go c))] else []

/-- The state with its oldest unconfirmed command taken off the list. -/
def shortened (l : List (FwdCmd × Origin × Nat)) (s : State) : State := onPst (fun p => { p with unconfirmed := l }) s

theorem exec_partnerConfirmation_none (h : s.pst.unconfirmed = []) : exec .partnerConfirmation s = .next (slTook 0 s) := by
  have hu : (slTook 0 s).pst.unconfirmed = [] := by rw [slTook_pst, h]
  show Host.Outcome.next (partnerConfirmed s) = _
  unfold partnerConfirmed
  dsimp only
  rw [hu]

theorem exec_partnerConfirmation (h : s.pst.unconfirmed = (c, o, n) :: l) : exec .partnerConfirmation s =
    .next (answerOrigin o stOk (confirmedEffect c (shortened l (slTook 0 s)))) := by
  have hu : (slTook 0 s).pst.unconfirmed = (c, o, n) :: l := by rw [slTook_pst, h]
  show Host.Outcome.next (partnerConfirmed s) = _
  unfold partnerConfirmed
  dsimp only
  rw [hu]
  rfl

theorem exec_partnerConfirmTimeout_none (h : s.pst.unconfirmed = []) : exec .partnerConfirmTimeout s = .next s := by
  show Host.Outcome.next (confirmTimeout s) = _
  unfold confirmTimeout
  rw [h]

theorem exec_partnerConfirmTimeout (h : s.pst.unconfirmed = (c, o, n) :: l) : exec .partnerConfirmTimeout s =
    .next (answerOrigin o stConfirm (refusedEvent c (dropAct c (shortened l s)))) := by
  show Host.Outcome.next (confirmTimeout s) = _
  unfold confirmTimeout
  rw [h]
  rfl

theorem pairEffect_unconfirmed (c : FwdCmd) (s : State) : (pairEffect c s).pst.unconfirmed = s.pst.unconfirmed := by
  unfold pairEffect resyncNow
  split
  · split <;> rfl
  · split
    · rfl
    · rw [notReady_pst]
      rfl
  · rfl
  · rfl
  · rfl

theorem forwardEffect_unconfirmed (c : FwdCmd) (s : State) : (forwardEffect c s).pst.unconfirmed = s.pst.unconfirmed := by
  unfold forwardEffect
  split
  · rfl
  · rfl
  · rfl
  · exact pairEffect_unconfirmed _ s

theorem confirmedEffect_unconfirmed (c : FwdCmd) (s : State) : (confirmedEffect c s).pst.unconfirmed = s.pst.unconfirmed := by
  unfold confirmedEffect
  split
  · exact forwardNow_unconfirmed _ s
  · exact forwardEffect_unconfirmed c s

theorem confirmedEffect_changes (c : FwdCmd) (s : State) : Changes [.fch, .alm, .pst, .dsp, .sent] s (confirmedEffect c s) :=
  .ite (fun _ => (forwardNow_changes _ _).mono rfl) (fun _ => (forwardEffect_changes c s).mono rfl)

theorem shortened_sendsAlike (l : List (FwdCmd × Origin × Nat)) : SendsAlike 0 s (shortened l (slTook 0 s)) :=
  (slTook_sendsAlike 0 s).trans sendsAlike_onPst

theorem stationNs_slTook (p : Nat) (s : State) : stationNs (slTook p s) = stationNs s := by
  rw [stationNs, slTook_pst, (slTook_changes p s).tim rfl]
  rfl

theorem confirmedEffect_sent (hp : passes s 0 = true) (c : FwdCmd) (l : List (FwdCmd × Origin × Nat)) :
    (confirmedEffect c (shortened l (slTook 0 s))).sent = s.sent ++ goMessage c s := by
  have hs : (shortened l (slTook 0 s)).sent = s.sent := (slTook_changes 0 s).sent rfl
  have hn : stationNs (shortened l (slTook 0 s)) = stationNs s := stationNs_slTook 0 s
  unfold confirmedEffect goMessage
  split
  · rw [forwardNow, hn]
    exact (shortened_sendsAlike l).sent hs hp _
  · rw [(forwardEffect_changes _ _).sent rfl, hs, List.append_nil]

theorem lanSeq_goMessage (ht : t.sent = s.sent ++ goMessage c s) : lanSeq t = lanSeq s := by
  unfold lanSeq goMessage onLink at *
  rw [ht]
  split <;> simp [countIf]

theorem responses_sessions {r : Req} (hp : t.pnw = s.pnw) (hl : lanSeq t = lanSeq s) (st : BitVec 16) (body : List Byte) :
    responses r st body t = responses r st body s := by
  simp only [responses, findSession, hp, hl]

theorem answerOrigin_silent (ho : o = .program ∨ o = .acn) (st : BitVec 16) (s : State) : answerOrigin o st s = s := by
  rcases ho with rfl | rfl <;> rfl

theorem answerOrigin_session {r : Req} (hz : r.sess ≠ 0) (st : BitVec 16) (body : List Byte) (s : State) :
    (answerOrigin (.sess r body) st s).sent = s.sent ++ responses r st (if st = stOk then body else []) s :=
  congrArg State.sent (reply_eq_responses hz st _ s)

theorem dropSched_single (n : Nat) (a : T0Act) (w : Bool) : dropSched a [⟨n, a, w⟩] = [] := by
  simp [dropSched]

theorem dropAct_single {w : Bool} (hs : s.cyc.sched = [⟨n, a, w⟩]) (hf : fwdAct c = some a) : (dropAct c s).cyc.sched = [] := by
  unfold dropAct
  rw [hf]
  dsimp only
  rw [(withdraw_changes _ _).cyc rfl, onCyc_cyc, hs]
  exact dropSched_single n a w

theorem refusedEvent_kept (c : FwdCmd) (s : State) : (refusedEvent c s).cyc.sched = s.cyc.sched ∧ (refusedEvent c s).alm.cmds = s.alm.cmds := by
  unfold refusedEvent
  split <;> exact ⟨rfl, rfl⟩

/-- What PARTNER_CONFIRMATION leaves beside its answer (R79, R333). -/
theorem partnerConfirmation_parts (h : s.pst.unconfirmed = (c, o, n) :: l) : Does .partnerConfirmation s (fun t =>
    t = answerOrigin o stOk (confirmedEffect c (shortened l (slTook 0 s))) ∧ t.pst.unconfirmed = l ∧
      ∀ w p seen, c = .alarm w p seen → t.alm.cmds = s.alm.cmds ++ [{ path := p, word := w, seen := seen }]) := by
  refine ⟨_, exec_partnerConfirmation h, rfl, ?_, ?_⟩
  · rw [(answerOrigin_changes _ _ _).pst rfl, confirmedEffect_unconfirmed]
    rfl
  · rintro w p seen rfl
    rw [(answerOrigin_changes _ _ _).alm rfl]
    exact congrArg (fun a : Alm => a.cmds ++ [_]) ((slTook_changes 0 s).alm rfl)

/-- What PARTNER_CONFIRM_TIMEOUT leaves beside its answer (R79, R333). -/
theorem partnerConfirmTimeout_parts (h : s.pst.unconfirmed = (c, o, n) :: l) : Does .partnerConfirmTimeout s (fun t =>
    (∃ v, t = answerOrigin o stConfirm v ∧ v.sent = s.sent ∧ v.pnw = s.pnw) ∧ t.pst.unconfirmed = l ∧ t.alm.cmds = s.alm.cmds ∧
      ∀ a w, s.cyc.sched = [⟨n, a, w⟩] → fwdAct c = some a → t.cyc.sched = []) := by
  have hd : Changes [.cyc, .cmp, .fch] (shortened l s) (dropAct c (shortened l s)) := dropAct_changes _ _
  have hr := refusedEvent_changes c (dropAct c (shortened l s))
  obtain ⟨hsched, hcmds⟩ := refusedEvent_kept c (dropAct c (shortened l s))
  refine ⟨_, exec_partnerConfirmTimeout h, ⟨_, rfl, (hr.sent rfl).trans (hd.sent rfl), (hr.pnw rfl).trans (hd.pnw rfl)⟩, ?_, ?_, ?_⟩
  · rw [(answerOrigin_changes _ _ _).pst rfl, hr.pst rfl, hd.pst rfl]
    rfl
  · rw [(answerOrigin_changes _ _ _).alm rfl, hcmds, hd.alm rfl]
    rfl
  · intro a w hs hf
    rw [(answerOrigin_changes _ _ _).cyc rfl, hsched]
    exact dropAct_single hs hf

end Sys2Proof.Machine
end

section
/-! What arrives over the Carafe link (R289, R292, R300), and the answers to PARTNER_CONFIRMATION. -/

namespace Sys2Proof.Machine

variable {s t u : State} {l : List (FwdCmd × Origin × Nat)} {n : Nat}

/-! ### Frames of a delta -/

theorem exec_carafeFrame_taken {x : SlRx CarafeRx} (ht : takenIn 0 x.hdr s = true) : exec (.carafeFrameReceived x) s =
    .next (stageFrame x.hdr.seq x.body (taken 0 x.hdr s)) := congrArg Host.Outcome.next (slReceive_taken ht)

theorem staging_taken (p : Nat) (h : SlHdr) (s : State) : (taken p h s).pst.staging = s.pst.staging := by rw [taken_pst]

theorem freshDelta_taken (p : Nat) (h : SlHdr) (x : CarafeRx) (s : State) : freshDelta x (taken p h s) = freshDelta x s := by
  rw [freshDelta, taken_pst]
  rfl

/-- A right frame kept beside what has arrived of its delta (R289). -/
theorem carafeFrame_kept (hs : takesDeltas s = true) {x : SlRx CarafeRx} (ht : takenIn 0 x.hdr s = true)
    (hg : stagedWhole (stage x.hdr.seq x.body s.pst.staging) = false ∨ stagedGood (stage x.hdr.seq x.body s.pst.staging) = true) :
    let u := taken 0 x.hdr s
    Does (.carafeFrameReceived x) s (fun t => t.pst.staging = some (stage x.hdr.seq x.body s.pst.staging) ∧ t.sent = u.sent ∧
      t.pst.copying = (s.pst.copying || x.body.frame.join) ∧
      (t.pst.requested = true ↔ u.pst.requested = true ∧ ¬freshDelta x.body s = true) ∧ Changes [.pst] u t) := by
  have hc : (taken 0 x.hdr s).pst.copying = s.pst.copying := by rw [taken_pst]
  rw [← staging_taken 0 x.hdr s] at hg ⊢
  obtain ⟨h1, h2, h3, h4, h5⟩ := stageFrame_kept ((takesDeltas_taken 0 x.hdr s).trans hs) hg
  refine ⟨_, exec_carafeFrame_taken ht, h1, h2, h3.trans (by rw [hc]), ?_, h5⟩
  rw [h4, freshDelta_taken]
  simp

/-- A whole delta whose check fails is dropped and asked for again (R289). -/
theorem carafeFrame_bad (hs : takesDeltas s = true) {x : SlRx CarafeRx} (ht : takenIn 0 x.hdr s = true)
    (hw : stagedWhole (stage x.hdr.seq x.body s.pst.staging) = true) (hg : stagedGood (stage x.hdr.seq x.body s.pst.staging) = false) :
    let u := taken 0 x.hdr s
    let asked := u.pst.requested = true ∧ ¬freshDelta x.body s = true
    Does (.carafeFrameReceived x) s (fun t => t.pst.staging = none ∧ t.pst.requested = true ∧
      (passes u 0 = true → (asked → t.sent = u.sent) ∧ (¬asked → t.sent = u.sent ++ [onLink 0 u (.slAck true)]))) := by
  rw [← staging_taken 0 x.hdr s] at hw hg
  have htd := (takesDeltas_taken 0 x.hdr s).trans hs
  refine ⟨_, (exec_carafeFrame_taken ht).trans (congrArg _ (stageFrame_bad htd hw hg)), ?_⟩
  have hr : (onPst (fun p => { p with staging := none }) (staged x.hdr.seq x.body (taken 0 x.hdr s))).pst.requested =
      ((taken 0 x.hdr s).pst.requested && !freshDelta x.body s) := by
    rw [← freshDelta_taken 0 x.hdr]
    rfl
  have hal : SendsAlike 0 (taken 0 x.hdr s) (onPst (fun p => { p with staging := none }) (staged x.hdr.seq x.body (taken 0 x.hdr s))) :=
    .of_pst rfl rfl rfl
  obtain ⟨h1, h2, -, h4⟩ := askAgain_asks (s := onPst (fun p => { p with staging := none }) (staged x.hdr.seq x.body (taken 0 x.hdr s))) htd
  rw [hr, hal.passes, hal.onLink] at h4
  refine ⟨h2, h1, fun hp => ⟨fun ha => (h4 hp).trans (if_pos ?_), fun ha => (h4 hp).trans (if_neg ?_)⟩⟩
  · simpa using ha
  · simpa using ha

/-- The state after a frame of port 0 that fails its own check, counted (R300). -/
def wrongFrame (s : State) : State := setSlPort 0 (fun q => { q with errCheck := inc16 q.errCheck }) (checkFailed 1 s)

theorem wrongFrame_changes (s : State) : Changes [.pst, .cvu] s (wrongFrame s) :=
  .comp (setSlPort_changes _ _ _) rfl ((checkFailed_changes 1 s).mono rfl)

theorem wrongFrame_pst (s : State) : (wrongFrame s).pst = { s.pst with ports := (wrongFrame s).pst.ports } := by
  unfold wrongFrame setSlPort
  rw [onPst_pst, (checkFailed_changes 1 s).pst rfl]

theorem wrongFrame_port (s : State) : slPort (wrongFrame s) 0 = { slPort s 0 with errCheck := inc16 (slPort s 0).errCheck } := by
  rw [wrongFrame, slPort_setSlPort, slPort, slPort, (checkFailed_changes 1 s).pst rfl]

theorem takesDeltas_wrongFrame (s : State) : takesDeltas (wrongFrame s) = takesDeltas s := by
  rw [takesDeltas, wrongFrame_pst, inService_of_sup ((wrongFrame_changes s).sup rfl)]
  rfl

theorem wrongFrame_sendsAlike (s : State) : SendsAlike 0 s (wrongFrame s) where
  inj := by rw [wrongFrame_port]
  held := by rw [wrongFrame_port]
  seq := by rw [wrongFrame_port]
  peers := by rw [wrongFrame_pst]
  slot := by rw [wrongFrame_pst]

theorem exec_carafeFrame_wrong {x : SlRx CarafeRx} (hc : x.hdr.check ≠ slCheck s 0 x.hdr) : exec (.carafeFrameReceived x) s =
    .next (askAgain (wrongFrame s)) := congrArg Host.Outcome.next (slReceive_wrong hc)

/-- A frame that fails its own check is counted and asked for again (R289, R300). -/
theorem carafeFrame_wrong (hs : takesDeltas s = true) {x : SlRx CarafeRx} (hc : x.hdr.check ≠ slCheck s 0 x.hdr) :
    Does (.carafeFrameReceived x) s (fun t => t.pst.staging = s.pst.staging ∧ (slPort t 0).errCheck = inc16 (slPort s 0).errCheck ∧
      t.pst.requested = true ∧
      (passes s 0 = true → t.sent = (if s.pst.requested then s.sent else s.sent ++ [onLink 0 s (.slAck true)]))) := by
  obtain ⟨h1, h2, h3, h4⟩ := askAgain_asks ((takesDeltas_wrongFrame s).trans hs)
  have hal := wrongFrame_sendsAlike s
  rw [hal.passes, hal.onLink, (wrongFrame_changes s).sent rfl] at h4
  rw [wrongFrame_port] at h3
  rw [wrongFrame_pst] at h2 h4
  exact ⟨_, exec_carafeFrame_wrong hc, h2, h3, h1, h4⟩

/-! ### Acknowledgements and digests -/

theorem exec_carafeAck_taken {x : SlRx Bool} (ht : takenIn 0 x.hdr s = true) : exec (.carafeAckReceived x) s =
    .next (carafeAcked x.body (taken 0 x.hdr s)) := congrArg Host.Outcome.next (slReceive_taken ht)

theorem carafeAck_done {x : SlRx Bool} (ht : takenIn 0 x.hdr s = true) (hb : x.body = false) : Does (.carafeAckReceived x) s (fun t =>
    t.pst.ackDue = false ∧ t.pst.ackCycle = s.pst.lastSent.map (·.cycle) ∧
      (s.pst.ackDue = true → t.pst.copyTLast = BitVec.ofNat 16 (min (nowUs s - s.pst.sentUs) 0xFFFF)) ∧ t.sent = (taken 0 x.hdr s).sent) := by
  obtain ⟨h1, h2, h3, h4⟩ := carafeAcked_done (taken 0 x.hdr s)
  rw [(taken_changes 0 x.hdr s).nowUs rfl, sat16_eq_min] at h3
  have hl : (taken 0 x.hdr s).pst.lastSent = s.pst.lastSent := by rw [taken_pst]
  have hd : (taken 0 x.hdr s).pst.ackDue = s.pst.ackDue := by rw [taken_pst]
  have hu : (taken 0 x.hdr s).pst.sentUs = s.pst.sentUs := by rw [taken_pst]
  rw [hd, hu] at h3
  rw [hl] at h2
  have he := exec_carafeAck_taken ht
  rw [hb] at he
  exact ⟨_, he, h1, h2, h3, h4⟩

theorem carafeAck_again {x : SlRx Bool} {f : CarafeFrame} (ht : takenIn 0 x.hdr s = true) (hb : x.body = true)
    (hf : s.pst.lastSent = some f) (hd : s.pst.ackDue = true) (hp : passes (taken 0 x.hdr s) 0 = true) : let u := taken 0 x.hdr s
    Does (.carafeAckReceived x) s (fun t => t.sent = u.sent ++ [onLink 0 u (.carafe { f with base := (slPort u 0).txSeq })]) := by
  have hf' : (taken 0 x.hdr s).pst.lastSent = some f := by rw [taken_pst, hf]
  have hd' : (taken 0 x.hdr s).pst.ackDue = true := by rw [taken_pst, hd]
  have he := exec_carafeAck_taken ht
  rw [hb] at he
  exact ⟨_, he.trans (congrArg _ (repeatCarafe_due hf' hd')), slSend_passes hp _⟩

theorem exec_twinStepDigest {x : SlRx Word} (ht : takenIn 0 x.hdr s = true) : exec (.twinStepDigest x) s =
    .next (twinStep x.body (taken 0 x.hdr s)) := congrArg Host.Outcome.next (slReceive_taken ht)

theorem twinDigest_taken (h : SlHdr) (s : State) : twinDigest (taken 0 h s) = twinDigest s :=
  have hc := taken_changes 0 h s
  twinDigest_congr (hc.nibA rfl) (hc.cyc rfl) (hc.img rfl) (hc.sup rfl)

theorem comparesDigests_taken (h : SlHdr) (hs : comparesDigests s) : comparesDigests (taken 0 h s) := by
  have hc := taken_changes 0 h s
  unfold comparesDigests paired partner partnerSlot inRun at hs ⊢
  rw [taken_pst, hc.img rfl, hc.sup rfl]
  exact hs

theorem twinStepDigest_equal {x : SlRx Word} (ht : takenIn 0 x.hdr s = true) (hs : comparesDigests s) (hd : twinDigest s = x.body) :
    let u := taken 0 x.hdr s
    Does (.twinStepDigest x) s (fun t => t.pst.instep = true ∧ t.nibA = s.nibA ∧
      (passes u 0 = true → t.sent = u.sent ++ [onLink 0 u (.twinDigest x.body)])) := by
  rw [← hd, ← twinDigest_taken x.hdr s]
  refine ⟨onPst (fun p => { p with instep := true }) (slSend 0 (.twinDigest (twinDigest (taken 0 x.hdr s))) (taken 0 x.hdr s)),
    ?_, rfl, ?_, fun hp => slSend_passes hp _⟩
  · rw [exec_twinStepDigest ht, ← hd, ← twinDigest_taken x.hdr s, twinStep_equal (comparesDigests_taken x.hdr hs)]
  · exact ((slSend_changes 0 _ _).nibA rfl).trans ((taken_changes 0 x.hdr s).nibA rfl)

theorem twinStepDigest_differs {x : SlRx Word} (ht : takenIn 0 x.hdr s = true) (hs : comparesDigests s) (hd : twinDigest s ≠ x.body) :
    Does (.twinStepDigest x) s (fun t => t.pst.instep = false ∧
      (s.pst.ownDrive = false → t.pst.joined = false ∧ t.pst.ready = false ∧ t.nibA.st = .stopped ∧ t.nibB.st = .stopped) ∧
      (s.pst.ownDrive = true → t.nibA = s.nibA)) := by
  have ho : (taken 0 x.hdr s).pst.ownDrive = s.pst.ownDrive := by rw [taken_pst]
  have h := twinStep_parts (comparesDigests_taken x.hdr hs) (peer := x.body) (by rwa [twinDigest_taken])
  dsimp only at h
  rw [ho, (taken_changes 0 x.hdr s).nibA rfl] at h
  exact ⟨_, exec_twinStepDigest ht, h⟩

end Sys2Proof.Machine
end

section
/-! The parts of O44 put together. -/

namespace Sys2Proof.Machine

variable {s t u v : State} {a : T0Act} {c d : FwdCmd} {o : Origin} {y : SelfTest} {l : List (FwdCmd × Origin × Nat)} {n : Nat}

/-! ### The standby's self-test -/

theorem scrubStep_parts (hb : bistOn s = true) (hp : powered s = true) (hi : inService s = true) :
    exec (.scrubStep .clean) s = .next s ∧
      Does (.scrubStep .passDone) s (fun t => t.pst = { s.pst with bistPasses := inc16 s.pst.bistPasses }) ∧
      Does (.scrubStep .corrected) s (fun t => t.pst.bistCorr = inc8 s.pst.bistCorr ∧ t.pst.qualCycles = 0) ∧
      (faultFailsStart s = false → Does (.scrubStep .uncorrectable) s (fun t => t.sup.mode = .safe)) :=
  ⟨congrArg Host.Outcome.next scrubStep_clean, ⟨_, congrArg Host.Outcome.next (scrubStep_passDone hb hp), rfl⟩,
    ⟨_, congrArg Host.Outcome.next (scrubStep_corrected hb hp), rfl, rfl⟩,
    fun hf => ⟨_, congrArg Host.Outcome.next (scrubStep_uncorrectable hb hp), selfDiag_safe hi hf⟩⟩

theorem romTaken_kept (s : State) : let t := takeFree (romRun s)
    t.boot = s.boot ∧ t.sup = s.sup ∧ t.tim = s.tim := ⟨rfl, rfl, rfl⟩

theorem bistSequence_parts (hb : bistOn s = true) (hc : s.img.plan.mode = .copy) (hi : inService s = true) (v : Verdict) :
    (v = .equal ∨ v = .diverged → Does (.bistTestSequence v) s (fun t => (∀ n, greg t.nibA n = greg t.nibB n) ∧ t.sup = s.sup)) ∧
      (v ≠ .equal → v ≠ .diverged → faultFailsStart s = false → Does (.bistTestSequence v) s (fun t => t.sup.mode = .safe)) := by
  have he : exec (.bistTestSequence v) s = _ := congrArg Host.Outcome.next (bistSequence_on hb hc v)
  refine ⟨fun hv => ?_, fun h1 h2 hf => ?_⟩
  · rw [if_pos (by simpa using hv)] at he
    exact ⟨romRun s, he, fun n => greg_romRun n, rfl⟩
  · rw [if_neg (by simp [h1, h2])] at he
    obtain ⟨hboot, hsup, htim⟩ := romTaken_kept s
    exact ⟨_, he, checkedVerdict_safe h1 h2 ((inService_of_sup hsup).trans hi) ((faultFailsStart_congr hboot hsup htim).trans hf) _⟩

theorem bistInjection_parts (hb : bistOn s = true) (hc : s.img.plan.mode = .copy) (hi : inService s = true) (x : SelfTest) :
    (x.dead = 0 → x.unequal = 0 → Does (.bistInjectionTest x) s (fun t => t.cmp.testDone = true ∧ t.cmp.testPass = true ∧ t.sup = s.sup)) ∧
      (¬(x.dead = 0 ∧ x.unequal = 0) → faultFailsStart s = false → Does (.bistInjectionTest x) s (fun t => t.sup.mode = .safe)) := by
  have he := bistInjection_on hb hc x
  have hr := recordTest_changes x s
  refine ⟨fun h0 h1 => ?_, fun hn hf => ?_⟩
  · have hp := testPasses_iff.mpr ⟨h0, h1⟩
    rw [if_pos hp] at he
    obtain ⟨hd, ht⟩ := recordTest_passed (s := s) hp
    exact ⟨_, he, hd, ht, hr.sup rfl⟩
  · rw [if_neg (testPasses_iff.not.mpr hn)] at he
    exact ⟨_, he, selfDiag_safe ((inService_of_sup (hr.sup rfl)).trans hi) ((faultFailsStart_congr (hr.boot rfl) (hr.sup rfl) (hr.tim rfl)).trans hf)⟩

/-! ### The join copy -/

theorem deltaLost_parts (ht : takesDeltas s = true) (hc : copyFed s = true) : Does .deltaLost s (fun t =>
    t.pst.ready = false ∧ t.pst.joined = false ∧ t.pst.wantJoin = true ∧ t.pst.staging = none ∧ t.pst.qualCycles = 0) := by
  refine ⟨_, exec_deltaLost ht hc, ?_⟩
  dsimp only
  rw [notReady_pst, (post_changes _ _ _ _).pst rfl]
  exact ⟨rfl, rfl, rfl, rfl, rfl⟩

theorem joinCopyComplete_parts (ht : takesDeltas s = true) (hw : s.pst.wantJoin = true) (hn : s.pst.joinNeed = some [])
    (hs : s.pst.staging = none) : Does .joinCopyComplete s (fun t => t.pst.joined = true ∧ t.pst.wantJoin = false ∧
      t.pst.ready = (slPort s 0).up ∧ t.pst.qualCycles = 0 ∧ t.pst.qualSince = nowUs s) := by
  refine ⟨_, exec_joinCopyComplete ht hw hn hs, ?_⟩
  dsimp only
  rw [(standbyDraw_changes _).pst rfl, requalify_pst]
  exact ⟨rfl, rfl, rfl, rfl, rfl⟩

/-! ### Forwarded commands -/

/-- A forwarded command that a member in service confirms (R79). -/
theorem confirmed_sent (hc : Changes [.cyc, .cmp, .fch, .alm, .evr] u v) (hp : passes u 0 = true) (c : FwdCmd) :
    (slSend 0 (.confirm c) v).sent = u.sent ++ [onLink 0 u (.confirm c)] := (hc.sendsAlike rfl).sent (hc.sent rfl) hp _

theorem serves_taken (p : Nat) (h : SlHdr) (hs : s.pst.member = true ∧ inService s = true) :
    (taken p h s).pst.member = true ∧ inService (taken p h s) = true := by
  rwa [taken_pst, inService_of_sup ((taken_changes p h s).sup rfl)]

variable {x : SlRx Forwarded}

theorem forwarded_message (ht : takenIn 0 x.hdr s = true) (hm : isMessage x.body.cmd = true) : exec (.forwardedCommand x y) s =
    .next (forwardEffect x.body.cmd (taken 0 x.hdr s)) := by
  rw [exec_forwardedCommand ht, forwardedCommand_message hm]

theorem forwarded_unserved (ht : takenIn 0 x.hdr s = true) (hs : s.pst.member = false ∨ inService s = false) (hm : isMessage x.body.cmd = false) :
    exec (.forwardedCommand x y) s = .next (taken 0 x.hdr s) := by
  rw [exec_forwardedCommand ht, forwardedCommand_unserved hm]
  rwa [taken_pst, inService_of_sup ((taken_changes 0 x.hdr s).sup rfl)]

theorem forwarded_alarm (ht : takenIn 0 x.hdr s = true) (hs : s.pst.member = true ∧ inService s = true)
    {w : Word} {p : AlmPath} {seen : Option (List Nat)} (hc : x.body.cmd = .alarm w p seen) :
    let u := taken 0 x.hdr s
    Does (.forwardedCommand x y) s (fun t => t.alm.cmds = s.alm.cmds ++ [{ path := p, word := w, seen := seen }] ∧
      (passes u 0 = true → t.sent = u.sent ++ [onLink 0 u (.confirm x.body.cmd)])) := by
  have he := exec_forwardedCommand (y := y) ht
  rw [hc, forwardedCommand_alarm (serves_taken 0 x.hdr hs)] at he
  rw [hc]
  refine ⟨_, he, ?_, fun hp => confirmed_sent ((almQueue_changes _ _).mono rfl) hp _⟩
  rw [(slSend_changes _ _ _).alm rfl]
  exact congrArg (fun a : Alm => a.cmds ++ [_]) ((taken_changes 0 x.hdr s).alm rfl)

theorem forwarded_act (ht : takenIn 0 x.hdr s = true) (hs : s.pst.member = true ∧ inService s = true)
    (hf : fwdAct x.body.cmd = some a) (hr : x.body.cmd ≠ .rejoin) : let u := taken 0 x.hdr s
    Does (.forwardedCommand x y) s (fun t => t.cyc.sched = s.cyc.sched ++ [⟨fromStation x.body.stationUs s, a, true⟩] ∧
      (passes u 0 = true → t.sent = u.sent ++ [onLink 0 u (.confirm x.body.cmd)])) := by
  have he := exec_forwardedCommand (y := y) ht
  rw [forwardedCommand_held (serves_taken 0 x.hdr hs) hf hr, fromStation_taken] at he
  refine ⟨_, he, ?_, fun hp => confirmed_sent ((holdAct_changes _ _ _ _).mono rfl) hp _⟩
  rw [(slSend_changes _ _ _).cyc rfl, holdAct_sched, (taken_changes 0 x.hdr s).cyc rfl]

theorem forwarded_rejoin_passed (ht : takenIn 0 x.hdr s = true) (hs : s.pst.member = true ∧ inService s = true)
    (hc : x.body.cmd = .rejoin) (hp : testPasses y = true) : let u := taken 0 x.hdr s
    Does (.forwardedCommand x y) s (fun t => t.cmp.rejoinAt = some (fromStation x.body.stationUs s) ∧ t.cmp.rejoinTested = true ∧
      t.cmp.rejoinHeld = true ∧ (passes u 0 = true → t.sent = u.sent ++ [onLink 0 u (.confirm x.body.cmd)])) := by
  have he := exec_forwardedCommand (y := y) ht
  rw [hc, forwardedCommand_rejoin (serves_taken 0 x.hdr hs), if_pos hp, fromStation_taken] at he
  rw [hc]
  obtain ⟨-, -, hat, htested, -⟩ := beginRejoin_passed (s := taken 0 x.hdr s) (fromStation x.body.stationUs s) hp
  refine ⟨_, he, ?_⟩
  dsimp only
  rw [(slSend_changes _ _ _).cmp rfl, onCmp_cmp]
  dsimp only
  exact ⟨hat, htested, rfl, fun hp => confirmed_sent (.comp (onCmp_changes _ _) rfl ((beginRejoin_changes _ _ _).mono rfl)) hp _⟩

theorem forwarded_rejoin_failed (ht : takenIn 0 x.hdr s = true) (hs : s.pst.member = true ∧ inService s = true)
    (hc : x.body.cmd = .rejoin) (hp : testPasses y = false) : Does (.forwardedCommand x y) s (fun t =>
    t.cmp.rejoinAt = none ∧ t.cmp.rejoinBlock = true ∧ t.sent = (taken 0 x.hdr s).sent) := by
  have he := exec_forwardedCommand (y := y) ht
  rw [hc, forwardedCommand_rejoin (serves_taken 0 x.hdr hs), if_neg (by simp [hp])] at he
  obtain ⟨-, -, hat, hblock, -⟩ := beginRejoin_failed (s := taken 0 x.hdr s) (fromStation x.body.stationUs (taken 0 x.hdr s)) hp
  exact ⟨_, he, hat, hblock, (beginRejoin_changes _ _ _).sent rfl⟩

theorem forwarded_go (ht : takenIn 0 x.hdr s = true) (hs : s.pst.member = true ∧ inService s = true)
    {k : Nat} (hc : x.body.cmd = .go d) (hf : fwdAct d = some a) (hr : d ≠ .rejoin)
    (hq : s.cyc.sched = [⟨k, a, true⟩]) : Does (.forwardedCommand x y) s (fun t => t.cyc.sched = [⟨k, a, false⟩] ∧
      t.sent = (taken 0 x.hdr s).sent) := by
  have he := exec_forwardedCommand (y := y) ht
  rw [hc, forwardedCommand_go (serves_taken 0 x.hdr hs), freeAct_held hf hr] at he
  refine ⟨_, he, ?_, rfl⟩
  rw [onCyc_cyc, (taken_changes 0 x.hdr s).cyc rfl, hq]
  exact freeSched_first k a []

/-! ### Confirmations -/

theorem partnerConfirmation_session {r : Req} {body : List Byte} (h : s.pst.unconfirmed = (c, .sess r body, n) :: l) (hz : r.sess ≠ 0) :
    Does .partnerConfirmation s (fun t => t.pst.unconfirmed = l ∧
      (∀ w p seen, c = .alarm w p seen → t.alm.cmds = s.alm.cmds ++ [{ path := p, word := w, seen := seen }]) ∧
      (passes s 0 = true → t.sent = s.sent ++ goMessage c s ++ responses r 0 body s)) := by
  refine (partnerConfirmation_parts h).mono fun t ⟨ht, hu, ha⟩ => ⟨hu, ha, fun hp => ?_⟩
  have hs := confirmedEffect_sent hp c l
  have hn : (confirmedEffect c (shortened l (slTook 0 s))).pnw = s.pnw :=
    ((confirmedEffect_changes c _).pnw rfl).trans ((slTook_changes 0 s).pnw rfl)
  rw [ht, answerOrigin_session hz, if_pos rfl, hs, responses_sessions hn (lanSeq_goMessage hs)]
  rfl

theorem partnerConfirmTimeout_session {r : Req} {body : List Byte} (h : s.pst.unconfirmed = (c, .sess r body, n) :: l) (hz : r.sess ≠ 0) :
    Does .partnerConfirmTimeout s (fun t => t.pst.unconfirmed = l ∧ t.sent = s.sent ++ responses r 0x0009 [] s ∧ t.alm.cmds = s.alm.cmds ∧
      (∀ a w, s.cyc.sched = [⟨n, a, w⟩] → fwdAct c = some a → t.cyc.sched = [])) := by
  refine (partnerConfirmTimeout_parts h).mono fun t ⟨⟨v, ht, hs, hn⟩, hu, ha, hc⟩ => ⟨hu, ?_, ha, hc⟩
  rw [ht, answerOrigin_session hz, if_neg (by decide), hs, responses_sessions hn (by rw [lanSeq, hs]; rfl)]
  rfl

theorem confirmation_silent (ho : o = .program ∨ o = .acn) (h : s.pst.unconfirmed = (c, o, n) :: l) :
    Does .partnerConfirmation s (fun t => t.pst.unconfirmed = l ∧ (passes s 0 = true → t.sent = s.sent ++ goMessage c s)) ∧
      Does .partnerConfirmTimeout s (fun t => t.pst.unconfirmed = l ∧ t.sent = s.sent) := by
  refine ⟨(partnerConfirmation_parts h).mono fun t ⟨ht, hu, _⟩ => ⟨hu, fun hp => ?_⟩,
    (partnerConfirmTimeout_parts h).mono fun t ⟨⟨v, ht, hs, _⟩, hu, _⟩ => ⟨hu, ?_⟩⟩
  · rw [ht, answerOrigin_silent ho]
    exact confirmedEffect_sent hp c l
  · rw [ht, answerOrigin_silent ho, hs]

end Sys2Proof.Machine

open Sys2Proof Sys2Proof.Machine

/-- Settles O44: each clause by the lemma about its command; a frame taken in goes through `slReceive_taken`, a frame sent through
`SendsAlike`, which says what a port's sending depends on. -/
theorem carafeAndSelfTest : Obligations.CarafeAndSelfTest := by
  unfold Obligations.CarafeAndSelfTest
  refine ⟨fun s hm ho hi => ?_, fun x s ht => ?_, fun s => ?_, fun x s ht hm hp hr hx => ?_, fun x y s ht => ?_, fun s => ?_⟩
  · have hs := takesDeltas_iff.mpr ⟨hm, ho, hi⟩
    refine ⟨fun x ht => ⟨fun hg => ?_, fun hw hg => ?_, fun hn hf hb => ?_⟩, fun x hc => carafeFrame_wrong hs hc,
      fun g hg hw hgood hj hc hd hout hsh => ⟨_, rfl, deltaApply_applies hs hg hw hgood hj hc hd hout hsh⟩, fun hn => ?_, fun g hg hb => ?_,
      deltaLost_parts hs, joinCopyComplete_parts hs, exec_joinCopyIncomplete, fun hro hp => ?_⟩
    · simpa only [freshDelta_iff] using carafeFrame_kept hs ht hg
    · simpa only [freshDelta_iff] using carafeFrame_bad hs ht hw hg
    · rw [hn]
      exact stage_single hf hb
    · exact congrArg Host.Outcome.next (deltaApply_not fun g hg => by rw [hn] at hg; cases hg)
    · exact congrArg Host.Outcome.next (deltaApply_not fun g' hg' => by rw [hg] at hg'; cases hg'; exact hb)
    · have hb := bistOn_standby hm hi hro
      obtain ⟨hclean, hdone, hcorr, hunc⟩ := scrubStep_parts hb hp hi
      exact ⟨hclean, hdone, hcorr, hunc, fun hc => ⟨bistSequence_parts hb hc hi, bistInjection_parts hb hc hi⟩⟩
  · exact ⟨carafeAck_done ht, fun f hb hf hd hp => carafeAck_again ht hb hf hd hp⟩
  · exact ⟨fun f hf hd hp => ⟨_, congrArg Host.Outcome.next (repeatCarafe_due hf hd), slSend_passes hp _⟩,
      fun hd => congrArg Host.Outcome.next (repeatCarafe_acked hd)⟩
  · exact ⟨twinStepDigest_equal ht ⟨hm, hp, hr, hx⟩, twinStepDigest_differs ht ⟨hm, hp, hr, hx⟩⟩
  · refine ⟨fun sh ts hc => ?_, fun ts hc => ?_, fun hm hi => ?_, forwarded_unserved ht⟩
    · have he := forwarded_message (y := y) ht (by rw [hc]; rfl)
      rw [hc] at he
      exact ⟨_, he, rfl, rfl⟩
    · have he := forwarded_message (y := y) ht (by rw [hc]; rfl)
      rw [hc] at he
      exact ⟨_, he, rfl, rfl⟩
    · have hs := And.intro hm hi
      exact ⟨fun w p seen => forwarded_alarm ht hs, fun a => forwarded_act ht hs,
        fun hc h0 h1 => forwarded_rejoin_passed ht hs hc (testPasses_iff.mpr ⟨h0, h1⟩),
        fun hc hn => forwarded_rejoin_failed ht hs hc (by simpa using testPasses_iff.not.mpr hn),
        fun d a k hc hf hr hq => forwarded_go ht hs hc hf hr hq⟩
  · exact ⟨fun h => ⟨exec_partnerConfirmation_none h, exec_partnerConfirmTimeout_none h⟩,
      fun c r body n l h hz => ⟨partnerConfirmation_session h hz, partnerConfirmTimeout_session h hz⟩,
      fun c o n l ho h => confirmation_silent ho h⟩
end

section
/-! What a self-diagnosis fault leaves of the comparator (R97, R113, R418). -/

namespace Sys2Proof.Machine

/-- A comparator whose lanes a fault or a reset has stopped: its entries, its mark and a digest under way are gone, what it shows
stands (R97, R101). -/
def emptied (m : Cmp) : Cmp :=
  { m with queueA := [], queueB := [], judged := 0, endJudged := false, marked := none, divPend := false }

theorem stopLanes_cmp (s : State) : (stopLanes s).cmp = emptied s.cmp := rfl

theorem enterSafe_cmp (s : State) : (enterSafe s).cmp = emptied s.cmp := by
  unfold enterSafe
  simp only [(startFlush_changes _).cmp, (standbyDraw_changes _).cmp, (applyOutputs_changes _).cmp, (openPairs_changes _).cmp, onBoot_cmp,
    onSup_cmp, (abandonMaint_changes _).cmp, stopLanes_cmp, (discardTrim_changes _).cmp, onPst_cmp, (releaseRole_changes _ _).cmp,
    (endCommissioning_changes _).cmp]

theorem resetSteps_cmp (c : ResetClass) (cause : Byte) (s : State) : (resetSteps c cause s).cmp = emptied s.cmp := by
  have h : (entryStart c cause s).cmp = emptied s.cmp := by
    unfold entryStart
    simp only [onSup_cmp, onCyc_cmp, (abandonMaint_changes _).cmp, stopLanes_cmp, (discardTrim_changes _).cmp, (releaseRole_changes _ _).cmp]
  exact ((entryEnd_changes c (entryStart c cause s)).cmp).trans h

/-- A reset declared empties the comparator where its entry begins now (R417, R418). -/
theorem enterReset_cmp (c : ResetClass) (cause : Byte) (s : State) :
    (enterReset c cause s).cmp = s.cmp ∨ (enterReset c cause s).cmp = emptied s.cmp := by
  unfold enterReset
  split
  · exact .inl rfl
  · exact .inl ((Changes.ite (fun _ => onSup_changes _ s) fun _ => .refl).cmp)
  · exact .inl ((Changes.ite (fun _ => onSup_changes _ s) fun _ => .refl).cmp)
  · exact .inr (resetSteps_cmp c cause s)

/-- A self-diagnosis fault leaves the comparator as it is or empties it (R23, R97, R438). -/
theorem selfDiag_cmp (why : FaultReason) (s : State) : (selfDiag why s).cmp = s.cmp ∨ (selfDiag why s).cmp = emptied s.cmp := by
  have hd := (diagEvent_post_changes 0x0104 0 [Config.reasonCode why] s).cmp
  generalize hu : diagEvent (post 0x0104 0 [Config.reasonCode why] s) = u at hd
  simp only [selfDiag, hu, ← hd]
  split
  · refine .inr ?_
    have hc : (countFailure 0x31 [Config.reasonCode why] (enterSafe u)).cmp = emptied u.cmp :=
      (countFailure_changes _ _ _).cmp.trans (enterSafe_cmp u)
    split
    · split
      · rcases enterReset_cmp .s 0x12 (countFailure 0x31 [Config.reasonCode why] (enterSafe u)) with h | h <;> rw [h, hc]
        rfl
      · exact hc
    · exact enterSafe_cmp u
  · split
    · exact enterReset_cmp .s 0x10 u
    · exact .inl rfl

/-- A fault of the comparator shows its reason and its cell, and the verdict on the last divergence stands (R113). -/
theorem cmpFault_shown (n : Byte) (cell : BitVec 12) (why : FaultReason) (s : State) : let t := cmpFault n cell why s
    t.cmp.faultReason = n ∧ t.cmp.faultCell = cell ∧ t.cmp.divVerdict = s.cmp.divVerdict := by
  have h := selfDiag_cmp why (onCmp (fun m => { m with faultReason := n, faultCell := cell }) s)
  dsimp only [cmpFault]
  rcases h with h | h <;> rw [h] <;> exact ⟨rfl, rfl, rfl⟩

end Sys2Proof.Machine
end

section
/-! The rows of R95. -/

namespace Sys2Proof.Machine

variable {a b : Ckpt} {seen bad : Bool}

/-- Both check values are right (row 1 of R95). -/
def BothSound (a b : Ckpt) : Prop := crc16 (ckptBytes a) = a.check ∧ crc16 (ckptBytes b) = b.check

/-- Both entries stand at the same place of the program (row 3 of R95). -/
def SamePlace (a b : Ckpt) : Prop := a.kind = b.kind ∧ a.cell = b.cell ∧ a.ops = b.ops

theorem judge_broken (h : ¬BothSound a b) : judge seen bad a b = .queueCheck := by
  refine if_pos ?_
  simp only [entryBroken, Bool.or_eq_true, bne_iff_ne]
  exact not_and_or.mp h

/-- Past row 1 the code rail and the contents decide. -/
theorem judge_sound (h : BothSound a b) : judge seen bad a b =
    if bad then .code
    else if a.kind ≠ b.kind || a.cell ≠ b.cell || a.ops ≠ b.ops then .sequence
    else if a.sigOut ≠ b.sigOut && a.kind = 0 then .inputCopy
    else if a.sigOut ≠ b.sigOut then .output
    else if a.sigReg ≠ b.sigReg && !seen then .diverged
    else .equal := by
  obtain ⟨ha, hb⟩ := h
  exact if_neg (by simp [entryBroken, ha, hb])

theorem judge_code (h : BothSound a b) : judge seen true a b = .code := by
  rw [judge_sound h, if_pos rfl]

theorem judge_sequence (h : BothSound a b) (hn : ¬SamePlace a b) : judge seen false a b = .sequence := by
  rw [judge_sound h, if_neg Bool.false_ne_true, if_pos]
  simp only [Bool.or_eq_true, decide_eq_true_eq]
  unfold SamePlace at hn
  tauto

/-- Past row 3 the signatures decide. -/
theorem judge_signatures (h : BothSound a b) (hs : SamePlace a b) : judge seen false a b =
    if a.sigOut ≠ b.sigOut && a.kind = 0 then .inputCopy
    else if a.sigOut ≠ b.sigOut then .output
    else if a.sigReg ≠ b.sigReg && !seen then .diverged
    else .equal := by
  obtain ⟨hk, hc, ho⟩ := hs
  rw [judge_sound h, if_neg Bool.false_ne_true, if_neg (by simp [hk, hc, ho])]

theorem judge_inputCopy (h : BothSound a b) (hs : SamePlace a b) (ho : a.sigOut ≠ b.sigOut) (hk : a.kind = 0) :
    judge seen false a b = .inputCopy := by
  rw [judge_signatures h hs, if_pos (by simp [ho, hk])]

theorem judge_output (h : BothSound a b) (hs : SamePlace a b) (ho : a.sigOut ≠ b.sigOut) (hk : a.kind ≠ 0) :
    judge seen false a b = .output := by
  rw [judge_signatures h hs, if_neg (by simpa using fun _ => hk), if_pos ho]

theorem judge_registers (h : BothSound a b) (hs : SamePlace a b) (ho : a.sigOut = b.sigOut) :
    judge seen false a b = if a.sigReg ≠ b.sigReg ∧ seen = false then .diverged else .equal := by
  rw [judge_signatures h hs, if_neg (by simp [ho]), if_neg (by simp [ho])]
  simp only [Bool.and_eq_true, decide_eq_true_eq, Bool.not_eq_true']

/-- A finding of rows 3 to 5. -/
theorem judge_contents (h : BothSound a b) (hn : ¬SamePlace a b ∨ a.sigOut ≠ b.sigOut) :
    judge seen false a b ∈ [Verdict.sequence, .inputCopy, .output] := by
  by_cases hs : SamePlace a b
  · have ho := hn.resolve_left (not_not_intro hs)
    by_cases hk : a.kind = 0
    · simp [judge_inputCopy h hs ho hk]
    · simp [judge_output h hs ho hk]
  · simp [judge_sequence h hs]

end Sys2Proof.Machine
end

section
/-! CHECKPOINT_COMPARE and the stalls (R95, R97 to R99, R111). -/

namespace Sys2Proof.Machine

variable {s : State} {a b : Ckpt} {qa qb : List Ckpt} {bad : Bool} {v : Verdict} {n : Byte} {why : FaultReason} {l : Lane}

/-- The module with the pair off the queue (R93). -/
def pairTaken (a b : Ckpt) (qa qb : List Ckpt) (s : State) : State :=
  onCmp (fun m => { m with queueA := qa, queueB := qb, judged := m.judged + 1, marked := seenAfter a b s,
                           endJudged := m.endJudged || (a.kind == 3 && b.kind == 3) }) s

/-- What the closing of a cell lets go once its pair is judged (R95, R313). -/
def closedOutputs (a : Ckpt) (s : State) : State :=
  if s.sup.mode = .safe || s.sup.mode = .start then s
  else if a.kind = 2 || a.kind = 3 then sendClosed a.cell.toNat s else s

theorem closedOutputs_changes (a : Ckpt) (s : State) : Changes [.frg, .sent] s (closedOutputs a s) :=
  .ite (fun _ => .refl) fun _ => .ite (fun _ => sendClosed_changes _ s) fun _ => .refl

theorem closedOutputs_open (h2 : a.kind ≠ 2) (h3 : a.kind ≠ 3) (s : State) : closedOutputs a s = s := by
  unfold closedOutputs
  rw [if_neg (by simpa using ⟨h2, h3⟩ : ¬(a.kind = 2 || a.kind = 3) = true), ite_self]

theorem compareEntries_pair (hA : s.cmp.queueA = a :: qa) (hB : s.cmp.queueB = b :: qb) : compareEntries bad s =
    closedOutputs a (if s.cmp.mode = .rejoining then observedVerdict (judge s.cmp.marked.isSome bad a b) (pairTaken a b qa qb s)
      else checkedVerdict (judge s.cmp.marked.isSome bad a b) (a.cell.setWidth 12) (pairTaken a b qa qb s)) := by
  unfold compareEntries
  rw [hA, hB]
  rfl

/-! ### In Checked mode -/

theorem compareEntries_checked (hA : s.cmp.queueA = a :: qa) (hB : s.cmp.queueB = b :: qb) (hm : s.cmp.mode = .checked) :
    compareEntries bad s =
      closedOutputs a (checkedVerdict (judge s.cmp.marked.isSome bad a b) (a.cell.setWidth 12) (pairTaken a b qa qb s)) := by
  rw [compareEntries_pair hA hB, if_neg (by simp [hm])]

theorem seenAfter_checked (hm : s.cmp.mode = .checked) : seenAfter a b s = s.cmp.marked := if_neg (by simp [hm])

/-- A row of R95 that is a fault: CMP_FAULT shows it with the entry's cell, and the module in service is in Safe (R97). -/
theorem checkpointCompare_fault (hA : s.cmp.queueA = a :: qa) (hB : s.cmp.queueB = b :: qb) (hm : s.cmp.mode = .checked)
    (hj : judge s.cmp.marked.isSome bad a b = v) (hv : ∀ c t, checkedVerdict v c t = cmpFault n c why t) :
    Does (.checkpointCompare bad) s (fun t => t.cmp.faultReason = n ∧ t.cmp.faultCell = a.cell.setWidth 12 ∧
      (inService s = true → faultFailsStart s = false → t.sup.mode = .safe)) := by
  have he := compareEntries_checked (bad := bad) hA hB hm
  rw [hj, hv] at he
  have hc := closedOutputs_changes a (cmpFault n (a.cell.setWidth 12) why (pairTaken a b qa qb s))
  obtain ⟨hr, hcell, -⟩ := cmpFault_shown n (a.cell.setWidth 12) why (pairTaken a b qa qb s)
  refine ⟨_, congrArg Host.Outcome.next he, ?_⟩
  dsimp only
  rw [hc.cmp, hc.sup]
  exact ⟨hr, hcell, fun hi hf => selfDiag_safe hi hf⟩

/-- Entries with the same output signature, no cell closed: at most the cell is marked (rows 6 and 7 of R95). -/
theorem checkpointCompare_agree (hA : s.cmp.queueA = a :: qa) (hB : s.cmp.queueB = b :: qb) (hm : s.cmp.mode = .checked)
    (h : BothSound a b) (hs : SamePlace a b) (ho : a.sigOut = b.sigOut) (h2 : a.kind ≠ 2) (h3 : a.kind ≠ 3) :
    let popped : Cmp := { s.cmp with queueA := qa, queueB := qb, judged := s.cmp.judged + 1, endJudged := s.cmp.endJudged || (a.kind == 3 && b.kind == 3) }
    exec (.checkpointCompare false) s = .next { s with cmp :=
      if a.sigReg ≠ b.sigReg ∧ s.cmp.marked = none then { popped with marked := some (a.cell.setWidth 12 : BitVec 12).toNat } else popped } := by
  refine congrArg Host.Outcome.next ?_
  rw [compareEntries_checked hA hB hm, closedOutputs_open h2 h3, judge_registers h hs ho]
  simp only [Option.isSome_eq_false_iff, Option.isNone_iff_eq_none]
  split
  · rfl
  · simp only [checkedVerdict, pairTaken, seenAfter_checked hm]
    rfl

/-! ### In an observation cycle -/

theorem observedVerdict_queues (v : Verdict) (s : State) :
    (observedVerdict v s).cmp.queueA = s.cmp.queueA ∧ (observedVerdict v s).cmp.queueB = s.cmp.queueB := by
  cases v <;> exact ⟨rfl, rfl⟩

theorem observedVerdict_content (h : v ∈ [Verdict.sequence, .inputCopy, .output]) (s : State) : observedVerdict v s = observed false s := by
  simp only [List.mem_cons, List.not_mem_nil, or_false] at h
  rcases h with rfl | rfl | rfl <;> rfl

theorem observed_blocks (s : State) : (observed true s).cmp.obsMism = inc8 s.cmp.obsMism ∧ (observed true s).cmp.obsFault = true :=
  ⟨rfl, Bool.or_true _⟩

theorem observed_counts (s : State) : (observed false s).cmp.obsMism = inc8 s.cmp.obsMism ∧ (observed false s).cmp.obsFault = s.cmp.obsFault :=
  ⟨rfl, Bool.or_false _⟩

theorem compareEntries_observed (hA : s.cmp.queueA = a :: qa) (hB : s.cmp.queueB = b :: qb) (hm : s.cmp.mode = .rejoining) :
    (compareEntries bad s).cmp = (observedVerdict (judge s.cmp.marked.isSome bad a b) (pairTaken a b qa qb s)).cmp := by
  rw [compareEntries_pair hA hB, if_pos hm]
  exact (closedOutputs_changes a _).cmp

/-- A pair of an observation cycle: a finding is counted, a wrong check value or the code rail blocks a later rejoin (R110, R111). -/
theorem checkpointCompare_observed (hA : s.cmp.queueA = a :: qa) (hB : s.cmp.queueB = b :: qb) (hm : s.cmp.mode = .rejoining) :
    Does (.checkpointCompare bad) s (fun t => t.cmp.queueA = qa ∧ t.cmp.queueB = qb ∧
      (BothSound a b → bad = false → SamePlace a b → a.sigOut = b.sigOut → a.sigReg = b.sigReg → t.cmp.obsMism = s.cmp.obsMism) ∧
      (¬BothSound a b ∨ bad = true → t.cmp.obsMism = inc8 s.cmp.obsMism ∧ t.cmp.obsFault = true) ∧
      (BothSound a b → bad = false → SamePlace a b → a.sigOut = b.sigOut → a.sigReg ≠ b.sigReg →
        t.cmp.obsMism = if s.cmp.marked = none then inc8 s.cmp.obsMism else s.cmp.obsMism) ∧
      (BothSound a b → bad = false → (¬SamePlace a b ∨ a.sigOut ≠ b.sigOut) →
        t.cmp.obsMism = inc8 s.cmp.obsMism ∧ t.cmp.obsFault = s.cmp.obsFault)) := by
  refine ⟨_, rfl, ?_⟩
  dsimp only
  rw [compareEntries_observed hA hB hm]
  obtain ⟨hqa, hqb⟩ := observedVerdict_queues (judge s.cmp.marked.isSome bad a b) (pairTaken a b qa qb s)
  refine ⟨hqa, hqb, fun h hb hs ho hr => ?_, fun h => ?_, fun h hb hs ho hr => ?_, fun h hb hn => ?_⟩
  · subst hb
    rw [judge_registers h hs ho, if_neg (by simp [hr])]
    rfl
  · by_cases hs : BothSound a b
    · rw [h.resolve_left (not_not_intro hs), judge_code hs]
      exact observed_blocks _
    · rw [judge_broken hs]
      exact observed_blocks _
  · subst hb
    rw [judge_registers h hs ho]
    cases s.cmp.marked with
    | none => rw [if_pos ⟨hr, rfl⟩]; rfl
    | some c => rw [if_neg (by simp)]; rfl
  · subst hb
    rw [observedVerdict_content (judge_contents h hn)]
    exact observed_counts _

/-! ### Stalls -/

theorem compareStalled_fault (hA : s.cmp.queueA = a :: qa) (hB : s.cmp.queueB = b :: qb) (hm : s.cmp.mode ≠ .rejoining) :
    compareStalled s = cmpFault 8 (a.cell.setWidth 12) .stalledCompare s := by
  unfold compareStalled
  rw [hA, hB]
  exact if_neg hm

theorem laneStalled_fault (ho : (lane s (other l)).st = .ended) (hr : (lane s l).st = .running) (hm : s.cmp.mode = .checked) :
    laneStalled l s = cmpFault 9 ((freeVal s).setWidth 12) .stalledLane (takeFree s) := by
  unfold laneStalled
  rw [if_pos (by simp [ho, hr, hm]), if_neg (by simp [hm])]

end Sys2Proof.Machine
end

section
/-! A completed compare (R63, R96, R100). -/

namespace Sys2Proof.Machine

variable {s : State}

/-- The output words committed to both lanes and the image, with the cycle's time and count (R63, R96). -/
def outputsCommitted (s : State) : State :=
  let dt := nowUs s - s.cyc.openUs
  let us : BitVec 20 := if dt > 0xFFFFF then 0xFFFFF else BitVec.ofNat 20 dt
  let img := commitImage s
  onCyc (fun c => { c with outImg := img, execLast := us, execMax := if c.execMax < us then us else c.execMax, opsLast := s.nibA.ops })
    { s with nibA := { s.nibA with outs := img }, nibB := { s.nibB with outs := img } }

/-- The signatures kept; in Split mode none are (R96, R108). -/
def signaturesKept (s : State) : State :=
  if s.cmp.mode = .split then s else
    onCmp (fun m => { m with sigOutA := s.nibA.sigOut, sigOutB := s.nibB.sigOut, sigRegA := s.nibA.sigReg, sigRegB := s.nibB.sigReg }) s

/-- A cell marked in Checked mode shown as diverged (R100). -/
def divergenceShown (s : State) : State :=
  match s.cmp.mode, s.cmp.marked with
  | .checked, some c => setCell c (fun x => { x with divergedAt := some (nowUs s) }) (onCmp (fun m => { m with evt := setBit m.evt 0 }) s)
  | _, _ => s

/-- An observation cycle counted (R111). -/
def observationCounted (s : State) : State := if s.cmp.mode = .rejoining then onCmp (fun m => { m with obs := m.obs + 1 }) s else s

theorem finishCompare_eq (s : State) :
    finishCompare s = cellStatus (observationCounted (divergenceShown (signaturesKept (outputsCommitted s)))) := rfl

/-- What a completed compare leaves behind, beside the comparator (R96). -/
def Committed (img : Tab Word) (ops : Word) (t : State) : Prop :=
  t.cyc.outImg = img ∧ t.nibA.outs = img ∧ t.nibB.outs = img ∧ t.cyc.opsLast = ops

variable {img : Tab Word} {ops : Word}

theorem outputsCommitted_committed (s : State) : Committed (commitImage s) s.nibA.ops (outputsCommitted s) := ⟨rfl, rfl, rfl, rfl⟩

theorem signaturesKept_committed (s : State) : Keeps (Committed img ops) s (signaturesKept s) :=
  .ite (fun _ => .refl) fun _ => id

theorem setCell_committed (n : Nat) (f : CellSt → CellSt) (s : State) : Keeps (Committed img ops) s (setCell n f s) := id

theorem divergenceShown_committed (s : State) : Keeps (Committed img ops) s (divergenceShown s) := by
  unfold divergenceShown
  split
  · exact setCell_committed _ _ _
  · exact .refl

theorem observationCounted_committed (s : State) : Keeps (Committed img ops) s (observationCounted s) :=
  .ite (fun _ => id) fun _ => .refl

theorem cellStatus_committed (s : State) : Keeps (Committed img ops) s (cellStatus s) :=
  .each (fun _ _ => setCell_committed _ _ _) .refl

theorem finishCompare_committed (s : State) : Committed (commitImage s) s.nibA.ops (finishCompare s) :=
  cellStatus_committed _ (observationCounted_committed _ (divergenceShown_committed _ (signaturesKept_committed _ (outputsCommitted_committed s))))

/-- The signatures of both lanes as the comparator keeps them (R96). -/
def keptSignatures (m : Cmp) : Word × Word × Word × Word := (m.sigOutA, m.sigOutB, m.sigRegA, m.sigRegB)

/-- Showing a divergence sets a bit of the comparator's sticky bits and no more. -/
theorem divergenceShown_cmp (s : State) : (divergenceShown s).cmp = { s.cmp with evt := (divergenceShown s).cmp.evt } := by
  unfold divergenceShown
  split <;> rfl

theorem divergenceShown_signatures (s : State) : keptSignatures (divergenceShown s).cmp = keptSignatures s.cmp := by
  rw [divergenceShown_cmp]
  rfl

theorem observationCounted_signatures (s : State) : keptSignatures (observationCounted s).cmp = keptSignatures s.cmp := by
  unfold observationCounted
  split <;> rfl

theorem signaturesKept_compared (h : s.cmp.mode ≠ .split) : signaturesKept s = onCmp (fun m =>
    { m with sigOutA := s.nibA.sigOut, sigOutB := s.nibB.sigOut, sigRegA := s.nibA.sigReg, sigRegB := s.nibB.sigReg }) s := if_neg h

theorem signaturesKept_counts (s : State) : (signaturesKept s).cmp.mode = s.cmp.mode ∧ (signaturesKept s).cmp.obs = s.cmp.obs := by
  unfold signaturesKept
  split <;> exact ⟨rfl, rfl⟩

theorem finishCompare_signatures (h : s.cmp.mode ≠ .split) :
    keptSignatures (finishCompare s).cmp = (s.nibA.sigOut, s.nibB.sigOut, s.nibA.sigReg, s.nibB.sigReg) := by
  rw [finishCompare_eq, (cellStatus_changes _).cmp, observationCounted_signatures, divergenceShown_signatures,
    signaturesKept_compared (s := outputsCommitted s) h]
  rfl

theorem finishCompare_obs (h : s.cmp.mode = .rejoining) : (finishCompare s).cmp.obs = s.cmp.obs + 1 := by
  obtain ⟨hm, ho⟩ := signaturesKept_counts (outputsCommitted s)
  have hd := divergenceShown_cmp (signaturesKept (outputsCommitted s))
  rw [finishCompare_eq, (cellStatus_changes _).cmp, observationCounted, if_pos (by rw [hd]; exact hm.trans h), onCmp_cmp, hd]
  exact congrArg (· + 1) ho

theorem compareComplete_ready (hp : s.cyc.phase = .window) (hl : s.cyc.late = false) (hr : compareReady s = true) :
    compareComplete s = onCyc (fun c => { c with phase := .compared }) (finishCompare s) := if_pos (by simp [hp, hl, hr])

end Sys2Proof.Machine
end

section
/-! The verdict on a divergence (R101 to R103). -/

namespace Sys2Proof.Machine

variable {s : State}

/-- The digests of the marked cell's data range agree (R101). -/
def DigestsAgree (s : State) : Prop :=
  rangeDigest s.nibA (cellCfg s s.cmp.divCell.toNat) = rangeDigest s.nibB (cellCfg s s.cmp.divCell.toNat)

theorem digestComplete_differ (hp : s.cmp.divPend = true) (h : ¬DigestsAgree s) : digestComplete s =
    cmpFault 4 s.cmp.divCell .dataDigest (onCmp (fun m => { m with divPend := false, divVerdict := 3 }) s) := by
  unfold digestComplete
  rw [if_neg (by simp [hp])]
  exact if_pos h

theorem digestComplete_agree (hp : s.cmp.divPend = true) (h : DigestsAgree s) : digestComplete s =
    if ninth s then cmpFault 5 s.cmp.divCell .persistent (onCmp (fun m => { m with divPend := false }) s)
    else benign s.cmp.divCell.toNat s := by
  unfold digestComplete
  rw [if_neg (by simp [hp])]
  exact if_neg (not_not_intro h)

/-- A benign divergence is counted, and Nib B goes on with Nib A's registers (R102). -/
theorem benign_done (c : Nat) (s : State) : (benign c s).nibB = { s.nibB with g := s.nibA.g } ∧ (benign c s).cmp.divVerdict = 2 ∧
    (benign c s).cmp.benignTotal = inc16 s.cmp.benignTotal ∧ (benign c s).cmp.divPend = false ∧ (benign c s).sup = s.sup := by
  have hc := postCell_changes 0x0201 0 c [BitVec.ofNat 32 c, s.cmp.divCycle] s
  simp only [benign, onCmp_nibA, onCmp_nibB, onCmp_cmp, onCmp_sup, hc.nibA, hc.nibB, hc.cmp, hc.sup, and_self]

end Sys2Proof.Machine

open Sys2Proof Sys2Proof.Machine

/-- Settles O25: a pair by its row of R95, a fault by what `cmpFault` shows, a completed compare by what each of its parts keeps. -/
theorem comparator : Obligations.Comparator := by
  refine ⟨fun s a b qa qb bad hA hB => ⟨fun hm => ⟨fun h => ?_, fun h hb => ?_, fun h hb hn => ?_, fun h hb hs ho hk => ?_,
      fun h hb hs ho hk => ?_, fun h hb hs ho h2 h3 => ?_⟩, checkpointCompare_observed hA hB, fun hm => ?_⟩,
    fun l s ho hr hm => ?_, fun s hp hl hr => ?_, fun s hp => ⟨fun hd => ?_, fun hd hn => ?_, fun hd hn => ?_⟩⟩
  · exact checkpointCompare_fault hA hB hm (judge_broken h) fun _ _ => rfl
  · subst hb
    exact checkpointCompare_fault hA hB hm (judge_code h) fun _ _ => rfl
  · subst hb
    exact checkpointCompare_fault hA hB hm (judge_sequence h hn) fun _ _ => rfl
  · subst hb
    exact checkpointCompare_fault hA hB hm (judge_inputCopy h hs ho hk) fun _ _ => rfl
  · subst hb
    exact checkpointCompare_fault hA hB hm (judge_output h hs ho hk) fun _ _ => rfl
  · subst hb
    exact checkpointCompare_agree hA hB hm h hs ho h2 h3
  · obtain ⟨hr, hc, -⟩ := cmpFault_shown 8 (a.cell.setWidth 12) .stalledCompare s
    exact ⟨_, congrArg Host.Outcome.next (compareStalled_fault hA hB hm), hr, hc⟩
  · exact ⟨_, congrArg Host.Outcome.next (laneStalled_fault ho hr hm), (cmpFault_shown 9 _ _ _).1⟩
  · obtain ⟨himg, hA, hB, hops⟩ := finishCompare_committed s
    exact ⟨_, congrArg Host.Outcome.next (compareComplete_ready hp hl hr), rfl, himg, hA, hB, hops, finishCompare_signatures, finishCompare_obs⟩
  · exact ⟨_, congrArg Host.Outcome.next (digestComplete_differ hp hd), cmpFault_shown 4 _ _ _⟩
  · obtain ⟨hr, hc, -⟩ := cmpFault_shown 5 s.cmp.divCell .persistent (onCmp (fun m => { m with divPend := false }) s)
    exact ⟨_, congrArg Host.Outcome.next ((digestComplete_agree hp hd).trans (if_pos hn)), hr, hc⟩
  · exact ⟨_, congrArg Host.Outcome.next ((digestComplete_agree hp hd).trans (if_neg (by simp [hn]))), benign_done _ s⟩
end

section
/-! The law of a loop slot (R118 to R121, R124, R128, R130, R481). -/

namespace Sys2Proof.Machine

/-! ### The terms of a sample -/

/-- The direction of action (R118). -/
def lawSign (c : LoopCfg) : Word := if c.direct then 0xBF800000 else f1

/-- The setpoint under a weight less the process value, both in percent of the PV span, in the direction of action: E, and what P and
D act on (R118). -/
def lawDiff (c : LoopCfg) (weight : Word → Word) (x : LoopSt) : Word :=
  fmul (lawSign c) (fsub (weight (pvPercent x x.sp)) (pvPercent x x.pv))

/-- The slot with the gains of the sample (R119, R120). -/
def lawGains (c : LoopCfg) (ff : Word) (x : LoopSt) : LoopSt :=
  loopGains x (schedVar c x (pvPercent x x.pv) (pvPercent x x.sp) ff)

/-- The proportional term. -/
def lawP (c : LoopCfg) (ff : Word) (x : LoopSt) : Word := fmul (lawGains c ff x).kp (lawDiff c (fmul (lpar x 9)) x)

/-- Feed-forward and bias (R118). -/
def lawFf (ff : Word) (x : LoopSt) : Word := fadd (fmul (lpar x 12) ff) (lpar x 13)

/-- The integrator: at a hand-over what is missing to the delivered output, else stepped where Ti is above 0 (R118, R124). -/
def lawI (c : LoopCfg) (reset : Bool) (ff : Word) (x : LoopSt) : Word :=
  let g := lawGains c ff x
  if reset then fsub x.out (fadd (lawP c ff x) (lawFf ff x))
  else if flt f0 g.ti then fadd x.i (fmul (fdiv (fmul g.kp (loopTs c)) g.ti) (lawDiff c id x))
  else x.i

/-- The filtered derivative, 0 at a hand-over (R118, R124). -/
def lawD (c : LoopCfg) (reset : Bool) (ff : Word) (x : LoopSt) : Word :=
  let g := lawGains c ff x
  let tf := fdiv g.td (lpar x 11)
  let den := fadd tf (loopTs c)
  if reset then f0
  else fadd (fmul (fdiv tf den) x.d) (fmul (fdiv (fmul g.kp g.td) den) (fsub (lawDiff c (fmul (lpar x 10)) x) x.edPrev))

/-- P + I + D + FF + bias (R118). -/
def lawTotal (c : LoopCfg) (reset : Bool) (ff : Word) (x : LoopSt) : Word :=
  fadd (fadd (fadd (lawP c ff x) (lawI c reset ff x)) (lawD c reset ff x)) (lawFf ff x)

/-! ### The law by its terms -/

variable {c : LoopCfg} {reset : Bool} {ff : Word} {x : LoopSt}

/-- The gains of a sample change no term of the law, and neither the candidate nor the delivered output. -/
theorem loopGains_terms (x : LoopSt) (v : Word) : let y := loopGains x v
    y.p = x.p ∧ y.i = x.i ∧ y.d = x.d ∧ y.cand = x.cand ∧ y.out = x.out ∧ y.edPrev = x.edPrev := by
  unfold loopGains
  dsimp only
  split
  · split <;> exact ⟨rfl, rfl, rfl, rfl, rfl, rfl⟩
  · exact ⟨rfl, rfl, rfl, rfl, rfl, rfl⟩

@[simp] theorem lawGains_out : (lawGains c ff x).out = x.out := by
  obtain ⟨-, -, -, -, hout, -⟩ := loopGains_terms x (schedVar c x (pvPercent x x.pv) (pvPercent x x.sp) ff)
  exact hout

/-- Without a result a sample keeps the gains, the error and the feed-forward, and what hand-over it was to make (R481). -/
theorem loopLaw_of_nan (h : fnan (lawTotal c reset ff x) = true) : loopLaw c reset ff x =
    { lawGains c ff x with err := lawDiff c id x, ff := lawFf ff x, stNan := true, pend := reset } := if_pos h

/-- With a result it takes its terms over; the candidate is the delivered output at a hand-over, else the total within the limits
(R118, R121, R124). -/
theorem loopLaw_of_result (h : fnan (lawTotal c reset ff x) = false) :
    let cand := if reset then x.out else clampTo (lawTotal c reset ff x) (loopLimits x).1 (loopLimits x).2.1
    loopLaw c reset ff x = { lawGains c ff x with
      p := lawP c ff x, i := lawI c reset ff x, d := lawD c reset ff x, edPrev := lawDiff c (fmul (lpar x 10)) x, ff := lawFf ff x,
      err := lawDiff c id x, cand := cand, begun := true, pend := false, stLim := !reset && !feq cand (lawTotal c reset ff x) } :=
  if_neg (Bool.eq_false_iff.mp h)

theorem loopLaw_discarded (h : fnan (lawTotal c reset ff x) = true) : let y := loopLaw c reset ff x
    ((y.p, y.i, y.d, y.cand, y.out, y.edPrev) = (x.p, x.i, x.d, x.cand, x.out, x.edPrev) ∧ y.stNan = true) ∧ y.pend = reset := by
  rw [loopLaw_of_nan h]
  obtain ⟨hp, hi, hd, hcand, hout, hed⟩ := loopGains_terms x (schedVar c x (pvPercent x x.pv) (pvPercent x x.sp) ff)
  simp only [lawGains, hp, hi, hd, hcand, hout, hed, and_self]

theorem loopLaw_sampled (h : fnan (lawTotal c false ff x) = false) : let y := loopLaw c false ff x
    y.p = lawP c ff x ∧ y.i = lawI c false ff x ∧ y.d = lawD c false ff x ∧ y.edPrev = lawDiff c (fmul (lpar x 10)) x ∧
      y.err = lawDiff c id x ∧ y.out = x.out ∧ y.begun = true ∧
      y.cand = clampTo (lawTotal c false ff x) (loopLimits x).1 (loopLimits x).2.1 := by
  rw [loopLaw_of_result h]
  exact ⟨rfl, rfl, rfl, rfl, rfl, lawGains_out, rfl, rfl⟩

theorem loopLaw_handedOver (h : fnan (lawTotal c true ff x) = false) : let y := loopLaw c true ff x
    y.cand = x.out ∧ y.out = x.out ∧ y.d = 0 ∧ y.p = lawP c ff x ∧ y.i = lawI c true ff x ∧
      y.edPrev = lawDiff c (fmul (lpar x 10)) x ∧ y.begun = true ∧ y.pend = false := by
  rw [loopLaw_of_result h]
  exact ⟨rfl, lawGains_out, rfl, rfl, rfl, rfl, rfl, rfl⟩

end Sys2Proof.Machine

open Sys2Proof Sys2Proof.Machine

/-- Settles O28: a sample and a hand-over, each with a result and without one. -/
theorem loopLaw : Obligations.LoopLaw := fun _ _ _ =>
  ⟨loopLaw_sampled, fun h => (loopLaw_discarded (reset := false) h).1, loopLaw_handedOver, loopLaw_discarded (reset := true)⟩
end

section
/-! Requests of a session that write a register of the loop engine (R117, R123, R142, R144, R331). -/

namespace Sys2Proof.Machine

variable {r : Req} {lvl : BitVec 2} {s t : State} {c : Instr} {f : Who → State → Written} {g : State → Written} {k : Fin 128}
  {j : Fin 16} {v : Word} {q : Nat}

/-! ### Admitted writes -/

/-- The writer that an admitted request makes of its session. -/
def writer (r : Req) (s : State) : Who := .sess r.sess (levelOf (admitted r s) r.sess)

/-- A write of an admitted request is carried out on the admitted state and answered with its status. -/
theorem sessionWrites_admitted (h : admits r lvl s = true) (hd : s.sup.mode ≠ .decaf) :
    sessionWrites r f s = reply r (f (writer r s) (admitted r s)).1 [] (f (writer r s) (admitted r s)).2 :=
  screenReq_ok (admits_mono h (lvView_le lvl)) (.inl hd)

/-- The level of the request is the level of the writer (R331). -/
theorem byLevel_writer (h : admits r lvView s = true) :
    byLevel (writer r s) lvl g t = if admits r lvl s = true then g t else refuse stAccess t :=
  if_congr (decide_eq_true_iff.trans (admits_iff_level h lvl).symm) rfl rfl

theorem exec_written (h : admits r lvl s = true) (hd : s.sup.mode ≠ .decaf)
    (he : exec c s = .next (sessionWrites r (fun w => byLevel w lvl g) s)) :
    exec c s = .next (reply r (g (admitted r s)).1 [] (g (admitted r s)).2) := by
  rw [he, sessionWrites_admitted h hd, byLevel_writer (admits_mono h (lvView_le lvl)), if_pos h]

/-- A write that replaces the loop engine's record alone, on every state that agrees with this one outside the plant network. -/
theorem does_written {l : Lpe} (h : admits r lvl s = true) (hd : s.sup.mode ≠ .decaf)
    (he : exec c s = .next (sessionWrites r (fun w => byLevel w lvl g) s))
    (hg : ∀ p, g { s with pnw := p } = done { s with pnw := p, lpe := l }) :
    Does c s (fun t => t.lpe = l ∧ Answered r 0 [] s t) := by
  obtain ⟨p, hp⟩ := admitted_eq r s
  have hw : g (admitted r s) = done { admitted r s with lpe := l } := by rw [hp, hg]
  have he := exec_written h hd he
  rw [hw] at he
  exact (does_answered h he rfl admitted_sent).mono fun t ⟨ha, ht⟩ => ⟨congrArg State.lpe ht, ha⟩

/-- A write refused with a status, on every state that agrees with this one outside the plant network. -/
theorem exec_refused {st : BitVec 16} (h : admits r lvl s = true) (hd : s.sup.mode ≠ .decaf)
    (he : exec c s = .next (sessionWrites r (fun w => byLevel w lvl g) s))
    (hg : ∀ p, g { s with pnw := p } = refuse st { s with pnw := p }) : exec c s = .next (reply r st [] (admitted r s)) := by
  obtain ⟨p, hp⟩ := admitted_eq r s
  have hw : g (admitted r s) = refuse st (admitted r s) := by rw [hp, hg]
  rw [exec_written h hd he, hw, refuse]

theorem exec_refusedLevel (h : admits r lvView s = true) (hl : admits r lvl s = false) (hd : s.sup.mode ≠ .decaf)
    (he : exec c s = .next (sessionWrites r (fun w => byLevel w lvl g) s)) :
    exec c s = .next (reply r stAccess [] (admitted r s)) := by
  rw [he, sessionWrites_admitted h hd, byLevel_writer h, if_neg (by simp [hl]), refuse]

/-! ### The registers -/

theorem lpeWrite_slot (k : Fin 128) (v : Word) (hq : q = 8 ∨ q = 0x18 ∨ q = 0x1C) (w : Who) :
    lpeWrite w (0x1000 + q + 0x100 * k.val) v = byLevel w lvOperate (loopSlotWrite k q v) := by
  have hslot : (0x1000 + q + 0x100 * k.val - 0x1000) / 0x100 = k.val := by omega
  have hreg : (0x1000 + q + 0x100 * k.val - 0x1000) % 0x100 = q := by omega
  funext s
  simp only [lpeWrite, hslot, hreg]
  rw [if_neg (by omega), if_neg (by simp; omega), if_pos (by simp; omega), if_pos (by simpa [or_assoc] using hq)]

theorem lpeWrite_trace (j : Fin 16) (v : Word) (hq : q < 0x20) (w : Who) (s : State) :
    lpeWrite w (0x400 + 0x20 * j.val + q) v s =
      if q = 0 || q = 4 || q = 8 then byLevel w lvEngineer (traceCfgWrite j q v) s
      else if q = 0xC then byLevel w lvEngineer (traceCmdWrite j v) s else refuse stAccess s := by
  have hchan : (0x400 + 0x20 * j.val + q - 0x400) / 0x20 = j.val := by omega
  have hreg : (0x400 + 0x20 * j.val + q - 0x400) % 0x20 = q := by omega
  simp only [lpeWrite, hchan, hreg]
  rw [if_neg (by omega), if_pos (by simp; omega)]

theorem lpeWrite_traceCmd (j : Fin 16) (v : Word) (w : Who) :
    lpeWrite w (0x40C + 0x20 * j.val) v = byLevel w lvEngineer (traceCmdWrite j v) := by
  funext s
  rw [show 0x40C + 0x20 * j.val = 0x400 + 0x20 * j.val + 0xC by omega, lpeWrite_trace j v (by omega)]
  rfl

/-- The offset of a configuration register in its trace channel (R144). -/
def traceOffset : TraceReg → Nat
  | .cfg => 0
  | .trig => 4
  | .level => 8

theorem lpeWrite_traceCfg (j : Fin 16) (reg : TraceReg) (v : Word) (w : Who) :
    lpeWrite w (0x400 + 0x20 * j.val + traceOffset reg) v = byLevel w lvEngineer (traceCfgWrite j (traceOffset reg) v) := by
  funext s
  cases reg <;> exact lpeWrite_trace j v (by decide) w s

/-- A command that writes the register at an offset. -/
theorem exec_of_register {off : Nat} (he : exec c s = .next (sessionWrites r (fun w => lpeWrite w off v) s))
    (ho : ∀ w, lpeWrite w off v = byLevel w lvl g) : exec c s = .next (sessionWrites r (fun w => byLevel w lvl g) s) := by
  rw [he, funext ho]

theorem exec_operatorModeRequest : exec (.operatorModeRequest r k v) s =
    .next (sessionWrites r (fun w => byLevel w lvOperate (loopSlotWrite k 8 v)) s) :=
  exec_of_register rfl (lpeWrite_slot k v (.inl rfl))

theorem exec_operatorSetpointWrite : exec (.operatorSetpointWrite r k v) s =
    .next (sessionWrites r (fun w => byLevel w lvOperate (loopSlotWrite k 0x18 v)) s) :=
  exec_of_register rfl (lpeWrite_slot k v (.inr (.inl rfl)))

theorem exec_manualValueWrite : exec (.manualValueWrite r k v) s =
    .next (sessionWrites r (fun w => byLevel w lvOperate (loopSlotWrite k 0x1C v)) s) :=
  exec_of_register rfl (lpeWrite_slot k v (.inr (.inr rfl)))

theorem exec_traceArm : exec (.traceArm r j) s = .next (sessionWrites r (fun w => byLevel w lvEngineer (traceCmdWrite j 1)) s) :=
  exec_of_register rfl (lpeWrite_traceCmd j 1)

theorem exec_traceForce : exec (.traceForce r j) s = .next (sessionWrites r (fun w => byLevel w lvEngineer (traceCmdWrite j 2)) s) :=
  exec_of_register rfl (lpeWrite_traceCmd j 2)

theorem exec_traceStop : exec (.traceStop r j) s = .next (sessionWrites r (fun w => byLevel w lvEngineer (traceCmdWrite j 4)) s) :=
  exec_of_register rfl (lpeWrite_traceCmd j 4)

theorem exec_traceConfigWrite (reg : TraceReg) : exec (.traceConfigWrite r j reg v) s =
    .next (sessionWrites r (fun w => byLevel w lvEngineer (traceCfgWrite j (traceOffset reg) v)) s) :=
  exec_of_register (by cases reg <;> rfl) (lpeWrite_traceCfg j reg v)

end Sys2Proof.Machine
end

section
/-! The operator's writes to a loop slot (R117, R123, R144, R481). -/

namespace Sys2Proof.Machine

variable {r : Req} {s : State} {k : Fin 128} {v : Word} {q : Nat}

/-- What a slot takes over from the write of the register at an offset (R144). -/
def slotTaken (q : Nat) (v : Word) (x : LoopSt) : LoopSt :=
  if q = 8 then { x with opReq := some (v.setWidth 2) } else if q = 0x18 then { x with spop := v } else { x with man := v }

theorem loopSlotWrite_taken (hr : inRun s = true) (hi : (iget s.img.loops k.val).isSome = true) (hv : q = 8 ∨ fnan v = false) :
    loopSlotWrite k q v s = done { s with lpe := { s.lpe with slots := tmod {} s.lpe.slots k.val (slotTaken q v) } } := by
  have hn : (q != 8 && fnan v) = false := by rcases hv with rfl | hv <;> simp [*]
  unfold loopSlotWrite
  rw [if_neg (by simp [hr]), if_neg (by simp [Option.ne_none_iff_isSome.mpr hi]), if_neg (by simp [hn])]
  rfl

theorem loopSlotWrite_nan (hr : inRun s = true) (hq : q ≠ 8) (hv : fnan v = true) : loopSlotWrite k q v s = refuse stRange s := by
  unfold loopSlotWrite
  rw [if_neg (by simp [hr]), if_pos (by simp [hq, hv] : (q != 8 && fnan v) = true), ite_self]

theorem loopSlotWrite_noLoop (hr : inRun s = true) (hi : iget s.img.loops k.val = none) :
    loopSlotWrite k q v s = refuse stRange s := by
  unfold loopSlotWrite
  rw [if_neg (by simp [hr]), if_pos (by simp [hi])]

theorem loopSlotWrite_state (hr : inRun s = false) : loopSlotWrite k q v s = refuse stState s := if_pos (by simp [hr])

end Sys2Proof.Machine
end

section
/-! The commands and the configuration of a trace channel (R141, R142, R144). -/

namespace Sys2Proof.Machine

variable {r : Req} {s : State} {j : Fin 16} {v : Word} {c : Instr} {P : Prop} [Decidable P] {l : Lpe} {q : Nat}

/-- Trace channel j. -/
def traceChan (s : State) (j : Fin 16) : TraceSt := tget {} s.lpe.traces j.val

/-- The loop engine with trace channel j replaced. -/
def withTrace (s : State) (j : Fin 16) (y : TraceSt) : Lpe := { s.lpe with traces := tput {} s.lpe.traces j.val y }

/-- A channel under way: between ARM and its end (R142). -/
theorem traceBusy_iff {y : TraceSt} : traceBusy y = true ↔ y.st = .armed ∨ y.st = .capturing ∨ y.st = .shed := by
  simp [traceBusy, or_assoc]

/-! ### Commands -/

/-- A trace channel as ARM leaves it (R141, log 121). -/
def traceArmed (s : State) (y : TraceSt) : TraceSt :=
  { y with st := armState s, linked := false, count := 0, decim := 0, post := 0, capshed := false, trunc := false, last := fNaN,
           fired := false }

/-- A write that replaces the loop engine's record under a condition. -/
theorem ite_done : (if P then done { s with lpe := l } else done s) = done { s with lpe := if P then l else s.lpe } := by
  split <;> rfl

theorem traceCmdWrite_arm : traceCmdWrite j 1 s = done { s with
      lpe := if ¬traceBusy (traceChan s j) = true ∧ (traceChan s j).cfg.getLsbD 31 = true ∧ s.sup.mode ≠ .hold
        then withTrace s j (traceArmed s (traceChan s j)) else s.lpe } := by
  rw [← ite_done, ← ite_not]
  exact if_congr (by simp [traceChan, imp_iff_not_or, or_assoc]) rfl rfl

theorem traceCmdWrite_force : traceCmdWrite j 2 s = done { s with
      lpe := if (traceChan s j).st = .armed ∧ s.sup.mode ≠ .hold
        then withTrace s j (traceFire (nowUs s) (traceChan s j)) else s.lpe } := by
  rw [← ite_done]
  exact if_congr (by simp [traceChan]) rfl rfl

theorem traceCmdWrite_stop : traceCmdWrite j 4 s = done { s with
      lpe := if traceBusy (traceChan s j) = true ∧ s.sup.mode ≠ .hold
        then withTrace s j { traceChan s j with st := .idle } else s.lpe } := by
  rw [← ite_done]
  exact if_congr (by simp [traceChan]) rfl rfl

/-- A command that reaches its channel under a condition, and is accepted without effect otherwise. -/
theorem does_traceCmd {cmd : Word} {y : TraceSt} (h : admits r lvEngineer s = true) (hd : s.sup.mode ≠ .decaf)
    (he : exec c s = .next (sessionWrites r (fun w => byLevel w lvEngineer (traceCmdWrite j cmd)) s))
    (hg : ∀ p, traceCmdWrite j cmd { s with pnw := p } = done { s with pnw := p, lpe := if P then withTrace s j y else s.lpe }) :
    (P → Does c s (fun t => t.lpe = withTrace s j y ∧ Answered r 0 [] s t)) ∧
      (¬P → Does c s (fun t => t.lpe = s.lpe ∧ Answered r 0 [] s t)) :=
  have hw := does_written h hd he hg
  ⟨fun hP => hw.mono fun _ ⟨hl, ha⟩ => ⟨hl.trans (if_pos hP), ha⟩, fun hP => hw.mono fun _ ⟨hl, ha⟩ => ⟨hl.trans (if_neg hP), ha⟩⟩

theorem does_traceArm (h : admits r lvEngineer s = true) (hd : s.sup.mode ≠ .decaf) :
    let P := ¬traceBusy (traceChan s j) = true ∧ (traceChan s j).cfg.getLsbD 31 = true ∧ s.sup.mode ≠ .hold
    (P → Does (.traceArm r j) s (fun t => t.lpe = withTrace s j (traceArmed s (traceChan s j)) ∧ Answered r 0 [] s t)) ∧
      (¬P → Does (.traceArm r j) s (fun t => t.lpe = s.lpe ∧ Answered r 0 [] s t)) :=
  does_traceCmd h hd exec_traceArm fun _ => traceCmdWrite_arm

theorem does_traceForce (h : admits r lvEngineer s = true) (hd : s.sup.mode ≠ .decaf) :
    let P := (traceChan s j).st = .armed ∧ s.sup.mode ≠ .hold
    (P → Does (.traceForce r j) s (fun t => t.lpe = withTrace s j (traceFire (nowUs s) (traceChan s j)) ∧ Answered r 0 [] s t)) ∧
      (¬P → Does (.traceForce r j) s (fun t => t.lpe = s.lpe ∧ Answered r 0 [] s t)) :=
  does_traceCmd h hd exec_traceForce fun _ => traceCmdWrite_force

theorem does_traceStop (h : admits r lvEngineer s = true) (hd : s.sup.mode ≠ .decaf) :
    let P := traceBusy (traceChan s j) = true ∧ s.sup.mode ≠ .hold
    (P → Does (.traceStop r j) s (fun t => t.lpe = withTrace s j { traceChan s j with st := .idle } ∧ Answered r 0 [] s t)) ∧
      (¬P → Does (.traceStop r j) s (fun t => t.lpe = s.lpe ∧ Answered r 0 [] s t)) :=
  does_traceCmd h hd exec_traceStop fun _ => traceCmdWrite_stop

/-! ### Configuration -/

theorem traceCfgWrite_level : traceCfgWrite j 8 v s =
    done { s with lpe := withTrace s j { traceChan s j with level := v } } := rfl

theorem traceCfgWrite_busy (hq : q ≠ 8) (hb : traceBusy (traceChan s j) = true) : traceCfgWrite j q v s = refuse stState s :=
  (if_neg hq).trans (if_pos hb)

theorem traceCfgWrite_cfg (hb : ¬traceBusy (traceChan s j) = true) (hsig : v.toNat / 0x100000 % 16 ≤ 10)
    (hon : v.getLsbD 31 = true → (iget s.img.loops (v.toNat / 0x1000000 % 128)).isSome = true) :
    traceCfgWrite j 0 v s = done { s with lpe := withTrace s j { traceChan s j with cfg := v &&& 0xFFF0FFFF } } := by
  refine (if_neg hb).trans ((if_pos rfl).trans (if_neg ?_))
  simpa [← Option.isSome_iff_ne_none] using And.intro hsig hon

theorem traceCfgWrite_cfgUndefined (hb : ¬traceBusy (traceChan s j) = true) (hsig : 10 < v.toNat / 0x100000 % 16) :
    traceCfgWrite j 0 v s = refuse stRange s := by
  refine (if_neg hb).trans ((if_pos rfl).trans (if_pos ?_))
  simp [hsig]

theorem traceCfgWrite_trig (hb : ¬traceBusy (traceChan s j) = true)
    (hsrc : v.toNat / 0x10000000 < 7 ∨ v.toNat / 0x10000000 = 7 ∧ v.toNat / 0x1000000 % 16 ≠ j.val) :
    traceCfgWrite j 4 v s = done { s with lpe := withTrace s j { traceChan s j with trig := v &&& 0xFF001FFF } } := by
  refine (if_neg hb).trans ((if_neg (by decide)).trans (if_neg ?_))
  simp
  omega

theorem traceCfgWrite_trigUndefined (hb : ¬traceBusy (traceChan s j) = true)
    (hsrc : 7 < v.toNat / 0x10000000 ∨ v.toNat / 0x10000000 = 7 ∧ v.toNat / 0x1000000 % 16 = j.val) :
    traceCfgWrite j 4 v s = refuse stRange s := by
  refine (if_neg hb).trans ((if_neg (by decide)).trans (if_pos ?_))
  simpa using hsrc

end Sys2Proof.Machine

open Sys2Proof Sys2Proof.Machine

/-- Settles O30: each command as the write of its register, carried out or refused by what the slot or the trace channel is. -/
theorem loopWrites : Obligations.LoopWrites := by
  refine ⟨fun r k v s hd => ⟨fun h hr hi => ⟨?_, fun hv => ⟨?_, ?_⟩, fun hv => ⟨?_, ?_⟩⟩, fun h hr hi => ?_, fun h hr => ?_,
      fun hv hl => ?_⟩,
    fun r j s h hd => ?_⟩
  · exact does_written h hd exec_operatorModeRequest fun _ => loopSlotWrite_taken hr hi (.inl rfl)
  · exact does_written h hd exec_operatorSetpointWrite fun _ => loopSlotWrite_taken hr hi (.inr hv)
  · exact does_written h hd exec_manualValueWrite fun _ => loopSlotWrite_taken hr hi (.inr hv)
  · exact exec_refused h hd exec_operatorSetpointWrite fun _ => loopSlotWrite_nan hr (by decide) hv
  · exact exec_refused h hd exec_manualValueWrite fun _ => loopSlotWrite_nan hr (by decide) hv
  · exact exec_refused h hd exec_operatorModeRequest fun _ => loopSlotWrite_noLoop hr hi
  · exact exec_refused h hd exec_operatorModeRequest fun _ => loopSlotWrite_state hr
  · exact exec_refusedLevel hv hl hd exec_operatorModeRequest
  · obtain ⟨harm, harmIdle⟩ := does_traceArm (j := j) h hd
    obtain ⟨hforce, hforceIdle⟩ := does_traceForce (j := j) h hd
    obtain ⟨hstop, hstopIdle⟩ := does_traceStop (j := j) h hd
    have hbusy := traceBusy_iff (y := traceChan s j)
    refine ⟨fun hb hc hm => harm ⟨mt hbusy.mp hb, hc, hm⟩, fun hi => harmIdle ?_, fun hc hm => hforce ⟨hc, hm⟩,
      fun hi => hforceIdle ?_, fun hb hm => hstop ⟨hbusy.mpr hb, hm⟩, fun hi => hstopIdle ?_,
      fun v => ⟨?_, fun hb => ⟨?_, ?_⟩, fun hb hk hl => ?_, fun hb hk => ?_, fun hb hk => ?_, fun hb hk => ?_⟩⟩
    · rintro ⟨hb, hc, hm⟩
      rcases hi with hi | hi | hi
      · exact hb (hbusy.mpr hi)
      · exact absurd hc (Bool.eq_false_iff.mp hi)
      · exact hm hi
    · exact fun ⟨hc, hm⟩ => hi.elim (absurd hc) (absurd · hm)
    · exact fun ⟨hb, hm⟩ => hi.elim (absurd (hbusy.mp hb)) (absurd · hm)
    · exact does_written h hd (exec_traceConfigWrite .level) fun _ => traceCfgWrite_level
    · exact exec_refused h hd (exec_traceConfigWrite .cfg) fun _ => traceCfgWrite_busy (by decide) (hbusy.mpr hb)
    · exact exec_refused h hd (exec_traceConfigWrite .trig) fun _ => traceCfgWrite_busy (by decide) (hbusy.mpr hb)
    · exact does_written h hd (exec_traceConfigWrite .cfg) fun _ => traceCfgWrite_cfg (mt hbusy.mp hb) hk hl
    · exact exec_refused h hd (exec_traceConfigWrite .cfg) fun _ => traceCfgWrite_cfgUndefined (mt hbusy.mp hb) hk
    · exact does_written h hd (exec_traceConfigWrite .trig) fun _ => traceCfgWrite_trig (mt hbusy.mp hb) hk
    · exact exec_refused h hd (exec_traceConfigWrite .trig) fun _ => traceCfgWrite_trigUndefined (mt hbusy.mp hb) hk
end

section
/-! One channel set in several steps before its quality is looked at again (R151, R152, R183). -/

namespace Sys2Proof.Machine

variable {i : Nat} {c : Chan} {s t u : State} {f : Chan → Chan} {w : Word} {raw filt : Bool} {k : Instr} {P : Prop} [Decidable P]
  {Q : State → Prop}

/-- A command that acts under a condition, and changes nothing otherwise. -/
theorem does_guarded (hP : P) (he : exec k s = .next (if P then t else s)) (hQ : Q t) : Does k s Q :=
  ⟨t, he.trans (congrArg Host.Outcome.next (if_pos hP)), hQ⟩

theorem exec_unguarded (hP : ¬P) (he : exec k s = .next (if P then t else s)) : exec k s = .next s :=
  he.trans (congrArg Host.Outcome.next (if_neg hP))

/-- `u` is `s` with channel index i holding `c`. -/
def ChanSet (i : Nat) (c : Chan) (s u : State) : Prop :=
  chan u i = c ∧ (∀ j, j ≠ i → chan u j = chan s j) ∧ u.fch = { s.fch with ch := u.fch.ch } ∧ Changes [.fch] s u

theorem ChanSet.refl : ChanSet i (chan s i) s s := ⟨rfl, fun _ _ => rfl, rfl, .refl⟩

theorem ChanSet.set (h : ChanSet i c s u) : ChanSet i (f c) s (setChan i f u) := by
  obtain ⟨hc, ho, hf, hs⟩ := h
  refine ⟨by rw [chan_setChan_same, hc], fun j hj => (chan_setChan_other hj).trans (ho j hj), ?_, (setChan_changes i f u).app hs⟩
  simp only [setChan]
  rw [hf]

/-- A fresh value: shown unless the channel is frozen or held or the barrier limits (R152, R173, R175). -/
theorem ChanSet.live (h : ChanSet i c s u) : ∃ l, ChanSet i { c with
    live := w, value := if c.frozen = true ∨ c.heldE = true ∨ s.tim.barLimit = true then c.value else w, hasValue := true,
    hist := (nowUs s, w) :: l } s (setLive i w u) := by
  obtain ⟨hc, ho, hf, hs⟩ := h
  refine ⟨pruneHist (nowUs s) c.hist, ?_⟩
  rw [← hs.nowUs, ← hs.tim]
  simpa only [setLive, Bool.or_eq_true, or_assoc] using ChanSet.set ⟨hc, ho, hf, hs⟩

theorem ChanSet.now (h : ChanSet i c s u) : ChanNow i c s (requal i u) := by
  obtain ⟨hc, ho, hf, hs⟩ := h
  obtain ⟨hi, hj, hr⟩ := requal_law i u
  refine ⟨by rw [requal_code, ← hc]; exact hi, fun j e => (hj j e).trans (ho j e), ?_, (requal_changes i u).comp rfl (hs.mono rfl)⟩
  rw [hr, hf]

/-- A digital input's states taken over (R149, R151, R154). -/
theorem ChanSet.input (h : ChanSet i c s u) : ∃ l, ChanNow i { c with
    raw := raw, filt := filt, changes := if filt ≠ c.filt then c.changes + 1 else c.changes, hasValue := true,
    live := Word.flag filt 0 ||| Word.flag raw 1, hist := (nowUs s, Word.flag filt 0 ||| Word.flag raw 1) :: l } s
    (inputState i raw filt u) := by
  refine ⟨pruneHist (nowUs s) c.hist, ?_⟩
  have hn : nowUs u = nowUs s := Changes.nowUs h.2.2.2
  simpa only [inputState, hn, bne_iff_ne] using h.set.now

/-- What the quality code reads outside its channel stays where only the channel was set. -/
theorem ChanNow.around (h : ChanNow i c s t) :
    grp t (groupOf i) = grp s (groupOf i) ∧ chanMode t i = chanMode s i ∧ t.tim = s.tim := by
  obtain ⟨-, -, hf, hs⟩ := h
  exact ⟨by rw [grp, hf]; rfl, by rw [chanMode, chanCfg, hs.sup, hs.img]; rfl, hs.tim⟩

end Sys2Proof.Machine
end

section
/-! Digital inputs: the counter filters, the debounced state, the sensor supply (R151, R154 to R156). -/

namespace Sys2Proof.Machine

variable {i : Nat} {c : Chan} {s t : State} {raw : Bool}

/-- A channel as both its counter filters step, the filtered state apart: the group controller's count, and the Quill's count and
state with the instant of its change (R155, R239). -/
def filtersStepped (n : Nat) (raw : Bool) (now : Nat) (c : Chan) : Chan :=
  let q := filterStep n raw c.qcnt c.qfilt
  { c with cnt := (filterStep n raw c.cnt c.filt).1, qcnt := q.1, qfilt := q.2, qAt := if q.2 ≠ c.qfilt then now else c.qAt }

theorem filterTick_safety (h : chanMode s i = 1 ∧ (chanCfg s i).safety = true) :
    let n := (chanCfg s i).filt.toNat / 65536
    filterTick i raw s =
      inputState i raw (filterStep n raw (chan s i).cnt (chan s i).filt).2 (setChan i (filtersStepped n raw (nowUs s)) s) := by
  simp only [filterTick, h, bne_iff_ne]
  rfl

theorem filterTick_other (h : ¬(chanMode s i = 1 ∧ (chanCfg s i).safety = true)) : filterTick i raw s = s :=
  if_neg (by simpa using h)

theorem isInput_not_switch {m : Nat} (h : isInput m = true) : ¬(m = 0 ∨ m = 0xC) ∧ isSwitch m = false := by
  simp only [isInput, isSwitch, Bool.or_eq_true, decide_eq_true_eq, Bool.or_eq_false_iff, decide_eq_false_iff_not] at *
  omega

/-- An input with a value, on a group that is linked and not in maintenance, under no condition that comes before it: with its sensor
supply off it has code 0x5 (R151, R156). -/
theorem qualCode_supplyOff (hm : isInput (chanMode s i) = true) (hg : (grp s (groupOf i)).maint = false)
    (hl : (grp s (groupOf i)).link = true) (hv : (chan s i).hasValue = true) (he : (chan s i).heldE = false)
    (hb : s.tim.barLimit = false) (hf : (chan s i).frozen = false) (hq : (chan s i).qSupply = true) : qualCode s i = 5 := by
  obtain ⟨hused, hsw⟩ := isInput_not_switch hm
  simp [qualCode, *]

/-- An input whose sensor supply trips (R156). -/
theorem supplyTripped (hm : isInput (chanMode s i) = true) :
    let t := requal i (setChan i (fun c => { c with qSupply := true, supplyOff := true }) s)
    ChanNow i { chan s i with qSupply := true, supplyOff := true } s t ∧
      ((grp s (groupOf i)).maint = false → (grp s (groupOf i)).link = true → (chan s i).hasValue = true → (chan s i).heldE = false →
        s.tim.barLimit = false → (chan s i).frozen = false → (chan t i).code = 5) := by
  intro t
  have hn : ChanNow i { chan s i with qSupply := true, supplyOff := true } s t := ChanSet.refl.set.now
  refine ⟨hn, fun hg hl hv he hb hf => ?_⟩
  obtain ⟨hgrp, hmode, htim⟩ := hn.around
  obtain ⟨hc, -⟩ := hn
  exact (congrArg Chan.code hc).trans (qualCode_supplyOff (by rwa [hmode]) (by rwa [hgrp]) (by rwa [hgrp]) (by rwa [hc]) (by rwa [hc])
    (by rwa [htim]) (by rwa [hc]) (by rw [hc]))

end Sys2Proof.Machine

open Sys2Proof Sys2Proof.Machine

/-- Settles O31: each command as a setting of its channel and a look at its quality. -/
theorem digitalInputs : Obligations.DigitalInputs := by
  intro ch raw s
  refine ⟨fun h => ?_, fun h => ?_, fun h held => ?_, fun h held => ?_, fun hs hm => ?_, fun h => ?_, ?_, fun h => ?_⟩
  · exact ⟨_, congrArg Host.Outcome.next (filterTick_safety h), ChanSet.refl.set.input⟩
  · exact congrArg Host.Outcome.next (filterTick_other h)
  · exact does_guarded (by simpa using h) rfl ChanSet.refl.input
  · exact exec_unguarded (by simpa using h) rfl
  · exact does_guarded (by simp [hs, hm]) rfl (supplyTripped hm)
  · exact does_guarded (by simp [h]) rfl ChanSet.refl.set.now
  · exact exec_unguarded (by simp) rfl
  · exact exec_unguarded (by simp [h]) rfl
end

section
/-! A PWM output whose group returns (R162, R179, R182). -/

namespace Sys2Proof.Machine

variable {i on : Nat} {s : State}

/-- The outputs of a group whose link is back wait for the next TO: until then a period that starts keeps the duty in force. -/
theorem pwmStart_waits (hm : chanMode s i = 3) (hw : waitsForTo s i = true) :
    (chan (pwmStart i on none s) i).duty = (chan s i).duty := by
  have hoff : (row1 s || !(grp s (groupOf i)).link) = false := by
    simp only [waitsForTo, Bool.and_eq_true, Bool.not_eq_true'] at hw
    simp [hw]
  simp only [pwmStart, if_pos hm, midOff, chan_setChan_same, hoff, hw, Bool.false_eq_true, if_false, if_true]

/-- A module in Run before the TO after its group's link came back: PWM output 5, off since the loss, commanded to 50 %. -/
def returningPwm : State :=
  { State.reset with
    img := { Image.blank with channels := [(4, { mode := 3, filt := 10000 })] }
    sup := { mode := .run, phase := .up }
    boot := { loaded := true }
    fch := { ch := [(4, { cmd := 0x42480000 })], grp := [(0, { link := true, outWait := true })] } }

end Sys2Proof.Machine

open Sys2Proof Sys2Proof.Machine

/-- Refutes O32: where the group's outputs wait for TO (R179, R182), PWM_PERIOD_START keeps the old duty, here 0 % under a command of
50 %, with the link there and row 1 of R16 not in force. -/
theorem not_outputDiagnostics : ¬ Obligations.OutputDiagnostics := by
  intro h
  obtain ⟨-, -, -, -, -, -, -, hpwm, -⟩ := h 4 returningPwm
  obtain ⟨t, ht, hduty, -⟩ := hpwm 0 none (by decide)
  obtain rfl : pwmStart 4 0 none returningPwm = t := Host.Outcome.next.inj ht
  exact absurd ((pwmStart_waits (by decide) (by decide)).symm.trans hduty) (by decide)
end

section
/-! Conversions and frequency inputs (R149, R152, R165 to R171). -/

namespace Sys2Proof.Machine

variable {i : Nat} {c : Chan} {s u : State} {f : Chan → Chan} {w : Word} {m : Meas} {ua : Int} {lim : Bool}

/-! ### What a conversion keeps -/

/-- The state with the converter's code kept, which has no defined scale (R183). -/
def codeKept (i : Nat) (s : State) : State := takeFree (setChan i (fun c => { c with rawCode := (freeVal s).setWidth 24 }) s)

theorem codeKept_set : ChanSet i { chan s i with rawCode := (freeVal s).setWidth 24 } (takeFree s) (codeKept i s) :=
  ChanSet.set (s := takeFree s) .refl

theorem chanMode_takeFree : chanMode (takeFree s) i = chanMode s i := rfl

theorem convert_current (h : chanMode s i = 4) : convert i (.current ua lim) s =
    setLive i (linear (chanCfg s i).lo (chanCfg s i).hi ua 4000 16000)
      (setChan i (maBands ((chanCfg s i).sub.getLsbD 0) lim ua) (codeKept i s)) := by
  simp only [convert, codeKept, chanMode_takeFree, chanMode_setChan, h]

theorem convert_voltage {uv : Int} (h : chanMode s i = 5) : convert i (.voltage uv) s =
    setLive i (linear (chanCfg s i).lo (chanCfg s i).hi uv 0 10000000)
      (setChan i (fun c => { clearMeas c with
        rbVolt := BitVec.ofInt 16 (uv / 10000), range := decide (uv < -200000) || decide (uv > 10500000),
        qOver := decide (uv ≤ -500000) || decide (uv ≥ 11000000) }) (codeKept i s)) := by
  simp only [convert, codeKept, chanMode_takeFree, chanMode_setChan, h]

theorem convert_rtd {r lead : Nat} (h : chanMode s i = 6) :
    convert i (.rtd r lead) s = rtdConvert (chanCfg s i) r lead i (codeKept i s) := by
  simp only [convert, codeKept, chanMode_takeFree, chanMode_setChan, h]

theorem convert_other (h4 : chanMode s i ≠ 4) (h5 : chanMode s i ≠ 5) (h6 : chanMode s i ≠ 6) (h7 : chanMode s i ≠ 7) :
    convert i m s = codeKept i s := by
  unfold convert
  dsimp only
  split
  · exact absurd ‹_› h4
  · exact absurd ‹_› h5
  · exact absurd ‹_› h6
  · exact absurd ‹_› h7
  · rfl

/-- A conversion that ends in a fresh value, after its conditions were set. -/
theorem conversion_live {ch : Fin 96} (h : convert ch.val m s = setLive ch.val w (setChan ch.val f (codeKept ch.val s)))
    (hc : f { chan s ch.val with rawCode := (freeVal s).setWidth 24 } = c) : Does (.conversionComplete ch m) s (fun t => ∃ l,
      ChanNow ch.val { c with
        live := w, value := if c.frozen = true ∨ c.heldE = true ∨ s.tim.barLimit = true then c.value else w, hasValue := true,
        hist := (nowUs s, w) :: l } (takeFree s) t) := by
  obtain ⟨l, hl⟩ := (codeKept_set.set (f := f)).live (w := w)
  rw [hc] at hl
  exact ⟨_, congrArg (fun u => Host.Outcome.next (requal ch.val u)) h, l, hl.now⟩

/-- A conversion that sets conditions and leaves the value (R168). -/
theorem conversion_held {ch : Fin 96} (h : convert ch.val m s = setChan ch.val f (codeKept ch.val s))
    (hc : f { chan s ch.val with rawCode := (freeVal s).setWidth 24 } = c) :
    Does (.conversionComplete ch m) s (ChanNow ch.val c (takeFree s)) :=
  ⟨_, congrArg (fun u => Host.Outcome.next (requal ch.val u)) h, hc ▸ codeKept_set.set.now⟩

/-! ### The bands of a 4–20 mA input (R166) -/

theorem maBands_short (h : lim = true ∨ 23000 ≤ ua) : maBands true lim ua c = { clearMeas c with qShort := true } :=
  if_pos (by simpa using h)

/-- Where no short is seen. -/
theorem maBands_noShort (h : ua < 23000) : maBands true false ua c =
    if ua < 500 then { clearMeas c with qOpen := true }
    else if ua < 3600 then { clearMeas c with qNeLow := true }
    else if ua < 3800 then { clearMeas c with range := true }
    else if ua ≤ 20500 then clearMeas c
    else if ua ≤ 21000 then { clearMeas c with range := true }
    else { clearMeas c with qNeHigh := true } :=
  (if_neg (by simpa using h)).trans rfl

theorem maBands_open (h : ua < 500) : maBands true false ua c = { clearMeas c with qOpen := true } := by
  rw [maBands_noShort (by omega), if_pos h]

theorem maBands_neLow (h : 500 ≤ ua) (h' : ua < 3600) : maBands true false ua c = { clearMeas c with qNeLow := true } := by
  rw [maBands_noShort (by omega), if_neg (by omega), if_pos h']

theorem maBands_rangeLow (h : 3600 ≤ ua) (h' : ua < 3800) : maBands true false ua c = { clearMeas c with range := true } := by
  rw [maBands_noShort (by omega), if_neg (by omega), if_neg (by omega), if_pos h']

theorem maBands_good (h : 3800 ≤ ua) (h' : ua ≤ 20500) : maBands true false ua c = clearMeas c := by
  rw [maBands_noShort (by omega), if_neg (by omega), if_neg (by omega), if_neg (by omega), if_pos h']

theorem maBands_rangeHigh (h : 20500 < ua) (h' : ua ≤ 21000) : maBands true false ua c = { clearMeas c with range := true } := by
  rw [maBands_noShort (by omega), if_neg (by omega), if_neg (by omega), if_neg (by omega), if_neg (by omega), if_pos h']

theorem maBands_neHigh (h : 21000 < ua) (h' : ua < 23000) : maBands true false ua c = { clearMeas c with qNeHigh := true } := by
  rw [maBands_noShort (by omega), if_neg (by omega), if_neg (by omega), if_neg (by omega), if_neg (by omega), if_neg (by omega)]

/-! ### RTDs, frequency inputs, shared inputs (R168, R171, R173) -/

theorem rtdConvert_open {cfg : ChanCfg} {r lead : Nat} (h : 4000000 * (if cfg.sub.getLsbD 2 then 10 else 1) < r) :
    rtdConvert cfg r lead i s = setChan i (fun c => { clearMeas c with qOpen := true, hasValue := true }) s := if_pos h

theorem rtdConvert_short {cfg : ChanCfg} {r lead : Nat} (h : r < 10000 * (if cfg.sub.getLsbD 2 then 10 else 1)) :
    rtdConvert cfg r lead i s = setChan i (fun c => { clearMeas c with qShort := true, hasValue := true }) s :=
  (if_neg (by omega)).trans (if_pos h)

/-- A fresh value of a channel that may have been set beforehand, and its quality looked at again. -/
theorem setLive_now (h : ChanSet i c s u) : ∃ l, ChanNow i { c with
    live := w, value := if c.frozen = true ∨ c.heldE = true ∨ s.tim.barLimit = true then c.value else w, hasValue := true,
    hist := (nowUs s, w) :: l } s (requal i (setLive i w u)) :=
  h.live.imp fun _ hl => hl.now

/-- The word shown once a disagreement has ended (R152, R173, R175). -/
theorem shownWord_released : shownWord lim { c with heldE := false } = if lim then c.value else if c.frozen then c.fz else c.live := by
  simp [shownWord]

/-- A shared input that agrees, or has disagreed for 10 ms, shows its word again (R173). -/
theorem takeover_ends {agrees after : Bool} (h : agrees = true ∨ after = true) : ChanNow i
    { chan s i with heldE := false, value := if s.tim.barLimit then (chan s i).value
        else if (chan s i).frozen then (chan s i).fz else (chan s i).live } s
    (requal i (setChan i (fun c =>
      if agrees || after then { c with heldE := false, value := shownWord s.tim.barLimit { c with heldE := false } }
      else { c with heldE := true }) s)) := by
  simp only [if_pos (show (agrees || after) = true by simpa using h), shownWord_released]
  exact ChanSet.refl.set.now

end Sys2Proof.Machine

open Sys2Proof Sys2Proof.Machine

/-- Settles O33: each measurement as a setting of its channel, with a fresh value or without one, and a look at its quality. -/
theorem measuredInputs : Obligations.MeasuredInputs := by
  intro ch s
  refine ⟨fun hm hne ua lim => ?_, fun hm uv => ?_, fun hm r lead => ⟨fun h => ?_, fun h => ?_⟩, fun h4 h5 h6 h7 x => ?_, fun hm uv => ?_,
    fun hm hp => ⟨fun periods ticks ht => ?_, ?_, ?_⟩, fun hm hp => ?_, fun hm hp => ⟨?_, fun a b hab => ?_⟩⟩
  · have hcur := fun c => conversion_live (c := c) (convert_current (ua := ua) (lim := lim) hm)
    rw [hne] at hcur
    refine ⟨fun h => hcur _ (maBands_short h), ?_, ?_, ?_, ?_, ?_, ?_⟩
    all_goals rintro rfl
    · exact fun h => hcur _ (maBands_open h)
    · exact fun h h' => hcur _ (maBands_neLow h h')
    · exact fun h h' => hcur _ (maBands_rangeLow h h')
    · exact fun h h' => hcur _ (maBands_good h h')
    · exact fun h h' => hcur _ (maBands_rangeHigh h h')
    · exact fun h h' => hcur _ (maBands_neHigh h h')
  · exact conversion_live (convert_voltage hm) rfl
  · exact conversion_held ((convert_rtd hm).trans (rtdConvert_open h)) rfl
  · exact conversion_held ((convert_rtd hm).trans (rtdConvert_short h)) rfl
  · exact ⟨_, congrArg (fun u => Host.Outcome.next (requal ch.val u)) (convert_other h4 h5 h6 h7), codeKept_set.now⟩
  · exact does_guarded (by simp [hm]) rfl ChanSet.refl.set.now
  · exact does_guarded (by simpa using ⟨⟨hm, hp⟩, ht⟩) rfl (setLive_now ChanSet.refl.set)
  · exact does_guarded (by simpa using ⟨hm, hp⟩) rfl (setLive_now ChanSet.refl.set)
  · exact exec_unguarded (by simpa using fun _ => hp) rfl
  · exact does_guarded (by simpa using ⟨hm, hp⟩) rfl (setLive_now ChanSet.refl)
  · exact does_guarded (by simpa using ⟨hm, hp⟩) rfl ChanSet.refl.set.now
  · exact does_guarded (by simpa using ⟨hm, hp⟩) rfl (takeover_ends hab)
end

section
/-! The safe output pairs over a step (R203, R205, R229, R271). -/

namespace Sys2Proof.Machine

/-- Every command keeps the pairs in order: one that may change the safety functions by the lemma of its meaning, any other by its
frame. -/
theorem exec_keeps_pairs {c : Instr} {s t : State} (h : exec c s = .next t) : Keeps PairsOk s t := by
  cases c
  case hold => exact execHold_pairs h
  case restartClassS => exact execRestartClassS_pairs h
  case leaveDecaf => exact execLeaveDecaf_pairs h
  case restartOtherImageHalf => exact execRestartOtherImageHalf_pairs h
  case brakeTest => exact execBrakeTest_pairs h
  case cycleT0 => exact execCycleT0_pairs h
  case nop => exact execNop_pairs h
  case end_ => exact execEnd_pairs h
  case br => exact execBr_pairs h
  case bz => exact execBz_pairs h
  case bnz => exact execBnz_pairs h
  case jmp => exact execJmp_pairs h
  case call => exact execCall_pairs h
  case add => exact execAdd_pairs h
  case sub => exact execSub_pairs h
  case mul => exact execMul_pairs h
  case mulh => exact execMulh_pairs h
  case div => exact execDiv_pairs h
  case rem => exact execRem_pairs h
  case and_ => exact execAnd_pairs h
  case or_ => exact execOr_pairs h
  case xor_ => exact execXor_pairs h
  case shl => exact execShl_pairs h
  case shr => exact execShr_pairs h
  case sar => exact execSar_pairs h
  case slt => exact execSlt_pairs h
  case sltu => exact execSltu_pairs h
  case seq => exact execSeq_pairs h
  case min => exact execMin_pairs h
  case addi => exact execAddi_pairs h
  case andi => exact execAndi_pairs h
  case ori => exact execOri_pairs h
  case xori => exact execXori_pairs h
  case shli => exact execShli_pairs h
  case shri => exact execShri_pairs h
  case sari => exact execSari_pairs h
  case slti => exact execSlti_pairs h
  case seqi => exact execSeqi_pairs h
  case lui => exact execLui_pairs h
  case orim => exact execOrim_pairs h
  case fadd => exact execFadd_pairs h
  case fsub => exact execFsub_pairs h
  case fmul => exact execFmul_pairs h
  case fdiv => exact execFdiv_pairs h
  case fsqrt => exact execFsqrt_pairs h
  case fmin => exact execFmin_pairs h
  case fmax => exact execFmax_pairs h
  case fabs => exact execFabs_pairs h
  case fneg => exact execFneg_pairs h
  case flt => exact execFlt_pairs h
  case fle => exact execFle_pairs h
  case feq => exact execFeq_pairs h
  case itof => exact execItof_pairs h
  case ftoi => exact execFtoi_pairs h
  case fma => exact execFma_pairs h
  case ld => exact execLd_pairs h
  case st => exact execSt_pairs h
  case ldx => exact execLdx_pairs h
  case stx => exact execStx_pairs h
  case in_ => exact execIn_pairs h
  case out => exact execOut_pairs h
  case cellin => exact execCellin_pairs h
  case cellout => exact execCellout_pairs h
  case ton => exact execTon_pairs h
  case tof => exact execTof_pairs h
  case tp => exact execTp_pairs h
  case ctu => exact execCtu_pairs h
  case ctd => exact execCtd_pairs h
  case ctud => exact execCtud_pairs h
  case rTrig => exact execRTrig_pairs h
  case fTrig => exact execFTrig_pairs h
  case cv => exact execCv_pairs h
  case timel => exact execTimel_pairs h
  case timeh => exact execTimeh_pairs h
  case objrd => exact execObjrd_pairs h
  case objwr => exact execObjwr_pairs h
  case evpost => exact execEvpost_pairs h
  case cellstat => exact execCellstat_pairs h
  case cellmode => exact execCellmode_pairs h
  case checkpointCompare => exact execCheckpointCompare_pairs h
  case compareStalled => exact execCompareStalled_pairs h
  case laneStalled => exact execLaneStalled_pairs h
  case outputRelease => exact execOutputRelease_pairs h
  case dataDigestComplete => exact execDataDigestComplete_pairs h
  case timeReferenceCheck => exact execTimeReferenceCheck_pairs h
  case loopTick => exact execLoopTick_pairs h
  case loopOutputHandoff => exact execLoopOutputHandoff_pairs h
  case shortToSupplyDetect => exact execShortToSupplyDetect_pairs h
  case sagLatchTimer => exact execSagLatchTimer_pairs h
  case groupLinkLost => exact execGroupLinkLost_pairs h
  case quillStreamLost => exact execQuillStreamLost_pairs h
  case quillEvaluation => exact execQuillEvaluation_pairs h
  case discrepancyTimeout => exact execDiscrepancyTimeout_pairs h
  case safetyOffDelayEnd => exact execSafetyOffDelayEnd_pairs h
  case twoHandSyncMiss => exact execTwoHandSyncMiss_pairs h
  case testPulseCheck => exact execTestPulseCheck_pairs h
  case resetDemand => exact execResetDemand_pairs h
  case resetInputHeldLong => exact execResetInputHeldLong_pairs h
  case switchOffTest => exact execSwitchOffTest_pairs h
  case edmTimeout => exact execEdmTimeout_pairs h
  case brakeFeedbackTimeout => exact execBrakeFeedbackTimeout_pairs h
  case brakeTestEdge => exact execBrakeTestEdge_pairs h
  case brakeTorqueTimeout => exact execBrakeTorqueTimeout_pairs h
  case brakeTestEnd => exact execBrakeTestEnd_pairs h
  case brkageTick => exact execBrkageTick_pairs h
  case alarmEvaluation => exact execAlarmEvaluation_pairs h
  case interlockPeerNetChange => exact execInterlockPeerNetChange_pairs h
  case interlockStuck => exact execInterlockStuck_pairs h
  case unannouncedTakeover => exact execUnannouncedTakeover_pairs h
  case roleTransfer => exact execRoleTransfer_pairs h
  case fieldRingSilence => exact execFieldRingSilence_pairs h
  case scrubStep => exact execScrubStep_pairs h
  case bistTestSequence => exact execBistTestSequence_pairs h
  case bistInjectionTest => exact execBistInjectionTest_pairs h
  case deltaApply => exact execDeltaApply_pairs h
  case flushComplete => exact execFlushComplete_pairs h
  case vinResetThreshold => exact execVinResetThreshold_pairs h
  case internalSuppliesStop => exact execInternalSuppliesStop_pairs h
  case resetPinAssert => exact execResetPinAssert_pairs h
  case junctionOvertemperature => exact execJunctionOvertemperature_pairs h
  case startSequence => exact execStartSequence_pairs h
  case warmStartSequence => exact execWarmStartSequence_pairs h
  case runNotReached => exact execRunNotReached_pairs h
  case commitRestart => exact execCommitRestart_pairs h
  all_goals exact (exec_changes_touches _ _ _ h).pairs rfl

/-- So does a tick of the timebase, which changes no pair. -/
theorem tick_keeps_pairs (s : State) : Keeps PairsOk s (tick s) := .ite (fun _ => id) (fun _ => .refl)

end Sys2Proof.Machine

open Sys2Proof Sys2Proof.Machine

/-- Settles O6: a step is a tick or one command, and each keeps the pairs in order. -/
theorem closedPairIsEnabled : Obligations.ClosedPairIsEnabled := by
  intro s t hok hstep
  unfold step at hstep
  split at hstep
  · obtain rfl := Host.Outcome.next.inj hstep
    exact tick_keeps_pairs s hok
  · exact exec_keeps_pairs hstep hok
end

section
/-! What each operation on a slot of the Quill leaves in that slot (R211 to R220). -/

namespace Sys2Proof.Machine

variable {n k : Nat} {c : SlotCfg} {f : Slot → Slot} {s t u : State}

/-- Slot n of the Quill. -/
def slotAt (s : State) (n : Nat) : Slot := tget {} s.saf.slots n

theorem slotAt_of_slots (h : t.saf.slots = s.saf.slots) : slotAt t n = slotAt s n := by rw [slotAt, h]; rfl

theorem slotAt_setSlot : slotAt (setSlot n f s) n = f (slotAt s n) := tget_tmod_same

theorem post_saf {code inst : Nat} {vals : List Word} : (post code inst vals s).saf = s.saf := post_changes code inst vals s .saf rfl

theorem applyOutputs_saf : (applyOutputs s).saf = s.saf := applyOutputs_changes s .saf rfl

theorem slotCfg_of_iget (h : iget s.img.slotsCfg n = some c) : slotCfg s n = c := by rw [slotCfg, h]; rfl

/-- A slot as it enters a state: what is kept beside it is `f`'s, and a demand from Released or Awaiting reset counts (R211, R212). -/
def entered (x : SlotState) (f : Slot → Slot) (y : Slot) : Slot :=
  { f y with st := x, cntDemand := if x = .demanded && y.st != .fault && y.st != .demanded then inc16 y.cntDemand else y.cntDemand }

theorem slotAt_slotTo (x : SlotState) : slotAt (slotTo n x f s) n = entered x f (slotAt s n) := by
  unfold slotTo
  dsimp only
  split
  · exact slotAt_setSlot
  · exact (slotAt_of_slots (congrArg Saf.slots post_saf)).trans slotAt_setSlot

theorem entered_demand {y : Slot} (h : y.st = .released ∨ y.st = .awaiting) :
    entered .demanded f y = { f y with st := .demanded, cntDemand := inc16 y.cntDemand } := by
  rcases h with h | h <;> simp [entered, h]

/-- A demand from Released or Awaiting reset counts, and starts an off delay from Released (R212, R220). -/
theorem slotAt_demandSlot {d : Bool} (h : (slotAt s n).st = .released ∨ (slotAt s n).st = .awaiting) :
    slotAt (demandSlot n d s) n = { slotAt s n with
      st := .demanded, delaying := (slotAt s n).delaying || (d && hasOffDelay (slotCfg s n) && (slotAt s n).st == .released)
      rearmed := false, firstButton := false, cntDemand := inc16 (slotAt s n).cntDemand } :=
  (slotAt_slotTo .demanded).trans (entered_demand h)

/-- What a fault leaves of a slot `x` (R211, R220): its code, its count, no off delay, no test. -/
def Faulted (code : Byte) (x y : Slot) : Prop :=
  y.st = .fault ∧ y.fault = code ∧ y.delaying = false ∧ y.testing = false ∧ y.cntFault = inc8 x.cntFault

theorem slotAt_slotFault {code : Byte} {x : Slot} (h : x.st ≠ .fault) (hs : (slotAt s n).st = x.st) (hc : (slotAt s n).cntFault = x.cntFault) :
    Faulted code x (slotAt (slotFault n code s) n) := by
  have e : slotFault n code s = _ := if_neg (hs.trans_ne h)
  rw [e, slotAt_slotTo]
  exact ⟨rfl, rfl, rfl, rfl, congrArg inc8 hc⟩

/-! ### The Quill enables -/

/-- The Quill enables of some pairs brought up to date, before what falls opens (R208). -/
def qensSet (l : List Nat) (s : State) : State :=
  forEach l (fun p s => let q := qenOf s p
    onSaf (fun f => { f with pairs := tmod {} f.pairs p (fun x => { x with qen := q }) }) s) s

theorem qensSet_saf (l : List Nat) : ∀ s, (qensSet l s).saf = { s.saf with pairs := (qensSet l s).saf.pairs } := by
  induction l with
  | nil => exact fun _ => rfl
  | cons p l ih => exact fun s => ih _

theorem refreshQen_eq (s : State) : refreshQen s = applyOutputs (openPairs (qensSet (List.range 24) s)) := rfl

theorem refreshQen_saf_eq (s : State) : (refreshQen s).saf = (openPairs (qensSet (List.range 24) s)).saf :=
  applyOutputs_saf

/-- They are the pairs', not the slots'. -/
theorem refreshQen_saf (s : State) : (refreshQen s).saf = { s.saf with pairs := (refreshQen s).saf.pairs } := by
  rw [refreshQen_saf_eq, openPairs, onSaf_saf, qensSet_saf]

theorem slotAt_refreshQen : slotAt (refreshQen s) n = slotAt s n := by rw [slotAt, refreshQen_saf]; rfl

theorem brakeAge_refreshQen : brakeAge (refreshQen s) n = brakeAge s n := by rw [brakeAge, refreshQen_saf]; rfl

/-! ### Evaluation -/

/-- A slot's causes taken over before its transition: EXT, and the start-up test once every input has been in its demand state (R211,
R218, R221). -/
def causesTaken (n : Nat) (s : State) : State :=
  setSlot n (fun x => { x with ext := otherExt s n || triggered s (slotCfg s n)
                               startupPend := x.startupPend && !allDemandState s (slotCfg s n) }) s

theorem slotAt_causesTaken : slotAt (causesTaken n s) n = { slotAt s n with
    ext := otherExt s n || triggered s (slotCfg s n)
    startupPend := (slotAt s n).startupPend && !allDemandState s (slotCfg s n) } := slotAt_setSlot

/-- One slot's transition, on its causes (R212). -/
def slotMoves (n : Nat) (s : State) : State :=
  let c := slotCfg s n
  let x := slotAt (causesTaken n s) n
  match x.st with
  | .fault => setSlot n (fun x => { x with
      allDemand := x.allDemand || allDemandState s c
      missed := if allDemandState s c then [] else x.missed
      crossed := if allDemandState s c then 0 else x.crossed }) (causesTaken n s)
  | .demanded =>
    if c.typ = 2 then twoHand n (otherExt s n || x.delaying) (causesTaken n s)
    else if causeOf s n || x.startupPend || x.delaying then causesTaken n s
    else slotTo n (if autoReset c then .released else .awaiting) id (causesTaken n s)
  | _ =>
    if causeOf s n then demandSlot n (if c.typ = 4 then !otherExt s n else true)
      (if allRun s c then causesTaken n s else noteResponse c (causesTaken n s))
    else causesTaken n s

theorem evalSlot_eq : evalSlot n s = slotMoves n s := rfl

theorem evalSlot_fault (h : (slotAt s n).st = .fault) : (slotAt (evalSlot n s) n).st = .fault := by
  rw [evalSlot_eq, slotMoves]
  simp only [slotAt_causesTaken, h, slotAt_setSlot]

theorem evalSlot_twoHand (h : (slotAt s n).st = .demanded) (ht : (slotCfg s n).typ = 2) :
    evalSlot n s = twoHand n (otherExt s n || (slotAt s n).delaying) (causesTaken n s) := by
  rw [evalSlot_eq, slotMoves]
  simp only [slotAt_causesTaken, h, if_pos ht]

theorem evalSlot_demanded (h : (slotAt s n).st = .demanded) (ht : (slotCfg s n).typ ≠ 2) : evalSlot n s =
    if causeOf s n || ((slotAt s n).startupPend && !allDemandState s (slotCfg s n)) || (slotAt s n).delaying then causesTaken n s
    else slotTo n (if autoReset (slotCfg s n) then .released else .awaiting) id (causesTaken n s) := by
  rw [evalSlot_eq, slotMoves]
  simp only [slotAt_causesTaken, h, if_neg ht]

/-- A Released or Awaiting slot without a cause of demand stays (R212). -/
theorem evalSlot_stays (h : (slotAt s n).st = .released ∨ (slotAt s n).st = .awaiting) (hc : causeOf s n = false) :
    evalSlot n s = causesTaken n s := by
  rw [evalSlot_eq, slotMoves]
  rcases h with h | h <;> simp only [slotAt_causesTaken, h, hc, Bool.false_eq_true, if_false]

/-- One with a cause of demand is demanded (R212, R220). -/
theorem evalSlot_demands (h : (slotAt s n).st = .released ∨ (slotAt s n).st = .awaiting) (hc : causeOf s n = true) :
    ∃ d, ((slotCfg s n).typ ≠ 4 → d = true) ∧ slotAt (evalSlot n s) n = { slotAt (causesTaken n s) n with
      st := .demanded, delaying := (slotAt s n).delaying || (d && hasOffDelay (slotCfg s n) && (slotAt s n).st == .released)
      rearmed := false, firstButton := false, cntDemand := inc16 (slotAt s n).cntDemand } := by
  have note : ∀ u : State, ∀ b : Prop, [Decidable b] → slotAt (if b then u else noteResponse (slotCfg s n) u) n = slotAt u n ∧
      slotCfg (if b then u else noteResponse (slotCfg s n) u) n = slotCfg u n := by
    intro u b _
    split <;> exact ⟨rfl, rfl⟩
  obtain ⟨hx, hcfg⟩ := note (causesTaken n s) (allRun s (slotCfg s n) = true)
  refine ⟨if (slotCfg s n).typ = 4 then !otherExt s n else true, fun ht => if_neg ht, ?_⟩
  have e : evalSlot n s = demandSlot n (if (slotCfg s n).typ = 4 then !otherExt s n else true)
      (if allRun s (slotCfg s n) then causesTaken n s else noteResponse (slotCfg s n) (causesTaken n s)) := by
    rw [evalSlot_eq, slotMoves]
    rcases h with h | h <;> simp only [slotAt_causesTaken, h, hc, if_true]
  rw [e, slotAt_demandSlot (by rw [hx, slotAt_causesTaken]; exact h), hx, hcfg, slotAt_causesTaken]
  rfl

/-- Two-hand control starts no off delay and ends none (R217, R220). -/
theorem slotAt_twoHand_delaying {b : Bool} : (slotAt (twoHand n b s) n).delaying = (slotAt s n).delaying := by
  unfold twoHand
  dsimp only
  split_ifs <;> simp only [slotAt_setSlot, slotAt_slotTo, entered]

/-- A Demanded slot starts no off delay (R220). -/
theorem evalSlot_notDelaying (h : (slotAt s n).st = .demanded) (hd : (slotAt s n).delaying = false) :
    (slotAt (evalSlot n s) n).delaying = false := by
  by_cases ht : (slotCfg s n).typ = 2
  · rw [evalSlot_twoHand h ht, slotAt_twoHand_delaying, slotAt_causesTaken]
    exact hd
  · rw [evalSlot_demanded h ht]
    split
    · rw [slotAt_causesTaken]
      exact hd
    · rw [slotAt_slotTo, slotAt_causesTaken]
      exact hd

end Sys2Proof.Machine
end

section
/-! The events of a slot (R217, R219, R220, R222, R223, R231). -/

namespace Sys2Proof.Machine

variable {n k : Nat} {c : SlotCfg} {f : State → State} {ok : SlotCfg → Slot → Bool} {s : State} {i : Instr} {Q : Slot → Prop}

theorem slotEvent_acts (hc : iget s.img.slotsCfg n = some c) (ha : quillActive s = true) (hok : ok c (slotAt s n) = true) :
    slotEvent n ok f s = refreshQen (f s) := by
  rw [slotEvent, hc]
  exact if_pos (by rw [ha]; exact hok)

theorem slotEvent_idle (hc : iget s.img.slotsCfg n = some c) (hok : ok c (slotAt s n) = false) : slotEvent n ok f s = s := by
  rw [slotEvent, hc]
  exact if_neg (by rw [Bool.and_eq_true]; exact fun h => absurd (hok.symm.trans h.2) (by decide))

/-- What a slot's event leaves of the slot: the Quill enables that follow it do not count. -/
theorem does_slotEvent (he : exec i s = .next (slotEvent n ok f s)) (hc : iget s.img.slotsCfg n = some c) (ha : quillActive s = true)
    (hok : ok c (slotAt s n) = true) (hQ : Q (slotAt (f s) n)) : Does i s (fun t => Q (slotAt t n)) :=
  ⟨_, he.trans (congrArg Host.Outcome.next (slotEvent_acts hc ha hok)), (congrArg Q slotAt_refreshQen).mpr hQ⟩

theorem exec_slotEvent_idle (he : exec i s = .next (slotEvent n ok f s)) (hc : iget s.img.slotsCfg n = some c)
    (hok : ok c (slotAt s n) = false) : exec i s = .next s :=
  he.trans (congrArg Host.Outcome.next (slotEvent_idle hc hok))

/-! ### Test pulses (R222, R223) -/

/-- The length of the run of failures on an input. -/
def missedSet (n k m : Nat) (s : State) : State := setSlot n (fun x => { x with missed := tput 0 x.missed k (min m 2) }) s

theorem slotAt_missedSet {m : Nat} : slotAt (missedSet n k m s) n = { slotAt s n with missed := tput 0 (slotAt s n).missed k (min m 2) } :=
  slotAt_setSlot

theorem ownPulse_eq (seen : Bool) : ownPulse n k seen s =
    let m := if seen then 0 else tget 0 (slotAt s n).missed k + 1
    if m ≥ 2 then slotFault n 0x02 (missedSet n k m s) else missedSet n k m s := rfl

theorem missedSet_run {m : Nat} (h : m ≤ 2) : let y := slotAt (missedSet n k m s) n
    tget 0 y.missed k = m ∧ y.st = (slotAt s n).st := by
  rw [slotAt_missedSet]
  exact ⟨tget_tput_same.trans (min_eq_left h), rfl⟩

theorem ownPulse_seen : let y := slotAt (ownPulse n k true s) n
    tget 0 y.missed k = 0 ∧ y.st = (slotAt s n).st := missedSet_run (m := 0) (by decide)

theorem ownPulse_first (h : tget 0 (slotAt s n).missed k = 0) : let y := slotAt (ownPulse n k false s) n
    tget 0 y.missed k = 1 ∧ y.st = (slotAt s n).st := by
  have e : ownPulse n k false s = missedSet n k 1 s := by
    rw [ownPulse_eq, h]
    rfl
  rw [e]
  exact missedSet_run (by decide)

theorem ownPulse_second (h : 1 ≤ tget 0 (slotAt s n).missed k) (hf : (slotAt s n).st ≠ .fault) :
    Faulted 0x02 (slotAt s n) (slotAt (ownPulse n k false s) n) := by
  have e : ownPulse n k false s = slotFault n 0x02 (missedSet n k (tget 0 (slotAt s n).missed k + 1) s) := if_pos (Nat.succ_le_succ h)
  rw [e]
  exact slotAt_slotFault hf (by rw [slotAt_missedSet]) (by rw [slotAt_missedSet])

/-- Whether the last pulse of another source was seen on an input. -/
def crossedSet (n k : Nat) (low : Bool) (s : State) : State :=
  setSlot n (fun x => { x with crossed := if low then x.crossed ||| (1 : BitVec 4) <<< k else x.crossed &&& ~~~((1 : BitVec 4) <<< k) }) s

theorem slotAt_crossedSet {low : Bool} : ∃ b, slotAt (crossedSet n k low s) n = { slotAt s n with crossed := b } := ⟨_, slotAt_setSlot⟩

theorem otherPulse_low (hf : (slotAt s n).st ≠ .fault) : Faulted 0x03 (slotAt s n) (slotAt (otherPulse n k true s) n) := by
  have e : otherPulse n k true s = slotFault n 0x03 (crossedSet n k true s) := rfl
  obtain ⟨b, hx⟩ := slotAt_crossedSet (n := n) (k := k) (s := s) (low := true)
  rw [e]
  exact slotAt_slotFault hf (by rw [hx]) (by rw [hx])

theorem otherPulse_clear : let y := slotAt (otherPulse n k false s) n
    y.st = (slotAt s n).st ∧ y.missed = (slotAt s n).missed := by
  have e : otherPulse n k false s = crossedSet n k false s := rfl
  obtain ⟨b, hx⟩ := slotAt_crossedSet (n := n) (k := k) (s := s) (low := false)
  rw [e, hx]
  exact ⟨rfl, rfl⟩

variable {p : PulseSamples}

/-- A pulse whose input is checked, of the source it names or of another one. -/
def pulseLooked (n : Nat) (c : SlotCfg) (p : PulseSamples) (s : State) : State :=
  if p.source.val + 1 = (slotChan c p.input).2 then ownPulse n p.input.val (pulseSeen p.raw) s
  else otherPulse n p.input.val (lowRunFrom 40 true p.raw) s

theorem periodUnchecked_eq : periodUnchecked n p s =
    if (p.source.val + 1 = (slotChan (slotCfg s n) p.input).2 && !pulseChecked s (slotCfg s n) p.input && (slotAt s n).st != .fault) = true
    then missedSet n p.input.val 0 s else s := rfl

theorem periodUnchecked_idle (hc : iget s.img.slotsCfg n = some c)
    (h : p.source.val + 1 ≠ (slotChan c p.input).2 ∨ pulseChecked s c p.input = true ∨ (slotAt s n).st = .fault) :
    periodUnchecked n p s = s := by
  rw [periodUnchecked_eq, slotCfg_of_iget hc]
  refine if_neg ?_
  rcases h with h | h | h <;> simp [h]

theorem testPulseCheck_checked (hc : iget s.img.slotsCfg n = some c) (ha : quillActive s = true)
    (h : pulseChecked s c p.input = true ∧ chanMode s p.source.val = 0xA) :
    testPulseCheck n p s = refreshQen (pulseLooked n c p s) := by
  rw [testPulseCheck, periodUnchecked_idle hc (.inr (.inl h.1)), slotEvent_acts hc ha (by simp [h]), slotCfg_of_iget hc]
  rfl

theorem testPulseCheck_unchecked (hc : iget s.img.slotsCfg n = some c)
    (h : ¬(pulseChecked s c p.input = true ∧ chanMode s p.source.val = 0xA)) :
    testPulseCheck n p s = periodUnchecked n p s := by
  have hs := periodUnchecked_changes n p s
  refine slotEvent_idle (c := c) (by rw [hs.img rfl]; exact hc) ?_
  simpa [pulseChecked, qin, chan, chanMode, chanCfg, hs.fch rfl, hs.sup rfl, hs.img rfl] using h

/-- What a checked pulse leaves of the slot. -/
theorem does_pulse {n : Fin 16} (hc : iget s.img.slotsCfg n.val = some c) (ha : quillActive s = true)
    (h : pulseChecked s c p.input = true ∧ chanMode s p.source.val = 0xA) (hQ : Q (slotAt (pulseLooked n.val c p s) n.val)) :
    Does (.testPulseCheck n p) s (fun t => Q (slotAt t n.val)) :=
  ⟨_, congrArg Host.Outcome.next (testPulseCheck_checked hc ha h), (congrArg Q slotAt_refreshQen).mpr hQ⟩

theorem pulseLooked_own (h : p.source.val + 1 = (slotChan c p.input).2) :
    pulseLooked n c p s = ownPulse n p.input.val (pulseSeen p.raw) s := if_pos h

theorem pulseLooked_other (h : ¬p.source.val + 1 = (slotChan c p.input).2) :
    pulseLooked n c p s = otherPulse n p.input.val (lowRunFrom 40 true p.raw) s := if_neg h

theorem periodUnchecked_ends (hc : iget s.img.slotsCfg n = some c) (ho : p.source.val + 1 = (slotChan c p.input).2)
    (hp : pulseChecked s c p.input = false) (hf : (slotAt s n).st ≠ .fault) :
    periodUnchecked n p s = missedSet n p.input.val 0 s := by
  rw [periodUnchecked_eq, slotCfg_of_iget hc]
  exact if_pos (by simp [ho, hp, hf])

end Sys2Proof.Machine
end

section
/-! The brake: its feedback, its test, its age (R230 to R234). -/

namespace Sys2Proof.Machine

variable {n k : Nat} {c : SlotCfg} {s : State} {pass : Bool}

/-- The end of a brake test, its event apart. -/
def testEnded (n : Nat) (pass : Bool) (s : State) : State :=
  let s := setSlot n (fun x => { x with testing := false, torque := false, testFailed := !pass }) s
  if pass then onSaf (fun f => { f with brkAge := tput 0 f.brkAge n 0 }) s else s

theorem brakeTestDone_saf : (brakeTestDone n pass s).saf = (testEnded n pass s).saf := post_saf

theorem slotAt_brakeTestDone : slotAt (brakeTestDone n pass s) n =
    { slotAt s n with testing := false, torque := false, testFailed := !pass } := by
  have e := slotAt_setSlot (n := n) (s := s) (f := fun x => { x with testing := false, torque := false, testFailed := !pass })
  rw [slotAt, brakeTestDone_saf]
  cases pass <;> exact e

theorem brakeAge_brakeTestDone : brakeAge (brakeTestDone n pass s) n = if pass then 0 else brakeAge s n := by
  rw [brakeAge, brakeTestDone_saf]
  cases pass
  · rfl
  · exact tget_tput_same (t := s.saf.brkAge) (v := 0)

/-- What the acceptance of a brake test asks of the slot (R232). -/
theorem brakeTestOk_slot (h : brakeTestOk s n = true) : quillActive s = true ∧ (slotCfg s n).typ = 4 ∧ (slotAt s n).st ≠ .fault := by
  simp only [brakeTestOk, Bool.and_eq_true, beq_iff_eq, bne_iff_ne] at h
  obtain ⟨⟨⟨⟨⟨⟨⟨⟨ha, ht⟩, -⟩, hf⟩, -⟩, -⟩, -⟩, -⟩, -⟩ := h
  exact ⟨ha, ht, hf⟩

theorem otherExt_eq : otherExt s n = (s.sup.mode == .hold ||
    (slotChans (slotCfg s n)).any (fun i => (grp s (groupOf i)).maint || (grp s (groupOf i)).quillLost) ||
    ((slotCfg s n).typ == 4 && ((slotAt s n).testing || (slotAt s n).testFailed ||
      (testOverdue s n && (slotAt s n).st != .released)))) := rfl

/-- A running brake test is a cause of demand (R221, R233). -/
theorem otherExt_testing (ht : (slotCfg s n).typ = 4) (hx : (slotAt s n).testing = true) : otherExt s n = true := by
  simp [otherExt_eq, ht, hx]

/-- The evaluation of a brake slot under test leaves the test running (R233). -/
theorem evalSlot_testing (ht : (slotCfg s n).typ = 4) (hx : (slotAt s n).testing = true) (hf : (slotAt s n).st ≠ .fault) :
    let y := slotAt (evalSlot n s) n
    y.testing = true ∧ y.torque = (slotAt s n).torque ∧ y.ext = true := by
  have ho := otherExt_testing ht hx
  have hcause : causeOf s n = true := by simp [causeOf, ho]
  have taken : (slotAt (causesTaken n s) n).testing = true ∧ (slotAt (causesTaken n s) n).torque = (slotAt s n).torque ∧
      (slotAt (causesTaken n s) n).ext = true := by
    rw [slotAt_causesTaken, ho]
    exact ⟨hx, rfl, rfl⟩
  have ready : (slotAt s n).st = .released ∨ (slotAt s n).st = .awaiting → _ := fun h => evalSlot_demands h hcause
  cases hs : (slotAt s n).st with
  | fault => exact absurd hs hf
  | demanded =>
    rw [evalSlot_demanded hs (by rw [ht]; decide), hcause]
    exact taken
  | released =>
    obtain ⟨d, -, e⟩ := ready (.inl hs)
    rw [e]
    exact taken
  | awaiting =>
    obtain ⟨d, -, e⟩ := ready (.inr hs)
    rw [e]
    exact taken

/-- A brake test begun, before the slot is evaluated (R233). -/
def testBegun (n : Nat) (s : State) : State := setSlot n (fun x => { x with testing := true, torque := (slotCfg s n).ch3 == 0 }) s

theorem slotAt_testBegun : slotAt (testBegun n s) n = { slotAt s n with testing := true, torque := (slotCfg s n).ch3 == 0 } :=
  slotAt_setSlot

theorem brakeTestStart_begins (h : brakeTestOk s n = true) :
    let y := slotAt (brakeTestStart n s) n
    y.testing = true ∧ y.torque = ((slotCfg s n).ch3 == 0) ∧ y.ext = true := by
  obtain ⟨-, ht, hf⟩ := brakeTestOk_slot h
  have e : brakeTestStart n s = refreshQen (evalSlot n (testBegun n s)) := rfl
  have hx := slotAt_testBegun (n := n) (s := s)
  obtain ⟨htest, htorque, hext⟩ := evalSlot_testing (s := testBegun n s) (n := n) ht (by rw [hx]) (by rw [hx]; exact hf)
  rw [e, slotAt_refreshQen]
  exact ⟨htest, by rw [htorque, hx], hext⟩

/-- One minute of one brake slot (R234). -/
theorem brakeAge_ageSlot : brakeAge (ageSlot n s) k = if k = n then min (brakeAge s k + 1) 0xFFFFFFFF else brakeAge s k := by
  have e : (ageSlot n s).saf = { s.saf with brkAge := tput 0 s.saf.brkAge n (min (brakeAge s n + 1) 0xFFFFFFFF) } := by
    unfold ageSlot
    dsimp only
    split
    · exact post_saf
    · rfl
  rw [brakeAge, e]
  split
  · rename_i hk
    rw [hk]
    exact tget_tput_same
  · rename_i hk
    exact tget_tput_other hk

/-- And of several (R234). -/
theorem brakeAge_ageSlots {l : List Nat} (h : l.Nodup) :
    ∀ {s : State}, brakeAge (forEach l ageSlot s) k = if k ∈ l then min (brakeAge s k + 1) 0xFFFFFFFF else brakeAge s k := by
  induction l with
  | nil => intro s; simp [forEach]
  | cons a l ih =>
    intro s
    obtain ⟨ha, hl⟩ := List.nodup_cons.mp h
    show brakeAge (forEach l ageSlot (ageSlot a s)) k = _
    rw [ih hl, brakeAge_ageSlot]
    by_cases e : k = a
    · subst e
      simp [ha]
    · simp [e]

end Sys2Proof.Machine
end

section
/-! The safety slots' own events (R211 to R234). -/

namespace Sys2Proof.Machine

variable {n : Fin 16} {c : SlotCfg} {s : State} {r : Req} {Q : Slot → Prop}

/-- A module whose Quill evaluates is not in Decaf (R206, R441). -/
theorem quillActive_notDecaf (h : quillActive s = true) : s.sup.mode ≠ .decaf := by
  intro hd
  simp [quillActive, inService, inRun, hd] at h

theorem brakeTestOk_admitted : brakeTestOk (admitted r s) n.val = brakeTestOk s n.val := by
  obtain ⟨p, e⟩ := admitted_eq r s
  rw [e]
  rfl

/-- The off delay's end: the pairs lose their enable, the slot is evaluated (R220, R230). -/
theorem offDelayEnd_delaying (h : (slotAt s n.val).st = .demanded) :
    (slotAt (evalSlot n.val (refreshQen (setSlot n.val (fun x => { x with delaying := false }) s))) n.val).delaying = false := by
  have hx : slotAt (refreshQen (setSlot n.val (fun x => { x with delaying := false }) s)) n.val =
      { slotAt s n.val with delaying := false } := slotAt_refreshQen.trans slotAt_setSlot
  exact evalSlot_notDelaying (by rw [hx]; exact h) (by rw [hx])

/-- The feedback looked at T_FB after a switching (R231). -/
def feedbackLooked (n : Nat) (c : SlotCfg) (on : Bool) (s : State) : State :=
  if on && qin s c.ch1 then slotFault n 0x05 s else if !on && !qin s c.ch1 then slotFault n 0x04 s else s

theorem does_brakeFeedback (hc : iget s.img.slotsCfg n.val = some c) (ha : quillActive s = true) (ht : c.typ = 4) (h1 : c.ch1 ≠ 0)
    (hQ : Q (slotAt (feedbackLooked n.val c ((slotPairs c).any (fun p => (tget {} s.saf.pairs p).on)) s) n.val)) :
    Does (.brakeFeedbackTimeout n) s (fun t => Q (slotAt t n.val)) := by
  refine does_slotEvent rfl hc ha (by simp [ht, h1]) ?_
  dsimp only
  rw [slotCfg_of_iget hc]
  exact hQ

/-- BRAKE_TEST at Operate (R232). -/
theorem exec_brakeTest (h : admits r lvOperate s = true) (hd : s.sup.mode ≠ .decaf) : exec (.brakeTest r n) s = .next
    (if brakeTestOk s n.val then reply r stOk [] (brakeTestStart n.val (admitted r s)) else reply r stState [] (admitted r s)) := by
  rw [exec_screened h hd rfl, acceptIf, brakeTestOk_admitted]

theorem does_brakeTest (h : admits r lvOperate s = true) (ha : quillActive s = true) (hok : brakeTestOk s n.val = true) :
    Does (.brakeTest r n) s (fun t => (slotAt t n.val).testing = true ∧ (slotAt t n.val).torque = ((slotCfg s n.val).ch3 == 0) ∧
      (slotAt t n.val).ext = true ∧ Answered r 0 [] s t) := by
  have he := exec_brakeTest (n := n) h (quillActive_notDecaf ha)
  rw [hok, if_pos rfl] at he
  obtain ⟨htest, htorque, hext⟩ := brakeTestStart_begins (s := admitted r s) (brakeTestOk_admitted.trans hok)
  refine (does_answeredOk h (brakeTestStart_changes _ _) he rfl rfl).mono fun t ⟨hans, hch⟩ => ?_
  have hx : slotAt t n.val = slotAt (brakeTestStart n.val (admitted r s)) n.val := slotAt_of_slots (congrArg Saf.slots (hch.saf rfl))
  rw [hx]
  refine ⟨htest, htorque.trans ?_, hext, hans⟩
  simp only [slotCfg, admitted_img]

theorem does_brakeTest_refused (h : admits r lvOperate s = true) (hd : s.sup.mode ≠ .decaf) (hok : brakeTestOk s n.val = false) :
    Does (.brakeTest r n) s (fun t => Answered r 0x0002 [] s t ∧ t.saf = s.saf) := by
  have he := exec_brakeTest (n := n) h hd
  rw [hok, if_neg (by decide)] at he
  exact (does_refusedPlain h he).mono fun t ⟨hans, hch⟩ => ⟨hans, hch.saf rfl⟩

/-- The verdict of a brake test (R233, R234). -/
theorem does_brakeTestEnd (hc : iget s.img.slotsCfg n.val = some c) (ha : quillActive s = true)
    (htest : (slotAt s n.val).testing = true) (htorque : (slotAt s n.val).torque = true) :
    Does (.brakeTestEnd n) s (fun t => (slotAt t n.val).testing = false ∧ (slotAt t n.val).testFailed = (!qin s c.ch2) ∧
      (qin s c.ch2 = true → brakeAge t n.val = 0) ∧ (qin s c.ch2 = false → brakeAge t n.val = brakeAge s n.val)) := by
  refine ⟨_, congrArg Host.Outcome.next (slotEvent_acts hc ha ?_), ?_⟩
  · rw [htest, htorque]
    rfl
  · dsimp only
    rw [slotAt_refreshQen, brakeAge_refreshQen, slotAt_brakeTestDone, brakeAge_brakeTestDone, slotCfg_of_iget hc]
    exact ⟨rfl, rfl, fun hq => if_pos hq, fun hq => if_neg (by rw [hq]; decide)⟩

/-- The slots whose age is kept are those of the loaded image (R234). -/
theorem mem_agedSlots {k : Nat} (hl : s.boot.loaded = true) (hd : s.sup.mode ≠ .decaf) :
    k ∈ agedSlots s ↔ ∃ c, (k, c) ∈ s.img.slotsCfg ∧ c.typ = 4 := by
  simp [agedSlots, hl, hd]

end Sys2Proof.Machine

open Sys2Proof Sys2Proof.Machine

/-- Settles O36: each event through what its operation leaves of the slot. -/
theorem safetySlotEvents : Obligations.SafetySlotEvents := by
  refine ⟨fun n s c hc ha => ?_, fun s hn => ⟨⟨_, rfl, fun k => brakeAge_ageSlots hn⟩, fun hl hd k => mem_agedSlots hl hd⟩⟩
  intro x slot fault miss on
  refine ⟨fun hf => ⟨fun ht hdis => ?_, fun ht h1 => ⟨fun hon hq => ?_, fun hon hq => ?_⟩⟩, fun hdis => ?_, fun p => ?_,
    fun hst hdel => ?_, fun hdel => ?_, fun ht hst hb => ?_, fun hb => ?_, fun hok r hr => ?_, fun hok r hd hr => ?_,
    fun ht h4 => ⟨fun hok => ?_, fun hok => ?_⟩, fun htest htq => ?_, fun htest htq => ?_, fun htest => ⟨?_, ?_⟩⟩
  · exact does_slotEvent (Q := Faulted 1 x) rfl hc ha (by rw [hdis, Bool.and_true]; exact bne_iff_ne.mpr ht) (slotAt_slotFault hf rfl rfl)
  · refine does_brakeFeedback (Q := Faulted 5 x) hc ha ht h1 ?_
    have e : feedbackLooked n.val c on s = slotFault n.val 0x05 s := if_pos (by rw [hon, hq]; rfl)
    exact e ▸ slotAt_slotFault hf rfl rfl
  · refine does_brakeFeedback (Q := Faulted 4 x) hc ha ht h1 ?_
    have e : feedbackLooked n.val c on s = slotFault n.val 0x04 s :=
      (if_neg (by rw [hon]; exact Bool.false_ne_true)).trans (if_pos (by rw [hon, hq]; rfl))
    exact e ▸ slotAt_slotFault hf rfl rfl
  · exact exec_slotEvent_idle rfl hc (by simp [hdis])
  · intro own seen low checked
    refine ⟨fun hk ho hs => ?_, fun hk ho hs hm => ?_, fun hk ho hs hm hf => ?_, fun hk ho hl hf => ?_, fun hk ho hl => ?_,
      fun ho hp hf => ?_, fun hk h => ?_⟩
    · refine does_pulse (Q := fun y => miss p.input y = 0 ∧ y.st = x.st) hc ha hk ?_
      rw [pulseLooked_own ho, show pulseSeen p.raw = true from hs]
      exact ownPulse_seen
    · refine does_pulse (Q := fun y => miss p.input y = 1 ∧ y.st = x.st) hc ha hk ?_
      rw [pulseLooked_own ho, show pulseSeen p.raw = false from hs]
      exact ownPulse_first hm
    · refine does_pulse (Q := Faulted 2 x) hc ha hk ?_
      rw [pulseLooked_own ho, show pulseSeen p.raw = false from hs]
      exact ownPulse_second hm hf
    · refine does_pulse (Q := Faulted 3 x) hc ha hk ?_
      rw [pulseLooked_other ho, show lowRunFrom 40 true p.raw = true from hl]
      exact otherPulse_low hf
    · refine does_pulse (Q := fun y => y.st = x.st ∧ y.missed = x.missed) hc ha hk ?_
      rw [pulseLooked_other ho, show lowRunFrom 40 true p.raw = false from hl]
      exact otherPulse_clear
    · have e := periodUnchecked_ends hc ho hp hf
      have hk : ¬checked := fun hk => absurd (hp.symm.trans hk.1) (by decide)
      obtain ⟨hmiss, hst⟩ := missedSet_run (n := n.val) (k := p.input.val) (s := s) (Nat.zero_le 2)
      exact ⟨_, congrArg Host.Outcome.next ((testPulseCheck_unchecked hc hk).trans e), hmiss, hst, setSlot_changes _ _ _⟩
    · exact congrArg Host.Outcome.next ((testPulseCheck_unchecked hc hk).trans (periodUnchecked_idle hc h))
  · exact does_slotEvent (Q := fun y => y.delaying = false) rfl hc ha hdel (offDelayEnd_delaying hst)
  · exact exec_slotEvent_idle rfl hc hdel
  · exact does_slotEvent (Q := fun y => y = { x with syncMiss := true, rearmed := false, firstButton := false, syncCnt := x.syncCnt + 1 })
      rfl hc ha (by rw [ht, show (slotAt s n.val).st = .demanded from hst, show (slotAt s n.val).firstButton = true from hb]; rfl)
      slotAt_setSlot
  · exact exec_slotEvent_idle rfl hc (Bool.and_eq_false_imp.mpr fun _ => hb)
  · have h := does_brakeTest hr ha hok
    rw [slotCfg_of_iget hc] at h
    exact h
  · exact does_brakeTest_refused hr hd hok
  · refine does_slotEvent (Q := fun y => y.testing = true) rfl hc ha (by simp [ht, h4]) ?_
    rw [if_pos hok]
    exact (brakeTestStart_begins hok).1
  · refine does_slotEvent (Q := fun y => y = { x with refused := x.refused + 1 }) rfl hc ha (by simp [ht, h4]) ?_
    rw [if_neg (by rw [hok]; decide)]
    exact slotAt_setSlot
  · refine does_slotEvent (Q := fun y => y.testing = false ∧ y.testFailed = true) rfl hc ha ?_ ?_
    · rw [show (slotAt s n.val).testing = true from htest, show (slotAt s n.val).torque = false from htq]
      rfl
    · rw [slotAt_brakeTestDone]
      exact ⟨rfl, rfl⟩
  · exact does_brakeTestEnd hc ha htest htq
  · exact exec_slotEvent_idle rfl hc (Bool.and_eq_false_imp.mpr fun h => absurd (htest.symm.trans h) (by decide))
  · exact exec_slotEvent_idle rfl hc (Bool.and_eq_false_imp.mpr fun h => absurd (htest.symm.trans h) (by decide))
end

section
/-! Tables in canonical form: every entry changed (log 2). -/

namespace Sys2Proof.Machine

theorem tget_of_lt {α : Type} {d : α} {t : Tab α} {i : Nat} (h : ∀ p ∈ t, i < p.1) : tget d t i = d := by
  rcases tget_mem (d := d) (t := t) (i := i) with e | e
  · exact e
  · exact absurd (h _ e) (Nat.lt_irrefl i)

variable {α : Type} [DecidableEq α] {d : α} {f : α → α} {t : Tab α} {i : Nat}

/-- In a table in canonical form, a change of every entry that keeps the default is read at every index. -/
theorem tget_tmap (hw : twf d t = true) (hf : f d = d) : tget d (tmap d f t) i = f (tget d t i) := by
  induction t with
  | nil => exact hf.symm
  | cons p t ih =>
    obtain ⟨k, v⟩ := p
    obtain ⟨-, -, ht⟩ := twf_cons.mp hw
    have ih := ih ht
    unfold tmap at ih ⊢
    rw [List.map_cons]
    by_cases hd : f v = d
    · rw [List.filter_cons_of_neg (by simp [hd]), ih]
      by_cases hk : k = i
      · subst hk
        rw [tget_of_lt (twf_lt hw), tget, if_pos rfl, hf, hd]
      · rw [tget, if_neg hk]
    · rw [List.filter_cons_of_pos (by simp [hd])]
      by_cases hk : k = i <;> simp only [tget, hk, if_true, if_false, ih]

end Sys2Proof.Machine
end

section
/-! The Quill enables and the pairs that they open (R203, R205, R208). -/

namespace Sys2Proof.Machine

variable {p q : Nat} {s t u : State} {f : Pair → Pair}

/-- Safe output pair p. -/
def pairAt (s : State) (p : Nat) : Pair := tget {} s.saf.pairs p

/-- The table of pairs is in its canonical form (log 2). -/
def PairsListed (s : State) : Prop := twf ({} : Pair) s.saf.pairs = true

theorem pairAt_setPair : pairAt (setPair q f s) p = if p = q then f (pairAt s p) else pairAt s p := by
  split
  · rename_i h
    subst h
    exact tget_tmod_same
  · rename_i h
    exact tget_tmod_other h

theorem setPair_listed (h : PairsListed s) : PairsListed (setPair q f s) := twf_tmod h

/-- What an enable of a pair depends on is the same in two states (R206, R208, R213). -/
def EnablesAlike (s t : State) : Prop :=
  t.img = s.img ∧ t.sup = s.sup ∧ t.pst = s.pst ∧ t.saf.slots = s.saf.slots ∧ t.saf.tickFault = s.saf.tickFault ∧
    ∀ p, latched (pairAt t p) = latched (pairAt s p)

theorem qenOf_eq : qenOf s p = (quillActive s && !s.saf.tickFault && drives s && !latched (pairAt s p) &&
    !(s.img.slotsCfg.filter (fun c => c.2.pairs.getLsbD p)).isEmpty &&
    (s.img.slotsCfg.filter (fun c => c.2.pairs.getLsbD p)).all (fun c => holdsEnabled (slotAt s c.1))) := rfl

theorem EnablesAlike.qenOf (h : EnablesAlike s t) : qenOf t p = qenOf s p := by
  obtain ⟨himg, hsup, hpst, hslots, htick, hlatch⟩ := h
  simp only [qenOf_eq, slotAt, himg, hsup, hslots, htick, hlatch, quillActive, inService, inRun, drives, gate, hpst]

theorem EnablesAlike.trans (h : EnablesAlike s t) (k : EnablesAlike t u) : EnablesAlike s u := by
  obtain ⟨himg, hsup, hpst, hslots, htick, hlatch⟩ := h
  obtain ⟨kimg, ksup, kpst, kslots, ktick, klatch⟩ := k
  exact ⟨kimg.trans himg, ksup.trans hsup, kpst.trans hpst, kslots.trans hslots, ktick.trans htick, fun p => (klatch p).trans (hlatch p)⟩

theorem enablesAlike_setQen {b : Bool} : EnablesAlike s (setPair q (fun x => { x with qen := b }) s) := by
  refine ⟨rfl, rfl, rfl, rfl, rfl, fun p => ?_⟩
  rw [pairAt_setPair]
  split <;> rfl

theorem qensSet_cons (q : Nat) (l : List Nat) :
    qensSet (q :: l) s = qensSet l (setPair q (fun x => { x with qen := qenOf s q }) s) := rfl

theorem qensSet_changes (l : List Nat) (s : State) : Changes [.saf] s (qensSet l s) :=
  .each (fun _ u => setPair_changes _ _ u) .refl

theorem qensSet_listed (l : List Nat) : ∀ {s}, PairsListed s → PairsListed (qensSet l s) := by
  induction l with
  | nil => exact id
  | cons q l ih => exact fun h => ih (setPair_listed h)

theorem qensSet_alike (l : List Nat) : ∀ s, EnablesAlike s (qensSet l s) := by
  induction l with
  | nil => exact fun _ => ⟨rfl, rfl, rfl, rfl, rfl, fun _ => rfl⟩
  | cons q l ih => exact fun s => enablesAlike_setQen.trans (ih _)

/-- The enables are brought up to date independently of each other. -/
theorem pairAt_qensSet (l : List Nat) :
    ∀ {s}, pairAt (qensSet l s) p = if p ∈ l then { pairAt s p with qen := qenOf s p } else pairAt s p := by
  induction l with
  | nil => exact rfl
  | cons q l ih =>
    intro s
    rw [qensSet_cons, ih, enablesAlike_setQen.qenOf, pairAt_setPair]
    by_cases h : p = q
    · subst h
      simp
    · simp [h]

theorem pairAt_openPairs (h : PairsListed s) : pairAt (openPairs s) p =
    switchPair (nowUs s) ((pairAt s p).on && (pairAt s p).qen && (drives s && !row3 s)) (pairAt s p) :=
  tget_tmap (f := fun x => switchPair (nowUs s) (x.on && x.qen && (drives s && !row3 s)) x) h rfl

/-- The enable of a pair as it is brought up to date; there are 24 pairs. -/
def qenAfter (s : State) (p : Nat) : Bool := if p < 24 then qenOf s p else (pairAt s p).qen

theorem pairAt_refreshQen (h : PairsListed s) : pairAt (refreshQen s) p =
    switchPair (nowUs s) ((pairAt s p).on && qenAfter s p && (drives s && !row3 s)) { pairAt s p with qen := qenAfter s p } := by
  have hc := qensSet_changes (List.range 24) s
  have hx : pairAt (qensSet (List.range 24) s) p = { pairAt s p with qen := qenAfter s p } := by
    rw [pairAt_qensSet, qenAfter]
    by_cases hp : p < 24 <;> simp [hp]
  have ho : pairAt (refreshQen s) p = pairAt (openPairs (qensSet (List.range 24) s)) p := by
    rw [pairAt, refreshQen_saf_eq]
    rfl
  rw [ho, pairAt_openPairs (qensSet_listed _ h), hx, hc.nowUs rfl]
  simp only [drives, gate, row3, hc.sup rfl, hc.pst rfl]

/-- No enable turns a pair on (R205). -/
theorem refreshQen_on (h : PairsListed s) (ho : (pairAt (refreshQen s) p).on = true) : (pairAt s p).on = true := by
  rw [pairAt_refreshQen h] at ho
  simp only [switchPair, Bool.and_eq_true] at ho
  exact ho.1.1

/-- What is no enable and no switch of a pair stays. -/
theorem refreshQen_latches (h : PairsListed s) :
    ∃ q o w, pairAt (refreshQen s) p = { pairAt s p with qen := q, on := o, offAt := w } := ⟨_, _, _, pairAt_refreshQen h⟩

theorem refreshQen_alike (h : PairsListed s) : EnablesAlike s (refreshQen s) := by
  have hc := refreshQen_changes s
  have hs := refreshQen_saf s
  refine ⟨hc.img rfl, hc.sup rfl, hc.pst rfl, by rw [hs], by rw [hs], fun p => ?_⟩
  obtain ⟨q, o, w, e⟩ := refreshQen_latches (p := p) h
  rw [e]
  rfl

theorem refreshQen_qen (h : PairsListed s) (hp : p < 24) : (pairAt (refreshQen s) p).qen = qenOf (refreshQen s) p := by
  rw [(refreshQen_alike h).qenOf, pairAt_refreshQen h, qenAfter, if_pos hp]
  rfl

end Sys2Proof.Machine
end

section
/-! The Quill's evaluation, slot by slot (R206, R212). -/

namespace Sys2Proof.Machine

variable {n k : Nat} {c : SlotCfg} {s t u : State}

/-- An operation on slot n leaves every other slot and every pair. -/
def SlotAlone (n : Nat) (s t : State) : Prop :=
  (∀ k, k ≠ n → slotAt t k = slotAt s k) ∧ t.saf.pairs = s.saf.pairs ∧ Changes [.saf, .evr] s t

theorem SlotAlone.refl : SlotAlone n s s := ⟨fun _ _ => rfl, rfl, .refl⟩

theorem SlotAlone.trans (h : SlotAlone n s t) (g : SlotAlone n t u) : SlotAlone n s u := by
  obtain ⟨hslots, hpairs, hc⟩ := h
  obtain ⟨gslots, gpairs, gc⟩ := g
  exact ⟨fun k hk => (gslots k hk).trans (hslots k hk), gpairs.trans hpairs, gc.app hc⟩

theorem setSlot_alone {f : Slot → Slot} : SlotAlone n s (setSlot n f s) :=
  ⟨fun _ hk => tget_tmod_other hk, rfl, (setSlot_changes n f s).mono rfl⟩

/-- What leaves the slots and the pairs leaves them alone. -/
theorem Changes.alone (h : Changes [.saf, .evr] s t) (hs : t.saf.slots = s.saf.slots) (hp : t.saf.pairs = s.saf.pairs) : SlotAlone n s t :=
  ⟨fun _ _ => slotAt_of_slots hs, hp, h⟩

theorem post_alone {code inst : Nat} {vals : List Word} : SlotAlone n s (post code inst vals s) :=
  ((post_changes code inst vals s).mono rfl).alone (congrArg Saf.slots post_saf) (congrArg Saf.pairs post_saf)

theorem SlotAlone.ite {P : Prop} [Decidable P] (h : SlotAlone n s t) (g : SlotAlone n s u) : SlotAlone n s (if P then t else u) := by
  split <;> assumption

theorem slotTo_alone {x : SlotState} {f : Slot → Slot} : SlotAlone n s (slotTo n x f s) :=
  setSlot_alone.trans (.ite .refl post_alone)

theorem twoHand_alone {b : Bool} : SlotAlone n s (twoHand n b s) :=
  .ite setSlot_alone (.ite .refl (.ite (.ite setSlot_alone slotTo_alone) (.ite setSlot_alone .refl)))

theorem noteResponse_alone : SlotAlone n s (noteResponse c s) := ((noteResponse_changes c s).mono rfl).alone rfl rfl

theorem evalSlot_alone : SlotAlone n s (evalSlot n s) := by
  have taken : SlotAlone n s (causesTaken n s) := setSlot_alone
  rw [evalSlot_eq, slotMoves]
  split
  · exact taken.trans setSlot_alone
  · exact .ite (taken.trans twoHand_alone) (.ite taken (taken.trans slotTo_alone))
  · exact .ite (.trans (.ite taken (taken.trans noteResponse_alone)) slotTo_alone) taken

theorem stuckStep_alone : SlotAlone n s (stuckStep n s) := by
  unfold stuckStep
  refine .ite .refl (.ite setSlot_alone ?_)
  split
  · exact setSlot_alone
  · exact .ite setSlot_alone .refl

theorem testEnded_alone {pass : Bool} : SlotAlone n s (testEnded n pass s) := by
  cases pass
  · exact setSlot_alone
  · exact setSlot_alone.trans (((onSaf_changes _ _).mono rfl).alone rfl rfl)

theorem brakeTestDone_alone {pass : Bool} : SlotAlone n s (brakeTestDone n pass s) := testEnded_alone.trans post_alone

theorem brakeTestStep_alone : SlotAlone n s (brakeTestStep n s) :=
  .ite .refl (.trans setSlot_alone (.ite brakeTestDone_alone .refl))

/-- One slot's part in an evaluation: its reset input, its brake test, its transition. -/
def slotStep (n : Nat) (s : State) : State := evalSlot n (brakeTestStep n (stuckStep n s))

theorem slotStep_alone (n : Nat) (s : State) : SlotAlone n s (slotStep n s) :=
  (stuckStep_alone.trans brakeTestStep_alone).trans evalSlot_alone

theorem quillEvaluation_active (h : quillActive s = true) :
    quillEvaluation s = refreshQen (forEach (slotOrder s) slotStep s) := if_pos h

theorem quillEvaluation_idle (h : quillActive s = false) : quillEvaluation s = refreshQen s := if_neg (by rw [h]; decide)

/-- Operations on slots one after the other leave the pairs. -/
theorem forEach_alone {g : Nat → State → State} (hg : ∀ a u, SlotAlone a u (g a u)) (l : List Nat) :
    ∀ {s}, Changes [.saf, .evr] s (forEach l g s) ∧ (forEach l g s).saf.pairs = s.saf.pairs ∧
      ∀ k, k ∉ l → slotAt (forEach l g s) k = slotAt s k := by
  induction l with
  | nil => exact ⟨.refl, rfl, fun _ _ => rfl⟩
  | cons a l ih =>
    intro s
    obtain ⟨hslots, hpairs, hc⟩ := hg a s
    obtain ⟨ic, ipairs, islots⟩ := ih (s := g a s)
    refine ⟨ic.app hc, ipairs.trans hpairs, fun k hk => ?_⟩
    obtain ⟨hka, hkl⟩ := not_or.mp (List.mem_cons.not.mp hk)
    exact (islots k hkl).trans (hslots k hka)

/-- The slot that comes once in the list is left as its own operation leaves it, in a state that differs in nothing it reads. -/
theorem forEach_once {g : Nat → State → State} (hg : ∀ a u, SlotAlone a u (g a u)) {l : List Nat} (hl : l.Nodup) (hn : n ∈ l) :
    ∀ {s}, ∃ u, Changes [.saf, .evr] s u ∧ slotAt u n = slotAt s n ∧ slotAt (forEach l g s) n = slotAt (g n u) n := by
  induction l with
  | nil => exact absurd hn List.not_mem_nil
  | cons a l ih =>
    intro s
    obtain ⟨ha, hl⟩ := List.nodup_cons.mp hl
    rcases List.mem_cons.mp hn with rfl | hn
    · obtain ⟨-, -, hslots⟩ := forEach_alone hg l (s := g n s)
      exact ⟨s, .refl, rfl, hslots n ha⟩
    · obtain ⟨hslots, -, hc⟩ := hg a s
      obtain ⟨u, hu, hx, he⟩ := ih hl hn (s := g a s)
      exact ⟨u, hu.app hc, hx.trans (hslots n fun e => ha (e ▸ hn)), he⟩

/-- A slot is configured once. -/
theorem iget_of_mem {α : Type} {l : List (Nat × α)} {v : α} (hl : (l.map (·.1)).Nodup) (h : (n, v) ∈ l) : iget l n = some v := by
  induction l with
  | nil => exact absurd h List.not_mem_nil
  | cons p l ih =>
    obtain ⟨hp, hl⟩ := List.nodup_cons.mp hl
    rcases List.mem_cons.mp h with rfl | h
    · simp [iget]
    · have hne : (p.1 == n) = false := beq_eq_false_iff_ne.mpr fun e => hp (List.mem_map.mpr ⟨_, h, e.symm⟩)
      have e : iget (p :: l) n = iget l n := by simp only [iget, List.find?_cons, hne]
      exact e.trans (ih hl h)

/-- The order of the evaluation is one of the configured slots. -/
theorem slotOrder_perm : (slotOrder s).Perm (s.img.slotsCfg.map (·.1)) := by
  have h := (List.filter_append_perm (fun c : Nat × SlotCfg => c.2.typ != 4) s.img.slotsCfg).map (·.1)
  simpa only [slotOrder, bne, Bool.not_not, List.map_append] using h

end Sys2Proof.Machine
end

section
/-! The transitions of a slot of type 0x0 to 0x3 (R212 to R220). -/

namespace Sys2Proof.Machine

variable {n : Nat} {c : SlotCfg} {s t u : State} {x y : Slot} {b : Bool}

/-- How a slot `x` goes over into `y` in one evaluation, its channels and groups being those of `s` (R212 to R220). -/
def QuillMoves (s : State) (n : Nat) (c : SlotCfg) (x y : Slot) : Prop :=
  let cause := otherExt s n || !allRun s c
  (x.st = .fault → y.st = .fault) ∧
  (x.st = .released ∨ x.st = .awaiting → cause = true → y.st = .demanded ∧ y.cntDemand = inc16 x.cntDemand ∧
    y.delaying = (x.delaying || (x.st == .released && c.typ != 2 && c.offDelay != 0))) ∧
  (x.st = .released ∨ x.st = .awaiting → cause = false → y.st = x.st) ∧
  (x.st = .demanded → c.typ ≠ 2 →
    (cause = true ∨ x.delaying = true ∨ (x.startupPend = true ∧ allDemandState s c = false) → y.st = .demanded) ∧
    (cause = false → x.delaying = false → x.startupPend = false ∨ allDemandState s c = true →
      y.st = if c.auto = true ∧ c.typ ≠ 0 then .released else .awaiting)) ∧
  (x.st = .demanded → c.typ = 2 →
    (atRest s c = true → y.st = .demanded ∧ y.rearmed = true) ∧
    (atRest s c = false → x.rearmed = false → y.st = .demanded ∧ y.rearmed = false) ∧
    (atRest s c = false → x.rearmed = true → button s c true = true → button s c false = true →
      otherExt s n = false → x.delaying = false → y.st = .released))

theorem typ_ne_brake (ht : c.typ.toNat < 4) : c.typ ≠ 4 := by
  intro h
  rw [h] at ht
  exact absurd ht (by decide)

/-- Two-hand control alone of the types below 0x4 has no off delay (R220). -/
theorem hasOffDelay_input (ht : c.typ.toNat < 4) : hasOffDelay c = (c.typ != 2 && c.offDelay != 0) := by
  have h : ∀ k : BitVec 3, k.toNat < 4 → (k == 0 || k == 1 || k == 3 || k == 4) = (k != 2) := by decide
  rw [hasOffDelay, h _ ht, Bool.and_comm]

/-- No trigger demands such a slot (R221). -/
theorem causeOf_input (hc : slotCfg s n = c) (ht : c.typ.toNat < 4) : causeOf s n = (otherExt s n || !allRun s c) := by
  have h : triggered s c = false := by rw [triggered, beq_eq_false_iff_ne.mpr (typ_ne_brake ht), Bool.false_and]
  rw [causeOf, hc, h, Bool.or_false]

theorem twoHand_atRest (h : atRest s (slotCfg s n) = true) : slotAt (twoHand n b s) n =
    { slotAt s n with rearmed := true, firstButton := false, syncMiss := false } := by
  have e : twoHand n b s = setSlot n (fun x => { x with rearmed := true, firstButton := false, syncMiss := false }) s := if_pos h
  rw [e, slotAt_setSlot]

theorem twoHand_notRearmed (h : atRest s (slotCfg s n) = false) (hr : (slotAt s n).rearmed = false) : twoHand n b s = s :=
  (if_neg (by rw [h]; decide)).trans (if_pos (congrArg (! ·) hr))

theorem twoHand_releases (h : atRest s (slotCfg s n) = false) (hr : (slotAt s n).rearmed = true)
    (h1 : button s (slotCfg s n) true = true) (h2 : button s (slotCfg s n) false = true) :
    twoHand n false s = slotTo n .released (fun x => { x with rearmed := false, firstButton := false }) s :=
  (if_neg (by rw [h]; decide)).trans ((if_neg (by show ¬(!(slotAt s n).rearmed) = true; rw [hr]; decide)).trans
    ((if_pos (by rw [h1, h2]; rfl)).trans (if_neg (by decide))))

/-- One slot evaluated (R212). -/
theorem evalSlot_moves (hc : slotCfg s n = c) (ht : c.typ.toNat < 4) : QuillMoves s n c (slotAt s n) (slotAt (evalSlot n s) n) := by
  have hcause := causeOf_input hc ht
  refine ⟨evalSlot_fault, fun hst h => ?_, fun hst h => ?_, fun hst h2 => ⟨fun h => ?_, fun h hd hs => ?_⟩,
    fun hst h2 => ⟨fun hr => ?_, fun hr hn => ?_, fun hr hn h1 h2' ho hd => ?_⟩⟩
  · obtain ⟨d, hd, e⟩ := evalSlot_demands hst (hcause.trans h)
    rw [e, hd (by rw [hc]; exact typ_ne_brake ht), hc, hasOffDelay_input ht]
    refine ⟨rfl, rfl, ?_⟩
    simp only [Bool.true_and, Bool.and_comm, Bool.and_assoc]
  · rw [evalSlot_stays hst (hcause.trans h), slotAt_causesTaken]
  · rw [evalSlot_demanded hst (by rw [hc]; exact h2), hcause, hc, if_pos ?_, slotAt_causesTaken]
    · exact hst
    · rcases h with h | h | ⟨h, h'⟩ <;> simp [h]
      simp [h']
  · rw [evalSlot_demanded hst (by rw [hc]; exact h2), hcause, hc, h, hd, if_neg ?_, slotAt_slotTo]
    · simp only [entered, autoReset, Bool.and_eq_true, bne_iff_ne]
    · rcases hs with hs | hs <;> simp [hs]
  · rw [evalSlot_twoHand hst (by rw [hc]; exact h2), twoHand_atRest (by rw [← hc] at hr; exact hr), slotAt_causesTaken]
    exact ⟨hst, rfl⟩
  · have e := twoHand_notRearmed (s := causesTaken n s) (n := n) (b := otherExt s n || (slotAt s n).delaying)
      (by rw [← hc] at hr; exact hr) (by rw [slotAt_causesTaken]; exact hn)
    rw [evalSlot_twoHand hst (by rw [hc]; exact h2), e, slotAt_causesTaken]
    exact ⟨hst, hn⟩
  · rw [evalSlot_twoHand hst (by rw [hc]; exact h2), ho, hd]
    have e := twoHand_releases (s := causesTaken n s) (n := n) (by rw [← hc] at hr; exact hr) (by rw [slotAt_causesTaken]; exact hn)
      (by rw [← hc] at h1; exact h1) (by rw [← hc] at h2'; exact h2')
    rw [Bool.or_false, e, slotAt_slotTo]
    rfl

theorem slotCfg_of_changes (h : Changes [.saf, .evr] s u) (hc : slotCfg s n = c) : slotCfg u n = c := by
  rw [← hc, slotCfg, h.img rfl]
  rfl

/-- What a slot reads of its channels and groups, where only slots, pairs and the Inkwell changed. -/
theorem otherExt_input (h : Changes [.saf, .evr] s u) (hc : slotCfg s n = c) (ht : c.typ.toNat < 4) : otherExt u n = otherExt s n := by
  have h4 : (c.typ == 4) = false := beq_eq_false_iff_ne.mpr (typ_ne_brake ht)
  simp only [otherExt_eq, slotCfg_of_changes h hc, hc, h4, Bool.false_and, h.sup rfl, grp, h.fch rfl]

theorem qin_of_changes (h : Changes [.saf, .evr] s u) (k : Nat) : qin u k = qin s k := by simp only [qin, chan, h.fch rfl]

theorem inRunState_of_changes (h : Changes [.saf, .evr] s u) : inRunState u = inRunState s := by
  funext p
  simp only [inRunState, qin_of_changes h]

theorem QuillMoves.of_changes (h : Changes [.saf, .evr] s u) (hc : slotCfg s n = c) (ht : c.typ.toNat < 4)
    (hm : QuillMoves u n c x y) : QuillMoves s n c x y := by
  simpa only [QuillMoves, otherExt_input h hc ht, allRun, allDemandState, inRunState_of_changes h, atRest, button,
    qin_of_changes h] using hm

theorem slotAt_stuckStep : ∃ a d, slotAt (stuckStep n s) n = { slotAt s n with rstStuck := a, rstOffAt := d } := by
  unfold stuckStep
  dsimp only
  split_ifs
  · exact ⟨_, _, rfl⟩
  · exact ⟨_, _, slotAt_setSlot⟩
  · split
    · exact ⟨_, _, slotAt_setSlot⟩
    · split_ifs
      · exact ⟨_, _, slotAt_setSlot⟩
      · exact ⟨_, _, rfl⟩

theorem brakeTestStep_idle (h : (slotAt s n).testing = false) : brakeTestStep n s = s := if_pos (congrArg (! ·) h)

/-- One slot's part in an evaluation, where no test runs (R212). -/
theorem slotStep_moves (hc : slotCfg s n = c) (ht : c.typ.toNat < 4) (hx : (slotAt s n).testing = false) :
    QuillMoves s n c (slotAt s n) (slotAt (slotStep n s) n) := by
  obtain ⟨a, d, e⟩ := slotAt_stuckStep (n := n) (s := s)
  obtain ⟨-, -, hs⟩ := stuckStep_alone (n := n) (s := s)
  have hm := (evalSlot_moves (slotCfg_of_changes hs hc) ht).of_changes hs hc ht
  rw [e] at hm
  rw [slotStep, brakeTestStep_idle (by rw [e]; exact hx)]
  exact hm

/-- One slot in an evaluation of the Quill (R212). -/
theorem quillEvaluation_moves (ha : quillActive s = true) (hn : (s.img.slotsCfg.map (·.1)).Nodup) (hm : (n, c) ∈ s.img.slotsCfg)
    (ht : c.typ.toNat < 4) (hx : (slotAt s n).testing = false) :
    QuillMoves s n c (slotAt s n) (slotAt (quillEvaluation s) n) := by
  have hc : slotCfg s n = c := slotCfg_of_iget (iget_of_mem hn hm)
  have hmem : n ∈ slotOrder s := slotOrder_perm.mem_iff.mpr (List.mem_map.mpr ⟨_, hm, rfl⟩)
  obtain ⟨u, hu, hxu, he⟩ := forEach_once slotStep_alone (slotOrder_perm.nodup_iff.mpr hn) hmem (s := s)
  rw [quillEvaluation_active ha, slotAt_refreshQen, he, ← hxu]
  exact (slotStep_moves (slotCfg_of_changes hu hc) ht (by rw [hxu]; exact hx)).of_changes hu hc ht

/-- What `Obligations.QuillEvaluation` says holds wherever the table of pairs is in its canonical form, as every operation keeps it
(log 2). -/
theorem quillEvaluation_canonical (h : PairsListed s) : Does .quillEvaluation s (fun t =>
    (∀ p, (pairAt t p).on = true → (pairAt s p).on = true) ∧
    (∀ p, p < 24 → (pairAt t p).qen = qenOf t p) ∧
    (quillActive s = false → t.saf.slots = s.saf.slots ∧ ∀ p, p < 24 → (pairAt t p).qen = false) ∧
    (quillActive s = true → (s.img.slotsCfg.map (·.1)).Nodup → ∀ n c, (n, c) ∈ s.img.slotsCfg → c.typ.toNat < 4 →
      (slotAt s n).testing = false → QuillMoves s n c (slotAt s n) (slotAt t n))) := by
  refine ⟨_, rfl, ?_⟩
  cases ha : quillActive s with
  | false =>
    rw [quillEvaluation_idle ha]
    refine ⟨fun p => refreshQen_on h, fun p hp => refreshQen_qen h hp, fun _ => ⟨by rw [refreshQen_saf], fun p hp => ?_⟩, nofun⟩
    rw [refreshQen_qen h hp, (refreshQen_alike h).qenOf, qenOf_eq, ha]
    rfl
  | true =>
    obtain ⟨-, hpairs, -⟩ := forEach_alone slotStep_alone (slotOrder s) (s := s)
    have hl : PairsListed (forEach (slotOrder s) slotStep s) := by rw [PairsListed, hpairs]; exact h
    have hp : ∀ p, pairAt (forEach (slotOrder s) slotStep s) p = pairAt s p := fun p => by rw [pairAt, hpairs]; rfl
    refine ⟨fun p ho => ?_, fun p hp => ?_, nofun, fun _ hn n c hm ht hx => quillEvaluation_moves ha hn hm ht hx⟩
    · rw [quillEvaluation_active ha] at ho
      exact (hp p) ▸ refreshQen_on hl ho
    · rw [quillEvaluation_active ha]
      exact refreshQen_qen hl hp

end Sys2Proof.Machine
end

section
/-! Reset demands (R212, R214, R224, R225, R229). -/

namespace Sys2Proof.Machine

variable {i n p : Nat} {c : SlotCfg} {s t u : State} {x y : Slot} {f : Slot → Slot} {l : List Nat}

/-! ### Latches -/

/-- The latches of pair p as a reset demand leaves them: each stands while its cause does, STUCK in any case (R229). -/
def latchesLeft (s : State) (p : Nat) (a : Pair) : Pair :=
  let c := pairCfg s p
  { a with
    sag := a.sag && lowFault (grp s (groupOf (c.pch - 1)))
    maint := a.maint && (grp s (groupOf (c.pch - 1))).maint
    short := a.short && !(qualCode s (c.pch - 1) != 9 && qualCode s (c.mch - 1) != 9)
    edm := a.edm && !qin s c.edmch }

theorem clearLatches_eq : clearLatches p s = setPair p (latchesLeft s p) s := rfl

theorem cleared_setPair {q : Nat} {g : Pair → Pair} : latchesLeft (setPair q g s) p = latchesLeft s p := rfl

theorem cleared_twice {a : Pair} : latchesLeft s p (latchesLeft s p a) = latchesLeft s p a := by
  simp only [latchesLeft, Bool.and_assoc, Bool.and_self]

theorem clearLatches_listed (l : List Nat) : ∀ {s}, PairsListed s → PairsListed (forEach l clearLatches s) := by
  induction l with
  | nil => exact id
  | cons q l ih => exact fun h => ih (setPair_listed h)

theorem clearLatches_saf (l : List Nat) :
    ∀ {s}, (forEach l clearLatches s).saf = { s.saf with pairs := (forEach l clearLatches s).saf.pairs } := by
  induction l with
  | nil => exact rfl
  | cons q l ih => exact ih

/-- The latches of several pairs latchesLeft, whether a pair is named once or more often. -/
theorem pairAt_clearLatches (l : List Nat) :
    ∀ {s}, pairAt (forEach l clearLatches s) p = if p ∈ l then latchesLeft s p (pairAt s p) else pairAt s p := by
  induction l with
  | nil => exact rfl
  | cons q l ih =>
    intro s
    have e : forEach (q :: l) clearLatches s = forEach l clearLatches (setPair q (latchesLeft s q) s) := rfl
    rw [e, ih, cleared_setPair, pairAt_setPair]
    by_cases h : p = q
    · subst h
      by_cases hl : p ∈ l <;> simp [hl, cleared_twice]
    · simp [h]

/-! ### Slots -/

theorem resetSlot_alone (n : Nat) (s : State) : SlotAlone n s (resetSlot n s) := by
  unfold resetSlot
  dsimp only
  split
  · exact .ite .refl slotTo_alone
  · exact .ite slotTo_alone .refl
  · exact .refl

theorem slotAt_forEach_setSlot (hl : l.Nodup) :
    slotAt (forEach l (fun n s => setSlot n f s) s) n = if n ∈ l then f (slotAt s n) else slotAt s n := by
  have alone : ∀ a u, SlotAlone a u (setSlot a f u) := fun _ _ => setSlot_alone
  split
  · rename_i h
    obtain ⟨u, -, hx, e⟩ := forEach_once alone hl h (s := s)
    rw [e, slotAt_setSlot, hx]
  · rename_i h
    exact (forEach_alone alone l).2.2 n h

theorem resetsOn_nodup (h : (s.img.slotsCfg.map (·.1)).Nodup) : (resetsOn s i).Nodup := h.sublist (List.filter_sublist.map _)

theorem mem_resetsOn (h : (s.img.slotsCfg.map (·.1)).Nodup) (hm : (n, c) ∈ s.img.slotsCfg) : n ∈ resetsOn s i ↔ c.rst = i + 1 := by
  have hc := iget_of_mem h hm
  constructor
  · intro hr
    obtain ⟨⟨k, d⟩, hd, rfl⟩ := List.mem_map.mp hr
    obtain ⟨hd, he⟩ := List.mem_filter.mp hd
    obtain rfl : c = d := Option.some.inj (hc.symm.trans (iget_of_mem h hd))
    exact beq_iff_eq.mp he
  · exact fun he => List.mem_map.mpr ⟨_, List.mem_filter.mpr ⟨hm, beq_iff_eq.mpr he⟩, rfl⟩

/-- How a press takes a slot `x` over into `y` (R212, R225). -/
def ResetMoves (s : State) (n : Nat) (c : SlotCfg) (x y : Slot) : Prop :=
  (x.st = .awaiting → c.auto = false ∨ c.typ = 0 → causeOf s n = false → y.st = .released) ∧
  (x.st = .awaiting → causeOf s n = true → y = x) ∧
  (x.st = .fault → x.allDemand = true ∨ allDemandState s c = true → faultOver s n = true → y.st = .demanded ∧ y.fault = 0) ∧
  (x.st = .fault → faultOver s n = false → y = x) ∧ (x.st = .demanded ∨ x.st = .released → y = x)

theorem resetSlot_awaiting (h : (slotAt s n).st = .awaiting) : resetSlot n s =
    if autoReset (slotCfg s n) || causeOf s n then s else slotTo n .released id s := by
  have h' : (tget ({} : Slot) s.saf.slots n).st = .awaiting := h
  rw [resetSlot]
  simp only [h']

theorem resetSlot_fault (h : (slotAt s n).st = .fault) : resetSlot n s =
    if ((slotCfg s n).typ == 4 || (slotAt s n).allDemand || allDemandState s (slotCfg s n)) && faultOver s n then
      slotTo n .demanded (fun x => { x with fault := 0, allDemand := false, missed := [], crossed := 0, rearmed := false,
                                            firstButton := false }) s
    else s := by
  have h' : (tget ({} : Slot) s.saf.slots n).st = .fault := h
  rw [resetSlot]
  simp only [h']
  rfl

theorem resetSlot_other (h : (slotAt s n).st = .demanded ∨ (slotAt s n).st = .released) : resetSlot n s = s := by
  have h' : (tget ({} : Slot) s.saf.slots n).st = .demanded ∨ (tget ({} : Slot) s.saf.slots n).st = .released := h
  rw [resetSlot]
  rcases h' with h' | h' <;> simp only [h']

theorem resetSlot_moves (hc : slotCfg s n = c) : ResetMoves s n c (slotAt s n) (slotAt (resetSlot n s) n) := by
  refine ⟨fun h ha hcause => ?_, fun h hcause => ?_, fun h hd ho => ?_, fun h ho => ?_, fun h => by rw [resetSlot_other h]⟩
  · rw [resetSlot_awaiting h, hc, hcause, if_neg, slotAt_slotTo]
    · rfl
    · rcases ha with ha | ha <;> simp [autoReset, ha]
  · rw [resetSlot_awaiting h, hcause, Bool.or_true, if_pos rfl]
  · rw [resetSlot_fault h, hc, ho, if_pos, slotAt_slotTo]
    · exact ⟨rfl, rfl⟩
    · rcases hd with hd | hd <;> simp [hd]
  · rw [resetSlot_fault h, ho, Bool.and_false, if_neg (by decide)]

theorem faultOver_eq : faultOver s n = (match (slotAt s n).fault.toNat with
    | 1 => !disagrees s (slotCfg s n)
    | 2 => (slotAt s n).missed == []
    | 3 => (slotAt s n).crossed == 0
    | 4 => (slotCfg s n).ch1 == 0 || qin s (slotCfg s n).ch1
    | _ => true) := rfl

theorem disagrees_of_changes (h : Changes [.saf, .evr] s u) : disagrees u c = disagrees s c := by
  have hd : disagree2 u = disagree2 s := by
    funext ps
    match ps with
    | [] => rfl
    | [_] => rfl
    | a :: b :: _ => simp only [disagree2, inRunState_of_changes h]
  simp only [disagrees, hd]

theorem ResetMoves.of_changes (h : Changes [.saf, .evr] s u) (hx : slotAt u n = slotAt s n) (hc : slotCfg s n = c)
    (ht : c.typ.toNat < 4) (hm : ResetMoves u n c x y) : ResetMoves s n c x y := by
  have hu : slotCfg u n = c := slotCfg_of_changes h hc
  have hcause : causeOf u n = causeOf s n := by
    rw [causeOf_input hu ht, causeOf_input hc ht, otherExt_input h hc ht]
    simp only [allRun, inRunState_of_changes h]
  have hover : faultOver u n = faultOver s n := by
    simp only [faultOver_eq, hx, hu, hc, disagrees_of_changes h, qin_of_changes h]
  simpa only [ResetMoves, hcause, hover, allDemandState, inRunState_of_changes h] using hm

/-! ### Presses -/

/-- The slots on which a press acts (R224). -/
def pressed (s : State) (i : Nat) : List Nat := (resetsOn s i).filter (fun n => !(slotAt s n).rstStuck)

/-- The latches of the pairs that they name cleared, where nothing holds them. -/
def pressedLatches (s : State) (i : Nat) : State :=
  forEach ((pressed s i).flatMap (fun n => slotPairs (slotCfg s n))) clearLatches s

variable {ms : Nat}

theorem resetDemand_press (ha : quillActive s = true) (h50 : 50 ≤ ms) (h3 : ms ≤ 3000) :
    resetDemand i ms s = refreshQen (forEach (pressed s i) resetSlot (pressedLatches s i)) :=
  (if_neg (by simp [ha, h50])).trans (if_neg (Nat.not_lt.mpr h3))

theorem pressedLatches_saf : (pressedLatches s i).saf = { s.saf with pairs := (pressedLatches s i).saf.pairs } := clearLatches_saf _

theorem pressedLatches_changes : Changes [.saf, .evr] s (pressedLatches s i) :=
  .each (fun p u => (clearLatches_changes p u).mono rfl) .refl

theorem slotAt_pressedLatches : slotAt (pressedLatches s i) n = slotAt s n := slotAt_of_slots (by rw [pressedLatches_saf])

theorem mem_pressed (hn : (s.img.slotsCfg.map (·.1)).Nodup) (hm : (n, c) ∈ s.img.slotsCfg) :
    n ∈ pressed s i ↔ c.rst = i + 1 ∧ (slotAt s n).rstStuck = false := by
  rw [pressed, List.mem_filter, mem_resetsOn hn hm, Bool.not_eq_true']

theorem pressed_moves (hn : (s.img.slotsCfg.map (·.1)).Nodup) (hm : (n, c) ∈ s.img.slotsCfg) (ht : c.typ.toNat < 4)
    (hp : n ∈ pressed s i) :
    ResetMoves s n c (slotAt s n) (slotAt (forEach (pressed s i) resetSlot (pressedLatches s i)) n) := by
  have hc : slotCfg s n = c := slotCfg_of_iget (iget_of_mem hn hm)
  obtain ⟨u, hu, hxu, e⟩ := forEach_once resetSlot_alone ((resetsOn_nodup hn).filter _) hp (s := pressedLatches s i)
  have hsu : Changes [.saf, .evr] s u := hu.app pressedLatches_changes
  have hx : slotAt u n = slotAt s n := hxu.trans slotAt_pressedLatches
  have hr := (resetSlot_moves (slotCfg_of_changes hsu hc)).of_changes hsu hx hc ht
  rw [hx] at hr
  exact e ▸ hr

theorem not_pressed_stays (hp : n ∉ pressed s i) : slotAt (forEach (pressed s i) resetSlot (pressedLatches s i)) n = slotAt s n :=
  ((forEach_alone resetSlot_alone (pressed s i)).2.2 n hp).trans slotAt_pressedLatches

theorem pressed_saf_pairs : (forEach (pressed s i) resetSlot (pressedLatches s i)).saf.pairs = (pressedLatches s i).saf.pairs :=
  (forEach_alone resetSlot_alone _).2.1

theorem pairAt_pressed : pairAt (forEach (pressed s i) resetSlot (pressedLatches s i)) p =
    if p ∈ (pressed s i).flatMap (fun n => slotPairs (slotCfg s n)) then latchesLeft s p (pairAt s p) else pairAt s p := by
  rw [pairAt, pressed_saf_pairs]
  exact pairAt_clearLatches _

/-- A press too short (R224). -/
theorem exec_resetDemand_short {ch : Fin 96} (h : ms < 50) : exec (.resetDemand ch ms) s = .next s :=
  congrArg Host.Outcome.next (if_pos (by simp [h]))

/-- A press too long is counted (R225). -/
theorem does_resetDemand_long {ch : Fin 96} (ha : quillActive s = true) (hn : (s.img.slotsCfg.map (·.1)).Nodup) (h : 3000 < ms) :
    Does (.resetDemand ch ms) s (fun t => t.saf.pairs = s.saf.pairs ∧ ∀ n c, (n, c) ∈ s.img.slotsCfg →
      slotAt t n = if c.rst = ch.val + 1 then { slotAt s n with cntLong := inc8 (slotAt s n).cntLong } else slotAt s n) := by
  have e : resetDemand ch.val ms s =
      forEach (resetsOn s ch.val) (fun n s => setSlot n (fun x => { x with cntLong := inc8 x.cntLong }) s) s :=
    (if_neg (by simp [ha]; omega)).trans (if_pos h)
  refine ⟨_, congrArg Host.Outcome.next e, (forEach_alone (fun _ _ => setSlot_alone) _).2.1, fun n c hm => ?_⟩
  rw [slotAt_forEach_setSlot (resetsOn_nodup hn)]
  simp only [mem_resetsOn hn hm]

/-- A reset input held for longer than 10 s (R224). -/
theorem does_resetInputHeldLong {ch : Fin 96} (hn : (s.img.slotsCfg.map (·.1)).Nodup) : Does (.resetInputHeldLong ch) s (fun t =>
    t.saf.pairs = s.saf.pairs ∧ ∀ n c, (n, c) ∈ s.img.slotsCfg →
      slotAt t n = if c.rst = ch.val + 1 then { slotAt s n with rstStuck := true, rstOffAt := none } else slotAt s n) := by
  refine ⟨_, rfl, (forEach_alone (fun _ _ => setSlot_alone) _).2.1, fun n c hm => ?_⟩
  rw [slotAt_forEach_setSlot (resetsOn_nodup hn)]
  simp only [mem_resetsOn hn hm]

/-- How a press leaves the latches of a pair `a` (R229). -/
def LatchesCleared (s : State) (p : Nat) (a b : Pair) : Prop :=
  b.sag = (a.sag && lowFault (grp s (groupOf ((pairCfg s p).pch - 1)))) ∧
  b.maint = (a.maint && (grp s (groupOf ((pairCfg s p).pch - 1))).maint) ∧
  b.short = (a.short && (qualCode s ((pairCfg s p).pch - 1) == 9 || qualCode s ((pairCfg s p).mch - 1) == 9)) ∧
  b.edm = (a.edm && !qin s (pairCfg s p).edmch)

/-- A press of 50 ms to 3 s, where the table of pairs is in its canonical form (R212, R224, R229). -/
theorem does_resetDemand_press {ch : Fin 96} (hl : PairsListed s) (ha : quillActive s = true)
    (hn : (s.img.slotsCfg.map (·.1)).Nodup) (h50 : 50 ≤ ms) (h3 : ms ≤ 3000) : Does (.resetDemand ch ms) s (fun t =>
    (∀ p, (pairAt t p).on = true → (pairAt s p).on = true) ∧ (∀ p, (pairAt t p).stuck = (pairAt s p).stuck) ∧
    ∀ n c, (n, c) ∈ s.img.slotsCfg → c.typ.toNat < 4 →
      (c.rst = ch.val + 1 → (slotAt s n).rstStuck = false → ResetMoves s n c (slotAt s n) (slotAt t n) ∧
        ∀ p ∈ slotPairs c, LatchesCleared s p (pairAt s p) (pairAt t p)) ∧
      (c.rst ≠ ch.val + 1 ∨ (slotAt s n).rstStuck = true → slotAt t n = slotAt s n)) := by
  refine ⟨_, congrArg Host.Outcome.next (resetDemand_press ha h50 h3), ?_⟩
  have hlu : PairsListed (forEach (pressed s ch.val) resetSlot (pressedLatches s ch.val)) := by
    rw [PairsListed, pressed_saf_pairs]
    exact clearLatches_listed _ hl
  refine ⟨fun p ho => ?_, fun p => ?_, fun n c hm ht => ⟨fun hr hs => ⟨?_, fun p hp => ?_⟩, fun hr => ?_⟩⟩
  · have hu := refreshQen_on hlu ho
    rw [pairAt_pressed] at hu
    split at hu
    · exact hu
    · exact hu
  · obtain ⟨q, o, w, e⟩ := refreshQen_latches (p := p) hlu
    rw [e, pairAt_pressed]
    split <;> rfl
  · rw [slotAt_refreshQen]
    exact pressed_moves hn hm ht ((mem_pressed hn hm).mpr ⟨hr, hs⟩)
  · obtain ⟨q, o, w, e⟩ := refreshQen_latches (p := p) hlu
    have hc : slotCfg s n = c := slotCfg_of_iget (iget_of_mem hn hm)
    rw [e, pairAt_pressed, if_pos (List.mem_flatMap.mpr ⟨n, (mem_pressed hn hm).mpr ⟨hr, hs⟩, by rw [hc]; exact hp⟩)]
    refine ⟨rfl, rfl, ?_, rfl⟩
    simp only [latchesLeft, bne, Bool.not_and, Bool.not_not]
  · rw [slotAt_refreshQen]
    refine not_pressed_stays fun hp => ?_
    obtain ⟨hr', hs⟩ := (mem_pressed hn hm).mp hp
    rcases hr with hr | hr
    · exact hr hr'
    · exact absurd (hs.symm.trans hr) (by decide)

end Sys2Proof.Machine
end

section
/-! The switch-off test and the EDM input of a pair (R226 to R229). -/

namespace Sys2Proof.Machine

variable {p : Fin 24} {s : State} {side : Side} {v : Int} {g : Pair → Pair} {code : Nat}

/-- A pair opened with a latch set on it; one newly set counts (R229). -/
def latchOn (now : Nat) (g : Pair → Pair) (a : Pair) : Pair :=
  { switchPair now false (g a) with cntLatch := if g a = a then a.cntLatch else inc16 a.cntLatch }

theorem latchPairs_one : latchPairs [p.val] g s = applyOutputs (setPair p.val (latchOn (nowUs s) g) s) := rfl

/-- After the latch the enables are brought up to date: the pair stays open. -/
theorem pairAt_latched (h : PairsListed s) :
    ∃ q w, pairAt (refreshQen (latchPairs [p.val] g (post code p.val [] s))) p.val = { g (pairAt s p.val) with
      on := false, qen := q, offAt := w
      cntLatch := if g (pairAt s p.val) = pairAt s p.val then (pairAt s p.val).cntLatch else inc16 (pairAt s p.val).cntLatch } := by
  have hsaf : (latchPairs [p.val] g (post code p.val [] s)).saf = (setPair p.val (latchOn (nowUs s) g) s).saf := by
    rw [latchPairs_one, applyOutputs_saf, (post_changes _ _ _ _).nowUs rfl]
    simp only [setPair, onSaf_saf, post_saf]
  have hl : PairsListed (latchPairs [p.val] g (post code p.val [] s)) := by
    rw [PairsListed, hsaf]
    exact setPair_listed h
  have hx : pairAt (latchPairs [p.val] g (post code p.val [] s)) p.val = latchOn (nowUs s) g (pairAt s p.val) := by
    rw [pairAt, hsaf]
    exact pairAt_setPair.trans (if_pos rfl)
  rw [pairAt_refreshQen hl, hx]
  exact ⟨_, _, rfl⟩

/-! ### The switch-off test (R226, R227) -/

/-- Whether the readback of a terminal has changed as the open switch asks (R226). -/
def hasChanged (side : Side) (v : Int) : Bool :=
  match side with
  | .p => decide (v ≤ 500)
  | .m => decide (v ≥ 1100)

/-- The run of failures of one switch after a test. -/
def tested (side : Side) (ok : Bool) (a : Pair) : Pair :=
  match side with
  | .p => { a with failP := if ok then 0 else a.failP + 1 }
  | .m => { a with failM := if ok then 0 else a.failM + 1 }

theorem switchOffTest_on (hon : (pairAt s p.val).on = true) (hst : (pairCfg s p.val).stest = true) :
    switchOffTest p.val side v s =
      let u := setPair p.val (tested side (hasChanged side v)) s
      if (pairAt u p.val).failP ≥ 2 || (pairAt u p.val).failM ≥ 2 then
        refreshQen (latchPairs [p.val] (fun x => { x with stuck := true }) (post 0x0302 p.val [] u))
      else u := by
  have h : ((pairAt s p.val).on && (pairCfg s p.val).stest) = true := by rw [hon, hst]; rfl
  cases side <;> exact if_pos h

theorem pairAt_tested {ok : Bool} : pairAt (setPair p.val (tested side ok) s) p.val = tested side ok (pairAt s p.val) :=
  pairAt_setPair.trans (if_pos rfl)

/-- The second failure of a switch in a row (R227, R229). -/
theorem does_switchOffTest_stuck (h : PairsListed s) (hon : (pairAt s p.val).on = true) (hst : (pairCfg s p.val).stest = true)
    (h2 : let b := tested side (hasChanged side v) (pairAt s p.val)
      2 ≤ b.failP ∨ 2 ≤ b.failM) : Does (.switchOffTest p side v) s (fun t =>
      let b := pairAt t p.val
      b.stuck = true ∧ b.on = false ∧ ((pairAt s p.val).stuck = false → b.cntLatch = inc16 (pairAt s p.val).cntLatch)) := by
  have e := switchOffTest_on (side := side) (v := v) hon hst
  dsimp only at e
  rw [pairAt_tested, if_pos (by simpa using h2)] at e
  refine ⟨_, congrArg Host.Outcome.next e, ?_⟩
  obtain ⟨q, w, hx⟩ := pairAt_latched (p := p) (g := fun x => { x with stuck := true }) (code := 0x0302)
    (setPair_listed (q := p.val) (f := tested side (hasChanged side v)) h)
  dsimp only
  rw [hx, pairAt_tested]
  refine ⟨rfl, rfl, fun hs => ?_⟩
  obtain ⟨hstuck, hcnt⟩ : (tested side (hasChanged side v) (pairAt s p.val)).stuck = false ∧
      (tested side (hasChanged side v) (pairAt s p.val)).cntLatch = (pairAt s p.val).cntLatch := by
    cases side <;> exact ⟨hs, rfl⟩
  rw [← hcnt]
  exact if_neg fun he => Bool.false_ne_true (hstuck.symm.trans (congrArg Pair.stuck he).symm)

/-- A test that leaves neither switch with two failures in a row changes the run of its switch alone (R227). -/
theorem does_switchOffTest_counted (hon : (pairAt s p.val).on = true) (hst : (pairCfg s p.val).stest = true)
    (h2 : let b := tested side (hasChanged side v) (pairAt s p.val)
      b.failP ≤ 1 ∧ b.failM ≤ 1) :
    Does (.switchOffTest p side v) s (fun t => pairAt t p.val = tested side (hasChanged side v) (pairAt s p.val)) := by
  obtain ⟨hp, hm⟩ := h2
  have e := switchOffTest_on (side := side) (v := v) hon hst
  dsimp only at e
  rw [pairAt_tested, if_neg (by simp; omega)] at e
  exact ⟨_, congrArg Host.Outcome.next e, pairAt_tested⟩

/-- A pair that is off, or without STEST, is not tested (R226). -/
theorem exec_switchOffTest_off (h : (pairAt s p.val).on = false ∨ (pairCfg s p.val).stest = false) :
    exec (.switchOffTest p side v) s = .next s := by
  have hc : ¬((pairAt s p.val).on && (pairCfg s p.val).stest) = true := by rcases h with h | h <;> simp [h]
  exact congrArg Host.Outcome.next (if_neg hc)

/-! ### The EDM input (R228) -/

theorem does_edmTimeout_fault (h : PairsListed s) (hc : (pairCfg s p.val).edmch ≠ 0)
    (hq : qin s (pairCfg s p.val).edmch = (pairAt s p.val).on) :
    Does (.edmTimeout p) s (fun t => (pairAt t p.val).edm = true ∧ (pairAt t p.val).on = false) := by
  have hok : ((pairCfg s p.val).edmch != 0 && qin s (pairCfg s p.val).edmch == (pairAt s p.val).on) = true := by simp [hc, hq]
  obtain ⟨q, w, hx⟩ := pairAt_latched (p := p) (g := fun x => { x with edm := true }) (code := 0x0303) h
  refine ⟨_, congrArg Host.Outcome.next (if_pos hok), ?_⟩
  dsimp only
  rw [edmFault, hx]
  exact ⟨rfl, rfl⟩

theorem exec_edmTimeout_followed (h : (pairCfg s p.val).edmch = 0 ∨ qin s (pairCfg s p.val).edmch ≠ (pairAt s p.val).on) :
    exec (.edmTimeout p) s = .next s := by
  have hok : ¬((pairCfg s p.val).edmch != 0 && qin s (pairCfg s p.val).edmch == (pairAt s p.val).on) = true := by
    rcases h with h | h <;> simp [h]
  exact congrArg Host.Outcome.next (if_neg hok)

end Sys2Proof.Machine
end

section
/-! A table of pairs that is not in its canonical form (log 2). -/

namespace Sys2Proof.Machine

/-- A module in Run without slots, its Quill ticks found faulty, whose table of pairs lists pair 2 twice: closed, and behind that
enabled with its latch STUCK. No operation of the module leaves a table so (log 2). -/
def pairListedTwice : State :=
  { State.reset with
    sup := { State.reset.sup with mode := .run }
    saf := { State.reset.saf with tickFault := true, pairs := [(2, { on := true }), (2, { qen := true, stuck := true })] } }

/-- Opened, the first entry is a pair in its reset state, which a table does not list: what the table then shows is the second. -/
theorem refreshQen_listedTwice : (refreshQen pairListedTwice).saf.pairs = [(2, { qen := true, stuck := true })] := by
  rw [refreshQen_saf_eq]
  decide

theorem qenOf_listedTwice : qenOf (refreshQen pairListedTwice) 2 = false := by
  have hf : (refreshQen pairListedTwice).saf.tickFault = true := by rw [refreshQen_saf]; rfl
  simp [qenOf, hf]

end Sys2Proof.Machine

open Sys2Proof Sys2Proof.Machine

/-- Refutes O35: it asks nothing of the table of pairs. Where the table lists pair 2 twice, the evaluation opens the pair that the first
entry shows, the table drops that entry as equal to the reset state, and pair 2 then shows the QEN of the second, which no slot gives it.
With the table in its canonical form (log 2) all of the statement holds: `quillEvaluation_canonical`. -/
theorem not_quillEvaluation : ¬ Obligations.QuillEvaluation := by
  intro h
  obtain ⟨t, ht, -, hqen, -⟩ := h pairListedTwice
  have e : quillEvaluation pairListedTwice = refreshQen pairListedTwice := rfl
  obtain rfl : refreshQen pairListedTwice = t := e.symm.trans (Host.Outcome.next.inj ht)
  have hq := hqen 2 (by decide)
  rw [refreshQen_listedTwice, qenOf_listedTwice] at hq
  exact absurd hq (by decide)

/-- Refutes O37, on the same state: a press of 400 ms on an input that no slot names opens the pair that the first entry shows, and pair 2
then shows the STUCK of the second. With the table in its canonical form (log 2) each clause holds: `exec_resetDemand_short`,
`does_resetDemand_long`, `does_resetDemand_press`, `does_resetInputHeldLong`, `does_switchOffTest_stuck`, `does_switchOffTest_counted`,
`exec_switchOffTest_off`, `does_edmTimeout_fault` and `exec_edmTimeout_followed`. -/
theorem not_pairsAndResetDemand : ¬ Obligations.PairsAndResetDemand := by
  intro h
  obtain ⟨hreset, -⟩ := h
  obtain ⟨-, -, hpress⟩ := hreset 0 400 pairListedTwice (by decide) (by decide)
  obtain ⟨t, ht, -, hstuck, -⟩ := hpress (by decide) (by decide)
  have e : resetDemand 0 400 pairListedTwice = refreshQen pairListedTwice := rfl
  obtain rfl : refreshQen pairListedTwice = t := e.symm.trans (Host.Outcome.next.inj ht)
  have hs := hstuck 2
  rw [refreshQen_listedTwice] at hs
  exact absurd hs (by decide)
end

section
/-! Commands for both modules of a pair that wait for no T0, and the words of ALM_CMD (R79, R257, R262, R265). -/

namespace Sys2Proof.Machine

variable {f : FwdCmd} {o : Origin} {p : AlmPath} {w : Word} {op arg n : Nat} {s t : State}

/-- A command that waits for no T0 is carried out at the confirmation; until then it is noted as forwarded (R79). -/
theorem forwardBoth_unheld (hf : fwdAct f = none) (k : State → State) : forwardBoth o f k s =
    onPst (fun x => { x with unconfirmed := s.pst.unconfirmed ++ [(f, o, nowUs s)] }) (forwardNow f s) := by
  simp only [forwardBoth, hf, Option.isSome_none, Bool.false_eq_true, if_false, onPst, forwardNow_unconfirmed,
    (forwardNow_changes f s).nowUs]

/-- What an alarm command leaves in a module that takes it (R246, R262). -/
theorem almBoth_paired (h : paired s = true) : almBoth o p w s =
    onPst (fun x => { x with unconfirmed := s.pst.unconfirmed ++ [(.alarm w p (almSeen w s), o, nowUs s)] })
      (forwardNow (.alarm w p (almSeen w s)) s) := (if_pos h).trans (forwardBoth_unheld rfl id)

theorem almBoth_single (h : paired s = false) : almBoth o p w s = almQueue { path := p, word := w } s := if_neg (by simp [h])

/-- An ALM_CMD word as the sum of its fields (R265). -/
def almNumber (op arg n : Nat) : Word := BitVec.ofNat 32 (op * 0x10000000 + arg * 0x1000 + n)

theorem almWord_eq (ho : op < 16) (ha : arg < 65536) (hn : n < 4096) : almWord op arg n = almNumber op arg n := by
  have hlow : arg * 0x1000 + n = arg * 0x1000 ||| n := by
    simpa [Nat.shiftLeft_eq] using Nat.shiftLeft_add_eq_or_of_lt (i := 12) (a := arg) (b := n) hn
  have hall : op * 0x10000000 + (arg * 0x1000 + n) = op * 0x10000000 ||| (arg * 0x1000 + n) := by
    simpa [Nat.shiftLeft_eq] using Nat.shiftLeft_add_eq_or_of_lt (i := 28) (a := op) (b := arg * 0x1000 + n) (by omega)
  refine BitVec.eq_of_toNat_eq ?_
  rw [almNumber, Nat.add_assoc, BitVec.toNat_ofNat, Nat.mod_eq_of_lt (by omega), hall, hlow]
  simp only [almWord, Word.field, BitVec.toNat_or, BitVec.toNat_shiftLeft, BitVec.toNat_ofNat, Nat.shiftLeft_eq]
  rw [Nat.mod_eq_of_lt (a := op) (by omega), Nat.mod_eq_of_lt (a := arg) (by omega), Nat.mod_eq_of_lt (a := n) (by omega),
    Nat.mod_eq_of_lt (a := op * 2 ^ 28) (by omega), Nat.mod_eq_of_lt (a := arg * 2 ^ 12) (by omega), Nat.or_assoc]

theorem almNumber_toNat (ho : op < 16) (ha : arg < 65536) (hn : n < 4096) :
    (almNumber op arg n).toNat = op * 0x10000000 + arg * 0x1000 + n := by
  rw [almNumber, BitVec.toNat_ofNat, Nat.mod_eq_of_lt (by omega)]

theorem almOp_number (ho : op < 16) (ha : arg < 65536) (hn : n < 4096) : almOp (almNumber op arg n) = op := by
  rw [almOp, BitVec.toNat_ushiftRight, almNumber_toNat ho ha hn, Nat.shiftRight_eq_div_pow]
  omega

theorem almArg_number (ho : op < 16) (ha : arg < 65536) (hn : n < 4096) : almArg (almNumber op arg n) = arg := by
  rw [almArg, BitVec.toNat_ushiftRight, almNumber_toNat ho ha hn, Nat.shiftRight_eq_div_pow]
  omega

theorem almTarget_number (ho : op < 16) (ha : arg < 65536) (hn : n < 4096) : almTarget (almNumber op arg n) = n := by
  rw [almTarget, almNumber_toNat ho ha hn]
  omega

end Sys2Proof.Machine
end

section
/-! Alarm commands of a session (R249, R257, R262, R265), and the settled statement. -/

namespace Sys2Proof.Machine

variable {r : Req} {w : Word} {op arg n : Nat} {c : Instr} {s t : State} {st : BitVec 16}

/-! ### What depends on the points alone -/

theorem points_of_img (h : t.img = s.img) : points t = points s := by simp only [points, h]

theorem pointCfg_of_img (h : t.img = s.img) (n : Nat) : pointCfg t n = pointCfg s n := by simp only [pointCfg, points_of_img h]

theorem shelvable_of_img (h : t.img = s.img) (n : Nat) : shelvable t n = shelvable s n := by
  unfold shelvable
  rw [points_of_img h]

theorem almJudge_of_img (h : t.img = s.img) (program : Bool) (w : Word) : almJudge program w t = almJudge program w s := by
  simp only [almJudge, shelvable_of_img h, points_of_img h, h]

theorem almSeen_admitted (w : Word) : almSeen w (admitted r s) = almSeen w s := by
  obtain ⟨p, h⟩ := admitted_eq r s
  rw [h]
  rfl

/-! ### The judgement (R249, R257, R265) -/

/-- Fields that a word may hold: each within its width, of ARG the bits that the operation uses, TARGET 0 where it names nothing. -/
structure AlmFields (op arg n : Nat) : Prop where
  op_lt : op < 12
  op_pos : 0 < op
  arg_lt : arg < 65536
  target_lt : n < 4096
  arg_used : arg &&& almArgMask op = arg
  target_used : op = 1 ∨ op = 2 ∨ op = 3 ∨ op = 4 ∨ n = 0

/-- What the judgement answers to a session's word of such fields. -/
def almVerdict (s : State) (op arg n : Nat) : BitVec 16 :=
  if (op = 1 ∨ op = 3 ∨ op = 4) ∧ iget (points s) n = none then stRange
  else if op = 2 ∧ s.img.cells.length ≤ n then stRange
  else if op = 3 ∧ 1440 < arg then stRange
  else if op = 3 ∧ shelvable s n = false then stShelvable
  else if (op = 8 ∨ op = 9 ∨ op = 10) ∧ s.img.dead = none then stState
  else stOk

theorem almJudge_number (hf : AlmFields op arg n) : almJudge false (almNumber op arg n) s = almVerdict s op arg n := by
  obtain ⟨ho, hz, ha, hn, hm, ht⟩ := hf
  have hused : ¬(op = 0 ∨ 11 < op) := by omega
  have htarget : ¬((¬op = 1 ∧ ¬op = 3 ∧ ¬op = 4) ∧ ¬op = 2 ∧ ¬n = 0) := by omega
  have ho : op < 16 := by omega
  simp only [almJudge, almOp_number ho ha hn, almArg_number ho ha hn, almTarget_number ho ha hn, hm]
  rw [if_neg (by simp), if_neg (by simpa using hused), if_neg (by simpa [or_assoc, not_or] using htarget)]
  simp [almVerdict, or_assoc]

theorem almFields_plain (ho : op < 12) (hz : 0 < op) (hn : n < 4096) (ht : op = 1 ∨ op = 2 ∨ op = 3 ∨ op = 4 ∨ n = 0) :
    AlmFields op 0 n := ⟨ho, hz, by decide, hn, Nat.zero_and _, ht⟩

theorem almFields_shelve (m : BitVec 16) (hn : n < 4096) : AlmFields 3 m.toNat n :=
  ⟨by decide, by decide, m.isLt, hn, (Nat.and_two_pow_sub_one_eq_mod m.toNat 16).trans (Nat.mod_eq_of_lt m.isLt), by simp⟩

theorem almFields_accept (g e : Fin 8) : AlmFields 6 (g.val + 8 * e.val) 0 :=
  ⟨by decide, by decide, by omega, by decide, (Nat.and_two_pow_sub_one_eq_mod _ 6).trans (Nat.mod_eq_of_lt (by omega)), by decide⟩

theorem almFields_assign (g e b : Fin 8) : AlmFields 7 (g.val + 8 * e.val + 64 * b.val) 0 :=
  ⟨by decide, by decide, by omega, by decide, (Nat.and_two_pow_sub_one_eq_mod _ 9).trans (Nat.mod_eq_of_lt (by omega)), by decide⟩

theorem almFields_deadManOn (e : Fin 8) : AlmFields 8 (8 * e.val) 0 :=
  ⟨by decide, by decide, by omega, by decide, (by decide : ∀ e : Fin 8, 8 * e.val &&& 0x38 = 8 * e.val) e, by decide⟩

/-! ### Accepted and refused -/

/-- The command is accepted, and stands in line for the next evaluation, or waits for the partner's confirmation to do so (R246, R262). -/
def AlmLined (r : Req) (s : State) (w : Word) (t : State) : Prop :=
  AcceptedBoth r (.alarm w (.session r.sess) (almSeen w s)) s t ∧
    t.alm = if paired s then s.alm else { s.alm with cmds := s.alm.cmds ++ [{ path := .session r.sess, word := w }] }

/-- The command is refused with a status, and CMD_REF notes it (R257). -/
def AlmDenied (r : Req) (s : State) (st : BitVec 16) (t : State) : Prop :=
  t.alm = { s.alm with evt := s.alm.evt ||| 0x10 } ∧ Answered r st [] s t ∧ t.pst = s.pst

/-- A request below Operate is refused, one of Operate judged (R257). -/
theorem almFromSession_admitted (h : admits r lvView s = true) (hd : s.sup.mode ≠ .decaf) : almFromSession r w s =
    if admits r lvOperate s then answer r (almWrite r w) (admitted r s) else reply r stAccess [] (almRefused (admitted r s)) := by
  rw [almFromSession, screenReq_ok h (.inl hd), ← ite_not]
  refine if_congr ?_ rfl rfl
  rw [admits_iff_level h, ← BitVec.not_lt]
  rfl

theorem does_almRefused (h : admits r lvView s = true) (he : exec c s = .next (reply r st [] (almRefused (admitted r s)))) :
    Does c s (AlmDenied r s st) := by
  refine (does_answered h he rfl admitted_sent).mono fun t ⟨ha, ht⟩ => ⟨?_, ha, ?_⟩
  · rw [ht]
    simp [almRefused, setBit]
  · rw [ht]
    exact admitted_pst

/-- A write whose command does not wait for the partner is answered with its status. -/
theorem answer_now {f : State → Written} (h : f s = (st, t)) (hn : st ≠ stOk ∨ t.pst.unconfirmed = s.pst.unconfirmed) :
    answer r f s = reply r st [] t := by
  unfold answer
  rw [h]
  refine if_neg ?_
  rcases hn with hn | hn <;> simp [hn]

/-- A write whose command waits for the partner is answered at the confirmation (R333). -/
theorem answer_later {f : State → Written} (h : f s = done t) (hl : s.pst.unconfirmed.length < t.pst.unconfirmed.length) :
    answer r f s = t := by
  unfold answer
  rw [h]
  exact if_pos (by simp [done, hl])

theorem almWrite_denied (hj : almJudge false w s = st) (hst : st ≠ stOk) : almWrite r w s = (st, almRefused s) := by
  rw [almWrite, hj]
  exact if_pos hst

theorem almWrite_taken (hj : almJudge false w s = stOk) : almWrite r w s = done (almBoth (.sess r []) (.session r.sess) w s) := by
  rw [almWrite, hj]
  exact if_neg fun hn => hn rfl

/-- A command that the judgement refuses. -/
theorem does_alm_denied (h : admits r lvOperate s = true) (hd : s.sup.mode ≠ .decaf) (he : exec c s = .next (almFromSession r w s))
    (hj : almJudge false w s = st) (hst : st ≠ stOk) : Does c s (AlmDenied r s st) := by
  have hv := admits_mono h (lvView_le lvOperate)
  have hw : almWrite r w (admitted r s) = (st, almRefused (admitted r s)) :=
    almWrite_denied ((almJudge_of_img admitted_img false w).trans hj) hst
  exact does_almRefused hv (by rw [he, almFromSession_admitted hv hd, if_pos h, answer_now hw (.inl hst)])

/-- A command that the judgement passes. -/
theorem does_alm_lined (h : admits r lvOperate s = true) (hd : s.sup.mode ≠ .decaf) (he : exec c s = .next (almFromSession r w s))
    (hj : almJudge false w s = stOk) : Does c s (AlmLined r s w) := by
  have hv := admits_mono h (lvView_le lvOperate)
  have hw := almWrite_taken (r := r) ((almJudge_of_img (admitted_img (r := r)) false w).trans hj)
  rw [almFromSession_admitted hv hd, if_pos h] at he
  unfold AlmLined AcceptedBoth AcceptedWith
  cases hp : paired s with
  | true =>
    obtain ⟨ep, es⟩ := forwardNow_congr (.alarm w (.session r.sess) (almSeen w s)) (admitted_pst (r := r) (s := s)) admitted_tim admitted_sent
    have hc := forwardNow_changes (.alarm w (.session r.sess) (almSeen w s)) (admitted r s)
    rw [almBoth_paired (by simpa using hp), almSeen_admitted] at hw
    rw [answer_later hw (by simp)] at he
    exact ⟨_, he, ⟨hc.pnw, by simp [ep, es]⟩, by simp [hc.alm]⟩
  | false =>
    rw [almBoth_single (by simpa using hp)] at hw
    rw [answer_now hw (.inr rfl)] at he
    refine (does_answered h he rfl admitted_sent).mono fun t ⟨⟨hs, hn⟩, ht⟩ => ⟨⟨hn, ?_⟩, ?_⟩
    · exact ⟨hs, by rw [ht]; exact admitted_pst⟩
    · rw [ht]
      simp [almQueue]

/-! ### Commands by their fields -/

theorem does_almFields_lined (h : admits r lvOperate s = true) (hd : s.sup.mode ≠ .decaf) (hf : AlmFields op arg n)
    (he : exec c s = .next (almFromSession r (almWord op arg n) s)) (hv : almVerdict s op arg n = stOk) :
    Does c s (AlmLined r s (almNumber op arg n)) :=
  does_alm_lined h hd (by rw [he, almWord_eq (by have := hf.op_lt; omega) hf.arg_lt hf.target_lt]) ((almJudge_number hf).trans hv)

theorem does_almFields_denied (h : admits r lvOperate s = true) (hd : s.sup.mode ≠ .decaf) (hf : AlmFields op arg n)
    (he : exec c s = .next (almFromSession r (almWord op arg n) s)) (hv : almVerdict s op arg n = st) (hst : st ≠ stOk) :
    Does c s (AlmDenied r s st) :=
  does_alm_denied h hd (by rw [he, almWord_eq (by have := hf.op_lt; omega) hf.arg_lt hf.target_lt]) ((almJudge_number hf).trans hv) hst

/-- A command of a session below Operate (R257). -/
theorem does_alm_belowOperate (h : admits r lvView s = true) (hl : ¬admits r lvOperate s = true) (hd : s.sup.mode ≠ .decaf)
    (he : exec c s = .next (almFromSession r w s)) : Does c s (AlmDenied r s stAccess) :=
  does_almRefused h (by rw [he, almFromSession_admitted h hd, if_neg hl])

end Sys2Proof.Machine

open Sys2Proof Sys2Proof.Machine

/-- Settles O39: each command through the fields of its word and what the judgement answers to them. -/
theorem alarmCommands : Obligations.AlarmCommands := by
  intro r s h hd
  refine ⟨fun ho p => ?_, fun ho n => ?_, fun ho => ?_, fun ho g e b => ?_, fun ho hdm => ?_, fun ho hdm => ?_, fun hl => ?_⟩
  · have plain : ∀ op, op = 1 ∨ op = 4 → AlmFields op 0 p.toNat := fun op hop =>
      almFields_plain (by omega) (by omega) p.isLt (by omega)
    have shelf := fun m => almFields_shelve m p.isLt
    refine ⟨fun hc => ?_, fun hc => ?_, fun m hc => ?_⟩
    · have hs := Option.ne_none_iff_isSome.mpr hc
      exact ⟨does_almFields_lined ho hd (plain 1 (.inl rfl)) rfl (by simp [almVerdict, hs]),
        does_almFields_lined ho hd (plain 4 (.inr rfl)) rfl (by simp [almVerdict, hs])⟩
    · exact ⟨does_almFields_denied ho hd (plain 1 (.inl rfl)) rfl (by simp [almVerdict, hc]; rfl) (by decide),
        does_almFields_denied ho hd (plain 4 (.inr rfl)) rfl (by simp [almVerdict, hc]; rfl) (by decide),
        fun m => does_almFields_denied ho hd (shelf m) rfl (by simp [almVerdict, hc]; rfl) (by decide)⟩
    · have hs := Option.ne_none_iff_isSome.mpr hc
      refine ⟨fun hm => ?_, fun hm hsh => ?_, fun hm hsh => ?_⟩
      · exact does_almFields_denied ho hd (shelf m) rfl (by simp [almVerdict, hs, hm]; rfl) (by decide)
      · exact does_almFields_lined ho hd (shelf m) rfl (by simp [almVerdict, hs, Nat.not_lt.mpr hm, hsh])
      · exact does_almFields_denied ho hd (shelf m) rfl (by simp [almVerdict, hs, Nat.not_lt.mpr hm, hsh]; rfl) (by decide)
  · have hf : AlmFields 2 0 n.toNat := almFields_plain (by decide) (by decide) n.isLt (by simp)
    exact ⟨fun hn => does_almFields_lined ho hd hf rfl (by simp [almVerdict, Nat.not_le.mpr hn]),
      fun hn => does_almFields_denied ho hd hf rfl (by simp [almVerdict, hn]; rfl) (by decide)⟩
  · have plain : ∀ op, op = 11 ∨ op = 5 → AlmFields op 0 0 := fun op hop => almFields_plain (by omega) (by omega) (by decide) (by simp)
    exact ⟨does_almFields_lined ho hd (plain 11 (.inl rfl)) rfl (by simp [almVerdict]),
      does_almFields_lined ho hd (plain 5 (.inr rfl)) rfl (by simp [almVerdict])⟩
  · exact ⟨does_almFields_lined ho hd (almFields_accept g e) rfl (by simp [almVerdict]),
      does_almFields_lined ho hd (almFields_assign g e b) rfl (by simp [almVerdict])⟩
  · have hs := Option.ne_none_iff_isSome.mpr hdm
    have plain : ∀ op, op = 9 ∨ op = 10 → AlmFields op 0 0 := fun op hop => almFields_plain (by omega) (by omega) (by decide) (by simp)
    exact ⟨fun e => does_almFields_lined ho hd (almFields_deadManOn e) rfl (by simp [almVerdict, hs]),
      does_almFields_lined ho hd (plain 9 (.inl rfl)) rfl (by simp [almVerdict, hs]),
      does_almFields_lined ho hd (plain 10 (.inr rfl)) rfl (by simp [almVerdict, hs])⟩
  · have plain : ∀ op, op = 9 ∨ op = 10 → AlmFields op 0 0 := fun op hop => almFields_plain (by omega) (by omega) (by decide) (by simp)
    exact ⟨fun e => does_almFields_denied ho hd (almFields_deadManOn e) rfl (by simp [almVerdict, hdm]; rfl) (by decide),
      does_almFields_denied ho hd (plain 9 (.inl rfl)) rfl (by simp [almVerdict, hdm]; rfl) (by decide),
      does_almFields_denied ho hd (plain 10 (.inr rfl)) rfl (by simp [almVerdict, hdm]; rfl) (by decide)⟩
  · intro p m g e b
    simp only [List.forall_mem_cons]
    have below : ∀ c w, exec c s = .next (almFromSession r w s) → Does c s (AlmDenied r s stAccess) := fun _ _ =>
      does_alm_belowOperate h hl hd
    exact ⟨below _ _ rfl, below _ _ rfl, below _ _ rfl, below _ _ rfl, below _ _ rfl, below _ _ rfl, below _ _ rfl, below _ _ rfl,
      below _ _ rfl, below _ _ rfl, below _ _ rfl, List.forall_mem_nil _⟩
end

section
/-! What an operation leaves of the alarm engine's record (R240 to R265). -/

namespace Sys2Proof.Machine

variable {s t u : State} {v w : Alm → Alm}

/-- A view of the alarm engine's record shows the same before and after. -/
def AlmKept (v : Alm → Alm) (s t : State) : Prop := v t.alm = v s.alm

theorem AlmKept.refl : AlmKept v s s := rfl

theorem AlmKept.trans (h : AlmKept v s t) (g : AlmKept v t u) : AlmKept v s u := Eq.trans g h

/-- A view that shows less than one that is kept. -/
theorem AlmKept.mono (h : AlmKept v s t) (hw : ∀ a, w (v a) = w a) : AlmKept w s t := by
  have e : w (v t.alm) = w (v s.alm) := congrArg w h
  rwa [hw, hw] at e

theorem AlmKept.ite {P : Prop} [Decidable P] (h : AlmKept v s t) (g : AlmKept v s u) : AlmKept v s (if P then t else u) := by
  split <;> assumption

theorem AlmKept.each {α : Type} {g : α → State → State} (hg : ∀ a u, AlmKept v u (g a u)) (l : List α) :
    ∀ {s}, AlmKept v s (forEach l g s) := by
  induction l with
  | nil => exact .refl
  | cons a l ih => exact fun {s} => (hg a s).trans ih

theorem Changes.almKept {T : List Part} (h : Changes T s t) (hT : T.contains .alm = false := by rfl) : AlmKept v s t :=
  congrArg v (h.alm hT)

/-- Everything but the points, the points that became active, the events and the line counter of the sentences. -/
def pointRest (a : Alm) : Alm := { a with points := [], evt := 0, fresh := [], line := 0 }

/-- Everything but the states of points, cells and calls, the events and the line counter. -/
def callRest (a : Alm) : Alm := { a with points := [], cells := [], calls := [], evt := 0, line := 0 }

/-- Everything but the escalation of points and cells and the line counter. -/
def sentRest (a : Alm) : Alm := { a with points := [], cells := [], line := 0 }

theorem AlmKept.calls (h : AlmKept sentRest s t) : t.alm.calls = s.alm.calls := by
  have e : (sentRest t.alm).calls = (sentRest s.alm).calls := congrArg Alm.calls h
  exact e

/-- What no part of an evaluation but its ends changes: the commands in line, the MRAM, ALM_N, the times and the heartbeat. -/
def engineRest (a : Alm) : Alm :=
  { a with
    points := [], cells := [], calls := [], duty := [], dead := .off, deadEngineer := 0, deadSince := 0, fresh := [], evt := 0, line := 0 }

end Sys2Proof.Machine
end

section
/-! The table of points: what an operation on one point leaves of the others (R248). -/

namespace Sys2Proof.Machine

variable {n k : Nat} {st : PointState} {s t u : State} {f : Point → Point} {e : Emit}

theorem pnt_of_alm (h : t.alm = s.alm) : pnt t n = pnt s n := by simp only [pnt, h]

@[simp] theorem pnt_setPnt : pnt (setPnt n f s) n = f (pnt s n) := tget_tmod_same

theorem pnt_setPnt_other (h : k ≠ n) : pnt (setPnt n f s) k = pnt s k := tget_tmod_other h

/-- An operation on point n: every other point stays, and of the rest of the module only what shows and tells of points changes. -/
structure PointAlone (n : Nat) (s t : State) : Prop where
  others : ∀ k, k ≠ n → pnt t k = pnt s k
  rest : AlmKept pointRest s t
  changes : Changes [.alm, .evr, .dsp, .sent] s t

theorem PointAlone.engine (h : PointAlone n s t) : t.alm.dead = s.alm.dead ∧ t.alm.calls = s.alm.calls := by
  have hd : (pointRest t.alm).dead = (pointRest s.alm).dead := congrArg Alm.dead h.rest
  have hc : (pointRest t.alm).calls = (pointRest s.alm).calls := congrArg Alm.calls h.rest
  exact ⟨hd, hc⟩

theorem PointAlone.refl : PointAlone n s s := ⟨fun _ _ => rfl, .refl, .refl⟩

theorem PointAlone.trans (h : PointAlone n s t) (g : PointAlone n t u) : PointAlone n s u :=
  ⟨fun k hk => (g.others k hk).trans (h.others k hk), h.rest.trans g.rest, g.changes.app h.changes⟩

theorem PointAlone.ite {P : Prop} [Decidable P] (h : PointAlone n s t) (g : PointAlone n s u) : PointAlone n s (if P then t else u) := by
  split <;> assumption

/-- What leaves the alarm engine leaves every point. -/
theorem Changes.pointAlone {T : List Part} (h : Changes T s t) (hT : T.contains .alm = false := by rfl)
    (hs : subParts T [.alm, .evr, .dsp, .sent] = true := by rfl) : PointAlone n s t :=
  ⟨fun _ _ => pnt_of_alm (h.alm hT), h.almKept hT, h.mono hs⟩

theorem setPnt_alone : PointAlone n s (setPnt n f s) :=
  ⟨fun _ hk => pnt_setPnt_other hk, rfl, (setPnt_changes n f s).mono rfl⟩

/-- A sentence counts its line and goes out; no point changes by it. -/
theorem sentence_points : (sentence e s).alm = { s.alm with line := s.alm.line % 999 + 1 } := rfl

theorem sendPointAlf_alm : ∃ l, (sendPointAlf n s).alm = { s.alm with line := l } := by
  unfold sendPointAlf
  dsimp only
  split
  · exact ⟨_, sentence_points⟩
  · exact ⟨_, rfl⟩

theorem sendGroupAlf_alm : ∃ l, (sendGroupAlf n s).alm = { s.alm with line := l } := by
  unfold sendGroupAlf
  dsimp only
  split
  · split
    · exact ⟨_, sentence_points⟩
    · exact ⟨_, rfl⟩
  · exact ⟨_, rfl⟩

@[simp] theorem pnt_sendPointAlf : pnt (sendPointAlf n s) k = pnt s k := by
  obtain ⟨l, h⟩ := sendPointAlf_alm (n := n) (s := s)
  simp only [pnt, h]

@[simp] theorem pnt_sendGroupAlf : pnt (sendGroupAlf n s) k = pnt s k := by
  obtain ⟨l, h⟩ := sendGroupAlf_alm (n := n) (s := s)
  simp only [pnt, h]

@[simp] theorem pnt_postCell {code inst cell : Nat} {vals : List Word} : pnt (postCell code inst cell vals s) n = pnt s n :=
  pnt_of_alm (postCell_changes _ _ _ _ _).alm

@[simp] theorem pnt_post {code inst : Nat} {vals : List Word} : pnt (post code inst vals s) n = pnt s n :=
  pnt_of_alm (post_changes _ _ _ _).alm

@[simp] theorem pnt_showAlarms : pnt (showAlarms s) n = pnt s n := pnt_of_alm (showAlarms_changes _).alm

theorem sendPointAlf_alone : PointAlone n s (sendPointAlf k s) := by
  obtain ⟨l, h⟩ := sendPointAlf_alm (n := k) (s := s)
  exact ⟨fun _ _ => pnt_sendPointAlf, by simp only [AlmKept, h, pointRest], (sendPointAlf_changes k s).mono rfl⟩

/-- A point that became active is noted for the summaries (R254). -/
def noteActive (n : Nat) (st : PointState) (s : State) : State :=
  if st = .activeUnack then onAlm (fun a => { a with evt := setBit a.evt 0, fresh := a.fresh ++ [n] }) s else s

@[simp] theorem pnt_noteActive : pnt (noteActive n st s) k = pnt s k := by
  unfold noteActive
  split <;> rfl

theorem noteActive_alone : PointAlone n s (noteActive k st s) :=
  .ite ⟨fun _ _ => rfl, rfl, (onAlm_changes _ _).mono rfl⟩ .refl

/-! ### The state of one point (R248) -/

/-- A point's record in another state. -/
def broughtTo (st : PointState) (p : Point) : Point :=
  { p with st := st, rev := nextRev p.rev, silenced := p.silenced && isUnack st,
           shelfEval := if st = .shelved then p.shelfEval else 0, restore := p.restore && (st = .blocked || st = .normal) }

/-- A suppressed point keeps its state (R243), and so does one that is in it already. -/
def movedTo (st : PointState) (p : Point) : Point := if p.suppr || p.st = st then p else broughtTo st p

/-- `pointTo` as one change of the record and what tells of it. -/
theorem pointTo_eq : pointTo n st s = if (pnt s n).suppr || (pnt s n).st = st then s
    else showAlarms (sendPointAlf n (postCell 0x0501 0 (pointCfg (noteActive n st (setPnt n (broughtTo st) s)) n).cell []
      (noteActive n st (setPnt n (broughtTo st) s)))) := rfl

@[simp] theorem pnt_pointTo : pnt (pointTo n st s) n = movedTo st (pnt s n) := by
  rw [pointTo_eq, movedTo]
  split <;> simp

theorem pointTo_alone : PointAlone n s (pointTo n st s) := by
  rw [pointTo_eq]
  exact .ite .refl (.trans setPnt_alone (.trans noteActive_alone (.trans (postCell_changes _ _ _ _ _).pointAlone
    (.trans sendPointAlf_alone (showAlarms_changes _).pointAlone))))

end Sys2Proof.Machine
end

section
/-! One point through an evaluation: its delays, its shelf, its restart (R242 to R250). -/

namespace Sys2Proof.Machine

variable {n : Nat} {s : State} {p : Point} {c : PointCfg} {r : Reading}

/-! ### The record of a point -/

/-- The on-delay served (R244). -/
def servedOn (p : Point) : Point := { p with onServed := true, onCnt := 0, offCnt := 0 }

/-- The off-delay served (R244). -/
def servedOff (p : Point) : Point := { p with onServed := false, onCnt := 0, offCnt := 0 }

/-- The state after the on-delay (R248). -/
def activeFrom (st : PointState) : PointState := if st = .normal ∨ st = .returnedUnack then .activeUnack else st

/-- The state after the off-delay; `ret`: the point waits for its acknowledgement (R248). -/
def returnedFrom (ret : Bool) (st : PointState) : PointState :=
  if st = .activeUnack then (if ret then .returnedUnack else .normal) else if st = .activeAck then .normal else st

def wentActive (p : Point) : Point := movedTo (activeFrom p.st) (servedOn p)

def wentBack (ret : Bool) (p : Point) : Point := movedTo (returnedFrom ret p.st) (servedOff p)

/-- One evaluation of the delays `d` (R244). -/
def delayed (ret : Bool) (d : Nat × Nat) (p : Point) : Point :=
  if p.cond then
    (if p.onServed then { p with offCnt := 0 }
     else if d.1 ≤ p.onCnt then wentActive p else { p with offCnt := 0, onCnt := p.onCnt + 1 })
  else
    (if !p.onServed then { p with onCnt := 0 }
     else if d.2 ≤ p.offCnt then wentBack ret p else { p with onCnt := 0, offCnt := p.offCnt + 1 })

/-- What a restart kept, restored where the condition is not active (R250). -/
def restored (p : Point) : Point :=
  if p.restore && !p.held then { p with restore := false, st := if !p.cond && p.st == .normal then .returnedUnack else p.st } else p

/-- A point that is not suppressed is in the state it was brought to. -/
theorem movedTo_st {st : PointState} (h : p.suppr = false) : (movedTo st p).st = st := by
  unfold movedTo
  split
  · simp_all
  · rfl

/-- What a change of state leaves: everything that the delays and the condition are told by. -/
theorem movedTo_same (st : PointState) (p : Point) : (movedTo st p).cond = p.cond ∧ (movedTo st p).value = p.value ∧
    (movedTo st p).onServed = p.onServed ∧ (movedTo st p).onCnt = p.onCnt ∧ (movedTo st p).offCnt = p.offCnt ∧
    (movedTo st p).blocking = p.blocking ∧ (movedTo st p).suppr = p.suppr := by
  unfold movedTo
  split <;> exact ⟨rfl, rfl, rfl, rfl, rfl, rfl, rfl⟩

/-! ### The operations on it -/

@[simp] theorem pnt_goesActive : pnt (goesActive n s) n = wentActive (pnt s n) := by
  unfold goesActive wentActive
  simp only [pnt_setPnt]
  split
  · simp_all [activeFrom, servedOn]
  · simp_all [activeFrom, servedOn]
  · simp_all [activeFrom, servedOn, movedTo]
  · simp_all [activeFrom, servedOn, movedTo]

theorem goesActive_alone : PointAlone n s (goesActive n s) := by
  unfold goesActive
  dsimp only
  split
  · exact setPnt_alone.trans pointTo_alone
  · exact setPnt_alone.trans pointTo_alone
  · exact setPnt_alone.trans (postCell_changes _ _ _ _ _).pointAlone
  · exact setPnt_alone

@[simp] theorem pnt_returns : pnt (returns n s) n = wentBack (ackretOf (pointCfg s n)) (pnt s n) := by
  have hc : ∀ f, pointCfg (setPnt n f s) n = pointCfg s n := fun f => pointCfg_of_img (setPnt_changes n f s).img n
  unfold returns wentBack
  simp only [pnt_setPnt, hc]
  split
  · simp_all [returnedFrom, servedOff]
  · simp_all [returnedFrom, servedOff]
  · simp_all [returnedFrom, servedOff, movedTo]

theorem returns_alone : PointAlone n s (returns n s) := by
  unfold returns
  dsimp only
  split
  · exact setPnt_alone.trans pointTo_alone
  · exact setPnt_alone.trans pointTo_alone
  · exact setPnt_alone

theorem wentActive_cleared : wentActive { p with offCnt := 0 } = wentActive p := rfl

theorem wentBack_cleared {ret : Bool} : wentBack ret { p with onCnt := 0 } = wentBack ret p := rfl

@[simp] theorem pnt_stepDelays : pnt (stepDelays n s) n = delayed (ackretOf (pointCfg s n)) (delays s n) (pnt s n) := by
  have hc : ∀ f, pointCfg (setPnt n f s) n = pointCfg s n := fun f => pointCfg_of_img (setPnt_changes n f s).img n
  unfold stepDelays delayed
  simp only [apply_ite (fun t => pnt t n), pnt_setPnt, pnt_goesActive, pnt_returns, hc, wentActive_cleared, wentBack_cleared, gt_iff_lt,
    Nat.lt_succ_iff]

theorem stepDelays_alone : PointAlone n s (stepDelays n s) :=
  .ite (setPnt_alone.trans (.ite .refl (.ite goesActive_alone setPnt_alone)))
    (setPnt_alone.trans (.ite .refl (.ite returns_alone setPnt_alone)))

@[simp] theorem pnt_restoreStep : pnt (restoreStep n s) n = restored (pnt s n) := by
  unfold restoreStep restored
  simp only [apply_ite (fun t => pnt t n), pnt_setPnt]

theorem restoreStep_alone : PointAlone n s (restoreStep n s) := .ite setPnt_alone .refl

/-- The shelf of a point that is not shelved: the mark of a new one goes (R249). -/
theorem pnt_shelfStep (h : (pnt s n).st ≠ .shelved) : pnt (shelfStep n s) n = { pnt s n with shelfNew := false } := by
  unfold shelfStep
  by_cases hn : (pnt s n).shelfNew = true
  · rw [if_pos hn, pnt_setPnt]
  · rw [if_neg hn, if_neg h]
    exact congrArg (fun b => { pnt s n with shelfNew := b }) (Bool.not_eq_true _ ▸ hn)

theorem unshelve_alone : PointAlone n s (unshelve n s) := .ite .refl (.ite pointTo_alone (setPnt_alone.trans pointTo_alone))

theorem shelfStep_alone : PointAlone n s (shelfStep n s) :=
  .ite setPnt_alone (.ite (setPnt_alone.trans (.ite unshelve_alone .refl)) .refl)

theorem takeValue_alone : PointAlone n s (takeValue n c r s) := setPnt_alone

theorem condStep_alone : PointAlone n s (condStep n c r s) := .ite setPnt_alone setPnt_alone

theorem block_alone {rel : Nat} : PointAlone n s (block n rel s) :=
  setPnt_alone.trans (.ite .refl (pointTo_alone.trans (.ite (postCell_changes _ _ _ _ _).pointAlone .refl)))

theorem blockStep_alone : PointAlone n s (blockStep n s).2 := by
  unfold blockStep
  split
  · exact .refl
  · dsimp only
    split
    · exact setPnt_alone.trans block_alone
    · split
      · exact setPnt_alone.trans block_alone
      · split
        · exact setPnt_alone.trans (setPnt_alone.trans pointTo_alone)
        · exact setPnt_alone.trans setPnt_alone

theorem evalPoint_alone (n : Nat) (s : State) : PointAlone n s (evalPoint n s) :=
  takeValue_alone.trans (.ite setPnt_alone (setPnt_alone.trans (condStep_alone.trans (.ite blockStep_alone
    (blockStep_alone.trans (restoreStep_alone.trans (stepDelays_alone.trans shelfStep_alone)))))))

theorem ackPoint_alone {s0 : State} : PointAlone n s (ackPoint s0 n s) := by
  refine .ite ?_ .refl
  split
  · exact pointTo_alone
  · exact pointTo_alone
  · exact .refl

end Sys2Proof.Machine
end

section
/-! Sentences and call groups: what they leave of the points and of the engine (R254, R258, R259, R263, R337). -/

namespace Sys2Proof.Machine

variable {g n k : Nat} {st : BitVec 2} {s t u : State} {f : Call → Call} {v : Alm → Alm}

theorem sentence_sent (e : Emit) (s : State) : (sentence e s).sent = s.sent ++ [.lan (lanSeq s) (.datagram
    { source := s.img.net.udpSource, line := s.alm.line % 999 + 1, talker := s.img.net.udpTalker, group := s.img.net.udpGroup,
      port := s.img.net.udpPort } e)] := rfl

theorem sendPointAlf_kept (n : Nat) (s : State) : AlmKept sentRest s (sendPointAlf n s) := by
  obtain ⟨l, h⟩ := sendPointAlf_alm (n := n) (s := s)
  simp only [AlmKept, h, sentRest]

theorem sendGroupAlf_kept (n : Nat) (s : State) : AlmKept sentRest s (sendGroupAlf n s) := by
  obtain ⟨l, h⟩ := sendGroupAlf_alm (n := n) (s := s)
  simp only [AlmKept, h, sentRest]

/-- What summaries and calls do: of a point they change the escalation counter alone, of the engine cells and calls. -/
structure Called (s t : State) : Prop where
  points : ∀ n, ∃ e, pnt t n = { pnt s n with esc := e }
  rest : AlmKept callRest s t

theorem Called.dead (h : Called s t) : t.alm.dead = s.alm.dead := by
  have hd : (callRest t.alm).dead = (callRest s.alm).dead := congrArg Alm.dead h.rest
  exact hd

theorem Called.refl : Called s s := ⟨fun n => ⟨(pnt s n).esc, rfl⟩, .refl⟩

theorem Called.trans (h : Called s t) (c : Called t u) : Called s u := by
  refine ⟨fun n => ?_, h.rest.trans c.rest⟩
  obtain ⟨e, he⟩ := h.points n
  obtain ⟨e', he'⟩ := c.points n
  exact ⟨e', by rw [he', he]⟩

theorem Called.ite {P : Prop} [Decidable P] (h : Called s t) (c : Called s u) : Called s (if P then t else u) := by
  split <;> assumption

theorem Called.each {α : Type} {a : α → State → State} (ha : ∀ x u, Called u (a x u)) (l : List α) :
    ∀ {s}, Called s (forEach l a s) := by
  induction l with
  | nil => exact .refl
  | cons x l ih => exact fun {s} => (ha x s).trans ih

/-- What leaves the table of points. -/
theorem AlmKept.called (h : AlmKept callRest s t) (hp : t.alm.points = s.alm.points) : Called s t :=
  ⟨fun n => ⟨(pnt s n).esc, by simp only [pnt, hp]⟩, h⟩

theorem Changes.called {T : List Part} (h : Changes T s t) (hT : T.contains .alm = false := by rfl) : Called s t :=
  (h.almKept hT).called (by rw [h.alm hT])

theorem sendPointAlf_called : Called s (sendPointAlf n s) := by
  obtain ⟨l, h⟩ := sendPointAlf_alm (n := n) (s := s)
  exact AlmKept.called (by simp only [AlmKept, h, callRest]) (by rw [h])

theorem sendGroupAlf_called : Called s (sendGroupAlf n s) := by
  obtain ⟨l, h⟩ := sendGroupAlf_alm (n := n) (s := s)
  exact AlmKept.called (by simp only [AlmKept, h, callRest]) (by rw [h])

/-! ### One call group -/

theorem call_of_calls (h : t.alm.calls = s.alm.calls) : call t g = call s g := by simp only [call, h]

@[simp] theorem call_setCall : call (setCall g f s) g = f (call s g) := tget_tmod_same

theorem setCall_called : Called s (setCall g f s) := AlmKept.called rfl rfl

@[simp] theorem call_post {code inst : Nat} {vals : List Word} : call (post code inst vals s) g = call s g :=
  call_of_calls (congrArg Alm.calls (post_changes _ _ _ _).alm)

@[simp] theorem call_notifyCall : call (notifyCall k s) g = call s g := call_of_calls (congrArg Alm.calls (notifyCall_changes _ _).alm)

/-- The escalation of a call group counted (R259). -/
def escalated (g : Nat) (s : State) : State :=
  setCall g (fun x => { x with escalations := inc16 x.escalations }) (onAlm (fun a => { a with evt := setBit a.evt 2 }) s)

/-- A calling point's escalation counter raised, and its sentence sent again (R259, R263). -/
def raisePoint (n : Nat) (s : State) : State := sendPointAlf n (setPnt n (fun p => { p with esc := p.esc + 1 }) s)

/-- A calling group alarm's. -/
def raiseCell (c : Nat) (s : State) : State :=
  sendGroupAlf c (onAlm (fun a => { a with cells := tmod {} a.cells c (fun x => { x with esc := x.esc + 1 }) }) s)

theorem escalate_eq (g : Nat) (s : State) : ∃ ps cs, escalate g s = forEach cs raiseCell (forEach ps raisePoint (escalated g s)) :=
  ⟨_, _, rfl⟩

theorem raisePoint_kept (n : Nat) (s : State) : AlmKept sentRest s (raisePoint n s) := sendPointAlf_kept n _

theorem raiseCell_kept (c : Nat) (s : State) : AlmKept sentRest s (raiseCell c s) := sendGroupAlf_kept c _

theorem raisePoint_called (n : Nat) (s : State) : Called s (raisePoint n s) := by
  refine .trans (t := setPnt n (fun p => { p with esc := p.esc + 1 }) s) ⟨fun k => ?_, rfl⟩ sendPointAlf_called
  by_cases hk : k = n
  · subst hk
    exact ⟨_, pnt_setPnt⟩
  · exact ⟨(pnt s k).esc, pnt_setPnt_other hk⟩

theorem raiseCell_called (c : Nat) (s : State) : Called s (raiseCell c s) :=
  .trans (t := onAlm (fun a => { a with cells := tmod {} a.cells c (fun x => { x with esc := x.esc + 1 }) }) s)
    (AlmKept.called rfl rfl) sendGroupAlf_called

theorem call_escalate : call (escalate g s) g = { call s g with escalations := inc16 (call s g).escalations } := by
  obtain ⟨ps, cs, he⟩ := escalate_eq g s
  have hk : AlmKept sentRest (escalated g s) (escalate g s) := by
    rw [he]
    exact (AlmKept.each raisePoint_kept ps).trans (.each raiseCell_kept cs)
  exact (call_of_calls hk.calls).trans call_setCall

theorem escalate_called : Called s (escalate g s) := by
  obtain ⟨ps, cs, he⟩ := escalate_eq g s
  rw [he]
  exact .trans (AlmKept.called (t := escalated g s) rfl rfl) ((Called.each raisePoint_called ps).trans (.each raiseCell_called cs))

/-- A call brought to a stage, stage 2 with an escalation counted (R259). -/
theorem call_callStage : call (callStage g st s) g = { call s g with
    st := .calling, stage := st, stageUs := nowUs s,
    escalations := if st = 2 then inc16 (call s g).escalations else (call s g).escalations } := by
  unfold callStage
  dsimp only
  rw [call_notifyCall, call_post]
  split
  · rw [call_escalate, call_setCall]
  · rw [call_setCall]

/-- Stage 1 of a call that is calling. -/
theorem call_callStage_first (h : (call s g).st = .calling) :
    call (callStage g 1 s) g = { call s g with stage := 1, stageUs := nowUs s } := by
  rw [call_callStage, if_neg (by decide), ← h]

theorem call_callStage_second : (call (callStage g 2 s) g).stage = 2 ∧ (call (callStage g 2 s) g).st = .calling ∧
    (call (callStage g 2 s) g).escalations = inc16 (call s g).escalations := by
  rw [call_callStage]
  exact ⟨rfl, rfl, rfl⟩

theorem callStage_called : Called s (callStage g st s) :=
  .trans setCall_called (.trans (.ite escalate_called .refl) (.trans (post_changes _ _ _ _).called (notifyCall_changes _ _).called))

theorem startCall_called {a : Nat} : Called s (startCall g st a s) := setCall_called.trans callStage_called

theorem endCall_called : Called s (endCall g s) :=
  setCall_called.trans (.trans (post_changes _ _ _ _).called (notifyCall_changes _ _).called)

theorem callStep_called (became fresh : List Nat) (g : Nat) (s : State) : Called s (callStep became fresh g s) := by
  refine setCall_called.trans (.ite (.ite endCall_called .refl) ?_)
  split
  · exact .refl
  · exact startCall_called

/-- A cell's summary put in its place (R253). -/
def putCell (c : Nat) (x : CellAlm) (s : State) : State := onAlm (fun a => { a with cells := tput {} a.cells c x }) s

theorem putCell_called {c : Nat} {x : CellAlm} : Called s (putCell c x s) := AlmKept.called rfl rfl

theorem cellStep_called (became : List Nat) (c : Nat) (s : State) : Called s (cellStep became c s) :=
  .ite putCell_called (.trans (.ite (t := onAlm (fun a => { a with evt := setBit a.evt 1 }) s) (AlmKept.called rfl rfl) .refl)
    (.ite (.trans (t := putCell c _ _) putCell_called (sendGroupAlf_called.trans (showAlarms_changes _).called)) putCell_called))

end Sys2Proof.Machine
end

section
/-! The ends of delays, shelves and call stages (R244, R245, R248, R249, R259). -/

namespace Sys2Proof.Machine

variable {n : Nat} {g : Fin 8} {s : State} {c : Instr} {ok : Point → Bool} {k : State → State}

/-- With no command in line, none comes first. -/
theorem almCommands_none (h : s.alm.cmds = []) : almCommands s = s := by
  have e : onAlm (fun a => { a with cmds := [] }) s = s := by
    unfold onAlm
    rw [← h]
  unfold almCommands
  rw [h, e]
  rfl

theorem atInstant_none (h : s.alm.cmds = []) (hr : almRuns s = true) : atInstant k s = k s := by
  rw [atInstant, if_pos hr, almCommands_none h]

@[simp] theorem pnt_keepPoints : pnt (keepPoints s) n = pnt s n := rfl

theorem pointEvent_idle (hc : s.alm.cmds = []) (hok : ok (pnt s n) = false) : pointEvent n ok k s = s := by
  unfold pointEvent
  split
  · rename_i h
    simp only [Bool.and_eq_true] at h
    rw [atInstant_none hc h.1, if_neg (by simp [hok])]
  · rfl

/-- An event of a point that is in use and not suppressed. -/
theorem does_pointEvent (he : exec c s = .next (pointEvent n ok k s)) (hr : almRuns s = true) (hc : s.alm.cmds = [])
    (hp : (iget (points s) n).isSome = true) (hs : (pnt s n).suppr = false) (hok : ok (pnt s n) = true) (hk : PointAlone n s (k s)) :
    Does c s (fun t => pnt t n = pnt (k s) n ∧ ∀ m, m ≠ n → pnt t m = pnt s m) := by
  refine ⟨keepPoints (k s), ?_, rfl, hk.others⟩
  rw [he, pointEvent, if_pos (by simp [hr, hp]), atInstant_none hc hr, if_pos (by simp [hs, hok])]

theorem wentActive_st {p : Point} (h : p.suppr = false) : (wentActive p).st = activeFrom p.st := movedTo_st h

theorem wentBack_st {ret : Bool} {p : Point} (h : p.suppr = false) : (wentBack ret p).st = returnedFrom ret p.st := movedTo_st h

theorem wentActive_same (p : Point) : (wentActive p).onServed = true ∧ (wentActive p).onCnt = 0 ∧ (wentActive p).cond = p.cond ∧
    (wentActive p).value = p.value := by
  obtain ⟨hcond, hvalue, hserved, hon, -, -, -⟩ := movedTo_same (activeFrom p.st) (servedOn p)
  exact ⟨hserved, hon, hcond, hvalue⟩

theorem wentBack_same (ret : Bool) (p : Point) : (wentBack ret p).onServed = false ∧ (wentBack ret p).offCnt = 0 ∧
    (wentBack ret p).cond = p.cond ∧ (wentBack ret p).value = p.value := by
  obtain ⟨hcond, hvalue, hserved, -, hoff, -, -⟩ := movedTo_same (returnedFrom ret p.st) (servedOff p)
  exact ⟨hserved, hoff, hcond, hvalue⟩

/-- The end of a shelf (R248). -/
theorem unshelve_st (h : (pnt s n).st = .shelved) (hs : (pnt s n).suppr = false) : (pnt (unshelve n s) n).st =
    if (pnt s n).onServed = true ∧ (pnt s n).cond = true then .activeUnack else .normal := by
  unfold unshelve
  dsimp only
  rw [if_neg (by simp [h, hs]), apply_ite (fun t => (pnt t n).st)]
  refine if_congr (by simp) ?_ ?_
  · rw [pnt_pointTo, movedTo_st hs]
  · rw [pnt_pointTo, pnt_setPnt]
    exact movedTo_st hs

section
variable {p : BitVec 12} (hr : almRuns s = true) (hc : s.alm.cmds = []) (hp : (iget (points s) p.toNat).isSome = true)
  (hs : (pnt s p.toNat).suppr = false)
include hr hc hp hs

theorem does_pointOnDelayEnd (hcond : (pnt s p.toNat).cond = true) (hcnt : (pnt s p.toNat).onCnt ≠ 0) : Does (.pointOnDelayEnd p) s (fun t =>
    (pnt t p.toNat).onServed = true ∧ (pnt t p.toNat).onCnt = 0 ∧ (pnt t p.toNat).st = activeFrom (pnt s p.toNat).st ∧
      ∀ n, n ≠ p.toNat → pnt t n = pnt s n) := by
  refine (does_pointEvent rfl hr hc hp hs (by simp [hcond, hcnt]) goesActive_alone).mono fun t ⟨hown, hothers⟩ => ?_
  obtain ⟨hserved, hzero, -, -⟩ := wentActive_same (pnt s p.toNat)
  rw [hown, pnt_goesActive]
  exact ⟨hserved, hzero, wentActive_st hs, hothers⟩

theorem does_pointOffDelayEnd (hcond : (pnt s p.toNat).cond = false) (hcnt : (pnt s p.toNat).offCnt ≠ 0) :
    Does (.pointOffDelayEnd p) s (fun t => (pnt t p.toNat).onServed = false ∧ (pnt t p.toNat).offCnt = 0 ∧
      (pnt t p.toNat).st = returnedFrom (ackretOf (pointCfg s p.toNat)) (pnt s p.toNat).st ∧ ∀ n, n ≠ p.toNat → pnt t n = pnt s n) := by
  refine (does_pointEvent rfl hr hc hp hs (by simp [hcond, hcnt]) returns_alone).mono fun t ⟨hown, hothers⟩ => ?_
  obtain ⟨hserved, hzero, -, -⟩ := wentBack_same (ackretOf (pointCfg s p.toNat)) (pnt s p.toNat)
  rw [hown, pnt_returns]
  exact ⟨hserved, hzero, wentBack_st hs, hothers⟩

theorem does_blockReleaseDelayEnd {b : BlockCfg} (hb : (pointCfg s p.toNat).block = some b) (hst : (pnt s p.toNat).st = .blocked)
    (hsrc : blockTrue b (pnt s p.toNat).blockSrc s = false) : Does (.blockReleaseDelayEnd p) s (fun t =>
      (pnt t p.toNat).blocking = false ∧ (pnt t p.toNat).st = .normal ∧ ∀ n, n ≠ p.toNat → pnt t n = pnt s n) := by
  refine (does_pointEvent rfl hr hc hp hs (by simp [hst, hb, hsrc]) (setPnt_alone.trans pointTo_alone)).mono fun t ⟨hown, hothers⟩ => ?_
  rw [hown, pnt_pointTo, pnt_setPnt]
  obtain ⟨-, -, -, -, -, hblocking, -⟩ := movedTo_same .normal { pnt s p.toNat with blocking := false, blockSrc := false, relCnt := 0 }
  exact ⟨hblocking, movedTo_st hs, hothers⟩

theorem does_shelfTimeEnd (hst : (pnt s p.toNat).st = .shelved) : Does (.shelfTimeEnd p) s (fun t =>
    (pnt t p.toNat).st = (if (pnt s p.toNat).onServed = true ∧ (pnt s p.toNat).cond = true then .activeUnack else .normal) ∧
      ∀ n, n ≠ p.toNat → pnt t n = pnt s n) := by
  refine (does_pointEvent rfl hr hc hp hs (by simp [hst]) unshelve_alone).mono fun t ⟨hown, hothers⟩ => ?_
  rw [hown]
  exact ⟨unshelve_st hst hs, hothers⟩

end

theorem exec_callStage (hr : almRuns s = true) (hc : s.alm.cmds = []) (hs : (call s g.val).st = .calling) :
    exec (.callStage1 g) s = .next (if (call s g.val).stage = 0 then callStage g.val 1 s else s) ∧
    exec (.callStage2 g) s = .next (if (call s g.val).stage = 1 then callStage g.val 2 s else s) := by
  have h1 : exec (.callStage1 g) s = .next (atInstant _ s) := rfl
  have h2 : exec (.callStage2 g) s = .next (atInstant _ s) := rfl
  rw [h1, h2, atInstant_none hc hr, atInstant_none hc hr]
  simp [hs]

end Sys2Proof.Machine
end

section
/-! The dead-man timer (R260). -/

namespace Sys2Proof.Machine

variable {s t : State} {c : Instr} {d : DeadState} {k : State → State}

/-- The dead-man timer alone changes, and its event (R260). -/
theorem deadTo_alm (d : DeadState) (e : BitVec 3) (s : State) : (deadTo d e s).alm = { s.alm with
    dead := d, deadEngineer := e, deadSince := nowUs s, evt := orBit s.alm.evt 3 (d == .alarm && s.alm.dead != .alarm) } := by
  unfold deadTo
  dsimp only
  split
  · rfl
  · rw [(post_changes _ _ _ _).alm]
    rfl

theorem deadTimeEnd_idle (h : s.alm.dead ≠ d) : deadTimeEnd d k s = s := if_neg h

/-- With no command in line, the time ends as it stands. -/
theorem deadTimeEnd_now (hc : s.alm.cmds = []) (h : s.alm.dead = d) : deadTimeEnd d k s = k s := by
  have hi : atInstant id s = s := by
    unfold atInstant
    split
    · exact almCommands_none hc
    · rfl
  unfold deadTimeEnd
  rw [if_pos h, hi]
  exact if_pos (by simp [h])

/-- Alarm: point 4 076 goes active (R260). -/
def deadActive (s : State) : State :=
  goesActive 4076 (setPnt 4076 (fun p => { p with cond := true }) (deadTo .alarm s.alm.deadEngineer s))

theorem deadActive_facts (s : State) : (deadActive s).img = s.img ∧ (deadActive s).alm.dead = .alarm ∧
    (∀ g, call (deadActive s) g = call s g) ∧ pnt (deadActive s) 4076 = wentActive { pnt s 4076 with cond := true } := by
  have hd := deadTo_alm .alarm s.alm.deadEngineer s
  have hp : PointAlone 4076 (deadTo .alarm s.alm.deadEngineer s) (deadActive s) := setPnt_alone.trans goesActive_alone
  obtain ⟨hdead, hcalls⟩ := hp.engine
  refine ⟨hp.changes.img.trans (deadTo_changes _ _ s).img, by rw [hdead, hd], fun g => call_of_calls (by rw [hcalls, hd]), ?_⟩
  rw [deadActive, pnt_goesActive, pnt_setPnt]
  simp only [pnt, hd]

/-- What the alarm does after that is a matter of the calls. -/
theorem deadAlarm_called (s : State) : Called (deadActive s) (deadAlarm s) := by
  unfold deadAlarm
  dsimp only
  split
  · exact .refl
  · split
    · exact startCall_called
    · exact .ite callStage_called .refl
    · exact .refl

/-- The call group is called at once at stage 2 (R260). -/
theorem call_deadAlarm {x : DeadCfg} (hx : s.img.dead = some x) (hn : (call s x.group.val).st = .none_) :
    (call (deadAlarm s) x.group.val).st = .calling ∧ (call (deadAlarm s) x.group.val).stage = 2 := by
  obtain ⟨himg, -, hcall, -⟩ := deadActive_facts s
  have he : deadAlarm s = startCall x.group.val 2 (pointAlert 4076 (pointCfg (deadActive s) 4076)) (deadActive s) := by
    unfold deadAlarm
    dsimp only
    split
    · rename_i h
      exact absurd (h.symm.trans (himg ▸ hx)) (by simp)
    · rename_i y h
      obtain rfl : y = x := Option.some.inj (h.symm.trans ((congrArg Image.dead himg).trans hx))
      split
      · rfl
      · rename_i hs
        exact absurd ((hs.symm.trans (congrArg Call.st (hcall _))).trans hn) (by decide)
      · rename_i hs
        exact absurd ((hs.symm.trans (congrArg Call.st (hcall _))).trans hn) (by decide)
  rw [he, startCall, call_callStage]
  exact ⟨rfl, rfl⟩

/-- The end of the pre-warning (R260). -/
theorem deadAlarm_facts (s : State) : (deadAlarm s).alm.dead = .alarm ∧
    ((pnt s 4076).suppr = false → (pnt s 4076).st = .normal → (pnt (deadAlarm s) 4076).st = .activeUnack) := by
  obtain ⟨-, hdead, -, hpnt⟩ := deadActive_facts s
  refine ⟨(deadAlarm_called s).dead.trans hdead, fun hs hn => ?_⟩
  obtain ⟨e, he⟩ := (deadAlarm_called s).points 4076
  rw [he, hpnt]
  have hst : (wentActive { pnt s 4076 with cond := true }).st = activeFrom (pnt s 4076).st := wentActive_st hs
  exact hst.trans (by simp [activeFrom, hn])

end Sys2Proof.Machine
end

section
/-! Alert sentences sent and received (R257, R262 to R264), and the settled statement. -/

namespace Sys2Proof.Machine

variable {s t : State} {c : Instr} {alert n : Nat} {w : Word} {point group : Nat → State → State}

/-- An ACN that is not taken (R264). -/
theorem does_acnIgnored (he : exec c s = .next (acnIgnored s)) :
    Does c s (fun t => t.alm = { s.alm with evt := s.alm.evt ||| 0x20 } ∧ Changes [.alm] s t) :=
  ⟨_, he, by simp [acnIgnored, setBit], acnIgnored_changes s⟩

theorem acn_off (h : s.img.net.acnEn = false ∨ almRuns s = false) : acn alert point group s = acnIgnored s :=
  if_pos (by rcases h with h | h <;> simp [h])

/-- An ACN that this module takes goes by the alert it names: a point, a group alarm, or none of its own. -/
theorem acn_point (hen : s.img.net.acnEn = true) (hr : almRuns s = true) (ha : announces s = true) (hp : alertPoint s alert = some n) :
    acn alert point group s = point n s := by
  unfold acn
  rw [if_neg (by simp [hen, hr]), if_neg (by simp [ha]), hp]

theorem acn_group (hen : s.img.net.acnEn = true) (hr : almRuns s = true) (ha : announces s = true) (hp : alertPoint s alert = none)
    (hg : alertGroup s alert = some n) : acn alert point group s = group n s := by
  unfold acn
  rw [if_neg (by simp [hen, hr]), if_neg (by simp [ha]), hp, hg]

theorem acn_stranger (hen : s.img.net.acnEn = true) (hr : almRuns s = true) (ha : announces s = true) (hp : alertPoint s alert = none)
    (hg : alertGroup s alert = none) : acn alert point group s = s := by
  unfold acn
  rw [if_neg (by simp [hen, hr]), if_neg (by simp [ha]), hp, hg]

/-- The command of an ACN: in line, or forwarded to wait for the confirmation (R262, R264). -/
def AcnLined (s : State) (w : Word) (t : State) : Prop :=
  if paired s then t.alm = s.alm ∧ t.sent = (forwardNow (.alarm w .acn (almSeen w s)) s).sent ∧
    t.pst.unconfirmed = s.pst.unconfirmed ++ [(.alarm w .acn (almSeen w s), .acn, nowUs s)]
  else t.alm = { s.alm with cmds := s.alm.cmds ++ [{ path := .acn, word := w }] } ∧ t.sent = s.sent

theorem acnQueue_lined : AcnLined s w (acnQueue w s) := by
  unfold AcnLined acnQueue
  cases hp : paired s with
  | true =>
    rw [almBoth_paired hp, if_pos rfl]
    exact ⟨(forwardNow_changes _ s).alm, rfl, rfl⟩
  | false =>
    rw [almBoth_single hp, if_neg (by decide)]
    exact ⟨rfl, rfl⟩

theorem almNumber_plain {op k : Nat} (hk : op * 0x10000000 = k) : almNumber op 0 n = BitVec.ofNat 32 (k + n) := by
  simp [almNumber, hk]

theorem does_acnQueue {op k : Nat} (he : exec c s = .next (acnQueue (almWord op 0 n) s)) (hn : n < 4096) (hk : op * 0x10000000 = k)
    (ho : op < 16) : Does c s (AcnLined s (BitVec.ofNat 32 (k + n))) := by
  rw [almWord_eq ho (by decide) hn, almNumber_plain hk] at he
  exact ⟨_, he, acnQueue_lined⟩

theorem does_acnSilenced (he : exec c s = .next (acnQueue (almWord 5 0 0) s)) : Does c s (AcnLined s 0x50000000) := by
  have hw : (0x50000000 : Word) = almWord 5 0 0 := by decide
  rw [hw]
  exact ⟨_, he, acnQueue_lined⟩

/-- A repeat asked for: in line in this module alone (R264). -/
theorem does_acnRepeat {op k : Nat} (he : exec c s = .next (almQueue { path := .acn, word := almWord op 0 n } s)) (hn : n < 4096)
    (hk : op * 0x10000000 = k) (ho : op < 16) :
    Does c s (fun t => t.alm.cmds = s.alm.cmds ++ [{ path := .acn, word := BitVec.ofNat 32 (k + n) }] ∧ t.sent = s.sent) := by
  rw [almWord_eq ho (by decide) hn, almNumber_plain hk] at he
  exact ⟨_, he, rfl, rfl⟩

theorem exec_acnAcknowledge : exec (.acnAcknowledge alert) s =
    .next (acn alert (fun n => acnQueue (almWord 1 0 n)) (fun c => acnQueue (almWord 2 0 c)) s) := rfl

theorem exec_acnSilence : exec (.acnSilence alert) s =
    .next (acn alert (fun _ => acnQueue (almWord 5 0 0)) (fun _ => acnQueue (almWord 5 0 0)) s) := rfl

theorem exec_acnRequestRepeat : exec (.acnRequestRepeat alert) s = .next (acn alert (fun n => almQueue { path := .acn, word := almWord 12 0 n })
    (fun c => almQueue { path := .acn, word := almWord 13 0 c }) s) := rfl

/-- The repeat of a point's ALF (R263, R264). -/
theorem almApply_repeat {s0 : State} {p : AlmPath} (hn : n < 4096) : almApply s0 { path := p, word := BitVec.ofNat 32 (0xC0000000 + n) } s =
    sendPointAlf n s := by
  rw [← almNumber_plain (op := 12) rfl]
  simp only [almApply, almOp_number (op := 12) (arg := 0) (by decide) (by decide) hn, almTarget_number (op := 12) (arg := 0) (by decide) (by decide) hn]

theorem sendPointAlf_sent (hb : (pointCfg s n).bam = true) (ha : announces s = true) (hs : (pnt s n).suppr = false) :
    sendPointAlf n s = sentence (.alf (pointAlf n (pointCfg s n) (pnt s n))) s := if_pos (by simp [hb, ha, hs])

end Sys2Proof.Machine

open Sys2Proof Sys2Proof.Machine

/-- Settles O41: the ends of times through `does_pointEvent`, `exec_callStage` and `deadAlarm_facts`, an ACN by the alert it names. -/
theorem alarmTimersAndSentences : Obligations.AlarmTimersAndSentences := by
  refine ⟨fun p s hr hc hp hs => ?_, fun g s hr hc hst => ?_, fun s hc => ?_, fun alert s => ?_, fun s0 n p s hn hb ha hs => ?_⟩
  · exact ⟨does_pointOnDelayEnd hr hc hp hs, fun h => congrArg Host.Outcome.next (pointEvent_idle hc (by rcases h with h | h <;> simp [h])),
      does_pointOffDelayEnd hr hc hp hs, fun h => congrArg Host.Outcome.next (pointEvent_idle hc (by rcases h with h | h <;> simp [h])),
      fun b hb => does_blockReleaseDelayEnd hr hc hp hs hb, fun h => congrArg Host.Outcome.next (pointEvent_idle hc (by simp [h])),
      does_shelfTimeEnd hr hc hp hs, fun h => congrArg Host.Outcome.next (pointEvent_idle hc (by simp [h]))⟩
  · obtain ⟨h1, h2⟩ := exec_callStage hr hc hst
    exact ⟨fun hz => ⟨_, by rw [h1, if_pos hz], call_callStage_first hst⟩, fun ho => ⟨_, by rw [h2, if_pos ho], call_callStage_second⟩,
      fun hz => by rw [h1, if_neg hz], fun ho => by rw [h2, if_neg ho]⟩
  · refine ⟨fun hd => ⟨_, congrArg Host.Outcome.next (deadTimeEnd_now hc hd), ?_⟩, fun hd => congrArg Host.Outcome.next (deadTimeEnd_idle hd),
      fun hd => ⟨_, congrArg Host.Outcome.next (deadTimeEnd_now hc hd), ?_⟩, fun hd => congrArg Host.Outcome.next (deadTimeEnd_idle hd),
      fun ha => ⟨⟨_, congrArg Host.Outcome.next (if_pos ha), sentence_sent _ _, rfl⟩, _, congrArg Host.Outcome.next (if_pos ha), sentence_sent _ _, rfl⟩,
      fun ha => ⟨congrArg Host.Outcome.next (if_neg (by simp [ha])), congrArg Host.Outcome.next (if_neg (by simp [ha]))⟩⟩
    · simp only [deadTo_alm, and_self]
    · obtain ⟨hdead, hpnt⟩ := deadAlarm_facts s
      exact ⟨hdead, hpnt, fun d hd hn => call_deadAlarm hd hn⟩
  · refine ⟨does_acnIgnored rfl, fun h => ?_, fun hen hr ha => ⟨fun n hp hn => ?_, fun c hp hg hn => ?_, fun hp hg => ?_⟩⟩
    · exact ⟨does_acnIgnored (congrArg Host.Outcome.next (acn_off h)), does_acnIgnored (congrArg Host.Outcome.next (acn_off h)),
        does_acnIgnored (congrArg Host.Outcome.next (acn_off h))⟩
    · exact ⟨does_acnQueue (op := 1) (by rw [exec_acnAcknowledge, acn_point hen hr ha hp]) hn rfl (by decide),
        does_acnSilenced (by rw [exec_acnSilence, acn_point hen hr ha hp]),
        does_acnRepeat (op := 12) (by rw [exec_acnRequestRepeat, acn_point hen hr ha hp]) hn rfl (by decide)⟩
    · exact ⟨does_acnQueue (op := 2) (by rw [exec_acnAcknowledge, acn_group hen hr ha hp hg]) hn rfl (by decide),
        does_acnSilenced (by rw [exec_acnSilence, acn_group hen hr ha hp hg]),
        does_acnRepeat (op := 13) (by rw [exec_acnRequestRepeat, acn_group hen hr ha hp hg]) hn rfl (by decide)⟩
    · rw [exec_acnAcknowledge, acn_stranger hen hr ha hp hg]
  · rw [almApply_repeat hn, sendPointAlf_sent hb ha hs]
    exact sentence_sent _ _
end

section
/-! Conditions against limits (R242, log 35). -/

namespace Sys2Proof.Machine

variable {s t : State} {c : PointCfg} {r : Reading} {win : List Word} {prev : Bool} {a b : Word}

/-- A finite binary32 value is below the number that stands for an infinity. -/
theorem fval_fin {neg : Bool} {m : Nat} {e : Int} (h : fval a = .fin neg m e) : m < 2 ^ 24 ∧ e ≤ 104 := by
  have hm : a.toNat % 2 ^ 23 < 2 ^ 23 := Nat.mod_lt _ (by decide)
  have he : a.toNat / 2 ^ 23 % 2 ^ 8 < 2 ^ 8 := Nat.mod_lt _ (by decide)
  have hmin : f32.emin = -149 := by decide
  unfold fval Fmt.decode at h
  simp only [hmin, show f32.fb = 23 from rfl, show f32.eb = 8 from rfl] at h
  split at h
  · split at h <;> cases h
  · split at h
    · obtain ⟨-, rfl, rfl⟩ := FVal.fin.inj h
      omega
    · obtain ⟨-, rfl, rfl⟩ := FVal.fin.inj h
      omega

/-- The difference has the sign of the order, with the smaller exponent on either side. -/
theorem xlt_iff (x y : Exact) : xlt x y = true ↔ x.1 * 2 ^ (x.2 - min x.2 y.2).toNat < y.1 * 2 ^ (y.2 - min x.2 y.2).toNat := by
  have hmin : (if y.2 < x.2 then y.2 else x.2) = min x.2 y.2 := by split <;> omega
  simp only [xlt, xsub, addDyadic, hmin, decide_eq_true_eq, neg_mul]
  omega

theorem sgnd_bounds {m : Nat} (neg : Bool) (h : m < 2 ^ 24) : -2 ^ 24 < sgnd neg m ∧ sgnd neg m < 2 ^ 24 := by
  unfold sgnd
  split <;> omega

/-- A finite value against the number that stands for an infinity. -/
theorem finite_scaled {x e : Int} (hx : -2 ^ 24 < x ∧ x < 2 ^ 24) (he : e ≤ 104) :
    xlt (x, e) (1, 4096) = true ∧ xlt (-1, 4096) (x, e) = true := by
  have hmin : min e 4096 = e := by omega
  have hpow : (2 : Int) ^ 24 ≤ 2 ^ (4096 - e).toNat := pow_le_pow_right₀ (by decide) (by omega)
  rw [xlt_iff, xlt_iff]
  simp only [min_comm (4096 : Int) e, hmin, sub_self, Int.toNat_zero, pow_zero, mul_one, one_mul, neg_mul]
  omega

theorem exact_fin {sgn neg : Bool} {m : Nat} {e : Int} (h : fval a = .fin neg m e) : exact true sgn a = some (sgnd neg m, e) := by
  simp [exact, h]

theorem exact_inf {sgn neg : Bool} (h : fval a = .inf neg) : exact true sgn a = some (if neg then -1 else 1, 4096) := by
  simp [exact, h]

/-- The order of binary32 is that of the exact numbers (R242, log 35). -/
theorem exact_of_flt {sgn : Bool} (h : flt a b = true) :
    ∃ x y, exact true sgn a = some x ∧ exact true sgn b = some y ∧ xlt x y = true := by
  unfold flt at h
  cases ha : fval a with
  | nan => simp [ha, FVal.lt] at h
  | inf n =>
    cases hb : fval b with
    | nan => simp [ha, hb, FVal.lt] at h
    | inf k =>
      obtain ⟨rfl, rfl⟩ : n = true ∧ k = false := by simpa [ha, hb, FVal.lt] using h
      exact ⟨_, _, exact_inf ha, exact_inf hb, by decide⟩
    | fin k m e =>
      obtain rfl : n = true := by simpa [ha, hb, FVal.lt] using h
      obtain ⟨hm, he⟩ := fval_fin hb
      exact ⟨_, _, exact_inf ha, exact_fin hb, (finite_scaled (sgnd_bounds k hm) he).2⟩
  | fin n m e =>
    cases hb : fval b with
    | nan => simp [ha, hb, FVal.lt] at h
    | inf k =>
      obtain rfl : k = false := by simpa [ha, hb, FVal.lt] using h
      obtain ⟨hm, he⟩ := fval_fin ha
      exact ⟨_, _, exact_fin ha, exact_inf hb, (finite_scaled (sgnd_bounds n hm) he).1⟩
    | fin k j g =>
      refine ⟨_, _, exact_fin ha, exact_fin hb, ?_⟩
      have hmin : (if e < g then e else g) = min e g := by split <;> omega
      simp only [ha, hb, FVal.lt, addDyadic, hmin, decide_eq_true_eq, neg_mul] at h
      rw [xlt_iff]
      dsimp only
      omega

theorem exact_of_notNan {sgn : Bool} (h : fnan a = false) : ∃ x, exact true sgn a = some x := by
  cases ha : fval a with
  | nan =>
    have hn : fnan a = true := beq_iff_eq.mpr ha
    simp [hn] at h
  | inf n => exact ⟨_, exact_inf ha⟩
  | fin n m e => exact ⟨_, exact_fin ha⟩

/-- A high point is true above its limit, a low point below it (R242). -/
theorem evalCond_beyond (hf : r.flt = true) (hl : c.bindL = none) (hh : c.bindH = none) (hn : fnan c.hys = false) :
    (c.cond = 0 → flt c.lim r.word = true → evalCond s c r win prev = some true) ∧
    (c.cond = 1 → flt r.word c.lim = true → evalCond s c r win prev = some true) := by
  obtain ⟨z, hz⟩ := exact_of_notNan (sgn := r.sgn) hn
  refine ⟨fun hc h => ?_, fun hc h => ?_⟩
  · obtain ⟨x, y, hx, hy, hlt⟩ := exact_of_flt (sgn := r.sgn) h
    simp [evalCond, hc, hf, hl, hh, limitOf, hx, hy, hz, above, hlt]
  · obtain ⟨x, y, hx, hy, hlt⟩ := exact_of_flt (sgn := r.sgn) h
    simp [evalCond, hc, hf, hl, hh, limitOf, hx, hy, hz, below, hlt]

/-- The conditions that the statements speak of: against a limit, a deviation, or a state (R242). -/
def plainCond (c : PointCfg) : Prop := c.cond.toNat < 3 ∨ c.cond.toNat = 5 ∨ c.cond.toNat = 6

/-- They look at the snapshot and the reference alone, not at the rate window. -/
theorem evalCond_congr (hp : plainCond c) (hc : t.cyc = s.cyc) (hr : refValue t c r = refValue s c r) (win' : List Word) :
    evalCond t c r win' prev = evalCond s c r win prev := by
  have hn : noSnapshot t = noSnapshot s := by simp only [noSnapshot, hc]
  have hl : ∀ b w, limitOf t b w = limitOf s b w := by
    intro b w
    cases b with
    | none => rfl
    | some i => simp only [limitOf, hn, hc]
  rcases hp with hp | hp | hp
  · obtain hp | hp | hp : c.cond.toNat = 0 ∨ c.cond.toNat = 1 ∨ c.cond.toNat = 2 := by omega
    · simp only [evalCond, hp, hl]
    · simp only [evalCond, hp, hl]
    · simp only [evalCond, hp, hl, hr]
  · simp only [evalCond, hp]
  · simp only [evalCond, hp]

end Sys2Proof.Machine
end

section
/-! The delays of one point, case by case (R244, R248, R250). -/

namespace Sys2Proof.Machine

variable {p : Point} {ret : Bool} {d : Nat × Nat}

theorem delayed_same (ret : Bool) (d : Nat × Nat) (p : Point) :
    (delayed ret d p).cond = p.cond ∧ (delayed ret d p).value = p.value := by
  obtain ⟨-, -, hcond, hvalue⟩ := wentActive_same p
  obtain ⟨-, -, hcond', hvalue'⟩ := wentBack_same ret p
  unfold delayed
  split <;> split
  · exact ⟨rfl, rfl⟩
  · split
    · exact ⟨hcond, hvalue⟩
    · exact ⟨rfl, rfl⟩
  · exact ⟨rfl, rfl⟩
  · split
    · exact ⟨hcond', hvalue'⟩
    · exact ⟨rfl, rfl⟩

/-- The on-delay counts. -/
theorem delayed_onRuns (hc : p.cond = true) (hs : p.onServed = false) (hd : p.onCnt < d.1) :
    delayed ret d p = { p with offCnt := 0, onCnt := p.onCnt + 1 } := by
  rw [delayed, if_pos hc, if_neg (by simp [hs]), if_neg (by omega)]

/-- The on-delay is served. -/
theorem delayed_onServed (hc : p.cond = true) (hs : p.onServed = false) (hd : d.1 ≤ p.onCnt) : delayed ret d p = wentActive p := by
  rw [delayed, if_pos hc, if_neg (by simp [hs]), if_pos hd]

/-- The off-delay counts. -/
theorem delayed_offRuns (hc : p.cond = false) (hs : p.onServed = true) (hd : p.offCnt < d.2) :
    delayed ret d p = { p with onCnt := 0, offCnt := p.offCnt + 1 } := by
  rw [delayed, if_neg (by simp [hc]), if_neg (by simp [hs]), if_neg (by omega)]

/-- The off-delay is served. -/
theorem delayed_offServed (hc : p.cond = false) (hs : p.onServed = true) (hd : d.2 ≤ p.offCnt) : delayed ret d p = wentBack ret p := by
  rw [delayed, if_neg (by simp [hc]), if_neg (by simp [hs]), if_pos hd]

/-- No delay runs while the condition is what the last served delay says. -/
theorem delayed_still (h : p.cond = p.onServed) : (delayed ret d p).st = p.st := by
  unfold delayed
  rw [h]
  cases p.onServed <;> rfl

/-- No delay shelves a point. -/
theorem delayed_unshelved (hs : p.suppr = false) (h : p.st ≠ .shelved) : (delayed ret d p).st ≠ .shelved := by
  have hact : (wentActive p).st ≠ .shelved := by
    rw [wentActive_st hs, activeFrom]
    split
    · decide
    · exact h
  have hback : (wentBack ret p).st ≠ .shelved := by
    rw [wentBack_st hs, returnedFrom]
    split
    · split <;> decide
    · split
      · decide
      · exact h
  unfold delayed
  split <;> split
  · exact h
  · split
    · exact hact
    · exact h
  · exact h
  · split
    · exact hback
    · exact h

theorem restored_plain (h : p.restore = false) : restored p = p := if_neg (by simp [h])

theorem restored_suppr : (restored p).suppr = p.suppr := by
  unfold restored
  split <;> rfl

/-- What a restart kept shelves no point. -/
theorem restored_unshelved (h : p.st ≠ .shelved) : (restored p).st ≠ .shelved := by
  unfold restored
  split
  · dsimp only
    split
    · decide
    · exact h
  · exact h

/-- A Normal point that was kept as Returned, unacknowledged, its condition evaluated (R250). -/
theorem restored_kept (h : p.restore = true) (hh : p.held = false) (hn : p.st = .normal) :
    restored p = { p with restore := false, st := if p.cond then .normal else .returnedUnack } := by
  rw [restored, if_pos (by simp [h, hh]), hn]
  cases p.cond <;> rfl

end Sys2Proof.Machine
end

section
/-! One point evaluated (R242 to R246). -/

namespace Sys2Proof.Machine

variable {n : Nat} {s t : State} {c : PointCfg} {r : Reading} {w : List Word} {x : Bool}

/-- The codes on which a point is suppressed (R243). -/
def suppressing (r : Reading) : Prop := r.code = 1 ∨ r.code = 2 ∨ r.code = 3 ∨ r.code = 0xE

/-- A point that is not suppressed, with its value taken (R242, R243). -/
def valueTaken (n : Nat) (c : PointCfg) (r : Reading) (s : State) : State :=
  setPnt n (fun p => { p with suppr := false }) (takeValue n c r s)

/-- And its condition looked at. -/
def pointRead (n : Nat) (c : PointCfg) (r : Reading) (s : State) : State := condStep n c r (valueTaken n c r s)

theorem valueTaken_changes : Changes [.alm] s (valueTaken n c r s) := (setPnt_changes _ _ _).app (takeValue_changes _ _ _ _)

theorem pointRead_alone : PointAlone n s (pointRead n c r s) := takeValue_alone.trans (setPnt_alone.trans condStep_alone)

theorem holdsTags_of_changes {T : List Part} (h : Changes T s t) (hs : T.contains .sup = false := by rfl)
    (hc : T.contains .cyc = false := by rfl) : holdsTags t = holdsTags s := by simp only [holdsTags, inRun, h.sup hs, h.cyc hc]

theorem delays_of_changes {T : List Part} (h : Changes T s t) (hi : T.contains .img = false := by rfl)
    (hc : T.contains .cyc = false := by rfl) : delays t n = delays s n := by
  have hn : noSnapshot t = noSnapshot s := by simp only [noSnapshot, h.cyc hc]
  have hd : ∀ b d, delayOf t b d = delayOf s b d := by
    intro b d
    cases b with
    | none => rfl
    | some i => simp only [delayOf, hn, h.cyc hc]
  simp only [delays, pointCfg_of_img (h.img hi), hd]

/-- The evaluation of an application point, by its code. -/
theorem evalPoint_suppressing (hn : n < 4064) (hc : pointCfg s n = c) (hr : readSrc s c.src = r) (hcode : suppressing r) :
    evalPoint n s = setPnt n (fun p => { p with suppr := true }) (takeValue n c r s) := by
  have hsys : isSystem n = false := by simp [isSystem, hn]
  unfold evalPoint
  simp only [hc, hsys, hr, Bool.false_eq_true, if_false]
  exact if_pos (by simpa [suppressing, or_assoc] using hcode)

theorem evalPoint_reading (hn : n < 4064) (hc : pointCfg s n = c) (hr : readSrc s c.src = r) (hcode : ¬suppressing r) (hb : c.block = none) :
    evalPoint n s = shelfStep n (stepDelays n (restoreStep n (pointRead n c r s))) := by
  have hsys : isSystem n = false := by simp [isSystem, hn]
  have hblock : blockStep n (pointRead n c r s) = (false, pointRead n c r s) := by
    have hc' : pointCfg (pointRead n c r s) n = c := (pointCfg_of_img pointRead_alone.changes.img n).trans hc
    unfold blockStep
    rw [hc', hb]
  have hgo : ¬(r.code = 1 || r.code = 2 || r.code = 3 || r.code = 0xE) = true := by simpa [suppressing, or_assoc] using hcode
  have he : evalPoint n s = if (blockStep n (pointRead n c r s)).1 then (blockStep n (pointRead n c r s)).2
      else shelfStep n (stepDelays n (restoreStep n (blockStep n (pointRead n c r s)).2)) := by
    unfold evalPoint
    simp only [hc, hsys, hr, Bool.false_eq_true, if_false]
    exact if_neg hgo
  rw [he, hblock]
  exact if_neg Bool.false_ne_true

/-- A point whose source is suppressed, not used or without a value keeps everything but its value (R243). -/
theorem pnt_evalPoint_suppressing (hn : n < 4064) (hc : pointCfg s n = c) (hr : readSrc s c.src = r) (hcode : suppressing r) :
    ∃ w, pnt (evalPoint n s) n = { pnt s n with value := r.word, window := w, suppr := true } := by
  rw [evalPoint_suppressing hn hc hr hcode, pnt_setPnt, takeValue, pnt_setPnt]
  exact ⟨_, rfl⟩

/-- A point's record with its reading taken and its condition found. -/
def judged (p : Point) (r : Reading) (w : List Word) (bad cond : Bool) : Point :=
  { p with value := r.word, window := w, suppr := false, held := false, cond := cond, srcBad := bad }

/-- The condition of a point that does not hold. -/
theorem pnt_condStep (hn : n < 4064) (hheld : (r.tag && holdsTags s) = false) (hp : plainCond c) (hcode : r.code = 0) :
    pnt (condStep n c r s) n = { pnt s n with
      held := false, cond := (evalCond s c r (pnt s n).window (pnt s n).cond).getD (pnt s n).cond,
      srcBad := (evalCond s c r (pnt s n).window (pnt s n).cond).isNone } := by
  have hsys : isSystem n = false := by simp [isSystem, hn]
  have hseven : c.cond ≠ 7 := by
    rintro h
    simp [plainCond, h] at hp
  unfold condStep
  dsimp only
  rw [hheld, if_neg (by decide), hsys, if_neg (by decide), if_neg hseven, if_pos hcode, pnt_setPnt]

/-- The reading taken (R242). -/
theorem pnt_pointRead (hn : n < 4064) (hheld : (r.tag && holdsTags s) = false) (hp : plainCond c) (hcode : r.code = 0)
    (href : ∀ u, Changes [.alm] s u → refValue u c r = refValue s c r)
    (hx : (evalCond s c r (pnt s n).window (pnt s n).cond).getD (pnt s n).cond = x) :
    ∃ w b, pnt (pointRead n c r s) n = judged (pnt s n) r w b x := by
  have ht : Changes [.alm] s (valueTaken n c r s) := valueTaken_changes
  have htaken : ∃ w, pnt (valueTaken n c r s) n = { pnt s n with value := r.word, window := w, suppr := false } := by
    rw [valueTaken, pnt_setPnt, takeValue, pnt_setPnt]
    exact ⟨_, rfl⟩
  obtain ⟨w, hw⟩ := htaken
  rw [pointRead, pnt_condStep hn (by rw [holdsTags_of_changes ht]; exact hheld) hp hcode, hw,
    evalCond_congr (win := (pnt s n).window) hp ht.cyc (href _ ht), hx]
  exact ⟨w, _, rfl⟩

/-- A point on a good reading: its condition, what a restart kept, its delays (R242, R244, R250). -/
theorem pnt_evalPoint_reading (hn : n < 4064) (hc : pointCfg s n = c) (hr : readSrc s c.src = r) (hcode : r.code = 0) (hp : plainCond c)
    (hb : c.block = none) (hheld : (r.tag && holdsTags s) = false) (href : ∀ u, Changes [.alm] s u → refValue u c r = refValue s c r)
    (hx : (evalCond s c r (pnt s n).window (pnt s n).cond).getD (pnt s n).cond = x) (hst : (pnt s n).st ≠ .shelved) :
    ∃ w b, pnt (evalPoint n s) n =
      { delayed (ackretOf c) (delays s n) (restored (judged (pnt s n) r w b x)) with shelfNew := false } := by
  obtain ⟨w, b, hread⟩ := pnt_pointRead hn hheld hp hcode href hx
  have hc' : Changes [.alm, .evr, .dsp, .sent] s (restoreStep n (pointRead n c r s)) := (pointRead_alone.trans restoreStep_alone).changes
  have hcfg : pointCfg (restoreStep n (pointRead n c r s)) n = c := (pointCfg_of_img hc'.img n).trans hc
  have hdelays : delays (restoreStep n (pointRead n c r s)) n = delays s n := delays_of_changes hc'
  have hpnt : pnt (stepDelays n (restoreStep n (pointRead n c r s))) n = delayed (ackretOf c) (delays s n) (restored (judged (pnt s n) r w b x)) := by
    rw [pnt_stepDelays, pnt_restoreStep, hcfg, hdelays, hread]
  have hshelf : (pnt (stepDelays n (restoreStep n (pointRead n c r s))) n).st ≠ .shelved := by
    rw [hpnt]
    exact delayed_unshelved restored_suppr (restored_unshelved hst)
  refine ⟨w, b, ?_⟩
  rw [evalPoint_reading hn hc hr (by simp [suppressing, hcode]) hb, pnt_shelfStep hshelf, hpnt]

end Sys2Proof.Machine
end

section
/-! What a fault leaves of the alarm engine: everything but ALM_N (R22, R271, R418). -/

namespace Sys2Proof.Machine

variable {s : State}

/-- Everything but ALM_N. -/
def faultRest (a : Alm) : Alm := { a with almN := false }

theorem pnt_of_faultRest {n : Nat} {t : State} (h : AlmKept faultRest s t) : pnt t n = pnt s n := by
  have e : (faultRest t.alm).points = (faultRest s.alm).points := congrArg Alm.points h
  exact congrArg (fun l => tget {} l n) e

theorem cmds_of_faultRest {t : State} (h : AlmKept faultRest s t) : t.alm.cmds = s.alm.cmds := by
  have e : (faultRest t.alm).cmds = (faultRest s.alm).cmds := congrArg Alm.cmds h
  exact e

theorem almN_off_kept : AlmKept faultRest s (onAlm (fun a => { a with almN := false }) s) := rfl

theorem releaseRole_kept (reason : Byte) (s : State) : AlmKept faultRest s (releaseRole reason s) := by
  refine .ite ?_ .refl
  exact (slSend_changes _ _ _).almKept.trans <| (onPst_changes _ _).almKept.trans <| (post_changes _ _ _ _).almKept.trans <|
    almN_off_kept.trans <| (discardTrim_changes _).almKept.trans <| (demandReleased_changes _).almKept.trans <|
    (dropQen_changes _).almKept.trans <| (applyOutputs_changes _).almKept.trans <| (standbyOutputs_changes _).almKept.trans <|
    (standbyDraw_changes _).almKept

theorem resetSteps_kept (c : ResetClass) (cause : Byte) (s : State) : AlmKept faultRest s (resetSteps c cause s) :=
  (releaseRole_kept 2 s).trans <| (discardTrim_changes _).almKept.trans <| (stopLanes_changes _).almKept.trans <|
    (abandonMaint_changes _).almKept.trans <| (onCyc_changes _ _).almKept.trans <| (onSup_changes _ _).almKept.trans <|
    (dropQen_changes _).almKept.trans <| (applyOutputs_changes _).almKept.trans <| (floodSummaries_changes _).almKept.trans <|
    (endSessions_changes _).almKept.trans <| (startFlush_changes _).almKept.trans <| (onEvr_changes _ _).almKept.trans <|
    almN_off_kept.trans <| .ite .refl (panelAbort_changes _).almKept

theorem enterReset_kept (c : ResetClass) (cause : Byte) (s : State) : AlmKept faultRest s (enterReset c cause s) := by
  unfold enterReset
  split
  · exact .refl
  · exact .ite (onSup_changes _ _).almKept .refl
  · exact .ite (onSup_changes _ _).almKept .refl
  · exact resetSteps_kept c cause s

theorem enterSafe_kept (s : State) : AlmKept faultRest s (enterSafe s) :=
  (endCommissioning_changes _).almKept.trans <| (releaseRole_kept 1 _).trans <| (onPst_changes _ _).almKept.trans <|
    (discardTrim_changes _).almKept.trans <| (stopLanes_changes _).almKept.trans <| (abandonMaint_changes _).almKept.trans <|
    (onSup_changes _ _).almKept.trans <| (onBoot_changes _ _).almKept.trans <| (openPairs_changes _).almKept.trans <|
    (applyOutputs_changes _).almKept.trans <| (standbyDraw_changes _).almKept.trans <| (startFlush_changes _).almKept

theorem selfDiag_kept (why : FaultReason) (s : State) : AlmKept faultRest s (selfDiag why s) :=
  (diagEvent_post_changes _ _ _ s).almKept.trans <|
    .ite ((enterSafe_kept _).trans <| .ite ((countFailure_changes _ _ _).almKept.trans <| .ite (enterReset_kept _ _ _) .refl) .refl)
      (.ite (enterReset_kept _ _ _) .refl)

end Sys2Proof.Machine
end

section
/-! What the commands in line leave of the alarm engine (R246, R249, R258 to R260). -/

namespace Sys2Proof.Machine

variable {n : Nat} {s s0 t : State}

theorem PointAlone.engineKept (h : PointAlone n s t) : AlmKept engineRest s t := h.rest.mono fun _ => rfl

theorem line_of_engineRest (h : AlmKept engineRest s t) : t.alm.cmds = s.alm.cmds ∧ t.alm.evalMax = s.alm.evalMax := by
  have hcmds : (engineRest t.alm).cmds = (engineRest s.alm).cmds := congrArg Alm.cmds h
  have hmax : (engineRest t.alm).evalMax = (engineRest s.alm).evalMax := congrArg Alm.evalMax h
  exact ⟨hcmds, hmax⟩

theorem Called.engineKept (h : Called s t) : AlmKept engineRest s t := h.rest.mono fun _ => rfl

theorem sendPointAlf_engine (n : Nat) (s : State) : AlmKept engineRest s (sendPointAlf n s) := (sendPointAlf_kept n s).mono fun _ => rfl

theorem sendGroupAlf_engine (n : Nat) (s : State) : AlmKept engineRest s (sendGroupAlf n s) := (sendGroupAlf_kept n s).mono fun _ => rfl

theorem silenceAll_engine (s0 s : State) : AlmKept engineRest s (silenceAll s0 s) := by
  refine (AlmKept.each (fun p u => ?_) _).trans ((AlmKept.each (fun c u => ?_) _).trans (showAlarms_changes _).almKept)
  · exact .ite (setPnt_alone.engineKept.trans (sendPointAlf_engine _ _)) setPnt_alone.engineKept
  · refine .ite (AlmKept.trans ?_ (sendGroupAlf_engine _ _)) rfl
    rfl

theorem deadTo_engine (d : DeadState) (e : BitVec 3) (s : State) : AlmKept engineRest s (deadTo d e s) := by
  rw [AlmKept, deadTo_alm]
  rfl

theorem acceptCall_engine {g e : Nat} : AlmKept engineRest s (acceptCall s0 g e s) :=
  .ite (setCall_called.engineKept.trans <| (post_changes _ _ _ _).almKept.trans (notifyCall_changes _ _).almKept) .refl

theorem almApply_engine (s0 : State) (c : AlmCmd) (s : State) : AlmKept engineRest s (almApply s0 c s) := by
  have hack : ∀ k u, AlmKept engineRest u (if c.seen.all (fun l => l.contains k) then ackPoint s0 k u else u) :=
    fun k u => .ite ackPoint_alone.engineKept .refl
  unfold almApply
  dsimp only
  split
  · exact hack _ _
  · exact .each hack _
  · exact .ite (setPnt_alone.trans pointTo_alone).engineKept .refl
  · exact .ite unshelve_alone.engineKept .refl
  · exact silenceAll_engine _ _
  · exact acceptCall_engine
  · exact rfl
  · exact .ite (deadTo_engine _ _ _) .refl
  · exact .ite (deadTo_engine _ _ _) .refl
  · exact .ite (deadTo_engine _ _ _) .refl
  · exact .each hack _
  · exact sendPointAlf_engine _ _
  · exact sendGroupAlf_engine _ _
  · exact .refl

theorem almCommand_engine (s0 : State) (c : AlmCmd) (s : State) : AlmKept engineRest s (almCommand s0 c s) :=
  AlmKept.trans (post_changes _ _ _ _).almKept (almApply_engine _ _ _)

/-- Every command in line is taken; what they leave stays. -/
theorem almCommands_engine (s : State) : AlmKept engineRest (onAlm (fun a => { a with cmds := [] }) s) (almCommands s) :=
  .each (almCommand_engine s) _

end Sys2Proof.Machine
end

section
/-! One evaluation of the alarm engine (R242, R246, R252). -/

namespace Sys2Proof.Machine

variable {n : Nat} {us : BitVec 16} {s t b : State} {c : PointCfg} {r : Reading}

/-! ### Every point once -/

/-- Points evaluated one after the other: what is not evaluated stays. -/
theorem forEach_evalPoint (l : List Nat) : ∀ {s}, Changes [.alm, .evr, .dsp, .sent] s (forEach l evalPoint s) ∧
    AlmKept pointRest s (forEach l evalPoint s) ∧ ∀ k, k ∉ l → pnt (forEach l evalPoint s) k = pnt s k := by
  induction l with
  | nil => exact ⟨.refl, .refl, fun _ _ => rfl⟩
  | cons a l ih =>
    intro s
    obtain ⟨hothers, hrest, hc⟩ := evalPoint_alone a s
    obtain ⟨ic, irest, ipoints⟩ := ih (s := evalPoint a s)
    refine ⟨ic.app hc, hrest.trans irest, fun k hk => ?_⟩
    obtain ⟨hka, hkl⟩ := not_or.mp (List.mem_cons.not.mp hk)
    exact (ipoints k hkl).trans (hothers k hka)

/-- A point that comes once is evaluated in a state where its own record is as it was. -/
theorem forEach_evalPoint_once {l : List Nat} (hl : l.Nodup) (hn : n ∈ l) : ∀ {s}, ∃ u, Changes [.alm, .evr, .dsp, .sent] s u ∧
    pnt u n = pnt s n ∧ pnt (forEach l evalPoint s) n = pnt (evalPoint n u) n := by
  induction l with
  | nil => exact absurd hn List.not_mem_nil
  | cons a l ih =>
    intro s
    obtain ⟨ha, hl⟩ := List.nodup_cons.mp hl
    rcases List.mem_cons.mp hn with rfl | hn
    · obtain ⟨-, -, hpoints⟩ := forEach_evalPoint l (s := evalPoint n s)
      exact ⟨s, .refl, rfl, hpoints n ha⟩
    · obtain ⟨hothers, -, hc⟩ := evalPoint_alone a s
      obtain ⟨u, hu, hx, he⟩ := ih hl hn (s := evalPoint a s)
      exact ⟨u, hu.app hc, hx.trans (hothers n fun e => ha (e ▸ hn)), he⟩

/-! ### The rule of ALM_N (R252) -/

theorem roleShown_congr (hs : t.sup = s.sup) (hp : t.pst = s.pst) : roleShown t = roleShown s := by
  unfold roleShown gate
  rw [hs, hp]

theorem announces_congr (hs : t.sup = s.sup) (hp : t.pst = s.pst) : announces t = announces s := by
  rw [announces, announces, inService_of_sup hs, roleShown_congr hs hp, hs]

theorem wantsAlmN_congr (h : Changes [.alm, .dsp] s t) (hp : t.alm.points = s.alm.points) (hc : t.alm.cells = s.alm.cells) :
    wantsAlmN t = wantsAlmN s := by
  simp only [wantsAlmN, announces_congr h.sup h.pst, points_of_img h.img, pnt, cellCfg, h.img, hp, hc]

/-! ### The evaluation -/

/-- Commands first, then every point of the image (R242, R246). -/
def evaluatedPoints (s : State) : State := forEach ((points s).map (·.1)) evalPoint (almCommands s)

/-- The end of an evaluation: ALM_N, its time, what MRAM keeps, the panel. -/
def concluded (us : BitVec 16) (s : State) : State :=
  alarmRefresh (keepPoints (onAlm (fun x => { x with almN := wantsAlmN s, evalLast := us, evalMax := max16 x.evalMax us }) s))

/-- The summaries of the cells come between (R253, R254). -/
def cellsSummarised (s : State) : State :=
  forEach (List.range s.img.cells.length).reverse (cellStep (becameActive (evaluatedPoints s)))
    (onAlm (fun x => { x with fresh := [] }) (evaluatedPoints s))

/-- The group alarms that began. -/
def groupsBegun (s : State) : List Nat := (List.range s.img.cells.length).reverse.filter
  (fun c => groupFresh (tget {} s.alm.cells c) (tget {} (cellsSummarised s).alm.cells c))

/-- And after them the call groups (R258). -/
def callsStepped (s : State) : State :=
  forEach (List.range 8) (callStep (becameActive (evaluatedPoints s)) (groupsBegun s)) (cellsSummarised s)

theorem alarmEvaluation_runs (us : BitVec 16) (h : almRuns s = true) : alarmEvaluation us s =
    if us.toNat > 10000 then selfDiag .alarmLate (concluded us (callsStepped s)) else concluded us (callsStepped s) := if_neg (by simp [h])

theorem alarmEvaluation_idle (us : BitVec 16) (h : almRuns s = false) : alarmEvaluation us s = s := if_pos (by simp [h])

/-- Of a point the summaries change the escalation counter alone. -/
theorem pnt_callsStepped : ∃ e, pnt (callsStepped s) n = { pnt (evaluatedPoints s) n with esc := e } := by
  have hcells : Called (onAlm (fun x => { x with fresh := [] }) (evaluatedPoints s)) (cellsSummarised s) := .each (cellStep_called _) _
  exact (hcells.trans (.each (callStep_called _ _) _)).points n

theorem callsStepped_changes : Changes [.alm, .pnw, .evr, .dsp, .sent] s (callsStepped s) := by
  have hpoints : Changes [.alm, .pnw, .evr, .dsp, .sent] s (evaluatedPoints s) :=
    .app ((forEach_evalPoint _).1.mono rfl) (almCommands_changes s)
  have hcells : Changes [.alm, .pnw, .evr, .dsp, .sent] (evaluatedPoints s) (cellsSummarised s) :=
    .app (.each (fun _ _ => (cellStep_changes _ _ _).mono rfl) .refl) ((onAlm_changes _ _).mono rfl)
  exact .app (.each (fun _ _ => (callStep_changes _ _ _ _).mono rfl) .refl) (hcells.app hpoints)

/-- An evaluation takes the commands, and its parts keep what its end sets. -/
theorem callsStepped_engine : AlmKept engineRest (onAlm (fun a => { a with cmds := [] }) s) (callsStepped s) := by
  have hpoints : AlmKept engineRest (almCommands s) (evaluatedPoints s) := (forEach_evalPoint _).2.1.mono fun _ => rfl
  have hcells : AlmKept engineRest (evaluatedPoints s) (cellsSummarised s) := .trans rfl (.each (fun c u => (cellStep_called _ c u).engineKept) _)
  exact (almCommands_engine s).trans (hpoints.trans (hcells.trans (.each (fun g u => (callStep_called _ _ g u).engineKept) _)))

theorem callsStepped_line : (callsStepped s).alm.cmds = [] ∧ (callsStepped s).alm.evalMax = s.alm.evalMax :=
  line_of_engineRest callsStepped_engine

theorem concluded_alm (us : BitVec 16) (s : State) : ∃ m, (concluded us s).alm =
    { s.alm with almN := wantsAlmN s, evalLast := us, evalMax := max16 s.alm.evalMax us, mram := m } := ⟨_, (alarmRefresh_changes _).alm⟩

theorem concluded_changes : Changes [.alm, .dsp] s (concluded us s) :=
  .app ((alarmRefresh_changes _).mono rfl) (.app ((keepPoints_changes _).mono rfl) ((onAlm_changes _ _).mono rfl))

theorem concluded_line : (concluded us s).alm.cmds = s.alm.cmds ∧ (concluded us s).alm.evalLast = us ∧
    (concluded us s).alm.evalMax = max16 s.alm.evalMax us := by
  obtain ⟨m, hm⟩ := concluded_alm us s
  simp only [hm, and_self]

/-- ALM_N is left at its rule. -/
theorem concluded_almN : (concluded us s).alm.almN = wantsAlmN (concluded us s) := by
  obtain ⟨m, hm⟩ := concluded_alm us s
  rw [wantsAlmN_congr concluded_changes (by rw [hm]) (by rw [hm]), hm]

@[simp] theorem pnt_concluded : pnt (concluded us s) n = pnt s n := by
  obtain ⟨m, hm⟩ := concluded_alm us s
  simp only [pnt, hm]

/-! ### What every evaluation leaves -/

theorem pnt_alarmEvaluation (h : almRuns s = true) : ∃ e, pnt (alarmEvaluation us s) n = { pnt (evaluatedPoints s) n with esc := e } := by
  rw [alarmEvaluation_runs us h]
  split
  · rw [pnt_of_faultRest (selfDiag_kept _ _), pnt_concluded]
    exact pnt_callsStepped
  · rw [pnt_concluded]
    exact pnt_callsStepped

/-- The commands in line are taken. -/
theorem alarmEvaluation_cmds (h : almRuns s = true) : (alarmEvaluation us s).alm.cmds = [] := by
  obtain ⟨hline, -, -⟩ := concluded_line (us := us) (s := callsStepped s)
  have hc : (concluded us (callsStepped s)).alm.cmds = [] := hline.trans callsStepped_line.1
  rw [alarmEvaluation_runs us h]
  split
  · exact (cmds_of_faultRest (selfDiag_kept _ _)).trans hc
  · exact hc

/-- Its time is noted, and ALM_N stands at its rule (R252). -/
theorem alarmEvaluation_inTime (h : almRuns s = true) (hu : us.toNat ≤ 10000) : (alarmEvaluation us s).alm.evalLast = us ∧
    (alarmEvaluation us s).alm.evalMax = max16 s.alm.evalMax us ∧ (alarmEvaluation us s).alm.almN = wantsAlmN (alarmEvaluation us s) := by
  obtain ⟨-, hlast, hmax⟩ := concluded_line (us := us) (s := callsStepped s)
  rw [alarmEvaluation_runs us h, if_neg (by omega)]
  exact ⟨hlast, hmax.trans (congrArg (max16 · us) callsStepped_line.2), concluded_almN⟩

/-- A longer one is the fault "alarm engine late" (R242). -/
theorem alarmEvaluation_late (h : almRuns s = true) (hu : 10000 < us.toNat) (hi : inService s = true) (hf : faultFailsStart s = false) :
    (alarmEvaluation us s).sup.mode = .safe := by
  have hc : Changes [.alm, .pnw, .evr, .dsp, .sent] s (concluded us (callsStepped s)) := (concluded_changes.mono rfl).app callsStepped_changes
  rw [alarmEvaluation_runs us h, if_pos hu]
  exact selfDiag_safe ((inService_of_sup hc.sup).trans hi) ((faultFailsStart_congr hc.boot hc.sup hc.tim).trans hf)

end Sys2Proof.Machine
end

section
/-! One point through an evaluation (R242 to R250), and the settled statement. -/

namespace Sys2Proof.Machine

variable {n : Nat} {us : BitVec 16} {s : State} {c : PointCfg} {r : Reading} {w : List Word} {bad cond : Bool} {p : Point}

/-- What becomes of a point `x` under a condition, its delays `d` served or not (R244, R248). -/
def PointServed (ret : Bool) (d : Nat × Nat) (cond : Bool) (x y : Point) : Prop :=
  (cond = true → x.onServed = false → x.onCnt < d.1 → y.st = x.st ∧ y.onCnt = x.onCnt + 1 ∧ y.onServed = false) ∧
  (cond = true → x.onServed = false → d.1 ≤ x.onCnt → y.onServed = true ∧ y.st = activeFrom x.st) ∧
  (cond = false → x.onServed = true → x.offCnt < d.2 → y.st = x.st ∧ y.offCnt = x.offCnt + 1 ∧ y.onServed = true) ∧
  (cond = false → x.onServed = true → d.2 ≤ x.offCnt → y.onServed = false ∧ y.st = returnedFrom ret x.st) ∧
  (cond = x.onServed → y.st = x.st)

theorem delayed_served (ret : Bool) (d : Nat × Nat) (h : p.suppr = false) : PointServed ret d p.cond p (delayed ret d p) := by
  refine ⟨fun hc hs hd => ?_, fun hc hs hd => ?_, fun hc hs hd => ?_, fun hc hs hd => ?_, delayed_still⟩
  · rw [delayed_onRuns hc hs hd]
    exact ⟨rfl, rfl, hs⟩
  · rw [delayed_onServed hc hs hd]
    exact ⟨(wentActive_same p).1, wentActive_st h⟩
  · rw [delayed_offRuns hc hs hd]
    exact ⟨rfl, rfl, hs⟩
  · rw [delayed_offServed hc hs hd]
    exact ⟨(wentBack_same ret p).1, wentBack_st h⟩

/-! ### The point in the evaluation -/

/-- What is read does not change by the engine's own work. -/
def SteadySource (s : State) (c : PointCfg) (r : Reading) : Prop :=
  ∀ u, Changes [.alm, .evr, .dsp, .sent] s u → readSrc u c.src = r ∧ refValue u c r = refValue s c r

section
variable (hr : almRuns s = true) (hl : ((points s).map (·.1)).Nodup) (hm : (n, c) ∈ points s)
include hr hl hm

/-- Each point is evaluated once, on the record that the commands left. -/
theorem pnt_evaluated (hc : Changes [.alm, .evr, .dsp, .sent] s (almCommands s)) : ∃ u e, Changes [.alm, .evr, .dsp, .sent] s u ∧
    pointCfg u n = c ∧ pnt u n = pnt (almCommands s) n ∧ pnt (alarmEvaluation us s) n = { pnt (evalPoint n u) n with esc := e } := by
  obtain ⟨u, hu, hsame, heval⟩ := forEach_evalPoint_once hl (List.mem_map_of_mem hm) (s := almCommands s)
  obtain ⟨e, he⟩ := pnt_alarmEvaluation hr (us := us) (n := n)
  have hcfg : pointCfg u n = c := (pointCfg_of_img (hu.app hc).img n).trans (by rw [pointCfg, iget_of_mem hl hm]; rfl)
  exact ⟨u, e, hu.app hc, hcfg, hsame, by rw [he, evaluatedPoints, heval]⟩

variable (hn : n < 4064) (hsrc : SteadySource s c r)
include hn hsrc

/-- A point on a good reading. -/
theorem pnt_evaluated_reading (hq : s.alm.cmds = []) (hcode : r.code = 0) (hp : plainCond c) (hb : c.block = none)
    (hheld : (r.tag && holdsTags s) = false) (hst : (pnt s n).st ≠ .shelved)
    (hx : (evalCond s c r (pnt s n).window (pnt s n).cond).getD (pnt s n).cond = cond) :
    ∃ w b e, pnt (alarmEvaluation us s) n =
      { delayed (ackretOf c) (delays s n) (restored (judged (pnt s n) r w b cond)) with shelfNew := false, esc := e } := by
  have hnone := almCommands_none hq
  obtain ⟨u, e, hu, hcfg, hsame, he⟩ := pnt_evaluated hr hl hm (us := us) (by rw [hnone]; exact .refl)
  rw [hnone] at hsame
  have href : ∀ v, Changes [.alm] u v → refValue v c r = refValue u c r := fun v hv =>
    (hsrc v ((hv.mono rfl).app hu)).2.trans (hsrc u hu).2.symm
  obtain ⟨w, b, hw⟩ := pnt_evalPoint_reading (x := cond) hn hcfg (hsrc u hu).1 hcode hp hb (by rw [holdsTags_of_changes hu]; exact hheld) href
    (by rw [hsame, evalCond_congr hp hu.cyc (hsrc u hu).2 (pnt s n).window]; exact hx) (by rw [hsame]; exact hst)
  exact ⟨w, b, e, by rw [he, hw, hsame, delays_of_changes hu]⟩

/-- A point that was not kept by a restart: its condition, its delays, its state (R242, R244, R248). -/
theorem alarmEvaluation_reading (hq : s.alm.cmds = []) (hcode : r.code = 0) (hp : plainCond c) (hb : c.block = none)
    (hheld : (r.tag && holdsTags s) = false) (hst : (pnt s n).st ≠ .shelved) (hk : (pnt s n).restore = false)
    (hx : (evalCond s c r (pnt s n).window (pnt s n).cond).getD (pnt s n).cond = cond) :
    (pnt (alarmEvaluation us s) n).cond = cond ∧ (pnt (alarmEvaluation us s) n).value = r.word ∧
      PointServed (ackretOf c) (delays s n) cond (pnt s n) (pnt (alarmEvaluation us s) n) := by
  obtain ⟨w, b, e, he⟩ := pnt_evaluated_reading hr hl hm hn hsrc (us := us) hq hcode hp hb hheld hst hx
  rw [restored_plain (p := judged (pnt s n) r w b cond) hk] at he
  obtain ⟨hcond, hvalue⟩ := delayed_same (ackretOf c) (delays s n) (judged (pnt s n) r w b cond)
  rw [he]
  exact ⟨hcond, hvalue, delayed_served (p := judged (pnt s n) r w b cond) _ _ rfl⟩

/-- A point that MRAM held as Returned, unacknowledged (R250). -/
theorem alarmEvaluation_kept (hq : s.alm.cmds = []) (hcode : r.code = 0) (hp : plainCond c) (hb : c.block = none)
    (hheld : (r.tag && holdsTags s) = false) (hst : (pnt s n).st = .normal) (hk : (pnt s n).restore = true) (hs : (pnt s n).onServed = false)
    (hx : (evalCond s c r (pnt s n).window (pnt s n).cond).getD (pnt s n).cond = cond) :
    (cond = false → (pnt (alarmEvaluation us s) n).st = .returnedUnack) ∧
      (cond = true → (pnt s n).onCnt < (delays s n).1 → (pnt (alarmEvaluation us s) n).st = .normal) := by
  obtain ⟨w, b, e, he⟩ := pnt_evaluated_reading hr hl hm hn hsrc (us := us) hq hcode hp hb hheld (by rw [hst]; decide) hx
  rw [restored_kept (p := judged (pnt s n) r w b cond) hk rfl hst] at he
  rw [he]
  refine ⟨fun hc => ?_, fun hc hd => ?_⟩
  · refine (delayed_still (hc.trans hs.symm)).trans ?_
    exact if_neg (by simp [judged, hc])
  · refine (congrArg Point.st (delayed_onRuns (p := { judged (pnt s n) r w b cond with restore := false, st := _ }) hc hs hd)).trans ?_
    exact if_pos hc

/-- A point whose source is suppressed, not used or without a value, on the record that the commands left (R243). -/
theorem pnt_evaluated_suppressing (hc : Changes [.alm, .evr, .dsp, .sent] s (almCommands s)) (hcode : suppressing r) :
    ∃ w e, pnt (alarmEvaluation us s) n = { pnt (almCommands s) n with value := r.word, window := w, suppr := true, esc := e } := by
  obtain ⟨u, e, hu, hcfg, hsame, he⟩ := pnt_evaluated hr hl hm (us := us) hc
  obtain ⟨w, hw⟩ := pnt_evalPoint_suppressing hn hcfg (hsrc u hu).1 hcode
  exact ⟨w, e, by rw [he, hw, hsame]⟩

theorem alarmEvaluation_suppressing (hq : s.alm.cmds = []) (hcode : suppressing r) : ∃ w e, pnt (alarmEvaluation us s) n =
    { pnt s n with value := r.word, window := w, suppr := true, esc := e } := by
  have hnone := almCommands_none hq
  have h := pnt_evaluated_suppressing hr hl hm hn hsrc (us := us) (by rw [hnone]; exact .refl) hcode
  rwa [hnone] at h

end

/-! ### An acknowledgement in line -/

/-- The state after an acknowledgement (R248). -/
def acknowledgedFrom (st : PointState) : PointState := if st = .activeUnack then .activeAck else if st = .returnedUnack then .normal else st

theorem ackPoint_st {s0 : State} (h : pnt s0 n = pnt s n) (hs : (pnt s n).suppr = false) :
    (pnt (ackPoint s0 n s) n).st = acknowledgedFrom (pnt s n).st := by
  unfold ackPoint
  rw [h]
  cases hst : (pnt s n).st with
  | activeUnack => exact (congrArg Point.st pnt_pointTo).trans (movedTo_st hs)
  | returnedUnack => exact (congrArg Point.st pnt_pointTo).trans (movedTo_st hs)
  | _ => exact hst

/-- A command is logged and then applied. -/
theorem almCommand_logged (x : AlmCmd) : ∃ vals, ∀ s0 s, almCommand s0 x s = almApply s0 x (post 0x0502 0 vals s) := ⟨_, fun _ _ => rfl⟩

/-- One acknowledgement in line acts on the state that stood before (R246, R257). -/
theorem almCommands_acknowledge {path : AlmPath} {seen : Option (List Nat)} (hn : n < 4096)
    (hq : s.alm.cmds = [{ path := path, word := BitVec.ofNat 32 (0x10000000 + n), seen := seen }]) (hseen : ∀ l, seen = some l → n ∈ l) :
    ∃ vals, almCommands s = ackPoint s n (post 0x0502 0 vals (onAlm (fun a => { a with cmds := [] }) s)) := by
  have hop : almOp (BitVec.ofNat 32 (0x10000000 + n)) = 1 := by
    rw [← almNumber_plain (op := 1) rfl, almOp_number (by decide) (by decide) hn]
  have htarget : almTarget (BitVec.ofNat 32 (0x10000000 + n)) = n := by
    rw [← almNumber_plain (op := 1) rfl, almTarget_number (by decide) (by decide) hn]
  have hall : seen.all (fun l => l.contains n) = true := by
    cases seen with
    | none => rfl
    | some l => simpa using hseen l rfl
  have happly : ∀ u, almApply s { path := path, word := BitVec.ofNat 32 (0x10000000 + n), seen := seen } u = ackPoint s n u := by
    intro u
    unfold almApply
    simp only [hop, htarget, hall, if_true]
  obtain ⟨vals, hlog⟩ := almCommand_logged { path := path, word := BitVec.ofNat 32 (0x10000000 + n), seen := seen }
  refine ⟨vals, ?_⟩
  rw [almCommands, hq]
  exact (hlog s _).trans (happly _)

theorem alarmEvaluation_acknowledge {path : AlmPath} {seen : Option (List Nat)} (hr : almRuns s = true)
    (hl : ((points s).map (·.1)).Nodup) (hm : (n, c) ∈ points s) (hn : n < 4064) (hsrc : SteadySource s c r)
    (hq : s.alm.cmds = [{ path := path, word := BitVec.ofNat 32 (0x10000000 + n), seen := seen }]) (hseen : ∀ l, seen = some l → n ∈ l)
    (hs : (pnt s n).suppr = false) (hcode : suppressing r) :
    (pnt (alarmEvaluation us s) n).st = acknowledgedFrom (pnt s n).st := by
  obtain ⟨vals, hv⟩ := almCommands_acknowledge (by omega) hq hseen
  have hpnt : pnt (post 0x0502 0 vals (onAlm (fun a => { a with cmds := [] }) s)) n = pnt s n := pnt_post
  have hpost : Changes [.alm, .evr, .dsp, .sent] s (post 0x0502 0 vals (onAlm (fun a => { a with cmds := [] }) s)) :=
    .app ((post_changes _ _ _ _).mono rfl) ((onAlm_changes _ _).mono rfl)
  obtain ⟨w, e, he⟩ := pnt_evaluated_suppressing hr hl hm hn hsrc (us := us) (hv ▸ ackPoint_alone.changes.app hpost) hcode
  rw [he, hv]
  exact (ackPoint_st hpnt.symm (by rw [hpnt]; exact hs)).trans (by rw [hpnt])

end Sys2Proof.Machine

open Sys2Proof Sys2Proof.Machine

/-- Settles O40: commands first, then each point once on its own record, then the summaries, and ALM_N by what stands after them. -/
theorem alarmEvaluation : Obligations.AlarmEvaluation := by
  unfold Obligations.AlarmEvaluation
  refine ⟨fun us s h => congrArg Host.Outcome.next (alarmEvaluation_idle us h), fun us s hr => ⟨_, rfl, alarmEvaluation_cmds hr,
    alarmEvaluation_inTime hr, alarmEvaluation_late hr, fun hl n c hm hn => ?_⟩, fun s c r win prev => evalCond_beyond⟩
  intro x y r cond d hsrc
  refine ⟨fun hq hcode hp hb hheld _ hst _ hk => ?_, fun hq hcode => ?_, fun hq hcode hp hb hheld _ hst hk hserved => ?_,
    fun path seen hq hseen hs hcode => ?_⟩
  · exact alarmEvaluation_reading hr hl hm hn hsrc hq hcode hp hb hheld hst hk rfl
  · obtain ⟨w, e, he⟩ := alarmEvaluation_suppressing hr hl hm hn hsrc (us := us) hq hcode
    have hy : y = { x with value := r.word, window := w, suppr := true, esc := e } := he
    simp only [hy, and_self]
  · exact alarmEvaluation_kept hr hl hm hn hsrc hq hcode hp hb hheld hst hk hserved rfl
  · exact alarmEvaluation_acknowledge hr hl hm hn hsrc hq hseen hs hcode
end
